-- ==== Sys2Proof/Word.lean ====
section
/-!
DEFINITION. The word types of the DN7: what the manual treats as bits. Registers are 32 bits wide (R6), memories are
byte addressed, a skein line is 256 bytes (R89), a Trolum instruction is 128 bits (R85).
-/

namespace Sys2Proof

/-- One byte of a memory, a message or a log entry. -/
abbrev Byte := BitVec 8

/-- A 32-bit register, and an FP32 or INT32 element as its bits. -/
abbrev Word := BitVec 32

/-- R89. The contents of one skein line, or of 256 bytes of a tier: byte `i` is bits `8 * i + 7 .. 8 * i` (R5). -/
abbrev LineData := BitVec 2048

/-- R85. One Trolum instruction word. -/
abbrev TWord := BitVec 128

end Sys2Proof
end

