-- ==== Sys2Proof/Config.lean ====
section
/-!
DEFINITION. What the spec leaves open: constants of one module, values the manual says result without saying which,
and the published functions it names without defining. Every one is opaque, so no proof can rest on a value.
-/

namespace Sys2Proof.Config

/-- Free value number `n` of a run: a value the spec leaves open, fresh at each use (assumption 2). -/
opaque freeValue : Nat → BitVec 256

/-- SHA-256 of a byte string, named by R72, R628 and others and defined outside the manual (assumption 3). -/
opaque sha256 : List Byte → BitVec 256

/-- R471. SHA-384 of a byte string, defined outside the manual (assumption 3). -/
opaque sha384 : List Byte → BitVec 384

/-- R466, R476. The digest of the image of a class (0 RTP, 1 Firmware Complex, 2 flash controller, 3 link PHY) in bank A (0)
or B (1), per module. -/
opaque imageDigest : Nat → Nat → BitVec 256

/-- R467, R494. The SVN of the image of a class in bank A or B, per module. -/
opaque imageSvn : Nat → Nat → BitVec 16

/-- R467. The fused SVN of an image class of a new module, per module. -/
opaque fusedSvn : Nat → BitVec 16

/-- R468. The device certificate chain of slot 0, per module. -/
opaque certificates : List Byte

/-- R478. HKDF-SHA-384 of a 256-bit key, a NONCE and an info string: the key of a blob, defined outside the manual
(assumption 3). -/
opaque hkdf : BitVec 256 → Nat → List Byte → BitVec 256

/-- R478. AES-256-GCM: the sealed bytes and their 16-byte tag of a key, a 96-bit nonce, associated data and plaintext. -/
opaque gcmSeal : BitVec 256 → Nat → List Byte → List Byte → List Byte × BitVec 128

/-- R479. AES-256-GCM: the plaintext of sealed bytes, or nothing where the tag fails. -/
opaque gcmOpen : BitVec 256 → Nat → List Byte → List Byte → BitVec 128 → Option (List Byte)

/-- R528. GLB_SERIAL: the module's serial number, per module. -/
opaque serial : BitVec 64

/-- R528. GLB_FW.VERSION: major, minor and patch of the running Firmware Complex image, per image. -/
opaque fwVersion : BitVec 24

/-- R553. GLB_FW_BANKS.ACTIVE_B: the bank active for each image class, per module. -/
opaque activeBanks : BitVec 4

/-- R601. GLB_CASTON_MS: milliseconds from input at 48 V to READY, per cast-on. -/
opaque castonMs : BitVec 16

/-- R266. FEXP on a finite argument of magnitude not zero: a fixed function, within 1 ulp (assumption 5). -/
opaque fexp : Word → Word
/-- R266. FEXP2 on a non-integral finite argument: a fixed function, within 1 ulp. -/
opaque fexp2 : Word → Word
/-- R266. FLOG on a positive finite argument: a fixed function, within 1 ulp. -/
opaque flog : Word → Word
/-- R266. FLOG2 on a positive finite argument: a fixed function, within 1 ulp. -/
opaque flog2 : Word → Word
/-- R266. FRSQ on a positive finite argument: a fixed function, within 1 ulp. -/
opaque frsq : Word → Word
/-- R266. FTANH on a finite argument: a fixed function, within 2 ulp. -/
opaque ftanh : Word → Word
/-- R266. FSIGM on a finite argument: a fixed function, within 2 ulp. -/
opaque fsigm : Word → Word
/-- R266. FERF on a finite argument: a fixed function, within 2 ulp. -/
opaque ferf : Word → Word
/-- R266. FSIN on a finite argument: a fixed function, within 2 ulp up to 65,536 in magnitude. -/
opaque fsin : Word → Word
/-- R266. FCOS on a finite argument: a fixed function, within 2 ulp up to 65,536 in magnitude. -/
opaque fcos : Word → Word

/-- R317. Coefficient `k` (0 to 2) of segment `seg` of octave `oct` of the normal table sampler, fixed in ROM. -/
opaque normalCoef : Nat → Nat → Nat → Word

end Sys2Proof.Config
end

