-- ==== Sys2Proof/Machine/Bits.lean ====
section
/-!
DEFINITION. Bit fields and byte order (R5): all multi-byte fields are little-endian, and a field's bit 0 is the least
significant bit of its lowest-addressed byte.
-/

namespace Sys2Proof.Machine

/-- Bits `lo + w - 1 .. lo` of `n`. -/
def bits (n lo w : Nat) : Nat := n / 2 ^ lo % 2 ^ w

/-- Bit `i` of `n`. -/
def bit (n i : Nat) : Bool := n / 2 ^ i % 2 == 1

/-- `n` with bit `i` set. -/
def setBit (n i : Nat) : Nat := if bit n i then n else n + 2 ^ i

/-- `n` with bit `i` clear. -/
def clearBit (n i : Nat) : Nat := if bit n i then n - 2 ^ i else n

/-- The number of set bits among bits `k - 1 .. 0` of `n`. -/
def popCount (n : Nat) : Nat → Nat
  | 0 => 0
  | k + 1 => (if bit n k then 1 else 0) + popCount n k

/-- The positions of the set bits of `n` below `k`, ascending. -/
def setBits (n k : Nat) : List Nat := (List.range k).filter (bit n)

/-- 1 or 0. -/
def b2n (b : Bool) : Nat := if b then 1 else 0

/-- `n` divided by `d`, rounded up. -/
def ceilDiv (n d : Nat) : Nat := (n + d - 1) / d

/-- `x` before the first element of a sorted list that is not less than it. -/
def insertBy {α : Type} (le : α → α → Bool) (x : α) : List α → List α
  | [] => [x]
  | y :: l => if le x y then x :: y :: l else y :: insertBy le x l

/-- A list in order; elements that are equal in it keep their order. -/
def sortBy {α : Type} (l : List α) (le : α → α → Bool) : List α := l.foldr (insertBy le) []

/-- The little-endian number a byte string spells (R5). -/
def leNat : List Byte → Nat
  | [] => 0
  | b :: t => b.toNat + 256 * leNat t

/-- The `k` lowest bytes of `n`, lowest first (R5). -/
def leBytes (n : Nat) : Nat → List Byte
  | 0 => []
  | k + 1 => BitVec.ofNat 8 n :: leBytes (n / 256) k

/-- The `k` bytes of `l` from byte `i` on. -/
def slice {α : Type} (l : List α) (i k : Nat) : List α := (l.drop i).take k

/-- The little-endian field of `k` bytes at byte `i` of a structure. -/
def leField (l : List Byte) (i k : Nat) : Nat := leNat (slice l i k)

/-- A line as the number its 256 bytes spell. -/
def lineOfBytes (l : List Byte) : LineData := BitVec.ofNat 2048 (leNat l)

/-- The 256 bytes of a line, lowest address first. -/
def bytesOfLine (d : LineData) : List Byte := leBytes d.toNat 256

/-- Element `i` of width `w` bits of a string of lines whose number is `n`. -/
def elem (n w i : Nat) : Nat := bits n (w * i) w

/-- The number whose elements of width `w` bits are `l`, first lowest. -/
def packElems (w : Nat) : List Nat → Nat
  | [] => 0
  | e :: t => e % 2 ^ w + 2 ^ w * packElems w t

/-- Lines as one number: line `i` is bits `2048 * i + 2047 .. 2048 * i`. -/
def linesNat : List LineData → Nat
  | [] => 0
  | d :: t => d.toNat + 2 ^ 2048 * linesNat t

/-- The first `k` lines of a number. -/
def natLines (n : Nat) : Nat → List LineData
  | 0 => []
  | k + 1 => BitVec.ofNat 2048 n :: natLines (n / 2 ^ 2048) k

end Sys2Proof.Machine
end

