-- ==== Sys2Proof/Machine/Float.lean ====
section
/-!
DEFINITION. Exact values and the FP32 arithmetic of the stages: a value is NaN, an infinity or a signed dyadic
`m * 2 ^ e`; an operation forms the exact result and rounds once (R176, R177, R190, R191, R196, R266, R282).
-/

namespace Sys2Proof.Machine

/-- A decoded value: NaN, an infinity of either sign, or `± m * 2 ^ e` (a zero keeps its sign, R177). -/
inductive Val where
  | nan
  | inf (neg : Bool)
  | fin (neg : Bool) (m : Nat) (e : Int)
  deriving DecidableEq, Repr

/-- A binary floating format: exponent and mantissa bits, bias, the code of the largest finite magnitude, and the
codes of the infinity and of the canonical NaN where the format has them (R174, R176). -/
structure FloatFmt where
  exp : Nat
  man : Nat
  bias : Int
  maxCode : Nat
  infCode : Option Nat
  nanCode : Option Nat
  deriving DecidableEq, Repr

/-- R174, code 0x00. -/
def fmtFp32 : FloatFmt := ⟨8, 23, 127, 0x7F7FFFFF, some 0x7F800000, some 0x7FC00000⟩
/-- R174, code 0x01. -/
def fmtBf16 : FloatFmt := ⟨8, 7, 127, 0x7F7F, some 0x7F80, some 0x7FC0⟩
/-- R174, code 0x02. -/
def fmtFp16 : FloatFmt := ⟨5, 10, 15, 0x7BFF, some 0x7C00, some 0x7E00⟩
/-- R174, code 0x03. -/
def fmtE4m3 : FloatFmt := ⟨4, 3, 7, 0x7E, none, some 0x7F⟩
/-- R174, code 0x04. -/
def fmtE5m2 : FloatFmt := ⟨5, 2, 15, 0x7B, some 0x7C, some 0x7E⟩
/-- R174, code 0x05. -/
def fmtE3m2 : FloatFmt := ⟨3, 2, 3, 0x1F, none, none⟩
/-- R174, code 0x06. -/
def fmtE2m3 : FloatFmt := ⟨2, 3, 1, 0x1F, none, none⟩
/-- R174, code 0x07. -/
def fmtE2m1 : FloatFmt := ⟨2, 1, 1, 0x7, none, none⟩

/-- The number of bits of `n`. -/
def bitLen (n : Nat) : Nat := if n = 0 then 0 else Nat.log2 n + 1

/-- The exponent of the last place of a format's subnormals. -/
def FloatFmt.ulpMin (f : FloatFmt) : Int := 1 - f.bias - f.man

/-- The sign bit's position in a format's code. -/
def FloatFmt.signBit (f : FloatFmt) : Nat := f.exp + f.man

/-- The value of a magnitude code (sign bit removed) with sign `neg`. -/
def FloatFmt.decodeMag (f : FloatFmt) (neg : Bool) (c : Nat) : Val :=
  if c ≤ f.maxCode then
    if c / 2 ^ f.man = 0 then .fin neg c f.ulpMin
    else .fin neg (2 ^ f.man + c % 2 ^ f.man) (f.ulpMin + (c / 2 ^ f.man : Nat) - 1)
  else if f.infCode = some c then .inf neg
  else .nan

/-- The value of a code of a signed format. -/
def FloatFmt.decode (f : FloatFmt) (c : Nat) : Val :=
  f.decodeMag (bit c f.signBit) (c % 2 ^ f.signBit)

/-- How a magnitude lying between two neighbours is rounded: to even (R191), ties away from zero (R190), up to the
next magnitude (the scale rule of R185), down (truncation), or up when `u` is below the fraction (R193). -/
inductive RMode where
  | even | away | up | down
  | stoch (u : Nat)
  deriving DecidableEq, Repr

/-- Whether magnitude `n + rem / den` (`rem < den`) rounds to `n + 1`. -/
def RMode.roundsUp (r : RMode) (n rem den : Nat) : Bool :=
  match r with
  | .even => 2 * rem > den || (2 * rem == den && n % 2 == 1)
  | .away => rem != 0 && 2 * rem ≥ den
  | .up => rem != 0
  | .down => false
  | .stoch u => u < rem * 2 ^ 32 / den

/-- Round `m * 2 ^ e` to `p` significant bits with no place below `2 ^ qmin`: the result is `n * 2 ^ q`. -/
def roundDy (r : RMode) (p : Nat) (qmin : Int) (m : Nat) (e : Int) : Nat × Int :=
  let q := max (e + bitLen m - p) qmin
  if q ≤ e then (m * 2 ^ (e - q).toNat, q)
  else
    let den := 2 ^ (q - e).toNat
    let n := m / den
    (if r.roundsUp n (m % den) den then n + 1 else n, q)

/-- The magnitude code of `m * 2 ^ e` rounded into `f`; it may exceed `f.maxCode`. -/
def FloatFmt.roundCode (f : FloatFmt) (r : RMode) (m : Nat) (e : Int) : Nat :=
  if m = 0 then 0
  else
    let nq := roundDy r (f.man + 1) f.ulpMin m e
    (nq.2 - f.ulpMin).toNat * 2 ^ f.man + nq.1

/-- The sign bit of a code. -/
def FloatFmt.signOf (f : FloatFmt) (neg : Bool) : Nat := if neg then 2 ^ f.signBit else 0

/-- R191. An exact value as FP32: ties to even, overflow to an infinity, a NaN canonical (R176). -/
def Val.toF32 (v : Val) : Word :=
  match v with
  | .nan => 0x7FC00000#32
  | .inf neg => BitVec.ofNat 32 (fmtFp32.signOf neg + 0x7F800000)
  | .fin neg m e =>
    BitVec.ofNat 32 (fmtFp32.signOf neg + min (fmtFp32.roundCode .even m e) 0x7F800000)

/-- R282. An exact value as FP32 with ties away from zero; overflow to an infinity. -/
def Val.toF32Away (v : Val) : Word :=
  match v with
  | .fin neg m e =>
    BitVec.ofNat 32 (fmtFp32.signOf neg + min (fmtFp32.roundCode .away m e) 0x7F800000)
  | v => v.toF32

/-- The value of FP32 bits. -/
def ofF32 (w : Word) : Val := fmtFp32.decode w.toNat

/-- A signed dyadic from an integer numerator; zero takes sign `zneg`. -/
def Val.ofInt (zneg : Bool) (i : Int) (e : Int) : Val :=
  if i = 0 then .fin zneg 0 e else .fin (i < 0) i.natAbs e

/-- The integer numerator of `± m * 2 ^ e` at exponent `q ≤ e`. -/
def scaledInt (neg : Bool) (m : Nat) (e q : Int) : Int :=
  let k : Int := (m * 2 ^ (e - q).toNat : Nat)
  if neg then -k else k

/-- Exact addition; ∞ − ∞ is NaN; a zero sum is negative only where both operands are. -/
def Val.add (a b : Val) : Val :=
  match a, b with
  | .nan, _ => .nan
  | _, .nan => .nan
  | .inf x, .inf y => if x = y then .inf x else .nan
  | .inf x, _ => .inf x
  | _, .inf y => .inf y
  | .fin x m e, .fin y n f =>
    let q := min e f
    Val.ofInt (x && y) (scaledInt x m e q + scaledInt y n f q) q

/-- Sign change; NaN stays NaN. -/
def Val.neg (a : Val) : Val :=
  match a with
  | .nan => .nan
  | .inf x => .inf (!x)
  | .fin x m e => .fin (!x) m e

/-- Exact multiplication; 0 × ∞ is NaN (R196). -/
def Val.mul (a b : Val) : Val :=
  match a, b with
  | .nan, _ => .nan
  | _, .nan => .nan
  | .inf x, .inf y => .inf (x != y)
  | .inf x, .fin y n _ => if n = 0 then .nan else .inf (x != y)
  | .fin x m _, .inf y => if m = 0 then .nan else .inf (x != y)
  | .fin x m e, .fin y n f => .fin (x != y) (m * n) (e + f)

/-- Exact sum of a list, in order; the empty sum is +0. -/
def Val.sum (l : List Val) : Val :=
  match l with
  | [] => .fin false 0 0
  | v :: t => t.foldl Val.add v

/-- A quotient of magnitudes as a dyadic with 64 or more significant bits and a sticky last bit, so that rounding it to
at most 60 bits rounds the exact quotient. -/
def quotDy (m : Nat) (e : Int) (n : Nat) (f : Int) : Nat × Int :=
  let k := 64 + bitLen n
  let num := m * 2 ^ k
  (2 * (num / n) + (if num % n = 0 then 0 else 1), e - f - k - 1)

/-- Exact quotient, rounding deferred: the sticky dyadic of `quotDy`; x / 0 is an infinity, 0 / 0 and ∞ / ∞ NaN. -/
def Val.div (a b : Val) : Val :=
  match a, b with
  | .nan, _ => .nan
  | _, .nan => .nan
  | .inf _, .inf _ => .nan
  | .inf x, .fin y _ _ => .inf (x != y)
  | .fin x _ _, .inf y => .fin (x != y) 0 0
  | .fin x m e, .fin y n f =>
    if n = 0 then if m = 0 then .nan else .inf (x != y)
    else if m = 0 then .fin (x != y) 0 0
    else .fin (x != y) (quotDy m e n f).1 (quotDy m e n f).2

/-- Integer square root of `n`, one bit at a time from bit `k - 1` down, on top of `r`. -/
def isqrtFrom (n : Nat) : Nat → Nat → Nat
  | 0, r => r
  | k + 1, r => if (r + 2 ^ k) * (r + 2 ^ k) ≤ n then isqrtFrom n k (r + 2 ^ k) else isqrtFrom n k r

/-- Square root of a magnitude as a dyadic with a sticky last bit. -/
def sqrtDy (m : Nat) (e : Int) : Nat × Int :=
  let s : Nat := 64 + (if (e % 2 : Int) = 0 then 0 else 1)
  let n := m * 2 ^ s
  let r := isqrtFrom n (bitLen n / 2 + 1) 0
  (2 * r + (if r * r = n then 0 else 1), (e - s) / 2 - 1)

/-- Square root, rounding deferred; of a negative value NaN, of ±0 itself. -/
def Val.sqrt (a : Val) : Val :=
  match a with
  | .nan => .nan
  | .inf neg => if neg then .nan else .inf false
  | .fin neg m e =>
    if m = 0 then .fin neg 0 e
    else if neg then .nan
    else .fin false (sqrtDy m e).1 (sqrtDy m e).2

/-- R191. FP32 addition. -/
def fAdd (a b : Word) : Word := ((ofF32 a).add (ofF32 b)).toF32
/-- R191. FP32 subtraction. -/
def fSub (a b : Word) : Word := ((ofF32 a).add (ofF32 b).neg).toF32
/-- R191. FP32 multiplication. -/
def fMul (a b : Word) : Word := ((ofF32 a).mul (ofF32 b)).toF32
/-- R266. FP32 multiply-add with one rounding. -/
def fFma (a b c : Word) : Word := (((ofF32 a).mul (ofF32 b)).add (ofF32 c)).toF32
/-- R266. FP32 division, correctly rounded, ties to even. -/
def fDiv (a b : Word) : Word := ((ofF32 a).div (ofF32 b)).toF32
/-- R282. FP32 division, correctly rounded, ties away from zero. -/
def fDivAway (a b : Word) : Word := ((ofF32 a).div (ofF32 b)).toF32Away
/-- R266. FP32 square root, correctly rounded. -/
def fSqrt (a : Word) : Word := (ofF32 a).sqrt.toF32

/-- The canonical FP32 NaN (R176). -/
def qnan : Word := 0x7FC00000#32
/-- FP32 1.0. -/
def f32One : Word := 0x3F800000#32
/-- FP32 −∞. -/
def f32NegInf : Word := 0xFF800000#32
/-- FP32 +∞. -/
def f32Inf : Word := 0x7F800000#32

/-- Whether FP32 bits are a NaN. -/
def isNan (w : Word) : Bool := ofF32 w == .nan

/-- Whether FP32 bits are an infinity or a NaN. -/
def isNonFinite (w : Word) : Bool :=
  match ofF32 w with
  | .fin _ _ _ => false
  | _ => true

/-- A total order of non-NaN FP32 bits in which −0 is below +0 (R266, R275). -/
def f32Key (w : Word) : Int :=
  if bit w.toNat 31 then -1 - ((w.toNat % 2 ^ 31 : Nat) : Int) else ((w.toNat % 2 ^ 31 : Nat) : Int)

/-- The IEEE order of non-NaN FP32 bits, in which −0 equals +0. -/
def f32Ord (w : Word) : Int :=
  if bit w.toNat 31 then - ((w.toNat % 2 ^ 31 : Nat) : Int) else ((w.toNat % 2 ^ 31 : Nat) : Int)

/-- R266. FMIN: the lesser, NaN for a NaN operand, −0 below +0. -/
def fMin (a b : Word) : Word :=
  if isNan a || isNan b then qnan else if f32Key a ≤ f32Key b then a else b
/-- R266. FMAX. -/
def fMax (a b : Word) : Word :=
  if isNan a || isNan b then qnan else if f32Key b ≤ f32Key a then a else b
/-- R266. FABS; a NaN is made canonical. -/
def fAbs (a : Word) : Word := if isNan a then qnan else a &&& 0x7FFFFFFF#32
/-- R266. FNEG. -/
def fNeg (a : Word) : Word := if isNan a then qnan else a ^^^ 0x80000000#32
/-- R266. FLT; false for a NaN operand. -/
def fLt (a b : Word) : Bool := !isNan a && !isNan b && f32Ord a < f32Ord b
/-- R266. FLE. -/
def fLe (a b : Word) : Bool := !isNan a && !isNan b && f32Ord a ≤ f32Ord b
/-- R266. FEQ. -/
def fEq (a b : Word) : Bool := !isNan a && !isNan b && f32Ord a == f32Ord b

/-- Round to an integral value, as a signed integer; `r` decides ties, `floor` rounds towards −∞. -/
def Val.toIntRound (floor : Bool) (neg : Bool) (m : Nat) (e : Int) : Int :=
  if 0 ≤ e then scaledInt neg m e 0
  else
    let den := 2 ^ (-e).toNat
    let n := m / den
    let up := if floor then neg && m % den != 0 else RMode.away.roundsUp n (m % den) den
    let k : Int := ((if up then n + 1 else n : Nat) : Int)
    if neg then -k else k

/-- R263. FFLOOR and FRND: an integral FP32 value; a zero result keeps the operand's sign. -/
def fIntegral (floor : Bool) (a : Word) : Word :=
  match ofF32 a with
  | .fin neg m e => (Val.ofInt neg (Val.toIntRound floor neg m e) 0).toF32
  | v => v.toF32

/-- An FP32 value from an integer, ties away from zero (R190, R198). -/
def f32OfInt (i : Int) : Word := (Val.ofInt false i 0).toF32Away

end Sys2Proof.Machine
end

