-- ==== Sys2Proof/Machine/Formats.lean ====
section
/-!
DEFINITION. The eighteen formats (R174): their codes, widths and decoded values, and the one conversion rule by which
every value is narrowed, with its saturation and non-finite flags (R190, R194 to R198).
-/

namespace Sys2Proof.Machine

/-- R174. The eighteen FMT codes. -/
inductive Fmt where
  | fp32 | bf16 | fp16 | e4m3 | e5m2 | e3m2 | e2m3 | e2m1
  | int32 | int16 | int8 | uint8 | int4 | uint4 | e8m0 | ue4m3 | mxfp4 | mxfp8
  deriving DecidableEq, Repr

/-- R174. The format a 5-bit FMT code names; codes 0x12 to 0x1F are reserved (R10). -/
def Fmt.ofCode (c : Nat) : Option Fmt :=
  match c with
  | 0x00 => some .fp32 | 0x01 => some .bf16 | 0x02 => some .fp16 | 0x03 => some .e4m3
  | 0x04 => some .e5m2 | 0x05 => some .e3m2 | 0x06 => some .e2m3 | 0x07 => some .e2m1
  | 0x08 => some .int32 | 0x09 => some .int16 | 0x0A => some .int8 | 0x0B => some .uint8
  | 0x0C => some .int4 | 0x0D => some .uint4 | 0x0E => some .e8m0 | 0x0F => some .ue4m3
  | 0x10 => some .mxfp4 | 0x11 => some .mxfp8
  | _ => none

/-- R174. The FMT code of a format. -/
def Fmt.code (f : Fmt) : Nat :=
  match f with
  | .fp32 => 0x00 | .bf16 => 0x01 | .fp16 => 0x02 | .e4m3 => 0x03 | .e5m2 => 0x04 | .e3m2 => 0x05
  | .e2m3 => 0x06 | .e2m1 => 0x07 | .int32 => 0x08 | .int16 => 0x09 | .int8 => 0x0A | .uint8 => 0x0B
  | .int4 => 0x0C | .uint4 => 0x0D | .e8m0 => 0x0E | .ue4m3 => 0x0F | .mxfp4 => 0x10 | .mxfp8 => 0x11

/-- R174. Element width in bits (of an MX format, its elements'). -/
def Fmt.width (f : Fmt) : Nat :=
  match f with
  | .fp32 => 32 | .bf16 => 16 | .fp16 => 16 | .e4m3 => 8 | .e5m2 => 8 | .e3m2 => 6 | .e2m3 => 6 | .e2m1 => 4
  | .int32 => 32 | .int16 => 16 | .int8 => 8 | .uint8 => 8 | .int4 => 4 | .uint4 => 4 | .e8m0 => 8 | .ue4m3 => 8
  | .mxfp4 => 4 | .mxfp8 => 8

/-- Whether a format is one of the two MX block formats (R179). -/
def Fmt.isMx (f : Fmt) : Bool := f == .mxfp4 || f == .mxfp8

/-- R182. Whether a format is an unsigned integer format with a zero point. -/
def Fmt.isUint (f : Fmt) : Bool := f == .uint4 || f == .uint8

/-- The signed floating format of an element code, MX formats by their elements (R179). -/
def Fmt.float? (f : Fmt) : Option FloatFmt :=
  match f with
  | .fp32 => some fmtFp32 | .bf16 => some fmtBf16 | .fp16 => some fmtFp16 | .e4m3 => some fmtE4m3
  | .e5m2 => some fmtE5m2 | .e3m2 => some fmtE3m2 | .e2m3 => some fmtE2m3 | .e2m1 => some fmtE2m1
  | .mxfp4 => some fmtE2m1 | .mxfp8 => some fmtE4m3
  | _ => none

/-- Two's complement reading of the `w` low bits of `c`. -/
def signedOf (w c : Nat) : Int :=
  if bit c (w - 1) then ((c % 2 ^ w : Nat) : Int) - 2 ^ w else ((c % 2 ^ w : Nat) : Int)

/-- Two's complement code of `i` in `w` bits. -/
def codeOfInt (w : Nat) (i : Int) : Nat := (i % 2 ^ w).toNat

/-- R174, R178, R198. The value of an element code. -/
def Fmt.decode (f : Fmt) (c : Nat) : Val :=
  match f with
  | .int32 => Val.ofInt false (signedOf 32 c) 0
  | .int16 => Val.ofInt false (signedOf 16 c) 0
  | .int8 => Val.ofInt false (signedOf 8 c) 0
  | .int4 => Val.ofInt false (signedOf 4 c) 0
  | .uint8 => .fin false (c % 256) 0
  | .uint4 => .fin false (c % 16) 0
  | .e8m0 => if c % 256 = 255 then .nan else .fin false 1 ((c % 256 : Nat) - 127 : Int)
  | .ue4m3 => fmtE4m3.decodeMag false (c % 128)
  | .fp32 => fmtFp32.decode c
  | .bf16 => fmtBf16.decode c
  | .fp16 => fmtFp16.decode c
  | .e4m3 => fmtE4m3.decode c
  | .e5m2 => fmtE5m2.decode c
  | .e3m2 => fmtE3m2.decode c
  | .e2m3 => fmtE2m3.decode c
  | .e2m1 => fmtE2m1.decode c
  | .mxfp4 => fmtE2m1.decode c
  | .mxfp8 => fmtE4m3.decode c

/-- The outcome of one conversion: the code, whether the element counts as saturated (R194), and whether it counts
as non-finite (R195, R196). -/
structure Conv where
  code : Nat
  sat : Bool
  nf : Bool
  deriving DecidableEq, Repr

/-- R194 to R196. Conversion into a signed floating format. -/
def FloatFmt.convert (f : FloatFmt) (r : RMode) (v : Val) : Conv :=
  match v with
  | .nan => ⟨f.nanCode.getD f.maxCode, false, true⟩
  | .inf neg => ⟨f.signOf neg + f.infCode.getD f.maxCode, false, true⟩
  | .fin neg m e =>
    if f.roundCode .up m e > f.maxCode then ⟨f.signOf neg + f.maxCode, true, false⟩
    else ⟨f.signOf neg + f.roundCode r m e, false, false⟩

/-- The magnitude of `m * 2 ^ e` rounded to an integer. -/
def roundMag (r : RMode) (m : Nat) (e : Int) : Nat :=
  if 0 ≤ e then m * 2 ^ e.toNat
  else
    let den := 2 ^ (-e).toNat
    if r.roundsUp (m / den) (m % den) den then m / den + 1 else m / den

/-- R194 to R196. Conversion into two's complement of `w` bits. -/
def convertInt (w : Nat) (r : RMode) (v : Val) : Conv :=
  let top := 2 ^ (w - 1)
  match v with
  | .nan => ⟨top - 1, false, true⟩
  | .inf neg => ⟨if neg then top else top - 1, false, true⟩
  | .fin neg m e =>
    if neg then
      if roundMag .up m e > top then ⟨top, true, false⟩
      else ⟨codeOfInt w (- (roundMag r m e : Int)), false, false⟩
    else
      if roundMag .up m e > top - 1 then ⟨top - 1, true, false⟩
      else ⟨roundMag r m e, false, false⟩

/-- R194 to R196. Conversion into an unsigned integer of `w` bits. -/
def convertUint (w : Nat) (r : RMode) (v : Val) : Conv :=
  let top := 2 ^ w - 1
  match v with
  | .nan => ⟨top, false, true⟩
  | .inf neg => ⟨if neg then 0 else top, false, true⟩
  | .fin neg m e =>
    if neg then ⟨0, roundMag r m e != 0, false⟩
    else if roundMag .up m e > top then ⟨top, true, false⟩
    else ⟨roundMag r m e, false, false⟩

/-- R194 to R196, R198. Conversion into UE4M3. -/
def convertUe4m3 (r : RMode) (v : Val) : Conv :=
  match v with
  | .nan => ⟨0x7F, false, true⟩
  | .inf neg => ⟨if neg then 0 else 0x7E, false, true⟩
  | .fin neg m e =>
    if neg then ⟨0, fmtE4m3.roundCode r m e != 0, false⟩
    else fmtE4m3.convert r (.fin false m e)

/-- The binary exponent of `m * 2 ^ e`: the floor of its base-2 logarithm, for `m` not zero. -/
def log2Floor (m : Nat) (e : Int) : Int := e + bitLen m - 1

/-- R194, R195, R198. Conversion into E8M0: the nearest power of two, a midpoint of 1.5 going up. -/
def convertE8m0 (v : Val) : Conv :=
  match v with
  | .nan => ⟨0xFF, false, true⟩
  | .inf neg => ⟨if neg then 0 else 0xFE, false, true⟩
  | .fin neg m e =>
    if neg || m = 0 then ⟨0, true, false⟩
    else
      let k := log2Floor m e
      let k' := if 2 * m ≥ 3 * 2 ^ (bitLen m - 1) then k + 1 else k
      if k' < -127 then ⟨0, true, false⟩
      else if k' > 127 then ⟨0xFE, true, false⟩
      else ⟨(k' + 127).toNat, false, false⟩

/-- R190, R194 to R198. Conversion of an exact value into a format. -/
def Fmt.convert (f : Fmt) (r : RMode) (v : Val) : Conv :=
  match f with
  | .fp32 => fmtFp32.convert r v
  | .bf16 => fmtBf16.convert r v
  | .fp16 => fmtFp16.convert r v
  | .e4m3 => fmtE4m3.convert r v
  | .e5m2 => fmtE5m2.convert r v
  | .e3m2 => fmtE3m2.convert r v
  | .e2m3 => fmtE2m3.convert r v
  | .e2m1 => fmtE2m1.convert r v
  | .mxfp4 => fmtE2m1.convert r v
  | .mxfp8 => fmtE4m3.convert r v
  | .int32 => convertInt 32 r v
  | .int16 => convertInt 16 r v
  | .int8 => convertInt 8 r v
  | .int4 => convertInt 4 r v
  | .uint8 => convertUint 8 r v
  | .uint4 => convertUint 4 r v
  | .ue4m3 => convertUe4m3 r v
  | .e8m0 => convertE8m0 v

/-- R197. Whether a code that a stage writes to the skein is a NaN or an infinity of FP32, BF16, FP16 or FP8 E5M2. -/
def Fmt.writesNonFinite (f : Fmt) (c : Nat) : Bool :=
  match f with
  | .fp32 | .bf16 | .fp16 | .e5m2 =>
    match f.decode c with
    | .fin _ _ _ => false
    | _ => true
  | _ => false

/-- R183, R184. A scale as the FP32 value the units apply: exact under QMODE 0; under QMODE 1 the power of two of its
exponent, a zero scale +0, an infinite scale +∞, a NaN scale NaN. -/
def scaleVal (scfmt : Fmt) (qmode : Bool) (c : Nat) : Val :=
  if qmode then
    match scfmt.decode c with
    | .nan => .nan
    | .inf _ => .inf false
    | .fin _ m e => if m = 0 then .fin false 0 0 else .fin false 1 (log2Floor m e)
  else scfmt.decode c

/-- R184. A scale as it multiplies one element: under QMODE 1 an infinite scale makes every element NaN. -/
def elemScale (scfmt : Fmt) (qmode : Bool) (c : Nat) : Val :=
  match scaleVal scfmt qmode c with
  | .inf b => if qmode then .nan else .inf b
  | v => v

/-- R182, R183 step 1. The exact value of an element of a scaled block with zero point `z`. -/
def elemVal (f : Fmt) (z : Nat) (c : Nat) : Val :=
  if f.isUint then Val.ofInt false ((c % 2 ^ f.width : Nat) - (z : Int)) 0 else f.decode c

/-- R182. The zero point a mapping gives: fixed under QMODE 1, the block's own byte under QMODE 0. -/
def zeroPoint (f : Fmt) (qmode : Bool) (byte : Nat) : Nat :=
  match f with
  | .uint4 => if qmode then 8 else byte
  | .uint8 => if qmode then 128 else byte
  | _ => 0

/-- R185. Qmax of a format: its largest finite value, 7 for INT4. -/
def Fmt.qmax (f : Fmt) : Nat × Int :=
  match f with
  | .int16 => (32767, 0) | .int8 => (127, 0) | .int4 => (7, 0) | .uint8 => (255, 0) | .uint4 => (15, 0)
  | .int32 => (2147483647, 0)
  | f =>
    match f.float? with
    | some g =>
      match g.decodeMag false g.maxCode with
      | .fin _ m e => (m, e)
      | _ => (1, 0)
    | none => (1, 0)

/-- R186. emax of a format under QMODE 1. -/
def Fmt.emax (f : Fmt) : Int :=
  match f with
  | .e2m1 | .mxfp4 | .e2m3 | .int4 | .uint4 => 2
  | .e3m2 => 4
  | .e4m3 | .mxfp8 => 8
  | .e5m2 => 15
  | .int8 | .uint8 => 6
  | .int16 => 14
  | _ => 0

/-- R186. The exponent range of a scale format. -/
def scaleExpRange (sc : Fmt) : Int × Int :=
  match sc with
  | .e8m0 => (-127, 127)
  | .fp16 => (-24, 15)
  | .ue4m3 => (-9, 8)
  | .bf16 => (-133, 127)
  | _ => (-149, 127)

/-- The scale formats of R139 and R143. -/
def Fmt.isScale (f : Fmt) : Bool :=
  match f with
  | .fp32 | .bf16 | .fp16 | .e8m0 | .ue4m3 => true
  | _ => false

/-- R146, R160. The group size a GROUP code names: 1 is 32, 2 is 64, 3 is 128; 0 names none. -/
def groupSize (g : Nat) : Nat :=
  match g with
  | 1 => 32
  | 2 => 64
  | 3 => 128
  | _ => 0

end Sys2Proof.Machine
end

