-- ==== Sys2Proof/Machine/Blocks.lean ====
section
/-!
DEFINITION. Scaled blocks (R129, R175, R180) and the element work of UNPACK and PACK: conversion, dequantisation,
rotation, re-layout, quantisation with nearest and with stochastic rounding (R183 to R187, R192, R193, R202, R203).
Blocks are numbers whose bits are the elements in order; results carry their saturation and non-finite counts (R197).
-/

namespace Sys2Proof.Machine

/-- Lines that `n` elements of `w` bits take. -/
def linesFor (n w : Nat) : Nat := ceilDiv (n * w) 2048

/-- R180. Data, scale and zero-point lines of a scaled block of `n` elements in groups of `g` (0: none). -/
structure BlockDims where
  data : Nat
  scale : Nat
  zero : Nat
  deriving DecidableEq, Repr

/-- R180. The line counts of a scaled block. -/
def blockDims (f sc : Fmt) (g n : Nat) : BlockDims :=
  { data := linesFor n f.width
    scale := if g = 0 then 0 else linesFor (n / g) sc.width
    zero := if g = 0 then 0 else if f.isUint then ceilDiv n (256 * g) else 0 }

/-- All lines of a scaled block. -/
def BlockDims.total (d : BlockDims) : Nat := d.data + d.scale + d.zero

/-- Element codes with their saturation and non-finite counts. -/
structure Codes where
  codes : List Nat
  sat : Nat
  nf : Nat
  deriving DecidableEq, Repr

/-- R195 to R197. One written element counts once as non-finite: by its conversion, or as a NaN or ∞ it writes. -/
def Conv.counts (f : Fmt) (c : Conv) : Nat × Nat := (b2n c.sat, b2n (c.nf || f.writesNonFinite c.code))

/-- Collect conversions into format `f`. -/
def Codes.ofConvs (f : Fmt) : List Conv → Codes
  | [] => ⟨[], 0, 0⟩
  | c :: t =>
    let r := Codes.ofConvs f t
    let k := c.counts f
    ⟨c.code :: r.codes, k.1 + r.sat, k.2 + r.nf⟩

/-- The element codes of a number. -/
def elemsOf (x w n : Nat) : List Nat := (List.range n).map (elem x w)

/-- R198, R143. UNP.CVT: each element converted, ties away from zero. -/
def unpCvt (sf df : Fmt) (x n : Nat) : Codes :=
  Codes.ofConvs df ((elemsOf x sf.width n).map (fun c => df.convert .away (sf.decode c)))

/-- The scale code and zero-point byte of group `i` of a block laid out with `n` elements. -/
def blockScale (f sc : Fmt) (g n x i : Nat) : Nat × Nat :=
  let d := blockDims f sc g n
  (elem (x / 2 ^ (2048 * d.data)) sc.width i, elem (x / 2 ^ (2048 * (d.data + d.scale))) 8 i)

/-- R183 steps 1 to 3, R184. The FP32 value of element `i` of a scaled block. -/
def dequant (f sc : Fmt) (qmode : Bool) (g n x i : Nat) : Word :=
  let sz := blockScale f sc g n x (i / g)
  let d := elemVal f (zeroPoint f qmode sz.2) (elem x f.width i)
  (d.mul (elemScale sc qmode sz.1)).toF32

/-- R183. UNP.DQ: dequantise and narrow to `df`. -/
def unpDq (f df sc : Fmt) (qmode : Bool) (g n x : Nat) : Codes :=
  Codes.ofConvs df ((List.range n).map (fun i => df.convert .away (ofF32 (dequant f sc qmode g n x i))))

/-- R202. The constant C_n of a rotation block code. -/
def rhtConst (blk : Nat) : Word :=
  match blk with
  | 0 => 0x3E3504F3#32
  | 1 => 0x3E000000#32
  | 2 => 0x3DB504F3#32
  | _ => 0x3D800000#32

/-- R202. The block size of a rotation block code. -/
def rhtSize (blk : Nat) : Nat := 32 * 2 ^ blk

/-- Sign change when `b`. -/
def Val.negIf (b : Bool) (v : Val) : Val := if b then v.neg else v

/-- The parity of the set bits of `n` below bit `k`. -/
def oddBits (n k : Nat) : Bool := popCount n k % 2 == 1

/-- R203. A block that holds a NaN, or both infinities, makes every output NaN. -/
def rhtPoisoned (xs : List Val) : Bool :=
  xs.contains .nan || (xs.contains (.inf false) && xs.contains (.inf true))

/-- R202, R203. Output `i` of the rotation of one block. -/
def rhtOut (f : Fmt) (blk signs : Nat) (inv : Bool) (xs : List Val) (i : Nat) : Conv :=
  if rhtPoisoned xs then f.convert .away .nan
  else
    let terms := (xs.zipIdx).map (fun xj =>
      (xj.1.negIf (!inv && bit signs xj.2)).negIf (oddBits (i &&& xj.2) 8))
    let y := (Val.sum terms).mul (ofF32 (rhtConst blk))
    let c := f.convert .away y
    if inv && bit signs i then { c with code := c.code ^^^ 2 ^ (f.width - 1) } else c

/-- R202, R203. UNP.RHT over `n` elements. -/
def unpRht (f : Fmt) (blk signs : Nat) (inv : Bool) (x n : Nat) : Codes :=
  let sz := rhtSize blk
  Codes.ofConvs f ((List.range (n / sz)).flatMap (fun b =>
    let xs := (List.range sz).map (fun j => f.decode (elem x f.width (sz * b + j)))
    (List.range sz).map (fun i =>
      let c := rhtOut f blk signs inv xs i
      if c.nf then { c with code := (f.convert .away .nan).code } else c)))

/-- R143. UNP.LAY: the source element index of each output element, `none` for a zero. OP 0 transposes 256 × 256 tiles;
1 cuts rows into 256-column tiles, each padded; 2 undoes 1; 3 pads each row to a multiple of 256 (assumption 6). -/
def layMap (op rowlen n : Nat) : List (Option Nat) :=
  let cols := ceilDiv rowlen 256
  let rows := ceilDiv n rowlen
  let at' (r c : Nat) : Option Nat := if c < rowlen ∧ r * rowlen + c < n then some (r * rowlen + c) else none
  match op with
  | 0 => (List.range (ceilDiv n 65536 * 65536)).map (fun i =>
      let s := i / 65536 * 65536 + i % 256 * 256 + i % 65536 / 256
      if s < n then some s else none)
  | 1 => (List.range (cols * rows * 256)).map (fun i => at' (i / 256 % rows) (i / 256 / rows * 256 + i % 256))
  | 2 =>
    let trows := ceilDiv n (cols * 256)
    (List.range (trows * rowlen)).map (fun i =>
      let s := (i % rowlen / 256 * trows + i / rowlen) * 256 + i % rowlen % 256
      if s < n then some s else none)
  | _ => (List.range (rows * cols * 256)).map (fun i => at' (i / (cols * 256)) (i % (cols * 256)))

/-- R143. UNP.LAY over `n` elements. -/
def unpLay (f : Fmt) (op rowlen x n : Nat) : Codes :=
  let cs := (layMap op rowlen n).map (fun o => (o.map (elem x f.width)).getD 0)
  ⟨cs, 0, (cs.filter f.writesNonFinite).length⟩

/-- The finite values of a group. -/
def finites (xs : List Val) : List Val :=
  xs.filter (fun v => match v with | .fin _ _ _ => true | _ => false)

/-- The FP32 ordering key of an exact FP32 value. -/
def Val.key (v : Val) : Int := f32Ord v.toF32

/-- R185. The value of greatest magnitude among finite values; +0 when there is none. -/
def maxMag (xs : List Val) : Val :=
  (finites xs).foldl (fun a v => if a.key.natAbs < v.key.natAbs then v else a) (.fin false 0 0)

/-- A positive quotient as an unrounded magnitude. -/
def posQuot (a b : Val) : Nat × Int :=
  match a.div b with
  | .fin _ m e => (m, e)
  | _ => (0, 0)

/-- R185. The smallest value of a scale format not less than a positive magnitude, saturating at its largest. -/
def scaleUp (sc : Fmt) (m : Nat) (e : Int) : Nat × Bool :=
  match sc with
  | .e8m0 =>
    let k := if m = 2 ^ (bitLen m - 1) then log2Floor m e else log2Floor m e + 1
    if k > 127 then (0xFE, true) else if k < -127 then (0, false) else ((k + 127).toNat, false)
  | .fp32 => if fmtFp32.roundCode .up m e > fmtFp32.maxCode then (fmtFp32.maxCode, true) else (fmtFp32.roundCode .up m e, false)
  | .bf16 => if fmtBf16.roundCode .up m e > fmtBf16.maxCode then (fmtBf16.maxCode, true) else (fmtBf16.roundCode .up m e, false)
  | .fp16 => if fmtFp16.roundCode .up m e > fmtFp16.maxCode then (fmtFp16.maxCode, true) else (fmtFp16.roundCode .up m e, false)
  | _ => if fmtE4m3.roundCode .up m e > fmtE4m3.maxCode then (fmtE4m3.maxCode, true) else (fmtE4m3.roundCode .up m e, false)

/-- The code of `2 ^ k` in a scale format. -/
def scalePow (sc : Fmt) (k : Int) : Nat :=
  match sc with
  | .e8m0 => (k + 127).toNat
  | .fp32 => fmtFp32.roundCode .even 1 k
  | .bf16 => fmtBf16.roundCode .even 1 k
  | .fp16 => fmtFp16.roundCode .even 1 k
  | _ => fmtE4m3.roundCode .even 1 k

/-- A group's derived scale code, zero point, and whether the scale saturated or was clamped. -/
structure GroupScale where
  scale : Nat
  zero : Nat
  sat : Bool
  deriving DecidableEq, Repr

/-- R185 to R187. The scale of one group of FP32 values. -/
def groupScale (f sc : Fmt) (qmode : Bool) (xs : List Val) : GroupScale :=
  let a := maxMag xs
  let zfix := zeroPoint f true 0
  if a.key = 0 then ⟨scalePow sc 0, if qmode then zfix else 0, false⟩
  else if qmode then
    match a with
    | .fin _ m e =>
      let k := log2Floor m e - f.emax
      let r := scaleExpRange sc
      let k' := max r.1 (min r.2 k)
      ⟨scalePow sc k', zfix, k' != k⟩
    | _ => ⟨scalePow sc 0, zfix, false⟩
  else
    let q : Val := .fin false f.qmax.1 f.qmax.2
    if f.isUint then
      let lo := (finites xs).foldl (fun a v => if v.key < a.key then v else a) (.fin false 0 0)
      let hi := (finites xs).foldl (fun a v => if a.key < v.key then v else a) (.fin false 0 0)
      let me := posQuot (hi.add lo.neg) q
      let s := scaleUp sc me.1 me.2
      let z := posQuot lo.neg (sc.decode s.1)
      ⟨s.1, min f.qmax.1 (roundMag .away z.1 z.2), s.2⟩
    else
      let me := posQuot (a.mul (.fin false 1 0)) q
      let s := scaleUp sc me.1 me.2
      ⟨s.1, 0, s.2⟩

/-- R192, R193. Quantise one FP32 value by scale `s` and zero point `z`. -/
def quantElem (f : Fmt) (r : RMode) (s : Val) (z : Nat) (x : Val) : Conv :=
  let q := ofF32 (x.div s).toF32
  if f.isUint then
    match q with
    | .fin neg m e =>
      let k : Int := (roundMag r m e : Nat)
      let i := (if neg then -k else k) + z
      let top : Int := (2 ^ f.width - 1 : Nat)
      if i < 0 then ⟨0, true, false⟩ else if top < i then ⟨top.toNat, true, false⟩ else ⟨i.toNat, false, false⟩
    | v => f.convert r v
  else f.convert r q

/-- R160, R161, R192, R193. Quantised elements, their scale codes and their zero points. -/
structure Quant where
  elems : Codes
  scales : List Nat
  zeros : List Nat
  deriving DecidableEq, Repr

/-- R185 to R194. Quantise `n` FP32 elements in groups of `g`; `rm i` is element `i`'s rounding. -/
def quantBlock (f sc : Fmt) (qmode : Bool) (g n x : Nat) (rm : Nat → RMode) : Quant :=
  let v (i : Nat) : Val := ofF32 (BitVec.ofNat 32 (elem x 32 i))
  if g = 0 then
    ⟨Codes.ofConvs f ((List.range n).map (fun i => f.convert (rm i) (v i))), [], []⟩
  else
    let gs := (List.range (n / g)).map (fun b => groupScale f sc qmode ((List.range g).map (fun j => v (g * b + j))))
    let cs := (gs.zipIdx).flatMap (fun sb =>
      (List.range g).map (fun j =>
        quantElem f (rm (g * sb.2 + j)) (scaleVal sc qmode sb.1.scale) sb.1.zero (v (g * sb.2 + j))))
    let e := Codes.ofConvs f cs
    ⟨{ e with sat := e.sat + (gs.filter (·.sat)).length }, gs.map (·.scale), if f.isUint then gs.map (·.zero) else []⟩

/-- Lines of a string of element codes, the last zero-filled (R272). -/
def codeLines (w : Nat) (cs : List Nat) : List LineData :=
  natLines (packElems w cs) (linesFor cs.length w)

/-- R129, R180. The lines of a quantised block: data, then scales, then zero points. -/
def Quant.lines (f sc : Fmt) (q : Quant) : List LineData :=
  codeLines f.width q.elems.codes ++ codeLines sc.width q.scales ++ codeLines 8 q.zeros

end Sys2Proof.Machine
end

