-- ==== Sys2Proof/Machine/ArrayMath.lean ====
section
/-!
DEFINITION. The arithmetic of the matrix arrays and motif pairs: the column tree of R199 and R200, the transposed mode
of R216, the motif down- and up-projections of R201, R244 and R245, and the output-stationary mode of R217. Rates,
shares of cells and unit times (R144, R145, R148, R150) are here as well.
-/

namespace Sys2Proof.Machine

/-- R146. A stationary tile as MX.LDW loads it: its parameters and the number its lines spell. -/
structure Tile where
  wfmt : Fmt
  group : Nat
  scfmt : Fmt
  ascfmt : Fmt
  qmode : Bool
  bits : Nat
  deriving DecidableEq, Repr

/-- R199. The group size a tile's column tree uses: 32 for a tile without scales. -/
def Tile.g (t : Tile) : Nat := if t.group = 0 then 32 else groupSize t.group

/-- R146, R199. Scale value of group `g` of column `n` of a tile: 1.0 where the tile carries no scales. -/
def Tile.scale (t : Tile) (n g : Nat) : Val :=
  if t.group = 0 then .fin false 1 0
  else scaleVal t.scfmt t.qmode (blockScale t.wfmt t.scfmt t.g 65536 t.bits (n * (256 / t.g) + g)).1

/-- R182, R200. Zero point of group `g` of column `n` of a tile. -/
def Tile.zero (t : Tile) (n g : Nat) : Nat :=
  if t.group = 0 then 0
  else zeroPoint t.wfmt t.qmode (blockScale t.wfmt t.scfmt t.g 65536 t.bits (n * (256 / t.g) + g)).2

/-- R183 step 1, R335. The decoded element of row `k` and column `n` of a tile: a tile row holds 256 elements along N. -/
def Tile.elem (t : Tile) (k n : Nat) : Val :=
  elemVal t.wfmt (t.zero n (k / t.g)) (Machine.elem t.bits t.wfmt.width (k * 256 + n))

/-- A block of activation rows of 256 elements, read with the tile's group and mapping (R146). -/
structure ActBlock where
  fmt : Fmt
  rows : Nat
  bits : Nat
  deriving DecidableEq, Repr

/-- R199, R146. Scale of group `g` of activation row `i`. -/
def ActBlock.scale (a : ActBlock) (t : Tile) (i g : Nat) : Val :=
  if t.group = 0 then .fin false 1 0
  else scaleVal t.ascfmt t.qmode (blockScale a.fmt t.ascfmt t.g (a.rows * 256) a.bits (i * (256 / t.g) + g)).1

/-- R182. Zero point of group `g` of activation row `i`. -/
def ActBlock.zero (a : ActBlock) (t : Tile) (i g : Nat) : Nat :=
  if t.group = 0 then 0
  else zeroPoint a.fmt t.qmode (blockScale a.fmt t.ascfmt t.g (a.rows * 256) a.bits (i * (256 / t.g) + g)).2

/-- R183 step 1. Decoded element `k` of activation row `i`. -/
def ActBlock.elem (a : ActBlock) (t : Tile) (i k : Nat) : Val :=
  elemVal a.fmt (a.zero t i (k / t.g)) (Machine.elem a.bits a.fmt.width (i * 256 + k))

/-- R146, R180. Lines of an activation block met by tile `t`. -/
def ActBlock.lines (f : Fmt) (rows : Nat) (t : Tile) : Nat :=
  (blockDims f t.ascfmt (if t.group = 0 then 0 else t.g) (rows * 256)).total

/-- R199. One output column of one row: the chain of FP32 adds over the groups in ascending order from `acc`. -/
def columnTree (t : Tile) (a : ActBlock) (i n : Nat) (acc : Word) : Word :=
  (List.range (256 / t.g)).foldl (fun acc g =>
    let p := Val.sum ((List.range t.g).map (fun j => (t.elem (g * t.g + j) n).mul (a.elem t i (g * t.g + j))))
    let v := ofF32 p.toF32
    let tt := ofF32 (v.mul (t.scale n g)).toF32
    let m := (tt.mul (a.scale t i g)).toF32
    fAdd acc m) acc

/-- R216. One output column of one row in transposed use: the products carry their own weight scales, exactly. -/
def columnTreeT (t : Tile) (a : ActBlock) (i k : Nat) (acc : Word) : Word :=
  (List.range (256 / t.g)).foldl (fun acc g =>
    let p := Val.sum ((List.range t.g).map (fun j =>
      let n := g * t.g + j
      ((t.elem k n).mul (t.scale n (k / t.g))).mul (a.elem t i n)))
    let v := ofF32 p.toF32
    let m := (v.mul (a.scale t i g)).toF32
    fAdd acc m) acc

/-- 256 FP32 values as one number: an accumulator row. -/
def rowWord (row n : Nat) : Word := BitVec.ofNat 32 (elem row 32 n)

/-- R199, R216. Accumulator row of activation row `i`, added to `acc` (a row as a number). -/
def runRow (tr : Bool) (t : Tile) (a : ActBlock) (i acc : Nat) : Nat :=
  packElems 32 ((List.range 256).map (fun n =>
    (if tr then columnTreeT t a i n (rowWord acc n) else columnTree t a i n (rowWord acc n)).toNat))

/-- R201. An activation element as it enters the motif cells: `da × s_a` in FP32, narrowed to BF16. -/
def motifIn (t : Tile) (a : ActBlock) (i k : Nat) : Val :=
  let s := if t.group = 0 then .fin false 1 0
    else elemScale t.ascfmt t.qmode (blockScale a.fmt t.ascfmt t.g (a.rows * 256) a.bits (i * (256 / t.g) + k / t.g)).1
  Fmt.bf16.decode (Fmt.bf16.convert .away (ofF32 ((a.elem t i k).mul s).toF32)).code

/-- R227. Lines of the width `w` that a rank takes per tile row: q′ of R145 up to rank 64, else 64. -/
def rankClass (q : Nat) : Nat := if q ≤ 4 then 4 else if q ≤ 8 then 8 else if q ≤ 16 then 16 else if q ≤ 32 then 32 else 64

/-- R145, R227. Rank passes of a motif. -/
def rankPasses (q : Nat) : Nat := ceilDiv q 64

/-- R145. Motif rows per cycle at a rank class. -/
def motifRate (qc : Nat) : Nat := min 8 (64 / qc)

/-- R244. Rank column `j` of a pass: the row's 256 elements against the tile `tl` of `w` columns (or, transposed, `w`
rows of 256), groups of 32 in ascending order added in FP32 to `acc`. -/
def rankCol (tr : Bool) (w : Nat) (xs : List Val) (tl j : Nat) (acc : Word) : Word :=
  (List.range 8).foldl (fun acc g =>
    let p := Val.sum ((List.range 32).map (fun i =>
      let k := 32 * g + i
      (xs.getD k (.fin false 0 0)).mul (Fmt.bf16.decode (elem tl 16 (if tr then j * 256 + k else k * w + j)))))
    fAdd acc p.toF32) acc

/-- R244. A rank-accumulator row after one motif run of pass `pass` of a motif of rank `q`. -/
def rankRow (tr : Bool) (q pass : Nat) (xs : List Val) (tl acc : Nat) : Nat :=
  packElems 32 ((List.range 256).map (fun c =>
    if 64 * pass ≤ c ∧ c < 64 * pass + 64 then
      if c < q then (rankCol tr (rankClass q) xs tl (c - 64 * pass) (rowWord acc c)).toNat else 0
    else (rowWord acc c).toNat))

/-- R245. Output column `n` of the up-projection of one row: rank values narrowed to BF16, groups of 32 ranks and then
passes in ascending order, from +0.0; `tiles` are the passes' tiles. -/
def upCol (tr : Bool) (q rank : Nat) (tiles : List Nat) (n : Nat) : Word :=
  let w := rankClass q
  (tiles.zipIdx).foldl (fun acc tp =>
    (List.range (ceilDiv w 32)).foldl (fun acc g =>
      let p := Val.sum ((List.range (min 32 w)).map (fun i =>
        let j := 32 * g + i
        let r := Fmt.bf16.decode (Fmt.bf16.convert .away (ofF32 (rowWord rank (64 * tp.2 + j)))).code
        r.mul (Fmt.bf16.decode (elem tp.1 16 (if tr then n * w + j else j * 256 + n)))))
      fAdd acc p.toF32) acc) 0#32

/-- R245. The motif partial row of a segment that holds the target. -/
def upRow (tr : Bool) (q rank : Nat) (tiles : List Nat) : Nat :=
  packElems 32 ((List.range 256).map (fun n => (upCol tr q rank tiles n).toNat))

/-- R150, R245. The partial row of a null segment: −0.0 throughout. -/
def nullPartial : Nat := packElems 32 (List.replicate 256 0x80000000)

/-- R217. One cell of MX.WGRAD over the token rows: products of BF16 operands, added in FP32 in row order. -/
def wgradCell (rows : List (Nat × Nat)) (a c : Nat) (acc : Word) : Word :=
  rows.foldl (fun acc r =>
    (Val.add (ofF32 acc) ((Fmt.bf16.decode (elem r.1 16 a)).mul (Fmt.bf16.decode (elem r.2 16 c)))).toF32) acc

/-- R144. Whether a weight and activation format pair is legal, and the rows per cycle at which it runs (0: illegal). -/
def pairRate (w a : Fmt) : Nat :=
  let fp4 (f : Fmt) := f == .e2m1 || f == .mxfp4
  let f8 (f : Fmt) := f == .e4m3 || f == .e5m2 || f == .mxfp8
  let f6 (f : Fmt) := f == .e3m2 || f == .e2m3
  let h (f : Fmt) := f == .bf16 || f == .fp16
  let i8 (f : Fmt) := f == .int8 || f == .uint8
  if fp4 w && fp4 a then 8
  else if w == .int4 && a == .int4 then 8
  else if fp4 w && f8 a then 4
  else if (w == .int4 || w == .uint4) && i8 a then 4
  else if (f6 w || f8 w) && f8 a then 2
  else if i8 w && i8 a then 2
  else if h w && h a then 1
  else if (fp4 w || f6 w || f8 w) && h a then 1
  else 0

/-- R148. Unit time of a run: `b`, each segment's rows at its rate, and one cycle a switch. -/
def runTime (b : Nat) (segs : List (Nat × Nat)) : Nat :=
  b + (segs.map (fun s => ceilDiv s.1 s.2)).foldl (· + ·) 0 + (segs.length - 1)

/-- R146. Data lines of a 256 × 256 tile. -/
def tileLines (f : Fmt) : Nat := linesFor 65536 f.width

end Sys2Proof.Machine
end

