-- ==== Sys2Proof/Machine/Philox.lean ====
section
/-!
DEFINITION. The random streams: Philox4x32-10 (R309), stream states and draws (R310, R311), and the distributions of
VC.RNG (R316, R317).
-/

namespace Sys2Proof.Machine

/-- R310. A stream state. USE is 0 UNCLAIMED, 1 SERVE, 2 OWN. -/
structure Stream where
  key0 : Word
  key1 : Word
  counter : BitVec 128
  word : Nat
  use : Nat
  commits : Nat
  deriving DecidableEq, Repr

/-- R310. The 32 bytes of a stream state. -/
def Stream.bytes (s : Stream) : List Byte :=
  leBytes s.key0.toNat 4 ++ leBytes s.key1.toNat 4 ++ leBytes s.counter.toNat 16 ++ leBytes (s.word + 16 * s.use) 4 ++
    leBytes s.commits 4

/-- R310. The stream state that 32 bytes spell. -/
def Stream.ofBytes (l : List Byte) : Stream :=
  ⟨BitVec.ofNat 32 (leField l 0 4), BitVec.ofNat 32 (leField l 4 4), BitVec.ofNat 128 (leField l 8 16), leField l 24 1 % 4,
   bits (leField l 24 1) 4 2, leField l 28 4⟩

/-- R311. The state of stream `s` of function `n` at enable and after FLR. -/
def Stream.default (n s : Nat) : Stream := ⟨BitVec.ofNat 32 n, BitVec.ofNat 32 s, 0, 0, 0, 0⟩

/-- R309. One round on the counter words. -/
def philoxRound (k0 k1 : Word) (x : Word × Word × Word × Word) : Word × Word × Word × Word :=
  let p2 := 0xCD9E8D57 * x.2.2.1.toNat
  let p0 := 0xD2511F53 * x.1.toNat
  (BitVec.ofNat 32 (p2 / 2 ^ 32) ^^^ x.2.1 ^^^ k0, BitVec.ofNat 32 p2,
   BitVec.ofNat 32 (p0 / 2 ^ 32) ^^^ x.2.2.2 ^^^ k1, BitVec.ofNat 32 p0)

/-- R309. `n` rounds, the key advancing after each. -/
def philoxRounds : Nat → Word → Word → Word × Word × Word × Word → Word × Word × Word × Word
  | 0, _, _, x => x
  | n + 1, k0, k1, x => philoxRounds n (k0 + 0x9E3779B9#32) (k1 + 0xBB67AE85#32) (philoxRound k0 k1 x)

/-- R309. Word `i` of the block of a key and counter. -/
def philoxWord (k0 k1 : Word) (ctr : BitVec 128) (i : Nat) : Word :=
  let c := ctr.toNat
  let r := philoxRounds 10 k0 k1
    (BitVec.ofNat 32 c, BitVec.ofNat 32 (c / 2 ^ 32), BitVec.ofNat 32 (c / 2 ^ 64), BitVec.ofNat 32 (c / 2 ^ 96))
  match i with
  | 0 => r.1
  | 1 => r.2.1
  | 2 => r.2.2.1
  | _ => r.2.2.2

/-- R311. One draw: the word and the advanced stream. -/
def Stream.draw (s : Stream) : Word × Stream :=
  (philoxWord s.key0 s.key1 s.counter s.word,
   if s.word ≥ 3 then { s with word := 0, counter := s.counter + 1 } else { s with word := s.word + 1 })

/-- R311. `n` draws in order. -/
def Stream.draws : Nat → Stream → List Word × Stream
  | 0, s => ([], s)
  | n + 1, s =>
    let r := s.draw
    let t := Stream.draws n r.2
    (r.1 :: t.1, t.2)

/-- R266. A float operation with opaque body on finite arguments: NaN in, canonical NaN out. -/
def fElem (f : Word → Word) (atInf : Bool → Word) (a : Word) : Word :=
  match ofF32 a with
  | .nan => qnan
  | .inf neg => atInf neg
  | .fin _ _ _ => f a

/-- Whether FP32 bits are ±0. -/
def isZero (a : Word) : Bool := a.toNat % 2 ^ 31 == 0

/-- Whether the sign bit is set. -/
def signBit (a : Word) : Bool := bit a.toNat 31

/-- FP32 ±1.0. -/
def f32SignedOne (neg : Bool) : Word := if neg then 0xBF800000#32 else f32One

/-- R266. FEXP: ±0 gives 1.0, −∞ gives +0.0, +∞ and overflow +∞. -/
def fExp : Word → Word :=
  fElem (fun a => if isZero a then f32One else if f32Ord a ≥ 0x42B17218 then f32Inf else Config.fexp a)
    (fun neg => if neg then 0 else f32Inf)

/-- R266. FEXP2: as FEXP; exact at integers in range. -/
def fExp2 : Word → Word :=
  fElem (fun a =>
    if isZero a then f32One
    else if f32Ord a ≥ 0x43000000 then f32Inf
    else
      match ofF32 a with
      | .fin neg m e =>
        let i := Val.toIntRound true neg m e
        if f32OfInt i = a ∧ -149 ≤ i then Val.toF32 (.fin false 1 i) else Config.fexp2 a
      | _ => Config.fexp2 a)
    (fun neg => if neg then 0 else f32Inf)

/-- R266. FLOG and FLOG2: ±0 gives −∞, a negative NaN, 1.0 gives +0.0, +∞ gives +∞. -/
def fLogWith (f : Word → Word) : Word → Word :=
  fElem (fun a => if isZero a then f32NegInf else if signBit a then qnan else if a = f32One then 0 else f a)
    (fun neg => if neg then qnan else f32Inf)

/-- R266. FLOG. -/
def fLog : Word → Word := fLogWith Config.flog
/-- R266. FLOG2. -/
def fLog2 : Word → Word := fLogWith Config.flog2

/-- R266. FRSQ: ±0 gives ±∞, a negative NaN, +∞ gives +0.0. -/
def fRsq : Word → Word :=
  fElem (fun a =>
    if isZero a then (if signBit a then f32NegInf else f32Inf) else if signBit a then qnan else Config.frsq a)
    (fun neg => if neg then qnan else 0)

/-- R266. FTANH: ±∞ gives ±1.0. -/
def fTanh : Word → Word := fElem Config.ftanh f32SignedOne
/-- R266. FERF: ±∞ gives ±1.0. -/
def fErf : Word → Word := fElem Config.ferf f32SignedOne
/-- R266. FSIGM: −∞ gives +0.0, +∞ gives 1.0. -/
def fSigm : Word → Word := fElem Config.fsigm (fun neg => if neg then 0 else f32One)
/-- R266. FSIN: ±∞ gives NaN. -/
def fSin : Word → Word := fElem Config.fsin (fun _ => qnan)
/-- R266. FCOS: ±∞ gives NaN. -/
def fCos : Word → Word := fElem Config.fcos (fun _ => qnan)

/-- R316. DIST 1: `(w >> 8) × 2^−24`, exactly. -/
def uniform01 (w : Word) : Word := Val.toF32 (.fin false (w.toNat / 256) (-24))

/-- R316. DIST 2: Box–Muller on two words. -/
def boxMuller (w0 w1 : Word) : Word :=
  let u1 := Val.toF32 (.fin false (w0.toNat / 256 + 1) (-24))
  let u2 := uniform01 w1
  fMul (fSqrt (fMul 0xC0000000#32 (fLog u1))) (fCos (fMul u2 0x40C90FDB#32))

/-- R317. DIST 3: the table sampler. -/
def tableNormal (w : Word) : Word :=
  let v := w.toNat % 2 ^ 31
  let e := 31 - bitLen v
  let rest := v - (if v = 0 then 0 else 2 ^ (bitLen v - 1))
  let seg := if e ≤ 23 then rest / 2 ^ (23 - e) else rest
  let t := if e ≤ 23 then Val.toF32 (.fin false (rest % 2 ^ (23 - e)) (-((23 - e : Nat) : Int))) else 0
  let z := fFma t (fFma t (Config.normalCoef e seg 2) (Config.normalCoef e seg 1)) (Config.normalCoef e seg 0)
  if signBit w then fNeg z else z

/-- R316. Words per value of a DIST code. -/
def distWords (dist : Nat) : Nat := if dist = 2 then 2 else 1

/-- R316. One value of a DIST code from its words. -/
def distValue (dist : Nat) (ws : List Word) : Word :=
  let w0 := ws.getD 0 0
  match dist with
  | 0 => w0
  | 1 => uniform01 w0
  | 2 => boxMuller w0 (ws.getD 1 0)
  | _ => tableNormal w0

/-- R159, R316. `n` values of a DIST code from a stream, in element order. -/
def Stream.values (dist : Nat) : Nat → Stream → List Word × Stream
  | 0, s => ([], s)
  | n + 1, s =>
    let r := Stream.draws (distWords dist) s
    let t := Stream.values dist n r.2
    (distValue dist r.1 :: t.1, t.2)

end Sys2Proof.Machine
end

