-- ==== Sys2Proof/Machine/Store.lean ====
section
/-!
DEFINITION. Sparse data by key, in one canonical form: a list of key and value pairs with strictly rising keys.
Near-tier memory is such a list of bytes that also lists no zero byte (assumption 4): an unlisted address reads 0.
-/

namespace Sys2Proof.Machine

/-- The value listed at key `a`. -/
def Store.get? {α : Type} : List (Nat × α) → Nat → Option α
  | [], _ => none
  | (k, v) :: t, a => if k = a then some v else Store.get? t a

/-- The value listed at key `a`, or `d`. -/
def Store.getD {α : Type} (m : List (Nat × α)) (a : Nat) (d : α) : α := (Store.get? m a).getD d

/-- `m` with `v` at key `a`, in key order. -/
def Store.put {α : Type} : List (Nat × α) → Nat → α → List (Nat × α)
  | [], a, v => [(a, v)]
  | (k, w) :: t, a, v =>
    if a < k then (a, v) :: (k, w) :: t
    else if a = k then (a, v) :: t
    else (k, w) :: Store.put t a v

/-- `m` without the keys that `p` holds of. -/
def Store.removeIf {α : Type} (m : List (Nat × α)) (p : Nat → Bool) : List (Nat × α) :=
  m.filter (fun c => !p c.1)

/-- `m` without key `a`. -/
def Store.erase {α : Type} (m : List (Nat × α)) (a : Nat) : List (Nat × α) :=
  Store.removeIf m (fun k => k == a)

/-- `m` with the value at key `a`, or `d` where none is listed, replaced by its image under `f`. -/
def Store.modify {α : Type} (m : List (Nat × α)) (a : Nat) (d : α) (f : α → α) : List (Nat × α) :=
  Store.put m a (f (Store.getD m a d))

/-- Keys rise strictly. -/
abbrev Store.wf {α : Type} (m : List (Nat × α)) : Prop := m.Pairwise (fun x y => x.1 < y.1)

/-- The byte at address `a`: an unlisted address reads 0 (R584 step 5: the near tier is zero-filled at cast-on). -/
def Memory.read (m : List Host.Cell) (a : Nat) : Byte := Store.getD m a 0

/-- `m` with byte `b` at address `a`, in canonical form. -/
def Memory.write (m : List Host.Cell) (a : Nat) (b : Byte) : List Host.Cell :=
  if b = 0 then Store.erase m a else Store.put m a b

/-- The canonical form of a memory: addresses strictly rising, no zero byte listed. -/
abbrev Memory.wf (m : List Host.Cell) : Prop := Store.wf m ∧ ∀ c ∈ m, c.2 ≠ 0

/-- The `k` bytes from address `a` on. -/
def Memory.readBytes (m : List Host.Cell) (a : Nat) : Nat → List Byte
  | 0 => []
  | k + 1 => Memory.read m a :: Memory.readBytes m (a + 1) k

/-- `m` with the bytes `l` from address `a` on. -/
def Memory.writeBytes (m : List Host.Cell) (a : Nat) : List Byte → List Host.Cell
  | [] => m
  | b :: t => Memory.writeBytes (Memory.write m a b) (a + 1) t

/-- `m` with the `k` bytes from address `a` on made zero: a zero-fill (R459). -/
def Memory.zero (m : List Host.Cell) (a k : Nat) : List Host.Cell :=
  Store.removeIf m (fun x => a ≤ x && x < a + k)

end Sys2Proof.Machine
end

