-- ==== Sys2Proof/Machine/ChainMath.lean ====
section
/-!
DEFINITION. The arithmetic of the vector chains: element programs (R260 to R269), the fixed reduction tree (R274,
R275), the soft maximum (R277 to R283), compress and expand (R158, R285).
-/

namespace Sys2Proof.Machine

/-- R261. A micro-operation. -/
structure MicroOp where
  op : Nat
  dst : Nat
  sa : Nat
  sb : Nat
  sc : Nat
  rsvd : Nat
  deriving DecidableEq, Repr

/-- R260. Decoded program text. -/
structure Prog where
  nops : Nat
  bmode : Nat
  fld : Nat
  bitout : Bool
  rowlen : Nat
  ops : List MicroOp
  tail : List MicroOp
  consts : List Word
  rsvd : Nat
  deriving DecidableEq, Repr

/-- R261. The fields of a 48-bit micro-operation. -/
def MicroOp.ofNat (m : Nat) : MicroOp :=
  ⟨bits m 42 6, bits m 37 5, bits m 31 6, bits m 25 6, bits m 19 6, bits m 0 19⟩

/-- R260. The fields of a line of program text; `rsvd` is zero when every reserved field of the header is. -/
def Prog.ofLine (d : LineData) : Prog :=
  let x := d.toNat
  let n := bits x 0 5 + 1
  let all := (List.range 32).map (fun i => MicroOp.ofNat (bits x (128 + 48 * i) 48))
  { nops := n
    bmode := bits x 8 2
    fld := bits x 10 2
    bitout := bit x 12
    rowlen := bits x 16 16 + 1
    ops := all.take n
    tail := all.drop n
    consts := (List.range 12).map (fun j => BitVec.ofNat 32 (bits x (1664 + 32 * j) 32))
    rsvd := bits x 5 3 + bits x 13 3 + bits x 32 96 }

/-- R263. Number of sources of an operation; 0 for a reserved OP. -/
def opArity (op : Nat) : Nat :=
  match op with
  | 0x01 | 0x02 | 0x03 | 0x05 | 0x06 | 0x09 => 2
  | 0x04 | 0x1C => 3
  | 0x07 | 0x08 | 0x0A | 0x0B | 0x0C | 0x0D | 0x0E | 0x0F | 0x10 | 0x11 | 0x12 | 0x13 | 0x14 | 0x15 | 0x16 | 0x17 => 1
  | 0x18 | 0x19 | 0x1A | 0x1B => 2
  | 0x1D | 0x1E | 0x1F => 1
  | 0x20 | 0x21 | 0x22 | 0x23 | 0x24 | 0x25 | 0x26 | 0x27 | 0x28 | 0x29 | 0x2A | 0x2B | 0x2C | 0x2D => 2
  | _ => 0

/-- R263. A comparison's result. -/
def maskWord (b : Bool) : Word := if b then 0xFFFFFFFF#32 else 0

/-- R263, R266. The result of an operation on 32-bit sources, with its saturation and non-finite counts (R267). -/
def opEval (op : Nat) (a b c : Word) : Word × Nat × Nat :=
  let r (w : Word) : Word × Nat × Nat := (w, 0, 0)
  match op with
  | 0x01 => r (fAdd a b)
  | 0x02 => r (fSub a b)
  | 0x03 => r (fMul a b)
  | 0x04 => r (fFma a b c)
  | 0x05 => r (fMin a b)
  | 0x06 => r (fMax a b)
  | 0x07 => r (fAbs a)
  | 0x08 => r (fNeg a)
  | 0x09 => r (fDiv a b)
  | 0x0A => r (fSqrt a)
  | 0x0B => r (fDiv f32One a)
  | 0x0C => r (fRsq a)
  | 0x0D => r (fExp a)
  | 0x0E => r (fExp2 a)
  | 0x0F => r (fLog a)
  | 0x10 => r (fLog2 a)
  | 0x11 => r (fTanh a)
  | 0x12 => r (fSigm a)
  | 0x13 => r (fErf a)
  | 0x14 => r (fSin a)
  | 0x15 => r (fCos a)
  | 0x16 => r (fIntegral true a)
  | 0x17 => r (fIntegral false a)
  | 0x18 => r (maskWord (fLt a b))
  | 0x19 => r (maskWord (fLe a b))
  | 0x1A => r (maskWord (fEq a b))
  | 0x1B => r (maskWord (!fEq a b))
  | 0x1C => r (if c = 0 then b else a)
  | 0x1D =>
    let k := Fmt.int32.convert .away (ofF32 a)
    (BitVec.ofNat 32 k.code, b2n k.sat, b2n k.nf)
  | 0x1E => r (f32OfInt a.toInt)
  | 0x1F => r a
  | 0x20 => r (a + b)
  | 0x21 => r (a - b)
  | 0x22 => r (a * b)
  | 0x23 => r (if a.toInt ≤ b.toInt then a else b)
  | 0x24 => r (if b.toInt ≤ a.toInt then a else b)
  | 0x25 => r (a &&& b)
  | 0x26 => r (a ||| b)
  | 0x27 => r (a ^^^ b)
  | 0x28 => r (a <<< (b.toNat % 32))
  | 0x29 => r (a >>> (b.toNat % 32))
  | 0x2A => r (a.sshiftRight (b.toNat % 32))
  | 0x2B => r (maskWord (a.toInt < b.toInt))
  | 0x2C => r (maskWord (a == b))
  | 0x2D => r (maskWord (a.toNat < b.toNat))
  | _ => r 0

/-- What one element of a program run sees: A, B, its index and the program's immediates (R262). -/
structure ElemEnv where
  a : Word
  b : Word
  idx : Nat
  rowlen : Nat
  scalars : List Word
  consts : List Word
  deriving DecidableEq, Repr

/-- R262. The value of a source code. -/
def srcVal (env : ElemEnv) (temps : List (Nat × Word)) (code : Nat) : Word :=
  if code < 0x10 then Store.getD temps code 0
  else
    match code with
    | 0x10 => env.a
    | 0x11 => env.b
    | 0x12 => BitVec.ofNat 32 env.idx
    | 0x13 => BitVec.ofNat 32 (env.idx % env.rowlen)
    | 0x14 => BitVec.ofNat 32 (env.idx / env.rowlen)
    | 0x15 => 0
    | 0x16 => f32One
    | 0x17 => f32NegInf
    | n => if n < 0x20 then env.scalars.getD (n - 0x18) 0 else env.consts.getD (n - 0x20) 0

/-- R260, R263. Run micro-operations in order: temporaries, D in slot 16, and the counts. -/
def runOps (env : ElemEnv) : List MicroOp → List (Nat × Word) → Nat → Nat → List (Nat × Word) × Nat × Nat
  | [], temps, sat, nf => (temps, sat, nf)
  | m :: t, temps, sat, nf =>
    let r := opEval m.op (srcVal env temps m.sa) (srcVal env temps m.sb) (srcVal env temps m.sc)
    runOps env t (Store.put temps m.dst r.1) (sat + r.2.1) (nf + r.2.2)

/-- R260, R267. One element through the program: D and the counts of FTOI and ITOF. -/
def runElem (p : Prog) (env : ElemEnv) : Word × Nat × Nat :=
  let r := runOps env p.ops [] 0 0
  (Store.getD r.1 16 0, r.2.1, r.2.2)

/-- R264. Passes of a program. -/
def Prog.passes (p : Prog) : Nat := ceilDiv p.nops 12

/-- Whether some micro-operation reads B (R268). -/
def Prog.readsB (p : Prog) : Bool :=
  p.ops.any (fun m => (opArity m.op ≥ 1 && m.sa == 0x11) || (opArity m.op ≥ 2 && m.sb == 0x11) ||
    (opArity m.op ≥ 3 && m.sc == 0x11))

/-- R261, R262, R265. Whether a source field is well formed: a written temporary or a defined source, and zero where
the operation does not use it. -/
def srcOk (used : Bool) (written : List Nat) (code : Nat) : Bool :=
  if used then (if code < 0x10 then written.contains code else code < 0x2C) else code == 0

/-- R265. Every micro-operation well formed, temporaries written before they are read, D written once and last. -/
def opsOk : List MicroOp → List Nat → Bool
  | [], _ => false
  | m :: t, w =>
    let k := opArity m.op
    k != 0 && m.rsvd == 0 && srcOk true w m.sa && srcOk (k ≥ 2) w m.sb && srcOk (k ≥ 3) w m.sc &&
      (match t with
       | [] => m.dst == 16
       | _ => m.dst < 16 && opsOk t (m.dst :: w))

/-- Temporary `t` is read by `m`. -/
def MicroOp.reads (m : MicroOp) (t : Nat) : Bool :=
  (opArity m.op ≥ 1 && m.sa == t) || (opArity m.op ≥ 2 && m.sb == t) || (opArity m.op ≥ 3 && m.sc == t)

/-- R264, R265. Whether temporary `t` is read among `l` before it is written there. -/
def liveIn (t : Nat) : List MicroOp → Bool
  | [] => false
  | m :: r => m.reads t || (m.dst != t && liveIn t r)

/-- R265. At most 4 temporaries live across each pass boundary: those written before it and read after it. -/
def spillOk (p : Prog) : Bool :=
  (List.range p.passes).all (fun k =>
    k == 0 || ((List.range 16).filter (fun t =>
      (p.ops.take (12 * k)).any (fun m => m.dst == t) && liveIn t (p.ops.drop (12 * k)))).length ≤ 4)

/-- R265, R260. Whether program text decodes without one of the faults of R265 (BITOUT against XOUT apart). -/
def Prog.decodes (p : Prog) : Bool :=
  p.rsvd == 0 && p.bmode < 4 && p.fld != 3 && opsOk p.ops [] && spillOk p &&
    p.tail.all (fun m => m == ⟨0, 0, 0, 0, 0, 0⟩)

/-- R155, R267. Widen an input element to 32 bits: XIN 0 FP32, 1 BF16, 2 FP16, 3 INT32. -/
def chainIn (xin c : Nat) : Word :=
  match xin with
  | 1 => (Fmt.bf16.decode c).toF32
  | 2 => (Fmt.fp16.decode c).toF32
  | _ => BitVec.ofNat 32 c

/-- Bits of an XIN or XOUT element. -/
def chainWidth (x : Nat) : Nat := if x = 1 ∨ x = 2 then 16 else 32

/-- R267. Write D in the XOUT format, with its counts under R197. -/
def chainOut (xout : Nat) (d : Word) : Nat × Nat × Nat :=
  match xout with
  | 0 => (d.toNat, 0, b2n (Fmt.fp32.writesNonFinite d.toNat))
  | 1 =>
    let c := Fmt.bf16.convert .away (ofF32 d)
    (c.code, c.counts .bf16)
  | 2 =>
    let c := Fmt.fp16.convert .away (ofF32 d)
    (c.code, c.counts .fp16)
  | _ => (d.toNat, 0, 0)

/-- One level of pairwise combination (R274 step 2). -/
def pairUp (op : Word → Word → Word) : List Word → List Word
  | a :: b :: t => op a b :: pairUp op t
  | l => l

/-- `k` levels of pairwise combination. -/
def pairLevels (op : Word → Word → Word) : Nat → List Word → List Word
  | 0, l => l
  | k + 1, l => pairLevels op k (pairUp op l)

/-- R274 step 1. Lane `j` combines the elements of the chunks in ascending order. -/
def lanes (op : Word → Word → Word) (l : List Word) : Nat → List Word
  | 0 => l.take 1024
  | k + 1 => List.zipWith op (lanes op l k) ((l.drop (1024 * (k + 1))).take 1024)

/-- R274. The fixed tree over a row, padded with the identity to a multiple of 1,024. -/
def redTree (op : Word → Word → Word) (ident : Word) (l : List Word) : Word :=
  let n := ceilDiv l.length 1024
  let p := l ++ List.replicate (n * 1024 - l.length) ident
  (pairLevels op 10 (lanes op p (n - 1))).getD 0 ident

/-- R274, R275. SUM, MAX and MIN trees. -/
def treeSum (l : List Word) : Word := redTree fAdd 0x80000000#32 l
/-- R275. -/
def treeMax (l : List Word) : Word := redTree fMax f32NegInf l
/-- R275. -/
def treeMin (l : List Word) : Word := redTree fMin f32Inf l

/-- The lowest index of an element that no earlier element reaches under the key order `better`. -/
def argBest (better : Int → Int → Bool) : List Int → Nat → Nat → Option Int → Nat
  | [], _, best, _ => best
  | k :: t, i, best, cur =>
    match cur with
    | none => argBest better t (i + 1) i (some k)
    | some c => if better k c then argBest better t (i + 1) i (some k) else argBest better t (i + 1) best (some c)

/-- R275. ARGMAX and ARGMIN of FP32 elements: the first NaN if any, else the lowest index of the extreme. -/
def argF32 (least : Bool) (l : List Word) : Nat :=
  match l.findIdx? isNan with
  | some i => i
  | none => argBest (fun a b => if least then a < b else b < a) (l.map f32Key) 0 0 none

/-- R156, R274, R275. One row of VC.RED: `raw` are the elements as 32 bits, INT32 when `xin` is 3. -/
def reduceRow (op xin : Nat) (raw : List Word) : Word :=
  let f := if xin = 3 then raw.map (fun w => f32OfInt w.toInt) else raw
  match op with
  | 0 => treeSum f
  | 1 => treeMax f
  | 2 => treeMin f
  | 3 => treeSum (f.map (fun w => fMul w w))
  | 4 =>
    BitVec.ofNat 32 (if xin = 3 then argBest (fun a b => b < a) (raw.map BitVec.toInt) 0 0 none else argF32 false f)
  | _ =>
    BitVec.ofNat 32 (if xin = 3 then argBest (fun a b => a < b) (raw.map BitVec.toInt) 0 0 none else argF32 true f)

/-- R157, R278. A soft-maximum state. -/
structure SmState where
  m : Word
  l : Word
  c : Word
  empty : Bool
  inf : Bool
  nan : Bool
  deriving DecidableEq, Repr

/-- R278. The initial state. -/
def SmState.init : SmState := ⟨f32NegInf, 0, f32One, true, false, false⟩

/-- R157, R278. The state of a 16-byte record; an all-zero record is the initial state. -/
def SmState.ofRecord (x : Nat) : SmState :=
  if x % 2 ^ 128 = 0 then SmState.init
  else ⟨BitVec.ofNat 32 (bits x 0 32), BitVec.ofNat 32 (bits x 32 32), BitVec.ofNat 32 (bits x 64 32),
        bit x 96, bit x 97, bit x 98⟩

/-- R157. The 16-byte record of a state. -/
def SmState.record (s : SmState) : Nat :=
  s.m.toNat + 2 ^ 32 * s.l.toNat + 2 ^ 64 * s.c.toNat +
    2 ^ 96 * (b2n s.empty + 2 * b2n s.inf + 4 * b2n s.nan)

/-- R279. chunk(): the weights of a chunk and the folded state. -/
def smChunk (xs : List (Word × Bool)) (st : SmState) : List Word × SmState :=
  let present := xs.filter (·.2)
  let k := (present.filter (fun x => x.1 == f32Inf)).length
  if st.nan || present.any (fun x => isNan x.1) then
    (xs.map (fun _ => qnan), ⟨qnan, qnan, qnan, false, false, true⟩)
  else if st.inf || k > 0 then
    (xs.map (fun x => if x.2 && x.1 == f32Inf then f32One else 0),
     ⟨f32Inf, if st.inf then (Val.add (ofF32 st.l) (.fin false k 0)).toF32 else f32OfInt k,
      if st.inf then f32One else 0, false, true, false⟩)
  else
    let mx := treeMax (xs.map (fun x => if x.2 then x.1 else f32NegInf))
    let m1 := fMax st.m mx
    if m1 = f32NegInf then (xs.map (fun _ => 0), ⟨f32NegInf, 0, f32One, true, false, false⟩)
    else
      let c := fExp (fSub st.m m1)
      let w := xs.map (fun x => if x.2 then fExp (fSub x.1 m1) else 0)
      (w, ⟨m1, fAdd (fMul st.l c) (treeSum w), c, false, false, false⟩)

/-- R280, R281. The output of a position with weight or accumulated output `o` under state `st`. -/
def smOut (st : SmState) (o : Word) : Word :=
  if st.nan then qnan else if st.empty then 0 else fDivAway o st.l

/-- R280. ONESHOT: the outputs and the state. -/
def smOneshot (xs : List (Word × Bool)) : List Word × SmState :=
  let r := smChunk xs SmState.init
  (r.1.map (smOut r.2), r.2)

/-- R158. VC.CMP: the elements whose mask bit is 1, in index order. -/
def compressElems (xs : List Nat) (mask : Nat) : List Nat :=
  ((xs.zipIdx).filter (fun x => bit mask x.2)).map (·.1)

/-- R158. VC.EXP: element `i` is the next packed element where mask bit `i` is 1, else zero. -/
def expandElems (mask : Nat) : Nat → Nat → List Nat → List Nat
  | 0, _, _ => []
  | k + 1, i, packed =>
    if bit mask i then
      match packed with
      | [] => 0 :: expandElems mask k (i + 1) []
      | p :: t => p :: expandElems mask k (i + 1) t
    else 0 :: expandElems mask k (i + 1) packed

end Sys2Proof.Machine
end

