-- ==== Sys2Proof/Machine/DataTypes.lean ====
section
/-!
DEFINITION. What the data path and the sequencer hold besides registers: tensors, command descriptors, commands in
flight, skein slots, arrays, chains, the hot motif region, link staging, roster entries and steps.
-/

namespace Sys2Proof.Machine

/-- R321. The four tiers. -/
inductive Tier where
  | near | deep | borrowed | host
  deriving DecidableEq, Repr

/-- R324. The KIND of a tensor. -/
inductive TKind where
  | data | scale | kv | motif | swatch | code | context | moveDesc | base
  deriving DecidableEq, Repr

/-- R324. A Tensor Table entry (its key is the function and index). `loc` is the first line address in NEAR, the deep
logical unit in DEEP, R325's packed word in BORROWED and the registration index in HOST. -/
structure Tensor where
  fn : Nat
  idx : Nat
  gen : Nat
  tier : Tier
  kind : TKind
  dirty : Bool
  incomplete : Bool
  pinned : Bool
  homeSet : Bool
  readOnly : Bool
  poisoned : Bool
  moving : Bool
  parked : Bool
  format : Nat
  keyIndex : Nat
  size : Nat
  loc : Nat
  home : Nat
  wseq : Nat
  scaleLink : Nat
  kspec : Nat
  lastUse : Nat
  dirtyRow : Nat
  deriving DecidableEq, Repr

/-- R323. A 48-bit handle. -/
structure Handle where
  fn : Nat
  gen : Nat
  idx : Nat
  deriving DecidableEq, Repr

/-- R323. The handle whose bits are `n`. -/
def Handle.ofNat (n : Nat) : Handle := ⟨bits n 37 11, bits n 24 13, bits n 0 24⟩

/-- R323. The 48 bits of a handle. -/
def Handle.toNat (h : Handle) : Nat := h.fn * 2 ^ 37 + h.gen * 2 ^ 24 + h.idx

/-- R323. The handle "none". -/
def Handle.none : Handle := ⟨0, 0, 0⟩

/-- The Tensor Table key of a function's index. -/
def ttKey (fn idx : Nat) : Nat := fn * 2 ^ 24 + idx

/-- R117. The ROLE of an operand. -/
inductive Role where
  | inp | out | inScale | outScale | kv
  deriving DecidableEq, Repr

/-- R117. The role of a code; `none` for a reserved one. -/
def Role.ofCode (n : Nat) : Option Role :=
  match n with
  | 1 => some .inp
  | 2 => some .out
  | 3 => some .inScale
  | 4 => some .outScale
  | 5 => some .kv
  | _ => none

/-- R117. The code of a role. -/
def Role.code (r : Role) : Nat :=
  match r with
  | .inp => 1
  | .out => 2
  | .inScale => 3
  | .outScale => 4
  | .kv => 5

/-- R117. One operand entry of a descriptor: a handle, a role code and its reserved bits. -/
structure OperandEntry where
  handle : Handle
  role : Nat
  rsvd : Nat
  deriving DecidableEq, Repr

/-- R122. A precondition: KIND, its reserved bits, EXPECTED and OBJECT. -/
structure Precond where
  kind : Nat
  rsvd : Nat
  expected : Nat
  object : Nat
  deriving DecidableEq, Repr

/-- R516. No precondition. -/
def Precond.none : Precond := ⟨0, 0, 0, 0⟩

/-- R125. A conflict report in the layout of R122. -/
structure Conflict where
  kind : Nat
  found : Nat
  object : Nat
  deriving DecidableEq, Repr

/-- R116. A command descriptor. `rsvd` is the sum of its reserved fields and of the operand entries past
OPERAND_COUNT; KIND is 1 SERVE, 2 TRAIN, 3 KERNEL, 4 MOVE. -/
structure Descriptor where
  verMajor : Nat
  verMinor : Nat
  kind : Nat
  fn : Nat
  flags : Nat
  commandId : Nat
  code : Handle
  precond : Precond
  operands : List OperandEntry
  scalars : List Word
  motif : Handle
  rsvd : Nat
  deriving DecidableEq, Repr

/-- A descriptor that names nothing. -/
def Descriptor.empty : Descriptor :=
  ⟨1, 0, 1, 0, 0, 0, Handle.none, Precond.none, [], [], Handle.none, 0⟩

/-- R116. The descriptor that 256 bytes spell. -/
def Descriptor.ofBytes (l : List Byte) : Descriptor :=
  let n := leField l 3 1
  let ent (i : Nat) : OperandEntry :=
    let x := leField l (32 + 8 * i) 8
    ⟨Handle.ofNat (bits x 0 48), bits x 48 4, bits x 52 12⟩
  let pc := leField l 24 8
  { verMajor := leField l 0 1
    verMinor := leField l 1 1
    kind := leField l 2 1
    fn := bits (leField l 4 2) 0 11
    flags := leField l 6 2
    commandId := leField l 8 8
    code := Handle.ofNat (leField l 16 6)
    precond := ⟨bits pc 0 4, bits pc 4 4, bits pc 8 8, bits pc 16 48⟩
    operands := (List.range (min n 16)).map ent
    scalars := (List.range 8).map (fun i => BitVec.ofNat 32 (leField l (160 + 4 * i) 4))
    motif := Handle.ofNat (leField l 192 6)
    rsvd := bits (leField l 4 2) 11 5 + leField l 22 2 + leField l 198 58 +
      (if n = 0 ∨ 16 < n then 1 else leField l (32 + 8 * n) (8 * (16 - n))) }

/-- R112, R108. A staged seam-link item or completion record waiting in a slot's commit buffer. -/
structure Record where
  fn : Nat
  tag : Nat
  seqId : Nat
  value : Nat
  position : Nat
  lastSlice : Bool
  sample : Bool
  deriving DecidableEq, Repr

/-- R142. A move handed over at the commit point: the tensor of descriptors and an index in it. -/
structure MoveRef where
  table : Handle
  index : Nat
  deriving DecidableEq, Repr

/-- R82, R83, R94 to R97. A command in flight or placed. `dies` are the dies on which it must start, `started` and
`marked` those on which its CMD_START and its CM.MARK COMMIT retired; `writes` are the tier writes issued and not
yet acknowledged, each as die, opcode and index of its instruction, `dests` all destinations written; `rng` are the working copies of streams (function ×
16 + stream), `staged` the copies CM.CTX staged; `queue` is the submission queue of its entry, `graph` its graph. -/
structure Cmd where
  desc : Descriptor
  cslot : Nat
  dies : List Nat
  firstRow : Nat
  rows : Nat
  ctag : Nat
  started : List Nat
  marked : List Nat
  committed : Bool
  frogged : Bool
  writeFailed : Bool
  writes : List (Nat × Nat × Nat)
  dests : List Nat
  sends : List Nat
  recvs : List (Nat × Nat)
  rng : List (Nat × Stream)
  staged : List (Nat × Stream)
  records : List Record
  doneStaged : Bool
  moves : List MoveRef
  mark : Nat
  markRow : Nat
  frogs : Nat
  queue : Nat
  sqIndex : Nat
  graph : Nat
  gap : Bool
  step : Bool
  deriving DecidableEq, Repr

/-- A command of descriptor `d` placed in slot `cslot` on `dies` from row `row`. -/
def Cmd.place (d : Descriptor) (cslot : Nat) (dies : List Nat) (row rows : Nat) : Cmd :=
  { desc := d, cslot := cslot, dies := dies, firstRow := row, rows := rows, ctag := 0, started := [], marked := [],
    committed := false, frogged := false, writeFailed := false, writes := [], dests := [], sends := [], recvs := [],
    rng := [], staged := [], records := [], doneStaged := false, moves := [], mark := 0, markRow := 0, frogs := 0,
    queue := 0, sqIndex := 0, graph := 0, gap := false, step := false }

/-- R83, R84, R464. A command slot in flight on a die: its command, its allotment, and the model slots whose grant it
holds, one bit each. -/
structure Slot where
  cid : Nat
  first : Nat
  count : Nat
  grants : Nat
  deriving DecidableEq, Repr

/-- R205, R207. One matrix array with its motif pair. Every entry carries the command slot that wrote it (R130); a rank row
also whether a transposed run wrote it (R149). -/
structure ArrayUnit where
  shadow : Option (Nat × Tile)
  cells : Option (Nat × Tile)
  acc : List (Nat × (Nat × Nat))
  rank : List (Nat × (Nat × Bool × Nat))
  wgrad : Option (Nat × List (Nat × Word))
  ramp : Bool
  deriving DecidableEq, Repr

/-- An array that holds nothing. -/
def ArrayUnit.empty : ArrayUnit := ⟨none, none, [], [], none, false⟩

/-- R234. A hot-slot record. STATE is 0 FREE, 1 BOUND, 2 DRAINING. -/
structure HotSlot where
  handle : Handle
  fn : Nat
  state : Nat
  model : Nat
  train : Bool
  rank : Nat
  line : Nat
  gen : Nat
  digest : BitVec 256
  targets : BitVec 256
  deriving DecidableEq, Repr

/-- R239. A hot area: the command slot and target of its last stream, its lines, and whether writes are pending. -/
structure HotArea where
  cslot : Nat
  target : Nat
  lines : List LineData
  deriving DecidableEq, Repr

/-- R237. A stream that a segment table has triggered on a die and that has not run. -/
structure StreamReq where
  die : Nat
  cslot : Nat
  table : Nat
  deriving DecidableEq, Repr

/-- R139, R140. A fetch whose lines are still pending: destination, source tensor and range, stale completions. -/
structure FetchReq where
  id : Nat
  cid : Nat
  die : Nat
  cslot : Nat
  dst : Nat
  handle : Handle
  offset : Nat
  count : Nat
  stales : Nat
  info : Nat
  op : Nat
  deriving DecidableEq, Repr

/-- R164 TRACE. One entry of the operator trace buffer (R170). -/
structure TraceEntry where
  value : Nat
  row : Nat
  cycle : Nat
  cslot : Nat
  deriving DecidableEq, Repr

/-- R68. A roster entry, and the swatch list it names (R69). -/
structure RosterEntry where
  seqId : Nat
  fn : Nat
  motifSlot : Nat
  segment : Nat
  position : Nat
  tokCount : Nat
  tokOffset : Nat
  kv : Handle
  rngStream : Nat
  swatchCount : Nat
  prefill : Bool
  lastSlice : Bool
  sample : Bool
  swIndex : Nat
  tag : Nat
  rsvd : Nat
  deriving DecidableEq, Repr

/-- R67. A decoded roster. -/
structure Roster where
  step : Nat
  template : Nat
  tokTotal : Nat
  segments : Nat
  model : Nat
  entries : List RosterEntry
  swLists : List (List Handle)
  rsvd : Nat
  deriving DecidableEq, Repr

/-- R69. The swatches of a roster entry. -/
def Roster.swatchesOf (r : Roster) (e : RosterEntry) : List Handle :=
  if e.swatchCount = 0 then [] else (r.swLists.getD e.swIndex []).take e.swatchCount

/-- R628. One entry of a template's command table. -/
structure TemplateCmd where
  firstRow : Nat
  rows : Nat
  cslot : Nat
  dies : List Nat
  desc : Descriptor
  rsvd : Nat
  deriving DecidableEq, Repr

/-- R72. One row record: its instruction streams (die × 8 + stage, as words), its power profile, the links whose tokens
it awaits and sends, its flags and its ramp target. -/
structure RowRecord where
  streams : List (List TWord)
  power : List Nat
  upstream : Nat
  downstream : Nat
  ramp : Bool
  stepFirst : Bool
  stepLast : Bool
  target : Nat
  rsvd : Nat
  deriving DecidableEq, Repr

/-- R72. A template and its directory entry. -/
structure Template where
  id : Nat
  model : Nat
  level : Nat
  verified : Bool
  ctxClass : Nat
  seqCap : Nat
  tokCap : Nat
  rows : List RowRecord
  cmds : List TemplateCmd
  offset : Nat
  length : Nat
  digest : BitVec 256
  dir : Nat
  deriving DecidableEq, Repr

/-- R400 to R408. A staged item: link, sender's tag, item number, class, its lines in all and those arrived; whether its marker arrived and whether a
command consumed it (R100, R101). -/
structure Staged where
  link : Nat
  ctag : Nat
  seq : Nat
  cls : Nat
  total : Nat
  lines : List LineData
  committed : Bool
  consumer : Nat
  deriving DecidableEq, Repr

end Sys2Proof.Machine
end

