-- ==== Sys2Proof/Machine/Registers.lean ====
section
/-!
DEFINITION. The register map: every field of every register table of the spec (offset in BAR0, lowest bit, width,
access code, Reset value), as R81, R126, R138, R224, R255, R288, R308, R320, R364, R365, R389, R424, R454, R455,
R494, R527, R528, R553, R582, R583, R601 and R624 give them, one definition a field. `own` marks a field whose write
has a behaviour of its own (a row of the command table); every other write follows the access code alone (R6).
-/

namespace Sys2Proof.Machine

/-- R6. The access codes of a register field. -/
inductive Access where
  | ro | rw | rw1c | w1s | wo | rc | rs
  deriving DecidableEq, Repr

/-- One field of a register: byte offset in BAR0, lowest bit, width, access code, Reset value (R7), and whether a
write of it has a behaviour of its own. -/
structure Fld where
  off : Nat
  lo : Nat
  width : Nat
  acc : Access
  rst : Nat
  own : Bool
  deriving DecidableEq, Repr

namespace Reg

/-- R527. GLB_FN_ID: function number; reads this value whenever the function is present, DISABLED included, and keeps it through FLR. -/
def GLB_FN_ID_FUNCTION : Fld := ⟨0x0, 0, 11, .ro, 0, false⟩
/-- R527. GLB_FN_ID: mailbox minor version. -/
def GLB_FN_ID_MSG_MINOR : Fld := ⟨0x0, 16, 8, .ro, 1, false⟩
/-- R527. GLB_FN_ID: mailbox major version; [15:11] reserved. -/
def GLB_FN_ID_MSG_MAJOR : Fld := ⟨0x0, 24, 8, .ro, 3, false⟩
/-- R527. GLB_FN_STATE: context-block STATE: 0 DISABLED, 1 ACTIVE, 2 PREEMPTED, 3 FAULTED. -/
def GLB_FN_STATE_STATE : Fld := ⟨0x4, 0, 2, .ro, 0, false⟩
/-- R527. GLB_FN_STATE: tenant key loaded. -/
def GLB_FN_STATE_KEY : Fld := ⟨0x4, 2, 1, .ro, 0, false⟩
/-- R527. GLB_FN_STATE: as SEC_FN_STAT.TDISP; [31:5] reserved. -/
def GLB_FN_STATE_TDISP : Fld := ⟨0x4, 3, 2, .ro, 0, false⟩
/-- R527. GLB_FN_NEAR_USED: NEAR_USED (R345). -/
def GLB_FN_NEAR_USED_MIB : Fld := ⟨0x8, 0, 32, .ro, 0, false⟩
/-- R527. GLB_FN_NEAR_LIMIT: NEAR_LIMIT; the PF's equals the module capacity. -/
def GLB_FN_NEAR_LIMIT_MIB : Fld := ⟨0xC, 0, 32, .ro, 0, false⟩
/-- R527. GLB_FN_DEEP_USED: DEEP_USED. -/
def GLB_FN_DEEP_USED_MIB : Fld := ⟨0x10, 0, 32, .ro, 0, false⟩
/-- R527. GLB_FN_DEEP_LIMIT: DEEP_LIMIT; the PF's equals the module capacity. -/
def GLB_FN_DEEP_LIMIT_MIB : Fld := ⟨0x14, 0, 32, .ro, 0, false⟩
/-- R527. GLB_FN_ERR: R502. -/
def GLB_FN_ERR_SQ_DOORBELL : Fld := ⟨0x18, 0, 1, .rw1c, 0, false⟩
/-- R527. GLB_FN_ERR: R502. -/
def GLB_FN_ERR_CQ_DOORBELL : Fld := ⟨0x18, 1, 1, .rw1c, 0, false⟩
/-- R527. GLB_FN_ERR: R501. -/
def GLB_FN_ERR_CFG_REJECT : Fld := ⟨0x18, 2, 1, .rw1c, 0, false⟩
/-- R527. GLB_FN_ERR: R503. -/
def GLB_FN_ERR_DMA_FAIL : Fld := ⟨0x18, 3, 1, .rw1c, 0, false⟩
/-- R527. GLB_FN_ERR: R508. -/
def GLB_FN_ERR_NOTE_LOST : Fld := ⟨0x18, 4, 1, .rw1c, 0, false⟩
/-- R527. GLB_FN_ERR: R511; [31:6] reserved. -/
def GLB_FN_ERR_MBX_DOORBELL : Fld := ⟨0x18, 5, 1, .rw1c, 0, false⟩
/-- R527. GLB_FN_INT_EN: enables for GLB_FN_ERR; [31:6] reserved. -/
def GLB_FN_INT_EN_EN : Fld := ⟨0x1C, 0, 6, .rw, 0, false⟩

/-- Part 0 of the fields of page0. -/
def page0_0 : List Fld :=
  [GLB_FN_ID_FUNCTION, GLB_FN_ID_MSG_MINOR, GLB_FN_ID_MSG_MAJOR, GLB_FN_STATE_STATE, GLB_FN_STATE_KEY, GLB_FN_STATE_TDISP, GLB_FN_NEAR_USED_MIB, GLB_FN_NEAR_LIMIT_MIB, GLB_FN_DEEP_USED_MIB, GLB_FN_DEEP_LIMIT_MIB, GLB_FN_ERR_SQ_DOORBELL, GLB_FN_ERR_CQ_DOORBELL, GLB_FN_ERR_CFG_REJECT, GLB_FN_ERR_DMA_FAIL, GLB_FN_ERR_NOTE_LOST, GLB_FN_ERR_MBX_DOORBELL, GLB_FN_INT_EN_EN]

/-- The fields of page0, in ascending order of offset and bit. -/
def page0 : List Fld := page0_0

/-- R527. HQ_SQ0_BASE_LO: queue address [31:6]; [5:0] reserved. -/
def HQ_SQ0_BASE_LO_BASE_LO : Fld := ⟨0x1000, 6, 26, .rw, 0, true⟩
/-- R527. HQ_SQ0_BASE_HI: address [63:32]. -/
def HQ_SQ0_BASE_HI_BASE_HI : Fld := ⟨0x1004, 0, 32, .rw, 0, true⟩
/-- R527. HQ_SQ0_CFG: entries − 1; legal 15–65,535. -/
def HQ_SQ0_CFG_SIZE : Fld := ⟨0x1008, 0, 16, .rw, 0xF, true⟩
/-- R527. HQ_SQ0_CFG: fetch enabled; [31:17] reserved. -/
def HQ_SQ0_CFG_EN : Fld := ⟨0x1008, 16, 1, .rw, 0, true⟩
/-- R527. HQ_SQ0_HEAD: R504; [31:16] reserved. -/
def HQ_SQ0_HEAD_HEAD : Fld := ⟨0x100C, 0, 16, .ro, 0, false⟩
/-- R527. HQ_SQ0_TAIL: last accepted tail; [31:16] reserved. -/
def HQ_SQ0_TAIL_TAIL : Fld := ⟨0x1010, 0, 16, .ro, 0, false⟩
/-- R527. HQ_SQ1_BASE_LO: queue address [31:6]; [5:0] reserved. -/
def HQ_SQ1_BASE_LO_BASE_LO : Fld := ⟨0x1020, 6, 26, .rw, 0, true⟩
/-- R527. HQ_SQ1_BASE_HI: address [63:32]. -/
def HQ_SQ1_BASE_HI_BASE_HI : Fld := ⟨0x1024, 0, 32, .rw, 0, true⟩
/-- R527. HQ_SQ1_CFG: entries − 1; legal 15–65,535. -/
def HQ_SQ1_CFG_SIZE : Fld := ⟨0x1028, 0, 16, .rw, 0xF, true⟩
/-- R527. HQ_SQ1_CFG: fetch enabled; [31:17] reserved. -/
def HQ_SQ1_CFG_EN : Fld := ⟨0x1028, 16, 1, .rw, 0, true⟩
/-- R527. HQ_SQ1_HEAD: R504; [31:16] reserved. -/
def HQ_SQ1_HEAD_HEAD : Fld := ⟨0x102C, 0, 16, .ro, 0, false⟩
/-- R527. HQ_SQ1_TAIL: last accepted tail; [31:16] reserved. -/
def HQ_SQ1_TAIL_TAIL : Fld := ⟨0x1030, 0, 16, .ro, 0, false⟩
/-- R527. HQ_SQ2_BASE_LO: queue address [31:6]; [5:0] reserved. -/
def HQ_SQ2_BASE_LO_BASE_LO : Fld := ⟨0x1040, 6, 26, .rw, 0, true⟩
/-- R527. HQ_SQ2_BASE_HI: address [63:32]. -/
def HQ_SQ2_BASE_HI_BASE_HI : Fld := ⟨0x1044, 0, 32, .rw, 0, true⟩
/-- R527. HQ_SQ2_CFG: entries − 1; legal 15–65,535. -/
def HQ_SQ2_CFG_SIZE : Fld := ⟨0x1048, 0, 16, .rw, 0xF, true⟩
/-- R527. HQ_SQ2_CFG: fetch enabled; [31:17] reserved. -/
def HQ_SQ2_CFG_EN : Fld := ⟨0x1048, 16, 1, .rw, 0, true⟩
/-- R527. HQ_SQ2_HEAD: R504; [31:16] reserved. -/
def HQ_SQ2_HEAD_HEAD : Fld := ⟨0x104C, 0, 16, .ro, 0, false⟩
/-- R527. HQ_SQ2_TAIL: last accepted tail; [31:16] reserved. -/
def HQ_SQ2_TAIL_TAIL : Fld := ⟨0x1050, 0, 16, .ro, 0, false⟩
/-- R527. HQ_SQ3_BASE_LO: queue address [31:6]; [5:0] reserved. -/
def HQ_SQ3_BASE_LO_BASE_LO : Fld := ⟨0x1060, 6, 26, .rw, 0, true⟩
/-- R527. HQ_SQ3_BASE_HI: address [63:32]. -/
def HQ_SQ3_BASE_HI_BASE_HI : Fld := ⟨0x1064, 0, 32, .rw, 0, true⟩
/-- R527. HQ_SQ3_CFG: entries − 1; legal 15–65,535. -/
def HQ_SQ3_CFG_SIZE : Fld := ⟨0x1068, 0, 16, .rw, 0xF, true⟩
/-- R527. HQ_SQ3_CFG: fetch enabled; [31:17] reserved. -/
def HQ_SQ3_CFG_EN : Fld := ⟨0x1068, 16, 1, .rw, 0, true⟩
/-- R527. HQ_SQ3_HEAD: R504; [31:16] reserved. -/
def HQ_SQ3_HEAD_HEAD : Fld := ⟨0x106C, 0, 16, .ro, 0, false⟩
/-- R527. HQ_SQ3_TAIL: last accepted tail; [31:16] reserved. -/
def HQ_SQ3_TAIL_TAIL : Fld := ⟨0x1070, 0, 16, .ro, 0, false⟩
/-- R527. HQ_SQ4_BASE_LO: queue address [31:6]; [5:0] reserved. -/
def HQ_SQ4_BASE_LO_BASE_LO : Fld := ⟨0x1080, 6, 26, .rw, 0, true⟩
/-- R527. HQ_SQ4_BASE_HI: address [63:32]. -/
def HQ_SQ4_BASE_HI_BASE_HI : Fld := ⟨0x1084, 0, 32, .rw, 0, true⟩
/-- R527. HQ_SQ4_CFG: entries − 1; legal 15–65,535. -/
def HQ_SQ4_CFG_SIZE : Fld := ⟨0x1088, 0, 16, .rw, 0xF, true⟩
/-- R527. HQ_SQ4_CFG: fetch enabled; [31:17] reserved. -/
def HQ_SQ4_CFG_EN : Fld := ⟨0x1088, 16, 1, .rw, 0, true⟩
/-- R527. HQ_SQ4_HEAD: R504; [31:16] reserved. -/
def HQ_SQ4_HEAD_HEAD : Fld := ⟨0x108C, 0, 16, .ro, 0, false⟩
/-- R527. HQ_SQ4_TAIL: last accepted tail; [31:16] reserved. -/
def HQ_SQ4_TAIL_TAIL : Fld := ⟨0x1090, 0, 16, .ro, 0, false⟩
/-- R527. HQ_SQ5_BASE_LO: queue address [31:6]; [5:0] reserved. -/
def HQ_SQ5_BASE_LO_BASE_LO : Fld := ⟨0x10A0, 6, 26, .rw, 0, true⟩
/-- R527. HQ_SQ5_BASE_HI: address [63:32]. -/
def HQ_SQ5_BASE_HI_BASE_HI : Fld := ⟨0x10A4, 0, 32, .rw, 0, true⟩
/-- R527. HQ_SQ5_CFG: entries − 1; legal 15–65,535. -/
def HQ_SQ5_CFG_SIZE : Fld := ⟨0x10A8, 0, 16, .rw, 0xF, true⟩
/-- R527. HQ_SQ5_CFG: fetch enabled; [31:17] reserved. -/
def HQ_SQ5_CFG_EN : Fld := ⟨0x10A8, 16, 1, .rw, 0, true⟩
/-- R527. HQ_SQ5_HEAD: R504; [31:16] reserved. -/
def HQ_SQ5_HEAD_HEAD : Fld := ⟨0x10AC, 0, 16, .ro, 0, false⟩
/-- R527. HQ_SQ5_TAIL: last accepted tail; [31:16] reserved. -/
def HQ_SQ5_TAIL_TAIL : Fld := ⟨0x10B0, 0, 16, .ro, 0, false⟩
/-- R527. HQ_SQ6_BASE_LO: queue address [31:6]; [5:0] reserved. -/
def HQ_SQ6_BASE_LO_BASE_LO : Fld := ⟨0x10C0, 6, 26, .rw, 0, true⟩
/-- R527. HQ_SQ6_BASE_HI: address [63:32]. -/
def HQ_SQ6_BASE_HI_BASE_HI : Fld := ⟨0x10C4, 0, 32, .rw, 0, true⟩
/-- R527. HQ_SQ6_CFG: entries − 1; legal 15–65,535. -/
def HQ_SQ6_CFG_SIZE : Fld := ⟨0x10C8, 0, 16, .rw, 0xF, true⟩
/-- R527. HQ_SQ6_CFG: fetch enabled; [31:17] reserved. -/
def HQ_SQ6_CFG_EN : Fld := ⟨0x10C8, 16, 1, .rw, 0, true⟩
/-- R527. HQ_SQ6_HEAD: R504; [31:16] reserved. -/
def HQ_SQ6_HEAD_HEAD : Fld := ⟨0x10CC, 0, 16, .ro, 0, false⟩
/-- R527. HQ_SQ6_TAIL: last accepted tail; [31:16] reserved. -/
def HQ_SQ6_TAIL_TAIL : Fld := ⟨0x10D0, 0, 16, .ro, 0, false⟩
/-- R527. HQ_SQ7_BASE_LO: queue address [31:6]; [5:0] reserved. -/
def HQ_SQ7_BASE_LO_BASE_LO : Fld := ⟨0x10E0, 6, 26, .rw, 0, true⟩
/-- R527. HQ_SQ7_BASE_HI: address [63:32]. -/
def HQ_SQ7_BASE_HI_BASE_HI : Fld := ⟨0x10E4, 0, 32, .rw, 0, true⟩
/-- R527. HQ_SQ7_CFG: entries − 1; legal 15–65,535. -/
def HQ_SQ7_CFG_SIZE : Fld := ⟨0x10E8, 0, 16, .rw, 0xF, true⟩
/-- R527. HQ_SQ7_CFG: fetch enabled; [31:17] reserved. -/
def HQ_SQ7_CFG_EN : Fld := ⟨0x10E8, 16, 1, .rw, 0, true⟩
/-- R527. HQ_SQ7_HEAD: R504; [31:16] reserved. -/
def HQ_SQ7_HEAD_HEAD : Fld := ⟨0x10EC, 0, 16, .ro, 0, false⟩
/-- R527. HQ_SQ7_TAIL: last accepted tail; [31:16] reserved. -/
def HQ_SQ7_TAIL_TAIL : Fld := ⟨0x10F0, 0, 16, .ro, 0, false⟩
/-- R527. HQ_CQ_BASE_LO: queue address [31:6]; [5:0] reserved. -/
def HQ_CQ_BASE_LO_BASE_LO : Fld := ⟨0x1100, 6, 26, .rw, 0, true⟩
/-- R527. HQ_CQ_BASE_HI: address [63:32]. -/
def HQ_CQ_BASE_HI_BASE_HI : Fld := ⟨0x1104, 0, 32, .rw, 0, true⟩
/-- R527. HQ_CQ_CFG: entries − 1; legal 63–65,535. -/
def HQ_CQ_CFG_SIZE : Fld := ⟨0x1108, 0, 16, .rw, 0x3F, true⟩
/-- R527. HQ_CQ_CFG: queue enabled; [31:17] reserved. -/
def HQ_CQ_CFG_EN : Fld := ⟨0x1108, 16, 1, .rw, 0, true⟩
/-- R527. HQ_CQ_TAIL: next entry to be written. -/
def HQ_CQ_TAIL_TAIL : Fld := ⟨0x110C, 0, 16, .ro, 0, false⟩
/-- R527. HQ_CQ_TAIL: PHASE of that entry; [31:17] reserved. -/
def HQ_CQ_TAIL_PHASE : Fld := ⟨0x110C, 16, 1, .ro, 1, false⟩
/-- R527. HQ_CQ_HEAD: last accepted head; [31:16] reserved. -/
def HQ_CQ_HEAD_HEAD : Fld := ⟨0x1110, 0, 16, .ro, 0, false⟩
/-- R527. HQ_CQ_COALESCE: R509. -/
def HQ_CQ_COALESCE_COUNT : Fld := ⟨0x1114, 0, 8, .rw, 0, false⟩
/-- R527. HQ_CQ_COALESCE: R509; [31:24] reserved. -/
def HQ_CQ_COALESCE_TIME_US : Fld := ⟨0x1114, 8, 16, .rw, 0, false⟩
/-- R527. HQ_CQ_CREDIT: R508; [31:17] reserved. -/
def HQ_CQ_CREDIT_CREDIT : Fld := ⟨0x1118, 0, 17, .ro, 0, false⟩
/-- R527. HQ_NOTES_WAIT: notifications waiting, 0–64; [31:7] reserved. -/
def HQ_NOTES_WAIT_WAIT : Fld := ⟨0x111C, 0, 7, .ro, 0, false⟩

/-- Part 0 of the fields of page1. -/
def page1_0 : List Fld :=
  [HQ_SQ0_BASE_LO_BASE_LO, HQ_SQ0_BASE_HI_BASE_HI, HQ_SQ0_CFG_SIZE, HQ_SQ0_CFG_EN, HQ_SQ0_HEAD_HEAD, HQ_SQ0_TAIL_TAIL, HQ_SQ1_BASE_LO_BASE_LO, HQ_SQ1_BASE_HI_BASE_HI, HQ_SQ1_CFG_SIZE, HQ_SQ1_CFG_EN, HQ_SQ1_HEAD_HEAD, HQ_SQ1_TAIL_TAIL, HQ_SQ2_BASE_LO_BASE_LO, HQ_SQ2_BASE_HI_BASE_HI, HQ_SQ2_CFG_SIZE, HQ_SQ2_CFG_EN, HQ_SQ2_HEAD_HEAD, HQ_SQ2_TAIL_TAIL, HQ_SQ3_BASE_LO_BASE_LO, HQ_SQ3_BASE_HI_BASE_HI, HQ_SQ3_CFG_SIZE, HQ_SQ3_CFG_EN, HQ_SQ3_HEAD_HEAD, HQ_SQ3_TAIL_TAIL]

/-- Part 1 of the fields of page1. -/
def page1_1 : List Fld :=
  [HQ_SQ4_BASE_LO_BASE_LO, HQ_SQ4_BASE_HI_BASE_HI, HQ_SQ4_CFG_SIZE, HQ_SQ4_CFG_EN, HQ_SQ4_HEAD_HEAD, HQ_SQ4_TAIL_TAIL, HQ_SQ5_BASE_LO_BASE_LO, HQ_SQ5_BASE_HI_BASE_HI, HQ_SQ5_CFG_SIZE, HQ_SQ5_CFG_EN, HQ_SQ5_HEAD_HEAD, HQ_SQ5_TAIL_TAIL, HQ_SQ6_BASE_LO_BASE_LO, HQ_SQ6_BASE_HI_BASE_HI, HQ_SQ6_CFG_SIZE, HQ_SQ6_CFG_EN, HQ_SQ6_HEAD_HEAD, HQ_SQ6_TAIL_TAIL, HQ_SQ7_BASE_LO_BASE_LO, HQ_SQ7_BASE_HI_BASE_HI, HQ_SQ7_CFG_SIZE, HQ_SQ7_CFG_EN, HQ_SQ7_HEAD_HEAD, HQ_SQ7_TAIL_TAIL]

/-- Part 2 of the fields of page1. -/
def page1_2 : List Fld :=
  [HQ_CQ_BASE_LO_BASE_LO, HQ_CQ_BASE_HI_BASE_HI, HQ_CQ_CFG_SIZE, HQ_CQ_CFG_EN, HQ_CQ_TAIL_TAIL, HQ_CQ_TAIL_PHASE, HQ_CQ_HEAD_HEAD, HQ_CQ_COALESCE_COUNT, HQ_CQ_COALESCE_TIME_US, HQ_CQ_CREDIT_CREDIT, HQ_NOTES_WAIT_WAIT]

/-- The fields of page1, in ascending order of offset and bit. -/
def page1 : List Fld := page1_0 ++ page1_1 ++ page1_2

/-- R527. MBX_STATUS: R511. -/
def MBX_STATUS_BUSY : Fld := ⟨0x2000, 0, 1, .ro, 0, false⟩
/-- R527. MBX_STATUS: a reply was placed. -/
def MBX_STATUS_DONE : Fld := ⟨0x2000, 1, 1, .rw1c, 0, false⟩
/-- R527. MBX_STATUS: ASYNC requests outstanding, 0–16; [7:2] and [31:13] reserved. -/
def MBX_STATUS_ASYNC_OUT : Fld := ⟨0x2000, 8, 5, .ro, 0, false⟩

/-- Part 0 of the fields of page2. -/
def page2_0 : List Fld :=
  [MBX_STATUS_BUSY, MBX_STATUS_DONE, MBX_STATUS_ASYNC_OUT]

/-- The fields of page2, in ascending order of offset and bit. -/
def page2 : List Fld := page2_0

/-- R528. GLB_ID: DN7-M288. -/
def GLB_ID_PART : Fld := ⟨0x8000, 0, 16, .ro, 0xD007, false⟩
/-- R528. GLB_ID: die stepping; [31:24] reserved. -/
def GLB_ID_STEPPING : Fld := ⟨0x8000, 16, 8, .ro, 0x10, false⟩
/-- R528. GLB_SERIAL_LO: serial number [31:0]. -/
def GLB_SERIAL_LO_SERIAL_LO : Fld := ⟨0x8004, 0, 32, .ro, 0, false⟩
/-- R528. GLB_SERIAL_HI: serial number [63:32]. -/
def GLB_SERIAL_HI_SERIAL_HI : Fld := ⟨0x8008, 0, 32, .ro, 0, false⟩
/-- R528. GLB_FW: Firmware Complex major [23:16], minor [15:8], patch [7:0]; [31:24] reserved. -/
def GLB_FW_VERSION : Fld := ⟨0x800C, 0, 24, .ro, 0, false⟩
/-- R528. GLB_STATUS: cast-on complete (R523). -/
def GLB_STATUS_READY : Fld := ⟨0x8010, 0, 1, .ro, 1, false⟩
/-- R528. GLB_STATUS: R466. -/
def GLB_STATUS_RECOVERY : Fld := ⟨0x8010, 1, 1, .ro, 0, false⟩
/-- R528. GLB_STATUS: R525. -/
def GLB_STATUS_HOLDUP_READY : Fld := ⟨0x8010, 2, 1, .ro, 0, false⟩
/-- R528. GLB_STATUS: mirror of TNK_STATUS.FLUSH_READY. -/
def GLB_STATUS_FLUSH_READY : Fld := ⟨0x8010, 3, 1, .ro, 0, false⟩
/-- R528. GLB_STATUS: 4: 16 GT/s, 5: 32 GT/s, 6: 64 GT/s; 0 link down. -/
def GLB_STATUS_LINK_GEN : Fld := ⟨0x8010, 4, 3, .ro, 0, false⟩
/-- R528. GLB_STATUS: trained lanes. -/
def GLB_STATUS_LINK_WIDTH : Fld := ⟨0x8010, 7, 5, .ro, 0, false⟩
/-- R528. GLB_STATUS: FLIT mode; [31:13] reserved. -/
def GLB_STATUS_FLIT : Fld := ⟨0x8010, 12, 1, .ro, 0, false⟩
/-- R528. GLB_STAGE_BASE_LO: BAR4 near-tier address [31:20]; [19:0] reserved. -/
def GLB_STAGE_BASE_LO_BASE_LO : Fld := ⟨0x8014, 20, 12, .rw, 0, false⟩
/-- R528. GLB_STAGE_BASE_HI: address [39:32]; [31:8] reserved. -/
def GLB_STAGE_BASE_HI_BASE_HI : Fld := ⟨0x8018, 0, 8, .rw, 0, false⟩
/-- R528. GLB_HOLDUP: usable bank energy, mJ. -/
def GLB_HOLDUP_ENERGY_MJ : Fld := ⟨0x801C, 0, 16, .ro, 0, false⟩
/-- R528. GLB_HOLDUP: bank failed its self-check; [31:17] reserved. -/
def GLB_HOLDUP_BANK_FAULT : Fld := ⟨0x801C, 16, 1, .ro, 0, false⟩
/-- R528. GLB_HOST_ERR: R524. -/
def GLB_HOST_ERR_LINK_DOWN : Fld := ⟨0x8020, 0, 1, .rw1c, 0, false⟩
/-- R528. GLB_HOST_ERR: any function's DMA failed. -/
def GLB_HOST_ERR_DMA_FAIL : Fld := ⟨0x8020, 1, 1, .rw1c, 0, false⟩
/-- R528. GLB_HOST_ERR: R525; [31:3] reserved. -/
def GLB_HOST_ERR_HOLDUP_LOST : Fld := ⟨0x8020, 2, 1, .rw1c, 0, false⟩
/-- R528. GLB_HOST_INT_EN: enables for GLB_HOST_ERR; [31:3] reserved. -/
def GLB_HOST_INT_EN_EN : Fld := ⟨0x8024, 0, 3, .rw, 0, false⟩
/-- R528. GLB_SCRATCH: no effect. -/
def GLB_SCRATCH_DATA : Fld := ⟨0x8028, 0, 32, .rw, 0, false⟩
/-- R553. GLB_FW_STATUS: every component running. -/
def GLB_FW_STATUS_COMPLEX_UP : Fld := ⟨0x8040, 0, 1, .ro, 1, false⟩
/-- R553. GLB_FW_STATUS: a complex reset is in progress (R541). -/
def GLB_FW_STATUS_RESETTING : Fld := ⟨0x8040, 1, 1, .ro, 0, false⟩
/-- R553. GLB_FW_STATUS: a PLDM update session is open. -/
def GLB_FW_STATUS_UPDATE_OPEN : Fld := ⟨0x8040, 2, 1, .ro, 0, false⟩
/-- R553. GLB_FW_STATUS: the Debug Module is active. -/
def GLB_FW_STATUS_DEBUG_ACTIVE : Fld := ⟨0x8040, 3, 1, .ro, 0, false⟩
/-- R553. GLB_FW_STATUS: bit c: core c is halted by debug. -/
def GLB_FW_STATUS_HALTED : Fld := ⟨0x8040, 4, 4, .ro, 0, false⟩
/-- R553. GLB_FW_STATUS: bit i: component i is restarting. -/
def GLB_FW_STATUS_FAILED : Fld := ⟨0x8040, 8, 7, .ro, 0, false⟩
/-- R553. GLB_FW_BANKS: bit k: bank B is active for class k. -/
def GLB_FW_BANKS_ACTIVE_B : Fld := ⟨0x8044, 0, 4, .ro, 0, false⟩
/-- R553. GLB_FW_BANKS: bit k: an image of class k is pending. -/
def GLB_FW_BANKS_PENDING : Fld := ⟨0x8044, 4, 4, .ro, 0, false⟩
/-- R553. GLB_FW_BANKS: bit k: class k runs a trial (R549). -/
def GLB_FW_BANKS_TRIAL : Fld := ⟨0x8044, 8, 4, .ro, 0, false⟩
/-- R553. GLB_FW_BANKS: bit k: the inactive bank of class k is empty or failed. -/
def GLB_FW_BANKS_OTHER_BAD : Fld := ⟨0x8044, 12, 4, .ro, 0, false⟩
/-- R553. GLB_FW_RESTARTS: component restarts. -/
def GLB_FW_RESTARTS_COUNT : Fld := ⟨0x8048, 0, 32, .rc, 0, false⟩
/-- R553. GLB_FW_RESETS: complex resets since cast-on. -/
def GLB_FW_RESETS_COUNT : Fld := ⟨0x804C, 0, 32, .ro, 0, false⟩
/-- R553. GLB_FW_ERR: a component was restarted. -/
def GLB_FW_ERR_RESTART : Fld := ⟨0x8050, 0, 1, .rw1c, 0, false⟩
/-- R553. GLB_FW_ERR: a complex reset occurred. -/
def GLB_FW_ERR_COMPLEX_RESET : Fld := ⟨0x8050, 1, 1, .rw1c, 0, false⟩
/-- R553. GLB_FW_ERR: a fault with CAUSE STACK was recorded. -/
def GLB_FW_ERR_STACK_FAULT : Fld := ⟨0x8050, 2, 1, .rw1c, 0, false⟩
/-- R553. GLB_FW_ERR: a trial was rolled back at the last cast-on. -/
def GLB_FW_ERR_ROLLBACK : Fld := ⟨0x8050, 3, 1, .rw1c, 0, false⟩
/-- R553. GLB_FW_ERR: the Debug Module was activated. -/
def GLB_FW_ERR_DEBUG_ATTACH : Fld := ⟨0x8050, 4, 1, .rw1c, 0, false⟩
/-- R553. GLB_FW_FAULT_SEL: fault record to read, 0–63. -/
def GLB_FW_FAULT_SEL_INDEX : Fld := ⟨0x8054, 0, 6, .rw, 0, false⟩
/-- R553. GLB_FW_FAULT_CMD: copy the selected record into GLB_FW_FAULT_DATA. -/
def GLB_FW_FAULT_CMD_READ : Fld := ⟨0x8058, 0, 1, .w1s, 0, true⟩
/-- R553. GLB_FW_FAULT_CMD: the copy completed. -/
def GLB_FW_FAULT_CMD_DONE : Fld := ⟨0x8058, 1, 1, .rw1c, 0, false⟩
/-- R553. GLB_FW_FAULT_CMD: no record at INDEX; the data reads zero. -/
def GLB_FW_FAULT_CMD_ABSENT : Fld := ⟨0x8058, 2, 1, .rw1c, 0, false⟩
/-- R553. GLB_FW_FAULT_NEWEST: index of the newest record; [31:6] reserved. -/
def GLB_FW_FAULT_NEWEST_INDEX : Fld := ⟨0x805C, 0, 6, .ro, 0, false⟩
/-- R553. GLB_FW_FAULT_DATA0: record words 0–15 in the layout of R544. -/
def GLB_FW_FAULT_DATA0_WORD : Fld := ⟨0x8060, 0, 32, .ro, 0, false⟩
/-- R553. GLB_FW_FAULT_DATA1: record words 0–15 in the layout of R544. -/
def GLB_FW_FAULT_DATA1_WORD : Fld := ⟨0x8064, 0, 32, .ro, 0, false⟩
/-- R553. GLB_FW_FAULT_DATA2: record words 0–15 in the layout of R544. -/
def GLB_FW_FAULT_DATA2_WORD : Fld := ⟨0x8068, 0, 32, .ro, 0, false⟩
/-- R553. GLB_FW_FAULT_DATA3: record words 0–15 in the layout of R544. -/
def GLB_FW_FAULT_DATA3_WORD : Fld := ⟨0x806C, 0, 32, .ro, 0, false⟩
/-- R553. GLB_FW_FAULT_DATA4: record words 0–15 in the layout of R544. -/
def GLB_FW_FAULT_DATA4_WORD : Fld := ⟨0x8070, 0, 32, .ro, 0, false⟩
/-- R553. GLB_FW_FAULT_DATA5: record words 0–15 in the layout of R544. -/
def GLB_FW_FAULT_DATA5_WORD : Fld := ⟨0x8074, 0, 32, .ro, 0, false⟩
/-- R553. GLB_FW_FAULT_DATA6: record words 0–15 in the layout of R544. -/
def GLB_FW_FAULT_DATA6_WORD : Fld := ⟨0x8078, 0, 32, .ro, 0, false⟩
/-- R553. GLB_FW_FAULT_DATA7: record words 0–15 in the layout of R544. -/
def GLB_FW_FAULT_DATA7_WORD : Fld := ⟨0x807C, 0, 32, .ro, 0, false⟩
/-- R553. GLB_FW_FAULT_DATA8: record words 0–15 in the layout of R544. -/
def GLB_FW_FAULT_DATA8_WORD : Fld := ⟨0x8080, 0, 32, .ro, 0, false⟩
/-- R553. GLB_FW_FAULT_DATA9: record words 0–15 in the layout of R544. -/
def GLB_FW_FAULT_DATA9_WORD : Fld := ⟨0x8084, 0, 32, .ro, 0, false⟩
/-- R553. GLB_FW_FAULT_DATA10: record words 0–15 in the layout of R544. -/
def GLB_FW_FAULT_DATA10_WORD : Fld := ⟨0x8088, 0, 32, .ro, 0, false⟩
/-- R553. GLB_FW_FAULT_DATA11: record words 0–15 in the layout of R544. -/
def GLB_FW_FAULT_DATA11_WORD : Fld := ⟨0x808C, 0, 32, .ro, 0, false⟩
/-- R553. GLB_FW_FAULT_DATA12: record words 0–15 in the layout of R544. -/
def GLB_FW_FAULT_DATA12_WORD : Fld := ⟨0x8090, 0, 32, .ro, 0, false⟩
/-- R553. GLB_FW_FAULT_DATA13: record words 0–15 in the layout of R544. -/
def GLB_FW_FAULT_DATA13_WORD : Fld := ⟨0x8094, 0, 32, .ro, 0, false⟩
/-- R553. GLB_FW_FAULT_DATA14: record words 0–15 in the layout of R544. -/
def GLB_FW_FAULT_DATA14_WORD : Fld := ⟨0x8098, 0, 32, .ro, 0, false⟩
/-- R553. GLB_FW_FAULT_DATA15: record words 0–15 in the layout of R544. -/
def GLB_FW_FAULT_DATA15_WORD : Fld := ⟨0x809C, 0, 32, .ro, 0, false⟩
/-- R601. GLB_CASTON: running or failed step (R584). -/
def GLB_CASTON_STEP : Fld := ⟨0x80C0, 0, 4, .ro, 0xF, false⟩
/-- R601. GLB_CASTON: outcome of R589. -/
def GLB_CASTON_RETAINED : Fld := ⟨0x80C0, 4, 2, .ro, 2, false⟩
/-- R601. GLB_CASTON: step 7 passed. -/
def GLB_CASTON_SELFTEST_PASS : Fld := ⟨0x80C0, 6, 1, .ro, 1, false⟩
/-- R601. GLB_CASTON: step 9 ran. -/
def GLB_CASTON_STORE_IMAGE : Fld := ⟨0x80C0, 7, 1, .ro, 0, false⟩
/-- R601. GLB_CASTON: retained values applied (R590). -/
def GLB_CASTON_APPLIED : Fld := ⟨0x80C0, 8, 1, .ro, 0, false⟩
/-- R601. GLB_CASTON: 0 RUNNING, 1 BINDING_OFF, 2 BOUND_OFF; 3 reserved. -/
def GLB_CASTON_MODE : Fld := ⟨0x80C0, 9, 2, .ro, 0, false⟩
/-- R601. GLB_RETAINED_SEQ_LO: SEQ of the winning copy, [31:0]; 0 for defaults. -/
def GLB_RETAINED_SEQ_LO_SEQ_LO : Fld := ⟨0x80C4, 0, 32, .ro, 0, false⟩
/-- R601. GLB_RETAINED_SEQ_HI: the same, [63:32]. -/
def GLB_RETAINED_SEQ_HI_SEQ_HI : Fld := ⟨0x80C8, 0, 32, .ro, 0, false⟩
/-- R601. GLB_CASTON_MS: ms from input at 48 V to READY; [31:16] reserved. -/
def GLB_CASTON_MS_MS : Fld := ⟨0x80CC, 0, 16, .ro, 0, false⟩
/-- R601. GLB_SELFTEST: bit die × 8 + unit: array or motif pair failed. -/
def GLB_SELFTEST_ARRAYS : Fld := ⟨0x80D0, 0, 16, .ro, 0, false⟩
/-- R601. GLB_SELFTEST: bit die × 4 + unit: chain failed. -/
def GLB_SELFTEST_CHAINS : Fld := ⟨0x80D0, 16, 8, .ro, 0, false⟩
/-- R601. GLB_SELFTEST: bit d: skein of die d failed. -/
def GLB_SELFTEST_SKEIN : Fld := ⟨0x80D0, 24, 2, .ro, 0, false⟩
/-- R601. GLB_SELFTEST: UNPACK or PACK failed. -/
def GLB_SELFTEST_CONVERT : Fld := ⟨0x80D0, 26, 1, .ro, 0, false⟩
/-- R601. GLB_SELFTEST: R312 failed. -/
def GLB_SELFTEST_RNG : Fld := ⟨0x80D0, 27, 1, .ro, 0, false⟩
/-- R601. GLB_SELFTEST: digest engine failed. -/
def GLB_SELFTEST_DIGEST : Fld := ⟨0x80D0, 28, 1, .ro, 0, false⟩
/-- R601. GLB_RETAIN_CTL: automatic retained writes (R591). -/
def GLB_RETAIN_CTL_AUTO : Fld := ⟨0x80D4, 0, 1, .rw, 1, false⟩
/-- R601. GLB_RETAIN_CTL: request a retained write. -/
def GLB_RETAIN_CTL_WRITE_NOW : Fld := ⟨0x80D4, 1, 1, .w1s, 0, true⟩
/-- R601. GLB_RETAIN_CTL: a retained write completed. -/
def GLB_RETAIN_CTL_WRITE_DONE : Fld := ⟨0x80D4, 2, 1, .rw1c, 0, false⟩
/-- R601. GLB_RETAIN_CTL: a retained write failed; the winner is unchanged. -/
def GLB_RETAIN_CTL_WRITE_FAIL : Fld := ⟨0x80D4, 3, 1, .rw1c, 0, false⟩

/-- Part 0 of the fields of page8. -/
def page8_0 : List Fld :=
  [GLB_ID_PART, GLB_ID_STEPPING, GLB_SERIAL_LO_SERIAL_LO, GLB_SERIAL_HI_SERIAL_HI, GLB_FW_VERSION, GLB_STATUS_READY, GLB_STATUS_RECOVERY, GLB_STATUS_HOLDUP_READY, GLB_STATUS_FLUSH_READY, GLB_STATUS_LINK_GEN, GLB_STATUS_LINK_WIDTH, GLB_STATUS_FLIT, GLB_STAGE_BASE_LO_BASE_LO, GLB_STAGE_BASE_HI_BASE_HI, GLB_HOLDUP_ENERGY_MJ, GLB_HOLDUP_BANK_FAULT, GLB_HOST_ERR_LINK_DOWN, GLB_HOST_ERR_DMA_FAIL, GLB_HOST_ERR_HOLDUP_LOST, GLB_HOST_INT_EN_EN, GLB_SCRATCH_DATA, GLB_FW_STATUS_COMPLEX_UP, GLB_FW_STATUS_RESETTING, GLB_FW_STATUS_UPDATE_OPEN]

/-- Part 1 of the fields of page8. -/
def page8_1 : List Fld :=
  [GLB_FW_STATUS_DEBUG_ACTIVE, GLB_FW_STATUS_HALTED, GLB_FW_STATUS_FAILED, GLB_FW_BANKS_ACTIVE_B, GLB_FW_BANKS_PENDING, GLB_FW_BANKS_TRIAL, GLB_FW_BANKS_OTHER_BAD, GLB_FW_RESTARTS_COUNT, GLB_FW_RESETS_COUNT, GLB_FW_ERR_RESTART, GLB_FW_ERR_COMPLEX_RESET, GLB_FW_ERR_STACK_FAULT, GLB_FW_ERR_ROLLBACK, GLB_FW_ERR_DEBUG_ATTACH, GLB_FW_FAULT_SEL_INDEX, GLB_FW_FAULT_CMD_READ, GLB_FW_FAULT_CMD_DONE, GLB_FW_FAULT_CMD_ABSENT, GLB_FW_FAULT_NEWEST_INDEX, GLB_FW_FAULT_DATA0_WORD, GLB_FW_FAULT_DATA1_WORD, GLB_FW_FAULT_DATA2_WORD, GLB_FW_FAULT_DATA3_WORD, GLB_FW_FAULT_DATA4_WORD]

/-- Part 2 of the fields of page8. -/
def page8_2 : List Fld :=
  [GLB_FW_FAULT_DATA5_WORD, GLB_FW_FAULT_DATA6_WORD, GLB_FW_FAULT_DATA7_WORD, GLB_FW_FAULT_DATA8_WORD, GLB_FW_FAULT_DATA9_WORD, GLB_FW_FAULT_DATA10_WORD, GLB_FW_FAULT_DATA11_WORD, GLB_FW_FAULT_DATA12_WORD, GLB_FW_FAULT_DATA13_WORD, GLB_FW_FAULT_DATA14_WORD, GLB_FW_FAULT_DATA15_WORD, GLB_CASTON_STEP, GLB_CASTON_RETAINED, GLB_CASTON_SELFTEST_PASS, GLB_CASTON_STORE_IMAGE, GLB_CASTON_APPLIED, GLB_CASTON_MODE, GLB_RETAINED_SEQ_LO_SEQ_LO, GLB_RETAINED_SEQ_HI_SEQ_HI, GLB_CASTON_MS_MS, GLB_SELFTEST_ARRAYS, GLB_SELFTEST_CHAINS, GLB_SELFTEST_SKEIN, GLB_SELFTEST_CONVERT]

/-- Part 3 of the fields of page8. -/
def page8_3 : List Fld :=
  [GLB_SELFTEST_RNG, GLB_SELFTEST_DIGEST, GLB_RETAIN_CTL_AUTO, GLB_RETAIN_CTL_WRITE_NOW, GLB_RETAIN_CTL_WRITE_DONE, GLB_RETAIN_CTL_WRITE_FAIL]

/-- The fields of page8, in ascending order of offset and bit. -/
def page8 : List Fld := page8_0 ++ page8_1 ++ page8_2 ++ page8_3

/-- R320. RNG_SEL: stream 0–15 of the window's function. -/
def RNG_SEL_STREAM : Fld := ⟨0xE000, 0, 4, .rw, 0, false⟩
/-- R320. RNG_KEY0: holding register for k0. -/
def RNG_KEY0_KEY0 : Fld := ⟨0xE004, 0, 32, .rw, 0, false⟩
/-- R320. RNG_KEY1: holding register for k1. -/
def RNG_KEY1_KEY1 : Fld := ⟨0xE008, 0, 32, .rw, 0, false⟩
/-- R320. RNG_CTR0: counter [31:0]. -/
def RNG_CTR0_CTR0 : Fld := ⟨0xE00C, 0, 32, .rw, 0, false⟩
/-- R320. RNG_CTR1: counter [63:32]. -/
def RNG_CTR1_CTR1 : Fld := ⟨0xE010, 0, 32, .rw, 0, false⟩
/-- R320. RNG_CTR2: counter [95:64]. -/
def RNG_CTR2_CTR2 : Fld := ⟨0xE014, 0, 32, .rw, 0, false⟩
/-- R320. RNG_CTR3: counter [127:96]. -/
def RNG_CTR3_CTR3 : Fld := ⟨0xE018, 0, 32, .rw, 0, false⟩
/-- R320. RNG_CTL: word within the block. -/
def RNG_CTL_WORD : Fld := ⟨0xE01C, 0, 2, .rw, 0, false⟩
/-- R320. RNG_CTL: as in R310; 3 sets ARG_ERR on LOAD. -/
def RNG_CTL_USE : Fld := ⟨0xE01C, 4, 2, .rw, 0, false⟩
/-- R320. RNG_COMMITS: COMMITS of the stream, as of the last READ. -/
def RNG_COMMITS_COMMITS : Fld := ⟨0xE020, 0, 32, .ro, 0, false⟩
/-- R320. RNG_CMD: copy the committed state into the holding registers. -/
def RNG_CMD_READ : Fld := ⟨0xE024, 0, 1, .w1s, 0, true⟩
/-- R320. RNG_CMD: write the holding registers to the stream; COMMITS is kept. -/
def RNG_CMD_LOAD : Fld := ⟨0xE024, 1, 1, .w1s, 0, true⟩
/-- R320. RNG_CMD: fresh key from the RTP's DRBG at every request, counter 0, WORD 0, USE kept; the holding registers then hold the new key; completes within 50 µs. -/
def RNG_CMD_DERIVE : Fld := ⟨0xE024, 2, 1, .w1s, 0, true⟩
/-- R320. RNG_CMD: restore the state of R311. -/
def RNG_CMD_RESET : Fld := ⟨0xE024, 3, 1, .w1s, 0, true⟩
/-- R320. RNG_CMD: the last request completed. -/
def RNG_CMD_DONE : Fld := ⟨0xE024, 8, 1, .rw1c, 0, false⟩
/-- R320. RNG_CMD: a request failed under the busy rule. -/
def RNG_CMD_BUSY_ERR : Fld := ⟨0xE024, 9, 1, .rw1c, 0, false⟩
/-- R320. RNG_CMD: a LOAD named a reserved USE; nothing written. -/
def RNG_CMD_ARG_ERR : Fld := ⟨0xE024, 10, 1, .rw1c, 0, false⟩
/-- R320. RNG_WORDS_LO: words drawn by the function's committed commands and roster entries, [31:0]. -/
def RNG_WORDS_LO_WORDS_LO : Fld := ⟨0xE028, 0, 32, .ro, 0, false⟩
/-- R320. RNG_WORDS_HI: the same, [63:32]. -/
def RNG_WORDS_HI_WORDS_HI : Fld := ⟨0xE02C, 0, 32, .ro, 0, false⟩
/-- R320. RNG_KAT: the check of R312 passed on both dies. -/
def RNG_KAT_PASS : Fld := ⟨0xE030, 0, 1, .ro, 0, false⟩
/-- R320. RNG_KAT: the check has run. -/
def RNG_KAT_DONE : Fld := ⟨0xE030, 1, 1, .ro, 0, false⟩

/-- Part 0 of the fields of pageE. -/
def pageE_0 : List Fld :=
  [RNG_SEL_STREAM, RNG_KEY0_KEY0, RNG_KEY1_KEY1, RNG_CTR0_CTR0, RNG_CTR1_CTR1, RNG_CTR2_CTR2, RNG_CTR3_CTR3, RNG_CTL_WORD, RNG_CTL_USE, RNG_COMMITS_COMMITS, RNG_CMD_READ, RNG_CMD_LOAD, RNG_CMD_DERIVE, RNG_CMD_RESET, RNG_CMD_DONE, RNG_CMD_BUSY_ERR, RNG_CMD_ARG_ERR, RNG_WORDS_LO_WORDS_LO, RNG_WORDS_HI_WORDS_HI, RNG_KAT_PASS, RNG_KAT_DONE]

/-- The fields of pageE, in ascending order of offset and bit. -/
def pageE : List Fld := pageE_0

/-- R528. HQ_FN_SEL: function mirrored at 0x1000–0x11FF; [31:11] reserved. -/
def HQ_FN_SEL_FUNCTION : Fld := ⟨0x10000, 0, 11, .rw, 0, false⟩
/-- R528. HQ_TAGS: outstanding host transactions, 0–16,384; [31:15] reserved. -/
def HQ_TAGS_IN_USE : Fld := ⟨0x10004, 0, 15, .ro, 0, false⟩
/-- R528. HQ_ADMIT_WAIT: fetched entries awaiting admission; [31:16] reserved. -/
def HQ_ADMIT_WAIT_WAIT : Fld := ⟨0x10008, 0, 16, .ro, 0, false⟩
/-- R528. HQ_FETCHED: entries fetched. -/
def HQ_FETCHED_COUNT : Fld := ⟨0x1000C, 0, 32, .rc, 0, false⟩

/-- Part 0 of the fields of block01. -/
def block01_0 : List Fld :=
  [HQ_FN_SEL_FUNCTION, HQ_TAGS_IN_USE, HQ_ADMIT_WAIT_WAIT, HQ_FETCHED_COUNT]

/-- The fields of block01, in ascending order of offset and bit. -/
def block01 : List Fld := block01_0

/-- R528. MBX_HANDLED: messages completed. -/
def MBX_HANDLED_COUNT : Fld := ⟨0x20000, 0, 32, .rc, 0, false⟩
/-- R528. MBX_REFUSED: messages that ended with a status other than OK. -/
def MBX_REFUSED_COUNT : Fld := ⟨0x20004, 0, 32, .rc, 0, false⟩
/-- R528. MBX_NOTES_LOST: notifications dropped (R508). -/
def MBX_NOTES_LOST_COUNT : Fld := ⟨0x20008, 0, 32, .rc, 0, false⟩

/-- Part 0 of the fields of block02. -/
def block02_0 : List Fld :=
  [MBX_HANDLED_COUNT, MBX_REFUSED_COUNT, MBX_NOTES_LOST_COUNT]

/-- The fields of block02, in ascending order of offset and bit. -/
def block02 : List Fld := block02_0

/-- R126. SKN_VALID_SEL: first line of the 32-line window shown in SKN_VALID_MAP. -/
def SKN_VALID_SEL_LINE : Fld := ⟨0x40000, 0, 21, .rw, 0, false⟩
/-- R126. SKN_VALID_MAP: valid bits of lines LINE to LINE + 31, bit i for line LINE + i. -/
def SKN_VALID_MAP_VALID : Fld := ⟨0x40004, 0, 32, .ro, 0, false⟩
/-- R126. SKN_CLEARS: CMD_START clears performed, both dies. -/
def SKN_CLEARS_CLEARS : Fld := ⟨0x40008, 0, 32, .rc, 0, false⟩
/-- R126. SKN_ZERO_READS: reads of lines whose valid bit was clear. -/
def SKN_ZERO_READS_ZREADS : Fld := ⟨0x4000C, 0, 32, .rc, 0, false⟩
/-- R126. SKN_ALLOT_VIOL: accesses outside the issuing slot's allotment (R91). -/
def SKN_ALLOT_VIOL_VIOL : Fld := ⟨0x40010, 0, 32, .rc, 0, false⟩
/-- R126. SKN_SLOT_BUSY: bit s: slot s in flight on die 0. -/
def SKN_SLOT_BUSY_DIE0 : Fld := ⟨0x40014, 0, 16, .ro, 0, false⟩
/-- R126. SKN_SLOT_BUSY: bit s: slot s in flight on die 1. -/
def SKN_SLOT_BUSY_DIE1 : Fld := ⟨0x40014, 16, 16, .ro, 0, false⟩
/-- R126. SKN_FROGS: commands frogged. -/
def SKN_FROGS_FROGS : Fld := ⟨0x40018, 0, 32, .rc, 0, false⟩
/-- R126. SKN_DENIED_RD: control-core, debug or host reads of line data refused under R93. -/
def SKN_DENIED_RD_DENIED : Fld := ⟨0x4001C, 0, 32, .rc, 0, false⟩

/-- Part 0 of the fields of block04. -/
def block04_0 : List Fld :=
  [SKN_VALID_SEL_LINE, SKN_VALID_MAP_VALID, SKN_CLEARS_CLEARS, SKN_ZERO_READS_ZREADS, SKN_ALLOT_VIOL_VIOL, SKN_SLOT_BUSY_DIE0, SKN_SLOT_BUSY_DIE1, SKN_FROGS_FROGS, SKN_DENIED_RD_DENIED]

/-- The fields of block04, in ascending order of offset and bit. -/
def block04 : List Fld := block04_0

/-- R224. MXA_CTRL: 1: zero-detect gating on all arrays (R219). -/
def MXA_CTRL_ZERO_GATE_EN : Fld := ⟨0x50000, 0, 1, .rw, 1, true⟩
/-- R224. MXA_ARRAY_SEL: die × 8 + unit. -/
def MXA_ARRAY_SEL_ARRAY : Fld := ⟨0x50004, 0, 4, .rw, 0, false⟩
/-- R224. MXA_ARRAY_STAT: 0 EMPTY, 1 LOADING, 2 READY, 3 reserved (R208). -/
def MXA_ARRAY_STAT_SHADOW : Fld := ⟨0x50008, 0, 2, .ro, 0, false⟩
/-- R224. MXA_ARRAY_STAT: the cells hold a broadcast tile. -/
def MXA_ARRAY_STAT_CELLS_VALID : Fld := ⟨0x50008, 2, 1, .ro, 0, false⟩
/-- R224. MXA_ARRAY_STAT: the motif pair holds an MX.WGRAD block. -/
def MXA_ARRAY_STAT_WGRAD : Fld := ⟨0x50008, 3, 1, .ro, 0, false⟩
/-- R224. MXA_ARRAY_STAT: slot that broadcast the cells' tile. -/
def MXA_ARRAY_STAT_CELLS_SLOT : Fld := ⟨0x50008, 8, 4, .ro, 0, false⟩
/-- R224. MXA_ARRAY_STAT: slot of the shadow's tile. -/
def MXA_ARRAY_STAT_SHADOW_SLOT : Fld := ⟨0x50008, 12, 4, .ro, 0, false⟩
/-- R224. MXA_ARRAY_STAT: cells resource occupied. -/
def MXA_ARRAY_STAT_BUSY : Fld := ⟨0x50008, 16, 1, .ro, 0, false⟩
/-- R224. MXA_ARRAY_STAT: drain resource occupied. -/
def MXA_ARRAY_STAT_DRAIN_BUSY : Fld := ⟨0x50008, 17, 1, .ro, 0, false⟩
/-- R224. MXA_ARRAY_STAT: in ramp mode (R221). -/
def MXA_ARRAY_STAT_RAMP : Fld := ⟨0x50008, 18, 1, .ro, 0, false⟩
/-- R224. MXA_BUSY: bit u: cells of array u of die 0 occupied. -/
def MXA_BUSY_DIE0 : Fld := ⟨0x5000C, 0, 8, .ro, 0, false⟩
/-- R224. MXA_BUSY: the same for die 1. -/
def MXA_BUSY_DIE1 : Fld := ⟨0x5000C, 8, 8, .ro, 0, false⟩
/-- R224. MXA_ACTIVE_LO: array-cycles with cells occupied, both dies, [31:0]. -/
def MXA_ACTIVE_LO_ACTIVE_LO : Fld := ⟨0x50010, 0, 32, .ro, 0, false⟩
/-- R224. MXA_ACTIVE_HI: the same, [63:32]. -/
def MXA_ACTIVE_HI_ACTIVE_HI : Fld := ⟨0x50014, 0, 32, .ro, 0, false⟩
/-- R224. MXA_GATED_LO: gated products in units of 65,536, [31:0]. -/
def MXA_GATED_LO_GATED_LO : Fld := ⟨0x50018, 0, 32, .ro, 0, false⟩
/-- R224. MXA_GATED_HI: the same, [63:32]. -/
def MXA_GATED_HI_GATED_HI : Fld := ⟨0x5001C, 0, 32, .ro, 0, false⟩
/-- R224. MXA_BCAST: tile broadcasts. -/
def MXA_BCAST_BCAST : Fld := ⟨0x50020, 0, 32, .rc, 0, false⟩
/-- R224. MXA_SEG_SWITCH: segment switches in runs. -/
def MXA_SEG_SWITCH_SWITCHES : Fld := ⟨0x50024, 0, 32, .rc, 0, false⟩
/-- R224. MXA_RAMP_CYC: array-cycles in ramp mode. -/
def MXA_RAMP_CYC_RAMP : Fld := ⟨0x50028, 0, 32, .rc, 0, false⟩
/-- R224. MXA_LIMIT_HOLD: cycles of holds under R223, summed over arrays. -/
def MXA_LIMIT_HOLD_HOLDS : Fld := ⟨0x5002C, 0, 32, .rc, 0, false⟩
/-- R224. MXA_ECC_CE: corrected errors (R207). -/
def MXA_ECC_CE_CE : Fld := ⟨0x50030, 0, 32, .rc, 0, false⟩
/-- R224. MXA_ECC_UE: uncorrectable errors. -/
def MXA_ECC_UE_UE : Fld := ⟨0x50034, 0, 32, .rc, 0, false⟩
/-- R224. MXA_ECC_LOC: array of the last uncorrectable error. -/
def MXA_ECC_LOC_ARRAY : Fld := ⟨0x50038, 0, 4, .ro, 0, false⟩
/-- R224. MXA_ECC_LOC: 0 shadow, 1 cells, 2 accumulator, 3 rank accumulator, 4 motif pair; 5–7 reserved. -/
def MXA_ECC_LOC_STORE : Fld := ⟨0x50038, 4, 3, .ro, 0, false⟩
/-- R224. MXA_ECC_LOC: row or line within the store. -/
def MXA_ECC_LOC_ROW : Fld := ⟨0x50038, 7, 11, .ro, 0, false⟩
/-- R224. MXA_DENIED_RD: accesses to array storage refused under R206. -/
def MXA_DENIED_RD_DENIED : Fld := ⟨0x5003C, 0, 32, .rc, 0, false⟩

/-- Part 0 of the fields of block05. -/
def block05_0 : List Fld :=
  [MXA_CTRL_ZERO_GATE_EN, MXA_ARRAY_SEL_ARRAY, MXA_ARRAY_STAT_SHADOW, MXA_ARRAY_STAT_CELLS_VALID, MXA_ARRAY_STAT_WGRAD, MXA_ARRAY_STAT_CELLS_SLOT, MXA_ARRAY_STAT_SHADOW_SLOT, MXA_ARRAY_STAT_BUSY, MXA_ARRAY_STAT_DRAIN_BUSY, MXA_ARRAY_STAT_RAMP, MXA_BUSY_DIE0, MXA_BUSY_DIE1, MXA_ACTIVE_LO_ACTIVE_LO, MXA_ACTIVE_HI_ACTIVE_HI, MXA_GATED_LO_GATED_LO, MXA_GATED_HI_GATED_HI, MXA_BCAST_BCAST, MXA_SEG_SWITCH_SWITCHES, MXA_RAMP_CYC_RAMP, MXA_LIMIT_HOLD_HOLDS, MXA_ECC_CE_CE, MXA_ECC_UE_UE, MXA_ECC_LOC_ARRAY, MXA_ECC_LOC_STORE]

/-- Part 1 of the fields of block05. -/
def block05_1 : List Fld :=
  [MXA_ECC_LOC_ROW, MXA_DENIED_RD_DENIED]

/-- The fields of block05, in ascending order of offset and bit. -/
def block05 : List Fld := block05_0 ++ block05_1

/-- R288. VCH_STAT: bit u: lanes of chain u of die 0 occupied. -/
def VCH_STAT_LANES_D0 : Fld := ⟨0x60000, 0, 4, .ro, 0, false⟩
/-- R288. VCH_STAT: the same for die 1. -/
def VCH_STAT_LANES_D1 : Fld := ⟨0x60000, 4, 4, .ro, 0, false⟩
/-- R288. VCH_STAT: bit u: buffer port of chain u of die 0 occupied. -/
def VCH_STAT_PORT_D0 : Fld := ⟨0x60000, 8, 4, .ro, 0, false⟩
/-- R288. VCH_STAT: the same for die 1. -/
def VCH_STAT_PORT_D1 : Fld := ⟨0x60000, 12, 4, .ro, 0, false⟩
/-- R288. VCH_ACTIVE_LO: chain-cycles with lanes occupied, both dies, [31:0]. -/
def VCH_ACTIVE_LO_ACTIVE_LO : Fld := ⟨0x60004, 0, 32, .ro, 0, false⟩
/-- R288. VCH_ACTIVE_HI: the same, [63:32]. -/
def VCH_ACTIVE_HI_ACTIVE_HI : Fld := ⟨0x60008, 0, 32, .ro, 0, false⟩
/-- R288. VCH_SMAX_EMPTY: rows written with EMPTY (R283). -/
def VCH_SMAX_EMPTY_EMPTY : Fld := ⟨0x6000C, 0, 32, .rc, 0, false⟩
/-- R288. VCH_SMAX_INF_ROWS: rows written with INF. -/
def VCH_SMAX_INF_ROWS_INF_ROWS : Fld := ⟨0x60010, 0, 32, .rc, 0, false⟩
/-- R288. VCH_SMAX_NAN_ROWS: rows written with NAN. -/
def VCH_SMAX_NAN_ROWS_NAN_ROWS : Fld := ⟨0x60014, 0, 32, .rc, 0, false⟩
/-- R288. VCH_NF_LATCH: bit s: slot s wrote a non-finite value on die 0 (R287). -/
def VCH_NF_LATCH_DIE0 : Fld := ⟨0x60018, 0, 16, .ro, 0, false⟩
/-- R288. VCH_NF_LATCH: the same for die 1. -/
def VCH_NF_LATCH_DIE1 : Fld := ⟨0x60018, 16, 16, .ro, 0, false⟩
/-- R288. VCH_SAT_LATCH: bit s: slot s saturated a value on die 0. -/
def VCH_SAT_LATCH_DIE0 : Fld := ⟨0x6001C, 0, 16, .ro, 0, false⟩
/-- R288. VCH_SAT_LATCH: the same for die 1. -/
def VCH_SAT_LATCH_DIE1 : Fld := ⟨0x6001C, 16, 16, .ro, 0, false⟩
/-- R288. VCH_ECC_CE: corrected errors (R258). -/
def VCH_ECC_CE_CE : Fld := ⟨0x60020, 0, 32, .rc, 0, false⟩
/-- R288. VCH_ECC_UE: uncorrectable errors. -/
def VCH_ECC_UE_UE : Fld := ⟨0x60024, 0, 32, .rc, 0, false⟩
/-- R288. VCH_ECC_LOC: die × 4 + unit of the last uncorrectable error. -/
def VCH_ECC_LOC_CHAIN : Fld := ⟨0x60028, 0, 3, .ro, 0, false⟩
/-- R288. VCH_ECC_LOC: 0 tile buffer, 1 program slot, 2 spill store, 3 reserved. -/
def VCH_ECC_LOC_STORE : Fld := ⟨0x60028, 3, 2, .ro, 0, false⟩
/-- R288. VCH_ECC_LOC: tile buffer, when STORE is 0. -/
def VCH_ECC_LOC_BUF : Fld := ⟨0x60028, 5, 2, .ro, 0, false⟩
/-- R288. VCH_ECC_LOC: line within the tile buffer (0–1,023), program slot (0–31) or spill row (0–65,535), by STORE. -/
def VCH_ECC_LOC_LINE : Fld := ⟨0x60028, 7, 16, .ro, 0, false⟩
/-- R288. VCH_ECC_LOC: spill temporary 0–3, when STORE is 2. -/
def VCH_ECC_LOC_TEMP : Fld := ⟨0x60028, 23, 2, .ro, 0, false⟩
/-- R288. VCH_DENIED_RD: accesses to chain storage refused under R257. -/
def VCH_DENIED_RD_DENIED : Fld := ⟨0x6002C, 0, 32, .rc, 0, false⟩
/-- R288. VCH_SAT_UNPACK_D0: UNPACK saturation count, die 0. -/
def VCH_SAT_UNPACK_D0_COUNT : Fld := ⟨0x60040, 0, 32, .rc, 0, false⟩
/-- R288. VCH_SAT_UNPACK_D1: UNPACK saturation count, die 1. -/
def VCH_SAT_UNPACK_D1_COUNT : Fld := ⟨0x60044, 0, 32, .rc, 0, false⟩
/-- R288. VCH_SAT_MATRIX_D0: MATRIX saturation count, die 0. -/
def VCH_SAT_MATRIX_D0_COUNT : Fld := ⟨0x60048, 0, 32, .rc, 0, false⟩
/-- R288. VCH_SAT_MATRIX_D1: MATRIX saturation count, die 1. -/
def VCH_SAT_MATRIX_D1_COUNT : Fld := ⟨0x6004C, 0, 32, .rc, 0, false⟩
/-- R288. VCH_SAT_MERGE_D0: MERGE saturation count, die 0. -/
def VCH_SAT_MERGE_D0_COUNT : Fld := ⟨0x60050, 0, 32, .rc, 0, false⟩
/-- R288. VCH_SAT_MERGE_D1: MERGE saturation count, die 1. -/
def VCH_SAT_MERGE_D1_COUNT : Fld := ⟨0x60054, 0, 32, .rc, 0, false⟩
/-- R288. VCH_SAT_CHAIN_D0: CHAIN saturation count, die 0. -/
def VCH_SAT_CHAIN_D0_COUNT : Fld := ⟨0x60058, 0, 32, .rc, 0, false⟩
/-- R288. VCH_SAT_CHAIN_D1: CHAIN saturation count, die 1. -/
def VCH_SAT_CHAIN_D1_COUNT : Fld := ⟨0x6005C, 0, 32, .rc, 0, false⟩
/-- R288. VCH_SAT_PACK_D0: PACK saturation count, die 0. -/
def VCH_SAT_PACK_D0_COUNT : Fld := ⟨0x60060, 0, 32, .rc, 0, false⟩
/-- R288. VCH_SAT_PACK_D1: PACK saturation count, die 1. -/
def VCH_SAT_PACK_D1_COUNT : Fld := ⟨0x60064, 0, 32, .rc, 0, false⟩
/-- R288. VCH_NF_UNPACK_D0: UNPACK non-finite count, die 0. -/
def VCH_NF_UNPACK_D0_COUNT : Fld := ⟨0x60070, 0, 32, .rc, 0, false⟩
/-- R288. VCH_NF_UNPACK_D1: UNPACK non-finite count, die 1. -/
def VCH_NF_UNPACK_D1_COUNT : Fld := ⟨0x60074, 0, 32, .rc, 0, false⟩
/-- R288. VCH_NF_MATRIX_D0: MATRIX non-finite count, die 0. -/
def VCH_NF_MATRIX_D0_COUNT : Fld := ⟨0x60078, 0, 32, .rc, 0, false⟩
/-- R288. VCH_NF_MATRIX_D1: MATRIX non-finite count, die 1. -/
def VCH_NF_MATRIX_D1_COUNT : Fld := ⟨0x6007C, 0, 32, .rc, 0, false⟩
/-- R288. VCH_NF_MERGE_D0: MERGE non-finite count, die 0. -/
def VCH_NF_MERGE_D0_COUNT : Fld := ⟨0x60080, 0, 32, .rc, 0, false⟩
/-- R288. VCH_NF_MERGE_D1: MERGE non-finite count, die 1. -/
def VCH_NF_MERGE_D1_COUNT : Fld := ⟨0x60084, 0, 32, .rc, 0, false⟩
/-- R288. VCH_NF_CHAIN_D0: CHAIN non-finite count, die 0. -/
def VCH_NF_CHAIN_D0_COUNT : Fld := ⟨0x60088, 0, 32, .rc, 0, false⟩
/-- R288. VCH_NF_CHAIN_D1: CHAIN non-finite count, die 1. -/
def VCH_NF_CHAIN_D1_COUNT : Fld := ⟨0x6008C, 0, 32, .rc, 0, false⟩
/-- R288. VCH_NF_PACK_D0: PACK non-finite count, die 0. -/
def VCH_NF_PACK_D0_COUNT : Fld := ⟨0x60090, 0, 32, .rc, 0, false⟩
/-- R288. VCH_NF_PACK_D1: PACK non-finite count, die 1. -/
def VCH_NF_PACK_D1_COUNT : Fld := ⟨0x60094, 0, 32, .rc, 0, false⟩
/-- R308. VCH_SPIKE_LATCH: bit s: slot s made a loss write beyond its limit on die 0 (R304). -/
def VCH_SPIKE_LATCH_DIE0 : Fld := ⟨0x600A0, 0, 16, .ro, 0, false⟩
/-- R308. VCH_SPIKE_LATCH: the same for die 1. -/
def VCH_SPIKE_LATCH_DIE1 : Fld := ⟨0x600A0, 16, 16, .ro, 0, false⟩
/-- R308. VCH_DS_HALTS: dropped-stitch halts (R306). -/
def VCH_DS_HALTS_HALTS : Fld := ⟨0x600A4, 0, 32, .rc, 0, false⟩
/-- R308. VCH_DS_SPIKES: loss writes beyond their limit. -/
def VCH_DS_SPIKES_SPIKES : Fld := ⟨0x600A8, 0, 32, .rc, 0, false⟩
/-- R308. VCH_DS_LAST: slot of the last halt. -/
def VCH_DS_LAST_SLOT : Fld := ⟨0x600AC, 0, 4, .ro, 0, false⟩
/-- R308. VCH_DS_LAST: the non-finite part was set. -/
def VCH_DS_LAST_NF : Fld := ⟨0x600AC, 4, 1, .ro, 0, false⟩
/-- R308. VCH_DS_LAST: the spike part was set. -/
def VCH_DS_LAST_SPIKE : Fld := ⟨0x600AC, 5, 1, .ro, 0, false⟩
/-- R308. VCH_DS_LAST: dies whose latch was set. -/
def VCH_DS_LAST_DIES : Fld := ⟨0x600AC, 6, 2, .ro, 0, false⟩
/-- R308. VCH_DS_LAST: function of the last halt. -/
def VCH_DS_LAST_FUNCTION : Fld := ⟨0x600AC, 16, 11, .ro, 0, false⟩

/-- Part 0 of the fields of block06. -/
def block06_0 : List Fld :=
  [VCH_STAT_LANES_D0, VCH_STAT_LANES_D1, VCH_STAT_PORT_D0, VCH_STAT_PORT_D1, VCH_ACTIVE_LO_ACTIVE_LO, VCH_ACTIVE_HI_ACTIVE_HI, VCH_SMAX_EMPTY_EMPTY, VCH_SMAX_INF_ROWS_INF_ROWS, VCH_SMAX_NAN_ROWS_NAN_ROWS, VCH_NF_LATCH_DIE0, VCH_NF_LATCH_DIE1, VCH_SAT_LATCH_DIE0, VCH_SAT_LATCH_DIE1, VCH_ECC_CE_CE, VCH_ECC_UE_UE, VCH_ECC_LOC_CHAIN, VCH_ECC_LOC_STORE, VCH_ECC_LOC_BUF, VCH_ECC_LOC_LINE, VCH_ECC_LOC_TEMP, VCH_DENIED_RD_DENIED, VCH_SAT_UNPACK_D0_COUNT, VCH_SAT_UNPACK_D1_COUNT, VCH_SAT_MATRIX_D0_COUNT]

/-- Part 1 of the fields of block06. -/
def block06_1 : List Fld :=
  [VCH_SAT_MATRIX_D1_COUNT, VCH_SAT_MERGE_D0_COUNT, VCH_SAT_MERGE_D1_COUNT, VCH_SAT_CHAIN_D0_COUNT, VCH_SAT_CHAIN_D1_COUNT, VCH_SAT_PACK_D0_COUNT, VCH_SAT_PACK_D1_COUNT, VCH_NF_UNPACK_D0_COUNT, VCH_NF_UNPACK_D1_COUNT, VCH_NF_MATRIX_D0_COUNT, VCH_NF_MATRIX_D1_COUNT, VCH_NF_MERGE_D0_COUNT, VCH_NF_MERGE_D1_COUNT, VCH_NF_CHAIN_D0_COUNT, VCH_NF_CHAIN_D1_COUNT, VCH_NF_PACK_D0_COUNT, VCH_NF_PACK_D1_COUNT, VCH_SPIKE_LATCH_DIE0, VCH_SPIKE_LATCH_DIE1, VCH_DS_HALTS_HALTS, VCH_DS_SPIKES_SPIKES, VCH_DS_LAST_SLOT, VCH_DS_LAST_NF, VCH_DS_LAST_SPIKE]

/-- Part 2 of the fields of block06. -/
def block06_2 : List Fld :=
  [VCH_DS_LAST_DIES, VCH_DS_LAST_FUNCTION]

/-- The fields of block06, in ascending order of offset and bit. -/
def block06 : List Fld := block06_0 ++ block06_1 ++ block06_2

/-- R255. MTF_HOT_CFG: area size: 0 512 lines, 1 1,024 lines, 2 2,048 lines; 3 reserved (R235). -/
def MTF_HOT_CFG_AREA : Fld := ⟨0x70000, 0, 2, .rw, 1, true⟩
/-- R255. MTF_SLOT_SEL: slot number. -/
def MTF_SLOT_SEL_SLOT : Fld := ⟨0x70004, 0, 8, .rw, 0, false⟩
/-- R255. MTF_SLOT_STAT: 0 FREE, 1 BOUND, 2 DRAINING, 3 reserved. -/
def MTF_SLOT_STAT_STATE : Fld := ⟨0x70008, 0, 2, .ro, 0, false⟩
/-- R255. MTF_SLOT_STAT: 0 serve, 1 train. -/
def MTF_SLOT_STAT_MODE : Fld := ⟨0x70008, 2, 1, .ro, 0, false⟩
/-- R255. MTF_SLOT_STAT: base model. -/
def MTF_SLOT_STAT_BASE_MODEL : Fld := ⟨0x70008, 3, 3, .ro, 0, false⟩
/-- R255. MTF_SLOT_STAT: rank / 4 − 1. -/
def MTF_SLOT_STAT_RANK : Fld := ⟨0x70008, 8, 6, .ro, 0, false⟩
/-- R255. MTF_SLOT_STAT: owning function. -/
def MTF_SLOT_STAT_FUNCTION : Fld := ⟨0x70008, 16, 11, .ro, 0, false⟩
/-- R255. MTF_SLOT_HANDLE_LO: motif handle [31:0] of the selected slot. -/
def MTF_SLOT_HANDLE_LO_HANDLE_LO : Fld := ⟨0x7000C, 0, 32, .ro, 0, false⟩
/-- R255. MTF_SLOT_HANDLE_HI: handle [47:32]; [31:16] reserved. -/
def MTF_SLOT_HANDLE_HI_HANDLE_HI : Fld := ⟨0x70010, 0, 16, .ro, 0, false⟩
/-- R255. MTF_MODEL_SEL: base model shown in MTF_MODEL_CFG; [31:3] reserved. -/
def MTF_MODEL_SEL_MODEL : Fld := ⟨0x70014, 0, 3, .rw, 0, false⟩
/-- R255. MTF_MODEL_CFG: rank limit / 4 − 1. -/
def MTF_MODEL_CFG_RANK_LIMIT : Fld := ⟨0x70018, 0, 6, .ro, 0, false⟩
/-- R255. MTF_MODEL_CFG: targets, 0–256; 0 for a model loaded without motif targets. -/
def MTF_MODEL_CFG_TARGETS : Fld := ⟨0x70018, 8, 9, .ro, 0, false⟩
/-- R255. MTF_MODEL_CFG: the model is resident. -/
def MTF_MODEL_CFG_PRESENT : Fld := ⟨0x70018, 17, 1, .ro, 0, false⟩
/-- R255. MTF_SLOTS_BOUND: slots BOUND or DRAINING; [31:9] reserved. -/
def MTF_SLOTS_BOUND_BOUND : Fld := ⟨0x7001C, 0, 9, .ro, 0, false⟩
/-- R255. MTF_STREAM_LO: lines streamed into hot regions, both dies, [31:0]. -/
def MTF_STREAM_LO_LINES_LO : Fld := ⟨0x70020, 0, 32, .ro, 0, false⟩
/-- R255. MTF_STREAM_HI: the same, [63:32]. -/
def MTF_STREAM_HI_LINES_HI : Fld := ⟨0x70024, 0, 32, .ro, 0, false⟩
/-- R255. MTF_STREAM_HOLD: cycles of holds under R239. -/
def MTF_STREAM_HOLD_HOLDS : Fld := ⟨0x70028, 0, 32, .rc, 0, false⟩
/-- R255. MTF_NULL_SEG: segments run as null for a missing target (R242). -/
def MTF_NULL_SEG_NULLS : Fld := ⟨0x7002C, 0, 32, .rc, 0, false⟩
/-- R255. MTF_ERR: a write to MTF_HOT_CFG was ignored. -/
def MTF_ERR_CFG_REJECT : Fld := ⟨0x70030, 0, 1, .rw1c, 0, false⟩
/-- R255. MTF_DENIED_RD: control-core, debug or host reads of the hot region refused. -/
def MTF_DENIED_RD_DENIED : Fld := ⟨0x70034, 0, 32, .rc, 0, false⟩

/-- Part 0 of the fields of block07. -/
def block07_0 : List Fld :=
  [MTF_HOT_CFG_AREA, MTF_SLOT_SEL_SLOT, MTF_SLOT_STAT_STATE, MTF_SLOT_STAT_MODE, MTF_SLOT_STAT_BASE_MODEL, MTF_SLOT_STAT_RANK, MTF_SLOT_STAT_FUNCTION, MTF_SLOT_HANDLE_LO_HANDLE_LO, MTF_SLOT_HANDLE_HI_HANDLE_HI, MTF_MODEL_SEL_MODEL, MTF_MODEL_CFG_RANK_LIMIT, MTF_MODEL_CFG_TARGETS, MTF_MODEL_CFG_PRESENT, MTF_SLOTS_BOUND_BOUND, MTF_STREAM_LO_LINES_LO, MTF_STREAM_HI_LINES_HI, MTF_STREAM_HOLD_HOLDS, MTF_NULL_SEG_NULLS, MTF_ERR_CFG_REJECT, MTF_DENIED_RD_DENIED]

/-- The fields of block07, in ascending order of offset and bit. -/
def block07 : List Fld := block07_0

/-- R364. MOV_CTRL: 1: every running move stops at its next granule (STOPPED). -/
def MOV_CTRL_PAUSE : Fld := ⟨0x80000, 0, 1, .rw, 0, true⟩
/-- R364. MOV_CTRL: background write-back enabled. -/
def MOV_CTRL_WB_EN : Fld := ⟨0x80000, 1, 1, .rw, 1, false⟩
/-- R364. MOV_DIRTY_CFG: MiB; legal 16–256. -/
def MOV_DIRTY_CFG_DIRTY_LIMIT : Fld := ⟨0x80004, 0, 16, .rw, 0x80, true⟩
/-- R364. MOV_DIRTY_CFG: ms; legal 10–60,000. -/
def MOV_DIRTY_CFG_WB_DELAY : Fld := ⟨0x80004, 16, 16, .rw, 0x3E8, true⟩
/-- R364. MOV_STATUS: hold-up bank past its flush threshold (R342). -/
def MOV_STATUS_HOLDUP_READY : Fld := ⟨0x80008, 0, 1, .ro, 0, false⟩
/-- R364. MOV_STATUS: every move stopped under PAUSE. -/
def MOV_STATUS_PAUSED : Fld := ⟨0x80008, 1, 1, .ro, 0, false⟩
/-- R364. MOV_STATUS: mirror of FTL_STATUS.READ_ONLY. -/
def MOV_STATUS_DEEP_RO : Fld := ⟨0x80008, 2, 1, .ro, 0, false⟩
/-- R364. MOV_STATUS: running moves, 0–64. -/
def MOV_STATUS_ACTIVE : Fld := ⟨0x80008, 8, 7, .ro, 0, false⟩
/-- R364. MOV_STATUS: waiting moves, 0–4,096. -/
def MOV_STATUS_QUEUED : Fld := ⟨0x80008, 16, 13, .ro, 0, false⟩
/-- R364. MOV_DIRTY_BYTES: dirty total, KiB. -/
def MOV_DIRTY_BYTES_KIB : Fld := ⟨0x8000C, 0, 32, .ro, 0, false⟩
/-- R364. MOV_NEAR_AVAIL: near tier for tensors, MiB (291,840, which is 285 GiB, at the reset Pattern Memory size of 1 GiB). -/
def MOV_NEAR_AVAIL_MIB : Fld := ⟨0x80010, 0, 32, .ro, 0x47400, false⟩
/-- R364. MOV_NEAR_FREE: free and zero-filled, MiB. -/
def MOV_NEAR_FREE_MIB : Fld := ⟨0x80014, 0, 32, .ro, 0x47400, false⟩
/-- R364. MOV_ZERO_PEND: awaiting zero-fill, MiB. -/
def MOV_ZERO_PEND_MIB : Fld := ⟨0x80018, 0, 32, .ro, 0, false⟩
/-- R364. MOV_DEEP_FREE: free deep tier, MiB, set when the flash controller is ready. -/
def MOV_DEEP_FREE_MIB : Fld := ⟨0x8001C, 0, 32, .ro, 0, false⟩
/-- R364. MOV_LEND_CFG: hanks that may be lent; legal 0–192. -/
def MOV_LEND_CFG_LEND_MAX : Fld := ⟨0x80020, 0, 9, .rw, 0, true⟩
/-- R364. MOV_LEND_STAT: hanks lent. -/
def MOV_LEND_STAT_LENT : Fld := ⟨0x80024, 0, 9, .ro, 0, false⟩
/-- R364. MOV_LEND_STAT: hanks borrowed, 0–512. -/
def MOV_LEND_STAT_BORROWED : Fld := ⟨0x80024, 16, 10, .ro, 0, false⟩
/-- R364. MOV_GRANULES_LO: granules completed since cast-on, [31:0]. -/
def MOV_GRANULES_LO_GRAN_LO : Fld := ⟨0x80028, 0, 32, .ro, 0, false⟩
/-- R364. MOV_GRANULES_HI: the same, [63:32]. -/
def MOV_GRANULES_HI_GRAN_HI : Fld := ⟨0x8002C, 0, 32, .ro, 0, false⟩
/-- R364. MOV_STALE: GENERATION_STALE completions received as borrower. -/
def MOV_STALE_STALE : Fld := ⟨0x80030, 0, 32, .rc, 0, false⟩
/-- R364. MOV_STALE_SERVED: GENERATION_STALE completions sent as lender. -/
def MOV_STALE_SERVED_SERVED : Fld := ⟨0x80034, 0, 32, .rc, 0, false⟩
/-- R364. MOV_FAILS: moves ended FAILED. -/
def MOV_FAILS_FAILS : Fld := ⟨0x80038, 0, 32, .rc, 0, false⟩
/-- R364. MOV_EVICT: tensors evicted (R347). -/
def MOV_EVICT_EVICTS : Fld := ⟨0x8003C, 0, 32, .rc, 0, false⟩
/-- R364. MOV_TT_SEL_FN: function of the entry to read; [31:11] reserved. -/
def MOV_TT_SEL_FN_FUNCTION : Fld := ⟨0x80040, 0, 11, .rw, 0, false⟩
/-- R364. MOV_TT_SEL_IDX: index of the entry; [31:24] reserved. -/
def MOV_TT_SEL_IDX_INDEX : Fld := ⟨0x80044, 0, 24, .rw, 0, false⟩
/-- R364. MOV_TT_CMD: copy the entry into MOV_TT_DATA. -/
def MOV_TT_CMD_READ : Fld := ⟨0x80048, 0, 1, .w1s, 0, true⟩
/-- R364. MOV_TT_CMD: the copy completed. -/
def MOV_TT_CMD_DONE : Fld := ⟨0x80048, 1, 1, .rw1c, 0, false⟩
/-- R364. MOV_TT_CMD: no such entry; MOV_TT_DATA reads zero. -/
def MOV_TT_CMD_ABSENT : Fld := ⟨0x80048, 2, 1, .rw1c, 0, false⟩
/-- R364. MOV_TT_DATA0: entry words 0–15 in the layout of R324. -/
def MOV_TT_DATA0_WORD : Fld := ⟨0x80050, 0, 32, .ro, 0, false⟩
/-- R364. MOV_TT_DATA1: entry words 0–15 in the layout of R324. -/
def MOV_TT_DATA1_WORD : Fld := ⟨0x80054, 0, 32, .ro, 0, false⟩
/-- R364. MOV_TT_DATA2: entry words 0–15 in the layout of R324. -/
def MOV_TT_DATA2_WORD : Fld := ⟨0x80058, 0, 32, .ro, 0, false⟩
/-- R364. MOV_TT_DATA3: entry words 0–15 in the layout of R324. -/
def MOV_TT_DATA3_WORD : Fld := ⟨0x8005C, 0, 32, .ro, 0, false⟩
/-- R364. MOV_TT_DATA4: entry words 0–15 in the layout of R324. -/
def MOV_TT_DATA4_WORD : Fld := ⟨0x80060, 0, 32, .ro, 0, false⟩
/-- R364. MOV_TT_DATA5: entry words 0–15 in the layout of R324. -/
def MOV_TT_DATA5_WORD : Fld := ⟨0x80064, 0, 32, .ro, 0, false⟩
/-- R364. MOV_TT_DATA6: entry words 0–15 in the layout of R324. -/
def MOV_TT_DATA6_WORD : Fld := ⟨0x80068, 0, 32, .ro, 0, false⟩
/-- R364. MOV_TT_DATA7: entry words 0–15 in the layout of R324. -/
def MOV_TT_DATA7_WORD : Fld := ⟨0x8006C, 0, 32, .ro, 0, false⟩
/-- R364. MOV_TT_DATA8: entry words 0–15 in the layout of R324. -/
def MOV_TT_DATA8_WORD : Fld := ⟨0x80070, 0, 32, .ro, 0, false⟩
/-- R364. MOV_TT_DATA9: entry words 0–15 in the layout of R324. -/
def MOV_TT_DATA9_WORD : Fld := ⟨0x80074, 0, 32, .ro, 0, false⟩
/-- R364. MOV_TT_DATA10: entry words 0–15 in the layout of R324. -/
def MOV_TT_DATA10_WORD : Fld := ⟨0x80078, 0, 32, .ro, 0, false⟩
/-- R364. MOV_TT_DATA11: entry words 0–15 in the layout of R324. -/
def MOV_TT_DATA11_WORD : Fld := ⟨0x8007C, 0, 32, .ro, 0, false⟩
/-- R364. MOV_TT_DATA12: entry words 0–15 in the layout of R324. -/
def MOV_TT_DATA12_WORD : Fld := ⟨0x80080, 0, 32, .ro, 0, false⟩
/-- R364. MOV_TT_DATA13: entry words 0–15 in the layout of R324. -/
def MOV_TT_DATA13_WORD : Fld := ⟨0x80084, 0, 32, .ro, 0, false⟩
/-- R364. MOV_TT_DATA14: entry words 0–15 in the layout of R324. -/
def MOV_TT_DATA14_WORD : Fld := ⟨0x80088, 0, 32, .ro, 0, false⟩
/-- R364. MOV_TT_DATA15: entry words 0–15 in the layout of R324. -/
def MOV_TT_DATA15_WORD : Fld := ⟨0x8008C, 0, 32, .ro, 0, false⟩
/-- R364. MOV_NEAR_MARK: free near tier threshold, 64 MiB units. -/
def MOV_NEAR_MARK_THRESH : Fld := ⟨0x80090, 0, 16, .rw, 0x40, true⟩
/-- R364. MOV_NEAR_MARK: sticky: MOV_NEAR_FREE fell below THRESH. -/
def MOV_NEAR_MARK_STATUS : Fld := ⟨0x80090, 16, 1, .rw1c, 0, false⟩
/-- R364. MOV_NEAR_MARK: interrupt on each crossing; [31:18] reserved. -/
def MOV_NEAR_MARK_INT_EN : Fld := ⟨0x80090, 17, 1, .rw, 0, false⟩
/-- R364. MOV_NEAR_CROSS: downward crossings of THRESH. -/
def MOV_NEAR_CROSS_CROSSINGS : Fld := ⟨0x80094, 0, 32, .rc, 0, false⟩
/-- R364. MOV_NEAR_LOW: lowest MOV_NEAR_FREE since last read. -/
def MOV_NEAR_LOW_LOW_MIB : Fld := ⟨0x80098, 0, 32, .rc, 0xFFFFFFFF, false⟩
/-- R364. MOV_INT: R339. -/
def MOV_INT_MOVE_FAIL : Fld := ⟨0x8009C, 0, 1, .rw1c, 0, false⟩
/-- R364. MOV_INT: a lender recalled hanks (R357). -/
def MOV_INT_RECALLED : Fld := ⟨0x8009C, 1, 1, .rw1c, 0, false⟩
/-- R364. MOV_INT: R341. -/
def MOV_INT_POISON : Fld := ⟨0x8009C, 2, 1, .rw1c, 0, false⟩
/-- R364. MOV_INT: a configuration write was ignored. -/
def MOV_INT_CFG_REJECT : Fld := ⟨0x8009C, 3, 1, .rw1c, 0, false⟩
/-- R364. MOV_INT_EN: enables for the bits of MOV_INT; [31:4] reserved. -/
def MOV_INT_EN_EN : Fld := ⟨0x800A0, 0, 4, .rw, 0, false⟩

/-- Part 0 of the fields of block08. -/
def block08_0 : List Fld :=
  [MOV_CTRL_PAUSE, MOV_CTRL_WB_EN, MOV_DIRTY_CFG_DIRTY_LIMIT, MOV_DIRTY_CFG_WB_DELAY, MOV_STATUS_HOLDUP_READY, MOV_STATUS_PAUSED, MOV_STATUS_DEEP_RO, MOV_STATUS_ACTIVE, MOV_STATUS_QUEUED, MOV_DIRTY_BYTES_KIB, MOV_NEAR_AVAIL_MIB, MOV_NEAR_FREE_MIB, MOV_ZERO_PEND_MIB, MOV_DEEP_FREE_MIB, MOV_LEND_CFG_LEND_MAX, MOV_LEND_STAT_LENT, MOV_LEND_STAT_BORROWED, MOV_GRANULES_LO_GRAN_LO, MOV_GRANULES_HI_GRAN_HI, MOV_STALE_STALE, MOV_STALE_SERVED_SERVED, MOV_FAILS_FAILS, MOV_EVICT_EVICTS, MOV_TT_SEL_FN_FUNCTION]

/-- Part 1 of the fields of block08. -/
def block08_1 : List Fld :=
  [MOV_TT_SEL_IDX_INDEX, MOV_TT_CMD_READ, MOV_TT_CMD_DONE, MOV_TT_CMD_ABSENT, MOV_TT_DATA0_WORD, MOV_TT_DATA1_WORD, MOV_TT_DATA2_WORD, MOV_TT_DATA3_WORD, MOV_TT_DATA4_WORD, MOV_TT_DATA5_WORD, MOV_TT_DATA6_WORD, MOV_TT_DATA7_WORD, MOV_TT_DATA8_WORD, MOV_TT_DATA9_WORD, MOV_TT_DATA10_WORD, MOV_TT_DATA11_WORD, MOV_TT_DATA12_WORD, MOV_TT_DATA13_WORD, MOV_TT_DATA14_WORD, MOV_TT_DATA15_WORD, MOV_NEAR_MARK_THRESH, MOV_NEAR_MARK_STATUS, MOV_NEAR_MARK_INT_EN, MOV_NEAR_CROSS_CROSSINGS]

/-- Part 2 of the fields of block08. -/
def block08_2 : List Fld :=
  [MOV_NEAR_LOW_LOW_MIB, MOV_INT_MOVE_FAIL, MOV_INT_RECALLED, MOV_INT_POISON, MOV_INT_CFG_REJECT, MOV_INT_EN_EN]

/-- The fields of block08, in ascending order of offset and bit. -/
def block08 : List Fld := block08_0 ++ block08_1 ++ block08_2

/-- R365. FTL_STATUS: translation layer loaded. -/
def FTL_STATUS_READY : Fld := ⟨0x90000, 0, 1, .ro, 1, false⟩
/-- R365. FTL_STATUS: R354. -/
def FTL_STATUS_READ_ONLY : Fld := ⟨0x90000, 1, 1, .ro, 0, false⟩
/-- R365. FTL_STATUS: free space below the low mark (R353). -/
def FTL_STATUS_GC_URGENT : Fld := ⟨0x90000, 2, 1, .ro, 0, false⟩
/-- R365. FTL_STATUS: healthy channels. -/
def FTL_STATUS_CHANNELS_OK : Fld := ⟨0x90000, 8, 8, .ro, 0x20, false⟩
/-- R365. FTL_CFG: % of channel time for wear work; legal 5–50. -/
def FTL_CFG_WEAR_SHARE : Fld := ⟨0x90004, 0, 6, .rw, 0x19, true⟩
/-- R365. FTL_CFG: free-space low mark, % of raw; legal 2–10. -/
def FTL_CFG_LOW_MARK : Fld := ⟨0x90004, 8, 4, .rw, 3, true⟩
/-- R365. FTL_USED: logical space in use, MiB. -/
def FTL_USED_MIB : Fld := ⟨0x90008, 0, 32, .ro, 0, false⟩
/-- R365. FTL_CAPACITY: usable capacity, MiB. -/
def FTL_CAPACITY_MIB : Fld := ⟨0x9000C, 0, 32, .ro, 0x32EE84, false⟩
/-- R365. FTL_HOST_WR_LO: MiB written through the Move Engine over life, [31:0]. -/
def FTL_HOST_WR_LO_WR_LO : Fld := ⟨0x90010, 0, 32, .ro, 0, false⟩
/-- R365. FTL_HOST_WR_HI: the same, [63:32]. -/
def FTL_HOST_WR_HI_WR_HI : Fld := ⟨0x90014, 0, 32, .ro, 0, false⟩
/-- R365. FTL_NAND_WR_LO: MiB programmed into the array over life, [31:0]. -/
def FTL_NAND_WR_LO_NWR_LO : Fld := ⟨0x90018, 0, 32, .ro, 0, false⟩
/-- R365. FTL_NAND_WR_HI: the same, [63:32]. -/
def FTL_NAND_WR_HI_NWR_HI : Fld := ⟨0x9001C, 0, 32, .ro, 0, false⟩
/-- R365. FTL_LIFE: % of rated program/erase cycles used, saturating at 255. -/
def FTL_LIFE_LIFE_USED : Fld := ⟨0x90020, 0, 8, .ro, 0, false⟩
/-- R365. FTL_LIFE: % of spare blocks remaining. -/
def FTL_LIFE_SPARE_LEFT : Fld := ⟨0x90020, 8, 8, .ro, 0x64, false⟩
/-- R365. FTL_RD_REFRESH: blocks rewritten for read disturb. -/
def FTL_RD_REFRESH_BLOCKS : Fld := ⟨0x90024, 0, 32, .rc, 0, false⟩
/-- R365. FTL_GC_BLOCKS: blocks reclaimed. -/
def FTL_GC_BLOCKS_BLOCKS : Fld := ⟨0x90028, 0, 32, .rc, 0, false⟩
/-- R365. FTL_BAD_BLOCKS: blocks retired since manufacture. -/
def FTL_BAD_BLOCKS_GROWN : Fld := ⟨0x9002C, 0, 32, .ro, 0, false⟩
/-- R365. FTL_UNCORR: reads lost after parity (R341). -/
def FTL_UNCORR_COUNT : Fld := ⟨0x90030, 0, 32, .rc, 0, false⟩
/-- R365. FTL_PARITY_FIX: reads recovered through parity. -/
def FTL_PARITY_FIX_COUNT : Fld := ⟨0x90034, 0, 32, .rc, 0, false⟩
/-- R365. FTL_MARK: free-space stitch marker, % of raw. -/
def FTL_MARK_THRESH : Fld := ⟨0x90038, 0, 8, .rw, 5, true⟩
/-- R365. FTL_MARK: sticky: free space fell below THRESH. -/
def FTL_MARK_STATUS : Fld := ⟨0x90038, 8, 1, .rw1c, 0, false⟩
/-- R365. FTL_MARK: interrupt on each crossing; [31:10] reserved. -/
def FTL_MARK_INT_EN : Fld := ⟨0x90038, 9, 1, .rw, 0, false⟩
/-- R365. FTL_MARK_CROSS: downward crossings. -/
def FTL_MARK_CROSS_CROSSINGS : Fld := ⟨0x9003C, 0, 32, .rc, 0, false⟩
/-- R365. FTL_MARK_LOW: lowest free % since last read; [31:8] reserved. -/
def FTL_MARK_LOW_LOW : Fld := ⟨0x90040, 0, 8, .rc, 0xFF, false⟩
/-- R365. FTL_ERR: a write to FTL_CFG was ignored. -/
def FTL_ERR_CFG_REJECT : Fld := ⟨0x90044, 0, 1, .rw1c, 0, false⟩
/-- R365. FTL_ERR: R354. -/
def FTL_ERR_READ_ONLY_ENTERED : Fld := ⟨0x90044, 1, 1, .rw1c, 0, false⟩
/-- R365. FTL_ERR: a channel is rebuilt from parity. -/
def FTL_ERR_CHANNEL_FAIL : Fld := ⟨0x90044, 2, 1, .rw1c, 0, false⟩

/-- Part 0 of the fields of block09. -/
def block09_0 : List Fld :=
  [FTL_STATUS_READY, FTL_STATUS_READ_ONLY, FTL_STATUS_GC_URGENT, FTL_STATUS_CHANNELS_OK, FTL_CFG_WEAR_SHARE, FTL_CFG_LOW_MARK, FTL_USED_MIB, FTL_CAPACITY_MIB, FTL_HOST_WR_LO_WR_LO, FTL_HOST_WR_HI_WR_HI, FTL_NAND_WR_LO_NWR_LO, FTL_NAND_WR_HI_NWR_HI, FTL_LIFE_LIFE_USED, FTL_LIFE_SPARE_LEFT, FTL_RD_REFRESH_BLOCKS, FTL_GC_BLOCKS_BLOCKS, FTL_BAD_BLOCKS_GROWN, FTL_UNCORR_COUNT, FTL_PARITY_FIX_COUNT, FTL_MARK_THRESH, FTL_MARK_STATUS, FTL_MARK_INT_EN, FTL_MARK_CROSS_CROSSINGS, FTL_MARK_LOW_LOW]

/-- Part 1 of the fields of block09. -/
def block09_1 : List Fld :=
  [FTL_ERR_CFG_REJECT, FTL_ERR_READ_ONLY_ENTERED, FTL_ERR_CHANNEL_FAIL]

/-- The fields of block09, in ascending order of offset and bit. -/
def block09 : List Fld := block09_0 ++ block09_1

/-- R424. LNK_CTRL: drive Row Beacon out (R411). -/
def LNK_CTRL_BEACON_OUT_EN : Fld := ⟨0xA0000, 0, 1, .rw, 0, false⟩
/-- R424. LNK_CTRL: lock to Row Beacon in. -/
def LNK_CTRL_BEACON_IN_EN : Fld := ⟨0xA0000, 1, 1, .rw, 0, false⟩
/-- R424. LNK_SEL: selected link; [31:4] reserved. -/
def LNK_SEL_LINK : Fld := ⟨0xA0004, 0, 4, .rw, 0, false⟩
/-- R424. LNK_CFG: selected: attached by LINK_ATTACH. -/
def LNK_CFG_ENABLED : Fld := ⟨0xA0008, 0, 1, .ro, 0, false⟩
/-- R424. LNK_CFG: selected: a twin link. -/
def LNK_CFG_TWIN : Fld := ⟨0xA0008, 1, 1, .ro, 0, false⟩
/-- R424. LNK_CFG: selected: expected peer MODULE_ID; [31:27] reserved. -/
def LNK_CFG_PEER_EXPECT : Fld := ⟨0xA0008, 16, 11, .ro, 0, false⟩
/-- R424. LNK_STATE: selected: 0 DISABLED, 1 TRAINING, 2 SECURING, 3 UP, 4 RETRAINING, 5 DOWN; 6–7 reserved. -/
def LNK_STATE_STATE : Fld := ⟨0xA000C, 0, 3, .ro, 0, false⟩
/-- R424. LNK_STATE: full width and rate. -/
def LNK_STATE_FULL : Fld := ⟨0xA000C, 3, 1, .ro, 0, false⟩
/-- R424. LNK_STATE: trained on 2 lanes. -/
def LNK_STATE_TWO_LANE : Fld := ⟨0xA000C, 4, 1, .ro, 0, false⟩
/-- R424. LNK_STATE: trained at 106.25 Gb/s. -/
def LNK_STATE_HALF_RATE : Fld := ⟨0xA000C, 5, 1, .ro, 0, false⟩
/-- R424. LNK_STATE: current transmit phase. -/
def LNK_STATE_KEY_PHASE : Fld := ⟨0xA000C, 6, 1, .ro, 0, false⟩
/-- R424. LNK_STATE: peer MODULE_ID while UP; [31:19] reserved. -/
def LNK_STATE_PEER_MODULE : Fld := ⟨0xA000C, 8, 11, .ro, 0, false⟩
/-- R424. LNK_STAGE_CFG: 0: 2 MiB, 1: 4 MiB, 2: 8 MiB per link; 3 reserved (R406); [31:2] reserved. -/
def LNK_STAGE_CFG_SIZE : Fld := ⟨0xA0010, 0, 2, .rw, 1, true⟩
/-- R424. LNK_FABRIC: R413. -/
def LNK_FABRIC_FABRIC_ID : Fld := ⟨0xA0014, 0, 16, .ro, 0, false⟩
/-- R424. LNK_FABRIC: R413. -/
def LNK_FABRIC_MODULE_ID : Fld := ⟨0xA0014, 16, 11, .ro, 0, false⟩
/-- R424. LNK_FABRIC: 0 NONE, 1 LEAD, 2 STAGE; 3 reserved; [31:29] reserved. -/
def LNK_FABRIC_ROLE : Fld := ⟨0xA0014, 27, 2, .ro, 0, false⟩
/-- R424. LNK_UP: bit k: link k is UP at full width and rate; [31:16] reserved. -/
def LNK_UP_FULL_UP : Fld := ⟨0xA0018, 0, 16, .ro, 0, false⟩
/-- R424. LNK_TX_LO: selected: payload lines sent since cast-on, [31:0]. -/
def LNK_TX_LO_TX_LO : Fld := ⟨0xA001C, 0, 32, .ro, 0, false⟩
/-- R424. LNK_TX_HI: the same, [63:32]. -/
def LNK_TX_HI_TX_HI : Fld := ⟨0xA0020, 0, 32, .ro, 0, false⟩
/-- R424. LNK_RX_LO: selected: payload lines received, [31:0]. -/
def LNK_RX_LO_RX_LO : Fld := ⟨0xA0024, 0, 32, .ro, 0, false⟩
/-- R424. LNK_RX_HI: the same, [63:32]. -/
def LNK_RX_HI_RX_HI : Fld := ⟨0xA0028, 0, 32, .ro, 0, false⟩
/-- R424. LNK_FEC_CE: selected: code words corrected. -/
def LNK_FEC_CE_CE : Fld := ⟨0xA002C, 0, 32, .rc, 0, false⟩
/-- R424. LNK_REPLAY: selected: frames replayed (R396). -/
def LNK_REPLAY_REPLAYS : Fld := ⟨0xA0030, 0, 32, .rc, 0, false⟩
/-- R424. LNK_AUTH_FAIL: selected: tag failures (R400). -/
def LNK_AUTH_FAIL_FAILS : Fld := ⟨0xA0034, 0, 32, .rc, 0, false⟩
/-- R424. LNK_RETRAINS: selected: retrains. -/
def LNK_RETRAINS_RETRAINS : Fld := ⟨0xA0038, 0, 32, .rc, 0, false⟩
/-- R424. LNK_REKEYS: selected: key generations since cast-on. -/
def LNK_REKEYS_REKEYS : Fld := ⟨0xA003C, 0, 32, .ro, 0, false⟩
/-- R424. LNK_KEY_AGE: selected: frames sent under the current key / 2^20. -/
def LNK_KEY_AGE_FRAMES : Fld := ⟨0xA0040, 0, 32, .ro, 0, false⟩
/-- R424. LNK_TOKEN_TX: selected: ORDINAL of the last token sent, [31:0]. -/
def LNK_TOKEN_TX_ORD_TX : Fld := ⟨0xA0044, 0, 32, .ro, 0, false⟩
/-- R424. LNK_TOKEN_RX: selected: ORDINAL of the last token consumed, [31:0]. -/
def LNK_TOKEN_RX_ORD_RX : Fld := ⟨0xA0048, 0, 32, .ro, 0, false⟩
/-- R424. LNK_STAGE_USED: selected: staging lines in use; [31:17] reserved. -/
def LNK_STAGE_USED_LINES : Fld := ⟨0xA004C, 0, 17, .ro, 0, false⟩
/-- R424. LNK_STAGE_MARK: selected: threshold in units of 256 lines. -/
def LNK_STAGE_MARK_THRESH : Fld := ⟨0xA0050, 0, 8, .rw, 0x30, true⟩
/-- R424. LNK_STAGE_MARK: sticky: staging use rose above THRESH. -/
def LNK_STAGE_MARK_STATUS : Fld := ⟨0xA0050, 8, 1, .rw1c, 0, false⟩
/-- R424. LNK_STAGE_MARK: interrupt on each crossing; [31:10] reserved. -/
def LNK_STAGE_MARK_INT_EN : Fld := ⟨0xA0050, 9, 1, .rw, 0, false⟩
/-- R424. LNK_STAGE_CROSS: selected: upward crossings of THRESH. -/
def LNK_STAGE_CROSS_CROSSINGS : Fld := ⟨0xA0054, 0, 32, .rc, 0, false⟩
/-- R424. LNK_STAGE_PEAK: selected: highest staging use since last read; [31:17] reserved. -/
def LNK_STAGE_PEAK_LINES : Fld := ⟨0xA0058, 0, 17, .rc, 0, false⟩
/-- R424. LNK_ERR: a link went DOWN or was lost (R404). -/
def LNK_ERR_LINK_DOWN : Fld := ⟨0xA005C, 0, 1, .rw1c, 0, false⟩
/-- R424. LNK_ERR: R400. -/
def LNK_ERR_AUTH_BURST : Fld := ⟨0xA005C, 1, 1, .rw1c, 0, false⟩
/-- R424. LNK_ERR: R394, R408. -/
def LNK_ERR_PROTOCOL : Fld := ⟨0xA005C, 2, 1, .rw1c, 0, false⟩
/-- R424. LNK_ERR: R410. -/
def LNK_ERR_TOKEN_ORDER : Fld := ⟨0xA005C, 3, 1, .rw1c, 0, false⟩
/-- R424. LNK_ERR: R402. -/
def LNK_ERR_PEER_MISMATCH : Fld := ⟨0xA005C, 4, 1, .rw1c, 0, false⟩
/-- R424. LNK_ERR: R399. -/
def LNK_ERR_REKEY_LATE : Fld := ⟨0xA005C, 5, 1, .rw1c, 0, false⟩
/-- R424. LNK_ERR: R412. -/
def LNK_ERR_BEACON_LOST : Fld := ⟨0xA005C, 6, 1, .rw1c, 0, false⟩
/-- R424. LNK_ERR: a write to LNK_STAGE_CFG was ignored. -/
def LNK_ERR_CFG_REJECT : Fld := ⟨0xA005C, 7, 1, .rw1c, 0, false⟩
/-- R424. LNK_ERR: a link came UP below full width or rate. -/
def LNK_ERR_DEGRADED : Fld := ⟨0xA005C, 8, 1, .rw1c, 0, false⟩
/-- R424. LNK_ERR_LINK: link that last set a bit of LNK_ERR; [31:4] reserved. -/
def LNK_ERR_LINK_LINK : Fld := ⟨0xA0060, 0, 4, .ro, 0, false⟩
/-- R424. LNK_INT_EN: enables for the bits of LNK_ERR; [31:9] reserved. -/
def LNK_INT_EN_EN : Fld := ⟨0xA0064, 0, 9, .rw, 0, false⟩
/-- R424. LNK_BEACON: locked to Row Beacon in (R411); [31:1] reserved. -/
def LNK_BEACON_LOCKED : Fld := ⟨0xA0068, 0, 1, .ro, 0, false⟩
/-- R424. LNK_BEACON_CNT_LO: beacon pulses since cast-on, [31:0]. -/
def LNK_BEACON_CNT_LO_CNT_LO : Fld := ⟨0xA006C, 0, 32, .ro, 0, false⟩
/-- R424. LNK_BEACON_CNT_HI: the same, [47:32]; [31:16] reserved. -/
def LNK_BEACON_CNT_HI_CNT_HI : Fld := ⟨0xA0070, 0, 16, .ro, 0, false⟩

/-- Part 0 of the fields of block0A. -/
def block0A_0 : List Fld :=
  [LNK_CTRL_BEACON_OUT_EN, LNK_CTRL_BEACON_IN_EN, LNK_SEL_LINK, LNK_CFG_ENABLED, LNK_CFG_TWIN, LNK_CFG_PEER_EXPECT, LNK_STATE_STATE, LNK_STATE_FULL, LNK_STATE_TWO_LANE, LNK_STATE_HALF_RATE, LNK_STATE_KEY_PHASE, LNK_STATE_PEER_MODULE, LNK_STAGE_CFG_SIZE, LNK_FABRIC_FABRIC_ID, LNK_FABRIC_MODULE_ID, LNK_FABRIC_ROLE, LNK_UP_FULL_UP, LNK_TX_LO_TX_LO, LNK_TX_HI_TX_HI, LNK_RX_LO_RX_LO, LNK_RX_HI_RX_HI, LNK_FEC_CE_CE, LNK_REPLAY_REPLAYS, LNK_AUTH_FAIL_FAILS]

/-- Part 1 of the fields of block0A. -/
def block0A_1 : List Fld :=
  [LNK_RETRAINS_RETRAINS, LNK_REKEYS_REKEYS, LNK_KEY_AGE_FRAMES, LNK_TOKEN_TX_ORD_TX, LNK_TOKEN_RX_ORD_RX, LNK_STAGE_USED_LINES, LNK_STAGE_MARK_THRESH, LNK_STAGE_MARK_STATUS, LNK_STAGE_MARK_INT_EN, LNK_STAGE_CROSS_CROSSINGS, LNK_STAGE_PEAK_LINES, LNK_ERR_LINK_DOWN, LNK_ERR_AUTH_BURST, LNK_ERR_PROTOCOL, LNK_ERR_TOKEN_ORDER, LNK_ERR_PEER_MISMATCH, LNK_ERR_REKEY_LATE, LNK_ERR_BEACON_LOST, LNK_ERR_CFG_REJECT, LNK_ERR_DEGRADED, LNK_ERR_LINK_LINK, LNK_INT_EN_EN, LNK_BEACON_LOCKED, LNK_BEACON_CNT_LO_CNT_LO]

/-- Part 2 of the fields of block0A. -/
def block0A_2 : List Fld :=
  [LNK_BEACON_CNT_HI_CNT_HI]

/-- The fields of block0A, in ascending order of offset and bit. -/
def block0A : List Fld := block0A_0 ++ block0A_1 ++ block0A_2

/-- R454. TWN_STATE: 0 NONE, 1 SYNCING, 2 TWINNED, 3 SOLO, 4 FENCED, 5 DIVERGED; 6–7 reserved. -/
def TWN_STATE_STATE : Fld := ⟨0xB0000, 0, 3, .ro, 0, false⟩
/-- R454. TWN_STATE: 0 none, 1 PRIMARY, 2 MIRROR; 3 reserved. -/
def TWN_STATE_ROLE : Fld := ⟨0xB0000, 3, 2, .ro, 0, false⟩
/-- R454. TWN_STATE: as declared. -/
def TWN_STATE_AUTO_TAKEOVER : Fld := ⟨0xB0000, 5, 1, .ro, 0, false⟩
/-- R454. TWN_STATE: peer MODULE_ID; [31:27] reserved. -/
def TWN_STATE_PEER : Fld := ⟨0xB0000, 16, 11, .ro, 0, false⟩
/-- R454. TWN_LINKS: bit k: link k is a twin link. -/
def TWN_LINKS_TWIN : Fld := ⟨0xB0004, 0, 16, .ro, 0, false⟩
/-- R454. TWN_LINKS: bit k: a frame arrived on link k within the last 100 µs. -/
def TWN_LINKS_LIVE : Fld := ⟨0xB0004, 16, 16, .ro, 0, false⟩
/-- R454. TWN_MSEQ_SENT: highest MSEQ sent or applied. -/
def TWN_MSEQ_SENT_MSEQ : Fld := ⟨0xB0008, 0, 32, .ro, 0, false⟩
/-- R454. TWN_MSEQ_ACK: highest MSEQ acknowledged. -/
def TWN_MSEQ_ACK_MSEQ : Fld := ⟨0xB000C, 0, 32, .ro, 0, false⟩
/-- R454. TWN_DIGEST_CFG: rows / 256 − 1, as declared. -/
def TWN_DIGEST_CFG_INTERVAL : Fld := ⟨0xB0010, 0, 8, .ro, 0xF, false⟩
/-- R454. TWN_DIGEST_CFG: MiB per point, as declared. -/
def TWN_DIGEST_CFG_SWEEP : Fld := ⟨0xB0010, 8, 16, .ro, 0x400, false⟩
/-- R454. TWN_POINTS: digest points completed. -/
def TWN_POINTS_POINTS : Fld := ⟨0xB0014, 0, 32, .ro, 0, false⟩
/-- R454. TWN_LAST_MATCH_LO: row of the last matching point, [31:0]. -/
def TWN_LAST_MATCH_LO_ROW_LO : Fld := ⟨0xB0018, 0, 32, .ro, 0, false⟩
/-- R454. TWN_LAST_MATCH_HI: the same, [47:32]; [31:16] reserved. -/
def TWN_LAST_MATCH_HI_ROW_HI : Fld := ⟨0xB001C, 0, 16, .ro, 0, false⟩
/-- R454. TWN_DIGEST_LATE: points delayed (R434). -/
def TWN_DIGEST_LATE_LATE : Fld := ⟨0xB0020, 0, 32, .rc, 0, false⟩
/-- R454. TWN_SWEEP_ROUND: full sweeps completed. -/
def TWN_SWEEP_ROUND_ROUNDS : Fld := ⟨0xB0024, 0, 32, .ro, 0, false⟩
/-- R454. TWN_ACK_MARK: ACK wait threshold, µs. -/
def TWN_ACK_MARK_THRESH : Fld := ⟨0xB0028, 0, 16, .rw, 0x32, true⟩
/-- R454. TWN_ACK_MARK: sticky: a wait exceeded THRESH. -/
def TWN_ACK_MARK_STATUS : Fld := ⟨0xB0028, 16, 1, .rw1c, 0, false⟩
/-- R454. TWN_ACK_MARK: interrupt on each crossing; [31:18] reserved. -/
def TWN_ACK_MARK_INT_EN : Fld := ⟨0xB0028, 17, 1, .rw, 0, false⟩
/-- R454. TWN_ACK_CROSS: waits that exceeded THRESH. -/
def TWN_ACK_CROSS_CROSSINGS : Fld := ⟨0xB002C, 0, 32, .rc, 0, false⟩
/-- R454. TWN_ACK_PEAK: longest ACK wait, µs (R431). -/
def TWN_ACK_PEAK_PEAK_US : Fld := ⟨0xB0030, 0, 32, .rc, 0, false⟩
/-- R454. TWN_ERR: R438. -/
def TWN_ERR_LOSS : Fld := ⟨0xB0034, 0, 1, .rw1c, 0, false⟩
/-- R454. TWN_ERR: R439. -/
def TWN_ERR_TAKEOVER : Fld := ⟨0xB0034, 1, 1, .rw1c, 0, false⟩
/-- R454. TWN_ERR: R436. -/
def TWN_ERR_FENCED : Fld := ⟨0xB0034, 2, 1, .rw1c, 0, false⟩
/-- R454. TWN_ERR: R435. -/
def TWN_ERR_DIVERGED : Fld := ⟨0xB0034, 3, 1, .rw1c, 0, false⟩
/-- R454. TWN_ERR: R435. -/
def TWN_ERR_ECC_REPAIR : Fld := ⟨0xB0034, 4, 1, .rw1c, 0, false⟩
/-- R454. TWN_ERR: the set became TWINNED. -/
def TWN_ERR_SYNC_DONE : Fld := ⟨0xB0034, 5, 1, .rw1c, 0, false⟩
/-- R454. TWN_ERR: R437. -/
def TWN_ERR_ACK_TIMEOUT : Fld := ⟨0xB0034, 6, 1, .rw1c, 0, false⟩
/-- R454. TWN_INT_EN: enables for the bits of TWN_ERR; [31:7] reserved. -/
def TWN_INT_EN_EN : Fld := ⟨0xB0038, 0, 7, .rw, 0, false⟩

/-- Part 0 of the fields of block0B. -/
def block0B_0 : List Fld :=
  [TWN_STATE_STATE, TWN_STATE_ROLE, TWN_STATE_AUTO_TAKEOVER, TWN_STATE_PEER, TWN_LINKS_TWIN, TWN_LINKS_LIVE, TWN_MSEQ_SENT_MSEQ, TWN_MSEQ_ACK_MSEQ, TWN_DIGEST_CFG_INTERVAL, TWN_DIGEST_CFG_SWEEP, TWN_POINTS_POINTS, TWN_LAST_MATCH_LO_ROW_LO, TWN_LAST_MATCH_HI_ROW_HI, TWN_DIGEST_LATE_LATE, TWN_SWEEP_ROUND_ROUNDS, TWN_ACK_MARK_THRESH, TWN_ACK_MARK_STATUS, TWN_ACK_MARK_INT_EN, TWN_ACK_CROSS_CROSSINGS, TWN_ACK_PEAK_PEAK_US, TWN_ERR_LOSS, TWN_ERR_TAKEOVER, TWN_ERR_FENCED, TWN_ERR_DIVERGED]

/-- Part 1 of the fields of block0B. -/
def block0B_1 : List Fld :=
  [TWN_ERR_ECC_REPAIR, TWN_ERR_SYNC_DONE, TWN_ERR_ACK_TIMEOUT, TWN_INT_EN_EN]

/-- The fields of block0B, in ascending order of offset and bit. -/
def block0B : List Fld := block0B_0 ++ block0B_1

/-- R582. PWR_LEVEL: level requested by PERF_LEVEL. -/
def PWR_LEVEL_REQUESTED : Fld := ⟨0xC0000, 0, 3, .ro, 0, false⟩
/-- R582. PWR_LEVEL: level in force (R556). -/
def PWR_LEVEL_IN_FORCE : Fld := ⟨0xC0000, 3, 3, .ro, 0, false⟩
/-- R582. PWR_LEVEL: gauge cap in force. -/
def PWR_LEVEL_GAUGE_CAP : Fld := ⟨0xC0000, 6, 1, .ro, 0, false⟩
/-- R582. PWR_LEVEL: thermal cap in force. -/
def PWR_LEVEL_THERMAL_CAP : Fld := ⟨0xC0000, 7, 1, .ro, 0, false⟩
/-- R582. PWR_LEVEL: sustained-skip cap in force. -/
def PWR_LEVEL_SKIP_CAP : Fld := ⟨0xC0000, 8, 1, .ro, 0, false⟩
/-- R582. PWR_LEVEL: slowest cap; 0 when none. -/
def PWR_LEVEL_CAP : Fld := ⟨0xC0000, 9, 3, .ro, 0, false⟩
/-- R582. PWR_STATE: 0 ACTIVE, 1 IDLE, 2 REST, 3 PARK, 4 STORE; 5–7 reserved. -/
def PWR_STATE_STATE : Fld := ⟨0xC0004, 0, 3, .ro, 1, false⟩
/-- R582. PWR_STATE: an entry is running. -/
def PWR_STATE_ENTERING : Fld := ⟨0xC0004, 3, 1, .ro, 0, false⟩
/-- R582. PWR_STATE: an exit is running. -/
def PWR_STATE_EXITING : Fld := ⟨0xC0004, 4, 1, .ro, 0, false⟩
/-- R582. PWR_STATE: a wake event is latched (R568). -/
def PWR_STATE_WAKE_LATCHED : Fld := ⟨0xC0004, 5, 1, .ro, 0, false⟩
/-- R582. PWR_LIMIT: input power limit, W; legal 800–1,600. -/
def PWR_LIMIT_LIMIT_W : Fld := ⟨0xC0008, 0, 11, .rw, 0x640, true⟩
/-- R582. PWR_RAMP: W/µs; legal 5–100 (R560). -/
def PWR_RAMP_SLOPE : Fld := ⟨0xC000C, 0, 7, .rw, 0x14, true⟩
/-- R582. PWR_DRAW: input power, 1 ms average, W. -/
def PWR_DRAW_INPUT_W : Fld := ⟨0xC0010, 0, 11, .ro, 0, false⟩
/-- R582. PWR_DRAW: measured switchable load, W; [15:11] and [31:27] reserved. -/
def PWR_DRAW_SWITCH_W : Fld := ⟨0xC0010, 16, 11, .ro, 0, false⟩
/-- R582. PWR_ENERGY_LO: energy, mJ, [31:0] (R561). -/
def PWR_ENERGY_LO_MJ_LO : Fld := ⟨0xC0014, 0, 32, .ro, 0, false⟩
/-- R582. PWR_ENERGY_HI: the same, [63:32]. -/
def PWR_ENERGY_HI_MJ_HI : Fld := ⟨0xC0018, 0, 32, .ro, 0, false⟩
/-- R582. PWR_SKIPPED_LO: pulses skipped since cast-on, [31:0]. -/
def PWR_SKIPPED_LO_SKIP_LO : Fld := ⟨0xC001C, 0, 32, .ro, 0, false⟩
/-- R582. PWR_SKIPPED_HI: the same, [63:32]. -/
def PWR_SKIPPED_HI_SKIP_HI : Fld := ⟨0xC0020, 0, 32, .ro, 0, false⟩
/-- R582. PWR_SKIP_EVENTS: droop and current triggers, holding at 0xFFFF. -/
def PWR_SKIP_EVENTS_DROOP : Fld := ⟨0xC0024, 0, 16, .rc, 0, false⟩
/-- R582. PWR_SKIP_EVENTS: power-limit triggers, holding at 0xFFFF. -/
def PWR_SKIP_EVENTS_LIMIT : Fld := ⟨0xC0024, 16, 16, .rc, 0, false⟩
/-- R582. PWR_RES_SEL: 0–4: states in PWR_STATE order; 8–15: P0–P7; others read zero. -/
def PWR_RES_SEL_SEL : Fld := ⟨0xC0028, 0, 4, .rw, 0, false⟩
/-- R582. PWR_RES_LO: selected residency, ms, [31:0] (R562). -/
def PWR_RES_LO_MS_LO : Fld := ⟨0xC002C, 0, 32, .ro, 0, false⟩
/-- R582. PWR_RES_HI: the same, [63:32]. -/
def PWR_RES_HI_MS_HI : Fld := ⟨0xC0030, 0, 32, .ro, 0, false⟩
/-- R582. PWR_BOUNCES: bounces (R568). -/
def PWR_BOUNCES_BOUNCES : Fld := ⟨0xC0034, 0, 32, .rc, 0, false⟩
/-- R582. PWR_BARRIER_US: µs waited at the barrier (R563). -/
def PWR_BARRIER_US_WAIT : Fld := ⟨0xC0038, 0, 32, .rc, 0, false⟩
/-- R582. PWR_GAUGE: bit c: every record kind is valid at class Gc. -/
def PWR_GAUGE_VALID : Fld := ⟨0xC003C, 0, 4, .ro, 0, false⟩
/-- R582. PWR_GAUGE: class of the running template. -/
def PWR_GAUGE_RUN_CLASS : Fld := ⟨0xC003C, 4, 2, .ro, 0, false⟩
/-- R582. PWR_GAUGE: a re-gauge is running. -/
def PWR_GAUGE_REGAUGING : Fld := ⟨0xC003C, 6, 1, .ro, 0, false⟩
/-- R582. PWR_DRAW_MARK: input power stitch marker, W. -/
def PWR_DRAW_MARK_THRESH : Fld := ⟨0xC0040, 0, 11, .rw, 0x5F0, true⟩
/-- R582. PWR_DRAW_MARK: sticky: draw exceeded THRESH. -/
def PWR_DRAW_MARK_STATUS : Fld := ⟨0xC0040, 16, 1, .rw1c, 0, false⟩
/-- R582. PWR_DRAW_MARK: interrupt on each crossing; [15:11] and [31:18] reserved. -/
def PWR_DRAW_MARK_INT_EN : Fld := ⟨0xC0040, 17, 1, .rw, 0, false⟩
/-- R582. PWR_DRAW_CROSS: crossings of THRESH. -/
def PWR_DRAW_CROSS_CROSSINGS : Fld := ⟨0xC0044, 0, 32, .rc, 0, false⟩
/-- R582. PWR_DRAW_PEAK: highest 1 ms draw since last read; [31:11] reserved. -/
def PWR_DRAW_PEAK_PEAK_W : Fld := ⟨0xC0048, 0, 11, .rc, 0, false⟩
/-- R582. PWR_ERR: skipping for PWR_LIMIT began. -/
def PWR_ERR_LIMIT_SKIP : Fld := ⟨0xC004C, 0, 1, .rw1c, 0, false⟩
/-- R582. PWR_ERR: R559. -/
def PWR_ERR_SUSTAINED_SKIP : Fld := ⟨0xC004C, 1, 1, .rw1c, 0, false⟩
/-- R582. PWR_ERR: R576. -/
def PWR_ERR_GAUGE_CAP : Fld := ⟨0xC004C, 2, 1, .rw1c, 0, false⟩
/-- R582. PWR_ERR: R577. -/
def PWR_ERR_GAUGE_FAIL : Fld := ⟨0xC004C, 3, 1, .rw1c, 0, false⟩
/-- R582. PWR_ERR: R568. -/
def PWR_ERR_BOUNCE : Fld := ⟨0xC004C, 4, 1, .rw1c, 0, false⟩
/-- R582. PWR_ERR: a power register write was ignored. -/
def PWR_ERR_CFG_REJECT : Fld := ⟨0xC004C, 5, 1, .rw1c, 0, false⟩
/-- R582. PWR_ERR: a power-state transition completed. -/
def PWR_ERR_STATE_DONE : Fld := ⟨0xC004C, 6, 1, .rw1c, 0, false⟩
/-- R582. PWR_INT_EN: enables for PWR_ERR; [31:7] reserved. -/
def PWR_INT_EN_EN : Fld := ⟨0xC0050, 0, 7, .rw, 0, false⟩

/-- Part 0 of the fields of block0C. -/
def block0C_0 : List Fld :=
  [PWR_LEVEL_REQUESTED, PWR_LEVEL_IN_FORCE, PWR_LEVEL_GAUGE_CAP, PWR_LEVEL_THERMAL_CAP, PWR_LEVEL_SKIP_CAP, PWR_LEVEL_CAP, PWR_STATE_STATE, PWR_STATE_ENTERING, PWR_STATE_EXITING, PWR_STATE_WAKE_LATCHED, PWR_LIMIT_LIMIT_W, PWR_RAMP_SLOPE, PWR_DRAW_INPUT_W, PWR_DRAW_SWITCH_W, PWR_ENERGY_LO_MJ_LO, PWR_ENERGY_HI_MJ_HI, PWR_SKIPPED_LO_SKIP_LO, PWR_SKIPPED_HI_SKIP_HI, PWR_SKIP_EVENTS_DROOP, PWR_SKIP_EVENTS_LIMIT, PWR_RES_SEL_SEL, PWR_RES_LO_MS_LO, PWR_RES_HI_MS_HI, PWR_BOUNCES_BOUNCES]

/-- Part 1 of the fields of block0C. -/
def block0C_1 : List Fld :=
  [PWR_BARRIER_US_WAIT, PWR_GAUGE_VALID, PWR_GAUGE_RUN_CLASS, PWR_GAUGE_REGAUGING, PWR_DRAW_MARK_THRESH, PWR_DRAW_MARK_STATUS, PWR_DRAW_MARK_INT_EN, PWR_DRAW_CROSS_CROSSINGS, PWR_DRAW_PEAK_PEAK_W, PWR_ERR_LIMIT_SKIP, PWR_ERR_SUSTAINED_SKIP, PWR_ERR_GAUGE_CAP, PWR_ERR_GAUGE_FAIL, PWR_ERR_BOUNCE, PWR_ERR_CFG_REJECT, PWR_ERR_STATE_DONE, PWR_INT_EN_EN]

/-- The fields of block0C, in ascending order of offset and bit. -/
def block0C : List Fld := block0C_0 ++ block0C_1

/-- R583. THM_SEL: sensor shown in THM_TEMP (R571); [31:7] reserved. -/
def THM_SEL_SENSOR : Fld := ⟨0xD0000, 0, 7, .rw, 0, false⟩
/-- R583. THM_TEMP: reading of the selected sensor. -/
def THM_TEMP_TEMP : Fld := ⟨0xD0004, 0, 12, .ro, 0, false⟩
/-- R583. THM_TEMP: the sensor is not excluded (R573). -/
def THM_TEMP_VALID : Fld := ⟨0xD0004, 12, 1, .ro, 0, false⟩
/-- R583. THM_TEMP: its offset record is valid; [31:14] reserved. -/
def THM_TEMP_GAUGED : Fld := ⟨0xD0004, 13, 1, .ro, 0, false⟩
/-- R583. THM_DIE_MAX: hottest valid sensor of die 0. -/
def THM_DIE_MAX_DIE0 : Fld := ⟨0xD0008, 0, 12, .ro, 0, false⟩
/-- R583. THM_DIE_MAX: the same for die 1; [15:12] and [31:28] reserved. -/
def THM_DIE_MAX_DIE1 : Fld := ⟨0xD0008, 16, 12, .ro, 0, false⟩
/-- R583. THM_HBM_MAX: hottest HBM stack; [31:12] reserved. -/
def THM_HBM_MAX_HBM : Fld := ⟨0xD000C, 0, 12, .ro, 0, false⟩
/-- R583. THM_LIMITS: °C; legal 80–100. -/
def THM_LIMITS_DIE_THROTTLE : Fld := ⟨0xD0010, 0, 8, .rw, 0x5F, true⟩
/-- R583. THM_LIMITS: °C; legal 75–85. -/
def THM_LIMITS_HBM_THROTTLE : Fld := ⟨0xD0010, 8, 8, .rw, 0x55, true⟩
/-- R583. THM_LIMITS: 105 °C. -/
def THM_LIMITS_DIE_CRIT : Fld := ⟨0xD0010, 16, 8, .ro, 0x69, true⟩
/-- R583. THM_LIMITS: 115 °C. -/
def THM_LIMITS_DIE_TRIP : Fld := ⟨0xD0010, 24, 8, .ro, 0x73, true⟩
/-- R583. THM_STATUS: a die sensor is above its throttle limit. -/
def THM_STATUS_DIE_THROTTLE : Fld := ⟨0xD0014, 0, 1, .ro, 0, false⟩
/-- R583. THM_STATUS: an HBM stack is above its limit. -/
def THM_STATUS_HBM_THROTTLE : Fld := ⟨0xD0014, 1, 1, .ro, 0, false⟩
/-- R583. THM_STATUS: the deep-tier write rate is halved. -/
def THM_STATUS_FLASH_THROTTLE : Fld := ⟨0xD0014, 2, 1, .ro, 0, false⟩
/-- R583. THM_STATUS: critical action in force. -/
def THM_STATUS_CRITICAL : Fld := ⟨0xD0014, 3, 1, .ro, 0, false⟩
/-- R583. THM_STATUS: the last power-off was a thermal trip. -/
def THM_STATUS_TRIPPED : Fld := ⟨0xD0014, 4, 1, .rs, 0, false⟩
/-- R583. THM_STATUS: thermal cap level; [31:8] reserved. -/
def THM_STATUS_CAP : Fld := ⟨0xD0014, 5, 3, .ro, 0, false⟩
/-- R583. THM_MARK: die temperature stitch marker; 90 °C. -/
def THM_MARK_THRESH : Fld := ⟨0xD0018, 0, 12, .rw, 0x2D0, true⟩
/-- R583. THM_MARK: sticky: the hottest die sensor exceeded THRESH. -/
def THM_MARK_STATUS : Fld := ⟨0xD0018, 16, 1, .rw1c, 0, false⟩
/-- R583. THM_MARK: interrupt on each crossing; [15:12] and [31:18] reserved. -/
def THM_MARK_INT_EN : Fld := ⟨0xD0018, 17, 1, .rw, 0, false⟩
/-- R583. THM_CROSS: crossings of THRESH. -/
def THM_CROSS_CROSSINGS : Fld := ⟨0xD001C, 0, 32, .rc, 0, false⟩
/-- R583. THM_PEAK: hottest die reading since last read; [31:12] reserved. -/
def THM_PEAK_PEAK : Fld := ⟨0xD0020, 0, 12, .rc, 0, false⟩
/-- R583. THM_ERR: a throttle began. -/
def THM_ERR_THROTTLE : Fld := ⟨0xD0024, 0, 1, .rw1c, 0, false⟩
/-- R583. THM_ERR: critical action began. -/
def THM_ERR_CRITICAL : Fld := ⟨0xD0024, 1, 1, .rw1c, 0, false⟩
/-- R583. THM_ERR: R573. -/
def THM_ERR_SENSOR_FAIL : Fld := ⟨0xD0024, 2, 1, .rw1c, 0, false⟩
/-- R583. THM_ERR: a write to THM_LIMITS was ignored. -/
def THM_ERR_CFG_REJECT : Fld := ⟨0xD0024, 3, 1, .rw1c, 0, false⟩
/-- R583. THM_INT_EN: enables for THM_ERR; [31:4] reserved. -/
def THM_INT_EN_EN : Fld := ⟨0xD0028, 0, 4, .rw, 0, false⟩

/-- Part 0 of the fields of block0D. -/
def block0D_0 : List Fld :=
  [THM_SEL_SENSOR, THM_TEMP_TEMP, THM_TEMP_VALID, THM_TEMP_GAUGED, THM_DIE_MAX_DIE0, THM_DIE_MAX_DIE1, THM_HBM_MAX_HBM, THM_LIMITS_DIE_THROTTLE, THM_LIMITS_HBM_THROTTLE, THM_LIMITS_DIE_CRIT, THM_LIMITS_DIE_TRIP, THM_STATUS_DIE_THROTTLE, THM_STATUS_HBM_THROTTLE, THM_STATUS_FLASH_THROTTLE, THM_STATUS_CRITICAL, THM_STATUS_TRIPPED, THM_STATUS_CAP, THM_MARK_THRESH, THM_MARK_STATUS, THM_MARK_INT_EN, THM_CROSS_CROSSINGS, THM_PEAK_PEAK, THM_ERR_THROTTLE, THM_ERR_CRITICAL]

/-- Part 1 of the fields of block0D. -/
def block0D_1 : List Fld :=
  [THM_ERR_SENSOR_FAIL, THM_ERR_CFG_REJECT, THM_INT_EN_EN]

/-- The fields of block0D, in ascending order of offset and bit. -/
def block0D : List Fld := block0D_0 ++ block0D_1

/-- R455. TNK_CTRL: freeze the ring (R452); reads 1 until the copy completes. -/
def TNK_CTRL_FREEZE : Fld := ⟨0xF0000, 0, 1, .w1s, 0, true⟩
/-- R455. TNK_STATUS: the hold-up bank can fund a flush (R451). -/
def TNK_STATUS_FLUSH_READY : Fld := ⟨0xF0004, 0, 1, .ro, 0, false⟩
/-- R455. TNK_STATUS: a flush is running. -/
def TNK_STATUS_FLUSHING : Fld := ⟨0xF0004, 1, 1, .ro, 0, false⟩
/-- R455. TNK_STATUS: the log was lost at the last power loss. -/
def TNK_STATUS_LOG_LOST : Fld := ⟨0xF0004, 2, 1, .rs, 0, false⟩
/-- R455. TNK_STATUS: a freeze found all slots held. -/
def TNK_STATUS_FREEZE_FULL : Fld := ⟨0xF0004, 3, 1, .rw1c, 0, false⟩
/-- R455. TNK_STATUS: bit i: frozen slot i held. -/
def TNK_STATUS_FROZEN : Fld := ⟨0xF0004, 4, 4, .ro, 0, false⟩
/-- R455. TNK_SEQ: ENTRY_SEQ of the newest entry. -/
def TNK_SEQ_ENTRY_SEQ : Fld := ⟨0xF0008, 0, 32, .ro, 0, false⟩
/-- R455. TNK_SEL: entry to read from the ring. -/
def TNK_SEL_ENTRY_SEQ : Fld := ⟨0xF000C, 0, 32, .rw, 0, false⟩
/-- R455. TNK_CMD: copy the selected entry into TNK_DATA. -/
def TNK_CMD_READ : Fld := ⟨0xF0010, 0, 1, .w1s, 0, true⟩
/-- R455. TNK_CMD: the copy completed. -/
def TNK_CMD_DONE : Fld := ⟨0xF0010, 1, 1, .rw1c, 0, false⟩
/-- R455. TNK_CMD: the entry has left the ring; TNK_DATA reads zero. -/
def TNK_CMD_ABSENT : Fld := ⟨0xF0010, 2, 1, .rw1c, 0, false⟩
/-- R455. TNK_DATA0: entry words 0–7 in the layout of R448. -/
def TNK_DATA0_WORD : Fld := ⟨0xF0020, 0, 32, .ro, 0, false⟩
/-- R455. TNK_DATA1: entry words 0–7 in the layout of R448. -/
def TNK_DATA1_WORD : Fld := ⟨0xF0024, 0, 32, .ro, 0, false⟩
/-- R455. TNK_DATA2: entry words 0–7 in the layout of R448. -/
def TNK_DATA2_WORD : Fld := ⟨0xF0028, 0, 32, .ro, 0, false⟩
/-- R455. TNK_DATA3: entry words 0–7 in the layout of R448. -/
def TNK_DATA3_WORD : Fld := ⟨0xF002C, 0, 32, .ro, 0, false⟩
/-- R455. TNK_DATA4: entry words 0–7 in the layout of R448. -/
def TNK_DATA4_WORD : Fld := ⟨0xF0030, 0, 32, .ro, 0, false⟩
/-- R455. TNK_DATA5: entry words 0–7 in the layout of R448. -/
def TNK_DATA5_WORD : Fld := ⟨0xF0034, 0, 32, .ro, 0, false⟩
/-- R455. TNK_DATA6: entry words 0–7 in the layout of R448. -/
def TNK_DATA6_WORD : Fld := ⟨0xF0038, 0, 32, .ro, 0, false⟩
/-- R455. TNK_DATA7: entry words 0–7 in the layout of R448. -/
def TNK_DATA7_WORD : Fld := ⟨0xF003C, 0, 32, .ro, 0, false⟩
/-- R455. TNK_FLUSHES: flushes since cast-on. -/
def TNK_FLUSHES_FLUSHES : Fld := ⟨0xF0040, 0, 32, .ro, 0, false⟩
/-- R455. TNK_FLUSH_SEQ: newest ENTRY_SEQ in the last flush. -/
def TNK_FLUSH_SEQ_ENTRY_SEQ : Fld := ⟨0xF0044, 0, 32, .ro, 0, false⟩
/-- R455. TNK_FREEZE_LOST: freezes refused for lack of a slot. -/
def TNK_FREEZE_LOST_LOST : Fld := ⟨0xF0048, 0, 32, .rc, 0, false⟩

/-- Part 0 of the fields of block0F. -/
def block0F_0 : List Fld :=
  [TNK_CTRL_FREEZE, TNK_STATUS_FLUSH_READY, TNK_STATUS_FLUSHING, TNK_STATUS_LOG_LOST, TNK_STATUS_FREEZE_FULL, TNK_STATUS_FROZEN, TNK_SEQ_ENTRY_SEQ, TNK_SEL_ENTRY_SEQ, TNK_CMD_READ, TNK_CMD_DONE, TNK_CMD_ABSENT, TNK_DATA0_WORD, TNK_DATA1_WORD, TNK_DATA2_WORD, TNK_DATA3_WORD, TNK_DATA4_WORD, TNK_DATA5_WORD, TNK_DATA6_WORD, TNK_DATA7_WORD, TNK_FLUSHES_FLUSHES, TNK_FLUSH_SEQ_ENTRY_SEQ, TNK_FREEZE_LOST_LOST]

/-- The fields of block0F, in ascending order of offset and bit. -/
def block0F : List Fld := block0F_0

/-- R81. SEQ_CTRL: 1: run rows while steps are queued. -/
def SEQ_CTRL_RUN : Fld := ⟨0x100000, 0, 1, .rw, 0, true⟩
/-- R81. SEQ_CTRL: halt after the running step. -/
def SEQ_CTRL_HALT_STEP : Fld := ⟨0x100000, 1, 1, .w1s, 0, true⟩
/-- R81. SEQ_CTRL: halt after the current row, frogging uncommitted commands. -/
def SEQ_CTRL_HALT_ROW : Fld := ⟨0x100000, 2, 1, .w1s, 0, true⟩
/-- R81. SEQ_CTRL: set when a halt completes. -/
def SEQ_CTRL_HALT_DONE : Fld := ⟨0x100000, 3, 1, .rw1c, 0, false⟩
/-- R81. SEQ_ROW_CFG: row length in µs − 1; legal 1–31. -/
def SEQ_ROW_CFG_ROW_LEN : Fld := ⟨0x100004, 0, 5, .rw, 0xF, true⟩
/-- R81. SEQ_ROW_CFG: selvage k in k/32; legal 1–8. -/
def SEQ_ROW_CFG_SELVAGE : Fld := ⟨0x100004, 8, 4, .rw, 2, true⟩
/-- R81. SEQ_ROW_CFG: hard ceiling multiple; legal 2–8. -/
def SEQ_ROW_CFG_CEILING : Fld := ⟨0x100004, 12, 4, .rw, 4, true⟩
/-- R81. SEQ_ROW_CFG: pulse-skip margin in 1/256 of the foreground; legal 0–64. -/
def SEQ_ROW_CFG_MARGIN : Fld := ⟨0x100004, 16, 8, .rw, 4, true⟩
/-- R81. SEQ_ROW_CFG: barrier timeout multiple; legal 2–8. -/
def SEQ_ROW_CFG_BARRIER_TO : Fld := ⟨0x100004, 24, 4, .rw, 4, true⟩
/-- R81. SEQ_STATUS: 0 IDLE, 1 RUNNING, 2 HALTED, 3 FAULTED. -/
def SEQ_STATUS_STATE : Fld := ⟨0x100008, 0, 2, .ro, 0, false⟩
/-- R81. SEQ_STATUS: performance level in force. -/
def SEQ_STATUS_LEVEL : Fld := ⟨0x100008, 2, 3, .ro, 0, false⟩
/-- R81. SEQ_STATUS: a ramp row is running. -/
def SEQ_STATUS_RAMPING : Fld := ⟨0x100008, 5, 1, .ro, 0, false⟩
/-- R81. SEQ_STATUS: a gap row is running. -/
def SEQ_STATUS_GAP_ROW : Fld := ⟨0x100008, 6, 1, .ro, 0, false⟩
/-- R81. SEQ_STATUS: the running template is declared above the cap (R62). -/
def SEQ_STATUS_CAP_MISMATCH : Fld := ⟨0x100008, 7, 1, .ro, 0, false⟩
/-- R81. SEQ_STATUS: template of the running step. -/
def SEQ_STATUS_TEMPLATE : Fld := ⟨0x100008, 16, 16, .ro, 0xFFFF, false⟩
/-- R81. SEQ_ROW_LO: row number [31:0]. -/
def SEQ_ROW_LO_ROW_LO : Fld := ⟨0x10000C, 0, 32, .ro, 0, false⟩
/-- R81. SEQ_ROW_HI: row number [47:32]; [31:16] reserved. -/
def SEQ_ROW_HI_ROW_HI : Fld := ⟨0x100010, 0, 16, .ro, 0, false⟩
/-- R81. SEQ_STEP_LO: step number [31:0]. -/
def SEQ_STEP_LO_STEP_LO : Fld := ⟨0x100014, 0, 32, .ro, 0, false⟩
/-- R81. SEQ_STEP_HI: step number [63:32]. -/
def SEQ_STEP_HI_STEP_HI : Fld := ⟨0x100018, 0, 32, .ro, 0, false⟩
/-- R81. SEQ_FAULT: R42. -/
def SEQ_FAULT_TICK_OVERRUN : Fld := ⟨0x10001C, 0, 1, .rw1c, 0, true⟩
/-- R81. SEQ_FAULT: R43. -/
def SEQ_FAULT_BARRIER_TIMEOUT : Fld := ⟨0x10001C, 1, 1, .rw1c, 0, true⟩
/-- R81. SEQ_FAULT: R45. -/
def SEQ_FAULT_ROW_FAULT_RX : Fld := ⟨0x10001C, 2, 1, .rw1c, 0, true⟩
/-- R81. SEQ_FAULT: R70. -/
def SEQ_FAULT_ROSTER_INVALID : Fld := ⟨0x10001C, 3, 1, .rw1c, 0, true⟩
/-- R81. SEQ_FAULT: R73. -/
def SEQ_FAULT_PATTERN_ERR : Fld := ⟨0x10001C, 4, 1, .rw1c, 0, true⟩
/-- R81. SEQ_FAULT: R79. -/
def SEQ_FAULT_CFG_REJECT : Fld := ⟨0x10001C, 5, 1, .rw1c, 0, true⟩
/-- R81. SEQ_FAULT: R66. -/
def SEQ_FAULT_ROSTER_WRITE_LOCKED : Fld := ⟨0x10001C, 6, 1, .rw1c, 0, true⟩
/-- R81. SEQ_INT_EN: enable of TICK_OVERRUN. -/
def SEQ_INT_EN_TICK_OVERRUN : Fld := ⟨0x100020, 0, 1, .rw, 0, false⟩
/-- R81. SEQ_INT_EN: enable of BARRIER_TIMEOUT. -/
def SEQ_INT_EN_BARRIER_TIMEOUT : Fld := ⟨0x100020, 1, 1, .rw, 0, false⟩
/-- R81. SEQ_INT_EN: enable of ROW_FAULT_RX. -/
def SEQ_INT_EN_ROW_FAULT_RX : Fld := ⟨0x100020, 2, 1, .rw, 0, false⟩
/-- R81. SEQ_INT_EN: enable of ROSTER_INVALID. -/
def SEQ_INT_EN_ROSTER_INVALID : Fld := ⟨0x100020, 3, 1, .rw, 0, false⟩
/-- R81. SEQ_INT_EN: enable of PATTERN_ERR. -/
def SEQ_INT_EN_PATTERN_ERR : Fld := ⟨0x100020, 4, 1, .rw, 0, false⟩
/-- R81. SEQ_INT_EN: enable of CFG_REJECT. -/
def SEQ_INT_EN_CFG_REJECT : Fld := ⟨0x100020, 5, 1, .rw, 0, false⟩
/-- R81. SEQ_INT_EN: enable of ROSTER_WRITE_LOCKED. -/
def SEQ_INT_EN_ROSTER_WRITE_LOCKED : Fld := ⟨0x100020, 6, 1, .rw, 0, false⟩
/-- R81. SEQ_FAULT_ROW_LO: row at which SEQ_FAULT last went from zero to non-zero, [31:0]. -/
def SEQ_FAULT_ROW_LO_FROW_LO : Fld := ⟨0x100024, 0, 32, .ro, 0, false⟩
/-- R81. SEQ_FAULT_ROW_HI: the same, [47:32]; [31:16] reserved. -/
def SEQ_FAULT_ROW_HI_FROW_HI : Fld := ⟨0x100028, 0, 16, .ro, 0, false⟩
/-- R81. SEQ_TOKEN_WAIT: links whose token the barrier still awaits; [31:16] reserved. -/
def SEQ_TOKEN_WAIT_WAIT : Fld := ⟨0x10002C, 0, 16, .ro, 0, false⟩
/-- R81. SEQ_ROSTER_READY: bit 2m + b: roster ready (R65); [31:16] reserved. -/
def SEQ_ROSTER_READY_READY : Fld := ⟨0x100030, 0, 16, .w1s, 0, true⟩
/-- R81. SEQ_ROSTER_LOCK: bit 2m + b: buffer locked (R66); [31:16] reserved. -/
def SEQ_ROSTER_LOCK_LOCK : Fld := ⟨0x100034, 0, 16, .ro, 0, false⟩
/-- R81. SEQ_PM_BASE_LO: Pattern Memory near-tier address [31:12]; [11:0] reserved. -/
def SEQ_PM_BASE_LO_BASE_LO : Fld := ⟨0x100038, 12, 20, .rw, 0, true⟩
/-- R81. SEQ_PM_BASE_HI: address [39:32]; [31:8] reserved. -/
def SEQ_PM_BASE_HI_BASE_HI : Fld := ⟨0x10003C, 0, 8, .rw, 0, true⟩
/-- R81. SEQ_PM_SIZE: size in MiB − 1; [31:10] reserved. -/
def SEQ_PM_SIZE_SIZE : Fld := ⟨0x100040, 0, 10, .rw, 0x3FF, true⟩
/-- R81. SEQ_ROWTIME_MARK: row-duration stitch marker threshold in 0.25 µs units. -/
def SEQ_ROWTIME_MARK_THRESH : Fld := ⟨0x100044, 0, 16, .rw, 0x50, true⟩
/-- R81. SEQ_ROWTIME_MARK: sticky: a row exceeded THRESH. -/
def SEQ_ROWTIME_MARK_STATUS : Fld := ⟨0x100044, 16, 1, .rw1c, 0, false⟩
/-- R81. SEQ_ROWTIME_MARK: interrupt on each crossing; [31:18] reserved. -/
def SEQ_ROWTIME_MARK_INT_EN : Fld := ⟨0x100044, 17, 1, .rw, 0, false⟩
/-- R81. SEQ_ROWTIME_CROSS: rows that exceeded THRESH. -/
def SEQ_ROWTIME_CROSS_CROSSINGS : Fld := ⟨0x100048, 0, 32, .rc, 0, false⟩
/-- R81. SEQ_ROWTIME_PEAK: longest row duration, in ns. -/
def SEQ_ROWTIME_PEAK_PEAK_NS : Fld := ⟨0x10004C, 0, 32, .rc, 0, false⟩
/-- R81. SEQ_SLIP_PEAK: largest foreground slip in one row, in cycles; [31:16] reserved. -/
def SEQ_SLIP_PEAK_SLIP : Fld := ⟨0x100050, 0, 16, .rc, 0, false⟩
/-- R81. SEQ_ROSTER_STALL: steps delayed under R65. -/
def SEQ_ROSTER_STALL_STALLS : Fld := ⟨0x100054, 0, 32, .rc, 0, false⟩
/-- R81. SEQ_RAMP_ROWS: ramp rows run. -/
def SEQ_RAMP_ROWS_RAMPS : Fld := ⟨0x100058, 0, 32, .rc, 0, false⟩
/-- R81. SEQ_BUILD_STATUS: a build or recheck is running. -/
def SEQ_BUILD_STATUS_BUSY : Fld := ⟨0x10005C, 0, 1, .ro, 0, false⟩
/-- R81. SEQ_BUILD_STATUS: failure code of the last failed check (R53). -/
def SEQ_BUILD_STATUS_LAST_ERR : Fld := ⟨0x10005C, 8, 8, .ro, 0, false⟩
/-- R81. SEQ_BUILD_STATUS: verified templates in Pattern Memory. -/
def SEQ_BUILD_STATUS_TEMPLATES : Fld := ⟨0x10005C, 16, 16, .ro, 0, false⟩
/-- R138. SEQ_IFAULT_INFO: cause code (R137). -/
def SEQ_IFAULT_INFO_CAUSE : Fld := ⟨0x100060, 0, 8, .ro, 0, false⟩
/-- R138. SEQ_IFAULT_INFO: stage of the faulting instruction. -/
def SEQ_IFAULT_INFO_STAGE : Fld := ⟨0x100060, 8, 3, .ro, 0, false⟩
/-- R138. SEQ_IFAULT_INFO: die. -/
def SEQ_IFAULT_INFO_DIE : Fld := ⟨0x100060, 11, 1, .ro, 0, false⟩
/-- R138. SEQ_IFAULT_INFO: command slot. -/
def SEQ_IFAULT_INFO_CSLOT : Fld := ⟨0x100060, 12, 4, .ro, 0, false⟩
/-- R138. SEQ_IFAULT_INFO: index of the instruction in its stream, 0–4,094. -/
def SEQ_IFAULT_INFO_INDEX : Fld := ⟨0x100060, 16, 12, .ro, 0, false⟩
/-- R138. SEQ_IFAULT_OP: opcode. -/
def SEQ_IFAULT_OP_OPCODE : Fld := ⟨0x100064, 0, 8, .ro, 0, false⟩
/-- R138. SEQ_IFAULT_OP: issue cycle in the row. -/
def SEQ_IFAULT_OP_CYCLE : Fld := ⟨0x100064, 16, 16, .ro, 0, false⟩
/-- R389. SEQ_SCHED_CFG: window in rows / 256 − 1; 256–65,536 rows. -/
def SEQ_SCHED_CFG_WINDOW : Fld := ⟨0x100068, 0, 8, .rw, 0xF, true⟩
/-- R389. SEQ_SCHED_SEL: function shown at 0x070–0x078; [31:11] reserved. -/
def SEQ_SCHED_SEL_FUNCTION : Fld := ⟨0x10006C, 0, 11, .rw, 0, false⟩
/-- R389. SEQ_SCHED_STAT: SHARE of the selected function. -/
def SEQ_SCHED_STAT_SHARE : Fld := ⟨0x100070, 0, 11, .ro, 0, false⟩
/-- R389. SEQ_SCHED_STAT: PRIORITY. -/
def SEQ_SCHED_STAT_PRIORITY : Fld := ⟨0x100070, 12, 3, .ro, 0, false⟩
/-- R389. SEQ_SCHED_STAT: open sequences, 0–4,096. -/
def SEQ_SCHED_STAT_OPEN : Fld := ⟨0x100070, 16, 13, .ro, 0, false⟩
/-- R389. SEQ_SCHED_ROWS: rows charged in the current window, 1/256 row (R378). -/
def SEQ_SCHED_ROWS_ROWS : Fld := ⟨0x100074, 0, 32, .ro, 0, false⟩
/-- R389. SEQ_SCHED_LAST: rows charged in the last complete window. -/
def SEQ_SCHED_LAST_ROWS : Fld := ⟨0x100078, 0, 32, .ro, 0, false⟩
/-- R389. SEQ_OPEN_SEQS: open sequences of the module, 0–16,384; [31:15] reserved. -/
def SEQ_OPEN_SEQS_OPEN : Fld := ⟨0x10007C, 0, 15, .ro, 0, false⟩
/-- R389. SEQ_TOKGAP_MARK: token-interval threshold, µs. -/
def SEQ_TOKGAP_MARK_THRESH : Fld := ⟨0x100080, 0, 16, .rw, 0xFA0, true⟩
/-- R389. SEQ_TOKGAP_MARK: sticky: a decode sequence's interval exceeded THRESH. -/
def SEQ_TOKGAP_MARK_STATUS : Fld := ⟨0x100080, 16, 1, .rw1c, 0, false⟩
/-- R389. SEQ_TOKGAP_MARK: interrupt on each crossing; [31:18] reserved. -/
def SEQ_TOKGAP_MARK_INT_EN : Fld := ⟨0x100080, 17, 1, .rw, 0, false⟩
/-- R389. SEQ_TOKGAP_CROSS: intervals that exceeded THRESH. -/
def SEQ_TOKGAP_CROSS_CROSSINGS : Fld := ⟨0x100084, 0, 32, .rc, 0, false⟩
/-- R389. SEQ_TOKGAP_PEAK: longest interval between consecutive tokens of one sequence, µs. -/
def SEQ_TOKGAP_PEAK_PEAK_US : Fld := ⟨0x100088, 0, 32, .rc, 0, false⟩
/-- R389. SEQ_MODEL_SEL: model shown at 0x090–0x098; [31:3] reserved. -/
def SEQ_MODEL_SEL_MODEL : Fld := ⟨0x10008C, 0, 3, .rw, 0, false⟩
/-- R389. SEQ_MODEL_SCHED: WEIGHT (R381). -/
def SEQ_MODEL_SCHED_WEIGHT : Fld := ⟨0x100090, 0, 4, .ro, 1, false⟩
/-- R389. SEQ_MODEL_SCHED: LONG_CLASS. -/
def SEQ_MODEL_SCHED_LONG_CLASS : Fld := ⟨0x100090, 4, 4, .ro, 5, false⟩
/-- R389. SEQ_MODEL_SCHED: LONG_PERIOD. -/
def SEQ_MODEL_SCHED_LONG_PERIOD : Fld := ⟨0x100090, 8, 7, .ro, 1, false⟩
/-- R389. SEQ_MODEL_LIMIT: LONG_ROW_LIMIT. -/
def SEQ_MODEL_LIMIT_LONG_ROWS : Fld := ⟨0x100094, 0, 16, .ro, 0x400, false⟩
/-- R389. SEQ_MODEL_LIMIT: N_m of R382. -/
def SEQ_MODEL_LIMIT_NORMAL_ROWS : Fld := ⟨0x100094, 16, 16, .ro, 0, false⟩
/-- R389. SEQ_MODEL_BOUND: B_m of R382, recomputed at every template or setting change; 0 while the model is not resident. -/
def SEQ_MODEL_BOUND_BOUND_ROWS : Fld := ⟨0x100098, 0, 16, .ro, 0, false⟩

/-- Part 0 of the fields of block10. -/
def block10_0 : List Fld :=
  [SEQ_CTRL_RUN, SEQ_CTRL_HALT_STEP, SEQ_CTRL_HALT_ROW, SEQ_CTRL_HALT_DONE, SEQ_ROW_CFG_ROW_LEN, SEQ_ROW_CFG_SELVAGE, SEQ_ROW_CFG_CEILING, SEQ_ROW_CFG_MARGIN, SEQ_ROW_CFG_BARRIER_TO, SEQ_STATUS_STATE, SEQ_STATUS_LEVEL, SEQ_STATUS_RAMPING, SEQ_STATUS_GAP_ROW, SEQ_STATUS_CAP_MISMATCH, SEQ_STATUS_TEMPLATE, SEQ_ROW_LO_ROW_LO, SEQ_ROW_HI_ROW_HI, SEQ_STEP_LO_STEP_LO, SEQ_STEP_HI_STEP_HI, SEQ_FAULT_TICK_OVERRUN, SEQ_FAULT_BARRIER_TIMEOUT, SEQ_FAULT_ROW_FAULT_RX, SEQ_FAULT_ROSTER_INVALID, SEQ_FAULT_PATTERN_ERR]

/-- Part 1 of the fields of block10. -/
def block10_1 : List Fld :=
  [SEQ_FAULT_CFG_REJECT, SEQ_FAULT_ROSTER_WRITE_LOCKED, SEQ_INT_EN_TICK_OVERRUN, SEQ_INT_EN_BARRIER_TIMEOUT, SEQ_INT_EN_ROW_FAULT_RX, SEQ_INT_EN_ROSTER_INVALID, SEQ_INT_EN_PATTERN_ERR, SEQ_INT_EN_CFG_REJECT, SEQ_INT_EN_ROSTER_WRITE_LOCKED, SEQ_FAULT_ROW_LO_FROW_LO, SEQ_FAULT_ROW_HI_FROW_HI, SEQ_TOKEN_WAIT_WAIT, SEQ_ROSTER_READY_READY, SEQ_ROSTER_LOCK_LOCK, SEQ_PM_BASE_LO_BASE_LO, SEQ_PM_BASE_HI_BASE_HI, SEQ_PM_SIZE_SIZE, SEQ_ROWTIME_MARK_THRESH, SEQ_ROWTIME_MARK_STATUS, SEQ_ROWTIME_MARK_INT_EN, SEQ_ROWTIME_CROSS_CROSSINGS, SEQ_ROWTIME_PEAK_PEAK_NS, SEQ_SLIP_PEAK_SLIP, SEQ_ROSTER_STALL_STALLS]

/-- Part 2 of the fields of block10. -/
def block10_2 : List Fld :=
  [SEQ_RAMP_ROWS_RAMPS, SEQ_BUILD_STATUS_BUSY, SEQ_BUILD_STATUS_LAST_ERR, SEQ_BUILD_STATUS_TEMPLATES, SEQ_IFAULT_INFO_CAUSE, SEQ_IFAULT_INFO_STAGE, SEQ_IFAULT_INFO_DIE, SEQ_IFAULT_INFO_CSLOT, SEQ_IFAULT_INFO_INDEX, SEQ_IFAULT_OP_OPCODE, SEQ_IFAULT_OP_CYCLE, SEQ_SCHED_CFG_WINDOW, SEQ_SCHED_SEL_FUNCTION, SEQ_SCHED_STAT_SHARE, SEQ_SCHED_STAT_PRIORITY, SEQ_SCHED_STAT_OPEN, SEQ_SCHED_ROWS_ROWS, SEQ_SCHED_LAST_ROWS, SEQ_OPEN_SEQS_OPEN, SEQ_TOKGAP_MARK_THRESH, SEQ_TOKGAP_MARK_STATUS, SEQ_TOKGAP_MARK_INT_EN, SEQ_TOKGAP_CROSS_CROSSINGS, SEQ_TOKGAP_PEAK_PEAK_US]

/-- Part 3 of the fields of block10. -/
def block10_3 : List Fld :=
  [SEQ_MODEL_SEL_MODEL, SEQ_MODEL_SCHED_WEIGHT, SEQ_MODEL_SCHED_LONG_CLASS, SEQ_MODEL_SCHED_LONG_PERIOD, SEQ_MODEL_LIMIT_LONG_ROWS, SEQ_MODEL_LIMIT_NORMAL_ROWS, SEQ_MODEL_BOUND_BOUND_ROWS]

/-- The fields of block10, in ascending order of offset and bit. -/
def block10 : List Fld := block10_0 ++ block10_1 ++ block10_2 ++ block10_3

/-- R494. SEC_STATUS: 0 MANUFACTURE, 1 PRODUCTION, 2 RMA; 3 reserved. -/
def SEC_STATUS_LIFECYCLE : Fld := ⟨0x110000, 0, 2, .ro, 1, false⟩
/-- R494. SEC_STATUS: every image verified (R466). -/
def SEC_STATUS_BOOT_OK : Fld := ⟨0x110000, 2, 1, .ro, 0, false⟩
/-- R494. SEC_STATUS: a zeroisation is running. -/
def SEC_STATUS_ZEROISING : Fld := ⟨0x110000, 3, 1, .ro, 0, false⟩
/-- R494. SEC_STATUS: a request is deferred (R484). -/
def SEC_STATUS_DEFER_PENDING : Fld := ⟨0x110000, 4, 1, .ro, 0, false⟩
/-- R494. SEC_SVN: SVN of the running Firmware Complex image set. -/
def SEC_SVN_RUNNING : Fld := ⟨0x110004, 0, 16, .ro, 0, false⟩
/-- R494. SEC_SVN: fused SVN of that class. -/
def SEC_SVN_FUSED : Fld := ⟨0x110004, 16, 16, .ro, 0, false⟩
/-- R494. SEC_KEYS: tenant keys loaded. -/
def SEC_KEYS_TENANT : Fld := ⟨0x110008, 0, 11, .ro, 0, false⟩
/-- R494. SEC_KEYS: bit s: BK_s loaded. -/
def SEC_KEYS_BASE : Fld := ⟨0x110008, 16, 8, .ro, 0, false⟩
/-- R494. SEC_FN_SEL: function shown in SEC_FN_STAT; [31:11] reserved. -/
def SEC_FN_SEL_FUNCTION : Fld := ⟨0x11000C, 0, 11, .rw, 0, false⟩
/-- R494. SEC_FN_STAT: the selected function's key is loaded. -/
def SEC_FN_STAT_KEY : Fld := ⟨0x110010, 0, 1, .ro, 0, false⟩
/-- R494. SEC_FN_STAT: 0 CONFIG_UNLOCKED, 1 CONFIG_LOCKED, 2 RUN, 3 ERROR. -/
def SEC_FN_STAT_TDISP : Fld := ⟨0x110010, 1, 2, .ro, 0, false⟩
/-- R494. SEC_FN_STAT: dirty-page log enabled. -/
def SEC_FN_STAT_DPL_EN : Fld := ⟨0x110010, 3, 1, .ro, 0, false⟩
/-- R494. SEC_FN_STAT: touch-log items, 0–1,032. -/
def SEC_FN_STAT_TOUCHED : Fld := ⟨0x110010, 16, 11, .ro, 0, false⟩
/-- R494. SEC_DENIED_RD: denied reads (R462). -/
def SEC_DENIED_RD_COUNT : Fld := ⟨0x110014, 0, 32, .rc, 0, false⟩
/-- R494. SEC_DENIED_WR: denied writes. -/
def SEC_DENIED_WR_COUNT : Fld := ⟨0x110018, 0, 32, .rc, 0, false⟩
/-- R494. SEC_DENY_INFO: 0 DP, 1 ME, 2 CC, 3 DBG, 4 HOST, 5 LINK; 6–7 reserved. -/
def SEC_DENY_INFO_AGENT : Fld := ⟨0x11001C, 0, 3, .ro, 0, false⟩
/-- R494. SEC_DENY_INFO: the access was a write. -/
def SEC_DENY_INFO_WRITE : Fld := ⟨0x11001C, 3, 1, .ro, 0, false⟩
/-- R494. SEC_DENY_INFO: class of the frame; 0xFE for a frame that is FREE or ZEROING; 0xFF for unit storage. -/
def SEC_DENY_INFO_CLASS : Fld := ⟨0x11001C, 4, 8, .ro, 0, false⟩
/-- R494. SEC_DENY_INFO: owner of the frame. -/
def SEC_DENY_INFO_OWNER : Fld := ⟨0x11001C, 12, 11, .ro, 0, false⟩
/-- R494. SEC_DENY_FRAME: module frame number; [31:23] reserved. -/
def SEC_DENY_FRAME_FRAME : Fld := ⟨0x110020, 0, 23, .ro, 0, false⟩
/-- R494. SEC_ERR: R462. -/
def SEC_ERR_PROT_READ : Fld := ⟨0x110024, 0, 1, .rw1c, 0, false⟩
/-- R494. SEC_ERR: R462. -/
def SEC_ERR_PROT_WRITE : Fld := ⟨0x110024, 1, 1, .rw1c, 0, false⟩
/-- R494. SEC_ERR: R474. -/
def SEC_ERR_POLICY_LOCK : Fld := ⟨0x110024, 2, 1, .rw1c, 0, false⟩
/-- R494. SEC_ERR: R473. -/
def SEC_ERR_POLICY_ROSTER : Fld := ⟨0x110024, 3, 1, .rw1c, 0, false⟩
/-- R494. SEC_ERR: R486, R487. -/
def SEC_ERR_TDISP_ERROR : Fld := ⟨0x110024, 4, 1, .rw1c, 0, false⟩
/-- R494. SEC_ERR: R489. -/
def SEC_ERR_DPL_OVERFLOW : Fld := ⟨0x110024, 5, 1, .rw1c, 0, false⟩
/-- R494. SEC_ERR: R469. -/
def SEC_ERR_JTAG_REFUSED : Fld := ⟨0x110024, 6, 1, .rw1c, 0, false⟩
/-- R494. SEC_ERR: R482. -/
def SEC_ERR_ZEROISE_DONE : Fld := ⟨0x110024, 7, 1, .rw1c, 0, false⟩
/-- R494. SEC_ERR: a deadline zero-fill ran (R484). -/
def SEC_ERR_DEFER_EXPIRED : Fld := ⟨0x110024, 8, 1, .rw1c, 0, false⟩
/-- R494. SEC_ERR: a security register write was ignored. -/
def SEC_ERR_CFG_REJECT : Fld := ⟨0x110024, 9, 1, .rw1c, 0, false⟩
/-- R494. SEC_INT_EN: enables for the bits of SEC_ERR; [31:10] reserved. -/
def SEC_INT_EN_EN : Fld := ⟨0x110028, 0, 10, .rw, 0, false⟩
/-- R494. SEC_DEFER: ms to the earliest deadline; 0 when none. -/
def SEC_DEFER_MS_LEFT : Fld := ⟨0x11002C, 0, 16, .ro, 0, false⟩
/-- R494. SEC_IDE: selective streams in the secure state, 0–256; [31:9] reserved. -/
def SEC_IDE_STREAMS : Fld := ⟨0x110030, 0, 9, .ro, 0, false⟩
/-- R494. SEC_DPL_SEL: VF shown at 0x044–0x05C; legal 1–1,024; [31:11] reserved. -/
def SEC_DPL_SEL_VF : Fld := ⟨0x110040, 0, 11, .rw, 1, false⟩
/-- R494. SEC_DPL_CTL: dirty-page log enabled (R489). -/
def SEC_DPL_CTL_EN : Fld := ⟨0x110044, 0, 1, .rw, 0, true⟩
/-- R494. SEC_DPL_CTL: R490. -/
def SEC_DPL_CTL_STOP : Fld := ⟨0x110044, 1, 1, .rw, 0, true⟩
/-- R494. SEC_DPL_CTL: drain after STOP completed. -/
def SEC_DPL_CTL_STOPPED : Fld := ⟨0x110044, 2, 1, .ro, 0, false⟩
/-- R494. SEC_DPL_CTL: start a new epoch. -/
def SEC_DPL_CTL_EPOCH : Fld := ⟨0x110044, 3, 1, .w1s, 0, true⟩
/-- R494. SEC_DPL_CTL: the ring filled. -/
def SEC_DPL_CTL_OVERFLOW : Fld := ⟨0x110044, 4, 1, .rw1c, 0, false⟩
/-- R494. SEC_DPL_RING_LO: ring address [31:12]; [11:0] reserved. -/
def SEC_DPL_RING_LO_BASE_LO : Fld := ⟨0x110048, 12, 20, .rw, 0, false⟩
/-- R494. SEC_DPL_RING_HI: ring address [63:32]. -/
def SEC_DPL_RING_HI_BASE_HI : Fld := ⟨0x11004C, 0, 32, .rw, 0, false⟩
/-- R494. SEC_DPL_RING_SIZE: entries = 2^LOG2; legal 9–20; [31:5] reserved. -/
def SEC_DPL_RING_SIZE_LOG2 : Fld := ⟨0x110050, 0, 5, .rw, 9, false⟩
/-- R494. SEC_DPL_HEAD: next entry the host will read; [31:20] reserved. -/
def SEC_DPL_HEAD_HEAD : Fld := ⟨0x110054, 0, 20, .rw, 0, true⟩
/-- R494. SEC_DPL_TAIL: next entry the DN7 will write; [31:20] reserved. -/
def SEC_DPL_TAIL_TAIL : Fld := ⟨0x110058, 0, 20, .ro, 0, false⟩
/-- R494. SEC_DPL_PAGES: entries written. -/
def SEC_DPL_PAGES_COUNT : Fld := ⟨0x11005C, 0, 32, .rc, 0, false⟩

/-- Part 0 of the fields of block11. -/
def block11_0 : List Fld :=
  [SEC_STATUS_LIFECYCLE, SEC_STATUS_BOOT_OK, SEC_STATUS_ZEROISING, SEC_STATUS_DEFER_PENDING, SEC_SVN_RUNNING, SEC_SVN_FUSED, SEC_KEYS_TENANT, SEC_KEYS_BASE, SEC_FN_SEL_FUNCTION, SEC_FN_STAT_KEY, SEC_FN_STAT_TDISP, SEC_FN_STAT_DPL_EN, SEC_FN_STAT_TOUCHED, SEC_DENIED_RD_COUNT, SEC_DENIED_WR_COUNT, SEC_DENY_INFO_AGENT, SEC_DENY_INFO_WRITE, SEC_DENY_INFO_CLASS, SEC_DENY_INFO_OWNER, SEC_DENY_FRAME_FRAME, SEC_ERR_PROT_READ, SEC_ERR_PROT_WRITE, SEC_ERR_POLICY_LOCK, SEC_ERR_POLICY_ROSTER]

/-- Part 1 of the fields of block11. -/
def block11_1 : List Fld :=
  [SEC_ERR_TDISP_ERROR, SEC_ERR_DPL_OVERFLOW, SEC_ERR_JTAG_REFUSED, SEC_ERR_ZEROISE_DONE, SEC_ERR_DEFER_EXPIRED, SEC_ERR_CFG_REJECT, SEC_INT_EN_EN, SEC_DEFER_MS_LEFT, SEC_IDE_STREAMS, SEC_DPL_SEL_VF, SEC_DPL_CTL_EN, SEC_DPL_CTL_STOP, SEC_DPL_CTL_STOPPED, SEC_DPL_CTL_EPOCH, SEC_DPL_CTL_OVERFLOW, SEC_DPL_RING_LO_BASE_LO, SEC_DPL_RING_HI_BASE_HI, SEC_DPL_RING_SIZE_LOG2, SEC_DPL_HEAD_HEAD, SEC_DPL_TAIL_TAIL, SEC_DPL_PAGES_COUNT]

/-- The fields of block11, in ascending order of offset and bit. -/
def block11 : List Fld := block11_0 ++ block11_1

/-- R624. TEL_SEL: sensor shown in TEL_VALUE; [31:6] reserved. -/
def TEL_SEL_SENSOR : Fld := ⟨0x120000, 0, 6, .rw, 0, false⟩
/-- R624. TEL_VALUE: reading of the selected sensor, two's complement, in its unit; zero for a reserved index. -/
def TEL_VALUE_VALUE : Fld := ⟨0x120004, 0, 32, .ro, 0, false⟩
/-- R624. TEL_INPUT: input voltage, 10 mV. -/
def TEL_INPUT_VIN : Fld := ⟨0x120008, 0, 16, .ro, 0, false⟩
/-- R624. TEL_INPUT: input current, 10 mA. -/
def TEL_INPUT_IIN : Fld := ⟨0x120008, 16, 16, .ro, 0, false⟩
/-- R624. TEL_STATUS: VIN between 44 V and 48 V (R607). -/
def TEL_STATUS_UNDER_V : Fld := ⟨0x12000C, 0, 1, .ro, 0, false⟩
/-- R624. TEL_STATUS: coupling loop closed. -/
def TEL_STATUS_COUPLED : Fld := ⟨0x12000C, 1, 1, .ro, 0, false⟩
/-- R624. TEL_STATUS: state of PWR_EN. -/
def TEL_STATUS_PWR_EN : Fld := ⟨0x12000C, 2, 1, .ro, 0, false⟩
/-- R624. TEL_STATUS: every rail within its window (R610). -/
def TEL_STATUS_RAILS_OK : Fld := ⟨0x12000C, 3, 1, .ro, 0, false⟩
/-- R624. TEL_ALERT: UNDER_V was set. -/
def TEL_ALERT_UNDER_V : Fld := ⟨0x120010, 0, 1, .rw1c, 0, false⟩
/-- R624. TEL_ALERT: VIN exceeded 54 V. -/
def TEL_ALERT_OVER_V : Fld := ⟨0x120010, 1, 1, .rw1c, 0, false⟩
/-- R624. TEL_ALERT: R621. -/
def TEL_ALERT_COUPLING_OPEN : Fld := ⟨0x120010, 2, 1, .rw1c, 0, false⟩
/-- R624. TEL_ALERT: R619. -/
def TEL_ALERT_INLET_HIGH : Fld := ⟨0x120010, 3, 1, .rw1c, 0, false⟩
/-- R624. TEL_ALERT_EN: enables SMB_ALERT# for the bits of TEL_ALERT; [31:4] reserved. -/
def TEL_ALERT_EN_EN : Fld := ⟨0x120014, 0, 4, .rw, 0, false⟩

/-- Part 0 of the fields of block12. -/
def block12_0 : List Fld :=
  [TEL_SEL_SENSOR, TEL_VALUE_VALUE, TEL_INPUT_VIN, TEL_INPUT_IIN, TEL_STATUS_UNDER_V, TEL_STATUS_COUPLED, TEL_STATUS_PWR_EN, TEL_STATUS_RAILS_OK, TEL_ALERT_UNDER_V, TEL_ALERT_OVER_V, TEL_ALERT_COUPLING_OPEN, TEL_ALERT_INLET_HIGH, TEL_ALERT_EN_EN]

/-- The fields of block12, in ascending order of offset and bit. -/
def block12 : List Fld := block12_0

/-- The fields of the block (R622) or, below 0x1_0000, the 4 KiB page of the function window that holds `off`. -/
def block (off : Nat) : List Fld :=
  match off / 0x10000 with
  | 0 =>
    match off / 0x1000 with
    | 0x0 => page0
    | 0x1 => page1
    | 0x2 => page2
    | 0x8 => page8
    | 0xE => pageE
    | _ => []
  | 0x1 => block01
  | 0x2 => block02
  | 0x4 => block04
  | 0x5 => block05
  | 0x6 => block06
  | 0x7 => block07
  | 0x8 => block08
  | 0x9 => block09
  | 0xA => block0A
  | 0xB => block0B
  | 0xC => block0C
  | 0xD => block0D
  | 0xF => block0F
  | 0x10 => block10
  | 0x11 => block11
  | 0x12 => block12
  | _ => []

/-- The fields of the register at `off`, in ascending bit order; empty where the map has no register. -/
def fieldsAt (off : Nat) : List Fld := (block off).filter (fun f => f.off == off)

end Reg

end Sys2Proof.Machine
end

