-- ==== Sys2Proof/Machine/HostTypes.lean ====
section
/-!
DEFINITION. What the block gives to the outside world and the queues of the host interface: completion entries (R506),
mailbox replies (R512), frames on seam links (R393), Tink log entries (R448), submission entries (R505).
-/

namespace Sys2Proof.Machine

/-- R514. The status codes. -/
inductive Status where
  | ok | badVersion | badArg | stateConflict | noCapacity | quota | denied | busyRetry | faulted | deferred
  | generationStale | incomplete
  deriving DecidableEq, Repr

/-- R514. The code of a status. -/
def Status.code (s : Status) : Nat :=
  match s with
  | .ok => 0
  | .badVersion => 1
  | .badArg => 2
  | .stateConflict => 3
  | .noCapacity => 4
  | .quota => 5
  | .denied => 6
  | .busyRetry => 7
  | .faulted => 8
  | .deferred => 9
  | .generationStale => 10
  | .incomplete => 11

/-- R506. The KIND of a completion entry. -/
inductive CKind where
  | command | token | seq | move | reply | note
  deriving DecidableEq, Repr

/-- R506. A completion entry as written: the function, its index in the queue, its common layout and bytes 8 to 63. -/
structure Completion where
  fn : Nat
  index : Nat
  kind : CKind
  phase : Nat
  status : Status
  sq : Nat
  sqHead : Nat
  body : List Byte
  deriving DecidableEq, Repr

/-- R512, R517. A mailbox reply placed in a function's page. -/
structure Reply where
  fn : Nat
  type : Nat
  seq : Nat
  minor : Nat
  status : Status
  isAsync : Bool
  isPending : Bool
  payload : List Byte
  deriving DecidableEq, Repr

/-- R517. A request whose final outcome is still owed: its sender, type, sequence number, version and whether ASYNC. -/
structure Ticket where
  fn : Nat
  type : Nat
  seq : Nat
  minor : Nat
  isAsync : Bool
  deriving DecidableEq, Repr

/-- A frame the module puts on a seam link or a twin link: its type and its fields as numbers and lines. -/
inductive Frame where
  | item (ctag seq cls : Nat) (lines : List LineData)
  | commit (ctag : Nat)
  | discard (ctag : Nat)
  | rowDone (ordinal : Nat)
  | rowFault (ordinal cause : Nat)
  | roster (step stage seqCap tokCap ctxClass : Nat) (bytes : List Byte)
  | bulk (stream granule first : Nat) (lines : List LineData)
  | bulkOpen (stream slot : Nat) (sizes : List (Nat × Nat)) (digest : BitVec 256)
  | bulkAccept (stream : Nat)
  | bulkRefuse (stream : Nat) (status : Status)
  | bulkAck (stream granule : Nat)
  | bulkResume (stream granule : Nat)
  | bulkClose (stream : Nat) (digest : BitVec 256)
  | breadReq (tag fn idx gen hank first count : Nat)
  | breadCpl (tag : Nat) (stale : Bool) (lines : List LineData)
  | hankDir (hank ext : Nat) (valid : Bool) (first count fn idx gen : Nat)
  | hankRecall (hank deadline : Nat)
  | keyReady (phase : Nat)
  | twinWrite (ctag : Nat) (handle : Handle) (first : Nat) (lines : List LineData)
  | twinCommit (ctag mseq : Nat)
  | twinDiscard (ctag : Nat)
  | twinCtx (mseq fn : Nat) (streams : List Stream) (bindings : List (Handle × Nat × Nat)) (heads : List Nat)
  | twinTable (mseq fn idx : Nat) (entry : Option Tensor)
  | twinRoster (mseq model buffer : Nat) (roster : Roster)
  | twinTokens (mseq seqId : Nat) (tokens : List Word)
  | twinAck (mseq : Nat)
  | twinHeartbeat (mseq row : Nat)
  | twinDigest (mseq point : Nat) (digest : BitVec 256)
  | twinFault (cause : Nat)
  | twinSync (granule : Nat) (handle : Handle) (lines : List LineData)
  | twinDrop (mseq : Nat)
  deriving DecidableEq, Repr

/-- R393, R394, R429. Payload lines of a frame, where its fields show them. -/
def Frame.payload (f : Frame) : Option Nat :=
  match f with
  | .item _ _ _ l => some l.length
  | .roster _ _ _ _ _ b => some ((32 + b.length + 255) / 256)
  | .bulk _ _ _ l => some l.length
  | .bulkOpen _ _ _ _ => some 1
  | .bulkClose _ _ => some 1
  | .breadCpl _ _ l => some l.length
  | .hankDir _ _ _ _ _ _ _ _ => some 1
  | .twinWrite _ _ _ l => some l.length
  | .twinCtx _ _ _ _ _ => none
  | .twinTable _ _ _ _ => some 1
  | .twinRoster _ _ _ r => some ((32 + 32 * r.entries.length + 64 * r.swLists.length + 255) / 256)
  | .twinTokens _ _ l => some ((4 * l.length + 255) / 256)
  | .twinDigest _ _ _ => some 1
  | .twinSync _ _ l => some l.length
  | _ => some 0

/-- R22, R39, R404. Whether a row of a pattern sends a frame. -/
def Frame.ofPattern (f : Frame) : Bool :=
  match f with
  | .item _ _ _ _ => true
  | .commit _ => true
  | .discard _ => true
  | .rowDone _ => true
  | .rowFault _ _ => true
  | .roster _ _ _ _ _ _ => true
  | _ => false

/-- R391. Whether a degraded link carries a frame: bulk streams and link management. -/
def Frame.onDegraded (f : Frame) : Bool :=
  match f with
  | .bulk _ _ _ _ => true
  | .bulkOpen _ _ _ _ => true
  | .bulkAccept _ => true
  | .bulkRefuse _ _ => true
  | .bulkAck _ _ => true
  | .bulkResume _ _ => true
  | .bulkClose _ _ => true
  | .keyReady _ => true
  | .hankRecall _ _ => true
  | _ => false

/-- R448. A Tink log entry. -/
structure TinkEntry where
  row : Nat
  cycle : Nat
  code : Nat
  fn : Nat
  seq : Nat
  args : List Byte
  deriving DecidableEq, Repr

/-- R511, R512. The mailbox page of one request at its doorbell: the sending function, its header fields and payload;
`buffer` holds the bytes that the module reads from the host buffer its payload names, where it names one (R521). -/
structure Mail where
  fn : Nat
  major : Nat
  minor : Nat
  seq : Nat
  status : Nat
  flags : Nat
  payload : List Byte
  buffer : List Byte
  deriving DecidableEq, Repr

/-- R5. The little-endian field of `k` bytes at byte `i` of the payload. -/
def Mail.u (m : Mail) (i k : Nat) : Nat := leField m.payload i k

/-- R518. The handle at byte `i` of the payload. -/
def Mail.handle (m : Mail) (i : Nat) : Handle := Handle.ofNat (m.u i 6)

/-- R323. A handle that names no tensor of any function: index 0 or a function beyond 1,024. -/
def Handle.malformed (h : Handle) : Bool := h.toNat != 0 && (h.idx == 0 || h.fn > 1024)

/-- R518, R323. The handle at byte `i` is well formed and its bits [63:48] are zero. -/
def Mail.handleOk (m : Mail) (i : Nat) : Bool := m.u (i + 6) 2 == 0 && !(m.handle i).malformed

/-- R122. The precondition that 8 bytes spell. -/
def Precond.ofNat (x : Nat) : Precond := ⟨bits x 0 4, bits x 4 4, bits x 8 8, bits x 16 48⟩

/-- R505. A submission entry as its bytes spell it. OPC 1 COMMAND (with the descriptor read from host memory), 2
SEQ_OPEN, 3 SEQ_APPEND, 4 SEQ_CLOSE; any other OPC is reserved. `rsvd` is the sum of the bytes that must be zero. -/
structure SqEntry where
  opc : Nat
  model : Nat
  fixedSlices : Bool
  allowBase : Bool
  rngStream : Nat
  swCount : Nat
  tag : Nat
  desc : Descriptor
  kv : Handle
  seqId : Nat
  tokens : Handle
  tokFirst : Nat
  tokCount : Nat
  motif : Handle
  maxNew : Nat
  swatches : List Handle
  rsvd : Nat
  deriving DecidableEq, Repr

/-- R503. An entry fetched and waiting for its admission: function, queue, index in the queue. -/
structure Fetched where
  fn : Nat
  queue : Nat
  index : Nat
  entry : SqEntry
  deriving DecidableEq, Repr

/-- What the block has put out: completion entries, MSI-X messages (function and vector), mailbox replies, frames by
link, register reads (function, offset, value), bytes read
through BAR4, DMA writes (function, host address, bytes), and messages on other pins and buses. Newest last. -/
structure Outbox where
  completions : List Completion
  msix : List (Nat × Nat)
  replies : List Reply
  frames : List (Nat × Frame)
  reads : List (Nat × Nat × Nat)
  bar : List (List Byte)
  hostWrites : List (Nat × Nat × List Byte)
  side : List (Nat × List Byte)
  deriving DecidableEq, Repr

/-- Nothing put out. -/
def Outbox.empty : Outbox := ⟨[], [], [], [], [], [], [], []⟩

end Sys2Proof.Machine
end

