-- ==== Sys2Proof/Machine/TierTypes.lean ====
section
/-!
DEFINITION. What the memory tiers hold: quotas (R345), context blocks (R119), moves (R333), host registrations,
lent and borrowed hanks (R355), base models (R358), motif states (R230), swatch records (R248).
-/

namespace Sys2Proof.Machine

/-- R345, R346. A function's quotas, in 4 KiB units for sizes. -/
structure Quota where
  nearLimit : Nat
  nearReserve : Nat
  nearUsed : Nat
  deepLimit : Nat
  deepUsed : Nat
  borrowLimit : Nat
  borrowUsed : Nat
  tensorLimit : Nat
  tensorUsed : Nat
  motifLimit : Nat
  motifUsed : Nat
  dirtyLines : Nat
  deriving DecidableEq, Repr

/-- R346. A VF's quotas when it is enabled: all limits zero. -/
def Quota.zero : Quota := ⟨0, 0, 0, 0, 0, 0, 0, 0, 0, 0, 0, 0⟩

/-- R119. One binding entry: handle, hot slot, MODE (0 unbound, 1 serve, 2 train). -/
structure Binding where
  handle : Handle
  slot : Nat
  mode : Nat
  deriving DecidableEq, Repr

/-- R119. A context block. Its STATE is GLB_FN_STATE.STATE of the function. `sqHeads` and `sqTails` are the saved heads
and tails; `snapshot` is the quota snapshot last written and `snapRow` its row; `epoch` counts resets of the block. -/
structure CtxBlock where
  saveCount : Nat
  saveRow : Nat
  sqHeads : List Nat
  sqTails : List Nat
  streams : List Stream
  bindings : List Binding
  snapshot : Quota
  snapRow : Nat
  epoch : Nat
  deriving DecidableEq, Repr

/-- R119, R311. The context block of function `n` when it is enabled. -/
def CtxBlock.init (n epoch : Nat) : CtxBlock :=
  ⟨0, 0, List.replicate 8 0, List.replicate 8 0, (List.range 16).map (Stream.default n),
   List.replicate 64 ⟨Handle.none, 0, 0⟩, Quota.zero, 0, epoch⟩

/-- R333. A move descriptor. -/
structure MoveDesc where
  progress : Nat
  src : Handle
  dst : Handle
  relocate : Bool
  dstTier : Tier
  notify : Bool
  cvt : Nat
  rot : Bool
  qfmt : Nat
  group : Nat
  qmode : Bool
  qscfmt : Nat
  sign : Handle
  rows : Nat
  cols : Nat
  rsvd : Nat
  deriving DecidableEq, Repr

/-- R321. The tier of a code. -/
def Tier.ofCode (n : Nat) : Tier :=
  match n with
  | 0 => .near
  | 1 => .deep
  | 2 => .borrowed
  | _ => .host

/-- R321. The code of a tier. -/
def Tier.code (t : Tier) : Nat :=
  match t with
  | .near => 0
  | .deep => 1
  | .borrowed => 2
  | .host => 3

/-- R333. The move descriptor that 64 bytes spell. -/
def MoveDesc.ofBytes (l : List Byte) : MoveDesc :=
  let b20 := leField l 20 1
  let b21 := leField l 21 1
  let b22 := leField l 22 1
  let b23 := leField l 23 1
  { progress := leField l 0 8
    src := Handle.ofNat (leField l 8 6)
    dst := Handle.ofNat (leField l 14 6)
    relocate := bits b20 0 2 == 1
    dstTier := Tier.ofCode (bits b20 2 2)
    notify := bit b20 4
    cvt := bits b21 0 2
    rot := bit b21 2
    qfmt := bits b22 0 5
    group := bits b22 5 2
    qmode := bit b22 7
    qscfmt := bits b23 0 5
    sign := Handle.ofNat (leField l 24 6)
    rows := leField l 32 4
    cols := leField l 36 4
    rsvd := bits b20 5 3 + bits b21 3 5 + bits b23 5 3 + leField l 30 2 + leField l 40 24 +
      (if bits b20 0 2 > 1 then 1 else 0) }

/-- Why a move runs: what its end must report to. -/
inductive MoveCause where
  | command (commandId index queue : Nat)
  | place (t : Ticket)
  | evict
  | recall
  | park (fn : Nat)
  | restore (fn : Nat)
  | writeback
  | model (slot : Nat)
  | motif (fn idx : Nat)
  | relay (stream : Nat)
  | other
  deriving DecidableEq, Repr

/-- R336. A stretch of lines that a move copies: from where to where, and how many. A location in a tier is what
LOCATION holds there (R325). -/
structure MoveSeg where
  srcTier : Tier
  srcLoc : Nat
  dstTier : Tier
  dstLoc : Nat
  lines : Nat
  deriving DecidableEq, Repr

/-- R108, R338. A move running or waiting: `granules` done of `total`; `table` and `tindex` name its descriptor when it
has one; `segs` the stretches it copies; `locs` the locations allotted to the tensor and its scale tensor; `wseq0` is
WSEQ at the start of a write-back (R340); `buf` the source lines a converting move has read (R335); `clean` when the old
home becomes the deep copy and no data moves (R336). -/
structure Move where
  id : Nat
  fn : Nat
  cause : MoveCause
  desc : MoveDesc
  table : Handle
  tindex : Nat
  running : Bool
  stopped : Bool
  granules : Nat
  total : Nat
  segs : List MoveSeg
  locs : List Nat
  clean : Bool
  wseq0 : Nat
  srcGen : Nat
  buf : List LineData
  deriving DecidableEq, Repr

/-- R355. An extent in a hank's directory, kept by the lender. -/
structure Extent where
  first : Nat
  count : Nat
  fn : Nat
  idx : Nat
  gen : Nat
  deriving DecidableEq, Repr

/-- R355, R357. A hank lent on a link: its near-tier base line, its directory, and its recall deadline if recalled. -/
structure LentHank where
  link : Nat
  base : Nat
  extents : List (Nat × Extent)
  recallAt : Option Nat
  deriving DecidableEq, Repr

/-- R355. A hank borrowed on a link: the hank's number at the lender and its recall deadline if recalled. -/
structure BorrowedHank where
  link : Nat
  hank : Nat
  extents : List (Nat × Extent)
  recallAt : Option Nat
  deriving DecidableEq, Repr

/-- R358. The parameters of a base model. -/
structure ModelParams where
  layers : Nat
  kvLpt : Nat
  targets : List (Nat × Nat)
  rankLimit : Nat
  rhtBlock : Option Nat
  signVec : Handle
  posPre : Bool
  secret : Bool
  shards : Nat
  digest : BitVec 256
  deriving DecidableEq, Repr

/-- R358, R359. The state of a model slot: 0 EMPTY, 1 LOADING, 2 RESIDENT. -/
structure ModelSlot where
  state : Nat
  params : ModelParams
  digest : BitVec 256
  tensors : List Nat
  ticket : Option Ticket
  relayOut : Option Nat
  deriving DecidableEq, Repr

/-- No parameters. -/
def ModelParams.empty : ModelParams := ⟨0, 0, [], 0, Option.none, Handle.none, false, false, 0, 0⟩

/-- An empty slot. -/
def ModelSlot.empty : ModelSlot := ⟨0, ModelParams.empty, 0, [], none, none⟩

/-- R230. The states of a motif. -/
inductive MotifState where
  | parked | resident | serving | training | draining
  deriving DecidableEq, Repr

/-- R230. The number a conflict report gives a motif state. -/
def MotifState.code (m : MotifState) : Nat :=
  match m with
  | .parked => 0
  | .resident => 1
  | .serving => 2
  | .training => 3
  | .draining => 4

/-- R225. What the DN7 keeps of a motif beside its tensor. -/
structure Motif where
  state : MotifState
  model : Nat
  rank : Nat
  slot : Nat
  deriving DecidableEq, Repr

/-- R248. A swatch record. STATE is 0 BUILDING, 1 SEALED, 2 FAILED, 3 RELEASED; `done` counts tokens committed. -/
structure Swatch where
  state : Nat
  model : Nat
  relocatable : Bool
  length : Nat
  basePos : Nat
  motifDigest : BitVec 256
  digest : BitVec 256
  pins : Nat
  done : Nat
  ticket : Option Ticket
  deriving DecidableEq, Repr

/-- R458. The Region Table tag of a 64 KiB frame: OWNER, CLASS, STATE (0 FREE, 1 ASSIGNED, 2 ZEROING), HOLD. -/
structure Region where
  owner : Nat
  cls : Nat
  state : Nat
  hold : Bool
  deriving DecidableEq, Repr

end Sys2Proof.Machine
end

