-- ==== Sys2Proof/Machine/TrolumOperands.lean ====
section
/-!
DEFINITION. The operand fields of the Trolum instructions (chapter 04): one structure for each layout of bits [91:0],
and `Issue`, the fields common to every word with what the row supplies when it issues.
-/

namespace Sys2Proof.Machine

/-- R85, R86. The common fields of an issued instruction: die and stage stream it lies in, UNIT, CSLOT, START, its index
in the stream (R137) and issue cycle. `bad` names skein lines on which an uncorrectable error has appeared (R90),
`tierEcc` an uncorrectable error on its tier read, `late` a tier read that has not delivered by the result cycle; `unitErr` an uncorrectable error in unit-local
storage it reads, as store and row (R207, R258), `unitCe` the corrected ones. -/
structure Issue where
  die : Nat
  stage : Nat
  unit : Nat
  cslot : Nat
  start : Nat
  index : Nat
  cycle : Nat
  bad : List Nat
  tierEcc : Bool
  late : Bool
  unitErr : Option (Nat × Nat)
  unitCe : Nat
  deriving DecidableEq, Repr

/-- R139. FETCH.T and FETCH.S. -/
structure FetchOp where
  opd : Nat
  dst : Nat
  lcnt : Nat
  offset : Nat
  fmt : Nat
  src : Nat
  rate : Nat
  deriving DecidableEq, Repr

/-- R141. FETCH.KV. -/
structure FetchKvOp where
  roster : Nat
  entry : Nat
  chunk : Nat
  chlen : Nat
  dst : Nat
  layer : Nat
  rate : Nat
  deriving DecidableEq, Repr

/-- R142. MOVE.T. -/
structure MoveOp where
  opd : Nat
  index : Nat
  deriving DecidableEq, Repr

/-- R143. UNP.CVT. -/
structure UnpCvtOp where
  src : Nat
  dst : Nat
  ecnt : Nat
  sfmt : Nat
  dfmt : Nat
  deriving DecidableEq, Repr

/-- R143. UNP.DQ. -/
structure UnpDqOp where
  src : Nat
  dst : Nat
  ecnt : Nat
  sfmt : Nat
  dfmt : Nat
  group : Nat
  qmode : Nat
  scfmt : Nat
  deriving DecidableEq, Repr

/-- R143. UNP.RHT. -/
structure UnpRhtOp where
  src : Nat
  dst : Nat
  ecnt : Nat
  fmt : Nat
  blk : Nat
  inv : Nat
  signs : Nat
  deriving DecidableEq, Repr

/-- R143. UNP.LAY. -/
structure UnpLayOp where
  src : Nat
  dst : Nat
  ecnt : Nat
  fmt : Nat
  op : Nat
  rowlen : Nat
  deriving DecidableEq, Repr

/-- R146. MX.LDW. -/
structure MxLdwOp where
  src : Nat
  wfmt : Nat
  group : Nat
  scfmt : Nat
  ascfmt : Nat
  qmode : Nat
  deriving DecidableEq, Repr

/-- R147. MX.RUN and MX.RUNT. -/
structure MxRunOp where
  act : Nat
  rows : Nat
  accb : Nat
  afmt : Nat
  wfmt : Nat
  segt : Nat
  accIn : Nat
  motif : Nat
  kt : Nat
  pass : Nat
  deriving DecidableEq, Repr

/-- R151. MX.WGRAD. -/
structure MxWgradOp where
  in1 : Nat
  in2 : Nat
  dst : Nat
  rows : Nat
  mode : Nat
  accIn : Nat
  drain : Nat
  rank : Nat
  deriving DecidableEq, Repr

/-- R150. MX.DRAIN. -/
structure MxDrainOp where
  dst : Nat
  rows : Nat
  accb : Nat
  motif : Nat
  segt : Nat
  nt : Nat
  rankout : Nat
  deriving DecidableEq, Repr

/-- R152. MG.ACC. -/
structure MgAccOp where
  srca : Nat
  srcb : Nat
  dst : Nat
  lcnt : Nat
  neg : Nat
  deriving DecidableEq, Repr

/-- R152. MG.SCALE. -/
structure MgScaleOp where
  src : Nat
  dst : Nat
  vec : Nat
  rows : Nat
  bias : Nat
  deriving DecidableEq, Repr

/-- R152. MG.MOTIF. -/
structure MgMotifOp where
  base : Nat
  mot : Nat
  dst : Nat
  rows : Nat
  deriving DecidableEq, Repr

/-- R152. MG.SEGT. -/
structure MgSegtOp where
  roster : Nat
  dst : Nat
  first : Nat
  count : Nat
  target : Nat
  deriving DecidableEq, Repr

/-- R153. VC.LDP. -/
structure VcLdpOp where
  src : Nat
  pslot : Nat
  deriving DecidableEq, Repr

/-- R154. VC.LD and VC.ST. -/
structure VcBufOp where
  line : Nat
  buf : Nat
  boff : Nat
  lcnt : Nat
  deriving DecidableEq, Repr

/-- R155. VC.PROG. -/
structure VcProgOp where
  srca : Nat
  srcb : Nat
  dst : Nat
  ecnt : Nat
  pslot : Nat
  xin : Nat
  xout : Nat
  deriving DecidableEq, Repr

/-- R156. VC.RED. -/
structure VcRedOp where
  src : Nat
  dst : Nat
  ecnt : Nat
  rows : Nat
  op : Nat
  xin : Nat
  deriving DecidableEq, Repr

/-- R157. VC.SMAX. -/
structure VcSmaxOp where
  src : Nat
  dst : Nat
  ecnt : Nat
  rows : Nat
  mode : Nat
  state : Nat
  msk : Nat
  deriving DecidableEq, Repr

/-- R158. VC.CMP and VC.EXP. -/
structure VcCmpOp where
  src : Nat
  mask : Nat
  dst : Nat
  ecnt : Nat
  xfmt : Nat
  deriving DecidableEq, Repr

/-- R159. VC.RNG. -/
structure VcRngOp where
  dst : Nat
  ecnt : Nat
  rsel : Nat
  dist : Nat
  roster : Nat
  deriving DecidableEq, Repr

/-- R160, R161. PK.Q and PK.SR (RSEL is 0 in PK.Q). -/
structure PkOp where
  src : Nat
  dst : Nat
  ecnt : Nat
  fmt : Nat
  group : Nat
  qmode : Nat
  scfmt : Nat
  rsel : Nat
  deriving DecidableEq, Repr

/-- R162. CM.TENS. -/
structure CmTensOp where
  opd : Nat
  src : Nat
  lcnt : Nat
  offset : Nat
  fmt : Nat
  deriving DecidableEq, Repr

/-- R163. CM.KV. -/
structure CmKvOp where
  src : Nat
  roster : Nat
  layer : Nat
  first : Nat
  count : Nat
  deriving DecidableEq, Repr

/-- R164. CM.CTX. -/
structure CmCtxOp where
  kind : Nat
  rsel : Nat
  smask : Nat
  src : Nat
  roster : Nat
  first : Nat
  count : Nat
  deriving DecidableEq, Repr

/-- R165. CM.MARK. -/
structure CmMarkOp where
  kind : Nat
  dschk : Nat
  deriving DecidableEq, Repr

/-- R166. LK.SEND. -/
structure LkSendOp where
  src : Nat
  lcnt : Nat
  seq : Nat
  cls : Nat
  deriving DecidableEq, Repr

/-- R167. LK.RECV; with LONG set, `dst` holds bits [90:70] as the layout names them. -/
structure LkRecvOp where
  long : Nat
  dst : Nat
  lcnt : Nat
  ctag : Nat
  seq : Nat
  fwd : Nat
  flink : Nat
  deriving DecidableEq, Repr

/-- R168. LK.RED. -/
structure LkRedOp where
  loc : Nat
  dst : Nat
  lcnt : Nat
  ctag : Nat
  seq : Nat
  role : Nat
  outl : Nat
  deriving DecidableEq, Repr

/-- R169. X.BAR. -/
structure XBarOp where
  line : Nat
  lcnt : Nat
  deriving DecidableEq, Repr

/-- R170. X.MARK of kind CMD_START. -/
structure CmdStartOp where
  first : Nat
  count : Nat
  ctag : Nat
  deriving DecidableEq, Repr

/-- R170. X.MARK of kind TRACE. -/
structure TraceOp where
  value : Nat
  deriving DecidableEq, Repr

/-- R171. X.PROG. -/
structure XProgOp where
  mark : Nat
  deriving DecidableEq, Repr

end Sys2Proof.Machine
end

