-- ==== Sys2Proof/Machine/SeqTypes.lean ====
section
/-!
DEFINITION. What the sequencer and the Builder hold besides registers: the running step and row, requests that wait for
a row boundary, gap rows and training windows, task graphs and builds in progress.
-/

namespace Sys2Proof.Machine

/-- What the running row is (R22, R58, R75, R292). -/
inductive RowKind where
  | serve | gap | ramp | window
  deriving DecidableEq, Repr

/-- R72. A row record without instructions, links or flags. -/
def RowRecord.empty : RowRecord := ⟨[], [], 0, 0, false, false, false, 0, 0⟩

/-- R65. The running step: its roster buffer, its decoded roster and template, its commands, the row of the template that
runs or runs next, and whether X.END has retired. -/
structure StepRun where
  model : Nat
  buffer : Nat
  roster : Roster
  template : Nat
  cids : List Nat
  row : Nat
  ended : Bool
  deriving DecidableEq, Repr

/-- R292. A training window granted and not yet started, or running: its step, the rows left of `total`, its function. -/
structure Window where
  step : Nat
  rows : Nat
  total : Nat
  fn : Nat
  deriving DecidableEq, Repr

/-- R49, R520. A task of a submitted graph: its descriptor, the tasks it waits for, its command once admitted, and
whether it has committed or completed, and the rows of its command as built. -/
structure GTask where
  desc : Descriptor
  producers : List Nat
  cid : Option Nat
  done : Bool
  rows : Nat
  deriving DecidableEq, Repr

/-- R49. A submitted task graph; `fabric` when its commands use LINK instructions (R292). -/
structure Graph where
  id : Nat
  graphId : Nat
  fn : Nat
  model : Nat
  fabric : Bool
  tasks : List GTask
  deriving DecidableEq, Repr

/-- A build, check or recheck that runs on the control cores (R52): a submitted graph; a template to build from a graph,
with the directory entry asked for; a template to load with its body; the recheck of every template (R80). -/
inductive BuildJob where
  | graph (t : Ticket) (g : Graph)
  | build (t : Ticket) (g : Graph) (entry : Template) (verifyOnly : Bool)
  | load (t : Ticket) (tpl : Template) (body : List Byte) (verifyOnly : Bool)
  | recheck
  deriving DecidableEq, Repr

/-- The sequencer's state besides its registers. Links are numbered 0 to 15. `eff` is the limiter's ceiling and `load`
the measured switchable load (R57); `replay` the row to re-enter (R105); `resync` the links whose ordinals wait for
FABRIC_RESYNC (R410); `frogWait` commands whose frog waits for tier writes (R103); `gap` the function that holds the gap rows and its command (R290); `fetched` the row whose record
has been fetched (R73); `gone` functions whose context block was reset while a running or ready step names them (R164,
R488); `dead` frogged commands that will not rerun and are forgotten when their frog completes; `rowsRun` rows started since cast-on; `stalled` while the step to come has been counted late (R65). `rampsLeft` is 0 before the ramp
rows of a step have been counted, else one more than those still to run. -/
structure SeqState where
  templates : List Template
  active : Bool
  kind : RowKind
  record : RowRecord
  fetched : Option Nat
  step : Option StepRun
  rampsLeft : Nat
  rampTarget : Nat
  eff : Nat
  load : Nat
  replay : Option Nat
  resync : Nat
  frogWait : List Nat
  gap : Option (Nat × Nat)
  gapCounts : List (Nat × Nat)
  windows : List Window
  window : Option Window
  graphs : List Graph
  builds : List BuildJob
  gone : List Nat
  dead : List Nat
  rowsRun : Nat
  stalled : Bool
  deriving DecidableEq, Repr

/-- The sequencer at reset: nothing built, nothing running; the switchable load is the 50 W of idle (R55). -/
def SeqState.reset : SeqState :=
  { templates := [], active := false, kind := .serve, record := RowRecord.empty, fetched := none, step := none,
    rampsLeft := 0, rampTarget := 0, eff := 50, load := 50, replay := none, resync := 0, frogWait := [],
    gap := none, gapCounts := [], windows := [], window := none, graphs := [], builds := [],
    gone := [], dead := [], rowsRun := 0, stalled := false }

/-- The data path: skein lines whose valid bit is set (R90), lines with an uncorrectable error, lines with a write
pending (with their fetch), command slots by die × 16 + slot, slots whose remaining instructions are squashed (R103),
commands, arrays by die × 8 + unit, tile buffers and program slots (with the slot that wrote them), hot slots and
areas, streams triggered, fetches, the operator trace buffer, link staging, and the gated products counted (R219). -/
structure DataPath where
  skein : List (Nat × LineData)
  bad : List Nat
  pendLines : List (Nat × Nat)
  slots : List (Nat × Slot)
  squash : List Nat
  cmds : List (Nat × Cmd)
  nextCid : Nat
  arrays : List (Nat × ArrayUnit)
  tbufs : List (Nat × (Nat × LineData))
  progs : List (Nat × (Nat × LineData))
  hotSlots : List (Nat × HotSlot)
  hotAreas : List (Nat × HotArea)
  streams : List StreamReq
  fetches : List FetchReq
  nextFetch : Nat
  trace : List TraceEntry
  staging : List Staged
  gated : Nat
  deriving DecidableEq, Repr

/-- The data path at reset: every valid bit clear, every slot free. -/
def DataPath.reset : DataPath :=
  { skein := [], bad := [], pendLines := [], slots := [], squash := [], cmds := [], nextCid := 1, arrays := [],
    tbufs := [], progs := [], hotSlots := [], hotAreas := [], streams := [], fetches := [], nextFetch := 1,
    trace := [], staging := [], gated := 0 }

/-- The tiers: near-tier bytes, deep-tier bytes by logical unit × 4,096, the Tensor Table, Region Table tags by frame,
context blocks and quotas by function, host registrations (function, address, bytes), moves, the function served last
(R338), ended moves whose cause has not been settled, space awaiting zero-fill (first line, lines, Tensor Table key),
generations of released indexes, the deep space, lent and borrowed hanks, model slots, motifs and swatches by Tensor
Table key, the TENANT_PARK and TENANT_RESTORE requests that wait for their moves, and the lines that moves have written to flash
over life. -/
structure TierState where
  near : List Host.Cell
  deep : List Host.Cell
  tt : List (Nat × Tensor)
  regions : List (Nat × Region)
  ctx : List (Nat × CtxBlock)
  quotas : List (Nat × Quota)
  hostRegs : List (Nat × (Nat × Nat × Nat))
  moves : List Move
  nextMove : Nat
  served : Nat
  ended : List (MoveCause × Status)
  zeroPend : List (Nat × Nat × Nat)
  gens : List (Nat × Nat)
  deepTop : Nat
  deepFree : Nat
  lent : List (Nat × LentHank)
  borrowed : List (Nat × BorrowedHank)
  models : List (Nat × ModelSlot)
  motifs : List (Nat × Motif)
  swatches : List (Nat × Swatch)
  parks : List (Nat × Ticket)
  restores : List (Nat × Ticket)
  flashLines : Nat
  deriving DecidableEq, Repr

/-- R321, R364. The near tier for tensors at the reset Pattern Memory size: 285 GiB, in lines. -/
def nearLines : Nat := 285 * 2 ^ 30 / 256

/-- R321. The PF's quotas at reset equal the module's capacities (R346). -/
def Quota.pf : Quota :=
  ⟨285 * 2 ^ 18, 0, 0, 3337860 * 256, 0, 512 * 2 ^ 18, 0, 2097152, 0, 4096, 0, 0⟩

/-- The tiers at reset: near tier all zero and free, no entry but the PF's context block, no move. -/
def TierState.reset : TierState :=
  { near := [], deep := [], tt := [], regions := [], ctx := [(0, CtxBlock.init 0 0)], quotas := [(0, Quota.pf)],
    hostRegs := [], moves := [], nextMove := 1, served := 0, ended := [], zeroPend := [], gens := [], deepTop := 0,
    deepFree := 3337860 * 4, lent := [], borrowed := [], models := [], motifs := [], swatches := [], parks := [],
    restores := [], flashLines := 0 }

/-- The host interface: entries fetched and not admitted (R503), the index of the
next entry to fetch by queue (function × 8 + queue), requests whose page reply or ASYNC reply is owed,
notifications waiting for room (R508), completion entries counted toward a coalesced interrupt by function (R509),
moves whose host reads are squashed (R488), derivations in progress by function and stream (R320), HI registers latched by a read of their LO registers (R623), entries done out of order by queue (R504), whether the
configuration space is ready (R585), and SR-IOV's VF Enable and NumVFs. Whether the link is up shows in GLB_STATUS. -/
structure HostState where
  fetched : List Fetched
  fetchAt : List (Nat × Nat)
  tickets : List Ticket
  notes : List (Nat × Nat × List Byte)
  coalesced : List (Nat × Nat)
  doneIdx : List (Nat × List Nat)
  squashReads : List Nat
  latches : List (Nat × Nat)
  derives : List (Nat × Nat)
  configReady : Bool
  vfEnable : Bool
  numVfs : Nat
  deriving DecidableEq, Repr

/-- The host interface at reset: nothing fetched, the configuration space ready. -/
def HostState.reset : HostState :=
  { fetched := [], fetchAt := [], tickets := [], notes := [], coalesced := [], doneIdx := [], squashReads := [], latches := [], derives := [],
    configReady := true, vfEnable := false, numVfs := 0 }

/-- R448, R451, R452. The Tink log: the ring (newest last, at most 16,384 entries), the next ENTRY_SEQ, the flushes kept
(newest last, at most 16), the frozen slots, a flush and a freeze in progress. -/
structure TinkState where
  ring : List TinkEntry
  nextSeq : Nat
  flushes : List (List TinkEntry)
  frozen : List (Nat × List TinkEntry)
  flushing : Bool
  freezing : Option Nat
  deriving DecidableEq, Repr

/-- The log at reset: empty. -/
def TinkState.reset : TinkState := ⟨[], 0, [], [], false, none⟩

end Sys2Proof.Machine
end

