-- ==== Sys2Proof/Machine/ServeTypes.lean ====
section
/-!
DEFINITION. What serving holds: sequences (R366, R367), scheduling parameters and charges (R377, R378, R381), rounds
(R374) and the step token buffers (R369).
-/

namespace Sys2Proof.Machine

/-- R367. The states of a sequence. -/
inductive SeqPhase where
  | queued | prefill | decode | paused
  deriving DecidableEq, Repr

/-- R366, R367. An open sequence. `pos` is the position of its next token counted with its swatches (`swLen` tokens),
`remain` the prompt or appended tokens not yet committed, `tokNext` the index in TOKENS of the next of them, `copied`
how many of those the token buffer holds (R369), `sampled` the tokens sampled, `lastRow` the row of its last commit and
`lastStep` that step; `closing` after SEQ_CLOSE. -/
structure SeqRec where
  fn : Nat
  model : Nat
  kv : Handle
  tokens : Handle
  tokNext : Nat
  remain : Nat
  copied : Nat
  motif : Handle
  swatches : List Handle
  allowBase : Bool
  swLen : Nat
  rng : Nat
  maxNew : Nat
  fixedSlices : Bool
  tag : Nat
  phase : SeqPhase
  pos : Nat
  sampled : Nat
  closing : Bool
  lastRow : Nat
  lastStep : Nat
  lastTime : Nat
  queue : Nat
  deriving DecidableEq, Repr

/-- R377. A function's scheduling parameters. -/
structure Sched where
  share : Nat
  priority : Nat
  slice : Nat
  maxSeq : Nat
  deriving DecidableEq, Repr

/-- R377. The defaults. -/
def Sched.default : Sched := ⟨0, 0, 2048, 64⟩

/-- R381. A model's step parameters. -/
structure ModelSched where
  weight : Nat
  longClass : Nat
  longPeriod : Nat
  longRows : Nat
  deriving DecidableEq, Repr

/-- R381. The defaults. -/
def ModelSched.default : ModelSched := ⟨1, 5, 1, 1024⟩

/-- R386. A pre-emption in progress: the function, its request, and the step numbers that still name it. -/
structure Preempt where
  fn : Nat
  ticket : Ticket
  deriving DecidableEq, Repr

/-- R374. Where the Builder stands in its rounds: the round, the model slot, the NORMAL steps it has run for it and
whether its LONG step of this round has run; `forced` whether this round's forced training run has (R376). -/
structure RoundState where
  round : Nat
  model : Nat
  normals : Nat
  long : Bool
  forced : Bool
  deriving DecidableEq, Repr

/-- Serving: open sequences by SEQ_ID, functions' and models' parameters, charges of this window in 1/256 row, the last
window's charges, rows of this window, the window length in force, the round, ready rosters by buffer (R65), the step
token buffers by SEQ_ID, pre-emptions in progress, SWATCH_BUILD sequences by SEQ_ID (with the swatch's Tensor Table
key). -/
structure ServeState where
  seqs : List (Nat × SeqRec)
  sched : List (Nat × Sched)
  models : List (Nat × ModelSched)
  charges : List (Nat × Nat)
  lastCharges : List (Nat × Nat)
  windowRows : Nat
  windowLen : Nat
  round : RoundState
  ready : List (Nat × Roster)
  tokens : List (Nat × List Word)
  preempts : List Preempt
  builds : List (Nat × Nat)
  deriving DecidableEq, Repr

/-- Serving at reset: no sequence, every parameter at its default, the window of 4,096 rows. -/
def ServeState.reset : ServeState :=
  { seqs := [], sched := [], models := [], charges := [], lastCharges := [], windowRows := 0,
    windowLen := 4096, round := ⟨0, 0, 0, false, false⟩, ready := [], tokens := [], preempts := [], builds := [] }

end Sys2Proof.Machine
end

