-- ==== Sys2Proof/Machine/DataOperands.lean ====
section
/-!
DEFINITION. The operands of the data path's events: what a completion of a tier access or a borrowed read shows.
-/

namespace Sys2Proof.Machine

/-- A tier read of a pending fetch completes: its fetch, the cycle, and whether it met an uncorrectable error. -/
structure TierReadOp where
  id : Nat
  cycle : Nat
  ecc : Bool
  deriving DecidableEq, Repr

/-- A borrowed-read completion: the fetch's tag, whether GENERATION_STALE, the lines, the cycle, an uncorrectable
error. -/
structure BreadCplOp where
  tag : Nat
  stale : Bool
  lines : List LineData
  cycle : Nat
  ecc : Bool
  deriving DecidableEq, Repr

/-- An event of the command in a slot of a die, at a cycle. -/
structure SlotOp where
  die : Nat
  cslot : Nat
  cycle : Nat
  deriving DecidableEq, Repr

/-- A stream of the slot streamer: its die, and for the table of a TRAIN command's code object (written by its FETCH, not
by MG.SEGT) the command slot and table line. -/
structure StreamOp where
  die : Nat
  direct : Option (Nat × Nat)
  deriving DecidableEq, Repr

/-- A granule of the move that the engine serves next: the lines read where its source lies outside the module (a HOST
or BORROWED tensor), and how it ended: 0 landed, 1 a flash read lost after parity (R341), 2 a host transfer failed. -/
structure MoveGranuleOp where
  lines : List LineData
  fail : Nat
  deriving DecidableEq, Repr

/-- A start of background write-back: whether the oldest dirty tensor has been dirty for WB_DELAY. -/
structure WritebackOp where
  delayed : Bool
  deriving DecidableEq, Repr

/-- A wear operation of the flash controller: 0 a garbage-collection copy, 1 a refresh read, 2 the retirement of a block;
MiB programmed into the array for it; the percentages of life used, of spare blocks left and of raw space free after it; the
reads that channel parity has recovered since the last one. -/
structure WearOp where
  kind : Nat
  mib : Nat
  lifeUsed : Nat
  spareLeft : Nat
  freePct : Nat
  parityFixes : Nat
  deriving DecidableEq, Repr

end Sys2Proof.Machine
end

