-- ==== Sys2Proof/Machine/SecTypes.lean ====
section
/-!
DEFINITION. What the security block holds besides registers: keys and policies (R470 to R472), touch logs (R477), TDIs
and IDE streams (R486, R487), deferred requests (R484), dirty-page filters and held completions (R489, R490), sessions
(R471, R475).
-/

namespace Sys2Proof.Machine

/-- R470, R472. A key and the policy it came with: digests allowed, and REQUIRE. -/
structure Policy where
  templates : List (BitVec 256)
  weights : List (BitVec 256)
  code : List (BitVec 256)
  require : Nat
  digest : BitVec 256
  key : BitVec 256
  deriving DecidableEq, Repr

/-- R477. An item of a touch log. -/
structure TouchItem where
  kind : Nat
  entry : Nat
  digest : BitVec 256
  deriving DecidableEq, Repr

/-- R483, R484. A request that is deferred: its block and kind, the near-tier frames that lie in the block (first frame,
frames), whether the RTP itself is asked about, and whether it is the entry to STORE that asks (R566). -/
structure Defer where
  block : Nat
  kind : Nat
  frames : List (Nat × Nat)
  rtp : Bool
  store : Bool
  deriving DecidableEq, Repr

/-- R486. A selective IDE stream: the VFs whose requester IDs it carries, whether its keys are programmed, and whether it is
in the secure state. -/
structure IdeStream where
  vfs : List Nat
  keyed : Bool
  secure : Bool
  deriving DecidableEq, Repr

/-- R490. A completion entry held while SEC_DPL_CTL.STOP is set. -/
structure HeldEntry where
  fn : Nat
  kind : CKind
  status : Status
  sq : Nat
  counted : Bool
  body : List Byte
  deriving DecidableEq, Repr

/-- R471. An SPDM session: its number and the function (`base` false) or model slot (`base` true) it is bound to. -/
structure Session where
  id : Nat
  base : Bool
  target : Nat
  deriving DecidableEq, Repr

/-- The security block: tenant keys by function and base-owner keys by slot, each as the policy it came with; touch logs
and the functions whose log overflowed; TDI states by VF (0 CONFIG_UNLOCKED, 1 CONFIG_LOCKED, 2 RUN, 3 ERROR); IDE streams
by number; deferred requests; dirty-page filters by VF; held completions; sessions; the fused SVNs by image class; Function-Level
Resets that wait for a row boundary (R488), each with the cause that R493 gives its key and the FUNC_DISABLE to answer;
tensors of reset functions that are released once nothing names them; the key under which the data keys of a function's extents
are wrapped, by function, and by Tensor Table key for extents held (R470, R595); by agent that has been denied, the denials not
logged since its last Tink event (R462). -/
structure SecState where
  keys : List (Nat × Policy)
  baseKeys : List (Nat × Policy)
  touch : List (Nat × List TouchItem)
  touchOver : List Nat
  tdi : List (Nat × Nat)
  ide : List (Nat × IdeStream)
  defers : List Defer
  filters : List (Nat × List Nat)
  held : List HeldEntry
  sessions : List Session
  svnFused : List (Nat × Nat)
  resets : List (Nat × (Nat × Option Ticket))
  doomed : List Nat
  wraps : List (Nat × BitVec 256)
  denials : List (Nat × Nat)
  deriving DecidableEq, Repr

/-- The security block at reset: no key, no session, every TDI unlocked. -/
def SecState.reset : SecState :=
  { keys := [], baseKeys := [], touch := [], touchOver := [], tdi := [], ide := [], defers := [], filters := [], held := [],
    sessions := [], svnFused := [], resets := [], doomed := [], wraps := [], denials := [] }

end Sys2Proof.Machine
end

