-- ==== Sys2Proof/Machine/FabTypes.lean ====
section
/-!
DEFINITION. What the seam links and the fabric hold besides registers: link sessions (R396, R399 to R401), token ordinals
(R409), bulk streams (R418 to R421), the Row Beacon (R411), pipeline roles (R413) and stage maps (R415).
-/

namespace Sys2Proof.Machine

/-- One seam link besides its LNK_STATE, LNK_CFG and counters: the ordinals of the next token sent and of the next token
expected, tokens that wait to be consumed (R409); automatic retries and failed retrains in a row (R396, R401), whether a
retry is barred (R400, R402); what LINK_ATTACH expected (R402); frames under the key and key generations since UP (R399),
whether both ends confirmed new keys, and whether old keys are still accepted; frames sent and not yet acknowledged. -/
structure LinkCtl where
  ordTx : Nat
  ordRx : Nat
  tokens : Nat
  retries : Nat
  retrains : Nat
  trainFails : Nat
  noRetry : Bool
  keyHash : BitVec 256
  frames : Nat
  gens : Nat
  newKeys : Bool
  ownReady : Bool
  peerReady : Bool
  oldKeys : Bool
  deriving DecidableEq, Repr

/-- A link that is not attached. -/
def LinkCtl.empty : LinkCtl := ⟨0, 0, 0, 0, 0, 0, false, 0, 0, 0, false, false, false, false⟩

/-- R418 to R421. A bulk stream at this module: its number (once OPEN has come), model slot, the link it arrives on (none at
the origin) and the link it leaves on, the lines of each shard and scale tensor, granules in all and landed, the digest OPEN
gave, whether OPEN has come, whether the next module has accepted, what it answered, and the digest that CLOSE gave. -/
structure Relay where
  stream : Nat
  slot : Nat
  linkIn : Option Nat
  linkOut : Option Nat
  total : Nat
  sizes : List (Nat × Nat)
  granules : Nat
  expected : BitVec 256
  accepted : Bool
  outStatus : Status
  opened : Bool
  closed : Option (BitVec 256)
  deriving DecidableEq, Repr

/-- R108, R167. A long receive: the link it arrives on and the one it is forwarded on, its destination, the tensor that
holds its progress word, granules landed and in all. -/
structure LongRecv where
  link : Nat
  fwd : Option Nat
  dst : Handle
  prog : Handle
  done : Nat
  total : Nat
  deriving DecidableEq, Repr

/-- R415. A stage map entry. -/
structure StageMap where
  fn : Nat
  seqId : Nat
  kv : Handle
  motif : Handle
  swatches : List Handle
  deriving DecidableEq, Repr

/-- The fabric: links 0 to 15, streams, long receives, stage maps, roster links, FLOOR_W (R416), beacon pulses in period seen in a row
(R411), the next stream number, and buffers whose record a stage could not map (R415). -/
structure FabState where
  links : List (Nat × LinkCtl)
  relays : List Relay
  longs : List LongRecv
  maps : List StageMap
  rosterIn : Option Nat
  rosterOut : Option Nat
  floorW : Nat
  pulses : Nat
  nextStream : Nat
  badRosters : List Nat
  deriving DecidableEq, Repr

/-- The fabric at reset: no link attached, no role, the default floor (R416). -/
def FabState.reset : FabState :=
  { links := [], relays := [], longs := [], maps := [], rosterIn := none, rosterOut := none, floorW := 600, pulses := 0,
    nextStream := 1, badRosters := [] }

end Sys2Proof.Machine
end

