-- ==== Sys2Proof/Machine/TwinTypes.lean ====
section
/-!
DEFINITION. What a twin set and lifelines hold besides registers: completions that wait for the mirror (R431), records
not yet applied (R430), digest points (R433 to R435), lifelines (R442 to R446).
-/

namespace Sys2Proof.Machine

/-- R429. A record that a mirror applies in MSEQ order: a commit, with whether it ends the step whose roster comes first (a
mirror finds that in its own copy of the template); a context block; a Tensor Table entry; a roster with the sequences it
names as they stand when it runs; tokens that enter a step token buffer. -/
inductive TwinRec where
  | commit (ctag : Nat) (endsStep : Bool)
  | ctx (fn : Nat) (streams : List Stream) (bindings : List (Handle × Nat × Nat)) (heads : List Nat)
  | table (fn idx : Nat) (entry : Option Tensor)
  | roster (model buffer : Nat) (roster : Roster) (seqs : List (Nat × SeqRec))
  | tokens (seqId : Nat) (tokens : List Word)
  deriving DecidableEq, Repr

/-- R442 to R446. One tensor of a lifeline: its handle at capture, its deep copy, the home referenced instead of a copy, the
place of a mirror's near copy, its size, its live range (first line and lines) and the digest of that. -/
structure LifeEntry where
  handle : Handle
  copy : Handle
  home : Option Nat
  near : Option Nat
  size : Nat
  live : List (Nat × Nat)
  digest : BitVec 256
  deriving DecidableEq, Repr

/-- R442 to R446. A lifeline: TARGET 0 DEEP, 1 MIRROR; STATE 0 capturing, 1 captured, 2 VERIFIED, 3 FAILED. -/
structure Lifeline where
  fn : Nat
  label : Nat
  target : Nat
  state : Nat
  mask : Nat
  streams : List Stream
  bindings : List (Handle × Nat)
  entries : List LifeEntry
  row : Nat
  mseq : Nat
  manifest : Handle
  digest : BitVec 256
  peerDigest : Option (BitVec 256)
  ticket : Option Ticket
  deriving DecidableEq, Repr

/-- R433. An open digest point: its number, MSEQ and row, and this module's digest over the state as of that MSEQ once it
has reached it. -/
structure DigestPoint where
  num : Nat
  mseq : Nat
  row : Nat
  value : Option (BitVec 256)
  deriving DecidableEq, Repr

/-- The twin set: completions that wait for an ACK with the MSEQ of their commit (R431), destinations written under each
CTAG on a mirror, records that wait for their turn (R430), rows since the last digest point, the open point, the digests
of it that both modules have completed, whether the next point is counted late (R434), line ranges (Tensor Table key,
first line, lines) that mirrored writes reached since the last point, ranges with an uncorrectable error since then, ranges
that wait for a repair (R435), where the sweep continues; whether the mirror has declared loss and 2 ms of silence have
passed (R438), whether a dropped mirror is told so (R437), whether the last SYNC granule has come and bytes copied (R426),
whether a lifeline has been restored since a divergence (R441), a TWIN_RESYNC that waits, the sequences of mirrored rosters
by buffer, and lifelines. -/
structure TwinState where
  waiting : List (Nat × HeldEntry)
  staged : List (Nat × List Nat)
  later : List (Nat × TwinRec)
  rows : Nat
  point : Option DigestPoint
  own : Option (BitVec 256)
  peer : Option (BitVec 256)
  late : Bool
  touched : List (Nat × Nat × Nat)
  errs : List (Nat × Nat × Nat)
  repair : List (Nat × Nat × Nat)
  sweepAt : Nat
  lost : Bool
  silent : Bool
  dropping : Bool
  synced : Bool
  copied : Nat
  restored : Bool
  resync : Option Ticket
  snaps : List (Nat × List (Nat × SeqRec))
  lifelines : List Lifeline
  deriving DecidableEq, Repr

/-- No twin set. -/
def TwinState.reset : TwinState :=
  { waiting := [], staged := [], later := [], rows := 0, point := none, own := none, peer := none, late := false
    touched := [], errs := [], repair := [], sweepAt := 0, lost := false, silent := false, dropping := false
    synced := false, copied := 0, restored := false, resync := none, snaps := [], lifelines := [] }

end Sys2Proof.Machine
end

