-- ==== Sys2Proof/Machine/FabOperands.lean ====
section
/-!
DEFINITION. The operands of the seam links' events and of twin frames: the link that a frame arrives on and its fields, and
what training, pairing and the channel show.
-/

namespace Sys2Proof.Machine

/-- R394. An ITEM frame: its item's tag, number, class and lines in all, and the lines it carries from `first` on. -/
structure ItemOp where
  link : Nat
  ctag : Nat
  seq : Nat
  cls : Nat
  first : Nat
  total : Nat
  lines : List LineData
  deriving DecidableEq, Repr

/-- R394. A COMMIT or DISCARD frame. -/
structure TagOp where
  link : Nat
  ctag : Nat
  deriving DecidableEq, Repr

/-- R394. A ROW_DONE or ROW_FAULT frame; `cause` is the SEQ_FAULT bit number of the latter. -/
structure TokenOp where
  link : Nat
  ordinal : Nat
  cause : Nat
  deriving DecidableEq, Repr

/-- R414. A ROSTER record: the lead's bucket and the roster's bytes. -/
structure RosterFrameOp where
  link : Nat
  seqCap : Nat
  tokCap : Nat
  ctxClass : Nat
  bytes : List Byte
  deriving DecidableEq, Repr

/-- R394. A BULK frame: lines of a granule from `first` on. -/
structure BulkOp where
  link : Nat
  stream : Nat
  granule : Nat
  first : Nat
  lines : List LineData
  deriving DecidableEq, Repr

/-- R418. BULK_CTL OPEN: slot, data and scale lines of each shard, expected digest or zero. -/
structure BulkOpenOp where
  link : Nat
  stream : Nat
  slot : Nat
  sizes : List (Nat × Nat)
  digest : BitVec 256
  deriving DecidableEq, Repr

/-- R394. Another BULK_CTL frame: its stream, granule, status code and (for CLOSE) digest. -/
structure BulkCtlOp where
  link : Nat
  stream : Nat
  granule : Nat
  status : Status
  digest : BitVec 256
  deriving DecidableEq, Repr

/-- R356. A borrowed read: its tag, what it resolved, the hank and the lines it asks for. -/
structure BreadReqOp where
  link : Nat
  tag : Nat
  fn : Nat
  idx : Nat
  gen : Nat
  hank : Nat
  first : Nat
  count : Nat
  deriving DecidableEq, Repr

/-- R355. A directory entry of a lent hank, written or cleared by its borrower. -/
structure HankDirOp where
  link : Nat
  hank : Nat
  extent : Nat
  valid : Bool
  entry : Extent
  deriving DecidableEq, Repr

/-- R355. A directory entry that a borrower sends; or this module's Tier Manager places a tensor in a hank borrowed on a link. -/
inductive DirOp where
  | arrives (o : HankDirOp)
  | places (tensor : Handle) (link hank : Nat)
  deriving DecidableEq, Repr

/-- R355, R357. HANK_LEND and HANK_RECALL: the message of this module's PF; or what the neighbour on a link tells of one of its
hanks, that it is offered, or recalled with a deadline in ms. -/
inductive HankOp where
  | message (m : Mail)
  | peer (link hank deadline : Nat)
  deriving DecidableEq, Repr

/-- R396. A channel error on a link: the frames that this end replays. -/
structure ChannelErrOp where
  link : Nat
  replays : Nat
  corrected : Nat
  deriving DecidableEq, Repr

/-- R400. A frame whose tag fails: its COUNTER and how many such frames the last 1 ms has seen, this one counted. -/
structure AuthFailOp where
  link : Nat
  counter : Nat
  recent : Nat
  deriving DecidableEq, Repr

/-- R401. The end of a training or of a retrain: whether it succeeded, and what the link trained to. -/
structure TrainOp where
  link : Nat
  good : Bool
  twoLane : Bool
  halfRate : Bool
  deriving DecidableEq, Repr

/-- R402. What pairing finds: whether the peer's certificate chains to the device root, the hash of its identity key, its
FABRIC_ID and MODULE_ID. -/
structure PairOp where
  link : Nat
  chains : Bool
  keyHash : BitVec 256
  fabricId : Nat
  moduleId : Nat
  deriving DecidableEq, Repr

/-- R399. A re-key falls due: whether a direction has already reached COUNTER 2^41 without new keys. -/
structure RekeyOp where
  link : Nat
  late : Bool
  deriving DecidableEq, Repr

/-- R429. A TWIN WRITE. -/
structure TwinWriteOp where
  link : Nat
  ctag : Nat
  handle : Handle
  first : Nat
  lines : List LineData
  deriving DecidableEq, Repr

/-- R429. A TWIN COMMIT or DISCARD. -/
structure TwinTagOp where
  link : Nat
  ctag : Nat
  mseq : Nat
  deriving DecidableEq, Repr

/-- R429. A record that is applied in MSEQ order. -/
structure TwinRecOp where
  link : Nat
  mseq : Nat
  body : TwinRec
  deriving DecidableEq, Repr

/-- R429, R431. A TWIN ACK, and the longest wait in µs of a commit that it covers. -/
structure TwinAckOp where
  link : Nat
  mseq : Nat
  waitUs : Nat
  deriving DecidableEq, Repr

/-- R429, R433, R435. A TWIN DIGEST: zero where the primary opens a point, else the peer's digest, with the range (Tensor
Table key, first line, lines) in which the peer has recorded an uncorrectable error since the previous point. -/
structure TwinDigestOp where
  link : Nat
  mseq : Nat
  point : Nat
  digest : BitVec 256
  err : Option (Nat × Nat × Nat)
  deriving DecidableEq, Repr

/-- R425, R441. What the two modules' PF messages and the peer show each other over MGMT frames: whether the peer's message
has come and agrees in every field, whether the peer may join (in no set, ROLE NONE, no template that names a twin link; for a
resync, SOLO or in a state that the message fits), and whether models, templates, row and hot settings, functions and keys
are the same. -/
structure PeerOp where
  came : Bool
  agrees : Bool
  free : Bool
  same : Bool
  deriving DecidableEq, Repr

/-- R445. A LIFELINE_WRITE as the primary mirrors it: each handle with the handle of its deep copy, the manifest's handle,
stream mask, TARGET, row and MSEQ of the capture point. -/
structure MirroredLife where
  pairs : List (Handle × Handle)
  manifest : Handle
  mask : Nat
  target : Nat
  row : Nat
  mseq : Nat
  deriving DecidableEq, Repr

/-- R443 to R445. The captures of a lifeline are complete: function and LABEL, the peer's manifest digest where the module is
twinned, and, on a mirror, the operation that the primary mirrored. -/
structure CaptureOp where
  fn : Nat
  label : Nat
  peer : Option (BitVec 256)
  mirrored : Option MirroredLife
  deriving DecidableEq, Repr

/-- R426, R429. A TWIN SYNC granule, and whether it is the last. -/
structure TwinSyncOp where
  link : Nat
  granule : Nat
  handle : Handle
  lines : List LineData
  last : Bool
  deriving DecidableEq, Repr

end Sys2Proof.Machine
end

