-- ==== Sys2Proof/Machine/PlatTypes.lean ====
section
/-!
DEFINITION. What power, thermal control, gauge, the Firmware Complex, cast-on and the module's pins hold besides
registers (chapters 16 to 19).
-/

namespace Sys2Proof.Machine

/-- R574, R587. A gauge record: KIND (0 link equalisation, 1 droop threshold, 2 thermal offset, 3 HBM training), object,
load class, die temperature and row of its capture, and value. -/
structure GaugeRec where
  kind : Nat
  obj : Nat
  cls : Nat
  temp : Nat
  row : Nat
  value : Nat
  deriving DecidableEq, Repr

/-- R564, R568. A power-state transition in progress: from, to, the POWER_STATE that asked for it, and whether it is an
exit. -/
structure Transition where
  src : Nat
  dst : Nat
  ticket : Option Ticket
  exits : Bool
  deriving DecidableEq, Repr

/-- R547. The firmware update session: image classes of the component table, the class in transfer with the bytes that
have landed, and the classes verified. -/
structure UpdateSession where
  table : List Nat
  current : Option Nat
  size : Nat
  received : Nat
  verified : List Nat
  failed : List Nat
  deriving DecidableEq, Repr

/-- R566. The image of Pattern Memory and of the PF's entries that the entry to STORE writes. -/
structure StoreImage where
  templates : List Template
  cells : List Host.Cell
  tensors : List Tensor
  models : List (Nat × ModelSlot)
  deriving DecidableEq, Repr

/-- R598. A bind-off that runs: its request, ZERO_NEAR, the step it has reached and the KiB that it has to write back. -/
structure BindOff where
  ticket : Ticket
  zeroNear : Bool
  stage : Nat
  kib : Nat
  deriving DecidableEq, Repr

/-- R587. A retained copy as it verifies: SEQ, register pairs (offset and value), gauge records. -/
structure RetCopy where
  seq : Nat
  regs : List (Nat × Nat)
  gauge : List GaugeRec
  deriving DecidableEq, Repr

/-- Power, thermal control and gauge. The caps are levels, 0 for none (R557); the demands of the pulse skipper (R558);
residencies by PWR_RES_SEL value (R562); the transition that runs, a wake event latched in it (R568) and the POWER_STATE requests that a wake answers (R567); gauge records,
the class being re-gauged, whether its re-gauge failed and waits (R577), and whether droop thresholds are raised (R576); sensor readings and excluded sensors (R571,
R573); the stitch markers whose last sample was beyond their threshold (R578); pulses per 100 ms over the margin (R559);
TEL readings by sensor (R624). -/
structure PwrState where
  gaugeCap : Nat
  thermalCap : Nat
  skipCap : Nat
  failCap : Bool
  openCap : Bool
  droop : Nat
  current : Nat
  limit : Nat
  critical : Bool
  residency : List (Nat × Nat)
  transition : Option Transition
  wake : Bool
  wakeTickets : List Ticket
  voltageWait : Bool
  gauge : List GaugeRec
  regauge : Option Nat
  regaugeWait : Bool
  droopRaised : Bool
  temps : List (Nat × Nat)
  excluded : List Nat
  beyond : List Nat
  tel : List (Nat × Nat)
  deriving DecidableEq, Repr

/-- Power at reset: no cap, no demand, no reading. -/
def PwrState.reset : PwrState :=
  { gaugeCap := 0, thermalCap := 0, skipCap := 0, failCap := false, openCap := false, droop := 0, current := 0,
    limit := 0, critical := false, residency := [], transition := none, wake := false, wakeTickets := [], voltageWait := false,
    gauge := [], regauge := none, regaugeWait := false, droopRaised := false, temps := [], excluded := [], beyond := [], tel := [] }

/-- R534. The interrupted context that a core's last trap wrote, as far as its operands show it, and whether it went to the
emergency stack. -/
structure TrapCtx where
  emergency : Bool
  sp : Nat
  ra : Nat
  mepc : Nat
  mtval : Nat
  mcause : Nat
  deriving DecidableEq, Repr

/-- The Firmware Complex. Heartbeats missed in a row by component (R537). Restarts of components as (component, millisecond); complex resets by millisecond; the fault
ring as 64-byte records by index (R544); the contexts that traps saved, by core (R534); the update session, the contents of the inactive banks by class (0 empty, 1
partly written, 2 whole, 3 failed, 4 pending), the SVN of the running image and of the image in the inactive bank where an
update has changed them, the images by class × 2 + bank where an update has written them (each under a number of its own); the core halted by
debug and its registers as a debugger wrote them; the TAP instruction (R469); MCTP endpoint IDs by bus (R614) and PLDM
thresholds by sensor (R615); the cores held in reset (R543); the banks active since an update or a rollback changed them, one bit a class (R553). -/
structure FwState where
  missed : List (Nat × Nat)
  restarts : List (Nat × Nat)
  resets : List Nat
  ring : List (Nat × List Byte)
  nextFault : Nat
  saved : List (Nat × TrapCtx)
  update : Option UpdateSession
  banks : List (Nat × Nat)
  svn : List (Nat × Nat)
  newSvn : List (Nat × Nat)
  images : List (Nat × Nat)
  coreRegs : List (Nat × Nat)
  sram : List Host.Cell
  tap : Nat
  eids : List (Nat × Nat)
  thresholds : List (Nat × (Nat × Nat))
  held : Bool
  activeB : Option Nat
  deriving DecidableEq, Repr

/-- The complex at reset: nothing failed, no session. -/
def FwState.reset : FwState :=
  { missed := [], restarts := [], resets := [], ring := [], nextFault := 0, saved := [], update := none, banks := [], svn := [],
    newSvn := [], images := [], coreRegs := [], sram := [], tap := 0, eids := [], thresholds := [], held := false, activeB := none }

/-- Cast-on, retained settings, bind-off and the module. The retained copies A and B and which one won last (0 A, 1 B, 2
and 3 defaults); fields written by the host before the apply (R590); a retained write due or running (R591); the STORE
image (R566); bind-off in progress; the steps of a cast-on that have ended (R584) and whether input power was lost in STORE (R596); extents held for
functions whose keys are not loaded (R595), by function, each as its metadata's copy of the entry; OFF, and OFF until input power is removed (R572, R610);
REFCLK in tolerance; the address straps sampled at cast-on (R614). -/
structure ModState where
  copyA : Option RetCopy
  copyB : Option RetCopy
  winner : Nat
  hostWrote : List Nat
  writeDue : Bool
  gaugeChanged : Bool
  storeImage : Option StoreImage
  bindOff : Option BindOff
  steps : List Nat
  storePower : Bool
  heldExt : List (Nat × List Tensor)
  off : Bool
  lockedOff : Bool
  refclkOk : Bool
  straps : Nat
  deriving DecidableEq, Repr

/-- The module at the end of a first cast-on: no valid retained copy, REFCLK in tolerance. -/
def ModState.reset : ModState :=
  { copyA := none, copyB := none, winner := 2, hostWrote := [], writeDue := false, gaugeChanged := false,
    storeImage := none, bindOff := none, steps := [], storePower := false, heldExt := [], off := false, lockedOff := false, refclkOk := true, straps := 0 }

end Sys2Proof.Machine
end

