-- ==== Sys2Proof/Machine/PlatOperands.lean ====
section
/-!
DEFINITION. The operands of security, host-link, firmware, power, cast-on and module commands: what the outside supplies.
-/

namespace Sys2Proof.Machine

/-- R471, R492. KEY_RELEASE inside session `session`: the policy with its key, and REPORT_DIGEST. -/
structure KeyReleaseOp where
  session : Nat
  policy : Policy
  report : BitVec 384
  deriving DecidableEq, Repr

/-- R471, R475. A KEY_EXCHANGE that ends well: the session, and the function or model slot it is bound to. -/
structure SessionOp where
  id : Nat
  base : Bool
  target : Nat
  deriving DecidableEq, Repr

/-- R500. A BAR4 access of 4 or 8 bytes (or a burst of them): the bytes written, or none and the number to read. -/
structure BarOp where
  isWrite : Bool
  off : Nat
  data : List Byte
  count : Nat
  deriving DecidableEq, Repr

/-- R534, R544. A trap on a control core: what it writes into its record, the stack pointer and its two bounds, whether the
core is in machine mode and already on its emergency stack, CAUSE where the stack pointer is valid, and the millisecond. -/
structure TrapOp where
  core : Nat
  comp : Nat
  cause : Nat
  mmode : Bool
  emergency : Bool
  sp : Nat
  low : Nat
  high : Nat
  mepc : Nat
  mtval : Nat
  ra : Nat
  mcause : Nat
  now : Nat
  deriving DecidableEq, Repr

/-- R550. An abstract command: read or write register `reg` of a halted core. -/
structure AbstractOp where
  core : Nat
  reg : Nat
  isWrite : Bool
  value : Nat
  deriving DecidableEq, Repr

/-- R551. Where a system-bus access goes: the near tier, a core's local SRAM (0 to 3) or the locked SRAM (4), the storage of a unit (0 skein, 1 arrays, 2 hot region, 3
chains), or elsewhere. -/
inductive BusSpace where
  | near
  | sram (k : Nat)
  | unit (k : Nat)
  | elsewhere
  deriving DecidableEq, Repr

/-- R551. A system-bus or program-buffer access of the Debug Module. -/
structure BusOp where
  space : BusSpace
  addr : Nat
  isWrite : Bool
  data : List Byte
  count : Nat
  deriving DecidableEq, Repr

/-- R469, R616. The instructions of the TAP. -/
inductive TapInstr where
  | idcode | bypass | sample | extest | debug | other
  deriving DecidableEq, Repr

/-- R567. Wake events that come neither from a message nor from a doorbell. -/
inductive WakeKind where
  | frame (link : Nat)
  | holdup
  | throttle
  deriving DecidableEq, Repr

/-- R483. A power or clock request to the RTP: its block and kind, the frames that lie in the block (first, frames), whether
it is about the RTP itself, and whether it is one that keeps contents and checks. -/
structure PowerReqOp where
  block : Nat
  kind : Nat
  frames : List (Nat × Nat)
  rtp : Bool
  keeps : Bool
  deriving DecidableEq, Repr

/-- R574, R577. One re-gauge operation: the record captured, and whether its value lies in its design range. -/
structure RegaugeOp where
  rcd : GaugeRec
  inRange : Bool
  deriving DecidableEq, Repr

/-- R466, R549, R584. Cast-on up to the release of the blocks: for each class (0 to 3) whether the image of its active and of
its inactive bank verifies, and the address straps. -/
structure CastOp where
  activeOk : List Bool
  otherOk : List Bool
  straps : Nat
  deriving DecidableEq, Repr

/-- R592, R591. The self-test's GLB_SELFTEST bits, and the droop and thermal-offset records it captures. -/
structure SelftestOp where
  bits : Nat
  gauge : List GaugeRec
  deriving DecidableEq, Repr

/-- R561, R562, R571, R578, R624. A 1 ms sample: input power, sensor readings, TEL readings, the energy taken (mJ), the
milliseconds and the pulses skipped since the last one. -/
structure SampleOp where
  draw : Nat
  temps : List (Nat × Nat)
  tel : List (Nat × Nat)
  energy : Nat
  ms : Nat
  skipped : Nat
  deriving DecidableEq, Repr

end Sys2Proof.Machine
end

