-- ==== Sys2Proof/Machine/QueueOperands.lean ====
section
/-!
DEFINITION. The operands of the host queues' events and of the Builder's: what the queues read from host memory, which
queue is served, what a build found.
-/

namespace Sys2Proof.Machine

/-- One fetch of a submission entry: function, queue, the entry's 64 bytes, the 256 bytes of the descriptor that a COMMAND
entry names, the 64 bytes of the swatch list that a SEQ_OPEN names, and whether the fetch failed. -/
structure SqFetchOp where
  fn : Nat
  queue : Nat
  bytes : List Byte
  desc : List Byte
  swatches : List Byte
  failed : Bool
  deriving DecidableEq, Repr

/-- A submission queue of a function. -/
structure QueueOp where
  fn : Nat
  queue : Nat
  deriving DecidableEq, Repr

/-- A host read completion: the move it was issued for, its lines, and whether it failed. -/
structure HostReadOp where
  move : Nat
  lines : List LineData
  failed : Bool
  deriving DecidableEq, Repr

/-- What the graph sequencer and the Builder found in a build: the failure code of R53 (0 for none) and its task; for a
graph the rows of the pattern and of each task; for a template its body. -/
structure BuildDoneOp where
  code : Nat
  task : Nat
  rows : Nat
  taskRows : List Nat
  body : List Byte
  deriving DecidableEq, Repr

end Sys2Proof.Machine
end

