-- ==== Sys2Proof/Machine/SeqOperands.lean ====
section
/-!
DEFINITION. The operands of the sequencer's, the Builder's and the sequence table's events.
-/

namespace Sys2Proof.Machine

/-- Where the Builder has placed a command that runs outside a step: an admitted command `cid`, or (with `cid` 0) task
`task` of graph `graph`; its slot, dies and rows. -/
structure Placement where
  cid : Nat
  graph : Nat
  task : Nat
  cslot : Nat
  dies : List Nat
  rows : Nat
  deriving DecidableEq, Repr

/-- A row boundary: the record and the commands that the Builder has built for it, should the row be a gap row or a row
of a training window. -/
structure RowStartOp where
  record : RowRecord
  places : List Placement
  deriving DecidableEq, Repr

/-- The end of a row: its duration in ns, its foreground slip in cycles, and microseconds waited at the barrier before it
started. -/
structure RowCompleteOp where
  ns : Nat
  slip : Nat
  barrierUs : Nat
  deriving DecidableEq, Repr

/-- A fetch of the next row's record: whether it met an uncorrectable error. -/
structure RowFetchOp where
  ecc : Bool
  cycle : Nat
  deriving DecidableEq, Repr

/-- A token-buffer copy: a sequence and the tokens copied. -/
structure TokenCopyOp where
  seqId : Nat
  count : Nat
  deriving DecidableEq, Repr

end Sys2Proof.Machine
end

