-- ==== Sys2Proof/Syntax.lean ====
section
/-!
DEFINITION. The commands of the DN7: one constructor for each row of spec/opcode_table.json, in the table's order. Rows
that software or the fabric sends carry what they carry; rows that are events of the hardware carry what the event shows.
-/

namespace Sys2Proof

/-- A command or event of the DN7. -/
inductive Instr where
  /-- FETCH_T, R139. Fetch queue copies tensor lines from the near or borrowed tier into the skein, resolving the handle at issue. -/
  | fetchT (h : Machine.Issue) (o : Machine.FetchOp)
  /-- FETCH_S, R139. Fetch queue copies scale-tensor lines into the skein after their data block. -/
  | fetchS (h : Machine.Issue) (o : Machine.FetchOp)
  /-- FETCH_KV, R141. Fetches one chunk of a roster entry's key/value history, swatches first, plus mask lines. -/
  | fetchKv (h : Machine.Issue) (o : Machine.FetchKvOp)
  /-- MOVE_T, R142. Names a move descriptor that is handed to the Move Engine at the command's commit point. -/
  | moveT (h : Machine.Issue) (o : Machine.MoveOp)
  /-- UNP_CVT, R143. Converter converts elements between formats, rounding ties away from zero and saturating. -/
  | unpCvt (h : Machine.Issue) (o : Machine.UnpCvtOp)
  /-- UNP_DQ, R183. Converter dequantises a scaled block to FP32, BF16 or FP16. -/
  | unpDq (h : Machine.Issue) (o : Machine.UnpDqOp)
  /-- UNP_RHT, R202. Converter applies the randomised Hadamard rotation to each block and rounds once. -/
  | unpRht (h : Machine.Issue) (o : Machine.UnpRhtOp)
  /-- UNP_LAY, R143. Converter re-lays out elements by transpose, row-to-tile, tile-to-row or padding. -/
  | unpLay (h : Machine.Issue) (o : Machine.UnpLayOp)
  /-- MX_LDW, R146. Loads one stationary tile into the array's shadow buffer and sets the tile's run parameters. -/
  | mxLdw (h : Machine.Issue) (o : Machine.MxLdwOp)
  /-- MX_RUN, R147. Runs activation rows against the stationary tile, broadcasting a ready shadow and running motif segments. -/
  | mxRun (h : Machine.Issue) (o : Machine.MxRunOp)
  /-- MX_RUNT, R216. Runs activation rows against the transposed stationary tile for gradients through the base. -/
  | mxRunt (h : Machine.Issue) (o : Machine.MxRunOp)
  /-- MX_WGRAD, R151. Accumulates a motif gradient block in output-stationary mode over token rows. -/
  | mxWgrad (h : Machine.Issue) (o : Machine.MxWgradOp)
  /-- MX_DRAIN, R150. Writes accumulator rows, motif partials and rank rows from the array to the skein. -/
  | mxDrain (h : Machine.Issue) (o : Machine.MxDrainOp)
  /-- MG_ACC, R152. Merge unit adds or subtracts two FP32 line ranges. -/
  | mgAcc (h : Machine.Issue) (o : Machine.MgAccOp)
  /-- MG_SCALE, R152. Merge unit applies per-column scale and optional bias to FP32 rows. -/
  | mgScale (h : Machine.Issue) (o : Machine.MgScaleOp)
  /-- MG_MOTIF, R246. Merge unit adds motif partials to the rescaled FP32 base output. -/
  | mgMotif (h : Machine.Issue) (o : Machine.MgMotifOp)
  /-- MG_SEGT, R241. Merge unit builds a segment table from roster entries whose segments lie in a range. -/
  | mgSegt (h : Machine.Issue) (o : Machine.MgSegtOp)
  /-- VC_LDP, R153. Loads one line of element-program text into a chain program slot. -/
  | vcLdp (h : Machine.Issue) (o : Machine.VcLdpOp)
  /-- VC_LD, R154. Moves lines from the skein into a tile buffer. -/
  | vcLd (h : Machine.Issue) (o : Machine.VcBufOp)
  /-- VC_ST, R154. Moves lines from a tile buffer to the skein. -/
  | vcSt (h : Machine.Issue) (o : Machine.VcBufOp)
  /-- VC_PROG, R155. Runs an element program over ECNT + 1 elements in P passes. -/
  | vcProg (h : Machine.Issue) (o : Machine.VcProgOp)
  /-- VC_RED, R156. Reduces each row with the fixed tree to one value per row. -/
  | vcRed (h : Machine.Issue) (o : Machine.VcRedOp)
  /-- VC_SMAX, R157. Computes a one-shot, chunked or final soft maximum with per-row state records. -/
  | vcSmax (h : Machine.Issue) (o : Machine.VcSmaxOp)
  /-- VC_CMP, R158. Packs the elements whose mask bit is set, preceded by their count. -/
  | vcCmp (h : Machine.Issue) (o : Machine.VcCmpOp)
  /-- VC_EXP, R158. Expands packed elements to their mask positions, writing zero elsewhere. -/
  | vcExp (h : Machine.Issue) (o : Machine.VcCmpOp)
  /-- VC_RNG, R159. Draws random values from Philox streams of the command's or each entry's function. -/
  | vcRng (h : Machine.Issue) (o : Machine.VcRngOp)
  /-- PK_Q, R160. Quantises FP32 rows into a scaled block with ties away from zero and saturation. -/
  | pkQ (h : Machine.Issue) (o : Machine.PkOp)
  /-- PK_SR, R161. Quantises FP32 rows with stochastic rounding from a stream of the command's function. -/
  | pkSr (h : Machine.Issue) (o : Machine.PkOp)
  /-- CM_TENS, R162. Writes skein lines to an output tensor in a tier and sets its incomplete bit. -/
  | cmTens (h : Machine.Issue) (o : Machine.CmTensOp)
  /-- CM_KV, R163. Appends key/value rows of each roster entry's token slots to its KV tensor. -/
  | cmKv (h : Machine.Issue) (o : Machine.CmKvOp)
  /-- CM_CTX, R164. Stages RNG states, completion records or the command completion in the slot's commit buffer. -/
  | cmCtx (h : Machine.Issue) (o : Machine.CmCtxOp)
  /-- CM_MARK, R165. Retires the commit mark, or starts a dropped-stitch halt when DSCHK finds the latch set. -/
  | cmMark (h : Machine.Issue) (o : Machine.CmMarkOp)
  /-- LK_SEND, R166. Sends lines on a seam link as one item tagged with the command's CTAG. -/
  | lkSend (h : Machine.Issue) (o : Machine.LkSendOp)
  /-- LK_RECV, R167. Copies a committed staged item into the skein, optionally forwarding it, or starts a long receive. -/
  | lkRecv (h : Machine.Issue) (o : Machine.LkRecvOp)
  /-- LK_RED, R168. Performs one step of a fixed-order reduction across modules. -/
  | lkRed (h : Machine.Issue) (o : Machine.LkRedOp)
  /-- X_BAR, R169. Holds until every pending write to the named lines completes, then retires. -/
  | xBar (h : Machine.Issue) (o : Machine.XBarOp)
  /-- CMD_START, R84. Begins a command on a die, clearing its allotted lines and unit-local storage and assigning its slot. -/
  | cmdStart (h : Machine.Issue) (o : Machine.CmdStartOp)
  /-- TRACE, R170. Writes a value, row, cycle and CSLOT to the operator trace buffer. -/
  | traceMark (h : Machine.Issue) (o : Machine.TraceOp)
  /-- X_PROG, R171. Records a progress mark in the slot's progress register. -/
  | xProg (h : Machine.Issue) (o : Machine.XProgOp)
  /-- X_NOP, R172. Does nothing. -/
  | xNop (h : Machine.Issue)
  /-- X_END, R172. Retires when every command of the step has committed, releasing the roster lock and advancing SEQ_STEP. -/
  | xEnd (h : Machine.Issue) (now : Nat)
  /-- ROW_RECORD_FETCH, R73. Sequencer fetches the next row's record and streams from Pattern Memory during the current row. -/
  | rowRecordFetch (o : Machine.RowFetchOp)
  /-- ROW_START, R22. A module begins its next row once its row is complete, upstream tokens have arrived and the minimum period has passed. -/
  | rowStart (o : Machine.RowStartOp)
  /-- ROW_COMPLETE, R37. A row completes when its instructions retire, its writes and sends are acknowledged and its selvage has run. -/
  | rowComplete (o : Machine.RowCompleteOp)
  /-- ACTIVITY_LIMITER_BIN, R57. Each 1 µs bin the limiter caps the rise of switchable load, delaying enables or filling with ramp mode. -/
  | activityLimiterBin (want : Nat) (holds : Nat)
  /-- TICK_OVERRUN, R42. The hard ceiling elapses before the row is complete, starting the fault response. -/
  | tickOverrun (cycle : Nat)
  /-- BARRIER_TIMEOUT, R43. Required row-done tokens have not arrived when the barrier timeout expires, starting the fault response. -/
  | barrierTimeout
  /-- FROG_COMPLETE, R103. A frog finishes once every CM.TENS and CM.KV write it already issued has been acknowledged or failed. -/
  | frogComplete (o : Machine.SlotOp)
  /-- TIER_WRITE_ACK, R99. A CM.TENS or CM.KV tier write is acknowledged. -/
  | tierWriteAck (o : Machine.SlotOp)
  /-- TIER_WRITE_FAIL, R99. A CM.TENS or CM.KV write fails, raising PATTERN_ERR with cause WRITE. -/
  | tierWriteFail (o : Machine.SlotOp)
  /-- COMMIT_POINT, R97. The command commits: incomplete bits clear, dirty bits set, RNG states and records released, markers sent, slot freed. -/
  | commitPoint (o : Machine.SlotOp)
  /-- SLOT_STREAM, R237. The slot streamer copies motif target tiles into the hot region areas of the table's slots. -/
  | slotStream (o : Machine.StreamOp)
  /-- TIER_READ_COMPLETE, R140. A tier read for a fetch completes; a GENERATION_STALE borrowed completion re-resolves and rereads. -/
  | tierReadComplete (o : Machine.TierReadOp)
  /-- ROSTER_BUILD, R380. When the running step enters its STEP_LAST row the Builder fills the next roster and sets its ready bit. -/
  | rosterBuild
  /-- TOKEN_COPY, R369. The Tier Manager copies a prefill slice's tokens into the step token buffer as class C work. -/
  | tokenCopy (o : Machine.TokenCopyOp)
  /-- SCHED_WINDOW_BOUNDARY, R378. At each scheduling window boundary the row charges restart from zero. -/
  | schedWindowBoundary
  /-- QUOTA_SNAPSHOT, R345. The quota snapshot is rewritten at least once per 4,096 rows. -/
  | quotaSnapshot
  /-- SQ_TAIL_DOORBELL, R502. A write of a submission queue's tail doorbell is accepted or ignored. -/
  | sqTailDoorbell (fn : Nat) (n : Nat) (v : Nat) (word : Bool)
  /-- CQ_HEAD_DOORBELL, R502. A write of the completion queue head frees entries or is ignored. -/
  | cqHeadDoorbell (fn : Nat) (v : Nat) (word : Bool)
  /-- SQ_FETCH, R503. Host queues fetch one entry from each non-empty submission queue in rounds. -/
  | sqFetch (o : Machine.SqFetchOp)
  /-- COMMAND, R121. A COMMAND submission entry's descriptor is admitted through the ordered checks. -/
  | command (o : Machine.QueueOp)
  /-- SEQ_OPEN, R368. A SEQ_OPEN entry is admitted, opening a sequence, or refused with a completion record. -/
  | seqOpen (o : Machine.QueueOp)
  /-- SEQ_APPEND, R371. Adds tokens to a DECODE sequence, returning it to PREFILL. -/
  | seqAppend (o : Machine.QueueOp)
  /-- SEQ_CLOSE, R370. Closes an open sequence so no later roster names it. -/
  | seqClose (o : Machine.QueueOp)
  /-- HOST_READ_COMPLETION, R488. A host read completion arrives and is used, or discarded if squashed. -/
  | hostReadCompletion (o : Machine.HostReadOp)
  /-- CQ_COALESCE_TIMER, R509. TIME_US passes since the first counted entry and the completion vector is raised. -/
  | cqCoalesceTimer (fn : Nat)
  /-- DEVICE_QUERY, R519. Returns identity, firmware, status and free tier space. -/
  | deviceQuery (h : Machine.Mail)
  /-- ROW_CONFIG, R79. Sets SEQ_ROW_CFG fields, failing unless the sequencer is IDLE or HALTED. -/
  | rowConfig (h : Machine.Mail)
  /-- POWER_STATE, R565. Requests entry to IDLE, REST, PARK or STORE. -/
  | powerState (h : Machine.Mail)
  /-- PERF_LEVEL, R556. Requests a performance level, taking effect at a row boundary. -/
  | perfLevel (h : Machine.Mail)
  /-- BIND_OFF, R598. Quiesces the module, writes back dirty state, ends links and flushes the log. -/
  | bindOff (h : Machine.Mail)
  /-- TENSOR_ALLOC, R346. Allocates a tensor in NEAR or DEEP under quota, eviction and refusal rules. -/
  | tensorAlloc (h : Machine.Mail)
  /-- TENSOR_FREE, R349. Releases a tensor, incrementing its generation and zero-filling or crypto-erasing its space. -/
  | tensorFree (h : Machine.Mail)
  /-- TENSOR_QUERY, R363. Returns a Tensor Table entry and its current handle. -/
  | tensorQuery (h : Machine.Mail)
  /-- TENSOR_PLACE, R336. Starts a RELOCATE of the sender's own tensor. -/
  | tensorPlace (h : Machine.Mail)
  /-- HOST_REGISTER, R363. Creates a HOST tensor over the sender's host buffer. -/
  | hostRegister (h : Machine.Mail)
  /-- HOST_UNREGISTER, R363. Releases a HOST tensor unless a move names it. -/
  | hostUnregister (h : Machine.Mail)
  /-- QUOTA_SET, R346. The PF sets a function's quotas. -/
  | quotaSet (h : Machine.Mail)
  /-- QUOTA_QUERY, R345. Returns a function's quota snapshot. -/
  | quotaQuery (h : Machine.Mail)
  /-- TENANT_PARK, R361. Unbinds a pre-empted function's motifs and relocates its NEAR tensors to DEEP. -/
  | tenantPark (h : Machine.Mail)
  /-- TENANT_RESTORE, R362. Relocates every PARKED tensor of a function back to NEAR. -/
  | tenantRestore (h : Machine.Mail)
  /-- HANK_LEND, R355. Offers hanks of spare HBM on a link to a neighbour. -/
  | hankLend (o : Machine.HankOp)
  /-- HANK_RECALL, R357. Recalls lent hanks with a deadline, notifying the borrower. -/
  | hankRecall (o : Machine.HankOp)
  /-- HANK_RECALL_DEADLINE, R357. At the recall deadline the lender invalidates remaining extents and zero-fills the hanks. -/
  | hankRecallDeadline (lender : Option Nat) (hank : Nat)
  /-- WRITEBACK, R340. Starts write-back of all of a function's dirty tensors at once. -/
  | writeback (h : Machine.Mail)
  /-- WRITEBACK_START, R340. The Tier Manager starts write-back of a tensor dirty for WB_DELAY or when the dirty total passes half the limit. -/
  | writebackStart (o : Machine.WritebackOp)
  /-- MOVE_GRANULE_DONE, R109. A move granule lands at its destination; the last granule completes the move. -/
  | moveGranuleDone (o : Machine.MoveGranuleOp)
  /-- ZERO_FILL_DONE, R459. The zero engine finishes a frame, which returns to FREE for reassignment. -/
  | zeroFillDone (frame : Nat)
  /-- FLASH_WEAR_OP, R353. The flash controller runs a garbage-collection, refresh or retirement operation in the selvage. -/
  | flashWearOp (o : Machine.WearOp)
  /-- FLASH_CHANNEL_FAIL, R354. A failed flash channel is rebuilt from parity; spare exhaustion makes the deep tier read-only. -/
  | flashChannelFail (exhausted : Bool)
  /-- MODEL_LOAD, R359. Loads, converts and digests a base model into a slot. -/
  | modelLoad (h : Machine.Mail)
  /-- MODEL_RELAY, R359. Prepares a module to receive a converted base model over a seam link. -/
  | modelRelay (h : Machine.Mail)
  /-- MODEL_UNLOAD, R360. Releases a slot's base tensors and returns it to EMPTY. -/
  | modelUnload (h : Machine.Mail)
  /-- MODEL_QUERY, R363. Returns slot state, parameters and digest. -/
  | modelQuery (h : Machine.Mail)
  /-- MOTIF_LOAD, R228. Loads a motif from the host tier, folding ALPHA into B and rotating A if asked. -/
  | motifLoad (h : Machine.Mail)
  /-- MOTIF_BIND, R231. Binds a resident motif to the lowest free hot slot for serving or training. -/
  | motifBind (h : Machine.Mail)
  /-- MOTIF_UNBIND, R232. Unbinds a motif, taking its slot to DRAINING. -/
  | motifUnbind (h : Machine.Mail)
  /-- MOTIF_QUERY, R254. Returns a motif's state, slot, rank and digest. -/
  | motifQuery (h : Machine.Mail)
  /-- SWATCH_BUILD, R249. Builds a swatch by prefilling tokens through the model's serving templates. -/
  | swatchBuild (h : Machine.Mail)
  /-- SWATCH_RELEASE, R252. Releases an unpinned swatch. -/
  | swatchRelease (h : Machine.Mail)
  /-- SWATCH_IMPORT, R253. Imports an exported swatch, checks its digests and seals it. -/
  | swatchImport (h : Machine.Mail)
  /-- SWATCH_QUERY, R254. Returns a swatch record, without digests for the PF. -/
  | swatchQuery (h : Machine.Mail)
  /-- GRAPH_SUBMIT, R521. Reads a graph buffer and builds it into a pattern for its tasks. -/
  | graphSubmit (h : Machine.Mail)
  /-- TEMPLATE_LOAD, R629. Reads a Jinyx-built template image, checks it and stores it in Pattern Memory. -/
  | templateLoad (h : Machine.Mail)
  /-- TEMPLATE_BUILD, R521. Builds a template from a graph for a shape bucket and level. -/
  | templateBuild (h : Machine.Mail)
  /-- TEMPLATE_RETIRE, R74. Retires a template not used by a queued or running step. -/
  | templateRetire (h : Machine.Mail)
  /-- PATTERN_QUERY, R171. Reports pattern state, including the last progress marks. -/
  | patternQuery (h : Machine.Mail)
  /-- TRAIN_WINDOW, R292. Grants a run of rows at a step boundary to one function's fabric training graph. -/
  | trainWindow (h : Machine.Mail)
  /-- SCHED_SET, R377. Sets a function's share, priority, prefill slice and sequence limit. -/
  | schedSet (h : Machine.Mail)
  /-- SCHED_QUERY, R388. Returns scheduling parameters, reserves and charges. -/
  | schedQuery (h : Machine.Mail)
  /-- MODEL_SCHED_SET, R381. Sets a model's weight, LONG class, period and row limit. -/
  | modelSchedSet (h : Machine.Mail)
  /-- FUNC_PREEMPT, R386. Pre-empts an ACTIVE function, pausing its sequences after its running steps commit. -/
  | funcPreempt (h : Machine.Mail)
  /-- FUNC_RESUME, R387. Makes a PREEMPTED function ACTIVE and requeues its paused sequences. -/
  | funcResume (h : Machine.Mail)
  /-- SEQ_QUERY, R388. Returns a sequence's state and position. -/
  | seqQuery (h : Machine.Mail)
  /-- FABRIC_JOIN, R413. Gives the module its fabric identity and pipeline role. -/
  | fabricJoin (h : Machine.Mail)
  /-- FABRIC_LEAVE, R422. Returns the module to ROLE NONE. -/
  | fabricLeave (h : Machine.Mail)
  /-- LINK_ATTACH, R401. Starts training a link toward an expected peer. -/
  | linkAttach (h : Machine.Mail)
  /-- LINK_DETACH, R403. Ends a link's session, destroys its keys and idles its lanes. -/
  | linkDetach (h : Machine.Mail)
  /-- LINK_QUERY, R422. Returns a link's state, peer, width, rate and counters. -/
  | linkQuery (h : Machine.Mail)
  /-- LINK_REKEY, R399. Starts a link re-key at once. -/
  | linkRekey (h : Machine.Mail)
  /-- FABRIC_RESYNC, R410. Restarts token ordinals of the named links at 0 after a fabric fault. -/
  | fabricResync (h : Machine.Mail)
  /-- FABRIC_SEQ_MAP, R415. Writes or removes a stage's map entry for a sequence. -/
  | fabricSeqMap (h : Machine.Mail)
  /-- TWIN_DECLARE, R425. Declares the module primary or mirror of a twin set. -/
  | twinDeclare (h : Machine.Mail) (o : Machine.PeerOp)
  /-- TWIN_DISSOLVE, R426. Ends the twin set, leaving both modules in ROLE NONE. -/
  | twinDissolve (h : Machine.Mail)
  /-- TWIN_QUERY, R426. Reports twin state, peer, MSEQ counters and last matching point. -/
  | twinQuery (h : Machine.Mail)
  /-- TWIN_TAKEOVER, R438. The PF orders the mirror to take over after 2 ms of silence. -/
  | twinTakeover (h : Machine.Mail)
  /-- TWIN_RESYNC, R441. Makes a module the mirror of a SOLO module and enters SYNCING. -/
  | twinResync (h : Machine.Mail) (o : Machine.PeerOp)
  /-- LIFELINE_WRITE, R442. Captures named tensors and streams of a function as a lifeline. -/
  | lifelineWrite (h : Machine.Mail)
  /-- LIFELINE_CAPTURE_DONE, R443. A lifeline's copies complete and its manifest is written. -/
  | lifelineCaptureDone (o : Machine.CaptureOp)
  /-- LIFELINE_RESTORE, R446. Writes a VERIFIED lifeline back into its tensors and streams. -/
  | lifelineRestore (h : Machine.Mail)
  /-- LIFELINE_LIST, R446. Lists a function's lifelines. -/
  | lifelineList (h : Machine.Mail)
  /-- LIFELINE_DROP, R446. Releases a lifeline and crypto-erases its copies. -/
  | lifelineDrop (h : Machine.Mail)
  /-- FUNC_ENABLE, R457. Enables a VF, creating its context block. -/
  | funcEnable (h : Machine.Mail)
  /-- FUNC_DISABLE, R457. Disables a VF through the Function-Level Reset sequence. -/
  | funcDisable (h : Machine.Mail)
  /-- SPDM_TUNNEL, R491. Carries SPDM messages from a function to the RTP. -/
  | spdmTunnel (h : Machine.Mail) (reply : List Byte)
  /-- SEC_QUERY, R491. Returns key state, TDI state and touch-log length. -/
  | secQuery (h : Machine.Mail)
  /-- TENSOR_EXPORT, R478. Seals a tenant tensor into a blob in a host tensor. -/
  | tensorExport (h : Machine.Mail)
  /-- TENSOR_IMPORT, R479. Opens a blob into new tenant tensors. -/
  | tensorImport (h : Machine.Mail)
  /-- ZEROISE, R482. Destroys every key and zero-fills all protected frames. -/
  | zeroise (h : Machine.Mail)
  /-- SVN_COMMIT, R467. Advances a fused SVN to the running image's SVN. -/
  | svnCommit (h : Machine.Mail)
  /-- DEFER_CANCEL, R485. Withdraws a deferred power or clock request. -/
  | deferCancel (h : Machine.Mail)
  /-- LIFECYCLE_RMA, R469. Zeroises, crypto-erases the deep tier and enters RMA. -/
  | lifecycleRma (h : Machine.Mail) (good : Bool)
  /-- TINK_READ, R452. Returns entries from the ring, a flush or a frozen slot. -/
  | tinkRead (h : Machine.Mail)
  /-- TINK_FREEZE, R452. Copies the Tink ring into a frozen slot. -/
  | tinkFreeze (h : Machine.Mail)
  /-- TINK_RELEASE, R452. Frees a frozen slot. -/
  | tinkRelease (h : Machine.Mail)
  /-- KEY_RELEASE, R471. Releases a tenant or base-owner key with policy into a bound session. -/
  | keyRelease (o : Machine.KeyReleaseOp)
  /-- KEY_DESTROY, R481. Destroys a tenant or base-owner key. -/
  | keyDestroy (session : Nat)
  /-- TOUCH_LOG_READ, R477. Returns the function's touch log. -/
  | touchLogRead (session : Nat)
  /-- POLICY_QUERY, R492. Returns the key policy of the session's function or slot. -/
  | policyQuery (session : Nat)
  /-- GET_MEASUREMENTS, R476. Returns the measurement blocks visible to the requester, signed by the alias key. -/
  | getMeasurements (fn : Nat) (index : Nat)
  /-- GET_CERTIFICATE, R468. Returns the device certificate chain of slot 0. -/
  | getCertificate (slot : Nat) (first : Nat) (count : Nat)
  /-- KEY_EXCHANGE, R475. Establishes an SPDM session with the RTP. -/
  | keyExchange (o : Machine.SessionOp)
  /-- KEY_PROG, R486. Programs an IDE stream key from the host TSM. -/
  | keyProg (stream : Nat) (vfs : List Nat)
  /-- K_SET_GO, R486. Activates an IDE key set. -/
  | kSetGo (stream : Nat)
  /-- K_SET_STOP, R486. Stops an IDE key set. -/
  | kSetStop (stream : Nat)
  /-- LOCK_INTERFACE_REQUEST, R487. Moves a TDI from CONFIG_UNLOCKED to CONFIG_LOCKED. -/
  | lockInterfaceRequest (vf : Nat)
  /-- START_INTERFACE_REQUEST, R487. Moves a locked TDI to RUN. -/
  | startInterfaceRequest (vf : Nat)
  /-- TDI_CONFIG_CHANGE, R487. A change to a locked VF's BAR or MSI-X configuration moves its TDI to ERROR. -/
  | tdiConfigChange (vf : Nat)
  /-- IDE_INTEGRITY_FAIL, R486. A TLP failing IDE integrity makes its stream insecure and its TDIs ERROR. -/
  | ideIntegrityFail (stream : Nat)
  /-- FLR, R488. A Function-Level Reset stops a VF, destroys its key, frogs its commands and releases its tensors. -/
  | flr (fn : Nat)
  /-- VF_ENABLE_CLEAR, R457. Clearing VF Enable or lowering NumVFs disables every affected VF. -/
  | vfEnableClear (enabled : Bool) (numVfs : Nat)
  /-- HOST_LINK_DOWN, R524. The host link goes down with power on: every VF is reset and the PF's queues are reset. -/
  | hostLinkDown (ltssm : Nat)
  /-- CONFIG_SPACE_READY, R585. The endpoint stops answering Request Retry Status once its configuration space is ready. -/
  | configSpaceReady
  /-- BAR4_ACCESS, R500. A host access through BAR4 reaches the near tier, checked against the Region Table. -/
  | bar4Access (o : Machine.BarOp)
  /-- REGISTER_WRITE, R6. A write to a register field with no behaviour of its own takes effect under its access code. -/
  | registerWrite (fn : Nat) (off : Nat) (v : Nat)
  /-- RC_READ, R11. A read of a clear-on-read register returns its value and clears it. -/
  | rcRead (fn : Nat) (off : Nat)
  /-- LO_READ_LATCH, R623. A read of a LO register latches its HI register until HI is read. -/
  | loReadLatch (fn : Nat) (off : Nat)
  /-- SEQ_RUN, R48. A write of SEQ_CTRL.RUN starts or stops running steps. -/
  | seqRun (run : Bool)
  /-- HALT_STEP, R48. Requests a halt after the running step's last row. -/
  | haltStep
  /-- HALT_ROW, R48. Requests a halt after the current row, frogging uncommitted commands. -/
  | haltRow
  /-- SEQ_FAULT_CLEAR, R47. Clearing SEQ_FAULT bits takes STATE from FAULTED to HALTED once all are clear. -/
  | seqFaultClear (mask : Nat)
  /-- SEQ_ROW_CFG_WRITE, R79. A write to SEQ_ROW_CFG is accepted only while IDLE or HALTED with legal fields. -/
  | seqRowCfgWrite (v : Nat)
  /-- PM_BASE_WRITE, R627. A write to the Pattern Memory registers is accepted only under R79 and legal placement. -/
  | pmBaseWrite (off : Nat) (v : Nat)
  /-- ROSTER_READY_SET, R65. Setting a SEQ_ROSTER_READY bit marks a roster buffer ready for the next boundary. -/
  | rosterReadySet (mask : Nat)
  /-- SEQ_SCHED_CFG_WRITE, R389. Sets the scheduling window length from the next window boundary. -/
  | seqSchedCfgWrite (v : Nat)
  /-- MXA_CTRL_WRITE, R474. Sets zero-detect gating, refused while a key policy requires it clear. -/
  | mxaCtrlWrite (v : Nat)
  /-- MTF_HOT_CFG_WRITE, R255. Sets the hot region area size when no slot is bound. -/
  | mtfHotCfgWrite (v : Nat)
  /-- RNG_READ, R320. Copies the selected stream's committed state into the holding registers. -/
  | rngRead (fn : Nat) (v : Nat)
  /-- RNG_LOAD, R320. Writes the holding registers to the selected stream. -/
  | rngLoad (fn : Nat) (v : Nat)
  /-- DERIVE, R320. Gives the selected stream a fresh key from the RTP's DRBG. -/
  | rngDerive (fn : Nat) (v : Nat)
  /-- RNG_RESET, R320. Restores the selected stream to its default state. -/
  | rngReset (fn : Nat) (v : Nat)
  /-- DERIVE_DONE, R320. A DERIVE request completes and its key is written. -/
  | deriveDone (fn : Nat)
  /-- MOV_PAUSE, R364. Setting MOV_CTRL.PAUSE stops every running move at its next granule. -/
  | movPause (v : Nat)
  /-- MOV_DIRTY_CFG_WRITE, R364. Sets DIRTY_LIMIT and WB_DELAY, ignoring out-of-range writes. -/
  | movDirtyCfgWrite (v : Nat)
  /-- MOV_LEND_CFG_WRITE, R355. Sets the number of hanks that may be lent. -/
  | movLendCfgWrite (v : Nat)
  /-- MOV_TT_READ, R330. Copies a selected Tensor Table entry into MOV_TT_DATA. -/
  | movTtRead
  /-- FTL_CFG_WRITE, R365. Sets wear share and low mark, ignoring out-of-range writes. -/
  | ftlCfgWrite (v : Nat)
  /-- LNK_STAGE_CFG_WRITE, R406. Sets the link staging area size under the conditions of R79. -/
  | lnkStageCfgWrite (v : Nat)
  /-- TNK_FREEZE, R452. Writing TNK_CTRL.FREEZE copies the ring into a frozen slot. -/
  | tnkFreeze
  /-- TNK_ENTRY_READ, R455. Copies the selected ring entry into TNK_DATA. -/
  | tnkEntryRead
  /-- DPL_ENABLE, R489. Enables or disables a VF's dirty-page log, erroring a locked TDI. -/
  | dplEnable (on : Bool)
  /-- DPL_STOP, R490. Stops a VF's fetching, holds its records and drains its writes. -/
  | dplStop (on : Bool)
  /-- DPL_EPOCH, R489. Starts a new dirty-page epoch, clearing the filter. -/
  | dplEpoch
  /-- DPL_HEAD_WRITE, R489. The host advances the dirty-page ring head, freeing entries. -/
  | dplHeadWrite (v : Nat)
  /-- FW_FAULT_READ, R553. Copies a selected fault record into GLB_FW_FAULT_DATA. -/
  | fwFaultRead
  /-- WRITE_NOW, R591. Requests a retained-settings write. -/
  | writeNow
  /-- RETAINED_WRITE, R591. Writes a retained copy after a retained-field change, hourly for gauge changes, or on request. -/
  | retainedWrite (failed : Bool)
  /-- PWR_LIMIT_WRITE, R582. Sets the input power limit, ignoring out-of-range writes. -/
  | pwrLimitWrite (v : Nat)
  /-- PWR_RAMP_WRITE, R560. Sets the ramp slope limit under R79 and rechecks templates. -/
  | pwrRampWrite (v : Nat)
  /-- THM_LIMITS_WRITE, R583. Sets the die and HBM throttle limits. -/
  | thmLimitsWrite (v : Nat)
  /-- MARK_THRESH_WRITE, R579. A write to a stitch marker threshold re-arms the marker. -/
  | markThreshWrite (off : Nat) (v : Nat)
  /-- QUEUE_CONFIG_WRITE, R501. A write to a queue's BASE or CFG sets it or enables or stops fetching. -/
  | queueConfigWrite (fn : Nat) (off : Nat) (v : Nat)
  /-- ITEM, R408. An ITEM frame's lines are authenticated and placed in link staging. -/
  | itemFrame (o : Machine.ItemOp)
  /-- COMMIT, R100. A commit marker frame makes a tag's staged items consumable. -/
  | commitFrame (o : Machine.TagOp)
  /-- DISCARD, R102. A discard marker frame drops every staged item of its tag. -/
  | discard (o : Machine.TagOp)
  /-- ROW_DONE, R409. A row-done token is counted toward the barrier and checked for ordinal. -/
  | rowDone (o : Machine.TokenOp)
  /-- ROW_FAULT, R45. A row-fault token faults the receiver's job as its own. -/
  | rowFault (o : Machine.TokenOp)
  /-- ROSTER, R414. A pipeline roster record is forwarded, mapped, written to a buffer and marked ready. -/
  | rosterFrame (o : Machine.RosterFrameOp)
  /-- BULK, R419. A bulk stream granule frame lands and is forwarded to RELAY_OUT. -/
  | bulkFrame (o : Machine.BulkOp)
  /-- BULK_OPEN, R418. Opens a relay stream, answered ACCEPT or REFUSE and forwarded. -/
  | bulkOpen (o : Machine.BulkOpenOp)
  /-- BULK_ACCEPT, R418. A receiver accepts a relay stream. -/
  | bulkAccept (o : Machine.BulkCtlOp)
  /-- BULK_REFUSE, R421. A receiver refuses a relay stream; the sender reports its status. -/
  | bulkRefuse (o : Machine.BulkCtlOp)
  /-- BULK_ACK, R419. Acknowledges a landed granule upstream. -/
  | bulkAck (o : Machine.BulkCtlOp)
  /-- BULK_RESUME, R420. Asks the sender to resend from a granule after a link loss. -/
  | bulkResume (o : Machine.BulkCtlOp)
  /-- BULK_CLOSE, R421. Ends a relay stream; the receiver compares digests and becomes RESIDENT or fails. -/
  | bulkClose (o : Machine.BulkCtlOp)
  /-- RELAY_TIMEOUT, R421. A relay receiver with no progress for 10 s fails FAULTED. -/
  | relayTimeout (slot : Nat)
  /-- BREAD_REQ, R356. A borrowed read request is served from a lent hank or completed GENERATION_STALE. -/
  | breadReq (o : Machine.BreadReqOp)
  /-- BREAD_CPL, R140. A borrowed read completion delivers lines or a stale status. -/
  | breadCpl (o : Machine.BreadCplOp)
  /-- HANK_DIR, R355. A borrower writes a hank extent directory entry at the lender. -/
  | hankDir (o : Machine.DirOp)
  /-- KEY_READY, R399. Both ends confirm new link keys and senders flip KEY_PHASE. -/
  | keyReady (l : Nat)
  /-- CHANNEL_ERROR, R396. A frame failing CRC is dropped and unacknowledged frames are replayed. -/
  | channelError (o : Machine.ChannelErrOp)
  /-- AUTH_FAIL, R400. A frame failing its tag is dropped, counted and replayed; a burst takes the link DOWN. -/
  | authFail (o : Machine.AuthFailOp)
  /-- LINK_RETRAIN, R396. A link retrains after repeated replays or a high error rate. -/
  | linkRetrain (l : Nat)
  /-- LINK_RETRAIN_DONE, R396. A retrain ends, resuming frames or after a third failure taking the link DOWN. -/
  | linkRetrainDone (o : Machine.TrainOp)
  /-- LINK_TRAINED, R401. Link training completes and the link enters SECURING, or fails. -/
  | linkTrained (o : Machine.TrainOp)
  /-- LINK_SECURED, R402. Identity checks and the SPDM session finish and keys are installed, or the link goes DOWN. -/
  | linkSecured (o : Machine.PairOp)
  /-- LOSS_OF_SIGNAL, R401. An UP link loses signal and goes DOWN. -/
  | lossOfSignal (l : Nat)
  /-- LINK_RETRY, R401. A DOWN link retries training after 1 s. -/
  | linkRetry (l : Nat)
  /-- REKEY_DUE, R399. A link key reaches its counter or age limit and a fresh session is run. -/
  | rekeyDue (o : Machine.RekeyOp)
  /-- OLD_KEY_EXPIRY, R399. 1 ms after the new phase is seen, the old keys are destroyed. -/
  | oldKeyExpiry (l : Nat)
  /-- BEACON_PULSE, R411. A Row Beacon pulse advances the count and locks or times the row period. -/
  | beaconPulse (periodNs : Nat)
  /-- BEACON_LOST, R412. No beacon pulse for two row lengths unlocks the module. -/
  | beaconLost
  /-- TWIN_WRITE, R430. The mirror writes mirrored lines and sets the destination incomplete. -/
  | twinWrite (o : Machine.TwinWriteOp)
  /-- TWIN_COMMIT, R430. The mirror applies a commit record in MSEQ order. -/
  | twinCommit (o : Machine.TwinRecOp)
  /-- TWIN_DISCARD, R430. The mirror leaves a discarded tag's destinations incomplete. -/
  | twinDiscard (o : Machine.TwinTagOp)
  /-- TWIN_CTX, R430. The mirror applies context-block changes in MSEQ order. -/
  | twinCtx (o : Machine.TwinRecOp)
  /-- TWIN_TABLE, R428. The mirror applies Tensor Table changes with its own allocations and moves. -/
  | twinTable (o : Machine.TwinRecOp)
  /-- TWIN_ROSTER, R428. The mirror applies roster and token-buffer lines. -/
  | twinRoster (o : Machine.TwinRecOp)
  /-- TWIN_ACK, R431. The primary receives an ACK and writes completions it covers. -/
  | twinAck (o : Machine.TwinAckOp)
  /-- TWIN_ACK_SEND, R430. The mirror sends an ACK at least every 10 µs while records are unacknowledged. -/
  | twinAckSend
  /-- TWIN_HEARTBEAT, R436. A heartbeat arrives on a twin link. -/
  | twinHeartbeat (l : Nat)
  /-- TWIN_HEARTBEAT_SEND, R436. Each module sends a heartbeat on every twin link every 100 µs. -/
  | twinHeartbeatSend (live : Nat)
  /-- DIGEST_POINT, R433. After INTERVAL rows the primary sends DIGEST for its last commit's MSEQ. -/
  | digestPoint
  /-- DIGEST_COMPUTED, R434. The digest engine completes a module's digest for a point. -/
  | digestComputed
  /-- TWIN_DIGEST, R435. A peer's digest is compared: match, ECC repair, or divergence. -/
  | twinDigest (o : Machine.TwinDigestOp)
  /-- TWIN_FAULT, R438. A FAULT frame from the primary makes the mirror declare loss at once. -/
  | twinFault (o : Machine.TwinTagOp)
  /-- TWIN_SYNC, R426. The mirror applies a SYNC granule; the last one leads to TWINNED. -/
  | twinSync (o : Machine.TwinSyncOp)
  /-- TWIN_DROP, R437. A mirror receiving DROP enters FENCED and never takes over. -/
  | twinDrop (o : Machine.TwinTagOp)
  /-- TWIN_DROP_REPEAT, R437. A primary that dropped its mirror repeats DROP every 100 µs. -/
  | twinDropRepeat
  /-- TWIN_FENCE, R436. After 0.5 ms without frames the primary fences and halts. -/
  | twinFence
  /-- ACK_TIMEOUT, R437. A commit awaiting ACK for 10 ms drops the mirror and the primary becomes SOLO. -/
  | ackTimeout
  /-- TWIN_LOSS, R438. After 1 ms of silence the mirror declares loss and discards uncommitted lines. -/
  | twinLoss
  /-- TWIN_AUTO_TAKEOVER, R439. At 2 ms of silence with AUTO_TAKEOVER the mirror takes over. -/
  | twinAutoTakeover
  /-- TINK_FLUSH_DONE, R451. A flush or freeze completes and the Tink vector is raised. -/
  | tinkFlushDone
  /-- TRAP_ENTRY, R534. A control-core trap writes its context, switching to the emergency stack if the pointer is invalid. -/
  | trapEntry (o : Machine.TrapOp)
  /-- SUPERVISOR_HEARTBEAT, R537. Every 10 ms the supervisor heartbeats components and kicks the watchdog. -/
  | supervisorHeartbeat (answered : List Nat) (now : Nat)
  /-- COMPONENT_RESTARTED, R539. A component finishes its restart and journal check and takes new work. -/
  | componentRestarted (comp : Nat) (us : Nat)
  /-- QUEUE_WAIT_TIMEOUT, R533. A task waiting 500 ms on another component's queue times out with BUSY_RETRY. -/
  | queueWaitTimeout (h : Machine.Mail) (type : Nat)
  /-- COMPLEX_WATCHDOG_EXPIRY, R540. The complex watchdog expires, causing a complex reset. -/
  | complexWatchdogExpiry (now : Nat)
  /-- COMPLEX_READY, R541. The restarted complex sets READY after the reset. -/
  | complexReady (ms : Nat)
  /-- DEBUG_ACTIVATE, R551. The Debug Module is activated or deactivated through JTAG. -/
  | debugActivate (on : Bool)
  /-- DEBUG_HALT, R552. A debugger halts a core, suspending the watchdog and its components' heartbeats. -/
  | debugHalt (core : Nat)
  /-- DEBUG_RESUME, R552. A debugger resumes a halted core. -/
  | debugResume (core : Nat)
  /-- DEBUG_STEP, R550. A debugger single-steps a core. -/
  | debugStep (core : Nat)
  /-- DEBUG_ABSTRACT_COMMAND, R550. A debugger reads or writes core registers. -/
  | debugAbstractCommand (o : Machine.AbstractOp)
  /-- DEBUG_SYSBUS_ACCESS, R551. A debugger accesses memory as a DBG agent under the Region Table. -/
  | debugSysbusAccess (o : Machine.BusOp)
  /-- JTAG_INSTRUCTION_LOAD, R469. A TAP instruction loads, with EXTEST refused while tenants or keys are present. -/
  | jtagInstructionLoad (ir : Machine.TapInstr)
  /-- QUERY_DEVICE_IDENTIFIERS, R546. PLDM firmware update: returns device identifiers. -/
  | queryDeviceIdentifiers
  /-- GET_FIRMWARE_PARAMETERS, R546. PLDM firmware update: returns component versions. -/
  | getFirmwareParameters
  /-- REQUEST_UPDATE, R547. Opens the single firmware update session. -/
  | requestUpdate
  /-- PASS_COMPONENT_TABLE, R546. Passes the update's component table. -/
  | passComponentTable (classes : List Nat)
  /-- UPDATE_COMPONENT, R546. Starts transfer of one image class into its inactive bank. -/
  | updateComponent (cls : Nat) (size : Nat)
  /-- REQUEST_FIRMWARE_DATA, R547. A requested firmware data block arrives and is written into the inactive bank. -/
  | requestFirmwareData (n : Nat)
  /-- VERIFY_COMPLETE, R548. The transferred image is verified by signature, key and SVN. -/
  | verifyComplete (good : Bool) (svn : Nat)
  /-- ACTIVATE_FIRMWARE, R548. Marks every passed image of the session pending. -/
  | activateFirmware
  /-- GET_STATUS, R546. Returns the update session status. -/
  | getStatus
  /-- CANCEL_UPDATE_COMPONENT, R546. Cancels transfer of the current component. -/
  | cancelUpdateComponent
  /-- CANCEL_UPDATE, R547. Ends the update session, marking the partly written bank empty. -/
  | cancelUpdate
  /-- TRIAL_CONFIRM, R549. 600 s after READY without a complex reset, a trial image becomes active. -/
  | trialConfirm
  /-- SET_SENSOR_THRESHOLDS, R615. PLDM Type 2 sets upper and lower warning thresholds. -/
  | setSensorThresholds (sensor : Nat) (lower : Nat) (upper : Nat)
  /-- SET_ENDPOINT_ID, R614. Assigns a bus's MCTP endpoint ID. -/
  | setEndpointId (bus : Nat) (eid : Nat)
  /-- SUPPLY_DROOP, R558. A droop detector trips and the pulse skipper applies n = 8. -/
  | supplyDroop
  /-- INPUT_OVERCURRENT, R558. Input current above 40 A sets a skip demand of 8. -/
  | inputOvercurrent
  /-- POWER_LIMIT_AVERAGE, R558. Each 1 µs the input power average raises or lowers the skip demand against PWR_LIMIT. -/
  | powerLimitAverage (w : Nat)
  /-- SKIP_RELEASE, R558. Every 64 cycles without droop the droop skip demand falls by one. -/
  | skipRelease (current : Bool)
  /-- SUSTAINED_SKIP_CHECK, R559. Each 100 ms window of skipping beyond the margin sets or steps the sustained-skip cap. -/
  | sustainedSkipCheck (skipped : Nat) (pulses : Nat)
  /-- SKIP_CAP_LIFT, R559. Each 10 s of low skipping lifts the sustained-skip cap by one level. -/
  | skipCapLift (skipped : Nat) (pulses : Nat)
  /-- VOLTAGE_SETTLED, R556. The rising core voltage reaches its new value and the waiting boundary proceeds. -/
  | voltageSettled
  /-- POWER_STATE_ENTRY_DONE, R564. Entry to REST, PARK or STORE completes. -/
  | powerStateEntryDone (us : Nat)
  /-- POWER_STATE_EXIT_DONE, R564. Exit to IDLE completes and latched doorbells are replayed. -/
  | powerStateExitDone (us : Nat)
  /-- WAKE_EVENT, R567. A wake event starts an exit to IDLE, or is latched as a bounce during entry. -/
  | wakeEvent (kind : Machine.WakeKind)
  /-- POWER_CLOCK_REQUEST, R483. A power or clock request to the RTP is granted or DEFERRED. -/
  | powerClockRequest (o : Machine.PowerReqOp)
  /-- DEFERRED_REQUEST_PROCEED, R484. A deferred request proceeds once its block holds no protected frame or key. -/
  | deferredRequestProceed (block : Nat)
  /-- DEFER_DEADLINE, R484. At 450 ms the RTP zero-fills remaining frames and the request proceeds. -/
  | deferDeadline (block : Nat)
  /-- THERMAL_THROTTLE, R572. A sensor above its throttle limit sets the thermal cap one level lower. -/
  | thermalThrottle (sensor : Nat) (temp : Nat)
  /-- THERMAL_CAP_STEP, R572. Every 10 ms above the limit the cap steps down, every 100 ms well below it steps up. -/
  | thermalCapStep
  /-- THERMAL_CRITICAL, R572. A die sensor at critical applies n = 8 and caps at P7. -/
  | thermalCritical (sensor : Nat) (temp : Nat)
  /-- THERMAL_TRIP, R572. A sensor at trip runs the power-fail sequence and powers off. -/
  | thermalTrip (sensor : Nat) (temp : Nat)
  /-- SENSOR_FAIL, R573. A sensor out of range or stuck is excluded from maxima. -/
  | sensorFail (sensor : Nat)
  /-- REGAUGE_OP, R577. A class D re-gauge operation captures calibration values in the selvage. -/
  | regaugeOp (o : Machine.RegaugeOp)
  /-- GAUGE_DONE, R576. The last missing record of a class is captured and the gauge cap is lifted. -/
  | gaugeDone (ms : Nat)
  /-- GAUGE_RETRY, R577. 1 s after a failed re-gauge it is retried. -/
  | gaugeRetry
  /-- POWER_FAIL, R526. Input falls below the power-fail threshold: data path stops, log flushes, dirty tensors are written back. -/
  | powerFail
  /-- CAST_ON, R584. Input power reaching 48 V in OFF starts cast-on from ROM. -/
  | castOn (o : Machine.CastOp)
  /-- HBM_TRAINING_DONE, R584. HBM training ends and the near tier is zero-filled and cleared. -/
  | hbmTrainingDone (good : Bool) (gauge : List Machine.GaugeRec)
  /-- TRANSLATION_LAYER_READY, R584. The flash translation layer is loaded and the retained copies are chosen. -/
  | translationLayerReady (good : Bool)
  /-- SELFTEST_DONE, R592. The cast-on self-test completes and compares its outputs with references. -/
  | selftestDone (o : Machine.SelftestOp)
  /-- DIRECTORY_REBUILT, R593. Deep Tensor Table entries are rebuilt from extent metadata. -/
  | directoryRebuilt
  /-- STORE_IMAGE_RELOAD, R596. A STORE image's Pattern Memory and PF entries are reloaded. -/
  | storeImageReload
  /-- CASTON_DONE, R584. Cast-on finishes and GLB_STATUS.READY is set. -/
  | castonDone (ms : Nat)
  /-- RETAINED_APPLY, R590. The chosen retained register values are applied after READY. -/
  | retainedApply
  /-- FLUSH_READY_SET, R451. The hold-up bank can fund a Tink flush. -/
  | flushReadySet
  /-- HOLDUP_READY_SET, R525. The hold-up bank reaches 1.2 J and dirtying commands are admitted. -/
  | holdupReadySet
  /-- HOLDUP_LOST, R525. HOLDUP_READY clears, starting write-back of every dirty tensor. -/
  | holdupLost
  /-- BANK_CHECK, R609. The RTP measures bank capacitance every 24 h and flags a weak bank. -/
  | bankCheck (mj : Nat)
  /-- RAIL_FAULT, R610. A rail outside its window for 10 µs is a Module fault that powers the module off. -/
  | railFault (rail : Nat)
  /-- REFCLK_FAULT, R611. REFCLK stops or leaves tolerance, faulting the module and holding the host link down. -/
  | refclkFault
  /-- REFCLK_RECOVERED, R611. After 10 ms within tolerance the host link is released. -/
  | refclkRecovered
  /-- COUPLING_OPEN, R621. The coupling loop opens with the switch closed and the thermal cap becomes P7. -/
  | couplingOpen
  /-- COUPLING_CLOSED, R621. The coupling loop closes and the cap follows R572 again. -/
  | couplingClosed
  /-- BUILD_DONE, R52. A build or template recheck running on the control cores and graph sequencer finishes, clearing SEQ_BUILD_STATUS.BUSY, updating TEMPLATES and LAST_ERR and sending the reply. -/
  | buildDone (o : Machine.BuildDoneOp)
  /-- HOST_LINK_UP, R524. The PCIe host link trains and comes up again, updating GLB_STATUS link fields so the host can enumerate the DN7 again. -/
  | hostLinkUp (gen : Nat) (width : Nat) (flit : Bool)
  /-- UNDER_V, R607. VIN falls between 44 V and 48 V, or returns above 48 V, setting or clearing TEL_STATUS.UNDER_V and setting TEL_ALERT.UNDER_V. -/
  | underV (below : Bool) (vin : Nat)
  /-- OVER_V, R624. VIN exceeds 54 V, setting TEL_ALERT.OVER_V. -/
  | overV (vin : Nat)
  /-- INLET_HIGH, R619. A coolant inlet reading above 45 °C sets TEL_ALERT.INLET_HIGH. -/
  | inletHigh (temp : Nat)
  /-- STITCH_MARKER_SAMPLE, R578. A new 1 ms draw average or die temperature reading is sampled against PWR_DRAW_MARK or THM_MARK, which may cross the threshold and update the peak register. -/
  | stitchMarkerSample (o : Machine.SampleOp)
  /-- MBX_DOORBELL, R511. A mailbox SEND doorbell is written while the page is BUSY, or names an unlisted message type, and is ignored with GLB_FN_ERR.MBX_DOORBELL set or refused with BAD_ARG. -/
  | mbxDoorbell (h : Machine.Mail) (type : Nat)
  /-- CORE_SRAM_ECC, R540. An uncorrectable ECC error in a control core's local SRAM or in the locked SRAM causes a complex reset. -/
  | coreSramEcc (core : Nat) (now : Nat)
  /-- END_OF_SESSION, R470. An SPDM session ends, destroying its session keys and the function or slot binding that secured requests need. -/
  | endOfSession (session : Nat)
  /-- FAILED_HBM_STACK, R447. An HBM stack fails during operation, which is a Module fault that faults every job of the module and fails a twinned primary over. -/
  | failedHbmStack (stack : Nat)
  deriving DecidableEq, Repr

end Sys2Proof
end

