-- ==== Sys2Proof/Decode.lean ====
section
/-!
DEFINITION. Decoding. The rows of the command table have no bits, so `decodeTableWord` answers none. The words that the
spec does give are the 128-bit Trolum words of chapter 04 (R85, R127 and the layouts of each instruction): one table of
field places reads and writes them, and every bit that no field names is reserved and must be zero (R10).
-/

namespace Sys2Proof

open Machine

/-- The command that a word of the table's bits spells: none, since no row of the table gives bits. -/
def decodeTableWord (_nbits _w : Nat) : Option Instr := none

namespace Machine

/-- The places of an opcode's operand fields: lowest bit and width, in the order of the operand structure (R139 to
R171). `kind` is bits [91:88], which choose the layout of X.MARK (R170). `none` for a reserved opcode (R127). -/
def trolumFields (op kind : Nat) : Option (List (Nat × Nat)) :=
  match op with
  | 0x00 => some [(88, 4), (67, 21), (51, 16), (23, 28), (18, 5), (16, 2), (13, 3)]
  | 0x01 => some [(88, 4), (67, 21), (51, 16), (23, 28), (18, 5), (16, 2), (13, 3)]
  | 0x02 => some [(71, 21), (59, 12), (45, 14), (43, 2), (22, 21), (14, 8), (11, 3)]
  | 0x08 => some [(88, 4), (72, 16)]
  | 0x20 => some [(71, 21), (50, 21), (34, 16), (29, 5), (24, 5)]
  | 0x21 => some [(71, 21), (50, 21), (34, 16), (29, 5), (24, 5), (22, 2), (21, 1), (16, 5)]
  | 0x22 => some [(71, 21), (50, 21), (34, 16), (29, 5), (27, 2), (26, 1), (5, 21)]
  | 0x23 => some [(71, 21), (50, 21), (34, 16), (29, 5), (26, 3), (10, 16)]
  | 0x40 => some [(71, 21), (66, 5), (64, 2), (59, 5), (54, 5), (53, 1)]
  | 0x41 => some [(71, 21), (55, 16), (44, 11), (39, 5), (34, 5), (13, 21), (12, 1), (11, 1), (3, 8), (1, 2)]
  | 0x42 => some [(71, 21), (55, 16), (44, 11), (39, 5), (34, 5), (13, 21), (12, 1), (11, 1), (3, 8), (1, 2)]
  | 0x43 => some [(71, 21), (50, 21), (29, 21), (13, 16), (12, 1), (11, 1), (10, 1), (4, 6)]
  | 0x44 => some [(71, 21), (55, 16), (44, 11), (43, 1), (22, 21), (14, 8), (13, 1)]
  | 0x60 => some [(71, 21), (50, 21), (29, 21), (13, 16), (12, 1)]
  | 0x61 => some [(71, 21), (50, 21), (29, 21), (13, 16), (12, 1)]
  | 0x62 => some [(71, 21), (50, 21), (29, 21), (13, 16)]
  | 0x63 => some [(71, 21), (50, 21), (41, 9), (35, 6), (27, 8)]
  | 0x80 => some [(71, 21), (66, 5)]
  | 0x81 => some [(71, 21), (69, 2), (59, 10), (43, 16)]
  | 0x82 => some [(71, 21), (69, 2), (59, 10), (43, 16)]
  | 0x88 => some [(70, 22), (48, 22), (26, 22), (10, 16), (5, 5), (3, 2), (1, 2)]
  | 0x90 => some [(70, 22), (48, 22), (32, 16), (20, 12), (17, 3), (15, 2)]
  | 0x98 => some [(71, 21), (50, 21), (34, 16), (24, 10), (22, 2), (1, 21), (0, 1)]
  | 0xA0 => some [(71, 21), (50, 21), (29, 21), (13, 16), (11, 2)]
  | 0xA1 => some [(71, 21), (50, 21), (29, 21), (13, 16), (11, 2)]
  | 0xA8 => some [(70, 22), (54, 16), (48, 6), (45, 3), (24, 21)]
  | 0xC0 => some [(71, 21), (50, 21), (34, 16), (29, 5), (27, 2), (26, 1), (21, 5)]
  | 0xC1 => some [(71, 21), (50, 21), (34, 16), (29, 5), (27, 2), (26, 1), (21, 5), (15, 6)]
  | 0xD0 => some [(88, 4), (67, 21), (51, 16), (23, 28), (18, 5)]
  | 0xD1 => some [(71, 21), (50, 21), (42, 8), (30, 12), (18, 12)]
  | 0xD2 => some [(90, 2), (84, 6), (68, 16), (47, 21), (26, 21), (14, 12), (2, 12)]
  | 0xD3 => some [(88, 4), (87, 1)]
  | 0xE0 => some [(71, 21), (55, 16), (47, 8), (44, 3)]
  | 0xE1 => some [(91, 1), (70, 21), (54, 16), (38, 16), (30, 8), (29, 1), (26, 3)]
  | 0xE2 => some [(71, 21), (50, 21), (34, 16), (18, 16), (10, 8), (8, 2), (5, 3)]
  | 0xF0 => some [(71, 21), (55, 16)]
  | 0xF2 => some [(76, 16)]
  | 0xF1 => match kind with
    | 0 => some [(88, 4), (67, 21), (46, 21), (30, 16)]
    | 1 => some [(88, 4), (56, 32)]
    | _ => none
  | 0xF3 => some []
  | 0xFF => some []
  | _ => none

/-- The instruction of an opcode and its operand values. -/
def trolumOf (h : Issue) (op : Nat) (v : List Nat) : Option Instr :=
  match op, v with
  | 0x00, [v0, v1, v2, v3, v4, v5, v6] => some (.fetchT h ⟨v0, v1, v2, v3, v4, v5, v6⟩)
  | 0x01, [v0, v1, v2, v3, v4, v5, v6] => some (.fetchS h ⟨v0, v1, v2, v3, v4, v5, v6⟩)
  | 0x02, [v0, v1, v2, v3, v4, v5, v6] => some (.fetchKv h ⟨v0, v1, v2, v3, v4, v5, v6⟩)
  | 0x08, [v0, v1] => some (.moveT h ⟨v0, v1⟩)
  | 0x20, [v0, v1, v2, v3, v4] => some (.unpCvt h ⟨v0, v1, v2, v3, v4⟩)
  | 0x21, [v0, v1, v2, v3, v4, v5, v6, v7] => some (.unpDq h ⟨v0, v1, v2, v3, v4, v5, v6, v7⟩)
  | 0x22, [v0, v1, v2, v3, v4, v5, v6] => some (.unpRht h ⟨v0, v1, v2, v3, v4, v5, v6⟩)
  | 0x23, [v0, v1, v2, v3, v4, v5] => some (.unpLay h ⟨v0, v1, v2, v3, v4, v5⟩)
  | 0x40, [v0, v1, v2, v3, v4, v5] => some (.mxLdw h ⟨v0, v1, v2, v3, v4, v5⟩)
  | 0x41, [v0, v1, v2, v3, v4, v5, v6, v7, v8, v9] => some (.mxRun h ⟨v0, v1, v2, v3, v4, v5, v6, v7, v8, v9⟩)
  | 0x42, [v0, v1, v2, v3, v4, v5, v6, v7, v8, v9] => some (.mxRunt h ⟨v0, v1, v2, v3, v4, v5, v6, v7, v8, v9⟩)
  | 0x43, [v0, v1, v2, v3, v4, v5, v6, v7] => some (.mxWgrad h ⟨v0, v1, v2, v3, v4, v5, v6, v7⟩)
  | 0x44, [v0, v1, v2, v3, v4, v5, v6] => some (.mxDrain h ⟨v0, v1, v2, v3, v4, v5, v6⟩)
  | 0x60, [v0, v1, v2, v3, v4] => some (.mgAcc h ⟨v0, v1, v2, v3, v4⟩)
  | 0x61, [v0, v1, v2, v3, v4] => some (.mgScale h ⟨v0, v1, v2, v3, v4⟩)
  | 0x62, [v0, v1, v2, v3] => some (.mgMotif h ⟨v0, v1, v2, v3⟩)
  | 0x63, [v0, v1, v2, v3, v4] => some (.mgSegt h ⟨v0, v1, v2, v3, v4⟩)
  | 0x80, [v0, v1] => some (.vcLdp h ⟨v0, v1⟩)
  | 0x81, [v0, v1, v2, v3] => some (.vcLd h ⟨v0, v1, v2, v3⟩)
  | 0x82, [v0, v1, v2, v3] => some (.vcSt h ⟨v0, v1, v2, v3⟩)
  | 0x88, [v0, v1, v2, v3, v4, v5, v6] => some (.vcProg h ⟨v0, v1, v2, v3, v4, v5, v6⟩)
  | 0x90, [v0, v1, v2, v3, v4, v5] => some (.vcRed h ⟨v0, v1, v2, v3, v4, v5⟩)
  | 0x98, [v0, v1, v2, v3, v4, v5, v6] => some (.vcSmax h ⟨v0, v1, v2, v3, v4, v5, v6⟩)
  | 0xA0, [v0, v1, v2, v3, v4] => some (.vcCmp h ⟨v0, v1, v2, v3, v4⟩)
  | 0xA1, [v0, v1, v2, v3, v4] => some (.vcExp h ⟨v0, v1, v2, v3, v4⟩)
  | 0xA8, [v0, v1, v2, v3, v4] => some (.vcRng h ⟨v0, v1, v2, v3, v4⟩)
  | 0xC0, [v0, v1, v2, v3, v4, v5, v6] => some (.pkQ h ⟨v0, v1, v2, v3, v4, v5, v6, 0⟩)
  | 0xC1, [v0, v1, v2, v3, v4, v5, v6, v7] => some (.pkSr h ⟨v0, v1, v2, v3, v4, v5, v6, v7⟩)
  | 0xD0, [v0, v1, v2, v3, v4] => some (.cmTens h ⟨v0, v1, v2, v3, v4⟩)
  | 0xD1, [v0, v1, v2, v3, v4] => some (.cmKv h ⟨v0, v1, v2, v3, v4⟩)
  | 0xD2, [v0, v1, v2, v3, v4, v5, v6] => some (.cmCtx h ⟨v0, v1, v2, v3, v4, v5, v6⟩)
  | 0xD3, [v0, v1] => some (.cmMark h ⟨v0, v1⟩)
  | 0xE0, [v0, v1, v2, v3] => some (.lkSend h ⟨v0, v1, v2, v3⟩)
  | 0xE1, [v0, v1, v2, v3, v4, v5, v6] => some (.lkRecv h ⟨v0, v1, v2, v3, v4, v5, v6⟩)
  | 0xE2, [v0, v1, v2, v3, v4, v5, v6] => some (.lkRed h ⟨v0, v1, v2, v3, v4, v5, v6⟩)
  | 0xF0, [v0, v1] => some (.xBar h ⟨v0, v1⟩)
  | 0xF2, [v0] => some (.xProg h ⟨v0⟩)
  | 0xF1, [0, v1, v2, v3] => some (.cmdStart h ⟨v1, v2, v3⟩)
  | 0xF1, [1, v1] => some (.traceMark h ⟨v1⟩)
  | 0xF3, [] => some (.xNop h)
  | 0xFF, [] => some (.xEnd h 0)
  | _, _ => none

/-- The issue fields, opcode and operand values of a Trolum instruction; `none` for every other command. -/
def trolumParts (i : Instr) : Option (Issue × Nat × List Nat) :=
  match i with
  | .fetchT h o => some (h, 0x00, [o.opd, o.dst, o.lcnt, o.offset, o.fmt, o.src, o.rate])
  | .fetchS h o => some (h, 0x01, [o.opd, o.dst, o.lcnt, o.offset, o.fmt, o.src, o.rate])
  | .fetchKv h o => some (h, 0x02, [o.roster, o.entry, o.chunk, o.chlen, o.dst, o.layer, o.rate])
  | .moveT h o => some (h, 0x08, [o.opd, o.index])
  | .unpCvt h o => some (h, 0x20, [o.src, o.dst, o.ecnt, o.sfmt, o.dfmt])
  | .unpDq h o => some (h, 0x21, [o.src, o.dst, o.ecnt, o.sfmt, o.dfmt, o.group, o.qmode, o.scfmt])
  | .unpRht h o => some (h, 0x22, [o.src, o.dst, o.ecnt, o.fmt, o.blk, o.inv, o.signs])
  | .unpLay h o => some (h, 0x23, [o.src, o.dst, o.ecnt, o.fmt, o.op, o.rowlen])
  | .mxLdw h o => some (h, 0x40, [o.src, o.wfmt, o.group, o.scfmt, o.ascfmt, o.qmode])
  | .mxRun h o => some (h, 0x41, [o.act, o.rows, o.accb, o.afmt, o.wfmt, o.segt, o.accIn, o.motif, o.kt, o.pass])
  | .mxRunt h o => some (h, 0x42, [o.act, o.rows, o.accb, o.afmt, o.wfmt, o.segt, o.accIn, o.motif, o.kt, o.pass])
  | .mxWgrad h o => some (h, 0x43, [o.in1, o.in2, o.dst, o.rows, o.mode, o.accIn, o.drain, o.rank])
  | .mxDrain h o => some (h, 0x44, [o.dst, o.rows, o.accb, o.motif, o.segt, o.nt, o.rankout])
  | .mgAcc h o => some (h, 0x60, [o.srca, o.srcb, o.dst, o.lcnt, o.neg])
  | .mgScale h o => some (h, 0x61, [o.src, o.dst, o.vec, o.rows, o.bias])
  | .mgMotif h o => some (h, 0x62, [o.base, o.mot, o.dst, o.rows])
  | .mgSegt h o => some (h, 0x63, [o.roster, o.dst, o.first, o.count, o.target])
  | .vcLdp h o => some (h, 0x80, [o.src, o.pslot])
  | .vcLd h o => some (h, 0x81, [o.line, o.buf, o.boff, o.lcnt])
  | .vcSt h o => some (h, 0x82, [o.line, o.buf, o.boff, o.lcnt])
  | .vcProg h o => some (h, 0x88, [o.srca, o.srcb, o.dst, o.ecnt, o.pslot, o.xin, o.xout])
  | .vcRed h o => some (h, 0x90, [o.src, o.dst, o.ecnt, o.rows, o.op, o.xin])
  | .vcSmax h o => some (h, 0x98, [o.src, o.dst, o.ecnt, o.rows, o.mode, o.state, o.msk])
  | .vcCmp h o => some (h, 0xA0, [o.src, o.mask, o.dst, o.ecnt, o.xfmt])
  | .vcExp h o => some (h, 0xA1, [o.src, o.mask, o.dst, o.ecnt, o.xfmt])
  | .vcRng h o => some (h, 0xA8, [o.dst, o.ecnt, o.rsel, o.dist, o.roster])
  | .pkQ h o => some (h, 0xC0, [o.src, o.dst, o.ecnt, o.fmt, o.group, o.qmode, o.scfmt])
  | .pkSr h o => some (h, 0xC1, [o.src, o.dst, o.ecnt, o.fmt, o.group, o.qmode, o.scfmt, o.rsel])
  | .cmTens h o => some (h, 0xD0, [o.opd, o.src, o.lcnt, o.offset, o.fmt])
  | .cmKv h o => some (h, 0xD1, [o.src, o.roster, o.layer, o.first, o.count])
  | .cmCtx h o => some (h, 0xD2, [o.kind, o.rsel, o.smask, o.src, o.roster, o.first, o.count])
  | .cmMark h o => some (h, 0xD3, [o.kind, o.dschk])
  | .lkSend h o => some (h, 0xE0, [o.src, o.lcnt, o.seq, o.cls])
  | .lkRecv h o => some (h, 0xE1, [o.long, o.dst, o.lcnt, o.ctag, o.seq, o.fwd, o.flink])
  | .lkRed h o => some (h, 0xE2, [o.loc, o.dst, o.lcnt, o.ctag, o.seq, o.role, o.outl])
  | .xBar h o => some (h, 0xF0, [o.line, o.lcnt])
  | .xProg h o => some (h, 0xF2, [o.mark])
  | .cmdStart h o => some (h, 0xF1, [0, o.first, o.count, o.ctag])
  | .traceMark h o => some (h, 0xF1, [1, o.value])
  | .xNop h => some (h, 0xF3, [])
  | .xEnd h _ => some (h, 0xFF, [])
  | _ => none

/-- The values of fields in a word. -/
def fieldsRead (w : Nat) (l : List (Nat × Nat)) : List Nat := l.map (fun f => bits w f.1 f.2)

/-- The number whose fields hold the values. -/
def fieldsWrite : List (Nat × Nat) → List Nat → Nat
  | f :: l, v :: t => v * 2 ^ f.1 + fieldsWrite l t
  | _, _ => 0

/-- R85. What a word at `index` of the stream of a die shows when it issues at its start cycle with nothing amiss. -/
def Issue.ofWord (die index w : Nat) : Issue :=
  ⟨die, bits w 117 3, bits w 112 5, bits w 92 4, bits w 96 16, index, bits w 96 16, [], false, false, none, 0⟩

/-- R167. A long receive names no skein line: bits [82:70] of its word are zero. -/
def longOk (op : Nat) (v : List Nat) : Bool := op != 0xE1 || v.getD 0 0 == 0 || v.getD 1 0 % 2 ^ 13 == 0

/-- R85, R10. The instruction that a 128-bit word spells: reserved opcodes and reserved bits that are not zero are
refused. -/
def decodeTrolum (die index : Nat) (word : TWord) : Option Instr :=
  let w := word.toNat
  let op := bits w 120 8
  match trolumFields op (bits w 88 4) with
  | none => none
  | some l =>
    let v := fieldsRead w l
    if fieldsWrite l v = bits w 0 92 ∧ longOk op v = true then trolumOf (Issue.ofWord die index w) op v else none

/-- R85. The 128-bit word of a Trolum instruction. -/
def encodeTrolum (i : Instr) : Option TWord :=
  match trolumParts i with
  | none => none
  | some (h, op, v) =>
    match trolumFields op (v.headD 0) with
    | none => none
    | some l =>
      some (BitVec.ofNat 128 (op * 2 ^ 120 + h.stage * 2 ^ 117 + h.unit * 2 ^ 112 + h.start * 2 ^ 96 + h.cslot * 2 ^ 92 +
        fieldsWrite l v))

end Machine

end Sys2Proof
end

