-- ==== Sys2Proof/Machine/State.lean ====
section
/-!
DEFINITION. The machine's state: everything the spec gives the DN7, by block, and the queue of waiting commands.
-/

namespace Sys2Proof.Machine

/-- The faults of the block. None is ever raised: every command has an effect, an error reply or an error flag. -/
inductive Fault where
  deriving DecidableEq, Repr

/-- Why a command is refused. -/
inductive Refusal where
  /-- A row of the command table that has no meaning yet. Safe: the model stops. -/
  | notModelled (mnemonic : String)
  deriving DecidableEq, Repr

/-- The machine. `regs` holds every register field written since reset, keyed by function, offset and lowest bit (a
field not listed holds its Reset value); `fresh` counts the free values drawn (assumption 2); `pending` is the queue of
commands that wait, first in, first out. -/
structure State where
  regs : List (Nat × Nat)
  data : DataPath
  seq : SeqState
  tier : TierState
  serve : ServeState
  sec : SecState
  fab : FabState
  twin : TwinState
  pwr : PwrState
  fw : FwState
  mod : ModState
  host : HostState
  tink : TinkState
  out : Outbox
  fresh : Nat
  pending : List Instr
  deriving DecidableEq, Repr

/-- The machine at the end of cast-on (R7, R594): every register at its Reset value, but that the PF is ACTIVE
(GLB_FN_STATE.STATE of function 0, key 4 × 32). -/
def State.reset : State :=
  { regs := [(128, 1)], data := DataPath.reset, seq := SeqState.reset, tier := TierState.reset, serve := ServeState.reset, sec := SecState.reset, fab := FabState.reset, twin := TwinState.reset, pwr := PwrState.reset,
    fw := FwState.reset, mod := ModState.reset, host := HostState.reset,
    tink := TinkState.reset, out := Outbox.empty, fresh := 0, pending := [] }

end Sys2Proof.Machine
end

