-- ==== Sys2Proof/Machine/Ops.lean ====
section
/-!
DEFINITION. The named operations that every block uses: register fields (R6, R7), error bits and their MSI-X vectors
(R510), free values, the Tink log (R448), completion entries, credit and notifications (R506 to R509), and the one
path of a mailbox request from its doorbell to its reply (R511 to R517).
-/

namespace Sys2Proof.Machine

/-- The outcome of every command: a next state. -/
abbrev Result := Host.Outcome State Fault Refusal

/-- Answer a next state. -/
abbrev ok (s : State) : Result := .next s

/-! ### Registers -/

/-- The key of a field of function `fn`'s registers. -/
def regKey (fn : Nat) (f : Fld) : Nat := (fn * 0x200000 + f.off) * 32 + f.lo

/-- The value of field `f` of function `fn`: its Reset value until something writes it (R7). -/
def State.getF (s : State) (fn : Nat) (f : Fld) : Nat := Store.getD s.regs (regKey fn f) f.rst

/-- Hardware writes field `f` of function `fn`. -/
def State.setF (s : State) (fn : Nat) (f : Fld) (v : Nat) : State :=
  { s with regs := Store.put s.regs (regKey fn f) (v % 2 ^ f.width) }

/-- The value of a field of the PF's registers. -/
def State.reg (s : State) (f : Fld) : Nat := s.getF 0 f

/-- Whether a one-bit field of the PF's registers is set. -/
def State.flag (s : State) (f : Fld) : Bool := s.reg f == 1

/-- Hardware writes a field of the PF's registers. -/
def State.set (s : State) (f : Fld) (v : Nat) : State := s.setF 0 f v

/-- A counter field advances by `n`, modulo its width (assumption 7). -/
def State.inc (s : State) (f : Fld) (n : Nat) : State := s.set f (s.reg f + n)

/-- R197, R286. A count advances by `n` and holds at 0xFFFF_FFFF. -/
def State.incHold (s : State) (f : Fld) (n : Nat) : State := s.set f (min (s.reg f + n) 0xFFFFFFFF)

/-- A counter in two registers, low then high, advances by `n`. -/
def State.inc2 (s : State) (lo hi : Fld) (n : Nat) : State :=
  let v := s.reg lo + 2 ^ 32 * s.reg hi + n
  (s.set lo v).set hi (v / 2 ^ 32)

/-- A peak register keeps the larger value. -/
def State.peak (s : State) (f : Fld) (v : Nat) : State := if s.reg f < v then s.set f v else s

/-- Set bits of a word-wide field. -/
def State.orBits (s : State) (f : Fld) (v : Nat) : State := s.set f (s.reg f ||| v)

/-- Clear bits of a word-wide field. -/
def State.clrBits (s : State) (f : Fld) (v : Nat) : State := s.set f (s.reg f &&& (2 ^ f.width - 1 - v % 2 ^ f.width))

/-- Field `f` with its offset moved by `k`: one register of an array of registers. -/
def Fld.at (f : Fld) (k : Nat) : Fld := { f with off := f.off + k }

/-! ### Free values and MSI-X -/

/-- A free value and the state that has drawn it (assumption 2). -/
def State.draw (s : State) : Nat × State := ((Config.freeValue s.fresh).toNat, { s with fresh := s.fresh + 1 })

/-- R510. An MSI-X message of function `fn` with vector `v`. -/
def State.msix (s : State) (fn v : Nat) : State := { s with out := { s.out with msix := s.out.msix ++ [(fn, v)] } }

/-- R510. Set error bit `f` of the PF; raise vector `v` when bit `i` of enable field `en` enables it. -/
def State.err (s : State) (f en : Fld) (i v : Nat) : State :=
  let s := s.set f 1
  if bit (s.reg en) i then s.msix 0 v else s

/-- R510. Set a GLB_FN_ERR bit of function `fn`, raising vector 2 when enabled. -/
def State.fnErr (s : State) (fn : Nat) (f : Fld) : State :=
  let s := s.setF fn f 1
  if bit (s.getF fn Reg.GLB_FN_INT_EN_EN) f.lo then s.msix fn 2 else s

/-- R503. A DMA of function `fn` fails. -/
def State.dmaFail (s : State) (fn : Nat) : State :=
  (s.fnErr fn Reg.GLB_FN_ERR_DMA_FAIL).err Reg.GLB_HOST_ERR_DMA_FAIL Reg.GLB_HOST_INT_EN_EN 1 2

/-- R578. A sample of the stitch marker of function number `fn` with STATUS field `status`: a crossing, when it is beyond
the threshold and the last sample was not, sets STATUS, counts (the counter holds at its top) and raises vector 11 when
INT_EN is set. -/
def State.sample (s : State) (fn : Nat) (status inten count : Fld) (isBeyond : Bool) : State :=
  let k := regKey fn status
  let was := s.pwr.beyond.contains k
  if isBeyond then
    if was then s
    else
      let s := { s with pwr := { s.pwr with beyond := s.pwr.beyond ++ [k] } }
      let s := (s.setF fn status 1).setF fn count (min (s.getF fn count + 1) 0xFFFFFFFF)
      if s.getF fn inten = 1 then s.msix 0 11 else s
  else if was then { s with pwr := { s.pwr with beyond := s.pwr.beyond.filter (· != k) } }
  else s

/-! ### Rows and the Tink log -/

/-- R81. The row number. -/
def State.row (s : State) : Nat := s.reg Reg.SEQ_ROW_LO_ROW_LO + 2 ^ 32 * s.reg Reg.SEQ_ROW_HI_ROW_HI

/-- R81. The step number. -/
def State.stepNo (s : State) : Nat := s.reg Reg.SEQ_STEP_LO_STEP_LO + 2 ^ 32 * s.reg Reg.SEQ_STEP_HI_STEP_HI

/-- R448. Write a Tink entry at cycle `cycle` of the running row, 0xFFFF when no row runs. -/
def State.tinkAt (s : State) (cycle code fn : Nat) (args : List Byte) : State :=
  let e : TinkEntry :=
    ⟨s.row, if s.seq.active then cycle % 2 ^ 16 else 0xFFFF, code, fn, s.tink.nextSeq,
     (args ++ List.replicate 16 0).take 16⟩
  let r := s.tink.ring ++ [e]
  let t := { s.tink with ring := r.drop (r.length - 16384), nextSeq := (s.tink.nextSeq + 1) % 2 ^ 32 }
  { s with tink := t }.set Reg.TNK_SEQ_ENTRY_SEQ e.seq

/-- R448. Write a Tink entry whose cycle the event does not show: a free value (R78, assumption 2). -/
def State.tinkLog (s : State) (code fn : Nat) (args : List Byte) : State :=
  let d := s.draw
  d.2.tinkAt d.1 code fn args

/-- R448. Write a Tink entry whose block the manual gives and whose event number it does not: a free value. -/
def State.tinkOpen (s : State) (block fn : Nat) (args : List Byte) : State :=
  let d := s.draw
  d.2.tinkLog (256 * block + d.1 % 256) fn args

/-- R448. FUNCTION of an entry that concerns none. -/
def noFn : Nat := 0xFFFF

/-- R451. Start a flush of the whole ring. -/
def State.startFlush (s : State) : State :=
  { s with tink := { s.tink with flushing := true } }.set Reg.TNK_STATUS_FLUSHING 1

/-- R452. A freeze copies the ring into a free frozen slot, or overwrites none and is counted. -/
def State.freeze (s : State) : State :=
  match (List.range 4).find? (fun i => (Store.get? s.tink.frozen i).isNone) with
  | some i =>
    { s with tink := { s.tink with frozen := Store.put s.tink.frozen i s.tink.ring, freezing := some i } }.set
      Reg.TNK_CTRL_FREEZE 1
  | none => (s.set Reg.TNK_STATUS_FREEZE_FULL 1).inc Reg.TNK_FREEZE_LOST_LOST 1

/-! ### Completion entries -/

/-- Entries of function `fn`'s completion queue. -/
def State.cqSize (s : State) (fn : Nat) : Nat := s.getF fn Reg.HQ_CQ_CFG_SIZE + 1

/-- R508. Entries written and not yet freed by a head doorbell. -/
def State.cqUsed (s : State) (fn : Nat) : Nat :=
  let n := s.cqSize fn
  (s.getF fn Reg.HQ_CQ_TAIL_TAIL + n - s.getF fn Reg.HQ_CQ_HEAD_HEAD % n) % n

/-- R504. Register `f` of submission queue `n`. -/
def sqReg (f : Fld) (n : Nat) : Fld := f.at (0x20 * n)

/-- R509. Count a written entry toward the completion vector. -/
def State.coalesce (s : State) (fn : Nat) : State :=
  let k := Store.getD s.host.coalesced fn 0 + 1
  if k ≥ s.getF fn Reg.HQ_CQ_COALESCE_COUNT then
    { s with host := { s.host with coalesced := Store.erase s.host.coalesced fn } }.msix fn 0
  else { s with host := { s.host with coalesced := Store.put s.host.coalesced fn k } }

/-! ### Host writes and the dirty-page log -/

/-- R494. Set SEC_ERR bit `f`, raising vector 8 when enabled. -/
def State.secErr (s : State) (f : Fld) : State := s.err f Reg.SEC_INT_EN_EN f.lo 8

/-- R489. A VF's dirty-page log takes the page of a host address that its DMA writes, once an epoch. -/
def State.logPage (s : State) (fn addr : Nat) : State :=
  let page := addr / 4096
  let seen := Store.getD s.sec.filters fn []
  if fn = 0 ∨ s.getF fn Reg.SEC_DPL_CTL_EN = 0 ∨ s.getF fn Reg.SEC_DPL_CTL_OVERFLOW = 1 ∨ seen.contains page then s
  else
    let size := 2 ^ s.getF fn Reg.SEC_DPL_RING_SIZE_LOG2
    let tail := s.getF fn Reg.SEC_DPL_TAIL_TAIL
    let next := (tail + 1) % size
    if next = s.getF fn Reg.SEC_DPL_HEAD_HEAD then
      ((s.setF fn Reg.SEC_DPL_CTL_OVERFLOW 1).secErr Reg.SEC_ERR_DPL_OVERFLOW).tinkLog 0x0B09 fn []
    else
      let base := s.getF fn Reg.SEC_DPL_RING_LO_BASE_LO * 4096 + s.getF fn Reg.SEC_DPL_RING_HI_BASE_HI * 2 ^ 32
      let s := { s with
        out := { s.out with hostWrites := s.out.hostWrites ++ [(0, base + 8 * tail, leBytes (page * 4096) 8)] }
        sec := { s.sec with filters := Store.put s.sec.filters fn ((page :: seen).take 4096) } }
      (s.setF fn Reg.SEC_DPL_TAIL_TAIL next).setF fn Reg.SEC_DPL_PAGES_COUNT (s.getF fn Reg.SEC_DPL_PAGES_COUNT + 1)

/-- A DMA write of function `fn` to host memory, logged page by page (R489). -/
def State.hostWrite (s : State) (fn addr : Nat) (l : List Byte) : State :=
  let pages := (List.range (ceilDiv (addr % 4096 + l.length) 4096)).map (fun i => addr / 4096 * 4096 + 4096 * i)
  let s := pages.foldl (fun s a => s.logPage fn a) s
  { s with out := { s.out with hostWrites := s.out.hostWrites ++ [(fn, addr, l)] } }

/-- R507. Write one completion entry at the tail. -/
def State.putEntry (s : State) (fn : Nat) (kind : CKind) (status : Status) (sq : Nat) (counted : Bool)
    (body : List Byte) : State :=
  let tail := s.getF fn Reg.HQ_CQ_TAIL_TAIL
  let phase := s.getF fn Reg.HQ_CQ_TAIL_PHASE
  let last := tail + 1 ≥ s.cqSize fn
  let own := kind == .reply || kind == .note
  let c : Completion :=
    ⟨fn, tail, kind, phase, status, if own then 0 else sq,
     if own then 0 else s.getF fn (sqReg Reg.HQ_SQ0_HEAD_HEAD sq), (body ++ List.replicate 56 0).take 56⟩
  let base := s.getF fn Reg.HQ_CQ_BASE_LO_BASE_LO * 64 + s.getF fn Reg.HQ_CQ_BASE_HI_BASE_HI * 2 ^ 32
  let s := s.logPage fn (base + 64 * tail)
  let s := { s with out := { s.out with completions := s.out.completions ++ [c] } }
  let s := (s.setF fn Reg.HQ_CQ_TAIL_TAIL (if last then 0 else tail + 1)).setF fn Reg.HQ_CQ_TAIL_PHASE
    (if last then 1 - phase else phase)
  if counted then s.coalesce fn else s

/-- R506, R507, R490. A completion entry for function `fn`; `sq` is the queue that caused it and `counted` whether it
counts toward the completion vector (R509). It is held while the VF's STOP is set. Nothing is written while the queue's
EN is clear (assumption 8). -/
def State.post (s : State) (fn : Nat) (kind : CKind) (status : Status) (sq : Nat) (counted : Bool) (body : List Byte) :
    State :=
  if s.getF fn Reg.HQ_CQ_CFG_EN = 0 then s
  else if s.getF fn Reg.SEC_DPL_CTL_STOP = 1 then
    { s with sec := { s.sec with held := s.sec.held ++ [⟨fn, kind, status, sq, counted, body⟩] } }
  else s.putEntry fn kind status sq counted body

/-- R125, R122. The 8 bytes of a conflict report. -/
def Conflict.bytes (c : Conflict) : List Byte := leBytes (c.kind + 2 ^ 8 * (c.found % 256) + 2 ^ 16 * c.object) 8

/-- R506. A COMMAND entry for descriptor `d`. It counts toward the vector when IRQ is set (R509). -/
def State.postCommand (s : State) (d : Descriptor) (sq : Nat) (status : Status) (report : List Byte) (cause : Nat) :
    State :=
  s.post d.fn .command status sq (bit d.flags 0)
    (leBytes d.commandId 8 ++ (report ++ List.replicate 8 0).take 8 ++ leBytes cause 1)

/-- R508. The notifications of function `fn` that wait for room. -/
def State.notesOf (s : State) (fn : Nat) : List (Nat × Nat × List Byte) := s.host.notes.filter (fun n => n.1 == fn)

/-- R508. Show the number of notifications waiting. -/
def State.showNotes (s : State) (fn : Nat) : State := s.setF fn Reg.HQ_NOTES_WAIT_WAIT (s.notesOf fn).length

/-- R506. Bytes 8 to 63 of a NOTE entry. -/
def noteBody (type : Nat) (payload : List Byte) : List Byte := leBytes type 2 ++ List.replicate 6 0 ++ payload

/-- R508, R519. Send a notification: written at once when an entry is free, else kept among 64, else lost. -/
def State.note (s : State) (fn type : Nat) (payload : List Byte) : State :=
  if s.cqUsed fn + 1 < s.cqSize fn then s.post fn .note .ok 0 true (noteBody type payload)
  else if (s.notesOf fn).length < 64 then
    { s with host := { s.host with notes := s.host.notes ++ [(fn, type, payload)] } }.showNotes fn
  else (s.inc Reg.MBX_NOTES_LOST_COUNT 1).fnErr fn Reg.GLB_FN_ERR_NOTE_LOST

/-- R508. The entries owed to function `fn`. -/
def State.owed (s : State) (fn : Nat) : Nat :=
  let mine (r : Roster) : Nat := (r.entries.filter (fun e => e.fn == fn)).length
  ((s.serve.ready.map (fun r => 2 * mine r.2)).foldl (· + ·) 0) +
  (s.data.cmds.filter (fun c => c.2.desc.fn == fn && !c.2.committed && !c.2.step)).length +
  (s.tier.moves.filter (fun m => m.fn == fn && m.desc.notify)).length +
  s.getF fn Reg.MBX_STATUS_ASYNC_OUT

/-- R508. The completion credit of function `fn`. -/
def State.credit (s : State) (fn : Nat) : Int :=
  (s.cqSize fn : Int) - 1 - s.cqUsed fn - s.owed fn

/-! ### Mailboxes -/

/-- What a message's own rules answer once it is admitted: done, with the reply's payload; refused, with the state (eviction may have
started) and the reply's payload; in conflict with the state found (R125); or admitted with the final reply still to come. -/
inductive MailRes where
  | done (s : State) (payload : List Byte)
  | fail (s : State) (status : Status) (payload : List Byte)
  | conflict (c : Conflict)
  | later (s : State)
  deriving DecidableEq, Repr

/-- What a message type demands: its type, the least minor version (R513), whether its final reply can exceed 48 bytes
(R517), the length of its layout, the range checks (its reserved fields among them), the sender check, and its own rules. -/
structure MailSpec where
  type : Nat
  minMinor : Nat
  longReply : Bool
  size : Nat
  args : State → Bool
  sender : State → Bool
  body : Ticket → State → MailRes

/-- R122. The handle of a precondition's object, as a Tensor Table key and generation. -/
def State.tensor? (s : State) (h : Handle) : Option Tensor :=
  match Store.get? s.tier.tt (ttKey h.fn h.idx) with
  | some t => if t.gen = h.gen then some t else none
  | none => none

/-- R122. The binding MODE of a motif. -/
def State.motifMode (s : State) (h : Handle) : Nat :=
  match Store.get? s.tier.motifs (ttKey h.fn h.idx) with
  | some m => match m.state with
    | .serving => 1
    | .training => 2
    | _ => 0
  | none => 0

/-- R122. The state that a precondition's object is found in. -/
def State.preFound (s : State) (p : Precond) : Nat :=
  match p.kind with
  | 1 => s.motifMode (Handle.ofNat p.object)
  | 2 => if (s.tensor? (Handle.ofNat p.object)).isSome then 0 else 1
  | 3 => s.reg Reg.PWR_STATE_STATE
  | 4 => s.reg Reg.SEQ_STATUS_STATE
  | 5 => s.getF p.object Reg.GLB_FN_STATE_STATE
  | _ => 0

/-- R122. A precondition that is well formed: a known KIND, reserved bits zero, and no object where KIND takes none. -/
def Precond.wf (p : Precond) : Bool :=
  p.kind < 6 && p.rsvd == 0 && (p.kind != 0 || (p.expected == 0 && p.object == 0)) &&
    ((p.kind != 3 && p.kind != 4) || p.object == 0)

/-- R122, R125. The conflict of a precondition that does not hold. -/
def State.preConflict (s : State) (p : Precond) : Option Conflict :=
  if p.kind = 0 ∨ s.preFound p = p.expected then none else some ⟨p.kind, s.preFound p, p.object⟩

/-- R511, R517. The final reply of a request: in the mailbox page, or as a REPLY entry when it was ASYNC. The reply of a
request whose page a reset has taken back is discarded (R511). -/
def State.reply (s : State) (t : Ticket) (status : Status) (payload : List Byte) : State :=
  if !s.host.tickets.contains t then s
  else
  let s := s.inc Reg.MBX_HANDLED_COUNT 1
  let s := if status = .ok then s else s.inc Reg.MBX_REFUSED_COUNT 1
  let s := { s with host := { s.host with tickets := s.host.tickets.erase t } }
  if t.isAsync then
    (s.setF t.fn Reg.MBX_STATUS_ASYNC_OUT (s.getF t.fn Reg.MBX_STATUS_ASYNC_OUT - 1)).post t.fn .reply status 0 true
      (leBytes t.seq 4 ++ leBytes t.type 2 ++ leBytes t.minor 1 ++ leBytes 3 1 ++ payload)
  else
    let r : Reply := ⟨t.fn, t.type, t.seq, t.minor, status, false, false, payload⟩
    (({ s with out := { s.out with replies := s.out.replies ++ [r] } }.setF t.fn Reg.MBX_STATUS_BUSY 0).setF t.fn
      Reg.MBX_STATUS_DONE 1).msix t.fn 1

/-- R511. A reply placed in the page at admission: every refusal, and PENDING for an ASYNC request (R517). -/
def State.pageReply (s : State) (t : Ticket) (status : Status) (isPending : Bool) (payload : List Byte) : State :=
  let s := if isPending then s else
    let s := s.inc Reg.MBX_HANDLED_COUNT 1
    if status = .ok then s else s.inc Reg.MBX_REFUSED_COUNT 1
  let r : Reply := ⟨t.fn, t.type, t.seq, t.minor, status, t.isAsync, isPending, payload⟩
  (({ s with out := { s.out with replies := s.out.replies ++ [r] } }.setF t.fn Reg.MBX_STATUS_BUSY 0).setF t.fn
    Reg.MBX_STATUS_DONE 1).msix t.fn 1

/-- R516. Whether a type carries PRECOND in payload bytes 0 to 7; its precondition. -/
def MailSpec.precond (m : MailSpec) (h : Mail) : Precond :=
  if 0x0101 ≤ m.type ∧ m.type ≤ 0x07FF then Precond.ofNat (h.u 0 8) else Precond.none

/-- R513, R121, R516, R517. The checks that come before a message's own rules, in R121's order: `none` when all pass. -/
def MailSpec.refusal (m : MailSpec) (h : Mail) (s : State) : Option (Status × List Byte) :=
  let isAsync := bit h.flags 1
  let excess := (h.payload.drop m.size).any (· != 0)
  if h.major ≠ 3 ∨ h.minor < m.minMinor ∨ (excess ∧ h.minor > 1) then some (.badVersion, [])
  else if h.payload.length < m.size ∨ excess ∨ h.status ≠ 0 ∨ clearBit h.flags 1 ≠ 0 ∨ !(m.precond h).wf ∨ !m.args s ∨
      (isAsync ∧ m.longReply) then some (.badArg, [])
  else if !m.sender s then some (.denied, [])
  else
    match s.preConflict (m.precond h) with
    | some c => some (.stateConflict, c.bytes)
    | none => if isAsync ∧ s.getF h.fn Reg.MBX_STATUS_ASYNC_OUT ≥ 16 then some (.busyRetry, []) else none

/-- R513. The minor version of a reply: 1 when the request's major version is not 3, else the layout's. -/
def replyMinor (h : Mail) : Nat := if h.major ≠ 3 then 1 else min h.minor 1

/-! ### Power states and what bars a message -/

/-- R564, R568. Whether the module sleeps, or a transition between power states runs. -/
def State.asleep (s : State) : Bool :=
  2 ≤ s.reg Reg.PWR_STATE_STATE || s.flag Reg.PWR_STATE_ENTERING || s.flag Reg.PWR_STATE_EXITING

/-- R567, R568. A wake event: it starts the exit to IDLE, or is latched while an entry runs. -/
def State.wake (s : State) : State :=
  let st := s.reg Reg.PWR_STATE_STATE
  if s.flag Reg.PWR_STATE_ENTERING then
    { s with pwr := { s.pwr with wake := true } }.set Reg.PWR_STATE_WAKE_LATCHED 1
  else if 2 ≤ st ∧ !s.flag Reg.PWR_STATE_EXITING then
    { s with pwr := { s.pwr with transition := some ⟨st, 1, none, true⟩ } }.set Reg.PWR_STATE_EXITING 1
  else s

/-- R567. A doorbell of function `fn` is a wake event: not while it is PREEMPTED or DISABLED, and in STORE only the PF's
mailbox. -/
def State.wakeBy (s : State) (fn : Nat) (mailbox : Bool) : State :=
  if s.getF fn Reg.GLB_FN_STATE_STATE = 1 ∧ (s.reg Reg.PWR_STATE_STATE ≠ 4 ∨ (fn = 0 ∧ mailbox)) then s.wake else s

/-- R426, R427, R436. What a twin set's state bars for function `fn`: everything on a FENCED module, work of functions other
than the PF on a mirror. -/
def State.twinBars (s : State) (fn : Nat) : Option Conflict :=
  let st := s.reg Reg.TWN_STATE_STATE
  if st = 4 then some ⟨0, 4, 0⟩
  else if fn ≠ 0 ∧ s.reg Reg.TWN_STATE_ROLE = 2 ∧ (st = 1 ∨ st = 2) then some ⟨3, 0xFF, 0⟩
  else none

/-- R427. The messages that change no state. -/
def isQuery (type : Nat) : Bool :=
  [0x0101, 0x0203, 0x0208, 0x0304, 0x0313, 0x0323, 0x0405, 0x0411, 0x0415, 0x0505, 0x0522, 0x0532, 0x0604, 0x0701].contains type

/-- What becomes of a request before its own message is looked at. -/
inductive Gate where
  | open'
  | wait (s : State)
  | refuse (st : Status) (payload : List Byte)
  deriving DecidableEq, Repr

/-- R466, R482, R488, R523, R539, R541, R567, R590, R598, R426, R427. A request waits while the mailbox service does not run, before the
retained settings are applied, while its function is being reset and while the module sleeps (its SEND wakes it); what a bind-off or a twin set bars is refused, and BUSY_RETRY
answers while the mailbox service is restarting.
POWER_STATE and BIND_OFF see to transitions themselves (R569, R597). -/
def State.mailGate (s : State) (fn type : Nat) : Gate :=
  if s.mod.off ∨ s.flag Reg.GLB_FW_STATUS_RESETTING then .wait s
  else if bit (s.reg Reg.GLB_FW_STATUS_FAILED) 2 then .refuse .busyRetry []
  else if s.flag Reg.GLB_STATUS_RECOVERY then if type = 0x0601 then .refuse .faulted [] else .wait s
  else if s.reg Reg.GLB_STATUS_READY = 0 then if type = 0x0601 then .refuse .busyRetry [] else .wait s
  else if type = 0x0607 then .open'
  else if (Store.get? s.sec.resets fn).isSome then .wait s
  else if s.reg Reg.GLB_CASTON_APPLIED = 0 then .wait s
  else if s.reg Reg.GLB_CASTON_MODE ≠ 0 ∧ type ≠ 0x0101 ∧ type ≠ 0x0701 ∧ type ≠ 0x0105 then
    .refuse .stateConflict (Conflict.bytes ⟨0, s.reg Reg.GLB_CASTON_MODE, 0⟩)
  else if s.asleep ∧ type ≠ 0x0103 ∧ !(type = 0x0105 ∧ s.pwr.transition.isSome) then .wait (s.wakeBy fn true)
  else
    match s.twinBars fn with
    | some c => if isQuery type || type == 0x0105 || type == 0x0524 || type == 0x0521 then .open' else .refuse .stateConflict c.bytes
    | none => .open'

/-- R511. One mailbox request, from SEND to its reply. A SEND while BUSY is ignored and flagged. An ASYNC request that
would take the completion credit below 16 waits: the page is not taken (R508, assumption 9). -/
def State.mail (s : State) (h : Mail) (m : MailSpec) : State :=
  if s.getF h.fn Reg.MBX_STATUS_BUSY = 1 then s.fnErr h.fn Reg.GLB_FN_ERR_MBX_DOORBELL
  else
    let t : Ticket := ⟨h.fn, m.type, h.seq, replyMinor h, bit h.flags 1⟩
    match s.mailGate h.fn m.type, m.refusal h s with
    | .wait s, _ => s
    | .refuse st p, _ => s.pageReply t st false p
    | .open', some r => s.pageReply t r.1 false r.2
    | .open', none =>
      if t.isAsync ∧ s.credit h.fn ≤ 16 then s
      else
        let owed (s : State) : State := { s with host := { s.host with tickets := s.host.tickets ++ [t] } }
        let begin' (s : State) : State :=
          (s.setF h.fn Reg.MBX_STATUS_ASYNC_OUT (s.getF h.fn Reg.MBX_STATUS_ASYNC_OUT + 1)).pageReply t .ok true []
        match m.body t s with
        | .done s p => if t.isAsync then (owed (begin' s)).reply t .ok p else s.pageReply t .ok false p
        | .fail s st p => s.pageReply t st false p
        | .conflict c => s.pageReply t .stateConflict false c.bytes
        | .later s =>
          let s := owed s
          if t.isAsync then begin' s
          else s.setF h.fn Reg.MBX_STATUS_BUSY 1

/-- R539, R541, R552. Whether the Pattern Builder runs: it is not restarting, its cores are not halted, and the complex is not
held in reset. -/
def State.builderUp (s : State) : Bool :=
  !bit (s.reg Reg.GLB_FW_STATUS_FAILED) 3 && s.reg Reg.GLB_FW_STATUS_HALTED &&& 6 == 0 &&
    !s.flag Reg.GLB_FW_STATUS_RESETTING && !s.fw.held

/-! ### Frames -/

/-- The function number under which the selected LNK_ registers of link `l` are kept. -/
def linkFn (l : Nat) : Nat := 2000 + l

/-- Link `l` besides its registers. -/
def State.link (s : State) (l : Nat) : LinkCtl := Store.getD s.fab.links l LinkCtl.empty

/-- Record link `l`. -/
def State.setLink (s : State) (l : Nat) (c : LinkCtl) : State :=
  { s with fab := { s.fab with links := Store.put s.fab.links l c } }

/-- R401, R424. LNK_STATE.STATE of link `l`. -/
def State.linkSt (s : State) (l : Nat) : Nat := s.getF (linkFn l) Reg.LNK_STATE_STATE

/-- R401. Whether link `l` is UP. -/
def State.linkUp (s : State) (l : Nat) : Bool := s.linkSt l == 3

/-- R391. Whether link `l` is UP at full width and rate. -/
def State.linkFull (s : State) (l : Nat) : Bool := s.linkUp l && s.getF (linkFn l) Reg.LNK_STATE_FULL == 1

/-- R391, R396, R401, R404. Whether a link takes a frame: an UP link every one, a degraded link bulk streams and link
management, a link that retrains what does not come from a pattern (it leaves when the retrain ends). -/
def State.linkTakes (s : State) (l : Nat) (f : Frame) : Bool :=
  s.linkFull l || (s.linkUp l && f.onDegraded) || (s.linkSt l == 4 && !f.ofPattern)

/-- Put a frame on a seam link. R399, R424: COUNTER and the payload lines sent advance; how many lines of a context block
changed is not shown (assumption 2). -/
def State.send (s : State) (link : Nat) (f : Frame) : State :=
  if !s.linkTakes link f then s
  else
    let d := s.draw
    let n := f.payload.getD d.1
    let s := if f.payload.isNone then d.2 else s
    let c := s.link link
    let k := c.frames + max 1 (ceilDiv n 8)
    let s := (s.setLink link { c with frames := k }).setF (linkFn link) Reg.LNK_KEY_AGE_FRAMES (k / 2 ^ 20)
    let tx := s.getF (linkFn link) Reg.LNK_TX_LO_TX_LO + 2 ^ 32 * s.getF (linkFn link) Reg.LNK_TX_HI_TX_HI + n
    let s := (s.setF (linkFn link) Reg.LNK_TX_LO_TX_LO tx).setF (linkFn link) Reg.LNK_TX_HI_TX_HI (tx / 2 ^ 32)
    { s with out := { s.out with frames := s.out.frames ++ [(link, f)] } }

/-- Put a frame on every link of a mask, lowest link first. -/
def State.sendAll (s : State) (mask : Nat) (f : Frame) : State :=
  (setBits mask 16).foldl (fun s l => s.send l f) s

/-- R39, R45, R409. Send one token on each link of a mask: row-done, or row-fault with the SEQ_FAULT bit of its cause. -/
def State.sendTokens (s : State) (mask : Nat) (cause : Option Nat) : State :=
  (setBits mask 16).foldl (fun s l =>
    let c := s.link l
    let s := s.send l (match cause with | none => .rowDone c.ordTx | some b => .rowFault c.ordTx b)
    (s.setLink l { c with ordTx := (c.ordTx + 1) % 2 ^ 48 }).setF (linkFn l) Reg.LNK_TOKEN_TX_ORD_TX c.ordTx) s

/-! ### Mirroring -/

/-- R426. Whether this module is the primary of a set whose commits are mirrored. -/
def State.mirrors (s : State) : Bool :=
  s.reg Reg.TWN_STATE_ROLE == 1 && (s.reg Reg.TWN_STATE_STATE == 1 || s.reg Reg.TWN_STATE_STATE == 2)

/-- R431. Whether completions wait for the mirror. -/
def State.waitsForMirror (s : State) : Bool := s.reg Reg.TWN_STATE_ROLE == 1 && s.reg Reg.TWN_STATE_STATE == 2

/-- Put a twin frame on the lowest twin link (assumption 12). -/
def State.sendTwin (s : State) (f : Frame) : State :=
  match setBits (s.reg Reg.TWN_LINKS_TWIN) 16 with
  | l :: _ => s.send l f
  | [] => s

/-- R429. Mirror a change: it takes the next MSEQ. -/
def State.mirror (s : State) (f : Nat → Frame) : State :=
  if s.mirrors then
    let m := (s.reg Reg.TWN_MSEQ_SENT_MSEQ + 1) % 2 ^ 32
    (s.sendTwin (f m)).set Reg.TWN_MSEQ_SENT_MSEQ m
  else s

/-- R428. What is mirrored of a Tensor Table entry. -/
def Tensor.mirrored (t : Tensor) : Tensor :=
  { t with loc := 0, home := 0, lastUse := 0, dirtyRow := 0, dirty := false, homeSet := false }

/-- R428. Mirror a change of the Tensor Table entry at a key. -/
def State.mirrorEntry (s : State) (k : Nat) (t : Option Tensor) : State :=
  if s.mirrors && (Store.get? s.tier.tt k).map Tensor.mirrored != t.map Tensor.mirrored then
    s.mirror (fun m => .twinTable m (k / 2 ^ 24) (k % 2 ^ 24) t)
  else s

/-- R431, R506. A completion entry that a commit releases: while the set is TWINNED it waits for the ACK of MSEQ `m`. -/
def State.postAt (s : State) (m fn : Nat) (kind : CKind) (status : Status) (sq : Nat) (counted : Bool)
    (body : List Byte) : State :=
  if s.waitsForMirror then
    { s with twin := { s.twin with waiting := s.twin.waiting ++ [(m, ⟨fn, kind, status, sq, counted, body⟩)] } }
  else s.post fn kind status sq counted body

end Sys2Proof.Machine
end

