-- ==== Sys2Proof/Machine/TierOps.lean ====
section
/-!
DEFINITION. Tensors and their space: near-tier lines, Tensor Table entries and generations (R324, R328, R329), quotas
(R345, R346), the Region Table and near-tier allocation (R322, R458, R459), release and zero-fill (R349), deep extents,
eviction (R347, R348), and the registers that report free space (R364).
-/

namespace Sys2Proof.Machine

/-- The near-tier line `a` (256 bytes from `256 × a`). -/
def State.nearLine (s : State) (a : Nat) : LineData := lineOfBytes (Memory.readBytes s.tier.near (256 * a) 256)

/-- Write near-tier lines from line address `a` on. -/
def State.writeNear (s : State) (a : Nat) (l : List LineData) : State :=
  { s with tier := { s.tier with near := Memory.writeBytes s.tier.near (256 * a) (l.flatMap bytesOfLine) } }

/-- The Tensor Table key of a tensor. -/
def Tensor.key (t : Tensor) : Nat := ttKey t.fn t.idx

/-- The current handle of a tensor. -/
def Tensor.handle (t : Tensor) : Handle := ⟨t.fn, t.gen, t.idx⟩

/-- Record a Tensor Table entry. -/
def State.putTensor (s : State) (t : Tensor) : State :=
  { s with tier := { s.tier with tt := Store.put s.tier.tt t.key t } }

/-- Record a Tensor Table entry, mirroring the change (R428). -/
def State.setTensor (s : State) (t : Tensor) : State := (s.mirrorEntry t.key (some t)).putTensor t

/-- The Tensor Table entry at a key. -/
def State.entry (s : State) (k : Nat) : Option Tensor := Store.get? s.tier.tt k

/-- Change the Tensor Table entry at a key, if there is one. -/
def State.mapTensor (s : State) (k : Nat) (f : Tensor → Tensor) : State :=
  match s.entry k with
  | some t => s.setTensor (f t)
  | none => s

/-- R324. LAST_USE becomes this row. -/
def State.touch (s : State) (t : Tensor) : State := s.setTensor { t with lastUse := s.row }

/-- R328. The generation after `g`. -/
def nextGen (g : Nat) : Nat := if g ≥ 0x1FFF then 1 else g + 1

/-- R327. The linked scale tensor of a data tensor, or the data tensor of a scale tensor. -/
def State.scaleOf (s : State) (t : Tensor) : Option Tensor :=
  if t.scaleLink = 0 then none else s.entry (ttKey t.fn t.scaleLink)

/-- R327. A tensor with its linked one, the data tensor first. -/
def State.pair (s : State) (t : Tensor) : List Tensor :=
  match s.scaleOf t with
  | none => [t]
  | some u => if t.kind = .scale then [u, t] else [t, u]

/-- R322. 4 KiB units of a near or borrowed allocation. -/
def Tensor.units (t : Tensor) : Nat := ceilDiv t.size 16

/-- R322. 256 KiB units of a deep allocation. -/
def Tensor.deepUnits (t : Tensor) : Nat := ceilDiv t.size 1024

/-! ### Quotas -/

/-- R345. The quotas of function `fn`. -/
def State.quota (s : State) (fn : Nat) : Quota := Store.getD s.tier.quotas fn Quota.zero

/-- R345. Change the quotas of function `fn`, and rewrite its snapshot. -/
def State.setQuota (s : State) (fn : Nat) (q : Quota) : State :=
  let ctx := match Store.get? s.tier.ctx fn with
    | some c => Store.put s.tier.ctx fn { c with snapshot := q, snapRow := s.row }
    | none => s.tier.ctx
  { s with tier := { s.tier with quotas := Store.put s.tier.quotas fn q, ctx := ctx } }

/-! ### Free space -/

/-- R627. Near-tier lines below the firmware data. -/
def nearTopLine : Nat := 0x47800000

/-- R81. First line and lines of Pattern Memory. -/
def State.patternMem (s : State) : Nat × Nat :=
  ((s.reg Reg.SEQ_PM_BASE_LO_BASE_LO + 2 ^ 20 * s.reg Reg.SEQ_PM_BASE_HI_BASE_HI) * 16, (s.reg Reg.SEQ_PM_SIZE_SIZE + 1) * 4096)

/-- Near-tier stretches in use or reserved: Pattern Memory, tensors, destinations of relocations, space awaiting
zero-fill, lent hanks, a mirror's copies of lifelines. -/
def State.nearBusy (s : State) : List (Nat × Nat) :=
  [s.patternMem] ++
  (s.tier.tt.filter (fun c => c.2.tier == .near)).map (fun c => (c.2.loc, 16 * c.2.units)) ++
  s.tier.moves.flatMap (fun m => (m.segs.filter (fun g => g.dstTier == .near)).map (fun g =>
    (g.dstLoc, 16 * ceilDiv g.lines 16))) ++
  s.tier.zeroPend.map (fun z => (z.1, z.2.1)) ++
  s.tier.lent.map (fun h => (h.2.base, 2 ^ 22)) ++
  s.twin.lifelines.flatMap (fun l => l.entries.filterMap (fun e => e.near.map (fun x => (x, 16 * ceilDiv e.size 16))))

/-- Whether two stretches of lines overlap. -/
def overlaps (a b : Nat × Nat) : Bool := a.1 < b.1 + b.2 && b.1 < a.1 + a.2

/-- R458. The frame of a near-tier line. -/
def frameOf (line : Nat) : Nat := line / 256

/-- R458, R627. The tag of a frame: Pattern Memory and the firmware data are ASSIGNED, OPEN, to the PF; a frame with no
tag listed is FREE. -/
def State.region (s : State) (frame : Nat) : Region :=
  let pm := s.patternMem
  if 256 * frame ≥ nearTopLine ∨ (pm.1 ≤ 256 * frame ∧ 256 * frame < pm.1 + pm.2) then ⟨0, 0, 1, false⟩
  else Store.getD s.tier.regions frame ⟨0, 0, 0, false⟩

/-- R459. Whether lines may be allotted in a stretch to an owner and class: FREE frames that no request holds, or
ASSIGNED frames of the same owner and class. -/
def State.framesOk (s : State) (owner cls : Nat) (r : Nat × Nat) : Bool :=
  s.tier.regions.all (fun c =>
    c.1 < frameOf r.1 || frameOf (r.1 + r.2 - 1) < c.1 ||
      (!c.2.hold && (c.2.state == 0 || (c.2.state == 1 && c.2.owner == owner && c.2.cls == cls))))

/-- The lowest place for `units` 4 KiB units of an owner and class. Which free place is taken is a design choice
(assumption 11). -/
def State.nearFit (s : State) (owner cls units : Nat) : Option Nat :=
  let busy := s.nearBusy
  let n := 16 * units
  let ends := busy.map (fun b => 16 * ceilDiv (b.1 + b.2) 16) ++ s.tier.regions.map (fun c => 256 * (c.1 + 1))
  let cands := 0 :: ends ++ ends.map (fun e => 256 * ceilDiv e 256)
  let good (c : Nat) : Bool :=
    c + n ≤ nearTopLine && busy.all (fun b => !overlaps (c, n) b) && s.framesOk owner cls (c, n)
  (cands.filter good).foldl (fun (a : Option Nat) c => match a with
    | none => some c
    | some b => some (min b c)) none

/-- R459. Assign the frames of a stretch. -/
def State.assignFrames (s : State) (owner cls loc n : Nat) : State :=
  let fs := (List.range (frameOf (loc + n - 1) - frameOf loc + 1)).map (frameOf loc + ·)
  { s with tier := { s.tier with
    regions := fs.foldl (fun m f => Store.put m f ⟨owner, cls, 1, false⟩) s.tier.regions } }

/-- Near-tier lines that tensors may take: the tensor space less Pattern Memory and lent hanks. -/
def State.nearAvail (s : State) : Nat := nearTopLine - s.patternMem.2 - s.tier.lent.length * 2 ^ 22

/-- Near-tier lines in use or reserved for moves. -/
def State.nearUsed (s : State) : Nat :=
  (s.nearBusy.map (·.2)).foldl (· + ·) 0 - s.patternMem.2 - s.tier.lent.length * 2 ^ 22 -
    (s.tier.zeroPend.map (·.2.1)).foldl (· + ·) 0

/-- Lines awaiting zero-fill. -/
def State.nearPend (s : State) : Nat := (s.tier.zeroPend.map (·.2.1)).foldl (· + ·) 0

/-- Free and zero-filled lines. -/
def State.nearFree (s : State) : Nat := s.nearAvail - s.nearUsed - s.nearPend

/-- R340. Lines of dirty tensors. -/
def State.dirtyLines (s : State) : Nat :=
  ((s.tier.tt.filter (fun c => c.2.dirty)).map (·.2.size)).foldl (· + ·) 0

/-- R364, R365, R345. Show free space, moves and the dirty total, with the free-space stitch marker. -/
def State.showSpace (s : State) : State :=
  let free := s.nearFree / 4096
  let s := (s.set Reg.MOV_NEAR_AVAIL_MIB (s.nearAvail / 4096)).set Reg.MOV_NEAR_FREE_MIB free
  let s := s.set Reg.MOV_ZERO_PEND_MIB (ceilDiv s.nearPend 4096)
  let s := (s.set Reg.MOV_DEEP_FREE_MIB (s.tier.deepFree / 4)).set Reg.FTL_USED_MIB (3337860 - s.tier.deepFree / 4)
  let s := s.set Reg.MOV_DIRTY_BYTES_KIB (ceilDiv s.dirtyLines 4)
  let s := s.set Reg.MOV_STATUS_ACTIVE (s.tier.moves.filter (·.running)).length
  let s := s.set Reg.MOV_STATUS_QUEUED (s.tier.moves.filter (fun m => !m.running)).length
  let s := s.set Reg.MOV_LEND_STAT_LENT s.tier.lent.length
  let s := s.set Reg.MOV_LEND_STAT_BORROWED s.tier.borrowed.length
  let s := if free < s.reg Reg.MOV_NEAR_LOW_LOW_MIB then s.set Reg.MOV_NEAR_LOW_LOW_MIB free else s
  let t := 64 * s.reg Reg.MOV_NEAR_MARK_THRESH
  s.sample 0 Reg.MOV_NEAR_MARK_STATUS Reg.MOV_NEAR_MARK_INT_EN Reg.MOV_NEAR_CROSS_CROSSINGS (free < t)

/-! ### Release -/

/-- R349, R459. Near-tier units are released: they await zero-fill, and their frames go to ZEROING where nothing else
remains in them. -/
def State.releaseNear (s : State) (key loc units : Nat) : State :=
  let n := 16 * units
  let left := s.tier.tt.filter (fun c => c.2.tier == .near && c.1 != key)
  let fs := (List.range (frameOf (loc + n - 1) - frameOf loc + 1)).map (frameOf loc + ·)
  let empty := fs.filter (fun f => left.all (fun c => !overlaps (256 * f, 256) (c.2.loc, 16 * c.2.units)))
  { s with tier := { s.tier with
    zeroPend := s.tier.zeroPend ++ [(loc, n, key)]
    regions := empty.foldl (fun m f =>
      Store.modify m f ⟨0, 0, 0, false⟩ (fun r => { r with state := 2 })) s.tier.regions } }

/-- R349. A deep extent of `units` 256 KiB units is crypto-erased and trimmed; a home that a lifeline references is held until
the lifeline is dropped (R443). -/
def State.releaseDeep (s : State) (loc units : Nat) : State :=
  if s.twin.lifelines.any (fun l => l.entries.any (fun e => e.home == some loc)) then s
  else { s with tier := { s.tier with
    deep := Memory.zero s.tier.deep (4096 * loc) (units * 2 ^ 18)
    deepFree := s.tier.deepFree + units } }

/-- Allot a fresh deep extent of `units` 256 KiB units: its first logical unit of 4 KiB. -/
def State.takeDeep (s : State) (units : Nat) : Nat × State :=
  (s.tier.deepTop, { s with tier := { s.tier with deepTop := s.tier.deepTop + 64 * units,
                                                  deepFree := s.tier.deepFree - units } })

/-- R329. Tell a function that a tensor's handle changed without its request. -/
def State.noteMoved (s : State) (old new : Handle) : State :=
  s.note old.fn 0x0210 (leBytes old.toNat 8 ++ leBytes new.toNat 8)

/-- R349. Whether an admitted uncommitted command names a tensor. -/
def State.named (s : State) (k : Nat) : Bool :=
  s.data.cmds.any (fun c => !c.2.committed && !c.2.step &&
    ((c.2.desc.operands.any (fun o => ttKey o.handle.fn o.handle.idx == k && o.handle.idx != 0)) ||
      ttKey c.2.desc.code.fn c.2.desc.code.idx == k || ttKey c.2.desc.motif.fn c.2.desc.motif.idx == k))

/-- R349. A motif that is bound. -/
def State.boundMotif (s : State) (k : Nat) : Bool :=
  match Store.get? s.tier.motifs k with
  | some m => m.state == .serving || m.state == .training || m.state == .draining
  | none => false

/-- R68, R69. Whether a roster entry names a tensor. -/
def Roster.names (r : Roster) (k : Nat) : Bool :=
  r.entries.any (fun e => ttKey e.kv.fn e.kv.idx == k ||
    (r.swatchesOf e).any (fun h => ttKey h.fn h.idx == k))

/-- Whether a running or ready step names a tensor. -/
def State.inStep (s : State) (k : Nat) : Bool :=
  s.serve.ready.any (fun r => r.2.names k)

/-- R325. The link, hank and first line that a BORROWED LOCATION names. -/
def borrowedLoc (loc : Nat) : Nat × Nat × Nat := (bits loc 36 4, bits loc 27 9, bits loc 0 22)

/-- R355, R349. The directory entries of a borrowed tensor are cleared: its lender zero-fills the extent. -/
def State.freeBorrowed (s : State) (t : Tensor) : State :=
  let b := borrowedLoc t.loc
  let k := 512 * b.1 + b.2.1
  match Store.get? s.tier.borrowed k with
  | none => s
  | some x =>
    let here (e : Nat × Extent) : Bool := e.2.first == b.2.2
    let s := { s with tier := { s.tier with
      borrowed := Store.put s.tier.borrowed k { x with extents := x.extents.filter (fun e => !here e) } } }
    (x.extents.filter here).foldl (fun (s : State) (e : Nat × Extent) =>
      s.send b.1 (.hankDir b.2.1 e.1 false e.2.first e.2.count 0 0 0)) s

/-- R349, R327. Release one tensor: its generation increments and its quota counts fall at once, near space awaits
zero-fill, deep extents are crypto-erased. A borrowed extent is zero-filled by its lender. -/
def State.dropTensor (s : State) (t : Tensor) : State :=
  let k := t.key
  let q := s.quota t.fn
  let home := t.homeSet || t.tier == .deep
  let s := s.setQuota t.fn { q with
    nearUsed := q.nearUsed - (if t.tier = .near then t.units else 0)
    deepUsed := q.deepUsed - (if home then 64 * t.deepUnits else 0)
    borrowUsed := q.borrowUsed - (if t.tier = .borrowed then t.units else 0)
    tensorUsed := q.tensorUsed - 1
    motifUsed := q.motifUsed - (if t.tier = .near ∧ t.kind = .motif then 1 else 0)
    dirtyLines := q.dirtyLines - (if t.dirty then t.size else 0) }
  let s := s.mirrorEntry k none
  let s := { s with tier := { s.tier with
    tt := Store.erase s.tier.tt k
    gens := Store.put s.tier.gens k (nextGen t.gen)
    motifs := Store.erase s.tier.motifs k
    swatches := Store.erase s.tier.swatches k } }
  let s := if t.tier = .near then s.releaseNear k t.loc t.units else if t.tier = .borrowed then s.freeBorrowed t else s
  if home then s.releaseDeep (if t.tier = .deep then t.loc else t.home) t.deepUnits else s

/-- R349, R327. Release a tensor and its linked scale tensor. -/
def State.dropPair (s : State) (t : Tensor) : State :=
  ((s.pair t).foldl (fun s u => s.dropTensor u) s).showSpace

/-! ### Allocation -/

/-- R323. The index and generation of a new tensor: the lowest index of the function that no tensor and no held
extent has and whose last release has completed (assumption 11). -/
def State.freshIndex (s : State) (fn : Nat) : Nat × Nat :=
  let held := Store.getD s.mod.heldExt fn []
  let taken (i : Nat) : Bool := (s.entry (ttKey fn i)).isSome || s.tier.zeroPend.any (fun z => z.2.2 == ttKey fn i) ||
    held.any (fun t => t.idx == i)
  let n := s.tier.tt.length + s.tier.zeroPend.length + held.length + 1
  let i := (((List.range n).map (· + 1)).find? (fun i => !taken i)).getD n
  (i, Store.getD s.tier.gens (ttKey fn i) 1)

/-- R460. The class of a function's allocations: TENANT for a VF, OPEN for the PF. -/
def classOf (fn : Nat) : Nat := if fn = 0 then 0 else 1

/-- R351, R471. Whether the key that a tensor's deep extent would need is held; SEALED never leaves the near tier. -/
def State.deepKey (s : State) (fn keyIndex : Nat) : Bool :=
  match keyIndex with
  | 0 => true
  | 1 => (Store.get? s.sec.keys fn).isSome
  | k => 8 ≤ k && k < 16 && (Store.get? s.sec.baseKeys (k - 8)).isSome

/-- What an allocation answers: the state with the quota charged and the location, or a status and the reply's payload. -/
inductive AllocRes where
  | good (loc : Nat) (s : State)
  | refused (status : Status) (s : State) (payload : List Byte)
  deriving DecidableEq, Repr

/-- R347, R348. A tensor that eviction may choose: of a function above its reserve, not pinned, moving, incomplete, a
context block, bound, in use, or without the key its deep copy needs. -/
def State.victim (s : State) (t : Tensor) : Bool :=
  let q := s.quota t.fn
  t.tier == .near && !t.pinned && !t.moving && !t.incomplete && t.kind != .context && !s.boundMotif t.key &&
    !s.named t.key && !s.inStep t.key && s.deepKey t.fn t.keyIndex && t.kind != .scale &&
    q.nearUsed ≥ q.nearReserve + ((s.pair t).map Tensor.units).foldl (· + ·) 0

/-- R347. The order of eviction: clean homes first, then oldest LAST_USE. -/
def evictBefore (a b : Tensor) : Bool :=
  let ca := a.homeSet && !a.dirty
  let cb := b.homeSet && !b.dirty
  if ca != cb then ca else a.lastUse ≤ b.lastUse

/-- R347. Victims in order, until `need` units are freed; a function is never taken below its reserve. -/
def State.victims (s : State) (need : Nat) : List Tensor :=
  let all := sortBy ((s.tier.tt.map (·.2)).filter s.victim) evictBefore
  let sizeOf (t : Tensor) : Nat := ((s.pair t).map Tensor.units).foldl (· + ·) 0
  (all.foldl (fun (a : List Tensor × Nat × List (Nat × Nat)) t =>
    let spent := Store.getD a.2.2 t.fn 0
    let q := s.quota t.fn
    if a.2.1 ≥ need ∨ q.nearUsed < q.nearReserve + spent + sizeOf t then a
    else (a.1 ++ [t], a.2.1 + sizeOf t, Store.put a.2.2 t.fn (spent + sizeOf t))) ([], 0, [])).1

end Sys2Proof.Machine
end

