-- ==== Sys2Proof/Machine/MoveOps.lean ====
section
/-!
DEFINITION. The Move Engine (R108 to R113, R333 to R341): what a move checks, what it copies granule by granule, how it
converts, and what its end leaves.
-/

namespace Sys2Proof.Machine

/-! ### Sparse bytes -/

/-- The listed bytes of `n` bytes from `a` on, as offsets from `a`. -/
def Memory.cut (m : List Host.Cell) (a n : Nat) : List Host.Cell :=
  (m.filter (fun c => a ≤ c.1 && c.1 < a + n)).map (fun c => (c.1 - a, c.2))

/-- `m` with the `n` bytes from `a` on replaced by sparse bytes at offsets from `a`. -/
def Memory.paste (m : List Host.Cell) (a n : Nat) (cells : List Host.Cell) : List Host.Cell :=
  cells.foldl (fun m c => Memory.write m (a + c.1) c.2) (Memory.zero m a n)

/-- Lines as sparse bytes. -/
def cellsOf (l : List LineData) : List Host.Cell :=
  ((l.flatMap bytesOfLine).zipIdx.filter (fun p => p.1 != 0)).map (fun p => (p.2, p.1))

/-- The first byte of a location in a tier's own bytes (R325). -/
def byteBase (t : Tier) (loc : Nat) : Nat :=
  match t with
  | .near => 256 * loc
  | .deep => 4096 * loc
  | _ => 0

/-- `n` bytes from offset `off` of a location: from the tier, or the lines that came from outside. -/
def State.cellsAt (s : State) (t : Tier) (loc off n : Nat) (ext : List LineData) : List Host.Cell :=
  match t with
  | .near => Memory.cut s.tier.near (byteBase .near loc + off) n
  | .deep => Memory.cut s.tier.deep (byteBase .deep loc + off) n
  | _ => (cellsOf ext).filter (fun c => c.1 < n)

/-- Put `n` bytes at offset `off` of a location: in the tier, into the function's host buffer, or onto the lending link. -/
def State.putCells (s : State) (fn : Nat) (t : Tier) (loc off n : Nat) (cells : List Host.Cell) : State :=
  match t with
  | .near => { s with tier := { s.tier with near := Memory.paste s.tier.near (byteBase .near loc + off) n cells } }
  | .deep => { s with tier := { s.tier with deep := Memory.paste s.tier.deep (byteBase .deep loc + off) n cells } }
  | .host =>
    match Store.get? s.tier.hostRegs loc with
    | some r => s.hostWrite fn (r.2.1 + off) (Memory.readBytes cells 0 n)
    | none => s
  | .borrowed => { s with out := { s.out with side := s.out.side ++ [(loc / 2 ^ 36, Memory.readBytes cells 0 n)] } }

/-! ### Conversion -/

/-- R335. Element (k, n) of the source of a converting move: row-major for TILE, tile by tile for QUANT alone. -/
def cvtIndex (d : MoveDesc) (k n : Nat) : Nat :=
  if d.cvt % 2 = 1 then k * (d.cols + 1) + n
  else (n / 256 * ((d.rows + 1) / 256) + k / 256) * 65536 + k % 256 * 256 + n % 256

/-- R335, R202. Column `n` of the source as FP32 codes, rotated along K when ROT is set. -/
def cvtColumn (d : MoveDesc) (f : Fmt) (x blk signs n : Nat) : List Nat :=
  let kk := d.rows + 1
  let col := (List.range kk).map (fun k => (f.decode (elem x f.width (cvtIndex d k n))).toF32.toNat)
  if d.rot then (unpRht .fp32 blk signs false (packElems 32 col) kk).codes else col

/-- R335. The data lines and scale lines that a converting move writes. -/
def cvtLines (d : MoveDesc) (f : Fmt) (x blk signs : Nat) : List LineData × List LineData :=
  let kt := (d.rows + 1) / 256
  let nt := (d.cols + 1) / 256
  let tiles := (List.range nt).flatMap (fun j => (List.range kt).map (fun i => (i, j)))
  if d.cvt / 2 = 0 then
    let one (t : Nat × Nat) : List LineData :=
      codeLines f.width ((List.range 65536).map (fun e =>
        elem x f.width (cvtIndex d (256 * t.1 + e / 256) (256 * t.2 + e % 256))))
    (tiles.flatMap one, [])
  else
    match Fmt.ofCode d.qfmt, Fmt.ofCode d.qscfmt with
    | some qf, some sc =>
      let cols := (List.range (256 * nt)).map (fun n => packElems 32 (cvtColumn d f x blk signs n))
      let one (t : Nat × Nat) : List LineData × List LineData :=
        let byCol := packElems 32 ((List.range 65536).map (fun e =>
          elem (cols.getD (256 * t.2 + e / 256) 0) 32 (256 * t.1 + e % 256)))
        let q := quantBlock qf sc d.qmode (groupSize d.group) 65536 byCol (fun _ => .away)
        let data := (List.range 65536).map (fun e => q.elems.codes.getD (e % 256 * 256 + e / 256) 0)
        (codeLines qf.width data, codeLines sc.width q.scales ++ codeLines 8 q.zeros)
      let all := tiles.map one
      (all.flatMap (·.1), all.flatMap (·.2))
    | _, _ => ([], [])

/-! ### Checks -/

/-- R334, R463, R471, R121. What a move of function `fn` checks before it starts, `tm` when the Tier Manager asks. -/
def State.moveRefusal (s : State) (fn : Nat) (tm : Bool) (d : MoveDesc) : Option (Status × Conflict) :=
  let none' : Conflict := ⟨0, 0, 0⟩
  let src := s.entry (ttKey d.src.fn d.src.idx)
  let dst := s.entry (ttKey d.dst.fn d.dst.idx)
  let tier (t : Option Tensor) (p : Tensor → Bool) : Bool := t.elim false p
  let ends := src.toList ++ (if d.relocate then [] else dst.toList)
  if d.rsvd ≠ 0 ∨ d.src.malformed ∨ d.dst.malformed ∨ d.src = Handle.none ∨ (d.relocate ∧ d.dst ≠ Handle.none) ∨
      (!d.relocate ∧ d.dst = Handle.none) then some (.badArg, none')
  else if d.cvt ≠ 0 ∧ (d.relocate ∨ tier src (·.tier != Tier.host) ∨ tier dst (·.tier != Tier.near) ∨
      (d.cvt ≥ 2 ∧ (d.group = 0 ∨ !(Fmt.ofCode d.qfmt).isSome ∨ !(Fmt.ofCode d.qscfmt).elim false Fmt.isScale)) ∨
      (d.rows + 1) % 256 ≠ 0 ∨ (d.cols + 1) % 256 ≠ 0 ∨
      tier src (fun t => t.format > 2)) then some (.badArg, none')
  else if d.cvt = 0 ∧ !d.relocate ∧ tier src (fun a => tier dst (fun b =>
      (a.format != b.format && a.tier != Tier.host && b.tier != Tier.host) || b.size < a.size)) then some (.badArg, none')
  else if d.relocate ∧ (d.dstTier = Tier.host ∨ tier src (fun t => t.tier == d.dstTier || t.tier == Tier.host)) then
    some (.badArg, none')
  else if d.relocate ∧ d.dstTier = Tier.borrowed ∧ (!tm ∨ tier src (fun t => !t.readOnly)) then some (.denied, none')
  else if (d.src.fn ≠ fn ∧ (d.relocate ∨ d.src.fn ≠ 0)) ∨ (!d.relocate ∧ d.dst.fn ≠ fn) then some (.denied, none')
  else if !d.relocate ∧ tier dst (·.tier == Tier.host) ∧ tier src (·.keyIndex != 0) then some (.denied, none')
  else if tier src (·.keyIndex == 2) ∨ tier dst (·.keyIndex == 2) ∨
      tier src (fun t => t.fn == 0 && 8 ≤ t.keyIndex && tier dst (fun u => u.keyIndex != t.keyIndex)) then
    some (.denied, none')
  else if (tier src (·.tier == Tier.deep) ∨ (d.relocate ∧ d.dstTier = Tier.deep)) ∧
      tier src (fun t => !s.deepKey t.fn t.keyIndex) then some (.denied, none')
  else if ends.any (·.poisoned) then some (.faulted, none')
  else
    match ends.find? (fun t => s.named t.key || t.moving || s.boundMotif t.key ||
        (t.pinned && d.relocate && d.dstTier == Tier.deep)) with
    | some t => some (.stateConflict, ⟨2, 0, t.handle.toNat⟩)
    | none =>
      if !tier src (fun t => t.gen == d.src.gen) ∨ (!d.relocate ∧ !tier dst (fun t => t.gen == d.dst.gen)) then
        some (.generationStale, none')
      else if tier src (·.incomplete) then some (.incomplete, none')
      else none

/-! ### Ending a move -/

/-- R108. The progress word of a move. -/
def Move.progress (m : Move) (state : Nat) (status : Status) : Nat :=
  let deep := m.segs.any (fun g => g.srcTier == Tier.deep || g.dstTier == Tier.deep)
  m.granules + 2 ^ 32 * state + 2 ^ 35 * b2n deep + 2 ^ 40 * status.code + 2 ^ 48 * m.srcGen

/-- R108. Lines of a granule: 256 KiB where an end is the deep tier, else 1 MiB. -/
def Move.granuleLines (m : Move) : Nat :=
  if m.segs.any (fun g => g.srcTier == Tier.deep || g.dstTier == Tier.deep) then 1024 else 4096

/-- R108, R109. Write a move's progress word into its descriptor. -/
def State.writeProgress (s : State) (m : Move) (state : Nat) (status : Status) : State :=
  match s.tensor? m.table with
  | some t =>
    if t.tier = Tier.near then
      { s with tier := { s.tier with
        near := Memory.writeBytes s.tier.near (256 * t.loc + 64 * m.tindex) (leBytes (m.progress state status) 8) } }
    else s
  | none => s

/-- R110, R338. A waiting move runs as soon as fewer than 64 do. -/
def State.promote (s : State) : State :=
  if (s.tier.moves.filter (·.running)).length ≥ 64 then s
  else
    match s.tier.moves.find? (fun m => !m.running) with
    | none => s
    | some w => { s with tier := { s.tier with
        moves := s.tier.moves.map (fun (m : Move) => if m.id = w.id then { m with running := true } else m) } }

/-- The tensors that a move carries (R327). -/
def State.moved (s : State) (m : Move) : List Tensor :=
  match s.entry (ttKey m.desc.src.fn m.desc.src.idx) with
  | some t => s.pair t
  | none => []

/-- The tensors a COPY writes. -/
def State.copied (s : State) (m : Move) : List Tensor :=
  if m.desc.relocate then []
  else
    match s.entry (ttKey m.desc.dst.fn m.desc.dst.idx) with
    | some t => s.pair t
    | none => []

/-- R329. Whether the end of a move changes handles without the owner's own request. -/
def State.tellsOwner (s : State) (m : Move) : Bool :=
  match m.cause with
  | .evict | .recall | .park _ => true
  | .restore fn => s.tier.restores.any (fun r => r.1 == fn && r.2.fn != fn)
  | _ => false

/-- Whether the end of a move settles something besides the move itself. -/
def MoveCause.reports (c : MoveCause) : Bool :=
  match c with
  | .place _ | .park _ | .restore _ | .model _ => true
  | _ => false

/-- R339. The end of a move: MOVING clears, the progress word and the completion entry are written, failures are
flagged, and the next waiting move runs. -/
def State.closeMove (s : State) (m : Move) (st : Status) : State :=
  let keys := (s.moved m ++ s.copied m).map Tensor.key
  let s := keys.foldl (fun s k => s.mapTensor k (fun t => { t with moving := false })) s
  let s := s.writeProgress m (if st = .ok then 3 else 4) st
  let s := { s with tier := { s.tier with moves := s.tier.moves.filter (fun x => x.id != m.id)
                                          ended := s.tier.ended ++ (if m.cause.reports then [(m.cause, st)] else []) } }
  let s := match m.cause with
    | .command cid idx q => if m.desc.notify then
        s.post m.fn .move st q true (leBytes cid 8 ++ leBytes idx 2 ++ leBytes 0 2 ++ leBytes m.granules 4) else s
    | _ => s
  let s := if st = .ok then s else
    (s.inc Reg.MOV_FAILS_FAILS 1).err Reg.MOV_INT_MOVE_FAIL Reg.MOV_INT_EN_EN 0 4
  (s.promote).showSpace

/-- R365. Lines that moves write to flash count in FTL_HOST_WR, in MiB over life. -/
def State.wroteFlash (s : State) (lines : Nat) : State :=
  let n := s.tier.flashLines + lines
  { s with tier := { s.tier with flashLines := n } }.inc2 Reg.FTL_HOST_WR_LO_WR_LO Reg.FTL_HOST_WR_HI_WR_HI
    (n / 4096 - s.tier.flashLines / 4096)

/-- R336, R337. One tensor arrives in another tier, at `loc`. -/
def State.arrive (s : State) (m : Move) (t : Tensor) (loc : Nat) : State :=
  let q := s.quota t.fn
  let limit := s.reg Reg.MOV_DIRTY_CFG_DIRTY_LIMIT * 2 ^ 20
  let fromNear := t.tier == Tier.near
  let isMotif := t.kind == .motif
  let s := if fromNear then s.releaseNear t.key t.loc t.units else if t.tier = Tier.borrowed then s.freeBorrowed t else s
  let q := { q with nearUsed := q.nearUsed - (if fromNear then t.units else 0)
                    motifUsed := q.motifUsed - (if fromNear && isMotif then 1 else 0)
                    borrowUsed := q.borrowUsed - (if t.tier = Tier.borrowed then t.units else 0)
                    dirtyLines := q.dirtyLines - (if t.dirty then t.size else 0) }
  let moved := { t with gen := nextGen t.gen, moving := false, lastUse := s.row }
  let s := match m.desc.dstTier with
    | .deep =>
      let oldHome := t.homeSet && t.dirty
      let s := if oldHome then s.releaseDeep t.home t.deepUnits else s
      let q := { q with deepUsed := q.deepUsed - (if oldHome then 64 * t.deepUnits else 0) }
      (s.setTensor { moved with tier := .deep, loc := loc, home := loc, homeSet := true, dirty := false }).setQuota t.fn q
    | .near =>
      let home := t.homeSet || t.tier == Tier.deep
      let homeLoc := if t.tier = Tier.deep then t.loc else t.home
      let keep := home && (t.readOnly || t.size * 256 ≤ limit)
      let s := if home && !keep then s.releaseDeep homeLoc t.deepUnits else s
      let q := { q with deepUsed := q.deepUsed - (if home && !keep then 64 * t.deepUnits else 0)
                        motifUsed := q.motifUsed + b2n isMotif }
      (s.setTensor { moved with
        tier := .near, loc := loc, homeSet := keep, home := if keep then homeLoc else 0, dirty := false }).setQuota t.fn q
    | _ => (s.setTensor { moved with tier := m.desc.dstTier, loc := loc }).setQuota t.fn q
  let s := if isMotif then
      match Store.get? s.tier.motifs t.key with
      | some mo =>
        let mo := { mo with state := if m.desc.dstTier = Tier.near then .resident else .parked }
        { s with tier := { s.tier with motifs := Store.put s.tier.motifs t.key mo } }
      | none => s
    else s
  let s := match m.cause with
    | .restore _ => s.mapTensor t.key (fun u => { u with parked := false })
    | _ => s
  if s.tellsOwner m then s.noteMoved t.handle moved.handle else s

/-- R340. Write-back reaches its last granule: the extent replaces the home if no commit wrote meanwhile. -/
def State.wroteBack (s : State) (m : Move) (t : Tensor) (loc : Nat) : State :=
  let q := s.quota t.fn
  if t.wseq = m.wseq0 then
    let s := if t.homeSet then s.releaseDeep t.home t.deepUnits else s
    (s.setTensor { t with home := loc, homeSet := true, dirty := false, moving := false }).setQuota t.fn
      { q with deepUsed := q.deepUsed - (if t.homeSet then 64 * t.deepUnits else 0)
               dirtyLines := q.dirtyLines - (if t.dirty then t.size else 0) }
  else
    ((s.releaseDeep loc t.deepUnits).setTensor { t with moving := false }).setQuota t.fn
      { q with deepUsed := q.deepUsed - 64 * t.deepUnits }

/-- R113, R336, R340. The last granule has landed. -/
def State.finishMove (s : State) (m : Move) : State :=
  let s := match m.cause with
    | .writeback =>
      ((s.entry (ttKey m.desc.src.fn m.desc.src.idx)).toList.zip m.locs).foldl (fun (s : State) (p : Tensor × Nat) => s.wroteBack m p.1 p.2) s
    | _ =>
      if m.desc.relocate then ((s.moved m).zip m.locs).foldl (fun (s : State) (p : Tensor × Nat) => s.arrive m p.1 p.2) s
      else (s.copied m).foldl (fun (s : State) (t : Tensor) =>
        let q := s.quota t.fn
        let soils := t.homeSet && t.tier == Tier.near && !t.dirty
        (s.setTensor { t with incomplete := false, dirty := t.dirty || soils,
                              dirtyRow := if soils then s.row else t.dirtyRow }).setQuota t.fn
          { q with dirtyLines := q.dirtyLines + (if soils then t.size else 0) }) s
  s.closeMove m .ok

/-- R339. What a move that does not finish had been allotted is released again. -/
def State.unallot (s : State) (m : Move) : State :=
  let tens := s.moved m
  let own := m.desc.relocate || m.cause == .writeback
  if !own then s else
    (tens.zip m.locs).foldl (fun (s : State) (p : Tensor × Nat) =>
      let q := s.quota p.1.fn
      let fresh := m.segs.any (fun g => g.dstLoc == p.2 && g.dstTier != Tier.borrowed)
      if !fresh then s
      else if m.cause != .writeback && m.desc.dstTier == Tier.near then
        (s.releaseNear p.1.key p.2 p.1.units).setQuota p.1.fn { q with nearUsed := q.nearUsed - p.1.units }
      else
        (s.releaseDeep p.2 p.1.deepUnits).setQuota p.1.fn { q with deepUsed := q.deepUsed - 64 * p.1.deepUnits }) s

/-- R339. A move fails. -/
def State.failMove (s : State) (m : Move) (st : Status) : State := (s.unallot m).closeMove m st

/-- R488. A move ends without an entry: what it had been allotted is released, MOVING clears, and the next waiting move
runs. -/
def State.dropMove (s : State) (m : Move) : State :=
  let s := s.unallot m
  let s := ((s.moved m ++ s.copied m).map Tensor.key).foldl (fun s k => s.mapTensor k (fun t => { t with moving := false })) s
  ({ s with tier := { s.tier with moves := s.tier.moves.filter (fun x => x.id != m.id) } }.promote).showSpace

/-! ### Starting a move -/

/-- R338. Put a move among the running ones, or behind the waiting; a move that has nothing to copy ends at once. -/
def State.beginMove (s : State) (m : Move) : State :=
  let running := decide ((s.tier.moves.filter (·.running)).length < 64)
  let id := s.tier.nextMove
  let keys := ((s.moved m) ++ (s.copied m)).map Tensor.key
  let s := keys.foldl (fun s k => s.mapTensor k (fun t => { t with moving := true })) s
  let s := (s.copied m).foldl (fun s t => s.mapTensor t.key (fun t => { t with incomplete := true })) s
  let m := { m with id := id, running := running }
  let s := { s with tier := { s.tier with moves := s.tier.moves ++ [m], nextMove := id + 1 } }
  let s := s.writeProgress m 1 .ok
  if m.total = 0 then s.finishMove m else s.showSpace

/-- A move of descriptor `d` for function `fn`, before it is placed. -/
def Move.new (fn : Nat) (cause : MoveCause) (d : MoveDesc) (segs : List MoveSeg) (locs : List Nat) (clean : Bool) : Move :=
  let m : Move := { id := 0, fn := fn, cause := cause, desc := d, table := Handle.none, tindex := 0, running := false,
                    stopped := false, granules := 0, total := 0, segs := segs, locs := locs, clean := clean, wseq0 := 0,
                    srcGen := d.src.gen, buf := [] }
  { m with total := ceilDiv ((segs.map (·.lines)).foldl (· + ·) 0) m.granuleLines }

/-- A descriptor that says nothing. -/
def MoveDesc.empty : MoveDesc :=
  ⟨0, Handle.none, Handle.none, false, .near, false, 0, false, 0, 0, false, 0, Handle.none, 0, 0, 0⟩

/-- A RELOCATE of tensor `t`. -/
def MoveDesc.reloc (t : Tensor) (dst : Tier) : MoveDesc :=
  { MoveDesc.empty with src := t.handle, relocate := true, dstTier := dst }

/-- A COPY between two tensors. -/
def MoveDesc.copy (a b : Tensor) : MoveDesc := { MoveDesc.empty with src := a.handle, dst := b.handle }

/-- R336, R346, R354. A RELOCATE to DEEP: what it allots, or why it cannot. -/
def State.toDeep (s : State) (m : MoveDesc) (fn : Nat) (cause : MoveCause) (t : Tensor) : Except Status (Move × State) :=
  let p := s.pair t
  let fresh := p.filter (fun u => !(u.homeSet && !u.dirty))
  let need := (fresh.map Tensor.deepUnits).foldl (· + ·) 0
  let q := s.quota t.fn
  if q.deepUsed + 64 * need > q.deepLimit then .error .quota
  else if need ≠ 0 ∧ (need > s.tier.deepFree ∨ s.reg Reg.FTL_STATUS_READ_ONLY = 1) then .error .noCapacity
  else if t.kind = .motif ∧ (s.tier.tt.filter (fun c => c.2.kind == .motif && c.2.tier == Tier.deep)).length ≥ 65536 then
    .error .noCapacity
  else
    let r := p.foldl (fun (a : List MoveSeg × List Nat × State) u =>
      if u.homeSet && !u.dirty then (a.1, a.2.1 ++ [u.home], a.2.2)
      else
        let d := a.2.2.takeDeep u.deepUnits
        (a.1 ++ [⟨u.tier, u.loc, .deep, d.1, u.size⟩], a.2.1 ++ [d.1], d.2)) ([], [], s)
    .ok (Move.new fn cause m r.1 r.2.1 fresh.isEmpty, r.2.2.setQuota t.fn { q with deepUsed := q.deepUsed + 64 * need })

/-- R347. Start the evictions that free `need` units; the units being freed. -/
def State.evict (s : State) (need : Nat) : Nat × State :=
  (s.victims need).foldl (fun (a : Nat × State) t =>
    match a.2.toDeep (MoveDesc.reloc t .deep) t.fn .evict t with
    | .error _ => a
    | .ok (m, s) =>
      (a.1 + ((s.pair t).map Tensor.units).foldl (· + ·) 0, (s.inc Reg.MOV_EVICT_EVICTS 1).beginMove m)) (0, s)

/-- R346 to R349. Allot near-tier units to a function under a class. -/
def State.allocNear (s : State) (fn cls units : Nat) : AllocRes :=
  let q := s.quota fn
  if q.nearUsed + units > q.nearLimit ∨ (cls = 1 ∧ !s.deepKey fn 1 ∧ q.nearUsed + units > q.nearReserve) then
    .refused .quota s []
  else
    match s.nearFit fn cls units with
    | some loc => .good loc ((s.assignFrames fn cls loc (16 * units)).setQuota fn { q with nearUsed := q.nearUsed + units })
    | none =>
      if s.nearPend ≠ 0 ∧ 16 * units ≤ s.nearFree + s.nearPend then .refused .busyRetry s []
      else if q.nearUsed + units ≤ q.nearReserve then
        let e := s.evict (units - (s.nearFree + s.nearPend) / 16)
        .refused .busyRetry e.2 (leBytes (e.1 * 4096) 8)
      else .refused .noCapacity s []

/-- Allot near-tier units for several tensors at once: all or none. -/
def State.allocNears (s : State) (fn cls : Nat) : List Nat → AllocRes × List Nat
  | [] => (.good 0 s, [])
  | u :: us =>
    match s.allocNear fn cls u with
    | .refused st s p => (.refused st s p, [])
    | .good loc s =>
      match State.allocNears s fn cls us with
      | (.good _ s, ls) => (.good loc s, loc :: ls)
      | r => r

/-- R336, R346, R347. A RELOCATE to NEAR: what it allots, or why it cannot. -/
def State.toNear (s : State) (m : MoveDesc) (fn : Nat) (cause : MoveCause) (t : Tensor) :
    Except (Status × State × List Byte) (Move × State) :=
  let p := s.pair t
  let q := s.quota t.fn
  if t.kind = .motif ∧ q.motifUsed + 1 > q.motifLimit then .error (.quota, s, [])
  else if t.kind = .motif ∧ (s.tier.tt.filter (fun c => c.2.kind == .motif && c.2.tier == Tier.near)).length ≥ 4096 then
    .error (.noCapacity, s, [])
  else
    match s.allocNears t.fn t.keyIndex (p.map Tensor.units) with
    | (.refused st s' pl, _) => .error (st, if st = .busyRetry then s' else s, pl)
    | (.good _ s, locs) =>
      let segs := (p.zip locs).map (fun (x : Tensor × Nat) =>
        let u := x.1
        (⟨if u.homeSet then .deep else u.tier, if u.homeSet then u.home else u.loc, .near, x.2, u.size⟩ : MoveSeg))
      .ok (Move.new fn cause m segs locs false, s)

/-- R333, R335. The stretches of a COPY: the tensor, and its linked scale tensor where both have one. -/
def State.copySegs (s : State) (a b : Tensor) : List MoveSeg :=
  ((s.pair a).zip (s.pair b)).map (fun (x : Tensor × Tensor) => (⟨x.1.tier, x.1.loc, x.2.tier, x.2.loc, x.1.size⟩ : MoveSeg))

/-- R333, R334. Start a checked move of descriptor `d` for function `fn`: its state, or a status and the reply's payload. -/
def State.startMove (s : State) (fn : Nat) (cause : MoveCause) (d : MoveDesc) (table : Handle) (tindex : Nat) :
    Except (Status × State × List Byte) State :=
  match s.entry (ttKey d.src.fn d.src.idx) with
  | none => .error (.generationStale, s, [])
  | some t =>
    let place (r : Move × State) : State := r.2.beginMove { r.1 with table := table, tindex := tindex }
    if d.relocate then
      match d.dstTier with
      | .deep => match s.toDeep d fn cause t with
        | .error st => .error (st, s, [])
        | .ok r => .ok (place r)
      | .near => match s.toNear d fn cause t with
        | .error e => .error e
        | .ok r => .ok (place r)
      | _ => .error (.noCapacity, s, [])
    else
      match s.entry (ttKey d.dst.fn d.dst.idx) with
      | none => .error (.generationStale, s, [])
      | some u => .ok (place (Move.new fn cause d (s.copySegs t u) [] false, s))

/-- R340. Start write-back of a dirty near tensor to a fresh deep extent. -/
def State.writeBack (s : State) (t : Tensor) : State :=
  let q := s.quota t.fn
  if t.tier ≠ Tier.near ∨ t.moving ∨ !s.deepKey t.fn t.keyIndex ∨ t.deepUnits > s.tier.deepFree ∨
      s.reg Reg.FTL_STATUS_READ_ONLY = 1 then s
  else
    let d := s.takeDeep t.deepUnits
    let m := Move.new t.fn .writeback { MoveDesc.empty with src := t.handle } [⟨.near, t.loc, .deep, d.1, t.size⟩] [d.1] false
    (d.2.setQuota t.fn { q with deepUsed := q.deepUsed + 64 * t.deepUnits }).beginMove { m with wseq0 := t.wseq }

/-! ### Stopping and resuming -/

/-- R110. Stop the moves of which `p` holds at the granule they have reached. -/
def State.stopMoves (s : State) (p : Move → Bool) : State :=
  let hit := s.tier.moves.filter (fun m => p m && !m.stopped)
  let s := hit.foldl (fun (s : State) m => s.writeProgress m 2 .ok) s
  { s with tier := { s.tier with moves := s.tier.moves.map (fun (m : Move) => if p m then { m with stopped := true } else m) } }

/-- R111. Resume stopped moves of which `p` holds at the granule they had reached. -/
def State.resumeMoves (s : State) (p : Move → Bool) : State :=
  let hit := s.tier.moves.filter (fun m => p m && m.stopped)
  let s := hit.foldl (fun (s : State) m => s.writeProgress m 1 .ok) s
  { s with tier := { s.tier with moves := s.tier.moves.map (fun (m : Move) => if p m then { m with stopped := false } else m) } }

/-! ### Moves that a command names -/

/-- R111, R142. The Move Engine takes the descriptor that a committed MOVE.T named. -/
def State.handMove (s : State) (fn commandId queue : Nat) (r : MoveRef) : State :=
  match s.tensor? r.table with
  | none => s
  | some t =>
    let d := MoveDesc.ofBytes (Memory.readBytes s.tier.near (256 * t.loc + 64 * r.index) 64)
    let cause : MoveCause := .command commandId r.index queue
    let m := { Move.new fn cause d [] [] false with table := r.table, tindex := r.index, granules := bits d.progress 0 32 }
    let state := bits d.progress 32 3
    let held := s.tier.moves.any (fun x => x.table == r.table && x.tindex == r.index)
    let fail (s : State) (st : Status) : State :=
      let s := if d.notify then
          s.post fn .move st queue true (leBytes commandId 8 ++ leBytes r.index 2 ++ leBytes 0 2 ++ leBytes m.granules 4)
        else s
      (s.inc Reg.MOV_FAILS_FAILS 1).err Reg.MOV_INT_MOVE_FAIL Reg.MOV_INT_EN_EN 0 4
    if state = 3 then
      if d.notify then
        s.post fn .move .ok queue true (leBytes commandId 8 ++ leBytes r.index 2 ++ leBytes 0 2 ++ leBytes m.granules 4)
      else s
    else if state = 4 ∨ (state = 1 ∧ held) then fail s .stateConflict
    else if held then s.resumeMoves (fun x => x.table == r.table && x.tindex == r.index)
    else if state ≠ 0 ∧ d.src.gen ≠ bits d.progress 48 13 then
      fail (s.writeProgress { m with srcGen := bits d.progress 48 13 } 4 .generationStale) .generationStale
    else
      match s.moveRefusal fn false d with
      | some e => fail (s.writeProgress m 4 e.1) e.1
      | none =>
        match s.startMove fn cause d r.table r.index with
        | .error e => fail (e.2.1.writeProgress m 4 e.1) e.1
        | .ok s => { s with tier := { s.tier with moves := s.tier.moves.map (fun (x : Move) =>
            if x.table = r.table ∧ x.tindex = r.index ∧ x.granules = 0 ∧ state ≠ 0 then { x with granules := m.granules }
            else x) } }

end Sys2Proof.Machine
end

