-- ==== Sys2Proof/Machine/CmdOps.lean ====
section
/-!
DEFINITION. Commands in flight: their slots (R83), their queue entries and completion (R504, R506), and their commit
point (R94, R97).
-/

namespace Sys2Proof.Machine

/-- The key of a command slot on a die. -/
def slotKey (die cslot : Nat) : Nat := die * 16 + cslot

/-- R126. Show which command slots are in flight. -/
def State.showSlots (s : State) : State :=
  let m (d : Nat) : Nat := (s.data.slots.filter (fun x => x.1 / 16 == d)).foldl (fun a x => a + 2 ^ (x.1 % 16)) 0
  (s.set Reg.SKN_SLOT_BUSY_DIE0 (m 0)).set Reg.SKN_SLOT_BUSY_DIE1 (m 1)

/-- The command `cid`, or one that names nothing. -/
def State.cmd (s : State) (cid : Nat) : Cmd := Store.getD s.data.cmds cid (Cmd.place Descriptor.empty 0 [] 0 1)

/-- Record command `cid`. -/
def State.setCmd (s : State) (cid : Nat) (c : Cmd) : State :=
  { s with data := { s.data with cmds := Store.put s.data.cmds cid c } }

/-- Forget command `cid`. -/
def State.dropCmd (s : State) (cid : Nat) : State :=
  { s with data := { s.data with cmds := Store.erase s.data.cmds cid } }

/-- R97 step 7, R103 step 5. Free the slots of command `cid`. -/
def State.freeSlots (s : State) (cid : Nat) : State :=
  { s with data := { s.data with slots := s.data.slots.filter (fun x => x.2.cid != cid) } }.showSlots

/-- R504. Entry `idx` of submission queue `q` of function `fn` is done: the head passes every done entry. -/
def advanceHead (size : Nat) : Nat → Nat → List Nat → Nat × List Nat
  | 0, head, done => (head, done)
  | k + 1, head, done =>
    if done.contains head then advanceHead size k ((head + 1) % size) (done.erase head) else (head, done)

/-- R504. Mark entry `idx` done and move HQ_SQn_HEAD to the oldest entry that is not. -/
def State.sqDone (s : State) (fn q idx : Nat) : State :=
  let key := fn * 8 + q
  let size := s.getF fn (sqReg Reg.HQ_SQ0_CFG_SIZE q) + 1
  let r := advanceHead size 65536 (s.getF fn (sqReg Reg.HQ_SQ0_HEAD_HEAD q)) (Store.getD s.host.doneIdx key [] ++ [idx])
  { s with host := { s.host with doneIdx := Store.put s.host.doneIdx key r.2 } }.setF fn (sqReg Reg.HQ_SQ0_HEAD_HEAD q)
    r.1

/-- R504, R506. A command that came from a submission queue completes: its entry is done and a COMMAND entry written. -/
def State.completeCmd (s : State) (c : Cmd) (status : Status) (cause : Nat) : State :=
  if c.step then s
  else
    let s := if c.graph = 0 then s.sqDone c.desc.fn c.queue c.sqIndex else s
    s.postCommand c.desc c.queue status [] cause

/-- R252, R370. Release one pin of each swatch of a list. -/
def State.unpin (s : State) (l : List Handle) : State :=
  l.foldl (fun s h =>
    let k := ttKey h.fn h.idx
    match Store.get? s.tier.swatches k with
    | none => s
    | some w =>
      let w := { w with pins := w.pins - 1 }
      { s with tier := { s.tier with swatches := Store.put s.tier.swatches k w } }.mapTensor k
        (fun t => { t with pinned := w.pins != 0 })) s

/-- R164, R159, R488. Whether a function still has the context block it had when the roster was written. -/
def State.hasCtx (s : State) (fn : Nat) : Bool := (Store.get? s.tier.ctx fn).isSome && !s.seq.gone.contains fn

/-! ### The commit point -/

/-- R94. The commit point is reached: CM.MARK COMMIT has retired on every die that carries the command, and every tier
write has been acknowledged. -/
def State.reached (s : State) (cid : Nat) : Bool :=
  let c := s.cmd cid
  !c.committed && !c.frogged && !c.writeFailed && c.writes.isEmpty && !c.dies.isEmpty &&
    c.dies.all (fun d => c.marked.contains d)

/-- R97 steps 1 and 2, R340. A destination of a committing command. -/
def State.commitDest (s : State) (k : Nat) : State :=
  match s.entry k with
  | none => s
  | some t =>
    let soils := t.tier == .near && t.homeSet && !t.dirty
    let q := s.quota t.fn
    (s.setTensor { t with incomplete := false, wseq := (t.wseq + 1) % 2 ^ 16, dirty := t.dirty || soils,
                          dirtyRow := if soils then s.row else t.dirtyRow }).setQuota t.fn
      { q with dirtyLines := q.dirtyLines + (if soils then t.size else 0) }

/-- R311. The position of a stream: words drawn from it since counter 0. -/
def Stream.drawn (st : Stream) : Nat := 4 * st.counter.toNat + st.word

/-- R320. Count the words that a committing command has drawn from stream `k`, its working copy standing at `st`. -/
def State.countWords (s : State) (k : Nat) (st : Stream) : State :=
  if !s.hasCtx (k / 16) then s else
  match Store.get? s.tier.ctx (k / 16) with
  | none => s
  | some c =>
    let old := ((c.streams[k % 16]?).getD st).drawn
    let fn := k / 16
    let v := s.getF fn Reg.RNG_WORDS_LO_WORDS_LO + 2 ^ 32 * s.getF fn Reg.RNG_WORDS_HI_WORDS_HI +
      (st.drawn + 2 ^ 130 - old) % 2 ^ 130
    (s.setF fn Reg.RNG_WORDS_LO_WORDS_LO v).setF fn Reg.RNG_WORDS_HI_WORDS_HI (v / 2 ^ 32)

/-- R97 step 3, R313, R488. A staged stream reaches its context block, unless that has been reset; COMMITS increments. -/
def State.commitStream (s : State) (k : Nat) (st : Stream) : State :=
  if !s.hasCtx (k / 16) then s else
  match Store.get? s.tier.ctx (k / 16) with
  | none => s
  | some c =>
    let c := { c with streams := c.streams.set (k % 16) { st with commits := st.commits + 1 } }
    { s with tier := { s.tier with ctx := Store.put s.tier.ctx (k / 16) c } }

/-- R428. Mirror a function's context block. -/
def State.mirrorCtx (s : State) (fn : Nat) : State :=
  match Store.get? s.tier.ctx fn with
  | none => s
  | some c => s.mirror (fun m => .twinCtx m fn c.streams (c.bindings.map (fun b => (b.handle, b.slot, b.mode)))
      ((List.range 8).map (fun q => s.getF fn (sqReg Reg.HQ_SQ0_HEAD_HEAD q))))

/-- R506. Bytes 8 to 63 of a TOKEN entry. -/
def Record.body (r : Record) : List Byte :=
  leBytes r.tag 4 ++ leBytes r.seqId 4 ++ leBytes r.value 4 ++ leBytes r.position 4 ++
    leBytes (b2n r.lastSlice + 2 * b2n r.sample) 1

/-- R97 step 4, R369, R488. Release a completion record, unless its function's context block has been reset; a sampled id
enters the step token buffer at its SEQ_ID. -/
def State.release (s : State) (m : Nat) (r : Record) : State :=
  if s.hasCtx r.fn then
    let s := if r.sample then
        { s with serve := { s.serve with tokens := Store.put s.serve.tokens r.seqId [BitVec.ofNat 32 r.value] } }.mirror
          (fun m => .twinTokens m r.seqId [BitVec.ofNat 32 r.value])
      else s
    s.postAt m r.fn .token .ok ((Store.get? s.serve.seqs r.seqId).elim 0 (·.queue)) true r.body
  else s

/-- R97 step 4, R504, R506. The command's own completion, and its entry in its queue. -/
def State.commitEntry (s : State) (m : Nat) (c : Cmd) : State :=
  if c.step then s
  else
    let s := if c.graph = 0 then (s.sqDone c.desc.fn c.queue c.sqIndex).mirrorCtx c.desc.fn else s
    if c.doneStaged then
      s.postAt m c.desc.fn .command .ok c.queue (bit c.desc.flags 0) (leBytes c.desc.commandId 8)
    else s

/-- R49. The task of a graph that command `cid` is has committed; a graph whose tasks are all done is forgotten. -/
def State.commitTask (s : State) (cid : Nat) : State :=
  let one (t : GTask) : GTask := if t.cid = some cid then { t with done := true } else t
  let gs := s.seq.graphs.map (fun (g : Graph) => { g with tasks := g.tasks.map one })
  { s with seq := { s.seq with graphs := gs.filter (fun g => g.tasks.any (fun t => !t.done)) } }

/-- R407, R424. Show the staging lines in use of a link, with its stitch marker and peak. -/
def State.showStaging (s : State) (l : Nat) : State :=
  let f := linkFn l
  let used := ((s.data.staging.filter (fun i => i.link == l)).map (fun i => i.lines.length)).foldl (· + ·) 0
  let t := 256 * s.getF f Reg.LNK_STAGE_MARK_THRESH
  let s := s.setF f Reg.LNK_STAGE_USED_LINES used
  let s := if s.getF f Reg.LNK_STAGE_PEAK_LINES < used then s.setF f Reg.LNK_STAGE_PEAK_LINES used else s
  s.sample f Reg.LNK_STAGE_MARK_STATUS Reg.LNK_STAGE_MARK_INT_EN Reg.LNK_STAGE_CROSS_CROSSINGS (t < used)

/-- R101. Staging that command `cid` consumed is released. -/
def State.releaseItems (s : State) (cid : Nat) : State :=
  let links := (s.data.staging.filter (fun i => i.consumer == cid)).map (·.link)
  let s := { s with data := { s.data with staging := s.data.staging.filter (fun i => i.consumer != cid) } }
  links.foldl State.showStaging s

/-- R97. The commit point of command `cid`, in the order of its steps; moves named by MOVE.T are handed over (R142). -/
def State.commit (s : State) (cid : Nat) : State :=
  let c := s.cmd cid
  let s := s.mirror (.twinCommit c.ctag)
  let m := s.reg Reg.TWN_MSEQ_SENT_MSEQ
  let s := c.dests.foldl State.commitDest s
  let s := c.rng.foldl (fun (s : State) (p : Nat × Stream) => s.countWords p.1 p.2) s
  let s := c.staged.foldl (fun s p => s.commitStream p.1 p.2) s
  let s := ((c.staged.map (fun p => p.1 / 16)).dedup).foldl State.mirrorCtx s
  let s := c.records.foldl (fun s r => s.release m r) s
  let s := s.commitEntry m c
  let s := c.sends.dedup.foldl (fun s l => s.send l (.commit c.ctag)) s
  let s := c.moves.foldl (fun s r => s.handMove c.desc.fn c.desc.commandId c.queue r) s
  let s := (s.releaseItems cid).freeSlots cid
  let s := s.commitTask cid
  let s := { s with seq := { s.seq with gap := match s.seq.gap with
    | some g => if g.2 = cid then none else some g
    | none => none } }
  let s := if c.step then s.setCmd cid { c with committed := true, staged := [], rng := [], records := [], moves := [] }
    else s.dropCmd cid
  s.showSpace

end Sys2Proof.Machine
end

