-- ==== Sys2Proof/Machine/SwatchOps.lean ====
section
/-!
DEFINITION. The layout of key/value tensors (R331), digests of tensors (R234, R433), swatches being built (R249, R250)
and the end of a sequence (R370).
-/

namespace Sys2Proof.Machine

/-- R331. First line, within its tensor, of position `p` of layer `l`. -/
def kvLine (capacity lpt l p : Nat) : Nat := (l * capacity + p) * lpt

/-- R326. Capacity in tokens of a KV or SWATCH tensor. -/
def Tensor.capacity (t : Tensor) : Nat := bits t.kspec 3 23 * 256

/-- R358. The parameters of the base model in slot `m`. -/
def State.model (s : State) (m : Nat) : ModelSlot := Store.getD s.tier.models m ModelSlot.empty

/-! ### Digests -/

/-- The bytes of a tensor in the tier that holds it. -/
def State.tensorBytes (s : State) (t : Tensor) (first lines : Nat) : List Byte :=
  match t.tier with
  | .deep => Memory.readBytes s.tier.deep (4096 * t.loc + 256 * first) (256 * lines)
  | _ => Memory.readBytes s.tier.near (256 * (t.loc + first)) (256 * lines)

/-- SHA-256 of a tensor's SIZE lines (R234, R464). -/
def State.tensorDigest (s : State) (t : Tensor) : BitVec 256 := Config.sha256 (s.tensorBytes t 0 t.size)

/-- R433. The live range of a KV or SWATCH tensor that holds `len` positions: those positions of every layer. -/
def State.kvDigest (s : State) (t : Tensor) (layers lpt len : Nat) : BitVec 256 :=
  Config.sha256 ((List.range layers).flatMap (fun l => s.tensorBytes t (kvLine t.capacity lpt l 0) (len * lpt)))

/-- R433, R478. The positions of every layer that are live in a KV or SWATCH tensor; `none` for another KIND, which is live
whole. A KV tensor that no open sequence names counts as live to its capacity. -/
def State.liveLen (s : State) (t : Tensor) : Option Nat :=
  match t.kind with
  | .swatch => some ((Store.get? s.tier.swatches t.key).elim 0 (fun w => if w.state = 1 then w.length else w.done))
  | .kv => some (((s.serve.seqs.find? (fun q => q.2.kv.fn == t.fn && q.2.kv.idx == t.idx)).map (fun q => q.2.pos - q.2.swLen)).getD t.capacity)
  | _ => none

/-- R433, R478. The bytes of a tensor's live range. -/
def State.liveBytes (s : State) (t : Tensor) : List Byte :=
  match s.liveLen t with
  | some n =>
    let p := (s.model (bits t.kspec 0 3)).params
    (List.range p.layers).flatMap (fun l => s.tensorBytes t (kvLine t.capacity p.kvLpt l 0) (n * p.kvLpt))
  | none => s.tensorBytes t 0 t.size

/-- R234, R251. The digest of the motif that a handle names; zero for the null motif. -/
def State.motifDigest (s : State) (h : Handle) : BitVec 256 :=
  if h = Handle.none then 0 else (s.tensor? h).elim 0 s.tensorDigest

/-! ### The end of a sequence -/

/-- R506. Bytes 8 to 63 of a SEQ entry. -/
def seqBody (tag seqId event reason sampled : Nat) (report : List Byte) : List Byte :=
  leBytes tag 4 ++ leBytes seqId 4 ++ leBytes event 1 ++ leBytes reason 1 ++ leBytes 0 2 ++ leBytes sampled 4 ++ report

/-- R389. Show the open sequences of the module. -/
def State.showSeqs (s : State) : State := s.set Reg.SEQ_OPEN_SEQS_OPEN s.serve.seqs.length

/-- R370. A sequence ends: its final entry, its pins released, its table entry freed. REASON is 0 MAX_NEW, 1 CAPACITY,
2 CLOSED, 3 FAULTED. -/
def State.endSeq (s : State) (id reason : Nat) (status : Status) : State :=
  match Store.get? s.serve.seqs id with
  | none => s
  | some q =>
    let s := if q.phase = .queued then s else s.unpin q.swatches
    let s := { s with serve := { s.serve with seqs := Store.erase s.serve.seqs id } }
    (s.post q.fn .seq status q.queue true (seqBody q.tag id 3 reason q.sampled [])).showSeqs

/-! ### Swatches -/

/-- Record a swatch. -/
def State.setSwatch (s : State) (k : Nat) (w : Swatch) : State :=
  { s with tier := { s.tier with swatches := Store.put s.tier.swatches k w } }

/-- R250. A swatch whose last slice has committed: zero-filled beyond LENGTH, digested, SEALED, and its build answered. -/
def State.sealSwatch (s : State) (k : Nat) : State :=
  match Store.get? s.tier.swatches k, s.entry k with
  | some w, some t =>
    let p := (s.model w.model).params
    let tail (l : Nat) (m : List Host.Cell) : List Host.Cell :=
      Memory.zero m (256 * (t.loc + kvLine t.capacity p.kvLpt l w.length)) (256 * (t.capacity - w.length) * p.kvLpt)
    let near := (List.range p.layers).foldl (fun m l => tail l m) s.tier.near
    let s := { s with tier := { s.tier with near := near } }
    let d := s.kvDigest t p.layers p.kvLpt w.length
    let s := s.setSwatch k { w with state := 1, digest := d, ticket := none }
    match w.ticket with
    | some tk => s.reply tk .ok (leBytes d.toNat 32 ++ leBytes t.handle.toNat 8)
    | none => s
  | _, _ => s

/-- R250. A swatch build fails: its swatch is FAILED and released. -/
def State.failSwatch (s : State) (k : Nat) : State :=
  match Store.get? s.tier.swatches k, s.entry k with
  | some w, some t =>
    let s := match w.ticket with
      | some tk => s.reply tk .faulted []
      | none => s
    (s.setSwatch k { w with state := 2, ticket := none }).dropPair t
  | _, _ => s

/-- R370. A sequence ends, or a swatch build that it is. -/
def State.finishSeq (s : State) (id reason : Nat) (status : Status) : State :=
  match Store.get? s.serve.builds id with
  | none => s.endSeq id reason status
  | some k =>
    let sw := (Store.get? s.serve.seqs id).elim [] (·.swatches)
    let s := (s.unpin sw)
    let s := { s with serve := { s.serve with seqs := Store.erase s.serve.seqs id, builds := Store.erase s.serve.builds id } }.showSeqs
    if status = .ok then s.sealSwatch k else s.failSwatch k


end Sys2Proof.Machine
end

