-- ==== Sys2Proof/Machine/FaultOps.lean ====
section
/-!
DEFINITION. Frogging a command (R103), the fault response (R44) with the job fault of R447,
and the run-time instruction fault PATTERN_ERR (R137).
-/

namespace Sys2Proof.Machine

/-- R102, R103 steps 3 to 5. The part of a frog that follows the last acknowledgement: the commit buffer and working
copies are discarded, discard markers sent, consumed items returned, the slots freed. -/
def State.endFrog (s : State) (cid : Nat) : State :=
  let c := s.cmd cid
  let s := c.sends.dedup.foldl (fun s l => s.send l (.discard c.ctag)) s
  let s := if s.mirrors then s.sendTwin (.twinDiscard c.ctag) else s
  let s := { s with data := { s.data with staging := s.data.staging.map (fun (i : Staged) =>
    if i.consumer = cid then { i with consumer := 0 } else i) } }
  let c := { c with rng := [], staged := [], records := [], doneStaged := false, moves := [], writes := [], sends := [],
                    recvs := [], started := [], marked := [], frogged := false, writeFailed := false,
                    frogs := c.frogs + 1 }
  ((s.setCmd cid c).freeSlots cid).inc Reg.SKN_FROGS_FROGS 1

/-- R98, R103. Frog command `cid`, unless it has reached its commit point, which it then completes: its remaining
instructions are squashed; the rest follows once its issued tier writes have been acknowledged or have failed. -/
def State.frog (s : State) (cid : Nat) : State :=
  let c := s.cmd cid
  if s.reached cid then s.commit cid
  else
    let keys := c.dies.map (fun d => slotKey d c.cslot)
    let s := { s with data := { s.data with
      squash := s.data.squash ++ keys
      streams := s.data.streams.filter (fun r => !keys.contains (slotKey r.die r.cslot))
      fetches := s.data.fetches.filter (fun r => r.cid != cid)
      pendLines := s.data.pendLines.filter (fun p =>
        !(s.data.fetches.any (fun r => r.cid == cid && r.id == p.2))) } }
    if c.writes.isEmpty then s.endFrog cid
    else { s.setCmd cid { c with frogged := true } with seq := { s.seq with frogWait := s.seq.frogWait ++ [cid] } }

/-- Commands in flight that have not committed, oldest first. -/
def State.uncommitted (s : State) : List Nat :=
  (s.data.cmds.filter (fun c => !c.2.committed && !c.2.frogged && !c.2.started.isEmpty)).map (·.1)

/-- R81. The bit of SEQ_FAULT and of SEQ_INT_EN at position `i`. -/
def seqFaultFld (i : Nat) : Fld := { Reg.SEQ_FAULT_TICK_OVERRUN with lo := i }

/-- R81. SEQ_FAULT as a number. -/
def State.seqFault (s : State) : Nat := (List.range 7).foldl (fun a i => a + s.reg (seqFaultFld i) * 2 ^ i) 0

/-- R81, R138. The 32-bit values of SEQ_IFAULT_INFO and SEQ_IFAULT_OP. -/
def State.ifaultInfo (s : State) : Nat :=
  s.reg Reg.SEQ_IFAULT_INFO_CAUSE + 2 ^ 8 * s.reg Reg.SEQ_IFAULT_INFO_STAGE + 2 ^ 11 * s.reg Reg.SEQ_IFAULT_INFO_DIE +
  2 ^ 12 * s.reg Reg.SEQ_IFAULT_INFO_CSLOT + 2 ^ 16 * s.reg Reg.SEQ_IFAULT_INFO_INDEX

/-- R138. -/
def State.ifaultOp (s : State) : Nat :=
  s.reg Reg.SEQ_IFAULT_OP_OPCODE + 2 ^ 16 * s.reg Reg.SEQ_IFAULT_OP_CYCLE

/-- R44 steps 2 and 3, R81, R450. Set SEQ_FAULT bit `i`: the row when the register was zero, vector 3 when enabled, and
the Tink event. -/
def State.setSeqFault (s : State) (cycle i : Nat) : State :=
  let s := if s.seqFault = 0 then
      (s.set Reg.SEQ_FAULT_ROW_LO_FROW_LO s.row).set Reg.SEQ_FAULT_ROW_HI_FROW_HI (s.row / 2 ^ 32)
    else s
  let s := s.set (seqFaultFld i) 1
  let s := if s.reg { Reg.SEQ_INT_EN_TICK_OVERRUN with lo := i } = 1 then s.msix 0 3 else s
  s.tinkAt cycle (0x0101 + i) noFn (leBytes s.ifaultInfo 4 ++ leBytes s.ifaultOp 4)

/-- Forget a command that will not rerun: at once, or when its frog completes. -/
def State.forget (s : State) (cid : Nat) : State :=
  if s.seq.frogWait.contains cid then { s with seq := { s.seq with dead := s.seq.dead ++ [cid] } } else s.dropCmd cid

/-- R104. The task of a graph that command `cid` ran is to run again. -/
def State.untask (s : State) (cid : Nat) : State :=
  let one (t : GTask) : GTask := if t.cid = some cid then { t with cid := none } else t
  { s with seq := { s.seq with graphs := s.seq.graphs.map (fun (g : Graph) => { g with tasks := g.tasks.map one }) } }

/-- R306, R447. Complete FAULTED the tasks of some graphs that have not been admitted. -/
def State.faultTasks (s : State) (gs : List Nat) : State :=
  (s.seq.graphs.filter (fun g => gs.contains g.id)).foldl (fun s g =>
    (g.tasks.filter (fun t => t.cid.isNone && !t.done)).foldl (fun s t => s.postCommand t.desc 0 .faulted [] 0) s) s

/-- R447. Complete FAULTED the admitted commands of the job of a frogged command: itself, and the tasks of its graph. -/
def State.faultCommands (s : State) (cids : List Nat) : State :=
  let gs := cids.map (fun c => (s.cmd c).graph)
  let hit := s.data.cmds.filter (fun c =>
    !c.2.committed && (cids.contains c.1 || (c.2.graph != 0 && gs.contains c.2.graph)))
  let s := hit.foldl (fun s c => s.completeCmd c.2 .faulted 0) s
  let s := s.faultTasks gs
  let s := hit.foldl (fun s c => s.forget c.1) s
  { s with seq := { s.seq with graphs := s.seq.graphs.filter (fun g => !gs.contains g.id) } }

/-- R66. Release the running step's roster lock. -/
def State.unlockRoster (s : State) : State :=
  match s.seq.step with
  | none => s
  | some st =>
    let b := 2 ^ (2 * st.model + st.buffer)
    let s := (s.clrBits Reg.SEQ_ROSTER_LOCK_LOCK b).clrBits Reg.SEQ_ROSTER_READY_READY b
    { s with serve := { s.serve with ready := Store.erase s.serve.ready (2 * st.model + st.buffer) } }

/-- R447, R370. Sequences of the step that runs end FAULTED. -/
def State.faultStep (s : State) : State :=
  match s.seq.step with
  | none => s
  | some st =>
    let s := s.unlockRoster
    let s := (s.serve.seqs.map (·.1)).foldl (fun s id => s.finishSeq id 3 .faulted) s
    let s := st.cids.foldl State.forget s
    { s with seq := { s.seq with step := none } }.set Reg.SEQ_STATUS_TEMPLATE 0xFFFF

/-- R564. The module is ACTIVE while rows run and IDLE otherwise. -/
def State.showActive (s : State) (isActive : Bool) : State :=
  if s.reg Reg.PWR_STATE_STATE ≤ 1 then s.set Reg.PWR_STATE_STATE (if isActive then 0 else 1) else s

/-- R45, R59. Enter FAULTED: RUN cleared, no row running. -/
def State.enterFaulted (s : State) : State :=
  let s := ((s.set Reg.SEQ_CTRL_RUN 0).set Reg.SEQ_STATUS_STATE 3).set Reg.SEQ_TOKEN_WAIT_WAIT 0
  let s := (((s.set Reg.SEQ_CTRL_HALT_STEP 0).set Reg.SEQ_CTRL_HALT_ROW 0).set Reg.SEQ_STATUS_RAMPING 0).showActive false
  { s.set Reg.SEQ_STATUS_GAP_ROW 0 with seq := { s.seq with active := false, replay := none, gap := none, window := none,
                                                            rampsLeft := 0 } }

/-- R410. After a job fault, the links that the running pattern names wait for FABRIC_RESYNC. -/
def State.needResync (s : State) : State :=
  { s with seq := { s.seq with resync := s.seq.resync ||| s.seq.record.upstream ||| s.seq.record.downstream } }

/-- R44, R47, R447, R451; a twinned primary reports FAULT (R447). The fault response for SEQ_FAULT bit `i` at `cycle`. -/
def State.faultResponse (s : State) (cycle i : Nat) : State :=
  let s := s.setSeqFault cycle i
  let cids := s.uncommitted
  let hadStep := s.seq.step.isSome
  let s := cids.foldl State.frog s
  let s := (s.sendTokens s.seq.record.downstream (some i)).needResync
  let s := s.faultCommands cids
  let s := if hadStep then s.faultStep else s
  let s := if s.waitsForMirror then s.sendTwin (.twinFault i) else s
  s.enterFaulted.startFlush

/-- R137, R138. Record the cause and place of a run-time fault while PATTERN_ERR is clear. -/
def State.recordIfault (s : State) (h : Issue) (op cause : Nat) : State :=
  if s.reg Reg.SEQ_FAULT_PATTERN_ERR = 1 then s
  else
    ((((((s.set Reg.SEQ_IFAULT_INFO_CAUSE cause).set Reg.SEQ_IFAULT_INFO_STAGE h.stage).set Reg.SEQ_IFAULT_INFO_DIE
      h.die).set Reg.SEQ_IFAULT_INFO_CSLOT h.cslot).set Reg.SEQ_IFAULT_INFO_INDEX h.index).set
      Reg.SEQ_IFAULT_OP_OPCODE op).set Reg.SEQ_IFAULT_OP_CYCLE h.cycle

/-- R137. A run-time instruction fault: PATTERN_ERR under R44. -/
def State.patternErr (s : State) (h : Issue) (op cause : Nat) : State :=
  (s.recordIfault h op cause).faultResponse h.cycle 4

end Sys2Proof.Machine
end

