-- ==== Sys2Proof/Machine/SkeinOps.lean ====
section
/-!
DEFINITION. The skein and the issue of an instruction: valid bits and allotments (R16, R90, R91), holds (R35), squashed
instructions (R103), saturation and non-finite counts (R196, R287), the roster held in the skein (R67 to R69), tensor
ranges in the tiers (R139, R162).
-/

namespace Sys2Proof.Machine

/-- Line addresses `a`, `a + 1`, … of `n` lines. -/
def range (a n : Nat) : List Nat := (List.range n).map (a + ·)

/-- R90. The contents of a line: zeros while its valid bit is clear. -/
def State.line (s : State) (a : Nat) : LineData := Store.getD s.data.skein a 0

/-- Whether a line's valid bit is set. -/
def State.valid (s : State) (a : Nat) : Bool := (Store.get? s.data.skein a).isSome

/-- `n` lines from `a` on, as a number. -/
def State.linesAt (s : State) (a n : Nat) : Nat := linesNat ((range a n).map s.line)

/-- R90. Write a line whole: its valid bit sets and its errors are gone. -/
def State.writeLine (s : State) (a : Nat) (d : LineData) : State :=
  { s with data := { s.data with skein := Store.put s.data.skein a d, bad := s.data.bad.filter (· != a) } }

/-- Write consecutive lines from `a` on. -/
def State.writeLines (s : State) (a : Nat) : List LineData → State
  | [] => s
  | d :: t => State.writeLines (s.writeLine a d) (a + 1) t

/-- R91. Whether line `a` lies in the allotment of slot `cslot` on the die that holds it. -/
def State.allotted (s : State) (cslot a : Nat) : Bool :=
  match Store.get? s.data.slots (slotKey (a / 2 ^ 20) cslot) with
  | some sl => sl.first ≤ a && a < sl.first + sl.count
  | none => false

/-- The command whose slot an instruction names on its die. -/
def State.slotCmd (s : State) (h : Issue) : Option Nat :=
  (Store.get? s.data.slots (slotKey h.die h.cslot)).map (·.cid)

/-- R90. Errors that have appeared on lines. -/
def State.spoil (s : State) (l : List Nat) : State :=
  if l.isEmpty then s else { s with data := { s.data with bad := s.data.bad ++ l } }

/-- R207, R258. Corrected errors of unit-local storage only count. -/
def State.unitCorrected (s : State) (h : Issue) : State :=
  if h.unitCe = 0 then s
  else if h.stage = 2 then s.inc Reg.MXA_ECC_CE_CE h.unitCe
  else if h.stage = 4 then s.inc Reg.VCH_ECC_CE_CE h.unitCe
  else s

/-- R207, R258. An uncorrectable error of unit-local storage counts and records its place. -/
def State.unitError (s : State) (h : Issue) : State :=
  match h.unitErr with
  | none => s
  | some (store, row) =>
    if h.stage = 2 then
      (((s.inc Reg.MXA_ECC_UE_UE 1).set Reg.MXA_ECC_LOC_ARRAY (h.die * 8 + h.unit)).set Reg.MXA_ECC_LOC_STORE store).set
        Reg.MXA_ECC_LOC_ROW row
    else
      ((((s.inc Reg.VCH_ECC_UE_UE 1).set Reg.VCH_ECC_LOC_CHAIN (h.die * 4 + h.unit)).set Reg.VCH_ECC_LOC_STORE
        store).set Reg.VCH_ECC_LOC_BUF (row / 1024)).set Reg.VCH_ECC_LOC_LINE row

/-- R34, R35, R90, R91, R103. Issue an instruction that reads `reads` and writes `writes`. A squashed instruction has no
effect; one whose read lines have a write pending holds: it has not issued, and is offered again (assumption 9); an
access outside the allotment is counted and faults with cause ALLOT; an uncorrectable word read faults with cause ECC;
otherwise `k` is the effect. -/
def State.issue (s : State) (h : Issue) (op : Nat) (reads writes : List Nat) (k : Nat → State → State) : State :=
  let s := s.spoil h.bad
  if s.data.squash.contains (slotKey h.die h.cslot) then s
  else if reads.any (fun a => s.data.pendLines.any (fun p => p.1 == a)) then s
  else
    let viol := ((reads ++ writes).filter (fun a => !s.allotted h.cslot a)).length
    if viol ≠ 0 then (s.inc Reg.SKN_ALLOT_VIOL_VIOL viol).patternErr h op 1
    else if reads.any (fun a => s.data.bad.contains a && s.valid a) then s.patternErr h op 6
    else
      let s := s.unitCorrected h
      if h.unitErr.isSome then (s.unitError h).patternErr h op 6 else
      match s.slotCmd h with
      | none => s
      | some cid => k cid (s.inc Reg.SKN_ZERO_READS_ZREADS (reads.filter (fun a => !s.valid a)).length)

/-- R196, R197, R287. Add to the saturation and non-finite counts of a stage (0 UNPACK to 4 PACK) of a die, and set the
slot's latches. -/
def State.counts (s : State) (h : Issue) (stage sat nf : Nat) : State :=
  let k := 8 * stage + 4 * h.die
  let s := (s.incHold (Reg.VCH_SAT_UNPACK_D0_COUNT.at k) sat).incHold (Reg.VCH_NF_UNPACK_D0_COUNT.at k) nf
  let bitv := 2 ^ h.cslot
  let s := if sat = 0 then s else s.orBits (if h.die = 0 then Reg.VCH_SAT_LATCH_DIE0 else Reg.VCH_SAT_LATCH_DIE1) bitv
  if nf = 0 then s else s.orBits (if h.die = 0 then Reg.VCH_NF_LATCH_DIE0 else Reg.VCH_NF_LATCH_DIE1) bitv

/-- The non-finite FP32 values among the elements of a number. -/
def nonFinites (x n : Nat) : Nat := ((elemsOf x 32 n).filter (fmtFp32Nf ·)).length
where
  /-- R196. An FP32 code that is a NaN or an infinity. -/
  fmtFp32Nf (c : Nat) : Bool := Fmt.fp32.writesNonFinite c

/-! ### The roster as the skein or a buffer holds it -/

/-- R68. The roster entry that 32 bytes spell. -/
def RosterEntry.ofBytes (l : List Byte) : RosterEntry :=
  let b22 := leField l 22 1
  let b23 := leField l 23 1
  let f4 := leField l 4 2
  let f8 := leField l 8 4
  { seqId := leField l 0 4
    fn := bits f4 0 11
    motifSlot := leField l 6 1
    segment := leField l 7 1
    position := bits f8 0 22
    tokCount := leField l 12 2
    tokOffset := leField l 14 2
    kv := Handle.ofNat (leField l 16 6)
    rngStream := bits b22 0 4
    swatchCount := bits b22 4 4
    prefill := bit b23 0
    lastSlice := bit b23 1
    sample := bit b23 2
    swIndex := leField l 24 2
    tag := leField l 28 4
    rsvd := bits f4 11 5 + bits f8 22 10 + bits b23 3 5 + leField l 26 2 }

/-- R68. The 32 bytes of a roster entry. -/
def RosterEntry.bytes (e : RosterEntry) : List Byte :=
  leBytes e.seqId 4 ++ leBytes e.fn 2 ++ leBytes e.motifSlot 1 ++ leBytes e.segment 1 ++ leBytes e.position 4 ++
  leBytes e.tokCount 2 ++ leBytes e.tokOffset 2 ++ leBytes e.kv.toNat 6 ++
  leBytes (e.rngStream + 16 * e.swatchCount) 1 ++
  leBytes (b2n e.prefill + 2 * b2n e.lastSlice + 4 * b2n e.sample) 1 ++ leBytes e.swIndex 2 ++ leBytes 0 2 ++
  leBytes e.tag 4

/-- R69. The handles of a 64-byte swatch list; the second component is not zero when a reserved field is not. -/
def swListOfBytes (l : List Byte) : List Handle × Nat :=
  ((List.range 8).map (fun i => Handle.ofNat (leField l (8 * i) 6)),
   (List.range 8).foldl (fun a i => a + leField l (8 * i + 6) 2) 0)

/-- R67 to R69. The roster that a region's bytes spell. -/
def Roster.ofBytes (l : List Byte) : Roster :=
  let n := bits (leField l 10 2) 0 12 + 1
  let k := bits (leField l 20 4) 0 13
  let tt := leField l 12 4
  let sc := leField l 16 2
  let entries := (List.range n).map (fun i => RosterEntry.ofBytes (slice l (32 + 32 * i) 32))
  let lists := (List.range k).map (fun i => swListOfBytes (slice l (32 + 32 * n + 64 * i) 64))
  { step := leField l 0 8
    template := leField l 8 2
    tokTotal := bits tt 0 17
    segments := bits sc 0 9
    model := bits (leField l 18 1) 0 3
    entries := entries
    swLists := lists.map (·.1)
    rsvd := bits (leField l 10 2) 12 4 + bits tt 17 15 + bits sc 9 7 + bits (leField l 18 1) 3 5 + leField l 19 1 +
      bits (leField l 20 4) 13 19 + leField l 24 8 + (entries.map (·.rsvd)).foldl (· + ·) 0 +
      (lists.map (·.2)).foldl (· + ·) 0 }

/-- R67 to R69. The bytes of a roster. -/
def Roster.bytes (r : Roster) : List Byte :=
  leBytes r.step 8 ++ leBytes r.template 2 ++ leBytes (r.entries.length - 1) 2 ++ leBytes r.tokTotal 4 ++
  leBytes r.segments 2 ++ leBytes r.model 1 ++ leBytes 0 1 ++ leBytes r.swLists.length 4 ++ leBytes 0 8 ++
  r.entries.flatMap RosterEntry.bytes ++
  r.swLists.flatMap (fun l => (List.range 8).flatMap (fun i => leBytes (l.getD i Handle.none).toNat 8))

/-- Lines that a roster of `n` entries and `k` swatch lists takes. -/
def rosterLines (n k : Nat) : Nat := ceilDiv (32 + 32 * n + 64 * k) 256

/-- The lines of a roster whose header lies at `a`, as the header's counts give them. -/
def State.rosterRange (s : State) (a : Nat) : List Nat :=
  let x := (s.line a).toNat
  range a (rosterLines (bits x 80 12 + 1) (bits x 160 13))

/-- The roster whose header lies at skein line `a`. -/
def State.rosterAt (s : State) (a : Nat) : Roster := Roster.ofBytes ((s.rosterRange a).flatMap (fun i => bytesOfLine (s.line i)))

/-! ### Tensors in the tiers -/

/-- The function that owns a command. -/
def State.cmdFn (s : State) (cid : Nat) : Nat := (s.cmd cid).desc.fn

/-- R117. Operand `i` of a command. -/
def State.operand (s : State) (cid i : Nat) : OperandEntry := (s.cmd cid).desc.operands.getD i ⟨Handle.none, 0, 0⟩


end Sys2Proof.Machine
end

