-- ==== Sys2Proof/Machine/AccessOps.lean ====
section
/-!
DEFINITION. Checked accesses to the near tier: the Region Table's rules for data-path agents (R461), denials (R462), the
resolution of operand handles at issue (R137, R139) and the layout of key/value tensors (R331).
-/

namespace Sys2Proof.Machine

/-- R461, R494. The agents of an access, in the order of SEC_DENY_INFO.AGENT. -/
inductive Agent where
  | dp | me | cc | dbg | host | link
  deriving DecidableEq, Repr

/-- R494. The code of an agent. -/
def Agent.code (a : Agent) : Nat :=
  match a with
  | .dp => 0
  | .me => 1
  | .cc => 2
  | .dbg => 3
  | .host => 4
  | .link => 5

/-- R462. The Tink event of a denied access: at most one an agent in a millisecond, with the count suppressed since the last.
Whether the millisecond has passed is a free value (assumption 51). -/
def State.denyLog (s : State) (a : Agent) (isWrite : Bool) (cls owner frame : Nat) : State :=
  let keep (s : State) (n : Nat) : State := { s with sec := { s.sec with denials := Store.put s.sec.denials a.code n } }
  let log (s : State) (n : Nat) : State :=
    (keep s 0).tinkLog (if isWrite then 0x0B02 else 0x0B01) owner
      (leBytes a.code 1 ++ leBytes cls 1 ++ leBytes owner 2 ++ leBytes frame 3 ++ leBytes 0 1 ++ leBytes n 4)
  match Store.get? s.sec.denials a.code with
  | none => log s 0
  | some n => if s.draw.1 % 2 = 0 then log s.draw.2 n else keep s.draw.2 (n + 1)

/-- R462. A denied access: counted, flagged, recorded when the flag was clear, and logged. -/
def State.deny (s : State) (a : Agent) (isWrite : Bool) (cls owner frame : Nat) : State :=
  let f := if isWrite then Reg.SEC_ERR_PROT_WRITE else Reg.SEC_ERR_PROT_READ
  let s := s.inc (if isWrite then Reg.SEC_DENIED_WR_COUNT else Reg.SEC_DENIED_RD_COUNT) 1
  let s := if s.reg f = 1 then s else
    ((((s.set Reg.SEC_DENY_INFO_AGENT a.code).set Reg.SEC_DENY_INFO_WRITE (b2n isWrite)).set Reg.SEC_DENY_INFO_CLASS
      cls).set Reg.SEC_DENY_INFO_OWNER owner).set Reg.SEC_DENY_FRAME_FRAME frame
  (s.secErr f).denyLog a isWrite cls owner frame

/-- R461. Whether a data-path access of function `fn` on behalf of command `cid` may reach tensor `t`. -/
def State.dpMay (s : State) (h : Issue) (cid fn : Nat) (t : Tensor) (isWrite : Bool) : Bool :=
  let serve := (s.cmd cid).desc.kind == 1
  let grants := match Store.get? s.data.slots (slotKey h.die h.cslot) with | some sl => sl.grants | none => 0
  match t.keyIndex with
  | 0 => !isWrite || fn == 0
  | 1 => fn == t.fn
  | 2 => fn == 0 && serve
  | k => !isWrite && 8 ≤ k && k < 16 && bit grants (k - 8)

/-- What resolving a range of a tensor at issue gives (R137, R139). -/
inductive Resolved where
  | good (t : Tensor)
  | bad (cause : Nat)
  | denied (t : Tensor)
  deriving DecidableEq, Repr

/-- R137, R139, R323. Resolve `count` lines from `offset` of handle `x` for function `fn`: STALE, ABSENT, FMT, BOUNDS and
the Region Table's rules, in this order. `fmt` is `none` where no format is compared. -/
def State.resolve (s : State) (h : Issue) (cid fn : Nat) (x : Handle) (fmt : Option Nat) (offset count : Nat)
    (isWrite : Bool) : Resolved :=
  match s.tensor? x with
  | none => .bad 5
  | some t =>
    if t.tier = .deep ∨ t.tier = .host ∨ (isWrite ∧ t.tier ≠ .near) then .bad 4
    else if (match fmt with | some f => t.format != f | none => false) then .bad 2
    else if offset + count > t.size then .bad 3
    else if t.tier = .near ∧ !s.dpMay h cid fn t isWrite then .denied t
    else .good t

/-- A denied data-path access also raises PATTERN_ERR with cause ALLOT (R462). -/
def State.dpDeny (s : State) (h : Issue) (op : Nat) (t : Tensor) (isWrite : Bool) : State :=
  (s.deny .dp isWrite t.keyIndex t.fn (frameOf t.loc)).patternErr h op 1

/-- Lines `offset` to `offset + count − 1` of a near tensor. -/
def State.tensorLines (s : State) (t : Tensor) (offset count : Nat) : List LineData :=
  (range (t.loc + offset) count).map s.nearLine

/-- R141. One token's place in a sequence's history: a swatch or the own tensor, and the position in it. -/
def historyAt (s : State) (sw : List Handle) (own : Handle) (p : Nat) : Handle × Nat :=
  match sw with
  | [] => (own, p)
  | w :: t =>
    let n := (Store.get? s.tier.swatches (ttKey w.fn w.idx)).elim 0 (·.length)
    if p < n then (w, p) else historyAt s t own (p - n)

/-- R68, R163. The tokens of a list of swatches. -/
def State.swatchTokens (s : State) (sw : List Handle) : Nat :=
  sw.foldl (fun a w => a + (Store.get? s.tier.swatches (ttKey w.fn w.idx)).elim 0 (·.length)) 0

end Sys2Proof.Machine
end

