-- ==== Sys2Proof/Machine/LandOps.lean ====
section
/-!
DEFINITION. Granules of moves as they land (R108, R109, R335, R338, R341), the loads and parks that moves finish (R359,
R361, R362), and new Tensor Table entries (R324).
-/

namespace Sys2Proof.Machine

/-! ### Tensor Table entries -/

/-- R324. The code of a KIND. -/
def TKind.num (k : TKind) : Nat :=
  match k with
  | .data => 0
  | .scale => 1
  | .kv => 2
  | .motif => 3
  | .swatch => 4
  | .code => 5
  | .context => 6
  | .moveDesc => 7
  | .base => 8

/-- R324. The KIND of a code. -/
def TKind.ofNum (n : Nat) : Option TKind :=
  match n with
  | 0 => some .data
  | 1 => some .scale
  | 2 => some .kv
  | 3 => some .motif
  | 4 => some .swatch
  | 5 => some .code
  | 6 => some .context
  | 7 => some .moveDesc
  | 8 => some .base
  | _ => none

/-- R324. The 64 bytes of an entry. -/
def Tensor.bytes (t : Tensor) : List Byte :=
  let flags := b2n t.dirty + 2 * b2n t.incomplete + 4 * b2n t.pinned + 8 * b2n t.homeSet + 16 * b2n t.readOnly +
    32 * b2n t.poisoned + 64 * b2n t.moving + 128 * b2n t.parked
  leBytes t.idx 3 ++ leBytes 0 1 ++ leBytes t.fn 2 ++ leBytes t.gen 2 ++ leBytes (t.tier.code + 4 * t.kind.num) 1 ++
    leBytes flags 1 ++ leBytes t.format 1 ++ leBytes t.keyIndex 1 ++ leBytes t.size 4 ++ leBytes t.loc 5 ++
    leBytes 0 3 ++ leBytes t.home 5 ++ leBytes 0 1 ++ leBytes t.wseq 2 ++ leBytes t.scaleLink 3 ++ leBytes 0 1 ++
    leBytes t.kspec 4 ++ leBytes t.lastUse 6 ++ leBytes 0 2 ++ leBytes t.dirtyRow 6 ++ leBytes 0 10

/-- A fresh entry of a function: its next index, nothing set. -/
def State.blankTensor (s : State) (fn : Nat) (kind : TKind) (format size : Nat) : Tensor :=
  let i := s.freshIndex fn
  { fn := fn, idx := i.1, gen := i.2, tier := .near, kind := kind, dirty := false, incomplete := false, pinned := false
    homeSet := false, readOnly := false, poisoned := false, moving := false, parked := false, format := format
    keyIndex := classOf fn, size := size, loc := 0, home := 0, wseq := 0, scaleLink := 0, kspec := 0
    lastUse := s.row, dirtyRow := 0 }

/-- R345. Enter a new tensor in the Tensor Table and count it. -/
def State.enter (s : State) (t : Tensor) : State :=
  let q := s.quota t.fn
  (s.setTensor t).setQuota t.fn { q with tensorUsed := q.tensorUsed + 1 }

/-- R323, R346. Why `n` more tensors of a function have no room in the Tensor Table, if they have none. -/
def State.tableFull (s : State) (fn n : Nat) : Option Status :=
  let q := s.quota fn
  if q.tensorLimit < q.tensorUsed + n then some .quota
  else if 2097152 < s.tier.tt.length + n then some .noCapacity
  else none

/-- R345. The 128 bytes of a quota snapshot: sizes in MiB, used ones rounded up. -/
def Quota.bytes (q : Quota) (row : Nat) : List Byte :=
  let mib (n : Nat) : List Byte := leBytes (ceilDiv n 256) 4
  mib q.nearLimit ++ mib q.nearReserve ++ mib q.nearUsed ++ mib q.deepLimit ++ mib q.deepUsed ++ mib q.borrowLimit ++
    mib q.borrowUsed ++ leBytes q.tensorLimit 4 ++ leBytes q.tensorUsed 4 ++ leBytes q.motifLimit 2 ++
    leBytes q.motifUsed 2 ++ leBytes (ceilDiv q.dirtyLines 4) 4 ++ leBytes 0 4 ++ leBytes row 6 ++ leBytes 0 74

/-! ### One granule -/

/-- The stretches of a move that its granule `g` covers: where from, the first line within the stretch, and lines. -/
def Move.parts (m : Move) (g : Nat) : List (MoveSeg × Nat × Nat) :=
  let n := m.granuleLines
  let lo := g * n
  let hi := lo + n
  (m.segs.foldl (fun (a : Nat × List (MoveSeg × Nat × Nat)) x =>
    let first := max a.1 lo
    let last := min (a.1 + x.lines) hi
    (a.1 + x.lines, if first < last then a.2 ++ [(x, first - a.1, last - first)] else a.2)) (0, [])).2

/-- R109, R336. The lines of granule `g` land: from the tier, or `ext` where the source lies outside. -/
def State.copyGranule (s : State) (m : Move) (g : Nat) (ext : List LineData) : State :=
  ((m.parts g).foldl (fun (a : State × List LineData) (p : MoveSeg × Nat × Nat) =>
    let n := 256 * p.2.2
    let off := 256 * p.2.1
    let x := p.1
    let cells := a.1.cellsAt x.srcTier x.srcLoc off n a.2
    (a.1.putCells m.fn x.dstTier x.dstLoc off n cells,
      if x.srcTier = .host ∨ x.srcTier = .borrowed then a.2.drop p.2.2 else a.2)) (s, ext)).1

/-- R335. The last granule of a converting move has been read: its data and scale lines are written. -/
def State.writeConverted (s : State) (m : Move) : State :=
  match s.entry (ttKey m.desc.src.fn m.desc.src.idx), s.copied m with
  | some a, d :: rest =>
    let p := (s.model (bits d.kspec 0 3)).params
    let signs := ((s.tensor? m.desc.sign).map (fun t => (s.nearLine t.loc).toNat)).getD 0
    match Fmt.ofCode a.format with
    | some f =>
      let r := cvtLines m.desc f (linesNat m.buf) (p.rhtBlock.getD 0) signs
      let s := s.writeNear d.loc (r.1.take d.size)
      match rest with
      | c :: _ => s.writeNear c.loc (r.2.take c.size)
      | [] => s
    | none => s
  | _, _ => s

/-- R341. A flash read of a move is lost after parity. -/
def State.lostRead (s : State) (m : Move) : State :=
  let s := (s.inc Reg.FTL_UNCORR_COUNT 1).err Reg.MOV_INT_POISON Reg.MOV_INT_EN_EN 2 4
  let s := s.tinkOpen 6 m.fn (leBytes m.desc.src.toNat 6)
  let s := s.failMove m .faulted
  match s.entry (ttKey m.desc.src.fn m.desc.src.idx) with
  | some t =>
    if t.tier = .near ∧ !t.dirty then
      let q := s.quota t.fn
      let s := (s.releaseDeep t.home t.deepUnits).setQuota t.fn { q with deepUsed := q.deepUsed - 64 * t.deepUnits }
      (s.setTensor { t with homeSet := false, home := 0 }).writeBack { t with homeSet := false, home := 0 }
    else s.setTensor { t with poisoned := true }
  | none => s

/-- R364. GRANULES and the write counters of the flash array advance for a granule. -/
def State.countGranule (s : State) (m : Move) (g : Nat) : State :=
  let s := s.inc2 Reg.MOV_GRANULES_LO_GRAN_LO Reg.MOV_GRANULES_HI_GRAN_HI 1
  let deep := ((m.parts g).filter (fun p => p.1.dstTier == .deep)).map (·.2.2)
  s.wroteFlash (deep.foldl (· + ·) 0)

/-- R461. Whether the Move Engine may reach a near-tier frame for a move of function `fn`. -/
def meMay (fn : Nat) (isWrite : Bool) (r : Region) : Bool :=
  r.state == 1 && (match r.cls with
    | 0 => fn == 0 || !isWrite
    | 1 => r.owner == fn
    | k => 8 ≤ k && k < 16 && fn == 0)

/-- R461, R462. The first near-tier frame of granule `g` that the Move Engine may not reach, and whether it would be written. -/
def State.meDenied (s : State) (m : Move) (g : Nat) : Option (Nat × Bool) :=
  let frames (t : Tier) (loc off n : Nat) (isWrite : Bool) : List (Nat × Bool) :=
    if t = .near ∧ n ≠ 0 then
      (List.range (frameOf (loc + off + n - 1) - frameOf (loc + off) + 1)).map (fun i => (frameOf (loc + off) + i, isWrite))
    else []
  ((m.parts g).flatMap (fun (p : MoveSeg × Nat × Nat) =>
    frames p.1.srcTier p.1.srcLoc p.2.1 p.2.2 false ++ frames p.1.dstTier p.1.dstLoc p.2.1 p.2.2 true)).find?
    (fun (f : Nat × Bool) => !meMay m.fn f.2 (s.region f.1))

/-- R462, R339. A denied access of the Move Engine ends its move. -/
def State.denyMove (s : State) (m : Move) (f : Nat × Bool) : State :=
  let r := s.region f.1
  (s.deny .me f.2 (if r.state = 1 then r.cls else 0xFE) r.owner f.1).failMove m .denied

/-- R109, R112, R324, R339, R341, R462. The next granule of a move lands or fails; the last one ends the move. `fail` is 1 for a flash
read lost after parity, 2 for a failed host transfer, other non-zero values for a blob whose tag fails (R480). -/
def State.landGranule (s : State) (m : Move) (lines : List LineData) (fail : Nat) : State :=
  let g := m.granules
  let stale := match s.entry (ttKey m.desc.src.fn m.desc.src.idx) with
    | some t => t.gen != m.srcGen
    | none => true
  if stale then s.failMove m .generationStale
  else if fail = 1 then s.lostRead m
  else if fail = 2 then (s.dmaFail m.fn).failMove m .faulted
  else if fail ≠ 0 then s.failMove m .faulted
  else if let some f := s.meDenied m g then s.denyMove m f
  else
    let s := (s.countGranule m g).mapTensor (ttKey m.desc.src.fn m.desc.src.idx) (fun t => { t with lastUse := s.row })
    let m := { m with granules := g + 1 }
    let m := if m.desc.cvt = 0 then m else { m with buf := m.buf ++ lines }
    let s := if m.desc.cvt = 0 then s.copyGranule m g lines else s
    let s := { s with tier := { s.tier with moves := s.tier.moves.map (fun (x : Move) => if x.id = m.id then m else x) } }
    if m.granules < m.total then s.writeProgress m 1 .ok
    else (if m.desc.cvt = 0 then s else s.writeConverted m).finishMove m

/-- R338. The move served next: rounds give one granule to each function with a running move, lowest function first. -/
def State.nextServed (s : State) : Option Move :=
  if s.flag Reg.MOV_CTRL_PAUSE then none
  else
    let live := s.tier.moves.filter (fun m => m.running && !m.stopped)
    let fns := sortBy (live.map (·.fn)) (fun a b => a ≤ b)
    let fn := ((fns.find? (fun f => s.tier.served < f)).orElse (fun _ => fns.head?))
    fn.bind (fun f => live.find? (fun m => m.fn == f))

/-! ### Base models -/

/-- R359. Record a model slot, with what MTF_MODEL_CFG shows of it left to the reader of that register. -/
def State.setModel (s : State) (m : Nat) (x : ModelSlot) : State :=
  { s with tier := { s.tier with models := Store.put s.tier.models m x } }

/-- R359 step 7. The bytes of a slot's shards: each one's data lines, then its scale lines. -/
def State.shardBytes (s : State) (x : ModelSlot) : List Byte :=
  x.tensors.flatMap (fun k => match s.entry k with
    | some t => (s.pair t).flatMap (fun u => s.tensorBytes u 0 u.size)
    | none => [])

/-- R418 to R421. Send a slot's granules from `first` up to `upto` on the link that a stream leaves on. -/
def State.sendGranules (s : State) (r : Relay) (x : ModelSlot) (first upto : Nat) : State :=
  match r.linkOut with
  | none => s
  | some l =>
    let bytes := s.shardBytes x
    let one (g : Nat) : List LineData :=
      let b := slice bytes (2 ^ 20 * g) (2 ^ 20)
      (List.range (ceilDiv b.length 256)).map (fun i => lineOfBytes (slice b (256 * i) 256))
    ((List.range upto).drop first).foldl (fun (s : State) g => s.send l (.bulk r.stream g 0 (one g))) s

/-- R418, R421. Send a slot's granules from `first` on, and the digest of CLOSE, on the link of an accepted stream. -/
def State.sendStream (s : State) (r : Relay) (x : ModelSlot) (d : BitVec 256) (first : Nat) : State :=
  let s := s.sendGranules r x first r.total
  r.linkOut.elim s (fun l => s.send l (.bulkClose r.stream d))

/-- R359. A load fails: its moves and allocations are released, the slot is EMPTY, the request answered. -/
def State.failModel (s : State) (m : Nat) (st : Status) : State :=
  let x := s.model m
  let s := { s with
    tier := { s.tier with moves := s.tier.moves.filter (fun v => v.cause != .model m)
                          ended := s.tier.ended.filter (fun e => e.1 != .model m) }
    fab := { s.fab with relays := s.fab.relays.filter (fun r => r.slot != m) } }
  let s := x.tensors.foldl (fun (s : State) k => match s.entry k with
    | some t => s.dropPair t
    | none => s) s
  let s := s.setModel m ModelSlot.empty
  match x.ticket with
  | some t => s.reply t st []
  | none => s

/-- R421. The status that a slot's relay stream met at the next module. -/
def State.relayStatus (s : State) (m : Nat) : Status :=
  ((s.fab.relays.find? (fun r => r.slot == m)).map (·.outStatus)).getD .ok

/-- R359 steps 7 and 8. Every shard of a slot has landed: its digest is checked and it becomes RESIDENT. -/
def State.finishModel (s : State) (m : Nat) : State :=
  let x := s.model m
  let d := Config.sha256 (s.shardBytes x)
  if x.params.digest ≠ 0 ∧ x.params.digest ≠ d then s.failModel m .faulted
  else
    let y := { x with state := 2, digest := d, ticket := none }
    let s := s.setModel m y
    let s := x.tensors.foldl (fun (s : State) k => match s.entry k with
      | some t => (s.pair t).foldl (fun (s : State) u => s.setTensor { u with incomplete := false, moving := false }) s
      | none => s) s
    let s := match s.fab.relays.find? (fun r => r.slot == m && r.linkIn.isNone && r.accepted) with
      | some r => s.sendStream r y d 0
      | none => s
    match x.ticket with
    | some t => s.reply t .ok (leBytes d.toNat 32 ++ leBytes (s.relayStatus m).code 2)
    | none => s

/-! ### Parks and restores -/

/-- R361. Move on with the parks that run: each PARKED near tensor that nothing holds is sent to the deep tier, in
ascending index. -/
def State.pumpPark (s : State) (fn : Nat) : State :=
  let mine := (s.tier.tt.map (·.2)).filter (fun t => t.fn == fn && t.parked && t.tier == .near && !t.moving &&
    !t.pinned && !s.boundMotif t.key && t.kind != .scale)
  mine.foldl (fun (s : State) t =>
    match s.toDeep (MoveDesc.reloc t .deep) fn (.park fn) t with
    | .ok (m, s) => s.beginMove m
    | .error st => { s with tier := { s.tier with ended := s.tier.ended ++ [(.park fn, st)] } }) s

/-- R361. End a function's park with a status. -/
def State.endPark (s : State) (fn : Nat) (st : Status) : State :=
  match s.tier.parks.find? (fun p => p.1 == fn) with
  | some p => { s with tier := { s.tier with parks := s.tier.parks.filter (fun p => p.1 != fn) } }.reply p.2 st []
  | none => s

/-- R361 step 4. A park is done when every PARKED tensor has left the near tier and the old space is zero-filled. -/
def State.parkDone (s : State) (fn : Nat) : Bool :=
  !s.tier.tt.any (fun c => c.2.fn == fn && c.2.parked && c.2.tier == .near) &&
    !s.tier.zeroPend.any (fun z => z.2.2 / 2 ^ 24 == fn)

/-- R362. End a function's restore with a status. -/
def State.endRestore (s : State) (fn : Nat) (st : Status) : State :=
  match s.tier.restores.find? (fun p => p.1 == fn) with
  | some p => { s with tier := { s.tier with restores := s.tier.restores.filter (fun p => p.1 != fn) } }.reply p.2 st []
  | none => s

/-- Settle what the end of one move was for. -/
def State.settleOne (s : State) (e : MoveCause × Status) : State :=
  match e.1 with
  | .place t => s.reply t e.2 []
  | .park fn => if e.2 = .ok then s else s.endPark fn .faulted
  | .restore fn =>
    if e.2 ≠ .ok then s.endRestore fn .faulted
    else if s.tier.moves.any (fun m => m.cause == .restore fn) then s else s.endRestore fn .ok
  | .model m =>
    if (s.model m).state ≠ 1 then s
    else if e.2 ≠ .ok then s.failModel m e.2
    else if s.tier.moves.any (fun v => v.cause == .model m) then s else s.finishModel m
  | _ => s

/-- Settle the ends of moves, and the parks and sleeping tensors that wait. -/
def State.settle (s : State) : State :=
  let s := s.tier.parks.foldl (fun (s : State) p => s.pumpPark p.1) s
  let now := s.tier.ended
  let s := { s with tier := { s.tier with ended := [] } }
  let s := now.foldl State.settleOne s
  s.tier.parks.foldl (fun (s : State) p => if s.parkDone p.1 then s.endPark p.1 .ok else s) s

end Sys2Proof.Machine
end

