-- ==== Sys2Proof/Machine/Fetch.lean ====
section
/-!
DEFINITION. The FETCH stage: FETCH.T, FETCH.S (R139), FETCH.KV (R141), MOVE.T (R142), and the tier reads that complete
later (R35, R140).
-/

namespace Sys2Proof.Machine

/-- R140. Ask the lender for a range of a borrowed tensor. -/
def State.askBorrowed (s : State) (tag : Nat) (t : Tensor) (offset count : Nat) : State :=
  let b := borrowedLoc t.loc
  s.send b.1 (.breadReq tag t.fn t.idx t.gen b.2.1 (b.2.2 + offset) count)

/-- R35, R139. Leave `count` lines from `dst` on pending for a fetch of tensor `t`. -/
def State.pendFetch (s : State) (h : Issue) (op cid dst : Nat) (t : Tensor) (offset count : Nat) : State :=
  let id := s.data.nextFetch
  let r : FetchReq := ⟨id, cid, h.die, h.cslot, dst, ⟨t.fn, t.gen, t.idx⟩, offset, count, 0, h.index, op⟩
  let s := { s with data := { s.data with
    fetches := s.data.fetches ++ [r]
    nextFetch := id + 1
    pendLines := s.data.pendLines ++ (range dst count).map (fun a => (a, id)) } }
  if t.tier = .borrowed then s.askBorrowed id t offset count else s

/-- R139. Bring `count` lines of a resolved tensor to `dst`: at once from the near tier, or pending. -/
def State.bring (s : State) (h : Issue) (op cid dst : Nat) (t : Tensor) (offset count : Nat) : State :=
  let s := s.touch t
  if h.late ∨ t.tier = .borrowed then s.pendFetch h op cid dst t offset count
  else s.writeLines dst (s.tensorLines t offset count)

/-- R139. A fetch from a handle, or the fault that its resolution raises (R137, R462). -/
def State.fetchFrom (s : State) (h : Issue) (op cid : Nat) (x : Handle) (fmt : Option Nat) (dst offset count : Nat) :
    State :=
  match s.resolve h cid (s.cmdFn cid) x fmt offset count false with
  | .bad c => s.patternErr h op c
  | .denied t => s.dpDeny h op t false
  | .good t => s.bring h op cid dst t offset count

/-- R627. The near-tier line at which roster buffer (m, b) begins. -/
def rosterBase (m b : Nat) : Nat := (0x4780000000 + (2 * m + b) * 0x62000) / 256

/-- R64. The lines of one roster buffer: 392 KiB. -/
def rosterBufLines : Nat := 392 * 1024 / 256

/-- R435. Note an uncorrectable error in lines of a tensor, for the next digest point. -/
def State.noteEcc (s : State) (x : Handle) (first count : Nat) : State :=
  if s.reg Reg.TWN_STATE_STATE = 0 then s
  else { s with twin := { s.twin with errs := s.twin.errs ++ [(ttKey x.fn x.idx, first, count)] } }

/-- R139. FETCH.T (`op` 0x00) and FETCH.S (`op` 0x01). -/
def State.fetch (s : State) (op : Nat) (h : Issue) (o : FetchOp) : State :=
  let n := o.lcnt + 1
  s.issue h op [] (range o.dst n) (fun cid s =>
    if h.tierEcc then
      (match o.src with
        | 0 => s.noteEcc (s.operand cid o.opd).handle o.offset n
        | 2 => s.noteEcc (s.cmd cid).desc.code o.offset n
        | _ => s).patternErr h op 6
    else
      match o.src with
      | 0 => s.fetchFrom h op cid (s.operand cid o.opd).handle (some o.fmt) o.dst o.offset n
      | 1 =>
        match s.seq.step with
        | none => s.patternErr h op 4
        | some st =>
          if o.offset + n > rosterBufLines then s.patternErr h op 3
          else s.writeLines o.dst ((range (rosterBase st.model st.buffer + o.offset) n).map s.nearLine)
      | 2 => s.fetchFrom h op cid (s.cmd cid).desc.code none o.dst o.offset n
      | _ => s)

/-- FETCH.T. -/
def execFetchT (h : Issue) (o : FetchOp) (s : State) : Result := ok (s.fetch 0x00 h o)

/-- FETCH.S. -/
def execFetchS (h : Issue) (o : FetchOp) (s : State) : Result := ok (s.fetch 0x01 h o)

/-- R141. The stretches of a history that lie in positions `lo` to `hi − 1`: tensor, first position in it, tokens, and
the stretch's place in the chunk. -/
def histSegs (s : State) (lo hi : Nat) : List Handle → Handle → Nat → Nat → List (Handle × Nat × Nat × Nat)
  | [], own, base, top =>
    let a := max lo base
    let b := min hi top
    if a < b then [(own, a - base, b - a, a - lo)] else []
  | w :: t, own, base, top =>
    let n := (Store.get? s.tier.swatches (ttKey w.fn w.idx)).elim 0 (·.length)
    let a := max lo base
    let b := min (min hi top) (base + n)
    (if a < b then [(w, a - base, b - a, a - lo)] else []) ++ histSegs s lo hi t own (base + n) top

/-- R118, R141. Whether a roster entry of function `fn` may name handle `x`. -/
def rosterMay (fn : Nat) (x : Handle) : Bool := x.fn == fn || x.fn == 0

/-- R141. Bring the stretches of one chunk in turn, stopping at the first that faults. -/
def State.bringSegs (s : State) (h : Issue) (cid fn layer lpt dst : Nat) : List (Handle × Nat × Nat × Nat) → State
  | [] => s
  | (x, p, n, at') :: t =>
    match s.tensor? x with
    | none => s.patternErr h 0x02 5
    | some w =>
      let first := kvLine w.capacity lpt layer p
      if !rosterMay fn x then s.dpDeny h 0x02 w false
      else
        match s.resolve h cid fn x none first (n * lpt) false with
        | .bad c => s.patternErr h 0x02 c
        | .denied w => s.dpDeny h 0x02 w false
        | .good w => State.bringSegs (s.bring h 0x02 cid (dst + at' * lpt) w first (n * lpt)) h cid fn layer lpt dst t

/-- R141. FETCH.KV: one chunk of an entry's history, then its mask lines; positions that do not exist read as zero. -/
def execFetchKv (h : Issue) (o : FetchKvOp) (s : State) : Result :=
  let r := s.rosterAt o.roster
  let c := 256 * 2 ^ o.chlen
  let lpt := (s.model r.model).params.kvLpt
  let lo := o.chunk * c
  let lines := c * lpt + ceilDiv c 2048
  ok (s.issue h 0x02 (s.rosterRange o.roster) (range o.dst lines) (fun cid s =>
    if h.tierEcc then
      ((r.entries[o.entry]?).elim s (fun e =>
        s.noteEcc e.kv (kvLine ((s.entry (ttKey e.kv.fn e.kv.idx)).elim 0 Tensor.capacity) lpt o.layer lo) (c * lpt))).patternErr h 0x02 6
    else
      let e? := r.entries[o.entry]?
      let top := e?.elim 0 (·.position)
      let mask := packElems 1 ((List.range c).map (fun i => b2n (lo + i < top)))
      let s := s.writeLines o.dst (List.replicate (c * lpt) 0 ++ natLines mask (ceilDiv c 2048))
      match e? with
      | none => s
      | some e =>
        s.bringSegs h cid e.fn o.layer lpt o.dst (histSegs s lo (lo + c) (r.swatchesOf e) e.kv 0 e.position)))

/-- R142. MOVE.T: the descriptor is handed to the Move Engine at the command's commit point. -/
def execMoveT (h : Issue) (o : MoveOp) (s : State) : Result :=
  ok (s.issue h 0x08 [] [] (fun cid s =>
    let c := s.cmd cid
    s.setCmd cid { c with moves := c.moves ++ [⟨(s.operand cid o.opd).handle, o.index⟩] }))

/-- Forget a pending fetch. -/
def State.dropFetch (s : State) (id : Nat) : State :=
  { s with data := { s.data with fetches := s.data.fetches.filter (fun r => r.id != id)
                                 pendLines := s.data.pendLines.filter (fun p => p.2 != id) } }

/-- The instruction that a pending fetch belongs to, for a fault it raises. -/
def FetchReq.issue (r : FetchReq) (cycle : Nat) : Issue :=
  ⟨r.die, 0, 0, r.cslot, 0, r.info, cycle, [], false, false, none, 0⟩

/-- R139. The lines of a fetch arrive: pending writes complete. -/
def State.land (s : State) (r : FetchReq) (l : List LineData) : State :=
  (s.writeLines r.dst (l.take r.count)).dropFetch r.id

/-- R140, R137. Resolve a fetch's handle again and read its whole range again. -/
def State.reread (s : State) (r : FetchReq) (cycle : Nat) : State :=
  match s.tensor? r.handle, Store.get? s.tier.tt (ttKey r.handle.fn r.handle.idx) with
  | some t, _ | none, some t =>
    if t.tier = .near then s.land r (s.tensorLines t r.offset r.count)
    else if t.tier = .borrowed then s.askBorrowed r.id t r.offset r.count
    else (s.dropFetch r.id).patternErr (r.issue cycle) r.op 4
  | none, none => (s.dropFetch r.id).patternErr (r.issue cycle) r.op 5

/-- R139, R140. TIER_READ_COMPLETE: a late near-tier read lands. -/
def execTierReadComplete (o : TierReadOp) (s : State) : Result :=
  match s.data.fetches.find? (fun r => r.id == o.id) with
  | none => ok s
  | some r =>
    ok (if o.ecc then ((s.noteEcc r.handle r.offset r.count).dropFetch r.id).patternErr (r.issue o.cycle) r.op 6
      else s.reread r o.cycle)

/-- R140. A fetch's borrowed read completes GENERATION_STALE: the range is read again, but a fourth time raises STALE. -/
def State.staleFetch (s : State) (r : FetchReq) (cycle : Nat) : State :=
  let s := s.inc Reg.MOV_STALE_STALE 1
  let r' := { r with stales := r.stales + 1 }
  if r'.stales ≥ 4 then (s.dropFetch r.id).patternErr (r.issue cycle) r.op 5
  else
    let s := { s with data := { s.data with fetches := s.data.fetches.map (fun (q : FetchReq) => if q.id = r.id then r' else q) } }
    s.reread r' cycle

/-- R140, R356. BREAD_CPL: the lines land, or a stale completion is re-resolved, four of which raise STALE. -/
def execBreadCpl (o : BreadCplOp) (s : State) : Result :=
  match s.data.fetches.find? (fun r => r.id == o.tag) with
  | none => ok s
  | some r =>
    if o.ecc then ok ((s.dropFetch r.id).patternErr (r.issue o.cycle) r.op 6)
    else if o.stale then ok (s.staleFetch r o.cycle)
    else ok (s.land r o.lines)

end Sys2Proof.Machine
end

