-- ==== Sys2Proof/Machine/ServeOps.lean ====
section
/-!
DEFINITION. What a step's commit does to the sequences it carried (R367 to R371), to swatches being built (R249, R250),
to charges (R378), to draining motifs (R230) and to pre-emptions (R386).
-/

namespace Sys2Proof.Machine

/-! ### Which rosters name what -/

/-- The rosters of the running step, until it commits, and of the ready ones. -/
def State.rosters (s : State) : List Roster := s.serve.ready.map (·.2)

/-- Whether a running or ready step carries a sequence. -/
def State.carries (s : State) (id : Nat) : Bool := s.rosters.any (fun r => r.entries.any (fun e => e.seqId == id))

/-- Whether a running or ready step names a function. -/
def State.carriesFn (s : State) (fn : Nat) : Bool := s.rosters.any (fun r => r.entries.any (fun e => e.fn == fn))

/-- Whether a running or ready step, or an uncommitted command, uses a hot slot bound to motif `k`. -/
def State.usesSlot (s : State) (slot k : Nat) : Bool :=
  s.rosters.any (fun r => r.entries.any (fun e => e.motifSlot == slot)) ||
    s.data.cmds.any (fun c => !c.2.committed && c.2.desc.motif.idx != 0 && ttKey c.2.desc.motif.fn c.2.desc.motif.idx == k)

/-! ### Motifs -/

/-- R255. Show the number of slots that are not free. -/
def State.showSlotsBound (s : State) : State := s.set Reg.MTF_SLOTS_BOUND_BOUND s.data.hotSlots.length

/-- R230, R232. Draining motifs that nothing uses any more become RESIDENT and their slots FREE. -/
def State.settleMotifs (s : State) : State :=
  (s.tier.motifs.filter (fun m => m.2.state == .draining && !s.usesSlot m.2.slot m.1)).foldl
    (fun (s : State) (m : Nat × Motif) =>
      let mo := { m.2 with state := .resident, slot := 0 }
      let s := { s with tier := { s.tier with motifs := Store.put s.tier.motifs m.1 mo } }
      { s with data := { s.data with hotSlots := Store.erase s.data.hotSlots m.2.slot
                                     hotAreas := s.data.hotAreas.filter (fun a => a.1 % 256 != m.2.slot) } }.showSlotsBound) s

/-- R230, R232. A bound motif goes to DRAINING, its slot with it. -/
def State.drainMotif (s : State) (k : Nat) : State :=
  match Store.get? s.tier.motifs k with
  | some mo =>
    if mo.state = .serving ∨ mo.state = .training then
      let slots := (s.data.hotSlots).map (fun (h : Nat × HotSlot) => if h.1 = mo.slot then (h.1, { h.2 with state := 2 }) else h)
      let s := { s with
        tier := { s.tier with motifs := Store.put s.tier.motifs k { mo with state := .draining } }
        data := { s.data with hotSlots := slots } }
      match Store.get? s.tier.ctx (k / 2 ^ 24) with
      | some c =>
        let c := { c with bindings := c.bindings.map (fun b =>
          if b.mode ≠ 0 ∧ ttKey b.handle.fn b.handle.idx = k then ⟨Handle.none, 0, 0⟩ else b) }
        { s with tier := { s.tier with ctx := Store.put s.tier.ctx (k / 2 ^ 24) c } }
      | none => s
    else s
  | none => s

/-! ### Sequences -/

/-- R370 CAPACITY. The own position that a sequence's next token would take. -/
def SeqRec.ownPos (q : SeqRec) : Nat := q.pos - q.swLen

/-- The capacity of a sequence's KV tensor. -/
def State.seqCapacity (s : State) (q : SeqRec) : Nat := (s.entry (ttKey q.kv.fn q.kv.idx)).elim 0 Tensor.capacity

/-- R389. An interval of `us` microseconds between two tokens of a sequence: the stitch marker and its peak. -/
def State.tokenGap (s : State) (us : Nat) : State :=
  let s := s.peak Reg.SEQ_TOKGAP_PEAK_PEAK_US us
  s.sample 0 Reg.SEQ_TOKGAP_MARK_STATUS Reg.SEQ_TOKGAP_MARK_INT_EN Reg.SEQ_TOKGAP_CROSS_CROSSINGS
    (us > s.reg Reg.SEQ_TOKGAP_MARK_THRESH)

/-- R367. A sequence after a step that carries it as entry `e` commits in `row`. -/
def SeqRec.after (q : SeqRec) (e : RosterEntry) (row : Nat) : SeqRec :=
  let n := e.tokCount + 1
  let left := if q.phase = .prefill then q.remain - n else 0
  { q with
    pos := e.position + n
    remain := left
    tokNext := if q.phase = .prefill then q.tokNext + n else q.tokNext
    copied := q.copied - n
    phase := if q.phase = .prefill ∧ left = 0 then .decode else q.phase
    sampled := q.sampled + b2n e.sample
    lastRow := row }

/-- R367, R369, R370. What a committed step leaves of one sequence it carried. -/
def State.advanceSeq (now : Nat) (s : State) (e : RosterEntry) : State :=
  match Store.get? s.serve.seqs e.seqId with
  | none => s
  | some q =>
    if q.fn ≠ e.fn ∨ !s.hasCtx e.fn then s else
    let n := e.tokCount + 1
    let s := if q.phase = .decode ∧ e.sample ∧ q.sampled ≠ 0 then s.tokenGap (now - q.lastTime) else s
    let s := if q.phase = .prefill ∧ !e.sample then
        { s with serve := { s.serve with tokens := Store.modify s.serve.tokens e.seqId [] (·.drop n) } }
      else s
    let q' := { q.after e s.row with
      lastStep := if e.sample then s.stepNo else q.lastStep
      lastTime := if e.sample then now else q.lastTime }
    let s := { s with serve := { s.serve with seqs := Store.put s.serve.seqs e.seqId q' } }
    match Store.get? s.serve.builds e.seqId with
    | some k =>
      let s := match Store.get? s.tier.swatches k with
        | some w => s.setSwatch k { w with done := w.done + n }
        | none => s
      if q'.remain = 0 then s.finishSeq e.seqId 0 .ok else s
    | none =>
      if q'.phase = .decode ∧ q'.sampled ≥ q'.maxNew then s.finishSeq e.seqId 0 .ok
      else if q'.phase = .decode ∧ s.seqCapacity q' ≤ q'.ownPos then s.finishSeq e.seqId 1 .ok
      else s

/-- R370 CLOSED. Closing sequences that no running or ready step carries end. -/
def State.closeSeqs (s : State) : State :=
  (s.serve.seqs.filter (fun q => q.2.closing && !s.carries q.1)).foldl (fun (s : State) (q : Nat × SeqRec) => s.finishSeq q.1 2 .ok) s

/-! ### Keys and touch logs -/

/-- R477. Append an item to a function's touch log, unless the log holds it or is full, which sets its overflow flag. -/
def State.touchLog (s : State) (fn : Nat) (i : TouchItem) : State :=
  let l := Store.getD s.sec.touch fn []
  if l.contains i then s
  else if 1032 ≤ l.length then { s with sec := { s.sec with touchOver := (fn :: s.sec.touchOver).dedup } }
  else { s with sec := { s.sec with touch := Store.put s.sec.touch fn (l ++ [i]) } }

/-- R493. KEY_RELEASED and KEY_DESTROYED name a key by its kind (0 tenant, 1 base) and its function or slot. -/
def keyArgs (kind n : Nat) (rest : List Byte) : List Byte := leBytes kind 1 ++ leBytes 0 1 ++ leBytes n 2 ++ rest

/-- R470, R481, R493. A tenant key is destroyed, for a cause of event 0x0B04. -/
def State.destroyKey (s : State) (fn cause : Nat) : State :=
  if (Store.get? s.sec.keys fn).isNone then s
  else { s with sec := { s.sec with keys := Store.erase s.sec.keys fn } }.tinkLog 0x0B04 fn (keyArgs 0 fn (leBytes cause 1))

/-- R470, R481, R493. A base-owner key is destroyed. -/
def State.destroyBase (s : State) (slot cause : Nat) : State :=
  if (Store.get? s.sec.baseKeys slot).isNone then s
  else { s with sec := { s.sec with baseKeys := Store.erase s.sec.baseKeys slot } }.tinkLog 0x0B04 noFn
    (keyArgs 1 slot (leBytes cause 1))

/-! ### Charges -/

/-- R378. Charge a function `n` 1/256 rows. -/
def State.charge (s : State) (fn n : Nat) : State :=
  { s with serve := { s.serve with charges := Store.modify s.serve.charges fn 0 (· + n) } }

/-- R378. The charge of one function for a step: rows × its tokens / TOK_TOTAL, in 1/256 row, rounded down. -/
def Roster.charge (r : Roster) (rows fn : Nat) : Nat :=
  256 * rows * (((r.entries.filter (fun e => e.fn == fn)).map (fun e => e.tokCount + 1)).foldl (· + ·) 0) / r.tokTotal

/-- R378. Charge a committed step to the functions of its roster. -/
def State.chargeStep (s : State) (r : Roster) (rows : Nat) : State :=
  ((r.entries.map (·.fn)).dedup).foldl (fun s fn => s.charge fn (r.charge rows fn)) s

/-! ### Pre-emption -/

/-- R107, R119. Save a function's queue pointers to its context block. -/
def State.saveQueues (s : State) (fn : Nat) : State :=
  match Store.get? s.tier.ctx fn with
  | none => s
  | some c =>
    let c := { c with
      saveCount := (c.saveCount + 1) % 2 ^ 32
      saveRow := s.row
      sqHeads := (List.range 8).map (fun n => s.getF fn (sqReg Reg.HQ_SQ0_HEAD_HEAD n))
      sqTails := (List.range 8).map (fun n => s.getF fn (sqReg Reg.HQ_SQ0_TAIL_TAIL n)) }
    { s with tier := { s.tier with ctx := Store.put s.tier.ctx fn c } }

/-- R386 step 5. The last step that names a pre-empted function has committed. -/
def State.preempted (s : State) (p : Preempt) : State :=
  let one (x : Nat × SeqRec) (s : State) : State :=
    if x.2.fn = p.fn then
      let s := if x.2.phase = .queued then s else s.unpin x.2.swatches
      { s with serve := { s.serve with seqs := Store.put s.serve.seqs x.1 { x.2 with phase := .paused } } }
    else s
  let s := s.serve.seqs.foldl (fun s x => one x s) s
  let s := (s.saveQueues p.fn).setF p.fn Reg.GLB_FN_STATE_STATE 2
  let s := { s with serve := { s.serve with preempts := s.serve.preempts.filter (fun x => x.fn != p.fn) } }
  s.reply p.ticket .ok []

/-- R386, R110. Whether a move is the function's own work, not the Tier Manager's. -/
def MoveCause.ofFunction (c : MoveCause) : Bool :=
  match c with
  | .command _ _ _ | .place _ => true
  | _ => false

/-- R386 step 3. Frog a function's uncommitted training commands and stop its moves. The commands are forgotten: the
queues fetch their entries again from the saved heads (R107). -/
def State.frogFn (s : State) (fn : Nat) : State :=
  let hit := (s.data.cmds.filter (fun c => c.2.desc.fn == fn && !c.2.committed && !c.2.step && !s.seq.dead.contains c.1)).map (·.1)
  let s := hit.foldl (fun s cid => ((if (s.cmd cid).started.isEmpty then s else s.frog cid).untask cid).forget cid) s
  s.stopMoves (fun m => m.fn == fn && m.cause.ofFunction)

/-- R386. Pre-emptions that no running or ready step delays any more are complete; called at row boundaries and at a
step's commit. -/
def State.settlePreempts (s : State) : State :=
  s.serve.preempts.foldl (fun (s : State) (p : Preempt) => if s.carriesFn p.fn then s else (s.frogFn p.fn).preempted p) s

/-- R97, R172, R367 to R378. The commit of the running step: what it carried advances, its roster is released and
SEQ_STEP advances. -/
def State.commitStep (s : State) (now : Nat) : State :=
  match s.seq.step with
  | none => s
  | some st =>
    let rows := ((s.seq.templates.find? (fun t => t.id == st.template)).elim 1 (fun t => t.rows.length))
    let s := s.unlockRoster
    let s := { s with seq := { s.seq with step := some { st with ended := true } } }
    let s := s.chargeStep st.roster rows
    let s := st.roster.entries.foldl (State.advanceSeq now) s
    let s := { s with seq := { s.seq with gone := s.seq.gone.filter (fun f => s.carriesFn f || s.data.cmds.any (fun c => c.2.desc.fn == f && !c.2.committed)) } }
    let s := s.inc2 Reg.SEQ_STEP_LO_STEP_LO Reg.SEQ_STEP_HI_STEP_HI 1
    s.showSpace

end Sys2Proof.Machine
end

