-- ==== Sys2Proof/Machine/RosterOps.lean ====
section
/-!
DEFINITION. Templates and their choice (R60 to R62), the level in force and its caps (R556, R557), reserves (R379), the
filling of a roster (R373, R380), the check of a roster at step start (R70) and the latency bound (R382).
-/

namespace Sys2Proof.Machine

/-! ### Levels -/

/-- R557, R572, R573, R621. The thermal cap. -/
def State.thermalCap (s : State) : Nat :=
  max s.pwr.thermalCap (max (if s.pwr.critical || s.pwr.openCap then 7 else 0) (if s.pwr.failCap then 3 else 0))

/-- R557. The slowest cap in force, 0 for none. -/
def State.capLevel (s : State) : Nat := max s.pwr.gaugeCap (max s.thermalCap s.pwr.skipCap)

/-- R556. The present cap: the slowest of the level requested and every cap. -/
def State.cap (s : State) : Nat := max (s.reg Reg.PWR_LEVEL_REQUESTED) s.capLevel

/-- R582, R583. Show the caps. -/
def State.showCaps (s : State) : State :=
  ((((s.set Reg.PWR_LEVEL_GAUGE_CAP (b2n (s.pwr.gaugeCap != 0))).set Reg.PWR_LEVEL_THERMAL_CAP
    (b2n (s.thermalCap != 0))).set Reg.PWR_LEVEL_SKIP_CAP (b2n (s.pwr.skipCap != 0))).set Reg.PWR_LEVEL_CAP
    s.capLevel).set Reg.THM_STATUS_CAP s.thermalCap

/-- R581. PWR_LEVEL bits [8:6]. -/
def State.capBits (s : State) : Nat :=
  b2n (s.pwr.gaugeCap != 0) + 2 * b2n (s.thermalCap != 0) + 4 * b2n (s.pwr.skipCap != 0)

/-- R556, R581. At a row boundary the level in force becomes the present cap. -/
def State.applyLevel (s : State) : State :=
  let l := s.cap
  if l = s.reg Reg.PWR_LEVEL_IN_FORCE then s
  else
    let s := (s.set Reg.PWR_LEVEL_IN_FORCE l).set Reg.SEQ_STATUS_LEVEL l
    s.tinkLog 0x0902 noFn (leBytes (s.reg Reg.PWR_LEVEL_REQUESTED) 1 ++ leBytes l 1 ++ leBytes s.capBits 1)

/-! ### Templates -/

/-- Lexicographic order of lists of numbers. -/
def lexLe : List Nat → List Nat → Bool
  | a :: as, b :: bs => a < b || (a == b && lexLe as bs)
  | _, _ => true

/-- The best element of a list under a key, least first. -/
def leastBy {α : Type} (key : α → List Nat) (l : List α) : Option α :=
  l.foldl (fun (a : Option α) x => match a with
    | none => some x
    | some y => if lexLe (key y) (key x) then some y else some x) none

/-- R60. A template's position limit. -/
def Template.limit (t : Template) : Nat := 4096 * 2 ^ t.ctxClass

/-- R381. The step parameters of model `m`. -/
def State.msched (s : State) (m : Nat) : ModelSched := Store.getD s.serve.models m ModelSched.default

/-- R373. Whether a template is LONG, and within the row limit when it is. -/
def State.isLong (s : State) (t : Template) : Bool := t.ctxClass ≥ (s.msched t.model).longClass

/-- R60, R381. Verified templates of a model that a step may use. -/
def State.usable (s : State) (m : Nat) : List Template :=
  s.seq.templates.filter (fun t => t.model == m && t.verified &&
    (!s.isLong t || t.rows.length ≤ (s.msched m).longRows))

/-- R61, R62. The templates to choose among: those at or below the cap, else those of each level above it, slowest
first. -/
def State.levels (s : State) (m : Nat) : List (List Template) :=
  let all := s.usable m
  let low := all.filter (fun t => s.cap ≤ t.level)
  if low.isEmpty then
    ((List.range s.cap).reverse.map (fun l => all.filter (fun t => t.level == l))).filter (fun g => !g.isEmpty)
  else [low]

/-- R60, R61. Whether a template's bucket holds `n` entries and `tok` tokens that end at `top`. -/
def Template.holds (t : Template) (n tok top : Nat) : Bool := n ≤ t.seqCap && tok ≤ t.tokCap && top ≤ t.limit

/-- R61, R62. The template of a step of model `m`, LONG or NORMAL. -/
def State.chooseTemplate (s : State) (m : Nat) (long : Bool) (n tok top : Nat) : Option Template :=
  (s.levels m).findSome? (fun g =>
    leastBy (fun (t : Template) => [t.tokCap, t.seqCap, t.ctxClass, t.id])
      (g.filter (fun t => s.isLong t == long && t.holds n tok top)))

/-- R379. The template whose bucket the roster of a class is filled for. -/
def State.fillTemplate (s : State) (m : Nat) (long : Bool) : Option Template :=
  (s.levels m).findSome? (fun g =>
    leastBy (fun (t : Template) => [65536 - t.tokCap, 4096 - t.seqCap, 10 - t.ctxClass, t.id])
      (g.filter (fun t => s.isLong t == long)))

/-! ### Filling a roster -/

/-- R377. The scheduling parameters of function `fn`. -/
def State.sched (s : State) (fn : Nat) : Sched := Store.getD s.serve.sched fn Sched.default

/-- R378. The charge of function `fn` in this window. -/
def State.chargeOf (s : State) (fn : Nat) : Nat := Store.getD s.serve.charges fn 0

/-- R380. An item of a roster: a sequence as it will stand when the roster runs, and its tokens. -/
structure Item where
  id : Nat
  q : SeqRec
  tokens : Nat
  prefill : Bool
  deriving DecidableEq, Repr

/-- R234. The slot of a motif that serves; 0 for none. -/
def State.slotOf (s : State) (h : Handle) : Option Nat :=
  if h = Handle.none then some 0
  else
    match Store.get? s.tier.motifs (ttKey h.fn h.idx) with
    | some m => if m.state = .serving then some m.slot else none
    | none => none

/-- R373. The position at which the NORMAL class of model `m` ends. -/
def State.normalLimit (s : State) (m : Nat) : Nat :=
  if (s.msched m).longClass > 10 then 4194304 else 4096 * 2 ^ ((s.msched m).longClass - 1)

/-- R375. A sequence as it will stand when the next roster runs; `none` when it will not run then. -/
def State.candidate (s : State) (id : Nat) (q : SeqRec) : Option SeqRec :=
  let lock := s.reg Reg.SEQ_ROSTER_LOCK_LOCK
  let waits := s.serve.ready.any (fun r => !bit lock r.1 && r.2.entries.any (fun e => e.seqId == id))
  let running := (s.serve.ready.filter (fun r => bit lock r.1)).findSome? (fun r => r.2.entries.find? (fun e => e.seqId == id))
  let ok (q : SeqRec) : Bool :=
    (q.phase == .prefill || q.phase == .decode) && !q.closing && (q.phase == .prefill || q.sampled < q.maxNew) &&
      q.ownPos < s.seqCapacity q && s.getF q.fn Reg.GLB_FN_STATE_STATE == 1 &&
      !s.serve.preempts.any (fun p => p.fn == q.fn) && (s.sec.held.filter (fun h => h.fn == q.fn)).length < 4096 &&
      s.reg Reg.GLB_CASTON_MODE == 0
  if waits then none
  else
    let q' := match running with
      | some e => q.after e s.row
      | none => q
    if ok q' then some q' else none

/-- R372, R373, R380. The prefill tokens that a sequence would take, `placed` being its function's prefill tokens in the
roster so far. -/
def State.prefillTokens (s : State) (q : SeqRec) (placed : Nat) (long : Bool) : Nat :=
  let slice := (s.sched q.fn).slice
  let room := if long then 4194304 else s.normalLimit q.model - q.pos
  if q.fixedSlices then
    let n := min (min q.remain (slice - q.pos % slice)) room
    if n ≤ slice - placed then n else 0
  else min (min q.remain (slice - placed)) room

/-- R373. Whether a sequence's next item belongs to the LONG class. -/
def State.longItem (s : State) (q : SeqRec) : Bool := q.pos ≥ s.normalLimit q.model

/-- R251, R252. Whether a sequence's swatches lie where a step can read them. -/
def State.swatchesReady (s : State) (l : List Handle) : Bool :=
  l.all (fun h => match s.tensor? h with
    | some t => (t.tier == .near || t.tier == .borrowed) && !t.incomplete
    | none => false)

/-- R380. Whether an item fits beside the items placed. -/
def State.fits (s : State) (t : Template) (placed : List Item) (it : Item) : Bool :=
  let l := placed ++ [it]
  let slots := (l.filterMap (fun (i : Item) => s.slotOf i.q.motif)).dedup
  l.length ≤ t.seqCap && (l.map (·.tokens)).foldl (· + ·) 0 ≤ t.tokCap && slots.length ≤ 256 &&
    it.q.pos + it.tokens ≤ t.limit && s.swatchesReady it.q.swatches && (s.slotOf it.q.motif).isSome &&
    (!it.prefill || it.tokens ≤ it.q.copied) && it.q.ownPos + it.tokens ≤ s.seqCapacity it.q &&
    s.credit it.q.fn ≥ (16 + 2 * (((placed.filter (fun (i : Item) => i.q.fn == it.q.fn)).length + 1 : Nat) : Int) : Int)

/-- R380. The prefill tokens of a function among the items placed. -/
def placedPrefill (placed : List Item) (fn : Nat) : Nat :=
  ((placed.filter (fun i => i.prefill && i.q.fn == fn)).map (·.tokens)).foldl (· + ·) 0

/-- R380. The items of function `fn` in order: decode items, then prefill items, each longest-waiting first. -/
def State.items (s : State) (m : Nat) (long : Bool) (fn : Nat) : List (Nat × SeqRec) :=
  let all := (s.serve.seqs.filterMap (fun p => (s.candidate p.1 p.2).map (fun q => (p.1, q)))).filter
    (fun p => p.2.model == m && p.2.fn == fn && s.longItem p.2 == long)
  let byAge (l : List (Nat × SeqRec)) : List (Nat × SeqRec) :=
    sortBy l (fun a b => lexLe [a.2.lastRow, a.1] [b.2.lastRow, b.1])
  byAge (all.filter (fun p => p.2.phase == .decode)) ++ byAge (all.filter (fun p => p.2.phase == .prefill))

/-- R380. The item that a sequence offers beside the items placed. -/
def State.offer (s : State) (long : Bool) (placed : List Item) (p : Nat × SeqRec) : Item :=
  if p.2.phase = .decode then ⟨p.1, p.2, 1, false⟩
  else ⟨p.1, p.2, s.prefillTokens p.2 (placedPrefill placed p.2.fn) long, true⟩

/-- The largest `k ≤ n` with `f k`, 0 if none. -/
def largest (f : Nat → Bool) : Nat → Nat
  | 0 => 0
  | n + 1 => if f (n + 1) then n + 1 else largest f n

/-- R380. The prefill tokens that still fit: a count that every limit admits. -/
def State.shrink (s : State) (t : Template) (placed : List Item) (it : Item) : Nat :=
  let used := (placed.map (·.tokens)).foldl (· + ·) 0
  min (min it.tokens (t.tokCap - used)) (min (t.limit - it.q.pos) (min it.q.copied (s.seqCapacity it.q - it.q.ownPos)))

/-- R380, first loop. Fill function `fn`'s reserve. -/
def State.fillReserve (s : State) (t : Template) (long : Bool) (placed : List Item) (fn : Nat) : List Item :=
  let e := (s.sched fn).share * t.seqCap / 1024
  let r := (s.sched fn).share * t.tokCap / 1024
  (s.items t.model long fn).foldl (fun (placed : List Item) p =>
    let it := s.offer long placed p
    let mine := (placed ++ [it]).filter (fun i => i.q.fn == fn)
    if it.tokens > 0 && s.fits t placed it && mine.length ≤ e && (mine.map (·.tokens)).foldl (· + ·) 0 ≤ r then
      placed ++ [it]
    else placed) placed

/-- R380, second loop. Fill what the reserves leave. -/
def State.fillRest (s : State) (t : Template) (long : Bool) (fns : List Nat) (placed : List Item) : List Item :=
  let order := sortBy fns (fun a b => lexLe [7 - (s.sched a).priority, s.chargeOf a, a] [7 - (s.sched b).priority, s.chargeOf b, b])
  order.foldl (fun (placed : List Item) fn => (s.items t.model long fn).foldl (fun (placed : List Item) p =>
    if placed.any (fun i => i.id == p.1) then placed
    else
      let it := s.offer long placed p
      let it := if it.prefill && !it.q.fixedSlices then { it with tokens := s.shrink t placed it } else it
      if it.tokens > 0 && s.fits t placed it then placed ++ [it] else placed) placed) placed

/-- R374, R379, R380. The items of the next roster of a model and class, in the order placed. -/
def State.fill (s : State) (t : Template) (long : Bool) : List Item :=
  let fns := sortBy ((s.serve.seqs.map (·.2.fn)).dedup) (fun a b => a ≤ b)
  let reserved := (sortBy (fns.filter (fun f => (s.sched f).share * t.seqCap / 1024 > 0)) (fun a b =>
    lexLe [s.chargeOf a * (s.sched b).share, a] [s.chargeOf b * (s.sched a).share, b]))
  s.fillRest t long fns (reserved.foldl (s.fillReserve t long) [])

/-- R68, R380. The roster entry of an item at token slot `off` in segment `seg`. -/
def State.entryOf (s : State) (it : Item) (seg off swIndex : Nat) : RosterEntry :=
  let lastSlice := it.prefill && it.tokens == it.q.remain
  let build := (Store.get? s.serve.builds it.id).isSome
  { seqId := it.id
    fn := it.q.fn
    motifSlot := (s.slotOf it.q.motif).getD 0
    segment := seg
    position := it.q.pos
    tokCount := it.tokens - 1
    tokOffset := off
    kv := it.q.kv
    rngStream := it.q.rng
    swatchCount := it.q.swatches.length
    prefill := it.prefill
    lastSlice := lastSlice && !build
    sample := (!it.prefill || lastSlice) && !build
    swIndex := if it.q.swatches.isEmpty then 0 else swIndex
    tag := it.q.tag
    rsvd := 0 }

/-- R67 to R69, R380. The roster of placed items: sorted by slot, stable, with segments, offsets and swatch lists. -/
def State.rosterOf (s : State) (t : Template) (placed : List Item) : Roster :=
  let slot (i : Item) : Nat := (s.slotOf i.q.motif).getD 0
  let sorted := sortBy placed (fun a b => slot a ≤ slot b)
  let slots := (sorted.map slot).dedup
  let r := sorted.foldl (fun (a : List RosterEntry × Nat × List (List Handle)) (i : Item) =>
    let e := s.entryOf i (slots.idxOf (slot i)) a.2.1 a.2.2.length
    (a.1 ++ [e], a.2.1 + i.tokens, if i.q.swatches.isEmpty then a.2.2 else a.2.2 ++ [(i.q.swatches ++ List.replicate 8 Handle.none).take 8]))
    ([], 0, [])
  { step := s.stepNo + (if s.seq.step.isSome then 1 else 0), template := t.id, tokTotal := r.2.1, segments := slots.length,
    model := t.model, entries := r.1, swLists := r.2.2, rsvd := 0 }

/-! ### The windows of motif runs -/

/-- The instructions of a template with their rows' streams' words decoded, in order of row and start cycle. -/
def Template.instrs (t : Template) : List (Issue × Instr) :=
  t.rows.flatMap (fun (r : RowRecord) =>
    let row := r.streams.zipIdx.flatMap (fun (p : List TWord × Nat) => p.1.zipIdx.filterMap (fun (w : TWord × Nat) =>
      (decodeTrolum (p.2 / 8) w.2 w.1).map (fun i => (Issue.ofWord (p.2 / 8) w.2 w.1.toNat, i))))
    sortBy row (fun a b => a.1.start ≤ b.1.start))

/-- R243. The fixed windows of a template's motif runs: FIRST and COUNT of the segment table, and the rows of the run. -/
def Template.windows (t : Template) : List (Nat × Nat × Nat) :=
  (t.instrs.foldl (fun (a : List ((Nat × Nat × Nat) × (Nat × Nat)) × List (Nat × Nat × Nat)) (x : Issue × Instr) =>
    let run (h : Issue) (o : MxRunOp) : List (Nat × Nat × Nat) :=
      if o.motif = 0 then []
      else match a.1.find? (fun y => y.1 == (h.die, h.cslot, o.segt)) with
        | some y => [(y.2.1, y.2.2, o.rows + 1)]
        | none => []
    match x.2 with
    | .mgSegt h o => (((h.die, h.cslot, o.dst), (o.first, o.count)) :: a.1, a.2)
    | .mxRun h o => (a.1, a.2 ++ run h o)
    | .mxRunt h o => (a.1, a.2 ++ run h o)
    | _ => a) ([], [])).2

/-- The token rows of the segments of a roster from `first` to `first + count`. -/
def Roster.segRows (r : Roster) (first count : Nat) : Nat :=
  ((r.entries.filter (fun e => first ≤ e.segment && e.segment ≤ first + count)).map (fun e => e.tokCount + 1)).foldl
    (· + ·) 0

/-- R241, R243. Whether a roster fills every fixed window: exactly, but for the one that holds the step's last segment;
and no segment exceeds 2,048 rows. -/
def Roster.fillsWindows (r : Roster) (ws : List (Nat × Nat × Nat)) : Bool :=
  ws.all (fun w =>
    let n := r.segRows w.1 w.2.1
    (if w.1 + w.2.1 + 1 < r.segments then n == w.2.2 else n ≤ w.2.2) &&
      (List.range (w.2.1 + 1)).all (fun g => r.segRows (w.1 + g) 0 ≤ 2048))

/-! ### Policies -/

/-- R473. The allow bit of a policy for a template. -/
def State.policyAllows (s : State) (p : Policy) (t : Template) : Bool :=
  (p.templates.isEmpty || p.templates.contains t.digest) &&
    (p.weights.isEmpty || p.weights.contains (s.model t.model).digest)

/-- R473. The allow bit of a function for a template: any, where no key is loaded. -/
def State.allows (s : State) (fn : Nat) (t : Template) : Bool :=
  (Store.get? s.sec.keys fn).elim true (fun p => s.policyAllows p t)

/-- R61, R62, R473. The template of a step among those that every function of the step allows. -/
def State.stepTemplate (s : State) (m : Nat) (long : Bool) (fns : List Nat) (n tok top : Nat) : Option Template :=
  (s.levels m).findSome? (fun g =>
    leastBy (fun (t : Template) => [t.tokCap, t.seqCap, t.ctxClass, t.id])
      (g.filter (fun t => s.isLong t == long && t.holds n tok top && fns.all (fun f => s.allows f t))))

/-- R61, R243, R380. The roster of placed items under the template chosen for them: `none` where no template holds them
or a window is not filled. -/
def State.rosterFor (s : State) (m : Nat) (long : Bool) (placed : List Item) : Option (Template × Roster) :=
  let tok := (placed.map (·.tokens)).foldl (· + ·) 0
  let top := (placed.map (fun (i : Item) => i.q.pos + i.tokens)).foldl max 0
  match s.stepTemplate m long ((placed.map (·.q.fn)).dedup) placed.length tok top with
  | none => none
  | some t =>
    let r := s.rosterOf t placed
    if r.fillsWindows t.windows then some (t, r) else none

/-- R380. The next roster of a model and class: items are withdrawn, the one placed last first, until a template holds
the rest and its windows are filled. -/
def State.buildFor (s : State) (m : Nat) (long : Bool) : Option (Template × Roster) :=
  match s.fillTemplate m long with
  | none => none
  | some t =>
    let placed := (s.fill t long).filter (fun i => s.allows i.q.fn t)
    let k := largest (fun k => (s.rosterFor m long (placed.take k)).isSome) placed.length
    if k = 0 then none else s.rosterFor m long (placed.take k)

/-! ### Rounds -/

/-- R374. The entries of a round from model `m` on: round, model, NORMAL steps run before, and whether LONG. -/
def State.roundEntries (s : State) (round m normals : Nat) (longDone : Bool) : List (Nat × Nat × Nat × Bool) :=
  let one (x normals : Nat) (longDone : Bool) : List (Nat × Nat × Nat × Bool) :=
    let p := s.msched x
    (if !longDone && normals < p.weight then [(round, x, normals, false)] else []) ++
      (if !longDone && round % p.longPeriod == 0 then [(round, x, normals, true)] else [])
  let rest := ((List.range 8).filter (fun x => m < x)).flatMap (fun x => one x 0 false)
  ((one m normals longDone) ++ rest).filter (fun e => (s.model e.2.1).state == 2)

/-- R374, R375. The next entry in the rounds that has ready items, with its roster. LONG_PERIOD is at most 64, so an
entry of every kind falls within 65 rounds. -/
def State.nextRoster (s : State) : Option (RoundState × Template × Roster) :=
  let r := s.serve.round
  let es := s.roundEntries r.round r.model r.normals r.long ++
    (List.range 65).flatMap (fun k => s.roundEntries (r.round + 1 + k) 0 0 false)
  es.findSome? (fun e => (s.buildFor e.2.1 e.2.2.2).map (fun x =>
    (⟨e.1, e.2.1, if e.2.2.2 then e.2.2.1 else e.2.2.1 + 1, e.2.2.2, e.1 == r.round && r.forced⟩, x.1, x.2)))

/-! ### Gauge -/

/-- R55. k(L) in thousandths. -/
def kOf (l : Nat) : Nat := [1000, 857, 727, 610, 506, 396, 326, 253].getD l 253

/-- R575. The load class of a bin of `p` watts at level `l`. -/
def loadClass (l p : Nat) : Nat :=
  let x := 1000 * (p - 50)
  if x ≤ 200 * kOf l then 0 else if x ≤ 450 * kOf l then 1 else if x ≤ 700 * kOf l then 2 else 3

/-- R575. A template's class: that of its heaviest bin. -/
def Template.loadClass (t : Template) : Nat :=
  Machine.loadClass t.level ((t.rows.flatMap (·.power)).foldl max 0)

/-- A 12-bit two's complement temperature, in 0.125 °C. -/
def temp12 (n : Nat) : Int := (BitVec.ofNat 12 n).toInt

/-- R571. The hottest valid die sensor. -/
def State.dieTemp (s : State) : Nat :=
  let a := s.reg Reg.THM_DIE_MAX_DIE0
  let b := s.reg Reg.THM_DIE_MAX_DIE1
  if temp12 a < temp12 b then b else a

/-- R574. Whether a gauge record is valid at the present die temperature (within 15 °C of its capture). -/
def State.gaugeOk (s : State) (g : GaugeRec) : Bool := (temp12 g.temp - temp12 s.dieTemp).natAbs ≤ 120

/-- R574, R576. The kinds of record that no valid record covers at a class, `at` asking for the class alone and not for
heavier ones. Link equalisation is asked for only while a link is up. -/
def State.gaugeStale (s : State) (cls : Nat) (exact' : Bool) : List Nat :=
  let up := (List.range 16).any (fun l => s.getF (linkFn l) Reg.LNK_STATE_STATE == 3)
  ([0, 1, 2, 3].filter (fun k => k != 0 || up)).filter (fun k =>
    !s.pwr.gauge.any (fun g => g.kind == k && (if exact' then g.cls == cls else cls ≤ g.cls) && s.gaugeOk g))

/-- R582. Show at which classes every record kind is valid, and whether a re-gauge runs. -/
def State.showGauge (s : State) : State :=
  let v := ((List.range 4).map (fun c => if (s.gaugeStale c true).isEmpty then 2 ^ c else 0)).foldl (· + ·) 0
  (s.set Reg.PWR_GAUGE_VALID v).set Reg.PWR_GAUGE_REGAUGING (b2n (s.pwr.regauge.isSome && !s.pwr.regaugeWait))

/-- R582. Set PWR_ERR bit `f`, raising vector 9 when enabled. -/
def State.pwrErr (s : State) (f : Fld) : State := s.err f Reg.PWR_INT_EN_EN f.lo 9

/-- R576. The Builder has chosen a template of class `cls` without the gauge cap, for a step that would run at level
`l`: a class without a valid record sets the cap; one that only a heavier class covers is re-gauged. -/
def State.gaugeFor (s : State) (cls l : Nat) : State :=
  let stale := s.gaugeStale cls false
  if s.pwr.gaugeCap ≠ 0 ∨ s.pwr.regauge.isSome then s
  else if stale.isEmpty then
    if (s.gaugeStale cls true).isEmpty then s
    else { s with pwr := { s.pwr with regauge := some cls } }.showGauge
  else
    let s := { s with pwr := { s.pwr with gaugeCap := min 7 (l + 1), regauge := some cls, droopRaised := true } }
    let s := (s.showCaps.showGauge).pwrErr Reg.PWR_ERR_GAUGE_CAP
    s.tinkLog 0x0903 noFn (leBytes cls 1 ++ leBytes ((stale.map (2 ^ ·)).foldl (· + ·) 0) 1 ++ leBytes s.dieTemp 2)

/-! ### Roster buffers -/

/-- R64, R627. The near-tier address of roster buffer `k` = 2m + b. -/
def rosterAddr (k : Nat) : Nat := 0x4780000000 + k * 0x62000

/-- R67. The roster that buffer `k` holds. -/
def State.rosterMem (s : State) (k : Nat) : Roster :=
  let h := Memory.readBytes s.tier.near (rosterAddr k) 32
  Roster.ofBytes (Memory.readBytes s.tier.near (rosterAddr k)
    (32 + 32 * (bits (leField h 10 2) 0 12 + 1) + 64 * bits (leField h 20 4) 0 13))

/-- R65. Set ready bits as a roster's writer does; the rosters are read from their buffers. -/
def State.markReady (s : State) (k : Nat) : State :=
  let s := { s with serve := { s.serve with ready := Store.put s.serve.ready k (s.rosterMem k) } }
  s.orBits Reg.SEQ_ROSTER_READY_READY (2 ^ k)

/-- R64, R65, R414, R428. The Builder writes a roster into buffer `k` and marks it ready; a lead sends it on, and a
primary mirrors it. -/
def State.writeRoster (s : State) (k : Nat) (t : Template) (r : Roster) : State :=
  let s := { s with tier := { s.tier with near := Memory.writeBytes s.tier.near (rosterAddr k) r.bytes } }
  let s := s.markReady k
  let s := match s.fab.rosterOut with
    | some l => if s.reg Reg.LNK_FABRIC_ROLE = 1 then s.send l (.roster r.step 0 t.seqCap t.tokCap t.ctxClass r.bytes) else s
    | none => s
  s.mirror (fun m => .twinRoster m r.model (k % 2) r)

/-! ### The check at step start -/

/-- R70, R250. The state's part of the check of an entry. -/
def State.entryOk (s : State) (r : Roster) (t : Template) (e : RosterEntry) : Bool :=
  e.rsvd == 0 && e.fn ≤ 1024 && e.segment < r.segments && e.position + e.tokCount + 1 ≤ min 4194304 t.limit &&
    e.swatchCount ≤ 8 &&
    (if e.swatchCount = 0 then e.swIndex == 0 else e.swIndex < r.swLists.length) &&
    (Store.get? s.tier.swatches (ttKey e.kv.fn e.kv.idx)).elim true (fun w => w.state != 1)

/-- R70. Entries lie one behind the other, in ascending order of SEGMENT. -/
def entriesOrdered : Nat → Nat → List RosterEntry → Option Nat
  | off, _, [] => some off
  | off, seg, e :: t => if e.tokOffset = off ∧ seg ≤ e.segment then entriesOrdered (off + e.tokCount + 1) e.segment t else none

/-- R70. One segment carries one slot and one slot lies in one segment. -/
def Roster.slotsOk (r : Roster) : Bool :=
  r.entries.all (fun a => r.entries.all (fun b => (a.segment == b.segment) == (a.motifSlot == b.motifSlot)))

/-- R70, R250, R415. The check of the roster of buffer `k` against template `t`. -/
def State.rosterOk (s : State) (k : Nat) (r : Roster) (t : Template) : Bool :=
  r.rsvd == 0 && 1 ≤ r.tokTotal && r.tokTotal ≤ 65536 && 1 ≤ r.segments && r.segments ≤ 256 &&
    r.swLists.length ≤ 4096 && r.model == k / 2 && t.verified && t.model == r.model &&
    r.entries.length ≤ t.seqCap && r.tokTotal ≤ t.tokCap && r.entries.all (s.entryOk r t) &&
    entriesOrdered 0 0 r.entries == some r.tokTotal && r.slotsOk && !s.fab.badRosters.contains k

/-! ### The latency bound -/

/-- R382. The largest ROW_COUNT among a model's verified templates at or below the cap, NORMAL or within the limit
LONG. -/
def State.mostRows (s : State) (m : Nat) (long : Bool) : Nat :=
  (((s.usable m).filter (fun t => s.cap ≤ t.level && s.isLong t == long)).map (fun t => t.rows.length)).foldl max 0

/-- R382. Q: the most ramp rows before one step. -/
def State.rampBound (s : State) : Nat := ceilDiv 950 (s.reg Reg.PWR_RAMP_SLOPE * (s.reg Reg.SEQ_ROW_CFG_ROW_LEN + 1))

/-- R382. B_m, 0 while the model is not resident. -/
def State.modelBound (s : State) (m : Nat) : Nat :=
  let res := (List.range 8).filter (fun x => (s.model x).state == 2)
  if !res.contains m then 0
  else
    let q := s.rampBound
    let others := ((res.filter (· != m)).map (fun x => (s.msched x).weight * (s.mostRows x false + q + 1))).foldl (· + ·) 0
    let longs := (res.map (fun x => if s.mostRows x true = 0 then 0 else s.mostRows x true + q + 1)).foldl (· + ·) 0
    s.mostRows m false + q + 1 + others + longs + 8

end Sys2Proof.Machine
end

