-- ==== Sys2Proof/Machine/LinkOps.lean ====
section
/-!
DEFINITION. The states of the seam links (R396 to R404), what a loss does to each use of a link (R404), lent hanks (R355,
R357, R405), re-keying (R399), and a frame's arrival.
-/

namespace Sys2Proof.Machine

/-! ### What templates do with links -/

/-- R166 to R168. The links that an instruction receives from and sends on. -/
def Instr.links (h : Issue) (i : Instr) : List Nat × List Nat :=
  match i with
  | .lkSend _ _ => ([], [8 * h.die + h.unit])
  | .lkRecv _ o => ([8 * h.die + h.unit], if o.fwd = 1 then [8 * h.die + o.flink] else [])
  | .lkRed _ o =>
    (if o.role = 0 then [] else [8 * h.die + h.unit], if o.role = 2 then [] else [8 * h.die + o.outl])
  | _ => ([], [])

/-- R405. Whether a template sends on link `l`. -/
def Template.sendsOn (t : Template) (l : Nat) : Bool :=
  t.rows.any (fun r => bit r.downstream l) || t.instrs.any (fun x => (Instr.links x.1 x.2).2.contains l)

/-- R403. Whether a template names link `l`. -/
def Template.namesLink (t : Template) (l : Nat) : Bool :=
  t.sendsOn l || t.rows.any (fun r => bit r.upstream l) || t.instrs.any (fun x => (Instr.links x.1 x.2).1.contains l)

/-- R404. Whether a row of the running step, of the step whose roster is ready, or of a running training window names
link `l`. -/
def State.jobNames (s : State) (l : Nat) : Bool :=
  let named (id : Nat) : Bool := (s.seq.templates.find? (fun t => t.id == id)).elim false (fun t => t.namesLink l)
  s.rosters.any (fun r => named r.template) ||
    (s.seq.active && s.seq.kind == .window && bit (s.seq.record.upstream ||| s.seq.record.downstream) l)

/-! ### Registers of a link -/

/-- R424. Set bit `f` of LNK_ERR for link `l`, raising vector 6 when enabled. -/
def State.linkErr (s : State) (l : Nat) (f : Fld) : State :=
  (s.set Reg.LNK_ERR_LINK_LINK l).err f Reg.LNK_INT_EN_EN f.lo 6

/-- R424. Show which links are UP at full width and rate. -/
def State.showUp (s : State) : State :=
  s.set Reg.LNK_UP_FULL_UP (((List.range 16).map (fun l => if s.linkFull l then 2 ^ l else 0)).foldl (· + ·) 0)

/-- R401. Link `l` enters a state in which it carries no frame. -/
def State.quiet (s : State) (l st : Nat) : State :=
  let f := linkFn l
  let s := (((s.setF f Reg.LNK_STATE_STATE st).setF f Reg.LNK_STATE_FULL 0).setF f Reg.LNK_STATE_TWO_LANE 0).setF f
    Reg.LNK_STATE_HALF_RATE 0
  ((s.setF f Reg.LNK_STATE_KEY_PHASE 0).setF f Reg.LNK_STATE_PEER_MODULE 0).showUp

/-- R424. The width and rate that link `l` trained to. -/
def State.showWidth (s : State) (l : Nat) (twoLane halfRate : Bool) : State :=
  let f := linkFn l
  ((s.setF f Reg.LNK_STATE_FULL (b2n (!twoLane && !halfRate))).setF f Reg.LNK_STATE_TWO_LANE (b2n twoLane)).setF f
    Reg.LNK_STATE_HALF_RATE (b2n halfRate)

/-! ### Hanks -/

/-- R357. A lent hank comes back: its directory is invalid and it is zero-filled. -/
def State.takeBack (s : State) (h : Nat) : State :=
  match Store.get? s.tier.lent h with
  | some x =>
    let s := { s with tier := { s.tier with lent := Store.erase s.tier.lent h } }
    (s.releaseNear 0 x.base (2 ^ 18)).showSpace
  | none => s

/-- R357, R404. Borrowed hanks, chosen by link and hank, are gone: their tensors are found at their homes again, or POISONED where
they have none, and reads in flight complete GENERATION_STALE. -/
def State.loseHanks (s : State) (p : Nat → Nat → Bool) : State :=
  let mine (t : Tensor) : Bool := t.tier == .borrowed && p (borrowedLoc t.loc).1 (borrowedLoc t.loc).2.1
  let reads := s.data.fetches.filter (fun r => (s.entry (ttKey r.handle.fn r.handle.idx)).elim false mine)
  let s := { s with tier := { s.tier with borrowed := s.tier.borrowed.filter (fun h => !p h.2.link h.2.hank) } }
  let s := ((s.tier.tt.map (·.2)).filter mine).foldl (fun (s : State) t =>
    let q := s.quota t.fn
    if !t.homeSet then s.setTensor { t with poisoned := true }
    else
      let u := { t with tier := .deep, loc := t.home, gen := nextGen t.gen, moving := false }
      ((s.setTensor u).setQuota t.fn { q with borrowUsed := q.borrowUsed - t.units }).noteMoved t.handle u.handle) s
  (reads.foldl (fun (s : State) r => s.staleFetch r 0) s).showSpace

/-- R404. The hanks borrowed on link `l` are gone. -/
def State.loseBorrowed (s : State) (l : Nat) : State := s.loseHanks (fun k _ => k == l)

/-! ### Loss -/

/-- R404. Items staged from link `l` are dropped. -/
def State.dropStaged (s : State) (l : Nat) (mine : Staged → Bool) : State :=
  { s with data := { s.data with staging := s.data.staging.filter (fun i => i.link != l || !mine i) } }.showStaging l

/-- R44, R404. A job that names link `l` faults at once, as at a barrier timeout. -/
def State.loseJob (s : State) (l : Nat) : State :=
  if s.jobNames l && s.reg Reg.SEQ_STATUS_STATE != 3 then
    { s with seq := { s.seq with resync := s.seq.resync ||| 2 ^ l } }.faultResponse 0 1
  else s

/-- R404. Link `l` is lost: it went DOWN, went degraded, or retrains. -/
def State.loseLink (s : State) (l : Nat) : State :=
  let s := s.linkErr l Reg.LNK_ERR_LINK_DOWN
  let s := s.loseBorrowed l
  let s := ((s.tier.lent.filter (fun h => h.2.link == l)).map (·.1)).foldl State.takeBack s
  (s.dropStaged l (fun _ => true)).loseJob l

/-- R401, R423. Link `l` goes DOWN with cause byte `cause`: its keys are destroyed. -/
def State.goDown (s : State) (l cause : Nat) (noRetry : Bool) : State :=
  let c := s.link l
  let s := s.setLink l { c with frames := 0, newKeys := false, ownReady := false, peerReady := false, oldKeys := false
                                retrains := 0, trainFails := 0, noRetry := noRetry }
  let s := (s.quiet l 5).setF (linkFn l) Reg.LNK_KEY_AGE_FRAMES 0
  (s.tinkLog 0x0702 noFn (leBytes l 1 ++ leBytes cause 1)).loseLink l

/-- R403. End link `l` as LINK_DETACH does: the session ends, the keys are destroyed and the lanes idle. -/
def State.detach (s : State) (l : Nat) : State :=
  let was := s.linkSt l
  let s := (s.setLink l LinkCtl.empty).quiet l 0
  let s := ((s.setF (linkFn l) Reg.LNK_CFG_ENABLED 0).setF (linkFn l) Reg.LNK_CFG_PEER_EXPECT 0).setF (linkFn l)
    Reg.LNK_KEY_AGE_FRAMES 0
  let s := s.dropStaged l (fun _ => true)
  if 1 ≤ was ∧ was ≤ 4 then s.tinkLog 0x0702 noFn (leBytes l 1 ++ leBytes 2 1) else s

/-! ### Keys -/

/-- R399, R423. New keys come into use on link `l`: the phase flips, COUNTER starts at 0, and the old keys last 1 ms. -/
def State.flipKeys (s : State) (l : Nat) : State :=
  let c := s.link l
  let f := linkFn l
  let s := s.setLink l { c with frames := 0, gens := c.gens + 1, newKeys := false, ownReady := false, peerReady := false
                                oldKeys := true }
  let s := (s.setF f Reg.LNK_STATE_KEY_PHASE (1 - s.getF f Reg.LNK_STATE_KEY_PHASE)).setF f Reg.LNK_KEY_AGE_FRAMES 0
  let s := s.setF f Reg.LNK_REKEYS_REKEYS (s.getF f Reg.LNK_REKEYS_REKEYS + 1)
  s.tinkLog 0x0704 noFn (leBytes l 1 ++ leBytes 0 3 ++ leBytes (c.gens + 1) 4)

/-- R399. This end has run the fresh session of link `l`, and confirms the new keys. -/
def State.rekey (s : State) (l : Nat) : State :=
  if !s.linkUp l then s
  else
    let c := s.link l
    let s := (s.setLink l { c with newKeys := true, ownReady := true }).send l (.keyReady (1 - s.getF (linkFn l) Reg.LNK_STATE_KEY_PHASE))
    if c.peerReady then s.flipKeys l else s

/-! ### Frames that arrive -/

/-- R391, R401, R424, R567. A frame of `n` payload lines arrives on link `l`: counted, and a wake event in REST; `none` when
the link carries no such frame. -/
def State.arriveFrame (s : State) (l n : Nat) (onDegraded : Bool) : Option State :=
  if !(s.linkFull l || (s.linkUp l && onDegraded)) then none
  else
    let f := linkFn l
    let rx := s.getF f Reg.LNK_RX_LO_RX_LO + 2 ^ 32 * s.getF f Reg.LNK_RX_HI_RX_HI + n
    let s := (s.setF f Reg.LNK_RX_LO_RX_LO rx).setF f Reg.LNK_RX_HI_RX_HI (rx / 2 ^ 32)
    some (if s.reg Reg.PWR_STATE_STATE = 2 then s.wake else s)

/-- R394, R408, R423. A frame that is a protocol error: dropped, not replayed. -/
def State.protocolErr (s : State) (l type tag seq : Nat) : State :=
  (s.linkErr l Reg.LNK_ERR_PROTOCOL).tinkLog 0x0708 noFn (leBytes l 1 ++ leBytes type 1 ++ leBytes tag 2 ++ leBytes seq 1)

/-- R409, R410. The ordinal of a token that arrives on link `l`: in turn, or TOKEN_ORDER, handled as a row-fault token. -/
def State.tokenIn (s : State) (l ordinal : Nat) (k : State → State) : State :=
  let c := s.link l
  if ordinal = c.ordRx then k (s.setLink l { c with ordRx := (c.ordRx + 1) % 2 ^ 48, tokens := c.tokens + 1 })
  else
    let s := (s.linkErr l Reg.LNK_ERR_TOKEN_ORDER).tinkLog 0x0705 noFn
      (leBytes l 1 ++ leBytes 0 1 ++ leBytes c.ordRx 6 ++ leBytes ordinal 6)
    s.faultResponse 0 2

end Sys2Proof.Machine
end

