-- ==== Sys2Proof/Machine/RegOps.lean ====
section
/-!
DEFINITION. Registers as the host sees them: which register an access reaches (R498, R499, R622, and the select registers),
the fields that show other state, what a write does under its access code (R6), and the retained fields (R588, R590, R591).
-/

namespace Sys2Proof.Machine

/-! ### Where an access goes -/

/-- R498, R622. Whether function `fn` maps offset `off`: a VF sees its function window alone, without the PF's module
registers. -/
def mapped (fn off : Nat) : Bool :=
  off % 4 == 0 && (if fn = 0 then off < 0x200000 else off < 0x10000 && !(0x8000 ≤ off && off < 0xE000))

/-- R424. The LNK_ registers that show the link LNK_SEL selects. -/
def ofLink (off : Nat) : Bool := (0xA0008 ≤ off && off ≤ 0xA000C) || (0xA001C ≤ off && off ≤ 0xA0058)

/-- R494. The registers that show the VF that SEC_DPL_SEL selects. -/
def ofDpl (off : Nat) : Bool := 0x110044 ≤ off && off ≤ 0x11005C

/-- R499, R528, R424, R494. The function number and offset under which a register is kept: the RNG alias, the mirror of a
function's queue registers, the selected link and the selected VF. -/
def State.home (s : State) (fn off : Nat) : Nat × Nat :=
  if 0xE0000 ≤ off ∧ off < 0xE1000 then (fn, off - 0xE0000 + 0xE000)
  else if 0x11000 ≤ off ∧ off < 0x11200 then (s.reg Reg.HQ_FN_SEL_FUNCTION, off - 0x10000)
  else if ofLink off then (linkFn (s.reg Reg.LNK_SEL_LINK), off)
  else if ofDpl off then (s.reg Reg.SEC_DPL_SEL_VF, off)
  else (fn, off)

/-! ### Fields that show other state -/

/-- R224. MXA_ARRAY_STAT of the selected array: the fields that show its storage. -/
def State.arrayView (s : State) (lo : Nat) : Nat :=
  let a := Store.getD s.data.arrays (s.reg Reg.MXA_ARRAY_SEL_ARRAY) ArrayUnit.empty
  match lo with
  | 0 => if a.shadow.isSome then 2 else 0
  | 2 => b2n a.cells.isSome
  | 3 => b2n a.wgrad.isSome
  | 8 => a.cells.elim 0 (·.1)
  | 12 => a.shadow.elim 0 (·.1)
  | 18 => b2n a.ramp
  | _ => 0

/-- R255. MTF_SLOT_STAT and MTF_SLOT_HANDLE of the selected slot. -/
def State.slotView (s : State) (off lo : Nat) : Nat :=
  match Store.get? s.data.hotSlots (s.reg Reg.MTF_SLOT_SEL_SLOT) with
  | none => 0
  | some h =>
    match off, lo with
    | 0x70008, 0 => h.state
    | 0x70008, 2 => b2n h.train
    | 0x70008, 3 => h.model
    | 0x70008, 8 => h.rank / 4 - 1
    | 0x70008, _ => h.fn
    | 0x7000C, _ => h.handle.toNat
    | _, _ => h.handle.toNat / 2 ^ 32

/-- R255. MTF_MODEL_CFG of the selected model. -/
def State.modelView (s : State) (lo : Nat) : Nat :=
  let x := s.model (s.reg Reg.MTF_MODEL_SEL_MODEL)
  match lo with
  | 0 => x.params.rankLimit / 4 - 1
  | 8 => x.params.targets.length
  | _ => b2n (x.state == 2)

/-- R389. SEQ_SCHED_STAT, ROWS and LAST of the selected function. -/
def State.schedView (s : State) (off lo : Nat) : Nat :=
  let fn := s.reg Reg.SEQ_SCHED_SEL_FUNCTION
  match off, lo with
  | 0x100070, 0 => (s.sched fn).share
  | 0x100070, 12 => (s.sched fn).priority
  | 0x100070, _ => (s.serve.seqs.filter (fun q => q.2.fn == fn)).length
  | 0x100074, _ => s.chargeOf fn
  | _, _ => Store.getD s.serve.lastCharges fn 0

/-- R389, R382. SEQ_MODEL_SCHED, LIMIT and BOUND of the selected model. -/
def State.modelSchedView (s : State) (off lo : Nat) : Nat :=
  let m := s.reg Reg.SEQ_MODEL_SEL_MODEL
  let p := s.msched m
  match off, lo with
  | 0x100090, 0 => p.weight
  | 0x100090, 4 => p.longClass
  | 0x100090, _ => p.longPeriod
  | 0x100094, 0 => p.longRows
  | 0x100094, _ => s.mostRows m false
  | _, _ => if (s.model m).state = 2 then s.modelBound m else 0

/-- R571, R573, R583. THM_TEMP of the selected sensor; a sensor's offset record has kind 2 and the sensor as its object. -/
def State.tempView (s : State) (lo : Nat) : Nat :=
  let n := s.reg Reg.THM_SEL_SENSOR
  match lo with
  | 0 => Store.getD s.pwr.temps n 0
  | 12 => b2n (!s.pwr.excluded.contains n)
  | _ => b2n (s.pwr.gauge.any (fun g => g.kind == 2 && g.obj == n && s.gaugeOk g))

/-- R467, R553. The bank active for an image class: 0 A, 1 B. -/
def State.activeBank (s : State) (c : Nat) : Nat := b2n (bit (s.fw.activeB.getD Config.activeBanks.toNat) c)

/-- R467. The SVN of the running image of a class. -/
def State.runningSvn (s : State) (c : Nat) : Nat :=
  let svn := Store.getD s.fw.svn c (Config.imageSvn c (s.activeBank c)).toNat
  if bit (s.reg Reg.GLB_FW_BANKS_TRIAL) c then Store.getD s.fw.newSvn c svn else svn

/-- R467. The fused SVN of a class. -/
def State.fusedSvn (s : State) (c : Nat) : Nat := Store.getD s.sec.svnFused c (Config.fusedSvn c).toNat

/-- R494. SEC_SVN, SEC_KEYS, SEC_FN_STAT and SEC_IDE. -/
def State.secView (s : State) (off lo : Nat) : Nat :=
  let fn := s.reg Reg.SEC_FN_SEL_FUNCTION
  match off, lo with
  | 0x110004, 0 => s.runningSvn 1
  | 0x110004, _ => s.fusedSvn 1
  | 0x110008, 0 => s.sec.keys.length
  | 0x110008, _ => (s.sec.baseKeys.map (fun k => 2 ^ k.1)).foldl (· + ·) 0
  | 0x110010, 0 => b2n (Store.get? s.sec.keys fn).isSome
  | 0x110010, 1 => Store.getD s.sec.tdi fn 0
  | 0x110010, 3 => s.getF fn Reg.SEC_DPL_CTL_EN
  | 0x110010, _ => (Store.getD s.sec.touch fn []).length
  | _, _ => (s.sec.ide.filter (fun x => x.2.secure)).length

/-- R345, R527. The quota figures of a function window, in MiB. -/
def State.quotaView (s : State) (fn off : Nat) : Nat :=
  let q := s.quota fn
  match off with
  | 0x8 => ceilDiv q.nearUsed 256
  | 0xC => q.nearLimit / 256
  | 0x10 => ceilDiv q.deepUsed 256
  | _ => q.deepLimit / 256

/-- The value of a field that function number `fn` keeps, as a read shows it. -/
def State.view (s : State) (fn : Nat) (f : Fld) : Nat :=
  let kept := s.getF fn f
  match f.off with
  | 0x0 => if f.lo = 0 then fn else kept
  | 0x4 => if f.lo = 2 then b2n (Store.get? s.sec.keys fn).isSome else if f.lo = 3 then Store.getD s.sec.tdi fn 0 else kept
  | 0x8 | 0xC | 0x10 | 0x14 => s.quotaView fn f.off
  | 0x1118 => (s.credit fn).toNat
  | 0x8004 => Config.serial.toNat
  | 0x8008 => Config.serial.toNat / 2 ^ 32
  | 0x800C => Config.fwVersion.toNat
  | 0x8044 => if f.lo = 0 then s.fw.activeB.getD Config.activeBanks.toNat else kept
  | 0x80CC => if s.regs.any (fun r => r.1 == regKey fn f) then kept else Config.castonMs.toNat
  | 0xE030 => s.getF 0 f
  | 0x10008 => s.host.fetched.length
  | 0x40004 =>
    let first := s.reg Reg.SKN_VALID_SEL_LINE
    ((List.range 32).filter (fun i => (Store.get? s.data.skein (first + i)).isSome)).foldl (fun a i => a + 2 ^ i) 0
  | 0x50008 => s.arrayView f.lo
  | 0x70008 | 0x7000C | 0x70010 => s.slotView f.off f.lo
  | 0x70018 => s.modelView f.lo
  | 0xC0010 => if f.lo = 16 then s.seq.load else kept
  | 0xC002C => Store.getD s.pwr.residency (s.reg Reg.PWR_RES_SEL_SEL) 0
  | 0xC0030 => Store.getD s.pwr.residency (s.reg Reg.PWR_RES_SEL_SEL) 0 / 2 ^ 32
  | 0xD0004 => s.tempView f.lo
  | 0x100070 | 0x100074 | 0x100078 => s.schedView f.off f.lo
  | 0x100090 | 0x100094 | 0x100098 => s.modelSchedView f.off f.lo
  | 0x110004 | 0x110008 | 0x110010 | 0x110030 => s.secView f.off f.lo
  | 0x120004 => Store.getD s.pwr.tel (s.reg Reg.TEL_SEL_SENSOR) 0
  | _ => kept

/-- R5, R6, R8. The 32 bits that a read of `off` by function `fn` shows: reserved bits and write-only fields read zero. -/
def State.readWord (s : State) (fn off : Nat) : Nat :=
  if !mapped fn off then 0
  else
    let h := s.home fn off
    (Reg.fieldsAt h.2).foldl (fun a f => if f.acc = .wo then a else a + (s.view h.1 f % 2 ^ f.width) * 2 ^ f.lo) 0

/-! ### Writes -/

/-- R6. A host write of word `v` to one field, under its access code. -/
def State.writeField (fn v : Nat) (s : State) (f : Fld) : State :=
  let x := bits v f.lo f.width
  let old := s.getF fn f
  match f.acc with
  | .rw => s.setF fn f x
  | .rw1c => if x = 0 then s else s.setF fn f (old &&& (2 ^ f.width - 1 - x))
  | .w1s => if x = 0 then s else s.setF fn f (old ||| x)
  | _ => s

/-- R6, R8. A host write of word `v` to the fields `p` chooses of a register. -/
def State.writeWord (s : State) (fn off v : Nat) (p : Fld → Bool) : State :=
  ((Reg.fieldsAt off).filter p).foldl (State.writeField fn v) s

/-! ### Retained fields -/

/-- R588. The retained fields: every writable field of twelve registers, and seven thresholds. -/
def retainedFields : List Fld :=
  ([0x100004, 0x100068, 0x70000, 0x50000, 0x80004, 0x80020, 0x90004, 0xA0000, 0xA0010, 0xC0008, 0xC000C, 0xD0010].flatMap
    Reg.fieldsAt).filter (fun f => f.acc == .rw) ++
  [Reg.SEQ_ROWTIME_MARK_THRESH, Reg.SEQ_TOKGAP_MARK_THRESH, Reg.MOV_NEAR_MARK_THRESH, Reg.FTL_MARK_THRESH,
   Reg.PWR_DRAW_MARK_THRESH, Reg.THM_MARK_THRESH, Reg.TWN_ACK_MARK_THRESH]

/-- R590, R591. A host write of the register at `off` has been accepted: before the apply its retained fields are kept as
written, and a retained write becomes due while AUTO is set. -/
def State.retain (s : State) (off : Nat) : State :=
  let keys := (retainedFields.filter (fun f => f.off == off)).map (regKey 0)
  if keys.isEmpty then s
  else { s with mod := { s.mod with
    hostWrote := if s.reg Reg.GLB_CASTON_APPLIED = 1 then s.mod.hostWrote else (s.mod.hostWrote ++ keys).dedup
    writeDue := s.mod.writeDue || s.flag Reg.GLB_RETAIN_CTL_AUTO } }

end Sys2Proof.Machine
end

