-- ==== Sys2Proof/Machine/FlrOps.lean ====
section
/-!
DEFINITION. The reset of a function: Function-Level Reset and FUNC_DISABLE (R488, R457, R511), and the release of what a reset
function leaves behind.
-/

namespace Sys2Proof.Machine

/-- R446, R349, R443. A lifeline is dropped: its copies and its manifest are released, and the homes that it held. -/
def State.dropLifeline (s : State) (l : Lifeline) : State :=
  let s := { s with twin := { s.twin with lifelines := s.twin.lifelines.filter (fun (x : Lifeline) => !(x.fn == l.fn && x.label == l.label)) } }
  let own := l.manifest :: (l.entries.map (·.copy)).filter (fun h => h.idx != 0)
  let s := own.foldl (fun (s : State) h => (s.entry (ttKey h.fn h.idx)).elim s s.dropTensor) s
  let s := l.entries.foldl (fun (s : State) e =>
    let s := match e.home with
      | some h => if s.tier.tt.any (fun c => (c.2.homeSet && c.2.home == h) || (c.2.tier == .deep && c.2.loc == h)) then s
        else s.releaseDeep h (ceilDiv e.size 1024)
      | none => s
    match e.near with
    | some loc =>
      let q := s.quota l.fn
      (s.releaseNear (ttKey l.fn 0) loc (ceilDiv e.size 16)).setQuota l.fn { q with nearUsed := q.nearUsed - ceilDiv e.size 16 }
    | none => s) s
  s.showSpace

/-! ### Tensors of reset functions -/

/-- R328, R329. The release of a tensor by the reset of its function, which is told the handle it would have next unless it is
DISABLED. -/
def State.releaseTold (s : State) (t : Tensor) : State :=
  let s := if s.getF t.fn Reg.GLB_FN_STATE_STATE = 0 then s else s.noteMoved t.handle { t.handle with gen := nextGen t.gen }
  s.dropTensor t

/-- R488 step 7. Tensors of reset functions are released as soon as no admitted command or step names them. -/
def State.releaseDoomed (s : State) : State :=
  let free := s.sec.doomed.filter (fun k => !s.named k && !s.inStep k && !s.boundMotif k)
  if free.isEmpty then s
  else
    let s := { s with sec := { s.sec with doomed := s.sec.doomed.filter (fun k => !free.contains k) } }
    (free.foldl (fun (s : State) k => (s.entry k).elim s s.releaseTold) s).showSpace

/-! ### Steps 1 to 3 -/

/-- R488 step 1, R511. The host queues and the mailbox of a function drop what is theirs. -/
def State.dropHost (s : State) (fn : Nat) : State :=
  let s := { s with
    host := { s.host with
      fetched := s.host.fetched.filter (fun f => f.fn != fn)
      tickets := s.host.tickets.filter (fun t => t.fn != fn)
      notes := s.host.notes.filter (fun n => n.1 != fn)
      coalesced := Store.erase s.host.coalesced fn
      derives := s.host.derives.filter (fun d => d.1 != fn) }
    sec := { s.sec with held := s.sec.held.filter (fun h => h.fn != fn) } }
  ((s.setF fn Reg.MBX_STATUS_BUSY 0).setF fn Reg.MBX_STATUS_ASYNC_OUT 0).showNotes fn

/-- R488 step 2. The moves of a function end without an entry; host reads issued for them are squashed. -/
def State.dropMoves (s : State) (fn : Nat) : State :=
  let mine := s.tier.moves.filter (fun m => m.fn == fn)
  let reads := (mine.filter (fun m => m.segs.any (fun g => g.srcTier == .host))).map (·.id)
  let s := mine.foldl State.dropMove s
  { s with host := { s.host with squashReads := s.host.squashReads ++ reads } }

/-- R593. The deep extent that an entry's metadata belongs to. -/
def Tensor.extent (t : Tensor) : Nat := if t.tier = .deep then t.loc else t.home

/-- R481, R595. The held extents of a function are crypto-erased. -/
def State.dropHeld (s : State) (fn : Nat) : State :=
  let l := Store.getD s.mod.heldExt fn []
  if l.isEmpty then s else
  let q := s.quota fn
  let s := l.foldl (fun (s : State) t => s.releaseDeep t.extent t.deepUnits) s
  let units := (l.map (fun t => 64 * t.deepUnits)).foldl (· + ·) 0
  let s := s.setQuota fn { q with deepUsed := q.deepUsed - units, tensorUsed := q.tensorUsed - l.length }
  { s with mod := { s.mod with heldExt := Store.erase s.mod.heldExt fn }
           tier := { s.tier with swatches := s.tier.swatches.filter (fun w => !l.any (fun t => t.key == w.1))
                                 motifs := s.tier.motifs.filter (fun w => !l.any (fun t => t.key == w.1)) } }

/-- R488 steps 1 to 3, R487, R493 (`cause` of event 0x0B04: 1 FLR, 2 FUNC_DISABLE). -/
def State.startReset (s : State) (fn cause : Nat) (t : Option Ticket) : State :=
  let s := ((((s.dropHost fn).dropMoves fn).destroyKey fn cause).dropHeld fn)
  { s with
    sec := { s.sec with tdi := Store.erase s.sec.tdi fn, wraps := s.sec.wraps.filter (fun w => w.1 != fn && w.1 / 2 ^ 24 != fn),
                        resets := Store.put s.sec.resets fn (cause, t) } }

/-! ### Steps 4 and 5 -/

/-- The registers that a function's reset returns to their Reset values: its window, without the PF's module registers (R7,
R498, R527). -/
def inWindow (fn k : Nat) : Bool :=
  let base := fn * 0x200000 * 32
  base ≤ k && k < base + 0x10000 * 32 && !(fn == 0 && 0x8000 * 32 ≤ k && k < 0xE000 * 32)

/-- R7, R527, R488. The function's window returns to its Reset values; its STATE is given anew. -/
def State.resetWindow (s : State) (fn state : Nat) : State :=
  let s := { s with
    regs := s.regs.filter (fun r => !inWindow fn r.1)
    host := { s.host with
      fetchAt := s.host.fetchAt.filter (fun f => f.1 / 8 != fn)
      doneIdx := s.host.doneIdx.filter (fun d => d.1 / 8 != fn)
      latches := s.host.latches.filter (fun l => !inWindow fn (32 * l.1)) }
    twin := { s.twin with waiting := s.twin.waiting.filter (fun w => w.2.fn != fn) } }
  s.setF fn Reg.GLB_FN_STATE_STATE state

/-- R488 steps 1 and 4. What of a function's serving and training is not rerun: its commands, graphs, builds, windows and
sequences; requests of others that waited for it are answered FAULTED. -/
def State.dropWork (s : State) (fn : Nat) : State :=
  let s := s.frogFn fn
  let own := s.serve.seqs.filter (fun q => q.2.fn == fn)
  let s := own.foldl (fun (s : State) q => if q.2.phase = .queued ∨ q.2.phase = .paused then s else s.unpin q.2.swatches) s
  let ids := own.map (·.1)
  let owed := (s.serve.preempts.filter (fun p => p.fn == fn)).map (·.ticket) ++
    ((s.tier.parks ++ s.tier.restores).filter (fun p => p.1 == fn)).map (·.2)
  let s := { s with
    serve := { s.serve with
      seqs := s.serve.seqs.filter (fun q => q.2.fn != fn)
      tokens := s.serve.tokens.filter (fun t => !ids.contains t.1)
      preempts := s.serve.preempts.filter (fun p => p.fn != fn)
      builds := s.serve.builds.filter (fun b => !ids.contains b.1) }
    seq := { s.seq with
      graphs := s.seq.graphs.filter (fun g => g.fn != fn)
      windows := s.seq.windows.filter (fun w => w.fn != fn)
      gap := s.seq.gap.filter (fun g => g.1 != fn)
      builds := s.seq.builds.filter (fun b => match b with
        | .graph _ g => g.fn != fn
        | _ => true) }
    tier := { s.tier with
      parks := s.tier.parks.filter (fun p => p.1 != fn)
      restores := s.tier.restores.filter (fun p => p.1 != fn) }
    fab := { s.fab with maps := s.fab.maps.filter (fun m => m.fn != fn) } }
  let s := owed.foldl (fun (s : State) t => s.reply t .faulted []) s
  ((s.twin.lifelines.filter (fun l => l.fn == fn)).foldl State.dropLifeline s).showSeqs

/-- R488 step 5, R311, R119. The context block as at FUNC_ENABLE, quotas kept. A running or ready step that names the function
no longer reaches the block. -/
def State.resetCtx (s : State) (fn : Nat) : State :=
  let c := Store.getD s.tier.ctx fn (CtxBlock.init fn 0)
  let q := s.quota fn
  let new := { CtxBlock.init fn (c.epoch + 1) with snapshot := q, snapRow := s.row }
  let carried := s.carriesFn fn || s.data.cmds.any (fun c => c.2.desc.fn == fn && !c.2.committed)
  { s with
    tier := { s.tier with ctx := Store.put s.tier.ctx fn new }
    seq := { s.seq with gone := if carried then (fn :: s.seq.gone).dedup else s.seq.gone } }

/-- R488 steps 4, 5 and 7, R457, R511. The reset of a function completes, and a FUNC_DISABLE is answered. The PF keeps its
tensors, as it does when the host link goes down (R524). -/
def State.endReset (s : State) (fn cause : Nat) (t : Option Ticket) : State :=
  let was := s.getF fn Reg.GLB_FN_STATE_STATE
  let s := (s.dropWork fn).resetCtx fn
  let motifs := (s.tier.motifs.filter (fun m => m.1 / 2 ^ 24 == fn)).map (·.1)
  let s := if fn = 0 then s else motifs.foldl State.drainMotif s
  let s := s.resetWindow fn (if cause = 2 ∨ was = 0 then 0 else 1)
  let doomed := if fn = 0 then [] else (s.tier.tt.filter (fun c => c.2.fn == fn)).map (·.1)
  let s := { s with sec := { s.sec with resets := Store.erase s.sec.resets fn
                                        doomed := (s.sec.doomed ++ doomed).dedup } }
  let s := s.mirrorCtx fn
  let s := if cause = 2 ∨ was = 0 then
      { s with tier := { s.tier with ctx := Store.erase s.tier.ctx fn }
               serve := { s.serve with sched := Store.erase s.serve.sched fn } }
    else s
  let s := (s.settleMotifs.releaseDoomed).settlePreempts
  t.elim s (fun t => s.reply t .ok [])

/-- R488 step 4. Resets whose function has no uncommitted command in the running row complete; the others wait for the row
boundary. -/
def State.settleResets (s : State) : State :=
  let waits (fn : Nat) : Bool := s.seq.active &&
    s.data.cmds.any (fun c => c.2.desc.fn == fn && !c.2.committed && !c.2.step && !c.2.started.isEmpty)
  (s.sec.resets.filter (fun r => !waits r.1)).foldl (fun (s : State) r => s.endReset r.1 r.2.1 r.2.2) s

/-- R488, R457. A Function-Level Reset or FUNC_DISABLE of one function, from its start. -/
def State.resetFn (s : State) (fn cause : Nat) (t : Option Ticket) : State := (s.startReset fn cause t).settleResets

end Sys2Proof.Machine
end

