-- ==== Sys2Proof/Machine/Unpack.lean ====
section
/-!
DEFINITION. The UNPACK stage (R143): conversion, dequantisation, rotation and re-layout of skein elements.
-/

namespace Sys2Proof.Machine

/-- Write element codes as lines from `dst` on, counting their saturations and non-finite values in a stage. -/
def State.putCodes (s : State) (h : Issue) (stage dst width : Nat) (c : Codes) : State :=
  (s.writeLines dst (codeLines width c.codes)).counts h stage c.sat c.nf

/-- UNP.CVT (R143, R198). A reserved format reaches no run (R136). -/
def execUnpCvt (h : Issue) (o : UnpCvtOp) (s : State) : Result :=
  match Fmt.ofCode o.sfmt, Fmt.ofCode o.dfmt with
  | some sf, some df =>
    let n := o.ecnt + 1
    let rd := linesFor n sf.width
    ok (s.issue h 0x20 (range o.src rd) (range o.dst (linesFor n df.width)) (fun _ s =>
      s.putCodes h 0 o.dst df.width (unpCvt sf df (s.linesAt o.src rd) n)))
  | _, _ => ok s

/-- UNP.DQ (R143, R183, R184). -/
def execUnpDq (h : Issue) (o : UnpDqOp) (s : State) : Result :=
  match Fmt.ofCode o.sfmt, Fmt.ofCode o.dfmt, Fmt.ofCode o.scfmt with
  | some sf, some df, some sc =>
    let n := o.ecnt + 1
    let g := groupSize o.group
    let rd := (blockDims sf sc g n).total
    ok (s.issue h 0x21 (range o.src rd) (range o.dst (linesFor n df.width)) (fun _ s =>
      s.putCodes h 0 o.dst df.width (unpDq sf df sc (o.qmode == 1) g n (s.linesAt o.src rd))))
  | _, _, _ => ok s

/-- UNP.RHT (R143, R202, R203). -/
def execUnpRht (h : Issue) (o : UnpRhtOp) (s : State) : Result :=
  match Fmt.ofCode o.fmt with
  | some f =>
    let n := o.ecnt + 1
    let k := linesFor n f.width
    ok (s.issue h 0x22 (range o.src k ++ [o.signs]) (range o.dst k) (fun _ s =>
      s.putCodes h 0 o.dst f.width
        (unpRht f o.blk (s.line o.signs).toNat (o.inv == 1) (s.linesAt o.src k) n)))
  | none => ok s

/-- UNP.LAY (R143). -/
def execUnpLay (h : Issue) (o : UnpLayOp) (s : State) : Result :=
  match Fmt.ofCode o.fmt with
  | some f =>
    let n := o.ecnt + 1
    let k := linesFor n f.width
    let w := linesFor (layMap o.op (o.rowlen + 1) n).length f.width
    ok (s.issue h 0x23 (range o.src k) (range o.dst w) (fun _ s =>
      s.putCodes h 0 o.dst f.width (unpLay f o.op (o.rowlen + 1) (s.linesAt o.src k) n)))
  | none => ok s

end Sys2Proof.Machine
end

