-- ==== Sys2Proof/Machine/Pack.lean ====
section
/-!
DEFINITION. The PACK stage: PK.Q (R160) and PK.SR (R161), and the working copies of random streams (R313).
-/

namespace Sys2Proof.Machine

/-- R313. The working copy of stream `k` (function × 16 + stream) that command `cid` draws from. -/
def State.workStream (s : State) (cid k : Nat) : Stream :=
  match Store.get? (s.cmd cid).rng k with
  | some st => st
  | none =>
    match Store.get? s.tier.ctx (k / 16) with
    | some c => c.streams.getD (k % 16) (Stream.default (k / 16) (k % 16))
    | none => Stream.default (k / 16) (k % 16)

/-- R313. Keep an advanced working copy. -/
def State.keepStream (s : State) (cid k : Nat) (st : Stream) : State :=
  let c := s.cmd cid
  s.setCmd cid { c with rng := Store.put c.rng k st }

/-- R160, R161. Quantise rows of FP32 by `rm`, and write the scaled block. -/
def State.pack (s : State) (h : Issue) (o : PkOp) (f sc : Fmt) (rm : Nat → RMode) : State :=
  let n := o.ecnt + 1
  let q := quantBlock f sc (o.qmode == 1) (groupSize o.group) n (s.linesAt o.src (linesFor n 32)) rm
  (s.writeLines o.dst (q.lines f sc)).counts h 4 q.elems.sat q.elems.nf

/-- PK.Q (R160): ties away from zero. -/
def execPkQ (h : Issue) (o : PkOp) (s : State) : Result :=
  match Fmt.ofCode o.fmt, Fmt.ofCode o.scfmt with
  | some f, some sc =>
    let n := o.ecnt + 1
    ok (s.issue h 0xC0 (range o.src (linesFor n 32)) (range o.dst (blockDims f sc (groupSize o.group) n).total)
      (fun _ s => s.pack h o f sc (fun _ => .away)))
  | _, _ => ok s

/-- PK.SR (R161, R193): stochastic rounding, one word an element from a stream of the command's function. -/
def execPkSr (h : Issue) (o : PkOp) (s : State) : Result :=
  match Fmt.ofCode o.fmt, Fmt.ofCode o.scfmt with
  | some f, some sc =>
    let n := o.ecnt + 1
    ok (s.issue h 0xC1 (range o.src (linesFor n 32)) (range o.dst (blockDims f sc (groupSize o.group) n).total)
      (fun cid s =>
        let k := s.cmdFn cid * 16 + o.rsel % 16
        let d := Stream.draws n (s.workStream cid k)
        (s.pack h o f sc (fun i => .stoch (d.1.getD i 0).toNat)).keepStream cid k d.2))
  | _, _ => ok s

end Sys2Proof.Machine
end

