-- ==== Sys2Proof/Machine/Commit.lean ====
section
/-!
DEFINITION. The COMMIT stage: CM.TENS (R162), CM.KV (R163), CM.CTX (R164) and CM.MARK (R165), the acknowledgement of
their writes (R99), the commit point (R94, R97), the dropped-stitch halt (R306) and the end of a frog (R103).
-/

namespace Sys2Proof.Machine

/-- R95, R324, R428. A tier write of command `cid`: the lines land in the near tier, the destination becomes incomplete,
and the write waits for its acknowledgement. -/
def State.tierWrite (s : State) (h : Issue) (op cid : Nat) (t : Tensor) (offset : Nat) (l : List LineData) : State :=
  let s := s.setTensor { t with incomplete := true }
  let s := s.writeNear (t.loc + offset) l
  let c := s.cmd cid
  let s := s.setCmd cid { c with writes := c.writes ++ [(h.die, op, h.index)]
                                 dests := if c.dests.contains t.key then c.dests else c.dests ++ [t.key] }
  if s.mirrors then
    { s.sendTwin (.twinWrite c.ctag t.handle offset l) with
      twin := { s.twin with touched := s.twin.touched ++ [(t.key, offset, l.length)] } }
  else s

/-- CM.TENS (R162): LCNT + 1 lines to the operand tensor from line OFFSET on. -/
def execCmTens (h : Issue) (o : CmTensOp) (s : State) : Result :=
  let n := o.lcnt + 1
  ok (s.issue h 0xD0 (range o.src n) [] (fun cid s =>
    match s.resolve h cid (s.cmdFn cid) (s.operand cid o.opd).handle (some o.fmt) o.offset n true with
    | .bad c => s.patternErr h 0xD0 c
    | .denied t => s.dpDeny h 0xD0 t true
    | .good t => s.tierWrite h 0xD0 cid t o.offset ((range o.src n).map s.line)))

/-- R163. The rows that CM.KV writes for one roster entry; `false` after a fault. -/
def State.kvEntry (h : Issue) (o : CmKvOp) (r : Roster) (cid lpt : Nat) (a : State × Bool) (e : RosterEntry) :
    State × Bool :=
  let s := a.1
  if !a.2 then a
  else
    match s.tensor? e.kv with
    | none => (s.patternErr h 0xD1 5, false)
    | some w =>
      let p := e.position - s.swatchTokens (r.swatchesOf e)
      let n := e.tokCount + 1
      if e.kv.fn ≠ e.fn then (s.dpDeny h 0xD1 w true, false)
      else if p + n > w.capacity then (s.patternErr h 0xD1 3, false)
      else
        let first := kvLine w.capacity lpt o.layer p
        match s.resolve h cid e.fn e.kv none first (n * lpt) true with
        | .bad c => (s.patternErr h 0xD1 c, false)
        | .denied w => (s.dpDeny h 0xD1 w true, false)
        | .good w => (s.tierWrite h 0xD1 cid w first ((range (o.src + e.tokOffset * lpt) (n * lpt)).map s.line), true)

/-- R63, R163. The roster entries from FIRST to FIRST + COUNT that the roster has. -/
def Roster.span (r : Roster) (first count : Nat) : List RosterEntry := (r.entries.drop first).take (count + 1)

/-- CM.KV (R163): the key/value rows of each entry's token slots, to its own tensor's positions. -/
def execCmKv (h : Issue) (o : CmKvOp) (s : State) : Result :=
  let r := s.rosterAt o.roster
  let lpt := (s.model r.model).params.kvLpt
  let es := r.span o.first o.count
  let src := es.flatMap (fun e => range (o.src + e.tokOffset * lpt) ((e.tokCount + 1) * lpt))
  ok (s.issue h 0xD1 (s.rosterRange o.roster ++ src) [] (fun cid s =>
    (es.foldl (State.kvEntry h o r cid lpt) (s, true)).1))

/-- R164 KIND 0. Stage the working state of stream `k` of a command, once. -/
def State.stageStream (cid : Nat) (s : State) (k : Nat) : State :=
  let c := s.cmd cid
  s.setCmd cid { c with staged := Store.put c.staged k (s.workStream cid k) }

/-- R164 KIND 1. The completion record of an entry, with the value sampled for it. -/
def RosterEntry.record (e : RosterEntry) (v : Nat) : Record :=
  ⟨e.fn, e.tag, e.seqId, v, e.position + e.tokCount + 1, e.lastSlice, e.sample⟩

/-- CM.CTX (R164): stage streams, completion records or the command's own completion in the commit buffer. -/
def execCmCtx (h : Issue) (o : CmCtxOp) (s : State) : Result :=
  let r := s.rosterAt o.roster
  let es := r.span o.first o.count
  let rec' := o.kind == 1
  let bySel := o.kind == 0 && o.rsel / 16 == 1
  let vals := if rec' then range o.src (linesFor (o.count + 1) 32) else []
  let reads := if rec' || bySel then s.rosterRange o.roster ++ vals else []
  ok (s.issue h 0xD2 reads [] (fun cid s =>
    if rec' then
      let x := s.linesAt o.src (linesFor (o.count + 1) 32)
      let c := s.cmd cid
      let new := (es.zipIdx.filter (fun p => (p.1.sample || p.1.lastSlice) && s.hasCtx p.1.fn)).map
        (fun p => p.1.record (elem x 32 p.2))
      s.setCmd cid { c with records := c.records ++ new }
    else if bySel then
      ((es.filter (fun e => s.hasCtx e.fn)).map (fun e => e.fn * 16 + (o.rsel % 16 + e.rngStream) % 16)).foldl
        (State.stageStream cid) s
    else if o.kind = 0 then
      ((setBits o.smask 16).map (s.cmdFn cid * 16 + ·)).foldl (State.stageStream cid) s
    else if o.kind = 2 then s.setCmd cid { s.cmd cid with doneStaged := true }
    else s))

/-! ### The dropped-stitch halt -/

/-- R303, R304. The non-finite and spike latches of a slot on a die. -/
def State.latches (s : State) (cslot die : Nat) : Bool × Bool :=
  (bit (s.reg (if die = 0 then Reg.VCH_NF_LATCH_DIE0 else Reg.VCH_NF_LATCH_DIE1)) cslot,
   bit (s.reg (if die = 0 then Reg.VCH_SPIKE_LATCH_DIE0 else Reg.VCH_SPIKE_LATCH_DIE1)) cslot)

/-- R106, R306, R447. A frog for another cause than R44's on a module whose running pattern names links: row-fault tokens
with a cause that the spec does not give, and the links wait for FABRIC_RESYNC. -/
def State.faultPeers (s : State) : State :=
  if s.seq.record.upstream = 0 ∧ s.seq.record.downstream = 0 then s
  else
    let d := s.draw
    (d.2.sendTokens s.seq.record.downstream (some d.1)).needResync

/-- R447. Frog the commands of a graph and complete them FAULTED. -/
def State.frogGraph (s : State) (g : Nat) : State :=
  let hit := (s.data.cmds.filter (fun c => c.2.graph == g && g != 0 && !c.2.committed && !s.seq.dead.contains c.1)).map (·.1)
  hit.foldl (fun s cid =>
    let c := s.cmd cid
    let s := if c.started.isEmpty then s else s.frog cid
    (s.completeCmd c .faulted 0).forget cid) s

/-- R306, R307. The dropped-stitch halt of command `cid`. -/
def State.dropStitch (s : State) (h : Issue) (cid : Nat) : State :=
  let c := s.cmd cid
  let l := c.dies.map (fun d => (d, s.latches c.cslot d))
  let nf := l.any (fun x => x.2.1)
  let spike := l.any (fun x => x.2.2)
  let dies := ((l.filter (fun x => x.2.1 || x.2.2)).map (fun x => 2 ^ x.1)).foldl (· + ·) 0
  let cause := b2n nf + 2 * b2n spike
  let s := s.frog cid
  let s := s.tinkAt h.cycle 0x0410 c.desc.fn
    (leBytes c.desc.commandId 8 ++ leBytes c.cslot 1 ++ leBytes cause 1 ++ leBytes dies 1)
  let s := s.inc Reg.VCH_DS_HALTS_HALTS 1
  let s := ((((s.set Reg.VCH_DS_LAST_SLOT c.cslot).set Reg.VCH_DS_LAST_NF (b2n nf)).set Reg.VCH_DS_LAST_SPIKE
    (b2n spike)).set Reg.VCH_DS_LAST_DIES dies).set Reg.VCH_DS_LAST_FUNCTION c.desc.fn
  let s := (s.completeCmd c .faulted cause).forget cid
  let s := if s.seq.kind = .window then s.faultPeers.frogGraph c.graph else s
  let s := if s.seq.kind = .window then { s with seq := { s.seq with window := none } } else s
  let s := s.faultTasks (if c.graph = 0 then [] else [c.graph])
  { s with seq := { s.seq with graphs := s.seq.graphs.filter (fun g => c.graph = 0 || g.id != c.graph)
                               gap := match s.seq.gap with
                                 | some g => if g.2 = cid then none else some g
                                 | none => none } }

/-- CM.MARK (R165): the commit mark of a die, or the dropped-stitch halt. -/
def execCmMark (h : Issue) (o : CmMarkOp) (s : State) : Result :=
  ok (s.issue h 0xD3 [] [] (fun cid s =>
    let c := s.cmd cid
    if o.kind ≠ 0 then s
    else if o.dschk = 1 ∧ c.dies.any (fun d => (s.latches c.cslot d).1 || (s.latches c.cslot d).2) then
      s.dropStitch h cid
    else s.setCmd cid { c with marked := c.marked ++ [h.die] }))

/-! ### Acknowledgements, the commit point and the end of a frog -/

/-- The command in slot `cslot` of a die. -/
def State.cmdIn (s : State) (die cslot : Nat) : Option Nat :=
  (Store.get? s.data.slots (slotKey die cslot)).map (·.cid)

/-- TIER_WRITE_ACK (R99): the oldest outstanding write of the command in a slot is acknowledged. -/
def execTierWriteAck (o : SlotOp) (s : State) : Result :=
  match s.cmdIn o.die o.cslot with
  | none => ok s
  | some cid => ok (s.setCmd cid { s.cmd cid with writes := (s.cmd cid).writes.drop 1 })

/-- TIER_WRITE_FAIL (R99, R137): the oldest outstanding write fails; its command cannot commit, and PATTERN_ERR with
cause WRITE is raised unless the command is being frogged already. -/
def execTierWriteFail (o : SlotOp) (s : State) : Result :=
  match s.cmdIn o.die o.cslot with
  | none => ok s
  | some cid =>
    let c := s.cmd cid
    match c.writes with
    | [] => ok s
    | w :: rest =>
      let s := s.setCmd cid { c with writes := rest, writeFailed := true }
      if c.frogged then ok s
      else ok (s.patternErr ⟨w.1, 6, 0, o.cslot, 0, w.2.2, o.cycle, [], false, false, none, 0⟩ w.2.1 7)

/-- COMMIT_POINT (R94, R97): the command in a slot commits, if it has reached its commit point. -/
def execCommitPoint (o : SlotOp) (s : State) : Result :=
  match s.cmdIn o.die o.cslot with
  | none => ok s
  | some cid => ok (if s.reached cid then (s.commit cid).releaseDoomed else s)

/-- R47. The last frog of a fault has completed: FAULTED becomes HALTED when SEQ_FAULT is clear. -/
def State.leaveFaulted (s : State) : State :=
  if s.reg Reg.SEQ_STATUS_STATE = 3 ∧ s.seqFault = 0 ∧ s.seq.frogWait.isEmpty then s.set Reg.SEQ_STATUS_STATE 2 else s

/-- FROG_COMPLETE (R103): once every issued tier write has been acknowledged or has failed, the frog of the command in a
slot completes. -/
def execFrogComplete (o : SlotOp) (s : State) : Result :=
  match s.cmdIn o.die o.cslot with
  | none => ok s
  | some cid =>
    if s.seq.frogWait.contains cid ∧ (s.cmd cid).writes.isEmpty then
      let s := s.endFrog cid
      let s := if s.seq.dead.contains cid then s.dropCmd cid else s
      ok { s with seq := { s.seq with frogWait := s.seq.frogWait.filter (· != cid)
                                      dead := s.seq.dead.filter (· != cid) } }.leaveFaulted
    else ok s

end Sys2Proof.Machine
end

