-- ==== Sys2Proof/Machine/RowOps.lean ====
section
/-!
DEFINITION. Rows: what a row boundary starts (R22, R58, R65, R75, R105, R291, R292), and what the end of a row does (R37,
R39, R48).
-/

namespace Sys2Proof.Machine

/-! ### The sequencer's state -/

/-- R81. The sequencer enters STATE `n`, no row running. -/
def State.rest (s : State) (n : Nat) : State := (s.set Reg.SEQ_STATUS_STATE n).showActive false

/-- R48. A halt completes. -/
def State.haltDone (s : State) : State :=
  (((((s.set Reg.SEQ_CTRL_HALT_DONE 1).set Reg.SEQ_CTRL_RUN 0).set Reg.SEQ_CTRL_HALT_STEP 0).set
    Reg.SEQ_CTRL_HALT_ROW 0).set Reg.SEQ_TOKEN_WAIT_WAIT 0).rest 2

/-- R22, R48, R556, R565. Whether a row may start: RUN set, or a step to finish; no fault, no row running, no power-state
transition or voltage change waited for; not a mirror, not fenced or diverged (R426); not bound off. -/
def State.mayRun (s : State) : Bool :=
  let st := s.reg Reg.SEQ_STATUS_STATE
  (s.flag Reg.SEQ_CTRL_RUN || (st == 1 && s.seq.step.isSome)) && st != 3 && !s.seq.active &&
    s.reg Reg.PWR_STATE_STATE ≤ 1 && s.pwr.transition.isNone && !s.pwr.voltageWait && s.reg Reg.GLB_CASTON_MODE != 2 &&
    !s.mod.off && s.reg Reg.TWN_STATE_STATE ≤ 3 &&
    !(s.reg Reg.TWN_STATE_ROLE == 2 && s.reg Reg.TWN_STATE_STATE ≤ 2)

/-! ### Training commands outside steps -/

/-- R75, R290. Whether a command waits to be placed: admitted, not a step's, not running, committed or given up. -/
def State.unplaced (s : State) (cid : Nat) (c : Cmd) : Bool :=
  !c.step && !c.committed && !c.frogged && c.started.isEmpty && !s.seq.dead.contains cid

/-- R49, R50. Whether a task of a graph may be placed: its producers are done. -/
def Graph.ready (g : Graph) (t : GTask) : Bool :=
  t.cid.isNone && !t.done && t.producers.all (fun p => (g.tasks[p]?).elim true (·.done))

/-- Functions that pre-emption or their state keeps from training. -/
def State.trains (s : State) (fn : Nat) : Bool :=
  s.getF fn Reg.GLB_FN_STATE_STATE == 1 && !s.serve.preempts.any (fun p => p.fn == fn)

/-- R290. The functions with a ready training command for a gap row. -/
def State.gapFns (s : State) : List Nat :=
  let a := (s.data.cmds.filter (fun c => s.unplaced c.1 c.2 && !(s.seq.graphs.any (fun g => g.id == c.2.graph && g.fabric)))).map
    (·.2.desc.fn)
  let b := (s.seq.graphs.filter (fun g => !g.fabric && g.tasks.any g.ready)).map (·.fn)
  ((a ++ b).dedup).filter s.trains

/-- R290. The function that the next gap row goes to: the one that keeps it, else the one with the fewest gap rows in this
window, ties to the lowest number. -/
def State.gapFn (s : State) : Option Nat :=
  match s.seq.gap with
  | some g => some g.1
  | none => leastBy (fun fn => [Store.getD s.seq.gapCounts fn 0, fn]) s.gapFns

/-- The descriptor, graph and rows of a placement of function `fn`, where the command may be placed. -/
def State.placeable (s : State) (fn : Nat) (fabric : Bool) (p : Placement) : Option (Descriptor × Nat) :=
  if p.cid ≠ 0 then
    match Store.get? s.data.cmds p.cid with
    | some c =>
      if s.unplaced p.cid c ∧ c.desc.fn = fn ∧ s.seq.graphs.any (fun g => g.id == c.graph && g.fabric) = fabric then
        some (c.desc, c.graph)
      else none
    | none => none
  else
    match s.seq.graphs.find? (fun g => g.id == p.graph) with
    | some g =>
      match g.tasks[p.task]? with
      | some t => if g.fn = fn ∧ g.fabric = fabric ∧ g.ready t then some (t.desc, g.id) else none
      | none => none
    | none => none

/-- R50, R290, R293. Place one command of function `fn` in the row that starts, if every row of it fits in `most` rows and
its slots are free. -/
def State.placeOne (fn most : Nat) (fabric : Bool) (s : State) (p : Placement) : State :=
  let busy := p.dies.any (fun d => (Store.get? s.data.slots (slotKey d p.cslot)).isSome)
  if p.rows = 0 ∨ most < p.rows ∨ p.dies.isEmpty ∨ busy then s
  else
    match s.placeable fn fabric p with
    | none => s
    | some (d, g) =>
      if p.cid ≠ 0 then
        s.setCmd p.cid { s.cmd p.cid with cslot := p.cslot, dies := p.dies, firstRow := s.row, rows := p.rows, gap := true }
      else
        let cid := s.data.nextCid
        let c := { Cmd.place d p.cslot p.dies s.row p.rows with graph := g, gap := true }
        let one (x : GTask × Nat) : GTask := if x.2 = p.task then { x.1 with cid := some cid } else x.1
        let s := { s with seq := { s.seq with graphs := s.seq.graphs.map (fun (x : Graph) =>
          if x.id = g then { x with tasks := x.tasks.zipIdx.map one } else x) } }
        { s with data := { s.data with nextCid := cid + 1 } }.setCmd cid c

/-- R76, R104. A gap command whose rows a serving step interrupts is frogged and reruns at the next gap. -/
def State.frogGap (s : State) : State :=
  let hit := (s.data.cmds.filter (fun c => c.2.gap && !c.2.committed && !c.2.frogged && !c.2.started.isEmpty &&
    !s.seq.dead.contains c.1)).map (·.1)
  let s := hit.foldl State.frog s
  { s with seq := { s.seq with gap := none } }

/-- R291. A gap command that has been frogged 16 times. -/
def State.forcedCmd (s : State) : Option (Nat × Cmd) :=
  s.data.cmds.find? (fun c => !c.2.step && !c.2.committed && 16 ≤ c.2.frogs && s.trains c.2.desc.fn &&
    !s.seq.dead.contains c.1)

/-! ### What the boundary picks -/

/-- What the next row is: the running step's next row (in a replay too), a ramp row, a row for a command that must run now
(R291), a row of a training window, the first row of the step ready in a buffer, a gap row, or none. -/
inductive Pick where
  | step (st : StepRun)
  | ramp
  | forced (fn : Nat)
  | window (w : Window)
  | start (k : Nat)
  | gap (fn : Nat)
  | idle
  deriving DecidableEq, Repr

/-- R65. The ready buffers whose step has not started, the lowest header STEP first. -/
def State.readyBuffers (s : State) : List Nat :=
  let ready := (setBits (s.reg Reg.SEQ_ROSTER_READY_READY) 16).filter (fun k => !bit (s.reg Reg.SEQ_ROSTER_LOCK_LOCK) k)
  sortBy ready (fun a b => lexLe [(s.rosterMem a).step, a] [(s.rosterMem b).step, b])

/-- The template that the roster of buffer `k` names. -/
def State.templateOf (s : State) (r : Roster) : Option Template := s.seq.templates.find? (fun t => t.id == r.template)

/-- R59, R416. Ramp rows that a step of template `t` needs: none on a pipeline. -/
def State.rampsFor (s : State) (t : Template) : Nat :=
  if s.reg Reg.LNK_FABRIC_ROLE ≠ 0 then 0
  else
    let slope := s.reg Reg.PWR_RAMP_SLOPE
    let target := ((t.rows.head?).bind (fun (r : RowRecord) => r.power.head?)).getD 0 - slope
    ceilDiv (target - s.seq.load) (slope * (s.reg Reg.SEQ_ROW_CFG_ROW_LEN + 1))

/-- R48, R65, R75, R105, R291, R292, R376, R598. What the boundary starts next; during a bind-off only ready steps. -/
def State.pick (s : State) : Pick :=
  let run := s.flag Reg.SEQ_CTRL_RUN
  match s.seq.step with
  | some st =>
    if st.ended then .idle
    else match s.seq.replay with
      | some r => .step { st with row := r }
      | none => .step st
  | none =>
    if !run then .idle
    else
      if s.mod.bindOff.isSome then s.readyBuffers.head?.elim .idle .start
      else match s.seq.window with
      | some w => .window w
      | none =>
        match s.forcedCmd with
        | some c => .forced c.2.desc.fn
        | none =>
          match s.seq.windows.find? (fun w => w.step == s.stepNo) with
          | some w => .window w
          | none =>
            match s.readyBuffers with
            | k :: _ => .start k
            | [] => if s.reg Reg.LNK_FABRIC_ROLE ≠ 0 then .idle else (s.gapFn).elim .idle .gap

/-- R376. A command that must run now waits while this round's forced run has been: the boundary picks as if it were not
there. -/
def State.pickNext (s : State) : Pick :=
  if s.serve.round.forced ∧ s.seq.gap.isNone then
    { s with data := { s.data with cmds := s.data.cmds.filter (fun c => c.2.frogs < 16) } }.pick
  else s.pick

/-! ### Starting a row -/

/-- R22, R409, R410. Links whose row-done token a row awaits and has not got. -/
def State.missing (s : State) (r : RowRecord) : List Nat :=
  (setBits r.upstream 16).filter (fun l => (s.link l).tokens == 0)

/-- R409. Consume one token of a link. -/
def State.consumeToken (s : State) (l : Nat) : State :=
  let c := s.link l
  (s.setLink l { c with tokens := c.tokens - 1 }).setF (linkFn l) Reg.LNK_TOKEN_RX_ORD_RX (c.ordRx - c.tokens)

/-- The port on which the module puts a message that goes neither to the host nor over a link: Row Beacon out (R411). -/
def beaconPort : Nat := 100

/-- R81, R409, R411. A row of a kind begins: its number, what it consumes, and what SEQ_STATUS shows. -/
def State.beginRow (s : State) (kind : RowKind) (r : RowRecord) : State :=
  let s := if s.seq.rowsRun = 0 then s else s.inc2 Reg.SEQ_ROW_LO_ROW_LO Reg.SEQ_ROW_HI_ROW_HI 1
  let s := (setBits r.upstream 16).foldl State.consumeToken s
  let s := { s with seq := { s.seq with active := true, kind := kind, record := r, fetched := none, replay := none,
                                        rowsRun := s.seq.rowsRun + 1 } }
  let s := (((s.set Reg.SEQ_STATUS_STATE 1).set Reg.SEQ_STATUS_RAMPING (b2n (kind == .ramp))).set Reg.SEQ_STATUS_GAP_ROW
    (b2n (kind == .gap))).set Reg.SEQ_TOKEN_WAIT_WAIT 0
  let s := if kind = .ramp then s.inc Reg.SEQ_RAMP_ROWS_RAMPS 1 else s
  let s := s.showActive true
  if s.flag Reg.LNK_CTRL_BEACON_OUT_EN then { s with out := { s.out with side := s.out.side ++ [(beaconPort, [])] } } else s

/-- R22, R410. Start row `r`, unless tokens it awaits have not arrived, or it names a link that waits for FABRIC_RESYNC. -/
def State.gated (s : State) (r : RowRecord) (k : State → State) : State :=
  if (r.upstream ||| r.downstream) &&& s.seq.resync ≠ 0 then s
  else
    let miss := s.missing r
    if miss.isEmpty then k s
    else s.set Reg.SEQ_TOKEN_WAIT_WAIT ((miss.map (2 ^ ·)).foldl (· + ·) 0)

/-- R70, R44. A roster that fails its check: ROSTER_INVALID, no command frogged, the step not started. -/
def State.rosterInvalid (s : State) : State :=
  let s := s.setSeqFault 0 3
  let s := (s.sendTokens s.seq.record.downstream (some 3)).needResync
  s.enterFaulted.startFlush

/-- R473. The functions of a roster that do not allow the template. -/
def State.disallowed (s : State) (r : Roster) (t : Template) : Bool := r.entries.any (fun e => !s.allows e.fn t)

/-- R62. Show the template of the running step, and whether it is declared above the cap. -/
def State.showTemplate (s : State) (t : Template) : State :=
  let above := decide (t.level < s.cap)
  let s := ((s.set Reg.SEQ_STATUS_TEMPLATE t.id).set Reg.SEQ_STATUS_CAP_MISMATCH (b2n above)).set Reg.PWR_GAUGE_RUN_CLASS
    t.loadClass
  if above then
    s.tinkLog 0x0108 noFn (leBytes t.id 2 ++ leBytes t.level 1 ++ leBytes (s.reg Reg.PWR_LEVEL_IN_FORCE) 1)
  else s

/-- R64, R66, R477, R628. A step starts: its buffer is locked, the template's commands are placed, and the touch logs of its
functions take its template and weights. -/
def State.startStep (s : State) (k : Nat) (r : Roster) (t : Template) : State :=
  let s := s.frogGap
  let cid := s.data.nextCid
  let cmds := t.cmds.zipIdx.map (fun (x : TemplateCmd × Nat) =>
    (cid + x.2, { Cmd.place x.1.desc x.1.cslot x.1.dies x.1.firstRow x.1.rows with step := true }))
  let s := cmds.foldl (fun (s : State) (c : Nat × Cmd) => s.setCmd c.1 c.2) s
  let s := { s with
    data := { s.data with nextCid := cid + t.cmds.length }
    serve := { s.serve with ready := Store.put s.serve.ready k r }
    seq := { s.seq with step := some ⟨k / 2, k % 2, r, t.id, cmds.map (fun (c : Nat × Cmd) => c.1), 0, false⟩, rampsLeft := 0, stalled := false } }
  let s := ((r.entries.map (fun (e : RosterEntry) => e.fn)).dedup).foldl (fun (s : State) fn =>
    (s.touchLog fn ⟨0, t.id, t.digest⟩).touchLog fn ⟨1, t.model, (s.model t.model).digest⟩) s
  (s.orBits Reg.SEQ_ROSTER_LOCK_LOCK (2 ^ k)).showTemplate t

/-- The row record of row `i` of template `id`. -/
def State.rowRecord (s : State) (id i : Nat) : RowRecord :=
  ((s.seq.templates.find? (fun t => t.id == id)).bind (fun t => t.rows[i]?)).getD RowRecord.empty

/-- R58. The record of a ramp row placed before a step. -/
def rampRecord (target : Nat) : RowRecord := { RowRecord.empty with ramp := true, target := target }

/-- R65, R70, R59. The boundary has picked the step ready in buffer `k`. -/
def State.tryStart (s : State) (k : Nat) : State :=
  let r := s.rosterMem k
  match s.templateOf r with
  | none => s.rosterInvalid
  | some t =>
    if s.disallowed r t then
      ((s.secErr Reg.SEC_ERR_POLICY_ROSTER).tinkLog 0x0B07 noFn (leBytes 0 2 ++ leBytes t.id 2)).rosterInvalid
    else if !s.rosterOk k r t then s.rosterInvalid
    else
      let n := if s.seq.rampsLeft = 0 then s.rampsFor t + 1 else s.seq.rampsLeft
      if n ≤ 1 then
        let rec0 := s.rowRecord t.id 0
        s.gated rec0 (fun s => (s.startStep k r t).beginRow .serve rec0)
      else
        let target := ((t.rows.head?).bind (fun (r : RowRecord) => r.power.head?)).getD 0 - s.reg Reg.PWR_RAMP_SLOPE
        { s with seq := { s.seq with rampsLeft := n - 1, rampTarget := target } }.beginRow .ramp (rampRecord target)

/-- R75, R290. A gap row of function `fn`. -/
def State.gapRow (s : State) (fn : Nat) (o : RowStartOp) : State :=
  let had := s.seq.gap.isSome
  let t := { s with seq := { s.seq with rampsLeft := 0 } }.beginRow .gap { o.record with upstream := 0, downstream := 0 }
  let t := o.places.foldl (State.placeOne fn 8 false) t
  match t.data.cmds.find? (fun c => c.2.gap && c.2.desc.fn == fn && !c.2.committed && !t.seq.dead.contains c.1 &&
      t.row < c.2.firstRow + c.2.rows && c.2.firstRow ≤ t.row) with
  | some c => { t with seq := { t.seq with gap := some (fn, c.1),
                                           gapCounts := Store.modify t.seq.gapCounts fn 0 (· + 1) } }
  | none => if had then t else s

/-- R292, R293. A row of a training window. -/
def State.windowRow (s : State) (w : Window) (o : RowStartOp) : State :=
  s.gated o.record (fun s =>
    let s := s.frogGap
    let s := { s with seq := { s.seq with window := some w, rampsLeft := 0,
                                          windows := s.seq.windows.filter (fun x => x.step != w.step) } }
    o.places.foldl (State.placeOne w.fn w.rows true) (s.beginRow .window o.record))

/-- R65. A boundary finds no roster ready though sequences wait: counted once for each step delayed. -/
def State.countStall (s : State) : State :=
  let waits := s.serve.seqs.any (fun q => (q.2.phase == .prefill || q.2.phase == .decode) && !q.2.closing)
  if s.seq.stalled ∨ !waits ∨ !s.readyBuffers.isEmpty ∨ s.seq.step.isSome ∨ s.seq.rowsRun = 0 then s
  else { s with seq := { s.seq with stalled := true } }.inc Reg.SEQ_ROSTER_STALL_STALLS 1

/-- R22, R114. A row boundary: the level in force changes, and the next row starts. -/
def State.boundary (s : State) (o : RowStartOp) : State :=
  let s := if s.seq.active then s else s.settleResets
  if !s.mayRun then s
  else
    let s := (s.applyLevel).countStall
    match s.pickNext with
    | .step st =>
      let r := s.rowRecord st.template st.row
      s.gated r (fun s => { s with seq := { s.seq with step := some st } }.beginRow (if r.ramp then .ramp else .serve) r)
    | .ramp => s
    | .forced fn =>
      let t := s.gapRow fn o
      if t.seq.active then { t with serve := { t.serve with round := { t.serve.round with forced := true } } } else t
    | .window w => s.windowRow w o
    | .start k => s.tryStart k
    | .gap fn => s.gapRow fn o
    | .idle =>
      if s.reg Reg.SEQ_STATUS_STATE = 3 ∨ s.seq.step.isSome then s else s.rest 0

/-! ### Ending a row -/

/-- R306, R447. Tasks that depend, at any distance, on a task in `bad`. -/
def Graph.dependents (g : Graph) (bad : List Nat) : Nat → List Nat
  | 0 => bad
  | n + 1 =>
    let l := (List.range g.tasks.length).filter (fun i => bad.contains i ||
      (g.tasks[i]?).elim false (fun t => t.producers.any (fun p => bad.contains p)))
    g.dependents l n

/-- R293. At the end of a training window, tasks too long for it complete NO_CAPACITY and the tasks that depend on them
FAULTED. -/
def State.endWindow (s : State) (w : Window) : State :=
  let one (s : State) (g : Graph) : State :=
    let long := (List.range g.tasks.length).filter (fun i => (g.tasks[i]?).elim false (fun t =>
      t.cid.isNone && !t.done && w.total < t.rows))
    let dep := (g.dependents long g.tasks.length).filter (fun i => !long.contains i)
    let give (st : Status) (s : State) (i : Nat) : State :=
      (g.tasks[i]?).elim s (fun t => if t.done then s else s.postCommand t.desc 0 st [] 0)
    let s := dep.foldl (give .faulted) (long.foldl (give .noCapacity) s)
    let mark (x : GTask × Nat) : GTask := if long.contains x.2 || dep.contains x.2 then { x.1 with done := true } else x.1
    let gs := s.seq.graphs.map (fun (x : Graph) => if x.id = g.id then { x with tasks := x.tasks.zipIdx.map mark } else x)
    { s with seq := { s.seq with graphs := gs.filter (fun x => x.tasks.any (fun t => !t.done)) } }
  let s := (s.seq.graphs.filter (fun g => g.fabric && g.fn == w.fn)).foldl one s
  { s with seq := { s.seq with window := none } }

/-- R37, R378. What the end of a row of its kind leaves. -/
def State.endKind (s : State) : State :=
  match s.seq.kind with
  | .ramp => match s.seq.step with
    | some st => { s with seq := { s.seq with step := some { st with row := st.row + 1 } } }
    | none => s
  | .gap =>
    let s := match s.seq.gap with
      | some g => s.charge g.1 256
      | none => s
    s
  | .window =>
    match s.seq.window with
    | none => s
    | some w =>
      let s := s.charge w.fn 256
      if w.rows ≤ 1 then s.endWindow w
      else { s with seq := { s.seq with window := some { w with rows := w.rows - 1 } } }
  | .serve =>
    match s.seq.step with
    | none => s
    | some st =>
      if st.ended then
        let s := st.cids.foldl State.dropCmd s
        { s with seq := { s.seq with step := none } }.set Reg.SEQ_STATUS_TEMPLATE 0xFFFF
      else { s with seq := { s.seq with step := some { st with row := st.row + 1 } } }

/-- R105. The first row of the earliest frogged command of the running step. -/
def State.replayRow (s : State) (cids : List Nat) : Option Nat :=
  match s.seq.step with
  | none => none
  | some st =>
    let rows := (st.cids.filter (fun c => cids.contains c)).map (fun c => (s.cmd c).firstRow)
    rows.foldl (fun (a : Option Nat) r => match a with
      | none => some r
      | some b => some (min b r)) none

/-- R447. The job of the running pattern faults: what its peers' fault would do here. -/
def State.faultJob (s : State) (cids : List Nat) : State :=
  let s := s.faultCommands cids
  if s.seq.step.isSome then s.faultStep else s

/-- R48, R104 to R106. HALT_ROW takes effect: uncommitted commands are frogged, to be replayed; a pattern that names links
faults as a whole. -/
def State.haltRow (s : State) : State :=
  let cids := s.uncommitted
  let replay := match s.seq.step with
    | some st => if st.ended then none else some ((s.replayRow cids).getD st.row)
    | none => none
  let linked := s.seq.record.upstream ≠ 0 ∨ s.seq.record.downstream ≠ 0
  let s := cids.foldl State.frog s
  let s := { s with seq := { s.seq with gap := none, replay := replay } }
  let s := if linked ∧ cids ≠ [] then
      let s := (s.faultPeers).faultJob cids
      { s with seq := { s.seq with replay := none, window := none } }
    else s
  s.haltDone

/-- R48. What follows a row's end: a halt requested, RUN cleared, or the next boundary. -/
def State.afterRow (s : State) : State :=
  if s.flag Reg.SEQ_CTRL_HALT_ROW then s.haltRow
  else if s.flag Reg.SEQ_CTRL_HALT_STEP ∧ s.seq.step.isNone then s.haltDone
  else if !s.flag Reg.SEQ_CTRL_RUN ∧ s.seq.step.isNone then s.rest 0
  else s

/-- R37. Whether the running row may end: no tier write waits for its acknowledgement, and a step's last row only once its
X.END has retired. -/
def State.rowComplete (s : State) : Bool :=
  let last := s.seq.kind == .serve && s.seq.record.stepLast
  s.seq.active && s.data.cmds.all (fun c => c.2.writes.isEmpty) &&
    (!last || (s.seq.step).elim true (·.ended))

/-- R37, R39, R48, R114, R433. The running row ends. -/
def State.endRow (s : State) (o : RowCompleteOp) : State :=
  let s := (s.peak Reg.SEQ_ROWTIME_PEAK_PEAK_NS o.ns).peak Reg.SEQ_SLIP_PEAK_SLIP o.slip
  let s := s.sample 0 Reg.SEQ_ROWTIME_MARK_STATUS Reg.SEQ_ROWTIME_MARK_INT_EN Reg.SEQ_ROWTIME_CROSS_CROSSINGS
    (decide (s.reg Reg.SEQ_ROWTIME_MARK_THRESH * 250 < o.ns))
  let s := s.inc Reg.PWR_BARRIER_US_WAIT o.barrierUs
  let s := s.sendTokens s.seq.record.downstream none
  let s := { s with
    seq := { s.seq with active := false }
    serve := { s.serve with windowRows := s.serve.windowRows + 1 }
    twin := { s.twin with rows := s.twin.rows + 1 } }
  let s := ((s.set Reg.SEQ_STATUS_RAMPING 0).set Reg.SEQ_STATUS_GAP_ROW 0).endKind
  (s.settleResets.settlePreempts.settleMotifs.closeSeqs.releaseDoomed.settle).afterRow

end Sys2Proof.Machine
end

