-- ==== Sys2Proof/Machine/BindOps.lean ====
section
/-!
DEFINITION. What bind-off does step by step (R598), the retained copies it writes (R587, R591), and the end of a twin set
(R426, R597).
-/

namespace Sys2Proof.Machine

/-! ### The end of a twin set -/

/-- R426. Name the twin links, in TWN_LINKS and in LNK_CFG. -/
def State.setTwinLinks (s : State) (mask : Nat) : State :=
  ((List.range 16).foldl (fun (s : State) l => s.setF (linkFn l) Reg.LNK_CFG_TWIN (b2n (bit mask l))) s).set Reg.TWN_LINKS_TWIN mask

/-- R426, R597. The set ends: state NONE, ROLE none, the contents intact; completions wait no longer. -/
def State.dissolve (s : State) : State :=
  let held := s.twin.waiting
  let s := (((s.set Reg.TWN_STATE_STATE 0).set Reg.TWN_STATE_ROLE 0).set Reg.TWN_STATE_PEER 0).set Reg.TWN_STATE_AUTO_TAKEOVER 0
  let s := (s.setTwinLinks 0).set Reg.TWN_LINKS_LIVE 0
  let t := s.twin.resync
  let s := { s with twin := { TwinState.reset with lifelines := s.twin.lifelines } }
  let s := held.foldl (fun (s : State) p => s.post p.2.fn p.2.kind p.2.status p.2.sq p.2.counted p.2.body) s
  t.elim s (fun t => s.reply t .faulted [])

/-! ### Retained copies -/

/-- R588, R591. The retained fields as a copy holds them: for each register, its offset and the word of those fields. -/
def State.retainedRegs (s : State) : List (Nat × Nat) :=
  ((retainedFields.map (·.off)).dedup).map (fun o =>
    (o, ((retainedFields.filter (fun f => f.off == o)).map (fun f => s.reg f * 2 ^ f.lo)).foldl (· + ·) 0))

/-- R591. The copy that the next write overwrites, true for B: the one that did not win; after a defaults outcome an invalid
one, A first, else the one with the lower SEQ. -/
def State.nextCopy (s : State) : Bool :=
  match s.mod.winner with
  | 0 => true
  | 1 => false
  | _ =>
    match s.mod.copyA, s.mod.copyB with
    | none, _ => false
    | some _, none => true
    | some a, some b => b.seq < a.seq

/-- R591. The SEQ of the next write. -/
def State.nextRetSeq (s : State) : Nat := 1 + max (s.mod.copyA.elim 0 (·.seq)) (s.mod.copyB.elim 0 (·.seq))

/-- R591, R600, R601. A retained write ends: the copy holds the present values, or is left invalid. -/
def State.writeRetained (s : State) (failed : Bool) : State :=
  let toB := s.nextCopy
  let seq := s.nextRetSeq
  let c : Option RetCopy := if failed then none else some ⟨seq, s.retainedRegs, s.pwr.gauge⟩
  let s := { s with mod := { s.mod with
    copyA := if toB then s.mod.copyA else c
    copyB := if toB then c else s.mod.copyB
    writeDue := false
    gaugeChanged := s.mod.gaugeChanged && failed } }
  let s := s.set (if failed then Reg.GLB_RETAIN_CTL_WRITE_FAIL else Reg.GLB_RETAIN_CTL_WRITE_DONE) 1
  s.tinkLog 0x0C0E noFn (leBytes (b2n toB) 1 ++ leBytes (b2n failed) 1 ++ leBytes 0 6 ++ leBytes seq 8)

/-! ### Bind-off -/

/-- R598 step 2. Whether the running and the ready step have run, as far as the sequencer lets them. -/
def State.bindDrained (s : State) : Bool :=
  !s.seq.active && ((s.seq.step.isNone && s.readyBuffers.isEmpty) || !s.mayRun ||
    (!s.flag Reg.SEQ_CTRL_RUN && s.seq.step.isNone))

/-- R598 steps 2 and 3. At a row boundary uncommitted training commands are frogged; once the steps have run every open
sequence ends FAULTED, and every dirty tensor is written back. -/
def State.bindDrain (s : State) (b : BindOff) : State :=
  if s.seq.active then s
  else
    let fns := ((s.data.cmds.filter (fun c => !c.2.step && !c.2.committed)).map (·.2.desc.fn)).dedup
    let s := fns.foldl State.frogFn s
    let s := { s with seq := { s.seq with windows := [], window := none, gap := none } }
    if !s.bindDrained then s
    else
      let s := (s.serve.seqs.map (·.1)).foldl (fun (s : State) id => s.finishSeq id 3 .faulted) s
      let dirty := (s.tier.tt.map (·.2)).filter (·.dirty)
      let kib := ceilDiv ((dirty.map (·.size)).foldl (· + ·) 0) 4
      let s := dirty.foldl State.writeBack s
      { s with mod := { s.mod with bindOff := some { b with stage := 1, kib := kib } } }

/-- R598 step 6. Every frame that is not OPEN is zero-filled. -/
def State.zeroClosed (s : State) : State :=
  { s with tier := { s.tier with near := s.tier.near.filter (fun c => (s.region (frameOf (c.1 / 256))).cls == 0) } }

/-- R598 steps 5 to 7, R597. -/
def State.bindLinks (s : State) (b : BindOff) : State :=
  let s := ((List.range 16).filter s.linkUp).foldl State.detach s
  let s := if s.reg Reg.TWN_STATE_STATE = 4 then s.dissolve else s
  let s := (if b.zeroNear then s.zeroClosed else s).startFlush
  { s with mod := { s.mod with bindOff := some { b with stage := 3 } } }

/-- R598. The module is bound off: the reply carries the MiB written back and the duration, which the model does not show. -/
def State.bindDone (s : State) (b : BindOff) : State :=
  let r := s.draw
  let s := { r.2 with mod := { r.2.mod with bindOff := none } }.set Reg.GLB_CASTON_MODE 2
  let s := s.tinkLog 0x0C0D noFn (leBytes 2 4 ++ leBytes (b.kib / 1024) 4)
  s.reply b.ticket .ok (leBytes (b.kib / 1024) 4 ++ leBytes r.1 4)

/-- R598. A bind-off goes on as far as it can: stage 0 the steps, 1 the write-back, 2 the retained write, 3 the flush. -/
def State.bindAdvance (s : State) : State :=
  let one (s : State) : State :=
    match s.mod.bindOff with
    | none => s
    | some b =>
      match b.stage with
      | 0 => s.bindDrain b
      | 1 =>
        if s.tier.moves.any (fun m => m.cause == .writeback) then s
        else { s with mod := { s.mod with bindOff := some { b with stage := 2 }, writeDue := true } }
      | 2 => if s.mod.writeDue then s else s.bindLinks b
      | _ => if s.tink.flushing then s else s.bindDone b
  one (one s)

end Sys2Proof.Machine
end

