-- ==== Sys2Proof/Machine/ModuleOps.lean ====
section
/-!
DEFINITION. Module faults (R447), complex resets (R540, R541, R543), and the loss of power (R526, R344, R451).
-/

namespace Sys2Proof.Machine

/-! ### Jobs -/

/-- R426. Whether this module is the mirror of a set, which runs no job of its own. -/
def State.mirrorsPeer (s : State) : Bool :=
  s.reg Reg.TWN_STATE_ROLE == 2 && (s.reg Reg.TWN_STATE_STATE == 1 || s.reg Reg.TWN_STATE_STATE == 2)

/-- R447, R541 step 3. Issue stops: uncommitted commands are frogged, the sequencer enters FAULTED, and the Tink log is flushed. -/
def State.stopJobs (s : State) : State :=
  if s.mirrorsPeer then s.startFlush else (s.uncommitted.foldl State.frog s).enterFaulted.startFlush

/-- R447, R541 step 8. Every job of the module faults: admitted commands and tasks complete FAULTED, open sequences end
FAULTED, and no roster stands. -/
def State.faultAll (s : State) : State :=
  if s.mirrorsPeer then s
  else
    let s := s.faultCommands ((s.data.cmds.filter (fun c => !c.2.committed && !s.seq.dead.contains c.1)).map (·.1))
    let s := s.faultTasks (s.seq.graphs.map (·.id))
    let s := { s with seq := { s.seq with graphs := [], windows := [], window := none, gap := none } }.faultStep
    let s := (s.serve.seqs.map (·.1)).foldl (fun (s : State) id => s.finishSeq id 3 .faulted) s
    let s := (s.serve.ready.map (·.1)).foldl (fun (s : State) k => s.clrBits Reg.SEQ_ROSTER_READY_READY (2 ^ k)) s
    { s with serve := { s.serve with ready := [] } }

/-- R447, R429. A Module fault: a twinned primary sends FAULT with `cause`, and every job faults. -/
def State.moduleFault (s : State) (cause : Nat) : State :=
  let s := if s.waitsForMirror then s.sendTwin (.twinFault cause) else s
  (s.stopJobs.faultAll).settleResets

/-! ### Firmware updates -/

/-- R549, R553. The bank, 0 A and 1 B, of the running image of a class: the inactive one during a trial. -/
def State.runningBank (s : State) (c : Nat) : Nat := s.activeBank c ^^^ b2n (bit (s.reg Reg.GLB_FW_BANKS_TRIAL) c)

/-- R553. Show the inactive banks: bit k of OTHER_BAD, and of PENDING. -/
def State.showBanks (s : State) : State :=
  let mask (p : Nat → Bool) : Nat :=
    ((List.range 4).map (fun k => if p (Store.getD s.fw.banks k 2) then 2 ^ k else 0)).foldl (· + ·) 0
  (s.set Reg.GLB_FW_BANKS_OTHER_BAD (mask (fun b => b < 2 || b == 3))).set Reg.GLB_FW_BANKS_PENDING
    (mask (fun b => b == 4) &&& (15 - s.reg Reg.GLB_FW_BANKS_TRIAL))

/-- R547. The update session ends: a bank only partly written is marked empty. -/
def State.endUpdate (s : State) : State :=
  match s.fw.update with
  | none => s
  | some u =>
    let banks := s.fw.banks.map (fun (b : Nat × Nat) => if b.2 = 1 then (b.1, 0) else b)
    let s := { s with fw := { s.fw with update := none, banks := banks } }.set Reg.GLB_FW_STATUS_UPDATE_OPEN 0
    let s := s.showBanks
    u.current.elim s (fun c => s.tinkLog 0x0C07 noFn (leBytes c 1 ++ leBytes 4 1))

/-! ### Complex resets -/

/-- R541 step 2. Fetch pointers rewind to HQ_SQn_HEAD; what was fetched and not admitted is fetched again. -/
def State.rewindQueues (s : State) : State :=
  { s with host := { s.host with
    fetched := []
    fetchAt := s.host.fetchAt.map (fun (f : Nat × Nat) => (f.1, s.getF (f.1 / 8) (sqReg Reg.HQ_SQ0_HEAD_HEAD (f.1 % 8)))) } }

/-- R541 step 3. Once the running row has finished, issue stops. -/
def State.resetAdvance (s : State) : State :=
  if (s.flag Reg.GLB_FW_STATUS_RESETTING ∨ s.fw.held) ∧ !s.seq.active ∧ s.reg Reg.SEQ_STATUS_STATE ≠ 3 then s.stopJobs else s

/-- R549. A complex reset during a trial rolls it back through a full cast-on: the trial's banks have failed. -/
def State.failTrial (s : State) : State :=
  let mask := s.reg Reg.GLB_FW_BANKS_TRIAL
  if mask = 0 then s
  else
    let banks := (setBits mask 4).foldl (fun (b : List (Nat × Nat)) k => Store.put b k 3) s.fw.banks
    { s with fw := { s.fw with banks := banks }, mod := { s.mod with off := true } }

/-- R540, R541 steps 1 to 6, R543, R547, R554. A complex reset for CAUSE `cause` of component `comp`, at millisecond `now`; a
trigger during a reset has no further effect. -/
def State.complexReset (s : State) (cause comp flags now : Nat) : State :=
  if s.flag Reg.GLB_FW_STATUS_RESETTING ∨ s.fw.held then s
  else
    let recent := s.fw.resets.filter (fun t => now < t + 600000) ++ [now]
    let esc := decide (4 ≤ recent.length)
    let s := (s.inc Reg.GLB_FW_RESETS_COUNT 1).set Reg.GLB_FW_ERR_COMPLEX_RESET 1
    let s := s.tinkLog 0x0C03 noFn (leBytes cause 1 ++ leBytes comp 1 ++ leBytes 0 1 ++ leBytes (flags + 4 * b2n esc) 1)
    let s := if s.waitsForMirror then s.sendTwin (.twinFault 0xFF) else s
    let s := (((s.set Reg.GLB_STATUS_READY 0).set Reg.GLB_FW_STATUS_RESETTING 1).set Reg.GLB_FW_STATUS_COMPLEX_UP 0).set
      Reg.GLB_FW_STATUS_FAILED 0
    let s := (s.rewindQueues).endUpdate
    let s := { s with
      fw := { s.fw with resets := recent, held := esc, missed := [], sram := [], saved := [] }
      tier := { s.tier with moves := s.tier.moves.map (fun (m : Move) => if m.running then { m with stopped := true } else m) } }
    let s := if esc then (s.set Reg.GLB_STATUS_RECOVERY 1).set Reg.GLB_FW_STATUS_RESETTING 0 else s
    (s.resetAdvance).failTrial

/-! ### Loss of power -/

/-- R451. The ring goes to the flush area, if the bank can fund it; else the next cast-on finds the log lost. -/
def State.lastFlush (s : State) (can : Bool) : State :=
  let good := can && s.flag Reg.TNK_STATUS_FLUSH_READY
  let l := s.tink.flushes ++ (if good then [s.tink.ring] else [])
  { s with tink := { s.tink with flushes := l.drop (l.length - 16), flushing := false } }.set Reg.TNK_STATUS_LOG_LOST (b2n (!good))

/-- R344, R340. A dirty tensor is written back on the bank's energy: with HOLDUP_READY set surely, else perhaps. -/
def State.saveDirty (s : State) (t : Tensor) : State :=
  let r := s.draw
  let s := r.2
  if (s.reg Reg.GLB_STATUS_HOLDUP_READY = 0 ∧ r.1 % 2 = 0) ∨ !s.deepKey t.fn t.keyIndex ∨ s.tier.deepFree < t.deepUnits then s
  else
    let d := s.takeDeep t.deepUnits
    let n := 256 * t.size
    let s := d.2.putCells t.fn .deep d.1 0 n (d.2.cellsAt .near t.loc 0 n [])
    let s := if t.homeSet then s.releaseDeep t.home t.deepUnits else s
    (s.wroteFlash t.size).putTensor { t with home := d.1, homeSet := true, dirty := false }

/-- R526, R570, R596. The module loses power: the data path stops at once, the log is flushed, dirty tensors are written back,
oldest first, and everything outside the always-on domain goes off. -/
def State.powerOff (s : State) (canFlush canWrite : Bool) : State :=
  let s := { s with seq := { s.seq with active := false }, mod := { s.mod with
    off := true, bindOff := none, steps := [], storePower := s.mod.storePower || s.reg Reg.PWR_STATE_STATE == 4 } }
  let s := s.endUpdate.lastFlush canFlush
  let s := s.tier.moves.foldl State.dropMove s
  if !canWrite then s
  else
    let dirty := sortBy ((s.tier.tt.map (·.2)).filter (fun t => t.dirty && t.tier == .near)) (fun a b => a.dirtyRow ≤ b.dirtyRow)
    dirty.foldl State.saveDirty s

end Sys2Proof.Machine
end

