-- ==== Sys2Proof/Machine/PowerOps.lean ====
section
/-!
DEFINITION. Levels that change (R556), power-state transitions (R564 to R569), the steps of STORE (R566), and deferred requests
(R483, R484).
-/

namespace Sys2Proof.Machine

/-! ### Levels -/

/-- R556. A cap or the requested level has changed: a faster level waits for the voltage. -/
def State.levelChanged (s : State) : State :=
  let s := s.showCaps
  { s with pwr := { s.pwr with voltageWait := decide (s.cap < s.reg Reg.PWR_LEVEL_IN_FORCE) } }

/-! ### Deferred requests -/

/-- R484. Whether a frame is ASSIGNED and of class TENANT, SEALED, BASE_SECRET or LENT. -/
def Region.guarded (r : Region) : Bool := r.state == 1 && (r.cls == 1 || r.cls == 2 || (8 ≤ r.cls && r.cls ≤ 16))

/-- Whether frame `f` lies in stretches of frames (first, frames). -/
def inFrames (l : List (Nat × Nat)) (f : Nat) : Bool := l.any (fun p => p.1 ≤ f && f < p.1 + p.2)

/-- R566 step 4. The VFs that are not DISABLED. -/
def State.openVfs (s : State) : List Nat :=
  (s.tier.ctx.map (·.1)).filter (fun fn => fn != 0 && s.getF fn Reg.GLB_FN_STATE_STATE != 0)

/-- R470. Whether a tenant or base-owner key is loaded. -/
def State.anyKey (s : State) : Bool := !s.sec.keys.isEmpty || !s.sec.baseKeys.isEmpty

/-- R484. What keeps a request from being granted: a guarded frame in its block; for the RTP, a key; for the entry to STORE, a VF
that is not DISABLED. -/
def State.blocks (s : State) (d : Defer) : Bool :=
  s.tier.regions.any (fun r => inFrames d.frames r.1 && r.2.guarded) || (d.rtp && s.anyKey) ||
    (d.store && !s.openVfs.isEmpty)

/-- R458, R484. Set or clear HOLD in the frames of a block; a frame without a tag is FREE. -/
def State.holdFrames (s : State) (l : List (Nat × Nat)) (on : Bool) : State :=
  { s with tier := { s.tier with regions := s.tier.regions.map (fun (r : Nat × Region) =>
      if inFrames l r.1 then (r.1, { r.2 with hold := on }) else r) } }

/-- R494. Show whether a request is deferred. The milliseconds left are those at the start: the model counts no time. -/
def State.showDefers (s : State) : State :=
  let on := !s.sec.defers.isEmpty
  (s.set Reg.SEC_STATUS_DEFER_PENDING (b2n on)).set Reg.SEC_DEFER_MS_LEFT (if on then 450 else 0)

/-- R484, R485, R493. Defer a request; a second one for its block joins the first. -/
def State.deferAsk (s : State) (d : Defer) : State :=
  if s.sec.defers.any (fun x => x.block == d.block) then s
  else
    let s := { s with sec := { s.sec with defers := s.sec.defers ++ [d] } }.holdFrames d.frames true
    s.showDefers.tinkLog 0x0B06 noFn (leBytes d.block 1 ++ leBytes d.kind 1 ++ leBytes 0 2 ++ leBytes 450 4)

/-- R484, R485. A request is no longer deferred: HOLD clears where no other request holds the frame. -/
def State.undefer (s : State) (block : Nat) : State :=
  let gone := s.sec.defers.filter (fun d => d.block == block)
  let left := s.sec.defers.filter (fun d => d.block != block)
  let s := gone.foldl (fun (s : State) d => s.holdFrames d.frames false) s
  (left.foldl (fun (s : State) d => s.holdFrames d.frames true) { s with sec := { s.sec with defers := left } }).showDefers

/-! ### STORE -/

/-- R566. The block of the request that the entry to STORE makes: DESIGN CHOICE, the first after those of R483. -/
def storeBlock : Nat := 16

/-- R566 steps 2 and 3. The PF's near tensors go to their homes or are released, slots that lose a shard become EMPTY, and Pattern
Memory and the PF's entries are written to the reserve. -/
def State.storeImageStep (s : State) : State :=
  let mine := (s.tier.tt.map (·.2)).filter (fun t => t.fn == 0 && t.tier == .near)
  let s := (mine.filter (·.homeSet)).foldl (fun (s : State) t =>
    s.arrive (Move.new 0 .other (MoveDesc.reloc t .deep) [] [] true) t t.home) s
  let lost := (mine.filter (fun t => !t.homeSet)).map Tensor.key
  let slots := s.tier.models.filter (fun m => m.2.tensors.any lost.contains)
  let s := slots.foldl (fun (s : State) m =>
    (m.2.tensors.foldl (fun (s : State) k => (s.entry k).elim s s.dropPair) s).setModel m.1 ModelSlot.empty) s
  let s := lost.foldl (fun (s : State) k => (s.entry k).elim s s.dropTensor) s
  let pm := s.patternMem
  let image : StoreImage :=
    { templates := s.seq.templates
      cells := Memory.cut s.tier.near (256 * pm.1) (256 * pm.2)
      tensors := (s.tier.tt.map (·.2)).filter (fun t => t.fn == 0)
      models := s.tier.models }
  { s with mod := { s.mod with storeImage := some image } }.showSpace

/-- Whether an entry to STORE runs. -/
def State.entersStore (s : State) : Bool := s.pwr.transition.any (fun t => t.dst == 4 && !t.exits)

/-- R566 steps 1 to 4. Once nothing is being written back, the image is written and the RTP is asked to remove power. -/
def State.advanceStore (s : State) : State :=
  if !s.entersStore ∨ s.mod.storeImage.isSome ∨ s.tier.moves.any (fun m => m.cause == .writeback) then s
  else
    let s := s.storeImageStep
    let d : Defer := ⟨storeBlock, 0, (s.tier.regions.filter (fun r => r.2.guarded)).map (fun r => (r.1, 1)), true, true⟩
    if s.blocks d then
      let s := s.deferAsk d
      (s.pwr.transition.bind (·.ticket)).elim s (fun t => s.reply t .deferred [])
    else s

/-- R566 step 5, R470. Everything outside the always-on domain is powered down: the near tier and every volatile key are lost, and
the links end. -/
def State.powerDown (s : State) : State :=
  let s := ((List.range 16).filter (fun l => s.linkSt l != 0)).foldl State.detach s
  { s with
    data := { DataPath.reset with nextCid := s.data.nextCid, nextFetch := s.data.nextFetch }
    tier := { s.tier with near := [], regions := [], zeroPend := [] }
    sec := { s.sec with keys := [], baseKeys := [], sessions := [], ide := [], tdi := [] } }

/-- R566. The exit from STORE: Pattern Memory and the entries are reloaded, and the shards of each model slot go to NEAR. -/
def State.storeExit (s : State) : State :=
  match s.mod.storeImage with
  | none => s
  | some i =>
    let pm := s.patternMem
    let s := { s with
      mod := { s.mod with storeImage := none }
      seq := { s.seq with templates := i.templates }
      tier := { s.tier with near := Memory.paste s.tier.near (256 * pm.1) (256 * pm.2) i.cells } }
    let full := i.models.filter (fun m => m.2.state == 2)
    (full.foldl (fun (s : State) m =>
      let s := s.setModel m.1 { m.2 with state := 1 }
      m.2.tensors.foldl (fun (s : State) k =>
        match s.entry k with
        | none => s
        | some t => match s.startMove 0 (.model m.1) (MoveDesc.reloc t .near) Handle.none 0 with
          | .ok s => s
          | .error e => { s with tier := { s.tier with ended := s.tier.ended ++ [(.model m.1, e.1)] } }) s) s).settle

/-! ### Transitions -/

/-- R567. A wake event that is not a message: a frame wakes REST only, the others REST and PARK; during an entry the state that is
being entered counts. -/
def State.wakeFrom (s : State) (deepest : Nat) : State :=
  let st := s.pwr.transition.elim (s.reg Reg.PWR_STATE_STATE) (·.dst)
  if 2 ≤ st ∧ st ≤ deepest then s.wake else s

/-- R582, R581. A transition has completed. -/
def State.stateDone (s : State) (src dst : Nat) (bounce : Bool) : State :=
  (s.pwrErr Reg.PWR_ERR_STATE_DONE).tinkLog 0x0901 noFn (leBytes src 1 ++ leBytes dst 1 ++ leBytes (b2n bounce) 1)

/-- R568. A wake event latched during an entry: the module exits at once. -/
def State.bounce (s : State) : State :=
  if !s.pwr.wake then s
  else
    let s := (s.inc Reg.PWR_BOUNCES_BOUNCES 1).pwrErr Reg.PWR_ERR_BOUNCE
    { s with pwr := { s.pwr with wake := false } }.set Reg.PWR_STATE_WAKE_LATCHED 0 |>.wake

/-- R580. The reply of POWER_STATE. -/
def stateReply (st us : Nat) : List Byte := leBytes st 2 ++ leBytes 0 2 ++ leBytes us 4

/-- R565, R123, R125. What keeps the module from leaving IDLE for `target`. -/
def State.powerConflict (s : State) (target : Nat) : Option Conflict :=
  let fnBusy : Option Nat :=
    ((s.data.cmds.find? (fun c => !c.2.step && !c.2.committed && !s.seq.dead.contains c.1)).map (·.2.desc.fn)).orElse (fun _ =>
      ((s.seq.graphs.find? (fun g => g.tasks.any (fun t => !t.done))).map (·.fn)).orElse (fun _ =>
        ((s.serve.seqs.find? (fun q => q.2.phase != .paused)).map (·.2.fn)).orElse (fun _ =>
          (s.tier.moves.head?).map (·.fn))))
  match fnBusy with
  | some fn => some ⟨5, s.getF fn Reg.GLB_FN_STATE_STATE, fn⟩
  | none =>
    if s.reg Reg.TWN_STATE_STATE ≠ 0 then some ⟨0, s.reg Reg.TWN_STATE_STATE, 0⟩
    else if s.reg Reg.LNK_FABRIC_ROLE ≠ 0 then some ⟨0, s.reg Reg.LNK_FABRIC_ROLE, 0⟩
    else if !s.tier.lent.isEmpty ∨ !s.tier.borrowed.isEmpty then some ⟨0, 1, 0⟩
    else if target = 4 then
      (s.tier.models.find? (fun m => m.2.state == 2 && m.2.params.secret)).map (fun m => ⟨0, 2, m.1⟩)
    else none

/-- R564, R566, R580. The entry to REST, PARK or STORE begins. -/
def State.beginEntry (s : State) (target : Nat) (t : Ticket) : State :=
  let s := { s with pwr := { s.pwr with transition := some ⟨s.reg Reg.PWR_STATE_STATE, target, some t, false⟩ } }.set
    Reg.PWR_STATE_ENTERING 1
  if target ≠ 4 then s
  else ((s.tier.tt.map (·.2)).filter (·.dirty)).foldl State.writeBack { s with mod := { s.mod with storeImage := none } }

end Sys2Proof.Machine
end

