-- ==== Sys2Proof/Machine/ZeroOps.lean ====
section
/-!
DEFINITION. Zero-fills of the Region Table's frames and what they cost: the deadline of a deferred request (R484) and zeroisation
(R481, R482).
-/

namespace Sys2Proof.Machine

/-! ### Frames -/

/-- R458. The frames whose tag satisfies `p`. -/
def State.framesWith (s : State) (p : Nat → Region → Bool) : List Nat := (s.tier.regions.filter (fun r => p r.1 r.2)).map (·.1)

/-- R459. Zero-fill frames; they return to FREE. -/
def State.zeroFrames (s : State) (fs : List Nat) : State :=
  { s with tier := { s.tier with
    near := s.tier.near.filter (fun c => !fs.contains (c.1 / 65536))
    regions := s.tier.regions.filter (fun r => !fs.contains r.1) } }

/-- Whether a near tensor lies in one of some frames. -/
def Tensor.inFrames (t : Tensor) (fs : List Nat) : Bool :=
  t.tier == .near && fs.any (fun f => frameOf t.loc ≤ f && f ≤ frameOf (t.loc + 16 * t.units - 1))

/-- R484, R341. The near copy of a tensor is lost, its frames already FREE: a clean home becomes its deep copy, with a new
generation; any other tensor is POISONED. -/
def State.loseNear (s : State) (t : Tensor) : State :=
  if t.homeSet ∧ !t.dirty then
    let q := s.quota t.fn
    let u := { t with tier := .deep, loc := t.home, gen := nextGen t.gen, moving := false }
    let isMotif := t.kind == .motif
    let s := (s.setTensor u).setQuota t.fn
      { q with nearUsed := q.nearUsed - t.units, motifUsed := q.motifUsed - b2n isMotif }
    let s := match Store.get? s.tier.motifs t.key with
      | some mo => { s with tier := { s.tier with motifs := Store.put s.tier.motifs t.key { mo with state := .parked } } }
      | none => s
    s.noteMoved t.handle u.handle
  else s.setTensor { t with poisoned := true }

/-- Whether a move touches one of some tensors. -/
def State.touches (s : State) (keys : List Nat) (m : Move) : Bool := (s.moved m ++ s.copied m).any (fun t => keys.contains t.key)

/-- R484. Frames are zero-filled by force: moves of the tensors there end FAULTED, and each tensor is handled as a lost near copy.
The functions that own the frames become FAULTED and their open sequences end. -/
def State.forceZero (s : State) (fs : List Nat) : State :=
  let owners := (fs.map (fun f => (s.region f).owner)).dedup
  let hit := (s.tier.tt.map (·.2)).filter (fun t => t.inFrames fs)
  let keys := hit.map Tensor.key
  let s := (s.tier.moves.filter (s.touches keys)).foldl (fun (s : State) m => s.failMove m .faulted) s
  let s := hit.foldl (fun (s : State) t => (s.entry t.key).elim s s.loseNear) (s.zeroFrames fs)
  let s := owners.foldl (fun (s : State) fn => s.setF fn Reg.GLB_FN_STATE_STATE 3) s
  let ids := (s.serve.seqs.filter (fun q => owners.contains q.2.fn)).map (·.1)
  (ids.foldl (fun (s : State) id => s.finishSeq id 3 .faulted) s).showSpace

/-! ### Zeroisation -/

/-- R482. Work of the functions other than the PF ends FAULTED, and so does every serving step: the frames it ran in go. -/
def State.zeroiseJobs (s : State) : State :=
  let mine := (s.data.cmds.filter (fun c => c.2.desc.fn != 0 && !c.2.committed && !c.2.step && !s.seq.dead.contains c.1)).map (·.1)
  let s := s.faultCommands mine
  let s := s.faultTasks ((s.seq.graphs.filter (fun g => g.fn != 0)).map (·.id))
  let s := { s with seq := { s.seq with graphs := s.seq.graphs.filter (fun g => g.fn == 0) } }.faultStep
  let s := (s.serve.seqs.map (·.1)).foldl (fun (s : State) id => s.finishSeq id 3 .faulted) s
  let s := (s.serve.ready.map (·.1)).foldl (fun (s : State) k => s.clrBits Reg.SEQ_ROSTER_READY_READY (2 ^ k)) s
  { s with serve := { s.serve with ready := [], tokens := [] } }

/-- R481. The frames that ZEROISE fills: every one that is not OPEN. Hanks stay lent. -/
def zeroised (_ : Nat) (r : Region) : Bool := r.state == 1 && r.cls != 0 && r.cls != 16

/-- R119, R481. A context block whose frame is zero-filled. -/
def CtxBlock.zeroed (c : CtxBlock) : CtxBlock :=
  { CtxBlock.init 0 c.epoch with streams := List.replicate 16 ⟨0, 0, 0, 0, 0, 0⟩ }

/-- R481. The near tier at zeroisation: frames that are not OPEN, hanks lent, roster and token buffers, and context blocks. -/
def State.zeroiseNear (s : State) : State :=
  let fs := s.framesWith zeroised
  let lent := s.framesWith (fun _ r => r.cls == 16)
  let s := s.zeroFrames fs
  { s with tier := { s.tier with
    near := s.tier.near.filter (fun c => !lent.contains (c.1 / 65536) && !(rosterAddr 0 ≤ c.1 && c.1 < rosterAddr 16))
    ctx := s.tier.ctx.map (fun (c : Nat × CtxBlock) => (c.1, c.2.zeroed)) } }

/-- A near tensor loses its home, and with it what made it dirty. -/
def State.loseHome (s : State) (t : Tensor) : State :=
  if t.tier ≠ .near ∨ !t.homeSet then s
  else
    let s := s.releaseDeep t.home t.deepUnits
    let q := s.quota t.fn
    (s.setTensor { t with homeSet := false, dirty := false }).setQuota t.fn
      { q with deepUsed := q.deepUsed - 64 * t.deepUnits, dirtyLines := q.dirtyLines - (if t.dirty then t.size else 0) }

/-- R481. A tensor at zeroisation: deep extents not under the device storage key are crypto-erased, and the near tier but its OPEN
frames is zero; what then has no copy is POISONED. -/
def State.zeroiseTensor (s : State) (t : Tensor) : State :=
  if t.keyIndex = 0 ∨ t.tier = .host ∨ t.tier = .borrowed then s
  else
    let s := s.loseHome t
    let s := if t.tier = .deep then
        { s with tier := { s.tier with deep := Memory.zero s.tier.deep (4096 * t.loc) (262144 * t.deepUnits) } }
      else s
    s.mapTensor t.key (fun u => { u with poisoned := true })

/-- R469. LIFECYCLE_RMA crypto-erases the whole deep tier. -/
def State.eraseDeep (s : State) : State :=
  let s := { s with tier := { s.tier with deep := [] } }
  (s.tier.tt.map (·.2)).foldl (fun (s : State) t =>
    if t.tier = .deep then s.setTensor { t with poisoned := true } else s.loseHome t) s

/-- R482, R493. Zeroisation completes, and the request is answered: ZEROISE, LIFECYCLE_RMA, or the deadline of a request about the
RTP. How many bytes were filled is open (assumption 2). -/
def State.zeroiseEnd (s : State) : State :=
  let s := ((s.set Reg.SEC_STATUS_ZEROISING 0).secErr Reg.SEC_ERR_ZEROISE_DONE)
  let d := s.draw
  let s := d.2.tinkLog 0x0B05 noFn (leBytes 0 8 ++ leBytes d.1 8)
  let rma := s.host.tickets.filter (fun t => t.type == 0x060B)
  let s := if rma.isEmpty then s else s.eraseDeep.set Reg.SEC_STATUS_LIFECYCLE 2
  (s.host.tickets.filter (fun t => t.type == 0x0607 || t.type == 0x060B)).foldl (fun (s : State) t => s.reply t .ok []) s

/-- R481, R482. Once the data path has halted, zeroisation runs. -/
def State.zeroAdvance (s : State) : State :=
  if !s.flag Reg.SEC_STATUS_ZEROISING ∨ s.seq.active then s
  else
    let s := s.zeroiseJobs
    let keys := ((s.tier.tt.map (·.2)).filter (fun t => t.keyIndex != 0)).map Tensor.key
    let s := (s.tier.moves.filter (s.touches keys)).foldl (fun (s : State) m => s.failMove m .faulted) s
    let s := s.zeroiseNear
    let s := (s.tier.tt.map (·.2)).foldl State.zeroiseTensor s
    s.zeroiseEnd.showSpace

end Sys2Proof.Machine
end

