-- ==== Sys2Proof/Machine/Sequencer.lean ====
section
/-!
DEFINITION. The sequencer's events: rows (R22, R37, R73), the activity limiter (R57), overruns and timeouts (R42, R43), the
Builder's rosters (R64, R375, R380), token copies (R369), scheduling windows (R378), and the writes of the SEQ_ registers
that act (R47, R48, R65, R79, R389, R627).
-/

namespace Sys2Proof.Machine

/-! ### Rows -/

/-- ROW_RECORD_FETCH (R73, R88): the record and streams of the next row are fetched while a row runs; an uncorrectable
error raises PATTERN_ERR with cause PM. -/
def execRowRecordFetch (o : RowFetchOp) (s : State) : Result :=
  if !s.seq.active then ok s
  else if o.ecc then ok (s.patternErr ⟨0, 0, 0, 0, 0, 0, o.cycle, [], false, false, none, 0⟩ 0 0x0A)
  else ok { s with seq := { s.seq with fetched := s.seq.step.map (fun st => st.row + 1) } }

/-- ROW_START (R22, R58, R62, R65, R70, R75, R105, R291, R292, R556): a row boundary at which the minimum period has
passed. -/
def execRowStart (o : RowStartOp) (s : State) : Result := ok (s.bindAdvance.zeroAdvance.boundary o)

/-- ROW_COMPLETE (R37, R39, R48): the running row ends. -/
def execRowComplete (o : RowCompleteOp) (s : State) : Result :=
  if s.rowComplete then ok (s.endRow o).bindAdvance.resetAdvance.zeroAdvance else ok s

/-- ACTIVITY_LIMITER_BIN (R57, R58, R221, R223, R416): a 1 µs bin in which the scheduled switchable load is `want` W, with
`holds` cycles of delayed enables. -/
def execActivityLimiterBin (want holds : Nat) (s : State) : Result :=
  let slope := s.reg Reg.PWR_RAMP_SLOPE
  let w := if s.seq.active ∧ s.seq.kind = .ramp then max want s.seq.record.target
    else if s.seq.step.isNone ∧ s.reg Reg.LNK_FABRIC_ROLE ≠ 0 then max want s.fab.floorW
    else want
  let m := max (min w (s.seq.eff + slope)) (s.seq.eff - slope)
  let s := if s.seq.eff + slope < w then s.inc Reg.MXA_LIMIT_HOLD_HOLDS holds else s
  ok ({ s with seq := { s.seq with eff := m, load := m } }.set Reg.PWR_DRAW_SWITCH_W m)

/-- TICK_OVERRUN (R42, R44): the hard ceiling has elapsed and the row is not complete. -/
def execTickOverrun (cycle : Nat) (s : State) : Result :=
  if s.seq.active then ok (s.faultResponse cycle 0) else ok s

/-- BARRIER_TIMEOUT (R43, R44): the tokens that the next row awaits have not arrived in time. -/
def execBarrierTimeout (s : State) : Result :=
  if !s.seq.active ∧ s.reg Reg.SEQ_STATUS_STATE = 1 then ok (s.faultResponse 0 1) else ok s

/-! ### The Builder -/

/-- R375. Whether the Builder may write a roster now: not on a stage, none waits already, and a running step has entered
its last row. -/
def State.mayBuild (s : State) : Bool :=
  s.reg Reg.LNK_FABRIC_ROLE != 2 && s.readyBuffers.isEmpty && s.mod.bindOff.isNone &&
    (s.seq.step).elim true (fun st => st.ended || (s.seq.active && s.seq.record.stepLast))

/-- ROSTER_BUILD (R62, R64, R375, R380, R576): the Builder chooses the next entry of the round, applies the gauge rule to
the template it would take without the gauge cap, and writes the roster. -/
def execRosterBuild (s : State) : Result :=
  if !s.mayBuild ∨ !s.builderUp then ok s
  else
    let free := { s with pwr := { s.pwr with gaugeCap := 0 } }
    let s := match free.nextRoster with
      | some x => s.gaugeFor x.2.1.loadClass free.cap
      | none => s
    match s.nextRoster with
    | none => ok s
    | some (r, t, ros) =>
      let lock := s.reg Reg.SEQ_ROSTER_LOCK_LOCK
      let k := if bit lock (2 * t.model) then 2 * t.model + 1 else 2 * t.model
      let s := { s with serve := { s.serve with round := r } }
      ok (s.writeRoster k t ros)

/-- R366. `n` INT32 elements of a tensor from index `i` on. -/
def State.int32s (s : State) (t : Tensor) (i n : Nat) : List Word :=
  let l := s.tensorBytes t 0 t.size
  (List.range n).map (fun k => BitVec.ofNat 32 (leField l (4 * (i + k)) 4))

/-- TOKEN_COPY (R369): tokens of a prefill reach the step token buffer. -/
def execTokenCopy (o : TokenCopyOp) (s : State) : Result :=
  match Store.get? s.serve.seqs o.seqId with
  | none => ok s
  | some q =>
    match s.tensor? q.tokens with
    | none => ok s
    | some t =>
      if q.phase ≠ .prefill then ok s
      else
        let n := min o.count (q.remain - q.copied)
        let ws := s.int32s t (q.tokNext + q.copied) n
        let old := (Store.getD s.serve.tokens o.seqId []).take q.copied
        let s := { s with serve := { s.serve with
          seqs := Store.put s.serve.seqs o.seqId { q with copied := q.copied + n }
          tokens := Store.put s.serve.tokens o.seqId (old ++ ws) } }
        ok (s.mirror (fun m => .twinTokens m o.seqId (old ++ ws)))

/-- SCHED_WINDOW_BOUNDARY (R290, R378, R389): the window's rows have run; charges and gap-row counts start again. -/
def execSchedWindowBoundary (s : State) : Result :=
  if s.serve.windowRows < s.serve.windowLen then ok s
  else
    ok { s with
      serve := { s.serve with lastCharges := s.serve.charges, charges := [], windowRows := 0,
                              windowLen := 256 * (s.reg Reg.SEQ_SCHED_CFG_WINDOW + 1) }
      seq := { s.seq with gapCounts := [] } }

/-- QUOTA_SNAPSHOT (R345): the quota snapshot of every context block is rewritten. -/
def execQuotaSnapshot (s : State) : Result :=
  ok { s with tier := { s.tier with ctx := s.tier.ctx.map (fun c =>
    (c.1, { c.2 with snapshot := s.quota c.1, snapRow := s.row })) } }

/-! ### SEQ_ registers that act -/

/-- SEQ_RUN (R47, R48): a write of SEQ_CTRL.RUN. -/
def execSeqRun (run : Bool) (s : State) : Result :=
  if s.reg Reg.SEQ_STATUS_STATE = 3 then ok s
  else
    let s := s.set Reg.SEQ_CTRL_RUN (b2n run)
    if !run ∧ s.reg Reg.SEQ_STATUS_STATE = 1 ∧ !s.seq.active ∧ s.seq.step.isNone then ok (s.rest 0) else ok s

/-- R48. A halt request: at once while IDLE or HALTED, ignored while FAULTED, else pending. -/
def State.requestHalt (s : State) (f : Fld) : State :=
  match s.reg Reg.SEQ_STATUS_STATE with
  | 1 => s.set f 1
  | 3 => s
  | _ => s.haltDone

/-- HALT_STEP (R48). -/
def execHaltStep (s : State) : Result := ok (s.requestHalt Reg.SEQ_CTRL_HALT_STEP)

/-- R48, R104, R106. A HALT_ROW request; between two rows it takes effect at once. -/
def State.askHaltRow (s : State) : State :=
  let t := s.requestHalt Reg.SEQ_CTRL_HALT_ROW
  if t.flag Reg.SEQ_CTRL_HALT_ROW ∧ !t.seq.active then t.haltRow else t

/-- HALT_ROW (R48). -/
def execHaltRow (s : State) : Result := ok s.askHaltRow

/-- SEQ_FAULT_CLEAR (R47, R138): a write of ones clears SEQ_FAULT bits; the last one takes FAULTED to HALTED, and the
instruction-fault registers return to zero with PATTERN_ERR. -/
def execSeqFaultClear (mask : Nat) (s : State) : Result :=
  let s := (setBits mask 7).foldl (fun s i => s.set (seqFaultFld i) 0) s
  let s := if bit mask 4 then
      (Reg.fieldsAt Reg.SEQ_IFAULT_INFO_CAUSE.off ++ Reg.fieldsAt Reg.SEQ_IFAULT_OP_OPCODE.off).foldl
        (fun s f => s.set f 0) s
    else s
  ok s.leaveFaulted

/-- R79. SEQ_ROW_CFG and the Pattern Memory registers accept writes only while IDLE or HALTED. -/
def State.seqAtRest (s : State) : Bool := s.reg Reg.SEQ_STATUS_STATE == 0 || s.reg Reg.SEQ_STATUS_STATE == 2

/-- R79, R81. Set SEQ_FAULT.CFG_REJECT. -/
def State.seqReject (s : State) : State := s.setSeqFault 0 5

/-- R80. Every template is rechecked on the control cores. -/
def State.recheck (s : State) : State :=
  { s with seq := { s.seq with builds := s.seq.builds ++ [BuildJob.recheck] } }.set Reg.SEQ_BUILD_STATUS_BUSY 1

/-- R81. Whether the fields of SEQ_ROW_CFG that `v` holds are legal. -/
def rowCfgOk (v : Nat) : Bool :=
  let len := bits v 0 5
  let sel := bits v 8 4
  let ceil := bits v 12 4
  let bar := bits v 24 4
  1 ≤ len && 1 ≤ sel && sel ≤ 8 && 2 ≤ ceil && ceil ≤ 8 && bits v 16 8 ≤ 64 && 2 ≤ bar && bar ≤ 8

/-- R79, R80. An accepted change of the row settings. -/
def State.setRowCfg (s : State) (v : Nat) : State :=
  let same := s.reg Reg.SEQ_ROW_CFG_ROW_LEN == bits v 0 5 && s.reg Reg.SEQ_ROW_CFG_SELVAGE == bits v 8 4 &&
    s.reg Reg.SEQ_ROW_CFG_MARGIN == bits v 16 8
  let s := (Reg.fieldsAt Reg.SEQ_ROW_CFG_ROW_LEN.off).foldl (fun s f => s.set f (bits v f.lo f.width)) s
  let s := s.retain Reg.SEQ_ROW_CFG_ROW_LEN.off
  if same then s else s.recheck

/-- SEQ_ROW_CFG_WRITE (R79, R80). -/
def execSeqRowCfgWrite (v : Nat) (s : State) : Result :=
  if s.seqAtRest ∧ rowCfgOk v then ok (s.setRowCfg v) else ok s.seqReject

/-- R627. Whether Pattern Memory could lie where a state's registers say: below the firmware data and over no frame that
holds a tensor. -/
def State.pmPlaced (s : State) : Bool :=
  let p := s.patternMem
  p.1 + p.2 ≤ nearTopLine && s.tier.tt.all (fun c => c.2.tier != .near ||
    !overlaps (256 * (p.1 / 256), 256 * ceilDiv (p.1 % 256 + p.2) 256) (c.2.loc, 16 * c.2.units))

/-- PM_BASE_WRITE (R79, R627): a write of the Pattern Memory register at offset `off`. -/
def execPmBaseWrite (off v : Nat) (s : State) : Result :=
  let t := (Reg.fieldsAt off).foldl (fun s f => s.set f (bits v f.lo f.width)) s
  if !([0x100038, 0x10003C, 0x100040] : List Nat).contains off then ok s
  else if s.seqAtRest ∧ t.pmPlaced then ok t.showSpace
  else ok s.seqReject

/-- ROSTER_READY_SET (R65): the ready bits of `mask` are set; a locked buffer's bit is set already. -/
def execRosterReadySet (mask : Nat) (s : State) : Result :=
  ok (((setBits mask 16).filter (fun k => !bit (s.reg Reg.SEQ_ROSTER_LOCK_LOCK) k)).foldl State.markReady s)

/-- SEQ_SCHED_CFG_WRITE (R389): the window from the next window boundary on. Every value of the 8 bits is in range. -/
def execSeqSchedCfgWrite (v : Nat) (s : State) : Result :=
  ok ((s.set Reg.SEQ_SCHED_CFG_WINDOW (bits v 0 8)).retain Reg.SEQ_SCHED_CFG_WINDOW.off)

end Sys2Proof.Machine
end

