-- ==== Sys2Proof/Machine/RegCmds.lean ====
section
/-!
DEFINITION. Register accesses (R6, R11, R623) and the register writes that act: configuration under its acceptance rules,
stitch markers (R578, R579), queue configuration (R501), the random-number block (R320), the Tensor Table and Tink readers
(R330, R455), and the dirty-page log (R489, R490).
-/

namespace Sys2Proof.Machine

/-! ### Plain accesses -/

/-- R494. What a read or a write shows to the outside. -/
def State.shown (s : State) (fn off v : Nat) : State := { s with out := { s.out with reads := s.out.reads ++ [(fn, off, v)] } }

/-- R489, R494. Why a write to a register of the security block is ignored whole, if it is: 1 without a flag (a ring register
while EN is set), 2 with CFG_REJECT (a value out of range). -/
def State.secRefusal (s : State) (off v : Nat) : Nat :=
  if off = 0x110040 ∧ (bits v 0 11 = 0 ∨ 1024 < bits v 0 11) then 2
  else if 0x110048 ≤ off ∧ off ≤ 0x110050 ∧ s.getF (s.reg Reg.SEC_DPL_SEL_VF) Reg.SEC_DPL_CTL_EN = 1 then 1
  else if off = 0x110050 ∧ (bits v 0 5 < 9 ∨ 20 < bits v 0 5) then 2
  else 0

/-- What follows a plain write of a register: R494 (the first denial is forgotten when both flags are clear), R411 (the lock to
Row Beacon in), and the retained fields. -/
def State.afterWrite (s : State) (off : Nat) : State :=
  if off = 0x110024 ∧ !s.flag Reg.SEC_ERR_PROT_READ ∧ !s.flag Reg.SEC_ERR_PROT_WRITE then
    ((Reg.fieldsAt 0x11001C) ++ Reg.fieldsAt 0x110020).foldl (fun s f => s.set f 0) s
  else if off = 0xA0000 then
    let s := if s.flag Reg.LNK_CTRL_BEACON_IN_EN then s
      else { s.set Reg.LNK_BEACON_LOCKED 0 with fab := { s.fab with pulses := 0 } }
    s.retain off
  else s

/-- REGISTER_WRITE (R6): a 4-byte write; fields whose write is a row of its own keep their value here. -/
def execRegisterWrite (fn off v : Nat) (s : State) : Result :=
  if !mapped fn off ∨ (0x11000 ≤ off ∧ off < 0x11200) then ok s
  else
    let h := s.home fn off
    match s.secRefusal h.2 v with
    | 0 => ok ((s.writeWord h.1 h.2 v (fun f => !f.own)).afterWrite h.2)
    | 1 => ok s
    | _ => ok (s.secErr Reg.SEC_ERR_CFG_REJECT)

/-- RC_READ (R6, R578): the read returns the value before its clear-on-read fields take their Reset value. -/
def execRcRead (fn off : Nat) (s : State) : Result :=
  let v := s.readWord fn off
  if !mapped fn off then ok (s.shown fn off v)
  else
    let h := s.home fn off
    let s := s.shown fn off v
    ok (((Reg.fieldsAt h.2).filter (fun f => f.acc == .rc)).foldl (fun s f => s.setF h.1 f f.rst) s)

/-- The LO registers and their HI registers. -/
def latchPairs : List (Nat × Nat) :=
  [(0xE028, 0xE02C), (0x50010, 0x50014), (0x50018, 0x5001C), (0x60004, 0x60008), (0x70020, 0x70024), (0x80028, 0x8002C),
   (0x90010, 0x90014), (0x90018, 0x9001C), (0xA001C, 0xA0020), (0xA0024, 0xA0028), (0xA006C, 0xA0070), (0xB0018, 0xB001C),
   (0xC0014, 0xC0018), (0xC001C, 0xC0020), (0xC002C, 0xC0030), (0x10000C, 0x100010), (0x100014, 0x100018), (0x100024, 0x100028)]

/-- LO_READ_LATCH (R623): a read of a LO register latches its HI register; the read of a latched HI register returns the
latched value and ends the latch. -/
def execLoReadLatch (fn off : Nat) (s : State) : Result :=
  let h := s.home fn off
  let key (o : Nat) : Nat := h.1 * 0x200000 + o
  let v := s.readWord fn off
  if !mapped fn off then ok (s.shown fn off v)
  else
    match latchPairs.find? (fun p => p.1 == h.2) with
    | some p =>
      let hi := s.readWord fn (off + (p.2 - p.1))
      ok ({ s with host := { s.host with latches := Store.put s.host.latches (key p.2) hi } }.shown fn off v)
    | none =>
      match Store.get? s.host.latches (key h.2) with
      | some x => ok ({ s with host := { s.host with latches := Store.erase s.host.latches (key h.2) } }.shown fn off x)
      | none => ok (s.shown fn off v)

/-! ### Configuration -/

/-- R474. Whether a loaded key's policy requires zero-detect gating to be off. -/
def State.gateLocked (s : State) : Bool := (s.sec.keys ++ s.sec.baseKeys).any (fun k => bit k.2.require 0)

/-- MXA_CTRL_WRITE (R219, R474). -/
def execMxaCtrlWrite (v : Nat) (s : State) : Result :=
  if bit v 0 ∧ s.gateLocked then ok (s.secErr Reg.SEC_ERR_POLICY_LOCK)
  else ok ((s.set Reg.MXA_CTRL_ZERO_GATE_EN (bits v 0 1)).retain 0x50000)

/-- MTF_HOT_CFG_WRITE (R235, R255): while the sequencer rests and no slot is BOUND or DRAINING; templates are rechecked. -/
def execMtfHotCfgWrite (v : Nat) (s : State) : Result :=
  if s.seqAtRest ∧ s.data.hotSlots.isEmpty ∧ bits v 0 2 ≠ 3 then
    ok (((s.set Reg.MTF_HOT_CFG_AREA (bits v 0 2)).retain 0x70000).recheck)
  else ok (s.set Reg.MTF_ERR_CFG_REJECT 1)

/-- MOV_PAUSE (R110, R364): a write of MOV_CTRL. Setting PAUSE stops every running move at its next granule; clearing it lets
them go on. -/
def execMovPause (v : Nat) (s : State) : Result :=
  let was := s.flag Reg.MOV_CTRL_PAUSE
  let s := (s.set Reg.MOV_CTRL_PAUSE (bits v 0 1)).set Reg.MOV_CTRL_WB_EN (bits v 1 1)
  let live := s.tier.moves.filter (fun m => m.running && !m.stopped)
  if bit v 0 ∧ !was then ok ((live.foldl (fun (s : State) m => s.writeProgress m 2 .ok) s).set Reg.MOV_STATUS_PAUSED 1)
  else if !bit v 0 ∧ was then
    ok ((live.foldl (fun (s : State) m => s.writeProgress m 1 .ok) s).set Reg.MOV_STATUS_PAUSED 0)
  else ok s

/-- R364. A configuration write of the tiers is ignored. -/
def State.movReject (s : State) : State := s.err Reg.MOV_INT_CFG_REJECT Reg.MOV_INT_EN_EN 3 4

/-- MOV_DIRTY_CFG_WRITE (R364). -/
def execMovDirtyCfgWrite (v : Nat) (s : State) : Result :=
  let l := bits v 0 16
  let d := bits v 16 16
  if 16 ≤ l ∧ l ≤ 256 ∧ 10 ≤ d ∧ d ≤ 60000 then
    ok (((s.set Reg.MOV_DIRTY_CFG_DIRTY_LIMIT l).set Reg.MOV_DIRTY_CFG_WB_DELAY d).retain 0x80004)
  else ok s.movReject

/-- MOV_LEND_CFG_WRITE (R355, R364). -/
def execMovLendCfgWrite (v : Nat) (s : State) : Result :=
  if bits v 0 9 ≤ 192 then ok ((s.set Reg.MOV_LEND_CFG_LEND_MAX (bits v 0 9)).retain 0x80020) else ok s.movReject

/-- FTL_CFG_WRITE (R365). -/
def execFtlCfgWrite (v : Nat) (s : State) : Result :=
  let w := bits v 0 6
  let l := bits v 8 4
  if 5 ≤ w ∧ w ≤ 50 ∧ 2 ≤ l ∧ l ≤ 10 then
    ok (((s.set Reg.FTL_CFG_WEAR_SHARE w).set Reg.FTL_CFG_LOW_MARK l).retain 0x90004)
  else ok (s.set Reg.FTL_ERR_CFG_REJECT 1)

/-- LNK_STAGE_CFG_WRITE (R406). -/
def execLnkStageCfgWrite (v : Nat) (s : State) : Result :=
  if s.seqAtRest ∧ bits v 0 2 ≠ 3 then ok ((s.set Reg.LNK_STAGE_CFG_SIZE (bits v 0 2)).retain 0xA0010)
  else ok (s.err Reg.LNK_ERR_CFG_REJECT Reg.LNK_INT_EN_EN 7 6)

/-- PWR_LIMIT_WRITE (R582). -/
def execPwrLimitWrite (v : Nat) (s : State) : Result :=
  let w := bits v 0 11
  if 800 ≤ w ∧ w ≤ 1600 then ok ((s.set Reg.PWR_LIMIT_LIMIT_W w).retain 0xC0008) else ok (s.pwrErr Reg.PWR_ERR_CFG_REJECT)

/-- PWR_RAMP_WRITE (R560, R79): templates are rechecked after an accepted change. -/
def execPwrRampWrite (v : Nat) (s : State) : Result :=
  let w := bits v 0 7
  if s.seqAtRest ∧ 5 ≤ w ∧ w ≤ 100 then
    let same := s.reg Reg.PWR_RAMP_SLOPE == w
    let s := (s.set Reg.PWR_RAMP_SLOPE w).retain 0xC000C
    ok (if same then s else s.recheck)
  else ok (s.pwrErr Reg.PWR_ERR_CFG_REJECT)

/-- R583. Set a bit of THM_ERR, raising vector 10 when enabled. -/
def State.thmErr (s : State) (f : Fld) : State := s.err f Reg.THM_INT_EN_EN f.lo 10

/-- THM_LIMITS_WRITE (R571, R583). -/
def execThmLimitsWrite (v : Nat) (s : State) : Result :=
  let d := bits v 0 8
  let h := bits v 8 8
  if 80 ≤ d ∧ d ≤ 100 ∧ 75 ≤ h ∧ h ≤ 85 then
    ok (((s.set Reg.THM_LIMITS_DIE_THROTTLE d).set Reg.THM_LIMITS_HBM_THROTTLE h).retain 0xD0010)
  else ok (s.thmErr Reg.THM_ERR_CFG_REJECT)

/-- R578. The offsets of the stitch markers' registers. -/
def markRegs : List Nat := [0x100044, 0x100080, 0x80090, 0x90038, 0xA0050, 0xB0028, 0xC0040, 0xD0018]

/-- MARK_THRESH_WRITE (R578, R579): the word written takes effect field by field, and the marker re-arms. -/
def execMarkThreshWrite (off v : Nat) (s : State) : Result :=
  if !markRegs.contains off then ok s
  else
    let h := s.home 0 off
    let s := s.writeWord h.1 h.2 v (fun _ => true)
    let keys := ((Reg.fieldsAt h.2).filter (fun f => f.acc == .rw1c)).map (regKey h.1)
    ok ({ s with pwr := { s.pwr with beyond := s.pwr.beyond.filter (fun k => !keys.contains k) } }.retain off)

/-! ### Queues -/

/-- R501, R527. The EN and SIZE fields of the queue whose BASE or CFG register lies at `off`, and the least legal SIZE. -/
def queueAt (off : Nat) : Option (Fld × Fld × Nat) :=
  let n := (off - 0x1000) / 0x20
  if 0x1000 ≤ off ∧ off < 0x1100 ∧ off % 0x20 ≤ 8 then some (sqReg Reg.HQ_SQ0_CFG_EN n, sqReg Reg.HQ_SQ0_CFG_SIZE n, 15)
  else if 0x1100 ≤ off ∧ off ≤ 0x1108 then some (Reg.HQ_CQ_CFG_EN, Reg.HQ_CQ_CFG_SIZE, 63)
  else none

/-- QUEUE_CONFIG_WRITE (R501): BASE and SIZE take no write while EN is set, nor does a write that sets EN take a SIZE out of
range; EN alone may change. -/
def execQueueConfigWrite (fn off v : Nat) (s : State) : Result :=
  match queueAt off with
  | none => ok s
  | some (en, size, least) =>
    let isOn := s.getF fn en == 1
    let isCfg := off == size.off
    let n := bits v 0 16
    if (isOn && (!isCfg || n != s.getF fn size)) || (isCfg && bit v 16 && n < least) then
      ok (s.fnErr fn Reg.GLB_FN_ERR_CFG_REJECT)
    else ok (s.writeWord fn off v (fun _ => true))

/-! ### Random numbers -/

/-- R320. A write of RNG_CMD: the flags written with ones clear; the request is performed when it is the only one. -/
def State.rngCmd (s : State) (fn v i : Nat) (act : Nat → CtxBlock → State → State) : State :=
  let s := s.writeWord fn 0xE024 v (fun f => !f.own)
  let asked := (setBits (v % 16) 4).length
  if !bit v i then s
  else if asked ≠ 1 then s.setF fn Reg.RNG_CMD_ARG_ERR 1
  else
    match Store.get? s.tier.ctx fn with
    | none => s
    | some c => act (s.getF fn Reg.RNG_SEL_STREAM) c s

/-- R320. Whether the function has work that may draw: an admitted uncommitted command, or an entry of a queued or running
step. -/
def State.rngBusy (s : State) (fn : Nat) : Bool :=
  s.carriesFn fn || s.data.cmds.any (fun c => c.2.desc.fn == fn && !c.2.committed && !c.2.step) ||
    s.seq.graphs.any (fun g => g.fn == fn)

/-- R320, R428. Write stream `k` of a function's context block, and say that the request completed. -/
def State.putStream (s : State) (fn k : Nat) (c : CtxBlock) (st : Stream) : State :=
  let s := { s with tier := { s.tier with ctx := Store.put s.tier.ctx fn { c with streams := c.streams.set k st } } }
  (s.mirrorCtx fn).setF fn Reg.RNG_CMD_DONE 1

/-- Stream `k` of a context block. -/
def CtxBlock.stream (c : CtxBlock) (fn k : Nat) : Stream := (c.streams[k]?).getD (Stream.default fn k)

/-- RNG_READ (R320): the committed state goes to the holding registers. -/
def execRngRead (fn v : Nat) (s : State) : Result :=
  ok (s.rngCmd fn v 0 (fun k c s =>
    let st := c.stream fn k
    let n := st.counter.toNat
    let s := (s.setF fn Reg.RNG_KEY0_KEY0 st.key0.toNat).setF fn Reg.RNG_KEY1_KEY1 st.key1.toNat
    let s := (((s.setF fn Reg.RNG_CTR0_CTR0 n).setF fn Reg.RNG_CTR1_CTR1 (n / 2 ^ 32)).setF fn Reg.RNG_CTR2_CTR2
      (n / 2 ^ 64)).setF fn Reg.RNG_CTR3_CTR3 (n / 2 ^ 96)
    let s := (s.setF fn Reg.RNG_CTL_WORD st.word).setF fn Reg.RNG_CTL_USE st.use
    (s.setF fn Reg.RNG_COMMITS_COMMITS st.commits).setF fn Reg.RNG_CMD_DONE 1))

/-- RNG_LOAD (R320): the holding registers go to the stream; COMMITS is kept. -/
def execRngLoad (fn v : Nat) (s : State) : Result :=
  ok (s.rngCmd fn v 1 (fun k c s =>
    if s.getF fn Reg.RNG_CTL_USE = 3 then s.setF fn Reg.RNG_CMD_ARG_ERR 1
    else if s.rngBusy fn then s.setF fn Reg.RNG_CMD_BUSY_ERR 1
    else
      let ctr := s.getF fn Reg.RNG_CTR0_CTR0 + 2 ^ 32 * s.getF fn Reg.RNG_CTR1_CTR1 +
        2 ^ 64 * s.getF fn Reg.RNG_CTR2_CTR2 + 2 ^ 96 * s.getF fn Reg.RNG_CTR3_CTR3
      s.putStream fn k c
        { key0 := BitVec.ofNat 32 (s.getF fn Reg.RNG_KEY0_KEY0), key1 := BitVec.ofNat 32 (s.getF fn Reg.RNG_KEY1_KEY1)
          counter := BitVec.ofNat 128 ctr, word := s.getF fn Reg.RNG_CTL_WORD, use := s.getF fn Reg.RNG_CTL_USE
          commits := (c.stream fn k).commits }))

/-- DERIVE (R320): a fresh key is asked of the RTP; it is written when the request completes. -/
def execRngDerive (fn v : Nat) (s : State) : Result :=
  ok (s.rngCmd fn v 2 (fun k _ s =>
    if s.rngBusy fn then s.setF fn Reg.RNG_CMD_BUSY_ERR 1
    else { s with host := { s.host with derives := s.host.derives ++ [(fn, k)] } }))

/-- DERIVE_DONE (R320): the oldest derivation of a function completes. The key comes from the RTP's DRBG: a free value. -/
def execDeriveDone (fn : Nat) (s : State) : Result :=
  match s.host.derives.find? (fun d => d.1 == fn), Store.get? s.tier.ctx fn with
  | some d, some c =>
    let r := s.draw
    let k0 := r.1 % 2 ^ 32
    let k1 := r.1 / 2 ^ 32 % 2 ^ 32
    let s := { r.2 with host := { r.2.host with derives := r.2.host.derives.erase d } }
    let st := c.stream fn d.2
    let s := s.putStream fn d.2 c
      { st with key0 := BitVec.ofNat 32 k0, key1 := BitVec.ofNat 32 k1, counter := 0, word := 0 }
    ok ((s.setF fn Reg.RNG_KEY0_KEY0 k0).setF fn Reg.RNG_KEY1_KEY1 k1)
  | _, _ => ok s

/-- RNG_RESET (R320, R311). -/
def execRngReset (fn v : Nat) (s : State) : Result :=
  ok (s.rngCmd fn v 3 (fun k c s =>
    if s.rngBusy fn then s.setF fn Reg.RNG_CMD_BUSY_ERR 1 else s.putStream fn k c (Stream.default fn k)))

/-! ### The Tensor Table reader -/

/-- R119, R330. The Tensor Table entry of a function's context block; where the block lies is a free value. -/
def State.ctxEntry (s : State) (fn : Nat) : Tensor × State :=
  let r := s.draw
  ({ (s.blankTensor fn .context 0 16) with idx := 0xFFFFFF, gen := 1, keyIndex := 3, loc := r.1 % nearTopLine, lastUse := 0 }, r.2)

/-- MOV_TT_READ (R330, R364). -/
def execMovTtRead (s : State) : Result :=
  let fn := s.reg Reg.MOV_TT_SEL_FN_FUNCTION
  let idx := s.reg Reg.MOV_TT_SEL_IDX_INDEX
  let r : Option Tensor × State :=
    if idx = 0xFFFFFF ∧ (Store.get? s.tier.ctx fn).isSome then (some (s.ctxEntry fn).1, (s.ctxEntry fn).2)
    else (s.entry (ttKey fn idx), s)
  let bytes := r.1.elim (List.replicate 64 0) Tensor.bytes
  let s := (List.range 16).foldl (fun (s : State) i => s.set (Reg.MOV_TT_DATA0_WORD.at (4 * i)) (leField bytes (4 * i) 4)) r.2
  ok (s.set (if r.1.isSome then Reg.MOV_TT_CMD_DONE else Reg.MOV_TT_CMD_ABSENT) 1)

/-! ### The dirty-page log -/

/-- R487, R493. A TDI moves to ERROR for a cause of event 0x0B08. -/
def State.tdiError (s : State) (vf cause : Nat) : State :=
  let t := Store.getD s.sec.tdi vf 0
  if t ≠ 1 ∧ t ≠ 2 then s
  else ({ s with sec := { s.sec with tdi := Store.put s.sec.tdi vf 3 } }.secErr Reg.SEC_ERR_TDISP_ERROR).tinkLog 0x0B08 vf
    (leBytes cause 1)

/-- DPL_ENABLE (R489): enabling the log of a locked or running TDI moves it to ERROR. -/
def execDplEnable (on : Bool) (s : State) : Result :=
  let vf := s.reg Reg.SEC_DPL_SEL_VF
  let was := s.getF vf Reg.SEC_DPL_CTL_EN
  let s := s.setF vf Reg.SEC_DPL_CTL_EN (b2n on)
  ok (if on ∧ was = 0 then s.tdiError vf 2 else s)

/-- DPL_STOP (R490): fetching stops and completion records are held; writes are posted as they are made, so the drain is
complete at once. Clearing STOP writes the held records. -/
def execDplStop (on : Bool) (s : State) : Result :=
  let vf := s.reg Reg.SEC_DPL_SEL_VF
  if on then ok ((s.setF vf Reg.SEC_DPL_CTL_STOP 1).setF vf Reg.SEC_DPL_CTL_STOPPED 1)
  else
    let mine := s.sec.held.filter (fun h => h.fn == vf)
    let s := (s.setF vf Reg.SEC_DPL_CTL_STOP 0).setF vf Reg.SEC_DPL_CTL_STOPPED 0
    let s := { s with sec := { s.sec with held := s.sec.held.filter (fun h => h.fn != vf) } }
    ok (mine.foldl (fun (s : State) (h : HeldEntry) => s.post h.fn h.kind h.status h.sq h.counted h.body) s)

/-- DPL_EPOCH (R489): the filter is cleared. -/
def execDplEpoch (s : State) : Result :=
  ok { s with sec := { s.sec with filters := Store.erase s.sec.filters (s.reg Reg.SEC_DPL_SEL_VF) } }

/-- DPL_HEAD_WRITE (R489). -/
def execDplHeadWrite (v : Nat) (s : State) : Result :=
  ok (s.setF (s.reg Reg.SEC_DPL_SEL_VF) Reg.SEC_DPL_HEAD_HEAD (bits v 0 20))

end Sys2Proof.Machine
end

