-- ==== Sys2Proof/Machine/Power.lean ====
section
/-!
DEFINITION. The commands of power, thermal control and gauge (R555 to R583).
-/

namespace Sys2Proof.Machine

/-! ### Messages -/

/-- R539, R552. Whether the Power Manager serves requests; else they wait. -/
def State.powerManagerUp (s : State) : Bool :=
  !bit (s.reg Reg.GLB_FW_STATUS_FAILED) 5 && !bit (s.reg Reg.GLB_FW_STATUS_HALTED) 0

/-- POWER_STATE (R565, R567, R569, R580). A SEND for another state than IDLE wakes a module that sleeps, and is taken after. -/
def execPowerState (m : Mail) (s : State) : Result :=
  let target := m.u 8 2
  if !s.powerManagerUp then ok s
  else if target ≠ 1 ∧ s.asleep ∧ s.pwr.transition.isNone then ok (s.wakeBy m.fn true)
  else
    ok (s.mail m
      { type := 0x0103, minMinor := 0, longReply := false, size := 10, args := fun _ => 1 ≤ target && target ≤ 4
        sender := fun _ => m.fn == 0
        body := fun t s =>
          if target = 1 then
            if s.asleep then .later { s.wake with pwr := { s.wake.pwr with wakeTickets := s.pwr.wakeTickets ++ [t] } }
            else .done s (stateReply (s.reg Reg.PWR_STATE_STATE) 0)
          else if s.pwr.transition.isSome then .fail s .busyRetry []
          else
            match s.powerConflict target with
            | some c => .conflict c
            | none => .later (s.beginEntry target t) } |>.advanceStore)

/-- PERF_LEVEL (R556, R580). -/
def execPerfLevel (m : Mail) (s : State) : Result :=
  let level := m.u 8 2
  if !s.powerManagerUp then ok s
  else
    ok (s.mail m
      { type := 0x0104, minMinor := 0, longReply := false, size := 10, args := fun _ => level ≤ 7, sender := fun _ => m.fn == 0
        body := fun _ s =>
          let s := (s.set Reg.PWR_LEVEL_REQUESTED level).levelChanged
          .done s (leBytes (s.reg Reg.PWR_LEVEL_IN_FORCE) 2 ++ leBytes s.capBits 2) })

/-! ### Pulse skipping -/

/-- R558. The demand in force: pulses removed of every 16. -/
def State.skipDemand (s : State) : Nat :=
  max (if s.pwr.critical then 8 else 0) (max s.pwr.droop (max s.pwr.current s.pwr.limit))

/-- R558. Whether the pulse of core clock period `j` is removed at demand `n`. -/
def skipsPulse (n j : Nat) : Bool := (j % 16) * n / 16 < (j % 16 + 1) * n / 16

/-- R582. Count a droop or current trigger, holding at the top. -/
def State.countTrigger (s : State) (f : Fld) : State := s.set f (min (s.reg f + 1) 0xFFFF)

/-- SUPPLY_DROOP (R558). -/
def execSupplyDroop (s : State) : Result :=
  ok ({ s with pwr := { s.pwr with droop := 8 } }.countTrigger Reg.PWR_SKIP_EVENTS_DROOP)

/-- INPUT_OVERCURRENT (R558). -/
def execInputOvercurrent (s : State) : Result :=
  ok ({ s with pwr := { s.pwr with current := 8 } }.countTrigger Reg.PWR_SKIP_EVENTS_DROOP)

/-- POWER_LIMIT_AVERAGE (R558, R582). -/
def execPowerLimitAverage (w : Nat) (s : State) : Result :=
  let limit := s.reg Reg.PWR_LIMIT_LIMIT_W
  if limit < w then
    let begins := s.pwr.limit == 0
    let s := { s with pwr := { s.pwr with limit := min 8 (s.pwr.limit + 1) } }
    ok (if begins then (s.countTrigger Reg.PWR_SKIP_EVENTS_LIMIT).pwrErr Reg.PWR_ERR_LIMIT_SKIP else s)
  else if 100 * w < 97 * limit then ok { s with pwr := { s.pwr with limit := s.pwr.limit - 1 } }
  else ok s

/-- SKIP_RELEASE (R558): 64 cycles without droop, or without overcurrent. -/
def execSkipRelease (current : Bool) (s : State) : Result :=
  ok (if current then { s with pwr := { s.pwr with current := s.pwr.current - 1 } }
      else { s with pwr := { s.pwr with droop := s.pwr.droop - 1 } })

/-- R559, R581. The sustained-skip cap changes. -/
def State.setSkipCap (s : State) (cap : Nat) (isSet : Bool) : State :=
  if cap = s.pwr.skipCap then s
  else
    { s with pwr := { s.pwr with skipCap := cap } }.levelChanged.tinkLog 0x0906 noFn (leBytes cap 1 ++ leBytes (b2n isSet) 1)

/-- SUSTAINED_SKIP_CHECK (R559): `skipped` of `pulses` foreground pulses in 100 ms. -/
def execSustainedSkipCheck (skipped pulses : Nat) (s : State) : Result :=
  if 256 * skipped ≤ s.reg Reg.SEQ_ROW_CFG_MARGIN * pulses then ok s
  else
    let at' := if s.pwr.skipCap = 0 then s.reg Reg.PWR_LEVEL_IN_FORCE else s.pwr.skipCap
    ok ((s.pwrErr Reg.PWR_ERR_SUSTAINED_SKIP).setSkipCap (min 7 (at' + 1)) true)

/-- SKIP_CAP_LIFT (R559): `skipped` of `pulses` foreground pulses in 10 s. -/
def execSkipCapLift (skipped pulses : Nat) (s : State) : Result :=
  if 512 * skipped < s.reg Reg.SEQ_ROW_CFG_MARGIN * pulses then ok (s.setSkipCap (s.pwr.skipCap - 1) false) else ok s

/-- VOLTAGE_SETTLED (R556). -/
def execVoltageSettled (s : State) : Result := ok { s with pwr := { s.pwr with voltageWait := false } }

/-! ### Power states -/

/-- POWER_STATE_ENTRY_DONE (R114, R564, R566, R568, R581): once the sequencer is at rest and, for STORE, nothing is deferred. -/
def execPowerStateEntryDone (us : Nat) (s : State) : Result :=
  match s.pwr.transition with
  | none => ok s
  | some t =>
    if t.exits ∨ !(s.reg Reg.SEQ_STATUS_STATE = 0 ∨ s.reg Reg.SEQ_STATUS_STATE = 2) then ok s
    else
      let s := s.advanceStore
      if t.dst = 4 ∧ (s.mod.storeImage.isNone ∨ s.sec.defers.any (·.store)) then ok s
      else
        let s := if t.dst = 4 then s.powerDown else s
        let s := ({ s with pwr := { s.pwr with transition := none } }.set Reg.PWR_STATE_STATE t.dst).set Reg.PWR_STATE_ENTERING 0
        let s := t.ticket.elim s (fun k => s.reply k .ok (stateReply t.dst us))
        ok (s.stateDone t.src t.dst s.pwr.wake).bounce

/-- POWER_STATE_EXIT_DONE (R564, R566, R567, R396): links retrain after PARK; STORE reloads its image. -/
def execPowerStateExitDone (us : Nat) (s : State) : Result :=
  match s.pwr.transition with
  | none => ok s
  | some t =>
    if !t.exits then ok s
    else
      let owed := s.pwr.wakeTickets
      let s := { s with pwr := { s.pwr with transition := none, wakeTickets := [] } }
      let s := (s.set Reg.PWR_STATE_STATE 1).set Reg.PWR_STATE_EXITING 0
      let s := if t.src = 3 then
          (((List.range 16).filter s.linkUp).foldl (fun (s : State) l =>
            let f := linkFn l
            let s := s.setF f Reg.LNK_STATE_STATE 4
            (s.setF f Reg.LNK_RETRAINS_RETRAINS (s.getF f Reg.LNK_RETRAINS_RETRAINS + 1)).setLink l { s.link l with retrains := 0 }) s).showUp
        else if t.src = 4 then s.storeExit
        else s
      ok (owed.foldl (fun (s : State) k => s.reply k .ok (stateReply 1 us)) (s.stateDone t.src 1 false))

/-- WAKE_EVENT (R567). -/
def execWakeEvent (kind : WakeKind) (s : State) : Result :=
  match kind with
  | .frame l => ok (if s.linkUp l then s.wakeFrom 2 else s)
  | .holdup => ok (s.wakeFrom 3)
  | .throttle => ok (s.wakeFrom 3)

/-! ### Thermal control -/

/-- R571. A reading as it is compared, in 0.125 °C: raised by 3 °C while the sensor's offset record is not valid. -/
def State.heat (s : State) (sensor : Nat) : Int :=
  let gauged := s.pwr.gauge.any (fun g => g.kind == 2 && g.obj == sensor && s.gaugeOk g)
  temp12 (Store.getD s.pwr.temps sensor 0) + (if gauged then 0 else 24)

/-- R571. A sensor's throttle limit. -/
def State.throttleLimit (s : State) (sensor : Nat) : Int :=
  if sensor < 48 then 8 * s.reg Reg.THM_LIMITS_DIE_THROTTLE
  else if sensor < 56 then 8 * s.reg Reg.THM_LIMITS_HBM_THROTTLE
  else 560

/-- R571. A sensor's trip limit. -/
def tripLimit (sensor : Nat) : Int :=
  if sensor < 48 then 920 else if sensor < 56 then 760 else if sensor = 56 then 680 else 880

/-- R571, R573. The sensors from `a` to `b` that are read and not excluded. -/
def State.sensors (s : State) (a b : Nat) : List Nat :=
  (s.pwr.temps.map (·.1)).filter (fun n => a ≤ n && n < b && !s.pwr.excluded.contains n)

/-- R583. The hottest of some sensors' readings, 0 where there is none. -/
def State.hottest (s : State) (l : List Nat) : Nat :=
  match l with
  | [] => 0
  | n :: rest =>
    let r (k : Nat) : Nat := Store.getD s.pwr.temps k 0
    r (rest.foldl (fun a k => if temp12 (r a) < temp12 (r k) then k else a) n)

/-- R572, R583. What the readings show: maxima, and throttle and critical action that end. -/
def State.showThermal (s : State) : State :=
  let s := ((s.set Reg.THM_DIE_MAX_DIE0 (s.hottest (s.sensors 0 24))).set Reg.THM_DIE_MAX_DIE1
    (s.hottest (s.sensors 24 48))).set Reg.THM_HBM_MAX_HBM (s.hottest (s.sensors 48 56))
  let above (a b : Nat) : Bool := (s.sensors a b).any (fun n => s.throttleLimit n < s.heat n)
  let s := if above 0 48 then s else s.set Reg.THM_STATUS_DIE_THROTTLE 0
  let s := if above 48 56 then s else s.set Reg.THM_STATUS_HBM_THROTTLE 0
  let s := if (s.sensors 56 57).all (fun n => s.heat n ≤ 520) then s.set Reg.THM_STATUS_FLASH_THROTTLE 0 else s
  if s.pwr.critical ∧ (s.sensors 0 48).all (fun n => s.heat n < s.throttleLimit n) then
    ({ s with pwr := { s.pwr with critical := false } }.set Reg.THM_STATUS_CRITICAL 0).levelChanged
  else s

/-- R571. Record readings of sensors. -/
def State.readTemps (s : State) (l : List (Nat × Nat)) : State :=
  { s with pwr := { s.pwr with
    temps := (l.filter (fun (p : Nat × Nat) => p.1 < 60)).foldl (fun (m : List (Nat × Nat)) (p : Nat × Nat) => Store.put m p.1 (p.2 % 4096)) s.pwr.temps } }.showThermal

/-- The arguments of a thermal event (R581). -/
def thermalArgs (sensor temp : Nat) : List Byte := leBytes sensor 1 ++ leBytes 0 1 ++ leBytes (temp % 4096) 2

/-- THERMAL_THROTTLE (R567, R572, R581). -/
def execThermalThrottle (sensor temp : Nat) (s : State) : Result :=
  let s := s.readTemps [(sensor, temp)]
  if 57 ≤ sensor ∨ s.pwr.excluded.contains sensor ∨ s.heat sensor ≤ s.throttleLimit sensor then ok s
  else
    let f := if sensor < 48 then Reg.THM_STATUS_DIE_THROTTLE
      else if sensor < 56 then Reg.THM_STATUS_HBM_THROTTLE else Reg.THM_STATUS_FLASH_THROTTLE
    if s.flag f then ok s
    else
      let first := sensor < 56 && !s.flag Reg.THM_STATUS_DIE_THROTTLE && !s.flag Reg.THM_STATUS_HBM_THROTTLE
      let s := s.set f 1
      let s := if first then
          { s with pwr := { s.pwr with thermalCap := min 7 (s.reg Reg.PWR_LEVEL_IN_FORCE + 1) } }.levelChanged
        else s
      ok (((s.thmErr Reg.THM_ERR_THROTTLE).tinkLog 0x0A01 noFn (thermalArgs sensor temp)).wakeFrom 3)

/-- THERMAL_CAP_STEP (R572): one level slower while a die or HBM sensor stays above its limit, one faster once every such sensor is
5 °C below. -/
def execThermalCapStep (s : State) : Result :=
  let s := s.showThermal
  let l := s.sensors 0 56
  if s.pwr.thermalCap = 0 then ok s
  else if l.any (fun n => s.throttleLimit n < s.heat n) then
    ok { s with pwr := { s.pwr with thermalCap := min 7 (s.pwr.thermalCap + 1) } }.levelChanged
  else if l.all (fun n => s.heat n + 40 ≤ s.throttleLimit n) then
    ok { s with pwr := { s.pwr with thermalCap := s.pwr.thermalCap - 1 } }.levelChanged
  else ok s

/-- THERMAL_CRITICAL (R572, R581): a die sensor at 105 °C. -/
def execThermalCritical (sensor temp : Nat) (s : State) : Result :=
  let s := s.readTemps [(sensor, temp)]
  if 48 ≤ sensor ∨ s.pwr.excluded.contains sensor ∨ s.heat sensor < 840 ∨ s.pwr.critical then ok s
  else
    let s := { s with pwr := { s.pwr with critical := true } }.set Reg.THM_STATUS_CRITICAL 1
    ok ((s.levelChanged.thmErr Reg.THM_ERR_CRITICAL).tinkLog 0x0A02 noFn (thermalArgs sensor temp))

/-- THERMAL_TRIP (R572, R447, R526, R581): the module powers off until input power is removed. -/
def execThermalTrip (sensor temp : Nat) (s : State) : Result :=
  let s := s.readTemps [(sensor, temp)]
  if 58 ≤ sensor ∨ s.pwr.excluded.contains sensor ∨ s.heat sensor < tripLimit sensor ∨ s.mod.off then ok s
  else
    let s := s.tinkLog 0x0A03 noFn (thermalArgs sensor temp)
    let s := ((s.moduleFault 0xFF).powerOff true true).set Reg.THM_STATUS_TRIPPED 1
    ok { s with mod := { s.mod with lockedOff := true } }

/-- SENSOR_FAIL (R573, R581): more than four excluded sensors of a die cap the level at P3. -/
def execSensorFail (sensor : Nat) (s : State) : Result :=
  if 60 ≤ sensor ∨ s.pwr.excluded.contains sensor then ok s
  else
    let out := sensor :: s.pwr.excluded
    let many (a : Nat) : Bool := 4 < (out.filter (fun n => a ≤ n && n < a + 24)).length
    let s := { s with pwr := { s.pwr with excluded := out, failCap := s.pwr.failCap || many 0 || many 24 } }
    let s := s.showThermal.levelChanged
    ok ((s.thmErr Reg.THM_ERR_SENSOR_FAIL).tinkLog 0x0A04 noFn (leBytes sensor 1))

/-! ### Gauge -/

/-- REGAUGE_OP (R574, R577, R581, R591): one captured record replaces that of its kind, object and class. -/
def execRegaugeOp (o : RegaugeOp) (s : State) : Result :=
  let r := o.rcd
  if 4 ≤ r.kind ∨ 4 ≤ r.cls then ok s
  else if o.inRange then
    let l := s.pwr.gauge.filter (fun g => !(g.kind == r.kind && g.obj == r.obj && g.cls == r.cls)) ++ [r]
    ok { s with pwr := { s.pwr with gauge := l }, mod := { s.mod with gaugeChanged := true } }.showGauge
  else
    let s := { s with pwr := { s.pwr with regaugeWait := s.pwr.regauge.isSome } }.showGauge
    ok ((s.pwrErr Reg.PWR_ERR_GAUGE_FAIL).tinkLog 0x0905 noFn (leBytes r.kind 1 ++ leBytes 0 1 ++ leBytes r.obj 2))

/-- GAUGE_DONE (R576, R581): the re-gauge has captured every record that its class missed. -/
def execGaugeDone (ms : Nat) (s : State) : Result :=
  match s.pwr.regauge with
  | none => ok s
  | some c =>
    if !(s.gaugeStale c true).isEmpty then ok s
    else
      let s := { s with pwr := { s.pwr with gaugeCap := 0, regauge := none, regaugeWait := false, droopRaised := false } }
      ok (s.levelChanged.showGauge.tinkLog 0x0904 noFn (leBytes c 1 ++ leBytes 0 3 ++ leBytes ms 4))

/-- GAUGE_RETRY (R577). -/
def execGaugeRetry (s : State) : Result := ok { s with pwr := { s.pwr with regaugeWait := false } }.showGauge

/-! ### Samples -/

/-- R562. Count milliseconds of the power state and, while ACTIVE or IDLE, of the level in force. -/
def State.reside (s : State) (ms : Nat) : State :=
  let st := s.reg Reg.PWR_STATE_STATE
  let l := Store.put s.pwr.residency st (Store.getD s.pwr.residency st 0 + ms)
  let k := 8 + s.reg Reg.PWR_LEVEL_IN_FORCE
  { s with pwr := { s.pwr with residency := if st ≤ 1 then Store.put l k (Store.getD l k 0 + ms) else l } }

/-- STITCH_MARKER_SAMPLE (R539, R561, R562, R571, R578, R582, R583, R624). -/
def execStitchMarkerSample (o : SampleOp) (s : State) : Result :=
  let s := (s.set Reg.PWR_DRAW_INPUT_W o.draw).set Reg.PWR_DRAW_SWITCH_W s.seq.load
  let s := s.inc2 Reg.PWR_ENERGY_LO_MJ_LO Reg.PWR_ENERGY_HI_MJ_HI o.energy
  let s := s.inc2 Reg.PWR_SKIPPED_LO_SKIP_LO Reg.PWR_SKIPPED_HI_SKIP_HI o.skipped
  let s := (s.reside o.ms).peak Reg.PWR_DRAW_PEAK_PEAK_W o.draw
  let s := s.sample 0 Reg.PWR_DRAW_MARK_STATUS Reg.PWR_DRAW_MARK_INT_EN Reg.PWR_DRAW_CROSS_CROSSINGS
    (s.reg Reg.PWR_DRAW_MARK_THRESH < o.draw)
  let s := s.readTemps o.temps
  let hot := s.dieTemp
  let s := if temp12 (s.reg Reg.THM_PEAK_PEAK) < temp12 hot then s.set Reg.THM_PEAK_PEAK hot else s
  let s := s.sample 0 Reg.THM_MARK_STATUS Reg.THM_MARK_INT_EN Reg.THM_CROSS_CROSSINGS
    (temp12 (s.reg Reg.THM_MARK_THRESH) < temp12 hot)
  if bit (s.reg Reg.GLB_FW_STATUS_FAILED) 6 then ok s
  else
    let tel := o.tel.foldl (fun (m : List (Nat × Nat)) p => Store.put m p.1 (p.2 % 2 ^ 32)) s.pwr.tel
    let s := { s with pwr := { s.pwr with tel := Store.put tel 2 o.draw } }
    ok ((s.set Reg.TEL_INPUT_VIN (Store.getD tel 0 0 / 10)).set Reg.TEL_INPUT_IIN (Store.getD tel 1 0 / 10))

end Sys2Proof.Machine
end

