-- ==== Sys2Proof/Machine/HostLink.lean ====
section
/-!
DEFINITION. The host link and what comes through it: resets (R457, R488, R524), the staging window (R500), doorbells of
unlisted messages (R511, R515), DEVICE_QUERY and ROW_CONFIG (R519, R79), and queue waits that time out (R533).
-/

namespace Sys2Proof.Machine

/-! ### Resets and the link -/

/-- FLR (R488). -/
def execFlr (fn : Nat) (s : State) : Result :=
  if 1024 < fn ∨ (Store.get? s.sec.resets fn).isSome then ok s else ok (s.resetFn fn 1 none)

/-- The VFs that have a context block. -/
def State.liveVfs (s : State) : List Nat := (s.tier.ctx.map (·.1)).filter (· != 0)

/-- VF_ENABLE_CLEAR (R457): SR-IOV's VF Enable and NumVFs as they stand now; every VF no longer present is disabled. -/
def execVfEnableClear (enabled : Bool) (numVfs : Nat) (s : State) : Result :=
  let gone := s.liveVfs.filter (fun fn => !enabled || numVfs < fn)
  let s := { s with host := { s.host with vfEnable := enabled, numVfs := numVfs } }
  ok (gone.foldl (fun (s : State) fn => s.resetFn fn 2 none) s)

/-- R524. The host link has gone down with power on. -/
def State.linkLoss (s : State) (ltssm : Nat) : State :=
  let s := s.liveVfs.foldl (fun (s : State) fn => s.resetFn fn 1 none) s
  let s := (s.dropHost 0).resetWindow 0 (s.getF 0 Reg.GLB_FN_STATE_STATE)
  let s := ((s.set Reg.GLB_STATUS_LINK_GEN 0).set Reg.GLB_STATUS_LINK_WIDTH 0).set Reg.GLB_STATUS_FLIT 0
  (s.err Reg.GLB_HOST_ERR_LINK_DOWN Reg.GLB_HOST_INT_EN_EN 0 2).tinkLog 0x0C20 noFn (leBytes ltssm 1)

/-- HOST_LINK_DOWN (R524, R585). -/
def execHostLinkDown (ltssm : Nat) (s : State) : Result := ok (s.linkLoss ltssm)

/-- HOST_LINK_UP (R495, R524, R528): not while REFCLK is out of tolerance (R611). -/
def execHostLinkUp (gen width : Nat) (flit : Bool) (s : State) : Result :=
  if !s.mod.refclkOk ∨ gen < 4 ∨ 6 < gen ∨ !([4, 8, 16] : List Nat).contains width then ok s
  else
    ok (((s.set Reg.GLB_STATUS_LINK_GEN gen).set Reg.GLB_STATUS_LINK_WIDTH width).set Reg.GLB_STATUS_FLIT (b2n flit))

/-- CONFIG_SPACE_READY (R585). -/
def execConfigSpaceReady (s : State) : Result := ok { s with host := { s.host with configReady := true } }

/-! ### Checked accesses of agents outside the data path -/

/-- R8, R321. The 64 KiB frames of the near tier. -/
def nearFrames : Nat := 4718592

/-- R461. Whether an agent outside the data path may reach a frame: it is ASSIGNED and OPEN. -/
def State.openFrame (s : State) (f : Nat) : Bool := f < nearFrames && (s.region f).state == 1 && (s.region f).cls == 0

/-- R461, R462. Deny the frames of `n` bytes from `a` on that are not open to agent `g`. -/
def State.denyFrames (s : State) (g : Agent) (isWrite : Bool) (a n : Nat) : State :=
  if n = 0 then s
  else
    let fs := (List.range ((a + n - 1) / 65536 - a / 65536 + 1)).map (a / 65536 + ·)
    (fs.filter (fun f => f < nearFrames && !s.openFrame f)).foldl (fun (s : State) f =>
      let r := s.region f
      if r.state = 1 then s.deny g isWrite r.cls r.owner f else s.deny g isWrite 0xFE r.owner f) s

/-- R461, R462. What agent `g` reads of `n` bytes from `a` on: zeros where a frame is not open to it. -/
def State.openRead (s : State) (a n : Nat) : List Byte :=
  (List.range n).map (fun i => if s.openFrame ((a + i) / 65536) then Memory.read s.tier.near (a + i) else 0)

/-- R461, R462. What a write of agents outside the data path leaves: bytes in frames not open to them are dropped. -/
def State.openWrite (s : State) (a : Nat) (l : List Byte) : State :=
  { s with tier := { s.tier with
    near := l.zipIdx.foldl (fun (m : List Host.Cell) (p : Byte × Nat) =>
      if s.openFrame ((a + p.2) / 65536) then Memory.write m (a + p.2) p.1 else m) s.tier.near } }

/-- BAR4_ACCESS (R500): the 1 MiB window from GLB_STAGE_BASE on. -/
def execBar4Access (o : BarOp) (s : State) : Result :=
  let a := s.reg Reg.GLB_STAGE_BASE_LO_BASE_LO * 2 ^ 20 + s.reg Reg.GLB_STAGE_BASE_HI_BASE_HI * 2 ^ 32 + o.off
  let n := if o.isWrite then o.data.length else o.count
  if 2 ^ 20 < o.off + n then ok s
  else if o.isWrite then ok ((s.openWrite a o.data).denyFrames .host true a n)
  else
    let l := s.openRead a n
    let s := s.denyFrames .host false a n
    ok { s with out := { s.out with bar := s.out.bar ++ [l] } }

/-! ### Messages -/

/-- R519. The message types that a sender may name. -/
def listedTypes : List Nat :=
  let run (a n : Nat) : List Nat := (List.range n).map (a + ·)
  run 0x0101 5 ++ run 0x0201 13 ++ run 0x0301 4 ++ run 0x0310 4 ++ run 0x0320 4 ++ run 0x0401 6 ++ run 0x0410 6 ++
    run 0x0501 8 ++ run 0x0520 5 ++ run 0x0530 4 ++ run 0x0601 7 ++ run 0x0609 3 ++ run 0x0701 3

/-- MBX_DOORBELL (R511, R515): a SEND while the page is BUSY, or of a type that the catalogue does not list. A listed type
with the page free is a row of its own. -/
def execMbxDoorbell (h : Mail) (type : Nat) (s : State) : Result :=
  if s.getF h.fn Reg.MBX_STATUS_BUSY = 0 ∧ listedTypes.contains type then ok s
  else
    ok (s.mail h
      { type := type, minMinor := 0, longReply := false, size := h.payload.length, args := fun _ => false
        sender := fun _ => true, body := fun _ s => .fail s .badArg [] })

/-- QUEUE_WAIT_TIMEOUT (R533): the request concerned is answered BUSY_RETRY, without side effect. -/
def execQueueWaitTimeout (h : Mail) (type : Nat) (s : State) : Result :=
  ok (s.mail h
    { type := type, minMinor := 0, longReply := false, size := h.payload.length, args := fun _ => true
      sender := fun _ => true, body := fun _ s => .fail s .busyRetry [] })

/-- DEVICE_QUERY (R519): five registers. -/
def execDeviceQuery (m : Mail) (s : State) : Result :=
  ok (s.mail m
    { type := 0x0101, minMinor := 0, longReply := false, size := 8, args := fun _ => true, sender := fun _ => true
      body := fun _ s =>
        .done s ([0x8000, 0x800C, 0x8010, Reg.MOV_NEAR_AVAIL_MIB.off, Reg.MOV_DEEP_FREE_MIB.off].flatMap (fun o =>
          leBytes (s.readWord 0 o) 4)) })

/-- ROW_CONFIG (R79, R519): the word of SEQ_ROW_CFG. -/
def execRowConfig (m : Mail) (s : State) : Result :=
  let v := m.u 8 4
  ok (s.mail m
    { type := 0x0102, minMinor := 0, longReply := false, size := 12, args := fun _ => rowCfgOk v && bits v 5 3 + bits v 28 4 == 0
      sender := fun _ => m.fn == 0
      body := fun _ s =>
        if s.seqAtRest then .done (s.setRowCfg v) [] else .conflict ⟨4, s.reg Reg.SEQ_STATUS_STATE, 0⟩ })

end Sys2Proof.Machine
end

