-- ==== Sys2Proof/Machine/Tiers.lean ====
section
/-!
DEFINITION. The tensor, quota, tenant and lending messages (R346, R349, R355, R357, R361 to R363), and the events of the
Move Engine, the zero engine and the flash controller (R109, R340, R353, R354, R459, R488).
-/

namespace Sys2Proof.Machine

/-- R323, R121. A message's own tensor: its entry, or the status of what is wrong. -/
def State.ownTensor (s : State) (h : Handle) : Except Status Tensor :=
  match s.tensor? h with
  | some t => if t.poisoned then .error .faulted else .ok t
  | none => .error .generationStale

/-- R121 step 5. The conflict report that names a tensor. -/
def Tensor.conflict (t : Tensor) (found : Nat) : Conflict := ⟨2, found, t.handle.toNat⟩

/-! ### Allocation -/

/-- R331. Lines of a KV or SWATCH tensor whose KSPEC is `k`, for the model in its slot. -/
def State.kvLines (s : State) (k : Nat) : Nat :=
  let p := (s.model (bits k 0 3)).params
  p.layers * (bits k 3 23 * 256) * p.kvLpt

/-- R326. A KSPEC that fits a KIND. -/
def kspecOk (kind : TKind) (k : Nat) : Bool :=
  match kind with
  | .scale => k < 2 ^ 20 && bits k 0 2 != 0
  | .kv | .swatch => k < 2 ^ 26 && 1 ≤ bits k 3 23 && bits k 3 23 ≤ 16384
  | .motif | .base => k < 8
  | _ => k == 0

/-- What TENSOR_ALLOC asks for: tier, KIND, FORMAT, SIZE, KSPEC, HOME, READONLY, SEALED and the tensor to link. -/
structure AllocAsk where
  deep : Bool
  kind : TKind
  format : Nat
  size : Nat
  kspec : Nat
  home : Bool
  readOnly : Bool
  sealed' : Bool
  link : Handle
  deriving DecidableEq, Repr

/-- R363. The request that a TENSOR_ALLOC page spells: `none` where a code is reserved. -/
def allocAsk (m : Mail) : Option AllocAsk :=
  match TKind.ofNum (m.u 10 2) with
  | some k =>
    if 1 < m.u 8 2 ∨ !(Fmt.ofCode (m.u 12 2)).isSome ∨ m.u 14 2 ≠ 0 ∨ 7 < m.u 24 4 ∨ m.u 28 4 ≠ 0 then none
    else
      let f := m.u 24 4
      some ⟨m.u 8 2 == 1, k, m.u 12 2, m.u 16 4, m.u 20 4, bit f 0, bit f 1, bit f 2, m.handle 32⟩
  | none => none

/-- R322, R326, R331, R343, R460. Whether a request is in range. -/
def AllocAsk.good (a : AllocAsk) (s : State) : Bool :=
  let kindOk := match a.kind with
    | .data | .scale | .kv | .code | .moveDesc => true
    | _ => false
  kindOk && a.size != 0 && kspecOk a.kind a.kspec &&
    (a.kind != .kv || a.size == s.kvLines a.kspec) &&
    (a.kind != .scale || (Fmt.ofCode a.format).any Fmt.isScale) &&
    !(a.sealed' && (a.deep || a.home)) &&
    !((a.home || a.deep) && !a.readOnly && !a.deep && s.reg Reg.MOV_DIRTY_CFG_DIRTY_LIMIT * 4096 < a.size)

/-- R327. Whether a tensor may be linked with the one asked for: one of the two is a scale tensor, neither is linked, and
they lie in one tier. -/
def AllocAsk.linksTo (a : AllocAsk) (t : Tensor) : Bool :=
  (a.kind == .scale) != (t.kind == .scale) && t.scaleLink == 0 && (t.tier == .deep) == a.deep && !t.moving &&
    (t.keyIndex == 2) == a.sealed'

/-- R346 to R349. Allot what a request asks for to function `fn`: the new tensor, or why not. -/
def State.allot (s : State) (fn : Nat) (a : AllocAsk) : Except (Status × State × List Byte) (Tensor × State) :=
  let cls := if a.sealed' then 2 else classOf fn
  let t := { s.blankTensor fn a.kind a.format a.size with
    keyIndex := cls, readOnly := a.readOnly, kspec := a.kspec, scaleLink := a.link.idx }
  let wantsDeep := a.deep || a.home
  let q := s.quota fn
  match s.tableFull fn 1 with
  | some st => .error (st, s, [])
  | none =>
    if wantsDeep ∧ !s.deepKey fn cls then .error (.denied, s, [])
    else if wantsDeep ∧ q.deepLimit < q.deepUsed + 64 * t.deepUnits then .error (.quota, s, [])
    else if wantsDeep ∧ (s.tier.deepFree < t.deepUnits ∨ s.flag Reg.FTL_STATUS_READ_ONLY) then .error (.noCapacity, s, [])
    else
      let near : Except (Status × State × List Byte) (Nat × State) :=
        if a.deep then .ok (0, s)
        else match s.allocNear fn cls t.units with
          | .good loc s => .ok (loc, s)
          | .refused st s p => .error (st, s, p)
      match near with
      | .error e => .error e
      | .ok (loc, s) =>
        let d := if wantsDeep then s.takeDeep t.deepUnits else (0, s)
        let s := d.2
        let s := if wantsDeep then
            let q := s.quota fn
            s.setQuota fn { q with deepUsed := q.deepUsed + 64 * t.deepUnits } else s
        let t := { t with tier := if a.deep then .deep else .near, loc := if a.deep then d.1 else loc
                          homeSet := wantsDeep, home := d.1 }
        .ok (t, s.enter t)

/-- TENSOR_ALLOC (R322 to R326, R343, R345 to R349). -/
def execTensorAlloc (m : Mail) (s : State) : Result :=
  ok (s.mail m
    { type := 0x0201, minMinor := 0, longReply := false, size := 40
      args := fun s => m.handleOk 32 && (allocAsk m).any (fun a => a.good s && (!a.sealed' || m.fn == 0))
      sender := fun _ => m.handle 32 == Handle.none || (m.handle 32).fn == m.fn
      body := fun _ s =>
        match allocAsk m with
        | none => .fail s .badArg []
        | some a =>
          let linked : Except Status (Option Tensor) :=
            if a.link = Handle.none then .ok none else (s.ownTensor a.link).map some
          match linked with
          | .error st => .fail s st []
          | .ok l =>
            if l.any (fun t => !a.linksTo t) then .fail s .badArg []
            else
              match s.allot m.fn a with
              | .error e => .fail e.2.1 e.1 e.2.2
              | .ok (t, s) =>
                let s := match l with
                  | some u => s.mapTensor u.key (fun u => { u with scaleLink := t.idx })
                  | none => s
                .done s.showSpace (leBytes t.handle.toNat 8) })

/-- R349. What keeps a tensor from being released. -/
def State.freeConflict (s : State) (t : Tensor) : Option Conflict :=
  if (s.pair t).any (fun u => u.pinned || u.moving || s.boundMotif u.key || s.named u.key || s.inStep u.key) ∨
      t.kind = .base ∨ (Store.get? s.tier.swatches t.key).any (fun w => w.state == 0) then some (t.conflict 0)
  else none

/-- TENSOR_FREE (R349, R327). -/
def execTensorFree (m : Mail) (s : State) : Result :=
  let h := m.handle 8
  ok (s.mail m
    { type := 0x0202, minMinor := 0, longReply := false, size := 16, args := fun _ => m.handleOk 8 && h != Handle.none
      sender := fun _ => h.fn == m.fn
      body := fun _ s =>
        match s.tensor? h with
        | none => .fail s .generationStale []
        | some t =>
          match s.freeConflict t with
          | some c => .conflict c
          | none =>
            let s := if t.tier = .host then
                { s with tier := { s.tier with hostRegs := Store.erase s.tier.hostRegs t.loc } } else s
            .done (s.dropPair t) [] })

/-- TENSOR_QUERY (R330, R363): the entry and the current handle. -/
def execTensorQuery (m : Mail) (s : State) : Result :=
  let h := m.handle 8
  ok (s.mail m
    { type := 0x0203, minMinor := 0, longReply := true, size := 16, args := fun _ => m.handleOk 8 && h != Handle.none
      sender := fun _ => h.fn == m.fn || m.fn == 0
      body := fun _ s =>
        match s.tensor? h with
        | none => .fail s .generationStale []
        | some t => .done s (t.bytes ++ leBytes t.handle.toNat 8) })

/-- TENSOR_PLACE (R334, R336, R123): a RELOCATE of the sender's own tensor, answered when it has ended. -/
def execTensorPlace (m : Mail) (s : State) : Result :=
  let h := m.handle 8
  let d : MoveDesc := { MoveDesc.empty with src := h, relocate := true, dstTier := Tier.ofCode (m.u 16 2) }
  ok (s.mail m
    { type := 0x0204, minMinor := 0, longReply := false, size := 18
      args := fun _ => m.handleOk 8 && h != Handle.none && m.u 16 2 ≤ 3
      sender := fun _ => h.fn == m.fn
      body := fun t s =>
        match s.moveRefusal m.fn false d with
        | some e => if e.1 = .stateConflict then .conflict e.2 else .fail s e.1 []
        | none =>
          match s.startMove m.fn (.place t) d Handle.none 0 with
          | .error e => .fail e.2.1 e.1 e.2.2
          | .ok s =>
            match s.tier.ended.find? (fun e => e.1 == .place t) with
            | some e =>
              let s := { s with tier := { s.tier with ended := s.tier.ended.filter (fun e => e.1 != .place t) } }
              if e.2 = .ok then .done s [] else .fail s e.2 []
            | none => .later s })

/-- HOST_REGISTER (R363, R325): a HOST tensor over the sender's own host buffer. -/
def execHostRegister (m : Mail) (s : State) : Result :=
  ok (s.mail m
    { type := 0x0205, minMinor := 0, longReply := false, size := 22
      args := fun _ => m.u 16 4 != 0 && (Fmt.ofCode (m.u 20 2)).isSome
      sender := fun _ => true
      body := fun _ s =>
        let n := s.tier.hostRegs.length
        match s.tableFull m.fn 1 with
        | some st => .fail s st []
        | none =>
          if 65536 ≤ n then .fail s .noCapacity []
          else
            let i := ((List.range (n + 1)).find? (fun i => !(s.tier.hostRegs.any (fun r => r.1 == i)))).getD n
            let t := { s.blankTensor m.fn .data (m.u 20 2) (ceilDiv (m.u 16 4) 256) with
              tier := .host, loc := i, keyIndex := 0 }
            let s := { s with tier := { s.tier with hostRegs := Store.put s.tier.hostRegs i (m.fn, m.u 8 8, m.u 16 4) } }
            .done (s.enter t) (leBytes t.handle.toNat 8) })

/-- HOST_UNREGISTER (R363). -/
def execHostUnregister (m : Mail) (s : State) : Result :=
  let h := m.handle 8
  ok (s.mail m
    { type := 0x0206, minMinor := 0, longReply := false, size := 16, args := fun _ => m.handleOk 8 && h != Handle.none
      sender := fun _ => h.fn == m.fn
      body := fun _ s =>
        match s.tensor? h with
        | none => .fail s .generationStale []
        | some t =>
          if t.tier ≠ .host then .fail s .badArg []
          else if t.moving ∨ s.tier.moves.any (fun v => v.desc.src == h || v.desc.dst == h) ∨ s.named t.key then
            .conflict (t.conflict 0)
          else
            .done ({ s with tier := { s.tier with hostRegs := Store.erase s.tier.hostRegs t.loc } }.dropPair t) [] })

/-! ### Quotas -/

/-- R457. A function that is enabled: the PF, or a VF that has its context block. -/
def State.enabled (s : State) (fn : Nat) : Bool := (Store.get? s.tier.ctx fn).isSome

/-- R122. The conflict report that names a function. -/
def State.fnConflict (s : State) (fn : Nat) : Conflict := ⟨5, s.getF fn Reg.GLB_FN_STATE_STATE, fn⟩

/-- QUOTA_SET (R346). -/
def execQuotaSet (m : Mail) (s : State) : Result :=
  let fn := m.u 8 2
  let mib (i : Nat) : Nat := 256 * m.u i 4
  ok (s.mail m
    { type := 0x0207, minMinor := 0, longReply := false, size := 34
      args := fun _ => fn ≤ 1024 && m.u 10 2 == 0 && m.u 16 4 ≤ m.u 12 4
      sender := fun _ => m.fn == 0
      body := fun _ s =>
        let others := ((s.tier.quotas.filter (fun q => q.1 != fn)).map (fun q => q.2.nearReserve)).foldl (· + ·) 0
        if !s.enabled fn then .conflict (s.fnConflict fn)
        else if s.reg Reg.MOV_NEAR_AVAIL_MIB * 256 < others + mib 16 then .fail s .noCapacity []
        else
          .done (s.setQuota fn { s.quota fn with
            nearLimit := mib 12, nearReserve := mib 16, deepLimit := mib 20, borrowLimit := mib 24
            tensorLimit := m.u 28 4, motifLimit := m.u 32 2 }) [] })

/-- QUOTA_QUERY (R345): the snapshot. -/
def execQuotaQuery (m : Mail) (s : State) : Result :=
  let fn := m.u 8 2
  ok (s.mail m
    { type := 0x0208, minMinor := 0, longReply := true, size := 10, args := fun _ => fn ≤ 1024
      sender := fun _ => fn == m.fn || m.fn == 0
      body := fun _ s =>
        match Store.get? s.tier.ctx fn with
        | some c => .done s (c.snapshot.bytes c.snapRow)
        | none => .conflict (s.fnConflict fn) })

/-! ### Parking -/

/-- TENANT_PARK (R361). -/
def execTenantPark (m : Mail) (s : State) : Result :=
  let fn := m.u 8 2
  ok ((s.mail m
    { type := 0x0209, minMinor := 0, longReply := false, size := 10, args := fun _ => fn ≤ 1024
      sender := fun _ => m.fn == 0
      body := fun t s =>
        if s.getF fn Reg.GLB_FN_STATE_STATE ≠ 2 ∨ s.tier.parks.any (fun p => p.1 == fn) then .conflict (s.fnConflict fn)
        else
          let keys := (s.tier.tt.filter (fun c => c.2.fn == fn)).map (·.1)
          let s := (keys.foldl State.drainMotif s).mirrorCtx fn
          let s := keys.foldl (fun (s : State) k => s.mapTensor k (fun t =>
            if t.tier = .near ∧ t.kind ≠ .context then { t with parked := true } else t)) s
          .later { s with tier := { s.tier with parks := s.tier.parks ++ [(fn, t)] } } }).settleMotifs.settle)

/-- R362. Start the restore of every PARKED tensor of a function, in ascending index; the first refusal stops it. -/
def State.restoreAll (s : State) (fn : Nat) : List Tensor → Except (Status × State × List Byte) State
  | [] => .ok s
  | t :: l =>
    match s.toNear (MoveDesc.reloc t .near) fn (.restore fn) t with
    | .error e => .error e
    | .ok (m, s) => State.restoreAll (s.beginMove m) fn l

/-- TENANT_RESTORE (R362, R346 to R348). -/
def execTenantRestore (m : Mail) (s : State) : Result :=
  let fn := m.u 8 2
  ok (s.mail m
    { type := 0x020A, minMinor := 0, longReply := false, size := 10, args := fun _ => fn ≤ 1024
      sender := fun _ => m.fn == 0 || fn == m.fn
      body := fun t s =>
        let parked := (s.tier.tt.map (·.2)).filter (fun x => x.fn == fn && x.parked && x.kind != .scale)
        if !s.enabled fn ∨ s.tier.parks.any (fun p => p.1 == fn) ∨ s.tier.restores.any (fun p => p.1 == fn) then
          .conflict (s.fnConflict fn)
        else
          let here := parked.filter (fun x => x.tier == .near)
          let s := here.foldl (fun (s : State) x => (s.pair x).foldl (fun (s : State) u =>
            s.mapTensor u.key (fun v => { v with parked := false })) s) s
          let away := parked.filter (fun x => x.tier == .deep)
          if away.any (fun x => !s.deepKey x.fn x.keyIndex) then .fail s .denied []
          else
            match s.restoreAll fn away with
            | .error e => .fail e.2.1 e.1 e.2.2
            | .ok s => if away.isEmpty then .done s []
              else .later { s with tier := { s.tier with restores := s.tier.restores ++ [(fn, t)] } } })

/-! ### Lent hanks -/

/-- R355, R405. Hanks of 1 GiB are offered on a link on which no loaded template sends. -/
def State.hankLend (s : State) (m : Mail) : Result :=
  let l := m.u 8 2
  let n := m.u 12 4
  ok (s.mail m
    { type := 0x020B, minMinor := 0, longReply := false, size := 16
      args := fun _ => l < 16 && m.u 10 2 == 0 && 1 ≤ n && n ≤ 192
      sender := fun _ => m.fn == 0
      body := fun _ s =>
        let st := s.getF (linkFn l) Reg.LNK_STATE_STATE
        if st ≠ 3 ∨ s.seq.templates.any (fun t => t.sendsOn l) then .conflict ⟨0, st, l⟩
        else if s.reg Reg.MOV_LEND_CFG_LEND_MAX < s.tier.lent.length + n then .fail s .noCapacity []
        else
          let one (a : Option State) (_ : Nat) : Option State := a.bind (fun s =>
            (s.nearFit 0 0x10 (2 ^ 18)).map (fun loc =>
              let s := s.assignFrames 0 0x10 loc (2 ^ 22)
              let k := ((List.range 512).find? (fun i => !(s.tier.lent.any (fun h => h.1 == i)))).getD 0
              { s with tier := { s.tier with lent := Store.put s.tier.lent k ⟨l, loc, [], none⟩ } }))
          match (List.range n).foldl one (some s) with
          | some s => .done s.showSpace []
          | none => .fail s .noCapacity [] })

/-- R355. A neighbour offers a hank; at most 512 are borrowed. -/
def State.hankOffered (s : State) (link hank : Nat) : State :=
  if 16 ≤ link ∨ 512 ≤ hank ∨ !s.linkUp link ∨ 512 ≤ s.tier.borrowed.length ∨ (Store.get? s.tier.borrowed (512 * link + hank)).isSome then s
  else { s with tier := { s.tier with borrowed := Store.put s.tier.borrowed (512 * link + hank) ⟨link, hank, [], none⟩ } }.showSpace

/-- HANK_LEND (R355, R405). -/
def execHankLend (o : HankOp) (s : State) : Result :=
  match o with
  | .message m => s.hankLend m
  | .peer link hank _ => ok (s.hankOffered link hank)

/-- R357. The borrower is told; the hanks are served until the deadline. -/
def State.hankRecall (s : State) (m : Mail) : Result :=
  let n := m.u 8 4
  let off := ceilDiv (12 + 2 * n) 4 * 4
  let dl := if m.u off 4 = 0 then 1000 else m.u off 4
  let hanks := (List.range n).map (fun i => m.u (12 + 2 * i) 2)
  ok (s.mail m
    { type := 0x020C, minMinor := 0, longReply := false, size := off + 4
      args := fun s => 1 ≤ n && n ≤ 512 && 100 ≤ dl && dl ≤ 60000 && hanks.all (fun h => (Store.get? s.tier.lent h).isSome)
      sender := fun _ => m.fn == 0
      body := fun _ s =>
        .done (hanks.foldl (fun (s : State) h =>
          match Store.get? s.tier.lent h with
          | some x => ({ s with tier := { s.tier with
              lent := Store.put s.tier.lent h { x with recallAt := some dl } } }).send x.link (.hankRecall h dl)
          | none => s) s) [] })

/-- R357, R363, R364. The neighbour recalls a hank: the PF is told, and its tensors are relocated to NEAR. -/
def State.hankRecalled (s : State) (link hank dl : Nat) : State :=
  let k := 512 * link + hank
  match Store.get? s.tier.borrowed k with
  | none => s
  | some x =>
    let s := { s with tier := { s.tier with borrowed := Store.put s.tier.borrowed k { x with recallAt := some dl } } }
    let s := (s.err Reg.MOV_INT_RECALLED Reg.MOV_INT_EN_EN 1 4).note 0 0x0211 (leBytes hank 2 ++ leBytes link 2 ++ leBytes dl 4)
    let mine := (s.tier.tt.map (·.2)).filter (fun t =>
      t.tier == .borrowed && borrowedLoc t.loc == (link, hank, (borrowedLoc t.loc).2.2) && t.kind != .scale)
    mine.foldl (fun (s : State) t =>
      if t.moving then s
      else match s.startMove t.fn .recall (MoveDesc.reloc t .near) Handle.none 0 with
        | .ok s => s
        | .error e => e.2.1) s

/-- HANK_RECALL (R357). -/
def execHankRecall (o : HankOp) (s : State) : Result :=
  match o with
  | .message m => s.hankRecall m
  | .peer link hank dl => ok (s.hankRecalled link hank dl)

/-- HANK_RECALL_DEADLINE (R357): the deadline of a recalled hank has passed. At the lender its directory is invalid and it is
zero-filled; at the borrower, on the link `lender`, the tensors left there are found at their homes. -/
def execHankRecallDeadline (lender : Option Nat) (h : Nat) (s : State) : Result :=
  match lender with
  | none => ok (if (Store.get? s.tier.lent h).any (fun x => x.recallAt.isSome) then s.takeBack h else s)
  | some l =>
    ok (if (Store.get? s.tier.borrowed (512 * l + h)).any (fun x => x.recallAt.isSome) then s.loseHanks (fun a b => a == l && b == h)
      else s)

/-! ### Write-back -/

/-- R340. A function's dirty tensors that no move carries, oldest DIRTY_ROW first. -/
def State.dirtyOf (s : State) (mine : Tensor → Bool) : List Tensor :=
  sortBy ((s.tier.tt.map (·.2)).filter (fun t => t.dirty && !t.moving && mine t)) (fun a b => a.dirtyRow ≤ b.dirtyRow)

/-- WRITEBACK (R340): write-back of all of a function's dirty tensors starts at once. -/
def execWriteback (m : Mail) (s : State) : Result :=
  let fn := m.u 8 2
  ok (s.mail m
    { type := 0x020D, minMinor := 0, longReply := false, size := 10, args := fun _ => fn ≤ 1024
      sender := fun _ => m.fn == 0 || fn == m.fn
      body := fun _ s =>
        if !s.enabled fn then .conflict (s.fnConflict fn)
        else .done ((s.dirtyOf (fun t => t.fn == fn)).foldl State.writeBack s) [] })

/-- WRITEBACK_START (R340): background write-back of the tensor dirty longest. -/
def execWritebackStart (o : WritebackOp) (s : State) : Result :=
  let half := s.reg Reg.MOV_DIRTY_CFG_DIRTY_LIMIT * 2048
  if !s.flag Reg.MOV_CTRL_WB_EN ∨ !(o.delayed || half < s.dirtyLines) then ok s
  else
    match s.dirtyOf (fun _ => true) with
    | t :: _ => ok (s.writeBack t)
    | [] => ok s

/-! ### Engines -/

/-- MOVE_GRANULE_DONE (R109, R338): the move served next gains a granule. -/
def execMoveGranuleDone (o : MoveGranuleOp) (s : State) : Result :=
  match s.nextServed with
  | none => ok s
  | some m => ok ({ s with tier := { s.tier with served := m.fn } }.landGranule m o.lines o.fail).settle.bindAdvance

/-- HOST_READ_COMPLETION (R488): the lines of a granule whose source is in host memory arrive, and are discarded where the
function's reads are squashed. -/
def execHostReadCompletion (o : HostReadOp) (s : State) : Result :=
  if s.host.squashReads.contains o.move then
    ok { s with host := { s.host with squashReads := s.host.squashReads.erase o.move } }
  else
    match s.tier.moves.find? (fun m => m.id == o.move && m.running && !m.stopped && m.segs.any (fun g => g.srcTier == .host)) with
    | none => ok s
    | some m => if s.flag Reg.MOV_CTRL_PAUSE then ok s
      else ok ({ s with tier := { s.tier with served := m.fn } }.landGranule m o.lines (if o.failed then 2 else 0)).settle

/-- What of a stretch of lines lies outside frame `f`. -/
def outsideFrame (f : Nat) (z : Nat × Nat × Nat) : List (Nat × Nat × Nat) :=
  let lo := 256 * f
  let hi := lo + 256
  let e := z.1 + z.2.1
  if e ≤ lo ∨ hi ≤ z.1 then [z]
  else ([(z.1, lo - z.1, z.2.2), (hi, e - hi, z.2.2)] : List (Nat × Nat × Nat)).filter (fun p => p.2.1 != 0)

/-- ZERO_FILL_DONE (R349, R350, R459): the zero engine has finished a frame: what awaited zero-fill in it is zero, and a
frame in ZEROING is FREE, held only where a deferred request holds it. -/
def execZeroFillDone (f : Nat) (s : State) : Result :=
  let hit := s.tier.zeroPend.filter (fun z => overlaps (z.1, z.2.1) (256 * f, 256))
  let near := hit.foldl (fun mem z =>
    let a := max z.1 (256 * f)
    let b := min (z.1 + z.2.1) (256 * f + 256)
    Memory.zero mem (256 * a) (256 * (b - a))) s.tier.near
  let regions := match Store.get? s.tier.regions f with
    | some r =>
      if r.state = 2 then
        if r.hold then Store.put s.tier.regions f ⟨0, 0, 0, true⟩ else Store.erase s.tier.regions f
      else s.tier.regions
    | none => s.tier.regions
  ok ({ s with tier := { s.tier with near := near, regions := regions
                                     zeroPend := s.tier.zeroPend.flatMap (outsideFrame f) } }.showSpace).settle

/-! ### Flash -/

/-- R354. Spare blocks are exhausted: the deep tier becomes read-only. -/
def State.deepReadOnly (s : State) : State :=
  if s.flag Reg.FTL_STATUS_READ_ONLY then s
  else
    let s := ((s.set Reg.FTL_STATUS_READ_ONLY 1).set Reg.MOV_STATUS_DEEP_RO 1).set Reg.FTL_ERR_READ_ONLY_ENTERED 1
    s.tinkOpen 6 noFn []

/-- R353, R365. What the controller shows of raw free space, in percent. -/
def State.showFlashFree (s : State) (pct : Nat) : State :=
  let s := s.set Reg.FTL_STATUS_GC_URGENT (b2n (pct < s.reg Reg.FTL_CFG_LOW_MARK))
  let s := if pct < s.reg Reg.FTL_MARK_LOW_LOW then s.set Reg.FTL_MARK_LOW_LOW pct else s
  s.sample 0 Reg.FTL_MARK_STATUS Reg.FTL_MARK_INT_EN Reg.FTL_MARK_CROSS_CROSSINGS (pct < s.reg Reg.FTL_MARK_THRESH)

/-- FLASH_WEAR_OP (R353, R354, R365). -/
def execFlashWearOp (o : WearOp) (s : State) : Result :=
  let s := s.inc2 Reg.FTL_NAND_WR_LO_NWR_LO Reg.FTL_NAND_WR_HI_NWR_HI o.mib
  let s := match o.kind with
    | 0 => s.inc Reg.FTL_GC_BLOCKS_BLOCKS 1
    | 1 => s.inc Reg.FTL_RD_REFRESH_BLOCKS 1
    | _ => s.inc Reg.FTL_BAD_BLOCKS_GROWN 1
  let s := (s.set Reg.FTL_LIFE_LIFE_USED (min 255 o.lifeUsed)).set Reg.FTL_LIFE_SPARE_LEFT (min 100 o.spareLeft)
  let s := (s.showFlashFree (min 255 o.freePct)).inc Reg.FTL_PARITY_FIX_COUNT o.parityFixes
  ok (if o.spareLeft = 0 then s.deepReadOnly else s)

/-- FLASH_CHANNEL_FAIL (R354): a failed channel is rebuilt from parity; `exhausted` when that takes the last spare
blocks. -/
def execFlashChannelFail (exhausted : Bool) (s : State) : Result :=
  let s := s.set Reg.FTL_STATUS_CHANNELS_OK (s.reg Reg.FTL_STATUS_CHANNELS_OK - 1)
  let s := s.set Reg.FTL_ERR_CHANNEL_FAIL 1
  ok (if exhausted then (s.set Reg.FTL_LIFE_SPARE_LEFT 0).deepReadOnly else s)

end Sys2Proof.Machine
end

