-- ==== Sys2Proof/Machine/Models.lean ====
section
/-!
DEFINITION. Base models: MODEL_LOAD, MODEL_RELAY, MODEL_UNLOAD and MODEL_QUERY (R358 to R360, R363, R418, R480).
-/

namespace Sys2Proof.Machine

/-- `p` rounded up to a multiple of `n` (R518). -/
def alignUp (p n : Nat) : Nat := ceilDiv p n * n

/-- What MODEL_LOAD and MODEL_RELAY name: slot, parameters, shard descriptors, the links of a relay, the end of the layout. -/
structure ModelAsk where
  slot : Nat
  params : ModelParams
  rht : Nat
  flags : Nat
  shards : List MoveDesc
  linkA : Nat
  linkB : Nat
  size : Nat
  deriving DecidableEq, Repr

/-- R358, R418, R518. The request that a page spells. -/
def modelAsk (m : Mail) : ModelAsk :=
  let n := min (m.u 20 4) 510
  let p1 := 24 + 8 * n
  let p2 := alignUp (p1 + 6) 8
  let k := min (m.u (p2 + 12) 4) 64
  let p3 := alignUp (p2 + 16) 64
  let p4 := alignUp (p3 + 64 * k) 32
  let shards := (List.range k).map (fun i => MoveDesc.ofBytes (slice m.payload (p3 + 64 * i) 64))
  let targets := (List.range n).map (fun i => (m.u (24 + 8 * i) 4, m.u (28 + 8 * i) 4))
  { slot := m.u 8 2
    params := { layers := m.u 12 4, kvLpt := m.u 16 4, targets := targets, rankLimit := m.u p1 4
                rhtBlock := if m.u (p1 + 4) 2 = 0xFFFF then none else some (m.u (p1 + 4) 2)
                signVec := m.handle p2, posPre := bit (m.u (p2 + 8) 4) 0, secret := bit (m.u (p2 + 8) 4) 1
                shards := m.u (p2 + 12) 4, digest := BitVec.ofNat 256 (m.u p4 32) }
    rht := m.u (p1 + 4) 2
    flags := m.u (p2 + 8) 4
    shards := shards
    linkA := m.u (p4 + 32) 2
    linkB := m.u (p4 + 34) 2
    size := p4 + 36 }

/-- R358. Parameters in range. -/
def ModelAsk.good (a : ModelAsk) : Bool :=
  let p := a.params
  1 ≤ p.layers && p.layers ≤ 1024 && 1 ≤ p.kvLpt && p.kvLpt ≤ 64 && p.targets.length ≤ 256 &&
    p.targets.all (fun t => t.1 % 256 == 0 && t.2 % 256 == 0 && t.1 != 0 && t.2 != 0) &&
    4 ≤ p.rankLimit && p.rankLimit ≤ 256 && p.rankLimit % 4 == 0 && (a.rht ≤ 3 || a.rht == 0xFFFF) && a.flags ≤ 3 &&
    1 ≤ p.shards && p.shards == a.shards.length &&
    a.shards.all (fun d => d.rsvd == 0 && !d.relocate && d.dst == Handle.none && (d.cvt == 0 ||
      ((d.rows + 1) % 256 == 0 && (d.cols + 1) % 256 == 0)) && (d.cvt < 2 || (d.group != 0 &&
        (Fmt.ofCode d.qfmt).isSome && (Fmt.ofCode d.qscfmt).any Fmt.isScale)))

/-- R335. Data lines and scale lines of a shard whose source has format `f` and `lines` lines. -/
def MoveDesc.shardDims (d : MoveDesc) (f : Fmt) (lines : Nat) : Nat × Nat :=
  let tiles := (d.rows + 1) / 256 * ((d.cols + 1) / 256)
  match d.cvt with
  | 0 => (lines, 0)
  | 1 => (tiles * linesFor 65536 f.width, 0)
  | _ =>
    match Fmt.ofCode d.qfmt, Fmt.ofCode d.qscfmt with
    | some q, some sc =>
      let b := blockDims q sc (groupSize d.group) 65536
      (tiles * b.data, tiles * (b.scale + b.zero))
    | _, _ => (0, 0)

/-- R326. KSPEC of the scale tensor of a shard. -/
def MoveDesc.scaleSpec (d : MoveDesc) : Nat :=
  match Fmt.ofCode d.qfmt with
  | some q => d.group + 4 * b2n d.qmode + 8 * b2n q.isUint + 16 * (linesFor 65536 q.width - 1)
  | none => 0

/-- A shard about to be allotted: its descriptor, FORMAT, data lines and scale lines. -/
structure Shard where
  desc : MoveDesc
  format : Nat
  data : Nat
  scale : Nat
  deriving DecidableEq, Repr

/-- R359 steps 2 to 5. Allot a slot's shards to the PF, all or none: their keys in order. -/
def State.allotShards (s : State) (slot : Nat) (isSecret : Bool) (l : List Shard) :
    Except (Status × State × List Byte) (List Nat × State) :=
  let cls := if isSecret then 8 + slot else 0
  let sizes := l.flatMap (fun x => x.data :: (if x.scale = 0 then [] else [x.scale]))
  match s.tableFull 0 sizes.length with
  | some st => .error (st, s, [])
  | none =>
    match s.allocNears 0 cls (sizes.map (fun n => ceilDiv n 16)) with
    | (.refused st s' p, _) => .error (st, if st = .busyRetry then s' else s, p)
    | (.good _ s, locs) =>
      let r := l.foldl (fun (a : List Nat × List Nat × State) x =>
        let t := { a.2.2.blankTensor 0 .base x.format x.data with
          readOnly := true, incomplete := true, keyIndex := cls, kspec := slot, loc := a.2.1.headD 0 }
        let s := a.2.2.enter t
        if x.scale = 0 then (a.1 ++ [t.key], a.2.1.drop 1, s)
        else
          let u := { s.blankTensor 0 .scale x.desc.qscfmt x.scale with
            readOnly := true, incomplete := true, keyIndex := cls, kspec := x.desc.scaleSpec, loc := (a.2.1.drop 1).headD 0
            scaleLink := t.idx }
          (a.1 ++ [t.key], a.2.1.drop 2, (s.enter u).mapTensor t.key (fun t => { t with scaleLink := u.idx })))
        ([], locs, s)
      .ok (r.1, r.2.2.showSpace)

/-- R359. Whether a slot may take a load: EMPTY, and no base-owner key missing (R480). -/
def State.slotConflict (s : State) (m : Nat) : Option Conflict :=
  let st := (s.model m).state
  if st ≠ 0 then some ⟨0, st, m⟩ else none

/-- R334, R358. The shards of a load from the host, or what is wrong with one. -/
def State.hostShards (s : State) : List MoveDesc → Except Status (List Shard)
  | [] => .ok []
  | d :: t =>
    if d.src.malformed ∨ d.src = Handle.none then .error .badArg
    else if d.src.fn ≠ 0 then .error .denied
    else
      match s.tensor? d.src with
      | none => .error .generationStale
      | some x =>
        match Fmt.ofCode x.format with
        | none => .error .badArg
        | some f =>
          let n := linesFor ((d.rows + 1) * (d.cols + 1)) f.width
          if x.tier ≠ .host ∨ (d.cvt ≠ 0 ∧ (2 < x.format ∨ x.size < n)) then .error .badArg
          else
            match State.hostShards s t with
            | .error e => .error e
            | .ok l =>
              let k := d.shardDims f x.size
              .ok (⟨d, if d.cvt < 2 then x.format else d.qfmt, k.1, k.2⟩ :: l)

/-- R418. Granules of a stream of shards. -/
def streamGranules (sizes : List (Nat × Nat)) : Nat := ceilDiv ((sizes.map (fun p => p.1 + p.2)).foldl (· + ·) 0) 4096

/-- MODEL_LOAD (R358, R359, R418, R480). The shards are copied and converted in order; the reply carries the digest and
RELAY_STATUS. -/
def execModelLoad (m : Mail) (s : State) : Result :=
  let a := modelAsk m
  ok ((s.mail m
    { type := 0x0301, minMinor := 0, longReply := false, size := a.size - 2
      args := fun _ => a.slot < 8 && m.u 10 2 == 0
      sender := fun s => m.fn == 0 && (!a.params.secret || (Store.get? s.sec.baseKeys a.slot).isSome)
      body := fun t s =>
        match s.slotConflict a.slot with
        | some c => .conflict c
        | none =>
          if !a.good ∨ (a.linkA ≠ 0xFFFF ∧ 16 ≤ a.linkA) then .fail s .badArg []
          else if a.linkA ≠ 0xFFFF ∧ !s.linkUp a.linkA then
            .conflict ⟨0, s.getF (linkFn a.linkA) Reg.LNK_STATE_STATE, a.linkA⟩
          else
            match s.hostShards a.shards with
            | .error st => .fail s st []
            | .ok shards =>
              match s.allotShards a.slot a.params.secret shards with
              | .error e => .fail e.2.1 e.1 e.2.2
              | .ok (keys, s) =>
                let out := if a.linkA = 0xFFFF then none else some a.linkA
                let s := s.setModel a.slot ⟨1, a.params, 0, keys, some t, out⟩
                let sizes := shards.map (fun x => (x.data, x.scale))
                let s := match out with
                  | none => s
                  | some l =>
                    let n := s.fab.nextStream
                    let r : Relay := ⟨n, a.slot, none, out, streamGranules sizes, sizes, 0, a.params.digest, false, .ok, true, none⟩
                    { s with fab := { s.fab with relays := s.fab.relays ++ [r], nextStream := n % 65535 + 1 } }.send l
                      (.bulkOpen n a.slot sizes a.params.digest)
                .later ((shards.zip keys).foldl (fun (s : State) (x : Shard × Nat) =>
                  match s.entry x.2, s.tensor? x.1.desc.src with
                  | some d, some h =>
                    s.beginMove (Move.new 0 (.model a.slot) { x.1.desc with dst := d.handle }
                      [⟨.host, h.loc, .near, d.loc, h.size⟩] [] false)
                  | _, _ => s) s) }).settle)

/-- MODEL_RELAY (R359, R418 to R421, R480): steps 1 to 5 for the announced sizes; the shards then arrive over RELAY_IN. -/
def execModelRelay (m : Mail) (s : State) : Result :=
  let a := modelAsk m
  let fmtOf (d : MoveDesc) : Option Fmt := Fmt.ofCode d.qfmt
  ok (s.mail m
    { type := 0x0302, minMinor := 0, longReply := false, size := a.size
      args := fun _ => a.slot < 8 && m.u 10 2 == 0
      sender := fun s => m.fn == 0 && (!a.params.secret || (Store.get? s.sec.baseKeys a.slot).isSome)
      body := fun t s =>
        match s.slotConflict a.slot with
        | some c => .conflict c
        | none =>
          if !a.good ∨ 16 ≤ a.linkA ∨ (a.linkB ≠ 0xFFFF ∧ (16 ≤ a.linkB ∨ a.linkB / 8 ≠ a.linkA / 8 ∨ a.linkB = a.linkA)) ∨
              a.shards.any (fun d => (fmtOf d).isNone || d.src != Handle.none) then .fail s .badArg []
          else
            let shards := a.shards.map (fun d =>
              let f := (fmtOf d).getD .bf16
              let k := d.shardDims f (linesFor ((d.rows + 1) * (d.cols + 1)) f.width)
              (⟨d, d.qfmt, k.1, k.2⟩ : Shard))
            match s.allotShards a.slot a.params.secret shards with
            | .error e => .fail e.2.1 e.1 e.2.2
            | .ok (keys, s) =>
              let out := if a.linkB = 0xFFFF then none else some a.linkB
              let s := s.setModel a.slot ⟨1, a.params, 0, keys, some t, out⟩
              let sizes := shards.map (fun x => (x.data, x.scale))
              let r : Relay := ⟨0, a.slot, some a.linkA, out, streamGranules sizes, sizes, 0, a.params.digest, false, .ok, false, none⟩
              .later { s with fab := { s.fab with relays := s.fab.relays ++ [r] } } })

/-- R360. What keeps a model from being unloaded. -/
def State.unloadConflict (s : State) (m : Nat) : Option Conflict :=
  let st := (s.model m).state
  let bound := s.tier.motifs.any (fun x => x.2.model == m && (x.2.state == .serving || x.2.state == .training || x.2.state == .draining))
  let pinned := s.tier.swatches.any (fun w => w.2.model == m && w.2.pins != 0)
  let building := s.seq.builds.any (fun j => match j with
    | .build _ _ e _ => e.model == m
    | .load _ e _ _ => e.model == m
    | .graph _ g => g.model == m
    | .recheck => false)
  if st ≠ 2 then some ⟨0, st, m⟩
  else if s.seq.templates.any (fun t => t.model == m) ∨ building ∨ bound ∨ pinned ∨ s.rosters.any (fun r => r.model == m) then
    some ⟨0, 2, m⟩
  else none

/-- MODEL_UNLOAD (R360, R481). -/
def execModelUnload (m : Mail) (s : State) : Result :=
  let slot := m.u 8 2
  ok (s.mail m
    { type := 0x0303, minMinor := 0, longReply := false, size := 10, args := fun _ => slot < 8, sender := fun _ => m.fn == 0
      body := fun _ s =>
        match s.unloadConflict slot with
        | some c => .conflict c
        | none =>
          let s := (s.model slot).tensors.foldl (fun (s : State) k => match s.entry k with
            | some t => s.dropPair t
            | none => s) s
          let s := { s with fab := { s.fab with relays := s.fab.relays.filter (fun r => r.slot != slot) } }
          let s := if (s.model slot).params.secret then s.destroyBase slot 3 else s
          .done (s.setModel slot ModelSlot.empty) [] })

/-- MODEL_QUERY (R363): the slot's state, parameters and digest. -/
def execModelQuery (m : Mail) (s : State) : Result :=
  let slot := m.u 8 2
  ok (s.mail m
    { type := 0x0304, minMinor := 0, longReply := true, size := 10, args := fun _ => slot < 8, sender := fun _ => true
      body := fun _ s =>
        let x := s.model slot
        let p := x.params
        let head := leBytes x.state 2 ++ leBytes 0 2 ++ leBytes p.layers 4 ++ leBytes p.kvLpt 4 ++
          leBytes p.targets.length 4 ++ p.targets.flatMap (fun t => leBytes t.1 4 ++ leBytes t.2 4) ++
          leBytes p.rankLimit 4 ++ leBytes (p.rhtBlock.getD 0xFFFF) 2
        let sign := head ++ leBytes 0 (alignUp head.length 8 - head.length) ++ leBytes p.signVec.toNat 8 ++
          leBytes (b2n p.posPre + 2 * b2n p.secret) 4 ++ leBytes p.shards 4
        .done s (sign ++ leBytes 0 (alignUp sign.length 32 - sign.length) ++ leBytes x.digest.toNat 32) })

end Sys2Proof.Machine
end

