-- ==== Sys2Proof/Machine/Chain.lean ====
section
/-!
DEFINITION. The CHAIN stage: tile buffers and program slots (R153, R154), element programs (R155), reductions (R156),
the soft maximum (R157), compress and expand (R158), random numbers (R159).
-/

namespace Sys2Proof.Machine

/-- R130. Key of line `l` of tile buffer `b` of chain `c` of a die. -/
def tbufKey (die c b l : Nat) : Nat := ((die * 4 + c) * 4 + b) * 1024 + l

/-- R153. Key of program slot `p` of chain `c` of a die. -/
def progKey (die c p : Nat) : Nat := (die * 4 + c) * 32 + p

/-- R128. Whether a 22-bit locator names a tile buffer. -/
def isBuf (loc : Nat) : Bool := bit loc 21

/-- R128. The tile-buffer keys of `n` lines from a locator on. -/
def locKeys (h : Issue) (loc n : Nat) : List Nat := (range (bits loc 0 10) n).map (tbufKey h.die h.unit (bits loc 10 2))

/-- The skein lines of `n` lines from a locator on: none for a tile buffer. -/
def locLines (loc n : Nat) : List Nat := if isBuf loc then [] else range (loc % 2 ^ 21) n

/-- R130. Whether an entry of unit-local storage that another slot wrote is read. -/
def State.bufForeign (s : State) (h : Issue) (keys : List Nat) : Bool :=
  keys.any (fun k => match Store.get? s.data.tbufs k with | some e => e.1 != h.cslot | none => false)

/-- R130. A tile-buffer line: zeros where the reading command has not written. -/
def State.bufLine (s : State) (h : Issue) (k : Nat) : LineData :=
  match Store.get? s.data.tbufs k with
  | some e => if e.1 = h.cslot then e.2 else 0
  | none => 0

/-- The number that `n` lines from a locator on spell. -/
def State.locAt (s : State) (h : Issue) (loc n : Nat) : Nat :=
  if isBuf loc then linesNat ((locKeys h loc n).map (s.bufLine h)) else s.linesAt (loc % 2 ^ 21) n

/-- Write tile-buffer lines. -/
def State.writeBuf (s : State) (h : Issue) : List Nat → List LineData → State
  | k :: ks, d :: ds =>
    State.writeBuf { s with data := { s.data with tbufs := Store.put s.data.tbufs k (h.cslot, d) } } h ks ds
  | _, _ => s

/-- Write lines from a locator on. -/
def State.writeLoc (s : State) (h : Issue) (loc : Nat) (l : List LineData) : State :=
  if isBuf loc then s.writeBuf h (locKeys h loc l.length) l else s.writeLines (loc % 2 ^ 21) l

/-- R130. The tile-buffer keys of a source locator. -/
def bufKeys (h : Issue) (loc n : Nat) : List Nat := if isBuf loc then locKeys h loc n else []

/-- Issue a chain instruction: the skein's rules, then the ownership of the tile-buffer lines it reads (R130). -/
def State.issueChain (s : State) (h : Issue) (op : Nat) (reads writes bufs : List Nat) (k : Nat → State → State) : State :=
  s.issue h op reads writes (fun cid s => if s.bufForeign h bufs then s.patternErr h op 1 else k cid s)

/-- VC.LDP (R153). -/
def execVcLdp (h : Issue) (o : VcLdpOp) (s : State) : Result :=
  ok (s.issue h 0x80 [o.src] [] (fun _ s =>
    { s with data := { s.data with
      progs := Store.put s.data.progs (progKey h.die h.unit o.pslot) (h.cslot, s.line o.src) } }))

/-- VC.LD (R154). -/
def execVcLd (h : Issue) (o : VcBufOp) (s : State) : Result :=
  let n := o.lcnt + 1
  ok (s.issue h 0x81 (range o.line n) [] (fun _ s =>
    s.writeBuf h ((range o.boff n).map (tbufKey h.die h.unit o.buf)) ((range o.line n).map s.line)))

/-- VC.ST (R154). -/
def execVcSt (h : Issue) (o : VcBufOp) (s : State) : Result :=
  let n := o.lcnt + 1
  let keys := (range o.boff n).map (tbufKey h.die h.unit o.buf)
  ok (s.issueChain h 0x82 [] (range o.line n) keys (fun _ s => s.writeLines o.line (keys.map (s.bufLine h))))

/-- R268, R155. B's element index for element `i`: per element, per row, per column, or the row's state record. -/
def bIndex (bmode rowlen i : Nat) : Nat :=
  match bmode with
  | 0 => i
  | 1 => i / rowlen
  | 2 => i % rowlen
  | _ => i / rowlen

/-- R268. Lines of source B of a program over `n` elements. -/
def bLines (p : Prog) (xin n : Nat) : Nat :=
  let rows := ceilDiv n p.rowlen
  match p.bmode with
  | 0 => linesFor n (chainWidth xin)
  | 1 => linesFor rows 32
  | 2 => linesFor p.rowlen 32
  | _ => linesFor rows 128

/-- R268. B's 32-bit value for element `i`. -/
def bValue (p : Prog) (xin x i : Nat) : Word :=
  let j := bIndex p.bmode p.rowlen i
  match p.bmode with
  | 0 => chainIn xin (elem x (chainWidth xin) j)
  | 3 => BitVec.ofNat 32 (bits x (128 * j + 32 * p.fld) 32)
  | _ => BitVec.ofNat 32 (elem x 32 j)

/-- R155, R260, R267, R285. The lines a program writes over `n` elements, and its counts. -/
def progRun (p : Prog) (xin xout n : Nat) (scalars : List Word) (xa xb : Nat) : List LineData × Nat × Nat :=
  let one (i : Nat) : Word × Nat × Nat :=
    runElem p ⟨chainIn xin (elem xa (chainWidth xin) i), bValue p xin xb i, i, p.rowlen, scalars, p.consts⟩
  let rs := (List.range n).map one
  if p.bitout then
    (codeLines 1 (rs.map (fun r => b2n (r.1 != 0))), (rs.map (·.2.1)).foldl (· + ·) 0, (rs.map (·.2.2)).foldl (· + ·) 0)
  else
    let os := rs.map (fun r => (chainOut xout r.1, r.2))
    (codeLines (chainWidth xout) (os.map (·.1.1)),
     (os.map (fun o => o.1.2.1 + o.2.1)).foldl (· + ·) 0, (os.map (fun o => o.1.2.2 + o.2.2)).foldl (· + ·) 0)

/-- VC.PROG (R155). A slot that holds no text of its own command faults with cause ALLOT (R153). -/
def execVcProg (h : Issue) (o : VcProgOp) (s : State) : Result :=
  let n := o.ecnt + 1
  let slot := Store.get? s.data.progs (progKey h.die h.unit o.pslot)
  let p := Prog.ofLine (slot.elim 0 (·.2))
  let la := linesFor n (chainWidth o.xin)
  let lb := if p.readsB then bLines p o.xin n else 0
  let lw := if p.bitout then linesFor n 1 else linesFor n (chainWidth o.xout)
  ok (s.issueChain h 0x88 (locLines o.srca la ++ locLines o.srcb lb) (locLines o.dst lw)
    (bufKeys h o.srca la ++ bufKeys h o.srcb lb) (fun cid s =>
      if slot.elim true (fun e => e.1 != h.cslot) then s.patternErr h 0x88 1
      else
        let r := progRun p o.xin o.xout n (s.cmd cid).desc.scalars (s.locAt h o.srca la) (s.locAt h o.srcb lb)
        (s.writeLoc h o.dst r.1).counts h 3 r.2.1 r.2.2))

/-- R304. A loss write sets the slot's spike bit when its value exceeds the limit or is not finite. -/
def State.lossWrite (s : State) (h : Issue) (cid : Nat) (x : Word) : State :=
  let l := (s.cmd cid).desc.scalars.getD 7 0
  if !isNonFinite l && fLt 0 l && (isNonFinite x || fLt l x) then
    (s.orBits (if h.die = 0 then Reg.VCH_SPIKE_LATCH_DIE0 else Reg.VCH_SPIKE_LATCH_DIE1) (2 ^ h.cslot)).inc
      Reg.VCH_DS_SPIKES_SPIKES 1
  else s

/-- R304. Whether a reduction is a loss write: SUM of one row into the first line of the allotment of a TRAIN command. -/
def State.isLoss (s : State) (h : Issue) (cid : Nat) (o : VcRedOp) : Bool :=
  (s.cmd cid).desc.kind == 2 && o.op == 0 && o.rows == 0 && !isBuf o.dst &&
    (match Store.get? s.data.slots (slotKey h.die h.cslot) with
     | some sl => sl.first == o.dst % 2 ^ 21
     | none => false)

/-- VC.RED (R156). Each row starts on a line of its own (R272). -/
def execVcRed (h : Issue) (o : VcRedOp) (s : State) : Result :=
  let n := o.ecnt + 1
  let w := chainWidth o.xin
  let k := linesFor n w
  let rows := o.rows + 1
  let lr := k * rows
  let lw := linesFor rows 32
  ok (s.issueChain h 0x90 (locLines o.src lr) (locLines o.dst lw) (bufKeys h o.src lr) (fun cid s =>
    let x := s.locAt h o.src lr
    let row (i : Nat) : Word :=
      let y := x / 2 ^ (2048 * k * i)
      reduceRow o.op o.xin ((List.range n).map (fun j => chainIn o.xin (elem y w j)))
    let rs := (List.range rows).map row
    let nf := if o.op ≥ 4 then 0 else (rs.filter isNonFinite).length
    let s := (s.writeLoc h o.dst (codeLines 32 (rs.map (·.toNat)))).counts h 3 0 nf
    if s.isLoss h cid o then s.lossWrite h cid (rs.getD 0 0) else s))

/-- R157, R271. The elements of one row of VC.SMAX with their mask bits. -/
def smRow (x mask n k mk : Nat) (msk : Bool) (i : Nat) : List (Word × Bool) :=
  let y := x / 2 ^ (2048 * k * i)
  let m := mask / 2 ^ (2048 * mk * i)
  (List.range n).map (fun j => (BitVec.ofNat 32 (elem y 32 j), !msk || bit m j))

/-- VC.SMAX (R157, R277 to R283). -/
def execVcSmax (h : Issue) (o : VcSmaxOp) (s : State) : Result :=
  let n := o.ecnt + 1
  let rows := o.rows + 1
  let k := linesFor n 32
  let mk := if o.msk = 1 then linesFor n 1 else 0
  let stl := linesFor rows 128
  let srcs := range o.src (rows * k + (if o.mode = 2 then 0 else rows * mk))
  let reads := srcs ++ (if o.mode = 0 then [] else range o.state stl)
  let writes := range o.dst (rows * k) ++ (if o.mode = 2 then [] else range o.state stl)
  ok (s.issue h 0x98 reads writes (fun _ s =>
    let x := s.linesAt o.src (rows * k)
    let mask := s.linesAt (o.src + rows * k) (rows * mk)
    let old := s.linesAt o.state stl
    let st (i : Nat) : SmState := SmState.ofRecord (bits old (128 * i) 128)
    let row (i : Nat) : List Word × SmState :=
      let xs := smRow x mask n k mk (o.msk == 1) i
      match o.mode with
      | 0 => smOneshot xs
      | 1 => smChunk xs (st i)
      | _ => (xs.map (fun e => smOut (st i) e.1), st i)
    let rs := (List.range rows).map row
    let nf := (rs.map (fun r => (r.1.filter isNonFinite).length)).foldl (· + ·) 0
    let s := (s.writeLines o.dst (rs.flatMap (fun r => codeLines 32 (r.1.map (·.toNat))))).counts h 3 0 nf
    let s := if o.mode = 2 then s else s.writeLines o.state (codeLines 128 (rs.map (fun r => r.2.record)))
    if o.mode = 1 then s
    else
      let cnt (p : SmState → Bool) : Nat := (rs.filter (fun r => p r.2)).length
      ((s.inc Reg.VCH_SMAX_EMPTY_EMPTY (cnt (·.empty))).inc Reg.VCH_SMAX_INF_ROWS_INF_ROWS (cnt (·.inf))).inc
        Reg.VCH_SMAX_NAN_ROWS_NAN_ROWS (cnt (·.nan))))

/-- VC.CMP (R158, R285): the count line, the packed elements, and zeros to the end of the dense extent. -/
def execVcCmp (h : Issue) (o : VcCmpOp) (s : State) : Result :=
  let n := o.ecnt + 1
  let w := chainWidth o.xfmt
  let k := linesFor n w
  let mk := linesFor n 1
  ok (s.issue h 0xA0 (range o.src k ++ range o.mask mk) (range o.dst (1 + k)) (fun _ s =>
    let mask := bits (s.linesAt o.mask mk) 0 n
    let xs := compressElems (elemsOf (s.linesAt o.src k) w n) mask
    let f := (Fmt.ofCode o.xfmt).getD .fp32
    let nf := if o.xfmt = 3 then 0 else (xs.filter f.writesNonFinite).length
    (s.writeLines o.dst (BitVec.ofNat 2048 (popCount mask n) :: natLines (packElems w xs) k)).counts h 3 0 nf))

/-- VC.EXP (R158). A count that differs from the mask's population raises MASK. -/
def execVcExp (h : Issue) (o : VcCmpOp) (s : State) : Result :=
  let n := o.ecnt + 1
  let w := chainWidth o.xfmt
  let k := linesFor n w
  let mk := linesFor n 1
  let mask := bits (s.linesAt o.mask mk) 0 n
  let m := popCount mask n
  let pk := linesFor m w
  ok (s.issue h 0xA1 (range o.src (1 + pk) ++ range o.mask mk) (range o.dst k) (fun _ s =>
    if bits (s.line o.src).toNat 0 32 ≠ m then s.patternErr h 0xA1 9
    else
      let xs := expandElems mask n 0 (elemsOf (s.linesAt (o.src + 1) pk) w m)
      let f := (Fmt.ofCode o.xfmt).getD .fp32
      let nf := if o.xfmt = 3 then 0 else (xs.filter f.writesNonFinite).length
      (s.writeLines o.dst (codeLines w xs)).counts h 3 0 nf))

/-- R316. Whether a value of DIST `d` counts as non-finite when written: FP32 values only. -/
def distNf (d : Nat) (ws : List Word) : Nat := if d = 0 then 0 else (ws.filter isNonFinite).length

/-- R159. Draw `k` values for each token slot of the entries in order; entries whose context block is gone, and slots
beyond TOK_TOTAL, receive zeros. -/
def State.drawEntries (cid base dist k : Nat) : List RosterEntry → State → List Word × State
  | [], s => ([], s)
  | e :: t, s =>
    let n := (e.tokCount + 1) * k
    let r :=
      if s.hasCtx e.fn then
        let key := e.fn * 16 + (base + e.rngStream) % 16
        let d := Stream.values dist n (s.workStream cid key)
        (d.1, s.keepStream cid key d.2)
      else (List.replicate n 0, s)
    let q := State.drawEntries cid base dist k t r.2
    (r.1 ++ q.1, q.2)

/-- R60. TOK_CAP of the running step's template, or the tokens of the roster when no step runs. -/
def State.tokCap (s : State) (r : Roster) : Nat :=
  match s.seq.step with
  | none => r.tokTotal
  | some st => (s.seq.templates.find? (fun t => t.id == st.template)).elim r.tokTotal (·.tokCap)

/-- VC.RNG (R159, R316). -/
def execVcRng (h : Issue) (o : VcRngOp) (s : State) : Result :=
  let k := o.ecnt + 1
  if o.rsel / 16 = 0 then
    let lw := linesFor k 32
    ok (s.issueChain h 0xA8 [] (locLines o.dst lw) [] (fun cid s =>
      let key := s.cmdFn cid * 16 + o.rsel % 16
      let d := Stream.values o.dist k (s.workStream cid key)
      ((s.keepStream cid key d.2).writeLoc h o.dst (codeLines 32 (d.1.map (·.toNat)))).counts h 3 0 (distNf o.dist d.1)))
  else
    let r := s.rosterAt o.roster
    let total := s.tokCap r * k
    let lw := linesFor total 32
    ok (s.issueChain h 0xA8 (s.rosterRange o.roster) (locLines o.dst lw) [] (fun cid s =>
      let d := State.drawEntries cid (o.rsel % 16) o.dist k r.entries s
      let vs := (d.1 ++ List.replicate (total - d.1.length) 0).take total
      (d.2.writeLoc h o.dst (codeLines 32 (vs.map (·.toNat)))).counts h 3 0 (distNf o.dist vs)))

end Sys2Proof.Machine
end

