-- ==== Sys2Proof/Machine/Matrix.lean ====
section
/-!
DEFINITION. The MATRIX stage: stationary tiles and broadcasts (R146, R208 to R210), runs with motif segments (R147, R149,
R216, R240 to R244), output-stationary gradients (R151, R217), drains (R150, R245), and the slot streamer (R237).
-/

namespace Sys2Proof.Machine

/-- Array `u` of a die. -/
def State.array (s : State) (h : Issue) : ArrayUnit := Store.getD s.data.arrays (h.die * 8 + h.unit) ArrayUnit.empty

/-- Record an array. -/
def State.setArray (s : State) (h : Issue) (a : ArrayUnit) : State :=
  { s with data := { s.data with arrays := Store.put s.data.arrays (h.die * 8 + h.unit) a } }

/-- MX.LDW (R146): the shadow buffer takes the tile and its parameters. It shows READY at once (assumption 10). -/
def execMxLdw (h : Issue) (o : MxLdwOp) (s : State) : Result :=
  match Fmt.ofCode o.wfmt, Fmt.ofCode o.scfmt, Fmt.ofCode o.ascfmt with
  | some wf, some sc, some asc =>
    let n := (blockDims wf sc (groupSize o.group) 65536).total
    ok (s.issue h 0x40 (range o.src n) [] (fun _ s =>
      let t : Tile := ⟨wf, o.group, sc, asc, o.qmode == 1, s.linesAt o.src n⟩
      s.setArray h { s.array h with shadow := some (h.cslot, t) }))
  | _, _, _ => ok s

/-- R240. An entry of a segment table. -/
structure SegEntry where
  slot : Nat
  target : Nat
  rows : Nat
  last : Bool
  pad : Bool
  tooMany : Bool
  deriving DecidableEq, Repr

/-- R240. The entry that 8 bytes spell. -/
def SegEntry.ofNat (x : Nat) : SegEntry := ⟨bits x 0 8, bits x 8 8, bits x 16 12, bit x 28, bit x 29, bit x 30⟩

/-- R240. The number of an entry. -/
def SegEntry.toNat (e : SegEntry) : Nat :=
  e.slot + 2 ^ 8 * e.target + 2 ^ 16 * e.rows + 2 ^ 28 * b2n e.last + 2 ^ 29 * b2n e.pad + 2 ^ 30 * b2n e.tooMany

/-- R240. Entries up to and including the one marked LAST. -/
def uptoLast : List SegEntry → List SegEntry
  | [] => []
  | e :: t => if e.last then [e] else e :: uptoLast t

/-- R240. The segment table at two skein lines. -/
def State.segTable (s : State) (a : Nat) : List SegEntry :=
  let x := s.linesAt a 2
  uptoLast ((List.range 64).map (fun i => SegEntry.ofNat (elem x 64 i)))

/-- R234. Whether a bound motif holds a target. -/
def HotSlot.holds (r : HotSlot) (t : Nat) : Bool := r.targets.toNat.testBit t

/-- A segment of a run as it executes: its rows, and the motif whose tiles drive it (`none`: a null segment). -/
structure Seg where
  rows : Nat
  slot : Nat
  target : Nat
  motif : Option HotSlot
  deriving DecidableEq, Repr

/-- R242. The segments that a table gives for `n` rows: `none` where it raises SEGT. -/
def State.segments (s : State) (tbl : List SegEntry) (n : Nat) : Option (List Seg) :=
  let live := tbl.filter (fun e => e.rows != 0)
  let sum := (tbl.map (·.rows)).foldl (· + ·) 0
  let pad := tbl.any (·.pad)
  let badSlot (e : SegEntry) : Bool :=
    e.slot != 0 && (match Store.get? s.data.hotSlots e.slot with
      | none => true
      | some r => r.state == 0 || r.rank > (s.model r.model).params.rankLimit)
  if tbl.any (·.tooMany) || live.any badSlot || (!pad && sum != n) || (pad && sum > n) then none
  else
    let seg (e : SegEntry) : Seg :=
      ⟨e.rows, e.slot, e.target, if e.slot = 0 then none else
        (Store.get? s.data.hotSlots e.slot).bind (fun r => if r.holds e.target then some r else none)⟩
    some (live.map seg ++ (if sum < n then [⟨n - sum, 0, 0, none⟩] else []))

/-- R242. Entries whose motif does not hold the target. -/
def nullCount (l : List Seg) : Nat := (l.filter (fun g => g.slot != 0 && g.motif.isNone)).length

/-- R239. Whether every motif segment's area was streamed for this command slot and target. -/
def State.areasOk (s : State) (h : Issue) (l : List Seg) : Bool :=
  l.all (fun g => g.motif.isNone || (match Store.get? s.data.hotAreas (h.die * 256 + g.slot) with
    | some a => a.cslot == h.cslot && a.target == g.target
    | none => false))

/-- R35, R239. Whether a stream for this slot is still to run: a motif instruction that reads its area holds. -/
def State.streamPending (s : State) (h : Issue) : Bool :=
  s.data.streams.any (fun r => r.die == h.die && r.cslot == h.cslot)

/-- R227. The tile of a segment's area: `second` chooses the B tiles. KT is the target's K / 256. -/
def State.motifTile (s : State) (h : Issue) (g : Seg) (second : Bool) (index pass : Nat) : Nat :=
  match g.motif, Store.get? s.data.hotAreas (h.die * 256 + g.slot) with
  | some r, some a =>
    let w := rankClass r.rank
    let p := rankPasses r.rank
    let kt := ((s.model r.model).params.targets.getD g.target (0, 0)).1 / 256
    linesNat (slice a.lines (((if second then kt * p else 0) + index * p + pass) * 2 * w) (2 * w))
  | _, _ => 0

/-- Pair each row of a run, from row 0, with its segment. -/
def rowSegs : List Seg → List Seg
  | [] => []
  | g :: t => List.replicate g.rows g ++ rowSegs t

/-- R130. A row of an accumulator that another slot wrote. -/
def foreign (h : Issue) (l : List (Nat × (Nat × Nat))) (rows : List Nat) : Bool :=
  rows.any (fun r => match Store.get? l r with | some e => e.1 != h.cslot | none => false)

/-- R130. A rank row that another slot wrote. -/
def foreignRank (h : Issue) (l : List (Nat × (Nat × Bool × Nat))) (rows : List Nat) : Bool :=
  rows.any (fun r => match Store.get? l r with | some e => e.1 != h.cslot | none => false)

/-- R147, R244. A rank row whose columns of one pass start from +0.0. -/
def clearPass (pass row : Nat) : Nat :=
  row - bits row (2048 * pass) 2048 * 2 ^ (2048 * pass)

/-- The tile that a read of empty cells gives: zeros (R130). -/
def zeroTile (f : Fmt) : Tile := ⟨f, 0, .fp32, .fp32, false, 0⟩

/-- R208. The tile a run uses: the shadow's, which it broadcasts, or the cells'. -/
def ArrayUnit.use (a : ArrayUnit) (f : Fmt) : Nat × Tile × Bool :=
  match a.shadow with
  | some (o, t) => (o, t, true)
  | none => match a.cells with
    | some (o, t) => (o, t, false)
    | none => (16, zeroTile f, false)

/-- R219. Products of one activation row with the tile that have a zero operand and no non-finite one. -/
def gatedRow (t : Tile) (a : ActBlock) (i : Nat) : Nat :=
  let fin (v : Val) : Bool := match v with | .fin _ _ _ => true | _ => false
  let zero (v : Val) : Bool := match v with | .fin _ m _ => m == 0 | _ => false
  ((List.range 256).map (fun k =>
    let x := a.elem t i k
    ((List.range 256).filter (fun n =>
      let w := t.elem k n
      fin w && fin x && (zero w || zero x))).length)).foldl (· + ·) 0

/-- R219. Count gated products while zero-detect gating is enabled. -/
def State.gate (s : State) (n : Nat) : State :=
  if s.reg Reg.MXA_CTRL_ZERO_GATE_EN = 0 then s
  else
    let g := s.data.gated + n
    let v := g / 65536
    ({ s with data := { s.data with gated := g } }.set Reg.MXA_GATED_LO_GATED_LO v).set Reg.MXA_GATED_HI_GATED_HI
      (v / 2 ^ 32)

/-- R147, R199, R216. The accumulator after a run's rows. -/
def runAcc (tr : Bool) (h : Issue) (t : Tile) (a : ActBlock) (accIn : Bool) (accb n : Nat)
    (acc : List (Nat × (Nat × Nat))) : List (Nat × (Nat × Nat)) :=
  (List.range n).foldl (fun l i =>
    let old := if accIn then (Store.getD acc (accb + i) (h.cslot, 0)).2 else 0
    Store.put l (accb + i) (h.cslot, runRow tr t a i old)) acc

/-- R244. The rank accumulator after a run's rows. -/
def State.runRank (s : State) (tr : Bool) (h : Issue) (t : Tile) (a : ActBlock) (o : MxRunOp) (segs : List Seg)
    (rank : List (Nat × (Nat × Bool × Nat))) : List (Nat × (Nat × Bool × Nat)) :=
  ((rowSegs segs).zipIdx).foldl (fun l gi =>
    match gi.1.motif with
    | none => l
    | some r =>
      if r.rank ≤ 64 * o.pass then l
      else
        let i := gi.2
        let old := (Store.getD rank (o.accb + i) (h.cslot, tr, 0)).2.2
        let start := if o.accIn = 1 then old else clearPass o.pass old
        let xs := (List.range 256).map (motifIn t a i)
        Store.put l (o.accb + i)
          (h.cslot, tr, rankRow tr r.rank o.pass xs (s.motifTile h gi.1 tr o.kt o.pass) start)) rank

/-- R148. Segments that run at a pass, with their rates. -/
def segRates (base pass : Nat) (segs : List Seg) : List (Nat × Nat) :=
  (segs.filter (fun g => pass == 0 || g.motif.elim false (fun r => r.rank > 64 * pass))).map (fun g =>
    (g.rows, match g.motif with
      | none => base
      | some r => if pass = 0 then min base (motifRate (rankClass (min r.rank 64))) else motifRate (rankClass (min r.rank 64))))

/-- R147 to R149, R208, R216, R242, R244. MX.RUN and, with `tr`, MX.RUNT. -/
def State.run (s : State) (tr : Bool) (op : Nat) (h : Issue) (o : MxRunOp) : State :=
  match Fmt.ofCode o.afmt, Fmt.ofCode o.wfmt with
  | some af, some wf =>
    let u := (s.array h).use wf
    let n := o.rows + 1
    let rows := range o.accb n
    let motif := o.motif == 1
    s.issue h op (range o.act (ActBlock.lines af n u.2.1) ++ (if motif then range o.segt 2 else [])) [] (fun _ s =>
      let a := s.array h
      let base := pairRate u.2.1.wfmt af
      if (u.1 != 16 && u.1 != h.cslot) || (o.accIn == 1 && o.pass == 0 && foreign h a.acc rows) ||
          (motif && foreignRank h a.rank rows) then s.patternErr h op 1
      else if u.1 ≠ 16 ∧ u.2.1.wfmt ≠ wf then s.patternErr h op 2
      else
        match if motif then s.segments (s.segTable o.segt) n else some [⟨n, 0, 0, none⟩] with
        | none => s.patternErr h op 8
        | some segs =>
          if motif && s.streamPending h then s
          else if motif && !s.areasOk h segs then s.patternErr h op 1
          else
            let act : ActBlock := ⟨af, n, s.linesAt o.act (ActBlock.lines af n u.2.1)⟩
            let rates := segRates base o.pass segs
            let s := s.inc2 Reg.MXA_ACTIVE_LO_ACTIVE_LO Reg.MXA_ACTIVE_HI_ACTIVE_HI (runTime (b2n u.2.2) rates)
            let s := (s.inc Reg.MXA_BCAST_BCAST (b2n u.2.2)).inc Reg.MXA_SEG_SWITCH_SWITCHES (rates.length - 1)
            let s := s.inc Reg.MTF_NULL_SEG_NULLS (nullCount segs)
            let s := if o.pass = 0 then
                s.gate (((List.range n).map (gatedRow u.2.1 act)).foldl (· + ·) 0) else s
            s.setArray h
              { a with
                shadow := if u.2.2 then none else a.shadow
                cells := if u.2.2 then some (h.cslot, u.2.1) else a.cells
                acc := if o.pass = 0 then runAcc tr h u.2.1 act (o.accIn == 1) o.accb n a.acc else a.acc
                rank := if motif then s.runRank tr h u.2.1 act o segs a.rank else a.rank
                wgrad := if motif then none else a.wgrad
                ramp := false })
  | _, _ => s

/-- MX.RUN (R147). -/
def execMxRun (h : Issue) (o : MxRunOp) (s : State) : Result := ok (s.run false 0x41 h o)

/-- MX.RUNT (R149). -/
def execMxRunt (h : Issue) (o : MxRunOp) (s : State) : Result := ok (s.run true 0x42 h o)

/-- R151. Lines of one token row of each input of MX.WGRAD. -/
def wgradLines (mode : Nat) : Nat × Nat := if mode = 0 then (2, 1) else (1, 2)

/-- MX.WGRAD (R151, R217). -/
def execMxWgrad (h : Issue) (o : MxWgradOp) (s : State) : Result :=
  let n := o.rows + 1
  let k := o.rank + 1
  let l := wgradLines o.mode
  let dims : Nat × Nat := if o.mode = 0 then (256, k) else (k, 256)
  let out := linesFor (dims.1 * dims.2) 32
  ok (s.issue h 0x43 (range o.in1 (n * l.1) ++ range o.in2 (n * l.2)) (if o.drain = 1 then range o.dst out else [])
    (fun _ s =>
      let a := s.array h
      let x1 := s.linesAt o.in1 (n * l.1)
      let x2 := s.linesAt o.in2 (n * l.2)
      let toks := (List.range n).map (fun i => (bits x1 (2048 * l.1 * i) (2048 * l.1), bits x2 (2048 * l.2 * i) (2048 * l.2)))
      let old : List (Nat × Word) := match a.wgrad with
        | some (w, c) => if w = h.cslot then c else []
        | none => []
      if o.accIn == 1 && a.wgrad.elim false (fun w => w.1 != h.cslot) then s.patternErr h 0x43 1
      else
        let cells := (List.range (dims.1 * dims.2)).map (fun j =>
          (j, wgradCell toks (j / dims.2) (j % dims.2) (if o.accIn = 1 then Store.getD old j 0 else 0)))
        let s := s.setArray h { a with wgrad := if o.drain = 1 then none else some (h.cslot, cells), ramp := false }
        let s := s.inc2 Reg.MXA_ACTIVE_LO_ACTIVE_LO Reg.MXA_ACTIVE_HI_ACTIVE_HI (n + (if o.drain = 1 then k else 0))
        if o.drain = 1 then
          (s.writeLines o.dst (codeLines 32 (cells.map (·.2.toNat)))).counts h 1 0
            (cells.filter (fun c => isNonFinite c.2)).length
        else s))

/-- R150. The rank limit that fixes a drain's RANKOUT lines: that of the base model of the command's step, or the greatest
of the models its segments name. -/
def State.rankLimit (s : State) (segs : List Seg) : Nat :=
  match s.seq.step with
  | some st => (s.model st.model).params.rankLimit
  | none => (segs.map (fun g => g.motif.elim 0 (fun r => (s.model r.model).params.rankLimit))).foldl max 0

/-- R245. The partial row of accumulator row `i` of a segment. -/
def State.partialRow (s : State) (h : Issue) (tr : Bool) (nt : Nat) (g : Seg) (rank : Nat) : Nat :=
  match g.motif with
  | none => nullPartial
  | some r => upRow tr r.rank rank ((List.range (rankPasses r.rank)).map (s.motifTile h g (!tr) nt))

/-- MX.DRAIN (R150, R245): base rows, then partial rows, then rank rows. -/
def execMxDrain (h : Issue) (o : MxDrainOp) (s : State) : Result :=
  let n := o.rows + 1
  let rows := range o.accb n
  let motif := o.motif == 1
  let segs? := if motif then s.segments (s.segTable o.segt) n else some [⟨n, 0, 0, none⟩]
  let p := ceilDiv (s.rankLimit (segs?.getD [])) 64
  let total := 4 * n + (if motif then 4 * n else 0) + (if o.rankout = 1 then n * p else 0)
  ok (s.issue h 0x44 (if motif then range o.segt 2 else []) (range o.dst total) (fun _ s =>
    let a := s.array h
    if foreign h a.acc rows || ((motif || o.rankout == 1) && foreignRank h a.rank rows) then s.patternErr h 0x44 1
    else
      match segs? with
      | none => s.patternErr h 0x44 8
      | some segs =>
        if motif && s.streamPending h then s
        else if motif && !s.areasOk h segs then s.patternErr h 0x44 1
        else
          let acc (r : Nat) : Nat := (Store.getD a.acc r (h.cslot, 0)).2
          let rk (r : Nat) : Nat × Bool × Nat := Store.getD a.rank r (h.cslot, false, 0)
          let base := rows.flatMap (fun r => natLines (acc r) 4)
          let parts := if motif then
              ((rowSegs segs).zip rows).flatMap (fun gr => natLines (s.partialRow h (rk gr.2).2.1 o.nt gr.1 (rk gr.2).2.2) 4)
            else []
          let ranks := if o.rankout = 1 then rows.flatMap (fun r => natLines (rk r).2.2 p) else []
          let all := base ++ parts ++ ranks
          let s := s.inc Reg.MTF_NULL_SEG_NULLS (nullCount segs)
          (s.writeLines o.dst all).counts h 1 0
            (all.map (fun d => nonFinites d.toNat 64)).sum))

/-- R226, R227. Where a motif tensor's directory puts a target's data: offset and length in lines. -/
def State.motifData (s : State) (r : HotSlot) (target : Nat) : Nat × Nat :=
  let d := (lineOfBytes (Memory.readBytes s.tier.near (256 * r.line + 256 + 16 * target) 16)).toNat
  (bits d 64 32, bits d 96 32)

/-- R237. Stream every motif target of one table into its area. -/
def State.streamTable (s : State) (r : StreamReq) : State :=
  let live := (s.segTable r.table).filter (fun e => e.slot != 0 && e.rows != 0)
  live.foldl (fun s e =>
    match Store.get? s.data.hotSlots e.slot with
    | none => s
    | some m =>
      if m.state = 0 ∨ !m.holds e.target then s
      else
        let d := s.motifData m e.target
        let l := (range (m.line + d.1) d.2).map s.nearLine
        let s := { s with data := { s.data with
          hotAreas := Store.put s.data.hotAreas (r.die * 256 + e.slot) ⟨r.cslot, e.target, l⟩ } }
        s.inc2 Reg.MTF_STREAM_LO_LINES_LO Reg.MTF_STREAM_HI_LINES_HI d.2) s

/-- R237. SLOT_STREAM: a die's streamer copies the targets of the table it was given first. -/
def execSlotStream (o : StreamOp) (s : State) : Result :=
  match o.direct with
  | some (cslot, table) => ok (s.streamTable ⟨o.die, cslot, table⟩)
  | none =>
    match s.data.streams.find? (fun r => r.die == o.die) with
    | none => ok s
    | some r => ok ({ s with data := { s.data with streams := s.data.streams.erase r } }.streamTable r)

end Sys2Proof.Machine
end

