-- ==== Sys2Proof/Machine/Charges.lean ====
section
/-!
DEFINITION. What the timing check charges each instruction of a template (R131, R132, R135, R148, R173, R236 to R238, R625,
R626): the lines it reads and writes, the resource it holds and for how long, its result cycle, its near-tier and link
bytes. Skein lines and unit-local storage share one range of numbers.
-/

namespace Sys2Proof.Machine

/-- R55. The core clock of a level, in MHz. -/
def mhz (l : Nat) : Nat := [2000, 1850, 1700, 1550, 1400, 1200, 1050, 900].getD l 900

/-- A quantity of `num / den` cycles a nanosecond's worth, rounded up: cycles of `ns` nanoseconds at level `l`. -/
def nsCycles (l ns : Nat) : Nat := ceilDiv (ns * mhz l) 1000

/-- R135. Cycles that `bytes` take at `rate` bytes per ns. -/
def rateCycles (l bytes rate : Nat) : Nat := ceilDiv (bytes * mhz l) (1000 * rate)

/-! ### Numbers of unit-local storage -/

/-- Accumulator row `r` of array `a` (die × 8 + unit). -/
def accAddr (a r : Nat) : Nat := 0x1000000 + a * 2048 + r

/-- Rank-accumulator row `r` of array `a` in pass `p`. -/
def rankAddr (a p r : Nat) : Nat := 0x2000000 + (a * 4 + p) * 2048 + r

/-- Tile-buffer line. -/
def tbufAddr (key : Nat) : Nat := 0x4000000 + key

/-- Element-program slot. -/
def progAddr (key : Nat) : Nat := 0x5000000 + key

/-- Whether a number names a skein line. -/
def isSkein (a : Nat) : Bool := a < 0x200000

/-! ### What is charged -/

/-- What one instruction is charged: reads as first, count and lines per cycle (0: no skein port); reads that only order
two writes; writes and their port rate; the resource of its unit (3: none), its unit time, the cycles from the end of
that to its result; near-tier bytes and bytes sent on a link. -/
structure Charge where
  reads : List (Nat × Nat × Nat)
  order : List (Nat × Nat)
  writes : List (Nat × Nat)
  wrate : Nat
  res : Nat
  unit : Nat
  lat : Nat
  near : Nat
  sent : Nat
  deriving DecidableEq, Repr

/-- The charge of an instruction that holds resource `res` for `unit` cycles and touches nothing. -/
def Charge.plain (res unit : Nat) : Charge := ⟨[], [], [], 1, res, unit, 0, 0, 0⟩

/-- An instruction of a template in its row, with the index of its command in the command table; `good` when its word
decodes and its STAGE is that of its stream. -/
structure Placed where
  row : Nat
  h : Issue
  i : Instr
  good : Bool
  cmd : Option Nat
  deriving DecidableEq, Repr

/-- The opcode of a placed instruction. -/
def Placed.op (p : Placed) : Nat := (trolumParts p.i).elim 0 (fun x => x.2.1)

/-- The array of a MATRIX instruction. -/
def Placed.arr (p : Placed) : Nat := p.h.die * 8 + p.h.unit

/-- A placed instruction with its charge; `dies` apart, `start` is its start cycle and `cell` what it does to a motif
pair: whether a run broadcasts, and whether it uses the pair. -/
structure Charged where
  p : Placed
  c : Charge
  bcast : Bool
  rate : Nat
  deriving DecidableEq, Repr

/-- The cycle after the last of its unit time. -/
def Charged.busy (x : Charged) : Nat := x.p.h.start + x.c.unit

/-- R173. The result cycle. -/
def Charged.done (x : Charged) : Nat := x.p.h.start + x.c.unit + x.c.lat

/-- What the check knows of the base model and the template: level, KV_LPT, rank limit, targets, TOK_CAP, commands, and
the lines of each command's code object. -/
structure CheckEnv where
  level : Nat
  lpt : Nat
  rankLimit : Nat
  targets : List (Nat × Nat)
  tokCap : Nat
  cmds : List TemplateCmd
  code : List (Option (List LineData))
  deriving DecidableEq, Repr

/-- A segment table as the check follows it: its command and line, its entries, the cycle and row at which its stream
begins to land, and its target. -/
structure TableUse where
  cmd : Option Nat
  line : Nat
  count : Nat
  row : Nat
  lands : Nat
  target : Nat
  deriving DecidableEq, Repr

/-- A stretch of lines that a FETCH.T with SRC 2 writes: its command, first line, lines, and first line in the code
object. -/
structure TextUse where
  cmd : Option Nat
  first : Nat
  count : Nat
  offset : Nat
  deriving DecidableEq, Repr

/-- What the check carries from instruction to instruction: shadow and cells by array (command, MX.LDW), transposed rank
rows by array, arrays with an undrained gradient block, tables, texts, programs by slot (command, text), stretches other
instructions wrote since, and the cycle to which each die's streamer is busy in a row. -/
structure CheckCtx where
  shadow : List (Nat × (Option Nat × MxLdwOp))
  cells : List (Nat × (Option Nat × MxLdwOp))
  trans : List (Nat × Bool)
  grads : List Nat
  tables : List TableUse
  texts : List TextUse
  progs : List (Nat × (Option Nat × Option Prog))
  streamer : List (Nat × (Nat × Nat))
  deriving DecidableEq, Repr

/-- Nothing seen yet. -/
def CheckCtx.empty : CheckCtx := ⟨[], [], [], [], [], [], [], []⟩

/-- R145, R625. The rank class, rate and passes of the model's rank limit. -/
def CheckEnv.rate (e : CheckEnv) : Nat := motifRate (rankClass (min e.rankLimit 64))

/-- R625. Passes at the rank limit. -/
def CheckEnv.passes (e : CheckEnv) : Nat := ceilDiv e.rankLimit 64

/-- R227, R238. Lines of one kt or nt step of a stream of `n` entries at the rank limit. -/
def CheckEnv.stepLines (e : CheckEnv) (n : Nat) : Nat := n * e.passes * 2 * rankClass (min e.rankLimit 64)

/-- The line of a command's code object that a skein line holds, if a FETCH.T with SRC 2 of the command wrote it. -/
def CheckCtx.text (x : CheckCtx) (e : CheckEnv) (cmd : Option Nat) (line : Nat) : Option (Option LineData) :=
  (x.texts.find? (fun t => t.cmd == cmd && t.first ≤ line && line < t.first + t.count)).map (fun t =>
    (((cmd.bind (fun c => e.code[c]?)).getD none).bind (fun l => l[t.offset + (line - t.first)]?)))

/-- R625. The segment table at a line for a command: one that an MG.SEGT writes, or that the code object carries. -/
def CheckCtx.table (x : CheckCtx) (e : CheckEnv) (cmd : Option Nat) (line : Nat) : Option TableUse :=
  match x.tables.find? (fun t => t.cmd == cmd && t.line == line) with
  | some t => some t
  | none =>
    match x.text e cmd line, x.text e cmd (line + 1) with
    | some a, some b =>
      let n := a.elim 0 (·.toNat) + 2 ^ 2048 * b.elim 0 (·.toNat)
      some ⟨cmd, line, (uptoLast ((List.range 64).map (fun i => SegEntry.ofNat (bits n (64 * i) 64)))).length, 0, 0, 0⟩
    | _, _ => none

/-- The instruction reads a locator of `n` lines at a rate. -/
def readLoc (h : Issue) (loc n rate : Nat) : List (Nat × Nat × Nat) :=
  if isBuf loc then [(tbufAddr (tbufKey h.die h.unit (bits loc 10 2) (bits loc 0 10)), n, 0)] else [(loc % 2 ^ 21, n, rate)]

/-- The instruction writes a locator of `n` lines. -/
def writeLocs (h : Issue) (loc n : Nat) : List (Nat × Nat) := (readLoc h loc n 0).map (fun r => (r.1, r.2.1))

/-- R155. The lane rate: `src` the element bits of the skein sources in all, `dst` those of a skein destination. -/
def laneRate (src dst : Nat) : Nat :=
  min 1024 (min (if src = 0 then 1024 else 8192 / src) (if dst = 0 then 1024 else 8192 / dst))

/-- R139, R173. The transfer time of a fetch of `n` lines. -/
def fetchTime (e : CheckEnv) (n bytes rate : Nat) : Nat :=
  max (ceilDiv n 2) (rateCycles e.level bytes (max 1 (1024 / 2 ^ rate)))

/-- R135. The near tier's latency in cycles. -/
def CheckEnv.tLat (e : CheckEnv) : Nat := nsCycles e.level 200

/-- R146, R210. The tile of an MX.LDW as the check sizes it. -/
def MxLdwOp.tile (o : MxLdwOp) : Tile :=
  ⟨(Fmt.ofCode o.wfmt).getD .fp32, o.group, (Fmt.ofCode o.scfmt).getD .fp32, (Fmt.ofCode o.ascfmt).getD .fp32, o.qmode == 1, 0⟩

/-- R148, R625. The unit time charged to a run of `n` rows: `b` 1 when it broadcasts, base rate `r`, its table's entries. -/
def CheckEnv.runUnit (e : CheckEnv) (b n r pass : Nat) (entries : Option Nat) : Nat :=
  match entries with
  | none => b + ceilDiv n r
  | some c =>
    let s := min n (c + 1)
    let r := if pass = 0 then min r e.rate else e.rate
    b + (s - 1) + ceilDiv (n - s + 1) r + (s - 1)

/-- R150, R625. The unit time charged to a drain of `n` rows. -/
def CheckEnv.drainUnit (e : CheckEnv) (n : Nat) (entries : Option Nat) (rankout : Bool) : Nat :=
  let extra := if rankout then n * e.passes else 0
  match entries with
  | none => n + extra
  | some c =>
    let s := min n c
    let u := e.passes * ((s - 1) + ceilDiv (n - s + 1) e.rate) + (s - 1)
    max n u + n + extra

/-- R173. The charge of a run, its broadcast and its base rate. -/
def runCharge (e : CheckEnv) (x : CheckCtx) (p : Placed) (o : MxRunOp) : Charge × Bool × Nat :=
  let b := (Store.get? x.shadow p.arr).isSome
  let t := ((match Store.get? x.shadow p.arr with | some y => some y | none => Store.get? x.cells p.arr).elim
    (⟨0, o.wfmt, 0, 0, 0, 0⟩ : MxLdwOp) (·.2)).tile
  let af := (Fmt.ofCode o.afmt).getD .fp32
  let n := o.rows + 1
  let d := blockDims af t.ascfmt (if t.group = 0 then 0 else t.g) (n * 256)
  let r := max 1 (pairRate t.wfmt af)
  let motif := o.motif == 1
  let entries := if motif then some ((x.table e p.cmd o.segt).elim 1 (·.count)) else none
  let acc := (accAddr p.arr o.accb, n)
  let rank := (rankAddr p.arr o.pass o.accb, n)
  ({ reads := [(o.act, d.data, 4), (o.act + d.data, d.scale + d.zero, 1)] ++ (if motif then [(o.segt, 2, 1)] else [])
     order := if o.accIn = 1 then (if o.pass = 0 then [acc] else []) ++ (if motif then [rank] else []) else []
     writes := (if o.pass = 0 then [acc] else []) ++ (if motif then [rank] else [])
     wrate := 4
     res := 1
     unit := e.runUnit (b2n b) n r o.pass entries
     lat := 14
     near := 0
     sent := 0 }, b, if o.pass = 0 then r else 8)

/-- R173. The charge of a drain. -/
def drainCharge (e : CheckEnv) (x : CheckCtx) (p : Placed) (o : MxDrainOp) : Charge :=
  let n := o.rows + 1
  let motif := o.motif == 1
  let ranks := (List.range (max 1 e.passes)).map (fun k => (rankAddr p.arr k o.accb, n, 0))
  let total := 4 * n + (if motif then 4 * n else 0) + (if o.rankout = 1 then n * e.passes else 0)
  { reads := [(accAddr p.arr o.accb, n, 0)] ++ (if motif then [(o.segt, 2, 1)] else []) ++
      (if motif ∨ o.rankout = 1 then ranks else [])
    order := []
    writes := [(o.dst, total)]
    wrate := 4
    res := 2
    unit := e.drainUnit n (if motif then some ((x.table e p.cmd o.segt).elim 1 (·.count)) else none) (o.rankout == 1)
    lat := 14
    near := 0
    sent := 0 }

/-- R155, R268, R276. The charge of VC.PROG with program `g`. -/
def progCharge (p : Placed) (o : VcProgOp) (g : Prog) : Charge :=
  let n := o.ecnt + 1
  let w := chainWidth o.xin
  let la := linesFor n w
  let lb := if g.readsB then bLines g o.xin n else 0
  let lw := if g.bitout then linesFor n 1 else linesFor n (chainWidth o.xout)
  let side := g.bmode != 0
  let src := (if isBuf o.srca then 0 else w) + (if g.readsB && !side && !isBuf o.srcb then w else 0)
  let dst := if isBuf o.dst then 0 else if g.bitout then 1 else chainWidth o.xout
  { Charge.plain 1 (g.passes * ceilDiv n (laneRate src dst)) with
    reads := readLoc p.h o.srca la 4 ++ (if lb = 0 then [] else readLoc p.h o.srcb lb (if side then 1 else 4)) ++
      [(progAddr (progKey p.h.die p.h.unit o.pslot), 1, 0)]
    writes := writeLocs p.h o.dst lw
    wrate := 4
    lat := 14 * g.passes }

/-- R157. The charge of VC.SMAX. -/
def smaxCharge (o : VcSmaxOp) : Charge :=
  let n := o.ecnt + 1
  let rows := o.rows + 1
  let k := linesFor n 32
  let mk := if o.msk = 1 ∧ o.mode ≠ 2 then linesFor n 1 else 0
  let st := linesFor rows 128
  { Charge.plain 1 ((3 - o.mode) * ceilDiv (rows * n) 256) with
    reads := [(o.src, rows * k, 4), (o.src + rows * k, rows * mk, 1)] ++ (if o.mode = 0 then [] else [(o.state, st, 1)])
    writes := [(o.dst, rows * k)] ++ (if o.mode = 2 then [] else [(o.state, st)])
    wrate := 4
    lat := 32 }

/-- R173. The charge of one instruction. Roster reads are charged with the header line; the roster's length is known only
when a step runs. -/
def chargeOf (e : CheckEnv) (x : CheckCtx) (p : Placed) : Charge × Bool × Nat :=
  let h := p.h
  let fmtW (c : Nat) : Nat := ((Fmt.ofCode c).getD .fp32).width
  let move (n m lat : Nat) (src dst : Nat) : Charge :=
    { Charge.plain 0 (max (ceilDiv n 2) (ceilDiv m 2)) with
      reads := [(src, n, 2)], writes := [(dst, m)], wrate := 2, lat := lat }
  let fetch (o : FetchOp) : Charge :=
    let n := o.lcnt + 1
    { Charge.plain 0 (fetchTime e n (256 * n) o.rate) with
      writes := [(o.dst, n)], wrate := 2, lat := e.tLat, near := 256 * n }
  let link (n : Nat) : Nat := rateCycles e.level (256 * n) 100
  let only (c : Charge) : Charge × Bool × Nat := (c, false, 0)
  match p.i with
  | .fetchT _ o | .fetchS _ o => only (fetch o)
  | .fetchKv _ o =>
    let c := 256 * 2 ^ o.chlen
    let n := c * e.lpt + ceilDiv c 2048
    only { Charge.plain 0 (fetchTime e n (256 * c * e.lpt) o.rate + 2) with
      reads := [(o.roster, 1, 1)], writes := [(o.dst, n)], wrate := 2, lat := e.tLat, near := 256 * c * e.lpt }
  | .unpCvt _ o => only (move (linesFor (o.ecnt + 1) (fmtW o.sfmt)) (linesFor (o.ecnt + 1) (fmtW o.dfmt)) 8 o.src o.dst)
  | .unpDq _ o =>
    let d := blockDims ((Fmt.ofCode o.sfmt).getD .fp32) ((Fmt.ofCode o.scfmt).getD .fp32) (groupSize o.group) (o.ecnt + 1)
    only (move d.total (linesFor (o.ecnt + 1) (fmtW o.dfmt)) 10 o.src o.dst)
  | .unpRht _ o =>
    let n := linesFor (o.ecnt + 1) (fmtW o.fmt)
    let c := move n n 20 o.src o.dst
    only { c with reads := c.reads ++ [(o.signs, 1, 2)] }
  | .unpLay _ o =>
    let n := linesFor (o.ecnt + 1) (fmtW o.fmt)
    let m := linesFor (layMap o.op (o.rowlen + 1) (o.ecnt + 1)).length (fmtW o.fmt)
    let c := move n m 8 o.src o.dst
    only (if o.op = 0 then { c with unit := ceilDiv n 2 + ceilDiv (linesFor 65536 (fmtW o.fmt)) 2 } else c)
  | .mxLdw _ o =>
    let t := o.tile
    let n := (blockDims t.wfmt t.scfmt (groupSize o.group) 65536).total
    only { Charge.plain 0 (ceilDiv n 2) with reads := [(o.src, n, 2)], lat := 2 }
  | .mxRun _ o | .mxRunt _ o => runCharge e x p o
  | .mxWgrad _ o =>
    let n := o.rows + 1
    let k := o.rank + 1
    let l := wgradLines o.mode
    only { Charge.plain 1 (n + (if o.drain = 1 then k else 0)) with
      reads := [(o.in1, n * l.1, 4), (o.in2, n * l.2, 4)]
      writes := if o.drain = 1 then [(o.dst, linesFor (256 * k) 32)] else []
      wrate := 4
      lat := 14 }
  | .mxDrain _ o => only (drainCharge e x p o)
  | .mgAcc _ o =>
    let n := o.lcnt + 1
    only { Charge.plain 0 (ceilDiv n 2) with
      reads := [(o.srca, n, 4), (o.srcb, n, 4)], writes := [(o.dst, n)], wrate := 2, lat := 6 }
  | .mgScale _ o =>
    let n := o.rows + 1
    only { Charge.plain 0 (2 * n) with
      reads := [(o.src, 4 * n, 4), (o.vec, if o.bias = 1 then 8 else 4, 4)], writes := [(o.dst, 4 * n)], wrate := 2, lat := 6 }
  | .mgMotif _ o =>
    let n := o.rows + 1
    only { Charge.plain 0 (2 * n) with
      reads := [(o.base, 4 * n, 4), (o.mot, 4 * n, 4)], writes := [(o.dst, 4 * n)], wrate := 2, lat := 6 }
  | .mgSegt _ o =>
    only { Charge.plain 0 (9 + o.count) with reads := [(o.roster, 1, 4)], writes := [(o.dst, 2)], wrate := 2, lat := 4 }
  | .vcLdp _ o =>
    only { Charge.plain 0 4 with
      reads := [(o.src, 1, 4)], writes := [(progAddr (progKey h.die h.unit o.pslot), 1)], lat := 2 }
  | .vcLd _ o =>
    let n := o.lcnt + 1
    only { Charge.plain 0 (ceilDiv n 4) with
      reads := [(o.line, n, 4)], writes := [(tbufAddr (tbufKey h.die h.unit o.buf o.boff), n)], wrate := 4, lat := 6 }
  | .vcSt _ o =>
    let n := o.lcnt + 1
    only { Charge.plain 0 (ceilDiv n 4) with
      reads := [(tbufAddr (tbufKey h.die h.unit o.buf o.boff), n, 0)], writes := [(o.line, n)], wrate := 4, lat := 6 }
  | .vcProg _ o =>
    only (progCharge p o (((Store.get? x.progs (progKey h.die h.unit o.pslot)).bind (·.2)).getD (Prog.ofLine 0)))
  | .vcRed _ o =>
    let n := o.ecnt + 1
    let rows := o.rows + 1
    let w := chainWidth o.xin
    only { Charge.plain 1 (ceilDiv (rows * n) (laneRate (if isBuf o.src then 0 else w) 0)) with
      reads := readLoc h o.src (rows * linesFor n w) 4
      writes := writeLocs h o.dst (linesFor rows 32)
      wrate := 4
      lat := 24 }
  | .vcSmax _ o => only (smaxCharge o)
  | .vcCmp _ o | .vcExp _ o =>
    let n := o.ecnt + 1
    let w := chainWidth o.xfmt
    let k := linesFor n w
    let isExp := p.op == 0xA1
    only { Charge.plain 1 (ceilDiv n (laneRate w w) + 4) with
      reads := [(o.src, if isExp then k + 1 else k, 4), (o.mask, linesFor n 1, 1)]
      writes := [(o.dst, if isExp then k else k + 1)]
      wrate := 4
      lat := 20 }
  | .vcRng _ o =>
    let n := (o.ecnt + 1) * (if o.rsel / 16 = 0 then 1 else e.tokCap)
    only { Charge.plain 1 (ceilDiv n 256) with
      reads := if o.rsel / 16 = 0 then [] else [(o.roster, 1, 1)]
      writes := writeLocs h o.dst (linesFor n 32)
      wrate := 4
      lat := 24 }
  | .pkQ _ o | .pkSr _ o =>
    let n := o.ecnt + 1
    let d := blockDims ((Fmt.ofCode o.fmt).getD .fp32) ((Fmt.ofCode o.scfmt).getD .fp32) (groupSize o.group) n
    only { Charge.plain 0 (ceilDiv n 256) with
      reads := [(o.src, linesFor n 32, 4)], writes := [(o.dst, d.total)], wrate := 2, lat := if p.op = 0xC0 then 10 else 12 }
  | .cmTens _ o =>
    let n := o.lcnt + 1
    only { Charge.plain 0 (ceilDiv n 2) with reads := [(o.src, n, 2)], near := 256 * n }
  | .cmKv _ o =>
    let n := e.tokCap * e.lpt
    only { Charge.plain 0 (ceilDiv n 2 + o.count + 1) with
      reads := [(o.src, n, 2), (o.roster, 1, 2)], near := 256 * n }
  | .cmCtx _ o =>
    only { Charge.plain 0 (5 + o.count) with
      reads := if o.kind = 1 then [(o.roster, 1, 2), (o.src, linesFor (o.count + 1) 32, 2)]
        else if o.kind = 0 ∧ o.rsel / 16 = 1 then [(o.roster, 1, 2)] else [] }
  | .lkSend _ o =>
    let n := o.lcnt + 1
    only { Charge.plain 0 (link n) with reads := [(o.src, n, 1)], sent := 256 * n }
  | .lkRecv _ o =>
    let n := o.lcnt + 1
    if o.long = 1 then only (Charge.plain 0 1)
    else only { Charge.plain 0 n with writes := [(o.dst, n)], lat := 2, sent := if o.fwd = 1 then 256 * n else 0 }
  | .lkRed _ o =>
    let n := o.lcnt + 1
    only { Charge.plain 0 (link n) with
      reads := if o.role = 3 then [] else [(o.loc, n, 1)]
      writes := if o.role ≥ 2 then [(o.dst, n)] else []
      lat := 6
      sent := if o.role = 2 then 0 else 256 * n }
  | .xBar _ o => only { Charge.plain 3 1 with reads := [(o.line, o.lcnt + 1, 0)] }
  | .cmMark _ _ | .moveT _ _ => only (Charge.plain 0 1)
  | _ => only (Charge.plain 3 1)

/-! ### Following a template -/

/-- What an instruction leaves for those after it (R208, R210, R237, R153). -/
def CheckCtx.after (x : CheckCtx) (e : CheckEnv) (p : Placed) : CheckCtx :=
  let run (o : MxRunOp) (tr : Bool) : CheckCtx :=
    let x := match Store.get? x.shadow p.arr with
      | some t => { x with shadow := Store.erase x.shadow p.arr, cells := Store.put x.cells p.arr (p.cmd, t.2) }
      | none => x
    if o.motif = 1 then { x with trans := Store.put x.trans p.arr tr, grads := x.grads.filter (· != p.arr) } else x
  match p.i with
  | .fetchT _ o =>
    let x := { x with texts := x.texts.filter (fun t => !(t.cmd == p.cmd && overlaps (t.first, t.count) (o.dst, o.lcnt + 1))) }
    if o.src = 2 then { x with texts := ⟨p.cmd, o.dst, o.lcnt + 1, o.offset⟩ :: x.texts } else x
  | .mxLdw _ o => { x with shadow := Store.put x.shadow p.arr (p.cmd, o) }
  | .mxRun _ o => run o false
  | .mxRunt _ o => run o true
  | .mxWgrad _ o => { x with grads := if o.drain = 1 then x.grads.filter (· != p.arr) else p.arr :: x.grads.filter (· != p.arr) }
  | .mgSegt _ o =>
    let ready := p.h.start + 13 + o.count
    let kn := e.targets.getD o.target (0, 0)
    let len := e.stepLines (o.count + 1) * (kn.1 / 256 + kn.2 / 256)
    let free := match Store.get? x.streamer p.h.die with
      | some (r, c) => if r = p.row then c else 0
      | none => 0
    let lands := max (ready + e.tLat) free
    { x with
      tables := ⟨p.cmd, o.dst, o.count + 1, p.row, lands, o.target⟩ :: x.tables.filter (fun t => !(t.cmd == p.cmd && t.line == o.dst))
      streamer := Store.put x.streamer p.h.die (p.row, lands + ceilDiv len 8) }
  | .vcLdp _ o =>
    let g := ((x.text e p.cmd o.src).getD none).map Prog.ofLine
    { x with progs := Store.put x.progs (progKey p.h.die p.h.unit o.pslot) (p.cmd, g) }
  | _ => x

/-- Instructions with what the check knew before each. -/
def CheckCtx.follow (e : CheckEnv) : CheckCtx → List Placed → List (CheckCtx × Placed)
  | _, [] => []
  | x, p :: t => (x, p) :: CheckCtx.follow e (x.after e p) t

/-- R131. The charged instructions of a template in issue order. -/
def chargeAll (e : CheckEnv) (ps : List Placed) : List (CheckCtx × Charged) :=
  (CheckCtx.follow e CheckCtx.empty ps).map (fun y =>
    let c := chargeOf e y.1 y.2
    (y.1, ⟨y.2, c.1, c.2.1, c.2.2⟩))

/-- The index in the command table of the command of slot `cslot` on `die` in row `row`. -/
def cmdIndex (cmds : List TemplateCmd) (row die cslot : Nat) : Option Nat :=
  (cmds.zipIdx.find? (fun c => c.1.cslot == cslot && c.1.dies.contains die && c.1.firstRow ≤ row &&
    row < c.1.firstRow + c.1.rows)).map (·.2)

/-- The instructions of a template's rows in issue order: by row, start cycle, die, stage and place in the stream. A word
that does not decode is kept as an X.NOP that is not `good`. -/
def placedOf (rows : List RowRecord) (cmds : List TemplateCmd) : List Placed :=
  rows.zipIdx.flatMap (fun (r : RowRecord × Nat) =>
    let l := r.1.streams.zipIdx.flatMap (fun (s : List TWord × Nat) => s.1.zipIdx.map (fun (w : TWord × Nat) =>
      let h := Issue.ofWord (s.2 / 8) w.2 w.1.toNat
      let i := decodeTrolum (s.2 / 8) w.2 w.1
      (⟨r.2, h, i.getD (.xNop h), i.isSome && h.stage == s.2 % 8, cmdIndex cmds r.2 (s.2 / 8) h.cslot⟩ : Placed)))
    sortBy l (fun a b => lexLe [a.h.start, a.h.die, a.h.stage, a.h.index] [b.h.start, b.h.die, b.h.stage, b.h.index]))

end Sys2Proof.Machine
end

