-- ==== Sys2Proof/Machine/LoadCheck.lean ====
section
/-!
DEFINITION. The conditions on which TEMPLATE_LOAD and TEMPLATE_BUILD reject a template whole with BAD_ARG (R87, R136 with
R128, R139, R153, R162, R188, R202, R235, R265, R268, R305, R625).
-/

namespace Sys2Proof.Machine

/-- R31, R52. Cycles of a row of `us` microseconds at level `l`. -/
def rowCycles (us l : Nat) : Nat := us * mhz l

/-- R127. The stage to which an opcode's class belongs; 8 for the control class. -/
def opStage (op : Nat) : Nat :=
  if op < 0x80 then op / 32
  else if op < 0xC0 then 4
  else if op < 0xD0 then 5
  else if op < 0xE0 then 6
  else if op < 0xF0 then 7
  else 8

/-- R86. Units of a stage. -/
def stageUnits (stage : Nat) : Nat := if stage = 4 ∨ stage = 5 ∨ stage = 6 then 4 else 8

/-- What the check of one instruction needs besides the running state: the instructions of the template, the row's
cycles, and AREA. -/
structure LoadEnv where
  e : CheckEnv
  all : List Placed
  cycles : Nat
  area : Nat
  deriving DecidableEq, Repr

/-- The CMD_START of a command slot on a die, in or before a row. -/
def LoadEnv.startOf (l : LoadEnv) (die cslot row : Nat) : Option (Placed × CmdStartOp) :=
  (l.all.filterMap (fun q => match q.i with
    | .cmdStart _ o => if q.h.die = die ∧ q.h.cslot = cslot ∧ q.row ≤ row then some (q, o) else none
    | _ => none)).getLast?

/-- The instructions of the command of an instruction. -/
def LoadEnv.sameCmd (l : LoadEnv) (p : Placed) : List Placed := l.all.filter (fun q => q.cmd == p.cmd)

/-- The descriptor of an instruction's command. -/
def LoadEnv.desc (l : LoadEnv) (p : Placed) : Descriptor :=
  ((p.cmd.bind (fun c => l.e.cmds[c]?)).map (·.desc)).getD Descriptor.empty

/-- R87, R86, R88. The common faults of a word. -/
def LoadEnv.commonBad (l : LoadEnv) (p : Placed) : Bool :=
  let h := p.h
  let cls := opStage p.op
  !p.good || (cls != 8 && cls != h.stage) ||
    (if cls = 8 then h.unit != 0 else stageUnits h.stage ≤ h.unit) || l.cycles ≤ h.start ||
    (l.startOf h.die h.cslot p.row).isNone

/-- R128. A locator whose reserved bits are not zero. -/
def badLoc (loc : Nat) : Bool := isBuf loc && bits loc 12 9 != 0

/-- A format code that names a format of which `ok` holds. -/
def fmtIs (c : Nat) (good : Fmt → Bool) : Bool := (Fmt.ofCode c).elim false good

/-- R136. An OPD beyond the operands, or of a ROLE that is not accepted. -/
def LoadEnv.badOpd (l : LoadEnv) (p : Placed) (opd : Nat) (roles : List Nat) : Bool :=
  match (l.desc p).operands[opd]? with
  | some o => !roles.contains o.role
  | none => true

/-- R136. Whether the command stages the stream that an RNG select draws, by a CM.CTX of KIND RNG. -/
def LoadEnv.staged (l : LoadEnv) (p : Placed) (rsel : Nat) : Bool :=
  (l.sameCmd p).any (fun q => match q.i with
    | .cmCtx _ o => o.kind == 0 && o.rsel / 16 == rsel / 16 &&
        (if rsel / 16 = 0 then bit o.smask (rsel % 16) else o.rsel % 16 == rsel % 16)
    | _ => false)

/-- R136, R146, R188. A format and its scale parameters that MX formats do not allow. -/
def mxBad (f : Nat) (group qmode scfmt : Nat) : Bool :=
  fmtIs f Fmt.isMx && !(group == 1 && qmode == 1 && fmtIs scfmt (· == Fmt.e8m0))

/-- R136, R144, R146, R188. A weight format for which some activation format runs. -/
def weightFmt (w : Fmt) : Bool := (List.range 18).any (fun a => fmtIs a (fun f => pairRate w f != 0))

/-- R136, R146, R147, R210, R625. What is wrong with a run. -/
def LoadEnv.runBad (l : LoadEnv) (x : CheckCtx) (p : Placed) (o : MxRunOp) : Bool :=
  let tile := match Store.get? x.shadow p.arr with
    | some t => some t
    | none => (Store.get? x.cells p.arr).bind (fun t => if t.1 == p.cmd then some t else none)
  2048 < o.accb + o.rows + 1 || 2048 < o.rows + 1 || (o.motif == 1 && o.segt == 0) || (o.pass != 0 && o.motif == 0) ||
    !fmtIs o.wfmt (fun w => fmtIs o.afmt (fun a => pairRate w a != 0)) ||
    tile.elim true (fun t => fmtIs o.afmt Fmt.isMx && !(t.2.group == 1 && fmtIs t.2.ascfmt (· == Fmt.e8m0))) ||
    (o.motif == 1 && (x.table l.e p.cmd o.segt).isNone)

/-- R265, R268, R136. What is wrong with a VC.PROG. -/
def progBad (x : CheckCtx) (p : Placed) (o : VcProgOp) : Bool :=
  badLoc o.srca || badLoc o.srcb || badLoc o.dst ||
    match Store.get? x.progs (progKey p.h.die p.h.unit o.pslot) with
    | some (c, some g) =>
      c != p.cmd || (g.bitout && o.xout != 0) ||
        (if g.readsB then (match g.bmode with
          | 0 => false
          | 2 => !isBuf o.srcb
          | _ => g.rowlen < 64) else o.srcb != 0)
    | _ => true

/-- R136, R143, R160, R188. What is wrong with a quantisation. -/
def packBad (o : PkOp) : Bool :=
  let g := groupSize o.group
  !fmtIs o.fmt (fun _ => o.fmt ≤ 7 || (9 ≤ o.fmt && o.fmt ≤ 0x0D) || o.fmt == 0x10 || o.fmt == 0x11) ||
    (if o.group = 0 then 2 < o.fmt else o.fmt ≤ 2 || (o.ecnt + 1) % g != 0) ||
    !fmtIs o.scfmt (fun f => o.group == 0 || f.isScale) || mxBad o.fmt o.group o.qmode o.scfmt

/-- R87, R136. Whether instruction `p`, met with `x`, breaks a condition of its own kind. -/
def LoadEnv.ownBad (l : LoadEnv) (x : CheckCtx) (p : Placed) : Bool :=
  let wide (c : Nat) : Bool := c ≤ 2
  match p.i with
  | .fetchT _ o => o.src == 3 || !fmtIs o.fmt (fun _ => true) || (o.src == 0 && l.badOpd p o.opd [1, 5])
  | .fetchS _ o => o.src == 3 || !fmtIs o.fmt Fmt.isScale || (o.src == 0 && l.badOpd p o.opd [3])
  | .moveT _ o => (l.desc p).kind != 4 || l.badOpd p o.opd [1, 2, 3, 4, 5]
  | .unpCvt _ o => [o.sfmt, o.dfmt].any (fun c => !(c ≤ 0x0C || c == 0x0E || c == 0x0F))
  | .unpDq _ o =>
    !((3 ≤ o.sfmt && o.sfmt ≤ 7) || (0x0A ≤ o.sfmt && o.sfmt ≤ 0x0D) || o.sfmt == 0x10 || o.sfmt == 0x11) ||
      !wide o.dfmt || o.group == 0 || !fmtIs o.scfmt Fmt.isScale || mxBad o.sfmt o.group o.qmode o.scfmt ||
      (o.ecnt + 1) % groupSize o.group != 0
  | .unpRht _ o => !wide o.fmt || (o.ecnt + 1) % rhtSize o.blk != 0
  | .unpLay _ o => 4 ≤ o.op || !fmtIs o.fmt (fun _ => true)
  | .mxLdw _ o =>
    (Store.get? x.shadow p.arr).isSome || !fmtIs o.wfmt weightFmt || mxBad o.wfmt o.group o.qmode o.scfmt ||
      !fmtIs o.scfmt Fmt.isScale || !fmtIs o.ascfmt Fmt.isScale ||
      (if o.group = 0 then o.scfmt != 0 || o.ascfmt != 0 || o.qmode != 0 else fmtIs o.wfmt (fun f => f == .bf16 || f == .fp16))
  | .mxRun _ o | .mxRunt _ o => l.runBad x p o
  | .mxDrain _ o =>
    2048 < o.accb + o.rows + 1 || (o.motif == 1 && (o.segt == 0 || (x.table l.e p.cmd o.segt).isNone))
  | .mgSegt _ o => l.e.targets.length ≤ o.target
  | .vcLdp _ o => !((x.text l.e p.cmd o.src).getD none).elim false (fun d => (Prog.ofLine d).decodes)
  | .vcLd _ o | .vcSt _ o => 1024 < o.boff + o.lcnt + 1
  | .vcProg _ o => progBad x p o
  | .vcRed _ o => badLoc o.src || badLoc o.dst || 6 ≤ o.op
  | .vcSmax _ o =>
    o.mode == 3 || (l.startOf p.h.die p.h.cslot p.row).elim true (fun s =>
      s.2.first + s.2.count + 1 < o.state + linesFor (o.rows + 1) 128)
  | .vcRng _ o => badLoc o.dst || 4 ≤ o.dist || 2 ≤ o.rsel / 16 || !l.staged p o.rsel
  | .pkQ _ o => packBad o
  | .pkSr _ o => packBad o || 1 ≤ o.rsel / 16 || !l.staged p o.rsel
  | .cmTens _ o => !fmtIs o.fmt (fun _ => true) || l.badOpd p o.opd [2, 4, 5]
  | .cmCtx _ o => o.kind == 3 || 2 ≤ o.rsel / 16 || (o.kind == 0 && o.rsel / 16 == 1 && o.smask != 0)
  | .cmMark _ o => o.kind != 0 || (o.dschk == 1 && ((l.desc p).kind == 1 ||
      (l.sameCmd p).any (fun q => match q.i with | .cmMark _ r => r.dschk == 0 | _ => false)))
  | .lkSend _ o => 2 ≤ o.cls
  | .lkRecv _ o => o.long == 1 && bits o.dst 0 13 != 0
  | .cmdStart _ o =>
    p.h.stage != 0 || o.first / 2 ^ 20 != p.h.die || 2 ^ 20 - 256 * l.area < o.first % 2 ^ 20 + o.count + 1
  | .xEnd _ _ => p.h.stage != 6 || p.h.die != 0
  | _ => false

/-- R136. X.END stands exactly once, in a row flagged STEP_LAST. -/
def endsOk (rows : List RowRecord) (all : List Placed) : Bool :=
  match all.filter (fun p => p.op == 0xFF && p.good) with
  | [p] => (rows[p.row]?).elim false (·.stepLast)
  | _ => false

/-- R629. The first instruction that breaks R87, R136, R265 or R625: its command's index (0xFFFF for none) and its row. -/
def LoadEnv.firstBad (l : LoadEnv) : Option (Nat × Nat) :=
  ((CheckCtx.follow l.e CheckCtx.empty l.all).find? (fun y =>
    l.commonBad y.2 || l.ownBad y.1 y.2)).map (fun y => (y.2.cmd.getD 0xFFFF, y.2.row))

/-- R54, R87, R136. The load check: `none` when the template passes, else the command's index and row to report. -/
def LoadEnv.refusal (l : LoadEnv) (rows : List RowRecord) : Option (Nat × Nat) :=
  match l.firstBad with
  | some x => some x
  | none => if endsOk rows l.all then none else some (0xFFFF, rows.length - 1)

end Sys2Proof.Machine
end

