-- ==== Sys2Proof/Machine/RowCheck.lean ====
section
/-!
DEFINITION. The timing check (R52 to R59): check_row with its codes (R53), the power model (R55, R56), ramp rows inside a
template (R59, R416), and the reading of a template image (R628, R72).
-/

namespace Sys2Proof.Machine

/-- The settings of the check: row length in microseconds, SELVAGE, MARGIN, level, SLOPE, and the load from which the first
row is checked (`none`: its own first bin, R59). `mayRamp` when ramp rows may be inserted (R54). -/
structure CheckCfg where
  us : Nat
  selvage : Nat
  margin : Nat
  level : Nat
  slope : Nat
  base : Option Nat
  mayRamp : Bool
  deriving DecidableEq, Repr

/-- R32. Cycles of the row, its selvage and its foreground. -/
def CheckCfg.cycles (c : CheckCfg) : Nat := rowCycles c.us c.level

/-- R32. Selvage cycles, rounded up. -/
def CheckCfg.selvageCycles (c : CheckCfg) : Nat := ceilDiv (c.cycles * c.selvage) 32

/-- R32. Foreground cycles. -/
def CheckCfg.fore (c : CheckCfg) : Nat := c.cycles - c.selvageCycles

/-- R52. E: the last cycle usable by the foreground. -/
def CheckCfg.limit (c : CheckCfg) : Nat := c.fore * (256 - c.margin) / 256

/-! ### One row -/

/-- Neighbours of a list of which `bad` holds. -/
def anyPair {α : Type} (bad : α → α → Bool) : List α → Bool
  | a :: b :: t => bad a b || anyPair bad (b :: t)
  | _ => false

/-- R131 OVERLAP. Start cycles of a stream rise strictly, and the unit times on a resource do not overlap. -/
def overlapBad (l : List Charged) (x : Charged) : Bool :=
  l.any (fun y => y.p.h.die == x.p.h.die && y.p.h.stage == x.p.h.stage &&
    ((y.p.h.index + 1 == x.p.h.index && x.p.h.start ≤ y.p.h.start) ||
      (x.c.res != 3 && y.p.h.unit == x.p.h.unit && y.c.res == x.c.res && y.p.h.index < x.p.h.index && x.p.h.start < y.busy)))

/-- Whether `b` issues after `a`. -/
def Charged.before (a b : Charged) : Bool :=
  a.p.h.start < b.p.h.start || (a.p.h.start == b.p.h.start && (a.p.h.die, a.p.h.stage, a.p.h.index) != (b.p.h.die, b.p.h.stage, b.p.h.index))

/-- R14, R134. Whether a read of a stretch comes before a write of it by `w` is complete. -/
def early (x w : Charged) (r : Nat × Nat) : Bool :=
  w.before x && w.p.h.start ≤ x.p.h.start && w.c.writes.any (fun v => overlaps v r &&
    (let hi := max v.1 r.1
     let far := isSkein hi && hi / 2 ^ 20 != x.p.h.die
     x.p.h.start < w.done + (if far then 24 else 0)))

/-- R134. A read of an allotted line by the command in its CMD_START's start cycle or earlier. -/
def beforeStart (x w : Charged) (r : Nat × Nat) : Bool :=
  match w.p.i with
  | .cmdStart _ o => w.p.cmd == x.p.cmd && w.p.h.cslot == x.p.h.cslot && x.p.h.start ≤ w.p.h.start &&
      overlaps (o.first, o.count + 1) r
  | _ => false

/-- A stretch less another. -/
def lessOne (v : Nat × Nat) (r : Nat × Nat) : List (Nat × Nat) :=
  if overlaps v r then
    [(v.1, r.1 - v.1), (r.1 + r.2, v.1 + v.2 - (r.1 + r.2))].filter (fun y => y.2 != 0)
  else [v]

/-- Whether reads cover a stretch. -/
def covered (v : Nat × Nat) (rs : List (Nat × Nat)) : Bool :=
  (rs.foldl (fun vs r => vs.flatMap (fun v => lessOne v r)) [v]).isEmpty

/-- R134. Two instructions of a row write one line without a read of the first write that orders the second. -/
def doubleWrite (l : List Charged) (x w : Charged) : Bool :=
  w.before x && w.p.h.start ≤ x.p.h.start && x.c.writes.any (fun v => w.c.writes.any (fun u =>
    overlaps u v &&
      (let lo := max u.1 v.1
       let both := (lo, min (u.1 + u.2) (v.1 + v.2) - lo)
       let rs := (l.filter (fun y => y.p.h.start ≤ x.p.h.start)).flatMap (fun y =>
         (if w.done ≤ y.p.h.start then y.c.reads.map (fun r => (r.1, r.2.1)) else []) ++
         (if w.before y then y.c.order else []))
       !covered both rs)))

/-- R213, R625. A run that would write a row at or before an earlier drain of its array reads it. -/
def drainRace (x d : Charged) : Bool :=
  let run (o : MxRunOp) : Bool :=
    o.pass == 0 && (match d.p.i with
      | .mxDrain _ q => d.before x && d.p.h.start ≤ x.p.h.start && d.p.arr == x.p.arr &&
          (List.range (o.rows + 1)).any (fun i =>
            let r := o.accb + i
            q.accb ≤ r && r ≤ q.accb + q.rows &&
              x.p.h.start + b2n x.bcast + i / (max 1 x.rate) + 14 ≤ d.p.h.start + (r - q.accb))
      | _ => false)
  match x.p.i with
  | .mxRun _ o | .mxRunt _ o => run o
  | _ => false

/-- R238. The charged write_end of the tile that a motif run or drain reads, when its table's stream runs in this row. -/
def tileReady (e : CheckEnv) (x : CheckCtx) (p : Placed) : Option Nat :=
  let kn (t : TableUse) : Nat × Nat := e.targets.getD t.target (0, 0)
  let at' (line : Nat) (second : Bool) (i : Nat) : Option Nat :=
    (x.table e p.cmd line).bind (fun t => if t.lands = 0 ∨ t.row ≠ p.row then none else
      some (t.lands + ceilDiv (((if second then (kn t).1 / 256 else 0) + i + 1) * e.stepLines t.count) 8))
  match p.i with
  | .mxRun _ o => if o.motif = 1 then at' o.segt false o.kt else none
  | .mxRunt _ o => if o.motif = 1 then at' o.segt true o.kt else none
  | .mxDrain _ o => if o.motif = 1 then at' o.segt (!Store.getD x.trans p.arr false) o.nt else none
  | _ => none

/-- R238. A stream that would write areas which a motif instruction of the die, issued earlier, is still reading. -/
def streamRace (e : CheckEnv) (x : Charged) (l : List Charged) : Bool :=
  match x.p.i with
  | .mgSegt _ o =>
    let lands := x.done + e.tLat
    l.any (fun y => y.before x && y.p.h.start ≤ x.p.h.start && y.p.h.die == x.p.h.die && o.count ≤ 63 && lands < y.busy &&
      (match y.p.i with
        | .mxRun _ r | .mxRunt _ r => r.motif == 1
        | .mxDrain _ r => r.motif == 1
        | _ => false))
  | _ => false

/-- R218, R134. A gradient block that a motif run or a fresh block would overwrite undrained. -/
def gradLost (x : CheckCtx) (p : Placed) : Bool :=
  match p.i with
  | .mxRun _ o | .mxRunt _ o => o.motif == 1 && x.grads.contains p.arr
  | .mxWgrad _ o => o.accIn == 0 && x.grads.contains p.arr
  | _ => false

/-- R134, R213, R218, R238 NOT_READY. -/
def notReady (e : CheckEnv) (l : List (CheckCtx × Charged)) (y : CheckCtx × Charged) : Bool :=
  let cs := l.map (·.2)
  let x := y.2
  let rs := x.c.reads.map (fun r => (r.1, r.2.1))
  rs.any (fun r => cs.any (fun w => early x w r || beforeStart x w r)) || cs.any (fun w => doubleWrite cs x w) ||
    cs.any (drainRace x) || (tileReady e y.1 x.p).any (fun c => x.p.h.start < c) || streamRace e x cs || gradLost y.1 x.p

/-- R21, R52 TIER. Whether a fetch reads a tensor that is in the deep or host tier; `tiers` tells for a command's operand. -/
def tierBad (tiers : Option Nat → Nat → Option Tier) (p : Placed) : Bool :=
  let far (opd : Nat) : Bool := (tiers p.cmd opd).any (fun t => t == .deep || t == .host)
  match p.i with
  | .fetchT _ o | .fetchS _ o => o.src == 0 && far o.opd
  | _ => false

/-- R626. The cycles and lines of the skein accesses of an instruction: its reads from its start cycle, its writes in the
last cycles before its result. -/
def Charged.accesses (x : Charged) : List (Nat × Nat) :=
  let port (from' rate : Nat) (l : List Nat) : List (Nat × Nat) := l.zipIdx.map (fun p => (from' + p.2 / rate, p.1))
  let rates := (x.c.reads.map (fun r => r.2.2)).dedup
  let reads := (rates.filter (· != 0)).flatMap (fun k =>
    port x.p.h.start k ((sortBy ((x.c.reads.filter (fun r => r.2.2 == k && isSkein r.1)).flatMap (fun r => range r.1 r.2.1)) (fun a b => a ≤ b))))
  let ws := sortBy ((x.c.writes.filter (fun w => isSkein w.1)).flatMap (fun w => range w.1 w.2)) (fun a b => a ≤ b)
  reads ++ port (x.done - ceilDiv ws.length x.c.wrate) x.c.wrate ws

/-- R237, R626. The streamer's accesses for a table: 8 lines a cycle into the hot region, charged in area 1 onward. -/
def streamAccesses (e : CheckEnv) (l : List (CheckCtx × Charged)) : List (Nat × Nat) :=
  l.flatMap (fun y => match y.2.p.i with
    | .mgSegt _ o =>
      let kn := e.targets.getD o.target (0, 0)
      let n := e.stepLines (o.count + 1) * (kn.1 / 256 + kn.2 / 256)
      (List.range n).map (fun i => (y.2.done + e.tLat + i / 8, y.2.p.h.die * 2 ^ 20 + 0xC0000 + i))
    | _ => [])

/-- R133 BANK. A bank takes one access in two consecutive cycles; a die 8,000 lines in 64 cycles. -/
def bankBad (acc : List (Nat × Nat)) : Bool :=
  let key (a : Nat × Nat) : Nat := a.2 / 2 ^ 20 * 2048 + a.2 % 2048
  let byBank := sortBy acc (fun a b => lexLe [key a, a.1] [key b, b.1])
  anyPair (fun a b => key a == key b && b.1 < a.1 + 2) byBank ||
    ([0, 1] : List Nat).any (fun d =>
      let cs := sortBy ((acc.filter (fun a => a.2 / 2 ^ 20 == d)).map (·.1)) (fun a b => a ≤ b)
      (cs.zip (cs.drop 8000)).any (fun p => p.2 < p.1 + 64))

/-! ### Bins -/

/-- Cycles that the union of some intervals shares with cycles `lo` to `hi − 1`. -/
def sharedCycles (lo hi : Nat) (l : List (Nat × Nat)) : Nat :=
  let cut := sortBy ((l.map (fun v => (max lo v.1, min hi v.2))).filter (fun v => v.1 < v.2)) (fun a b => a.1 ≤ b.1)
  (cut.foldl (fun (a : Nat × Nat) v => (a.1 + (v.2 - max a.2 v.1), max a.2 v.2)) (0, lo)).1

/-- What of `bytes` moved evenly over `[a, b)` falls in `[lo, hi)`, rounded up. -/
def bytesIn (lo hi bytes a b : Nat) : Nat := ceilDiv (bytes * (min hi b - max lo a)) (max 1 (b - a))

/-- The cycles in which an instruction's near-tier bytes move. -/
def Charged.near (e : CheckEnv) (x : Charged) : Nat × Nat :=
  if x.p.h.stage = 0 then (x.p.h.start + e.tLat, x.p.h.start + e.tLat + x.c.unit) else (x.p.h.start, x.busy)

/-- R52, R135. Near-tier bytes planned in a bin, streams included (R238). -/
def nearIn (e : CheckEnv) (l : List (CheckCtx × Charged)) (lo hi : Nat) : Nat :=
  (l.map (fun y =>
    let v := y.2.near e
    let s := match y.2.p.i with
      | .mgSegt _ o =>
        let kn := e.targets.getD o.target (0, 0)
        let n := e.stepLines (o.count + 1) * (kn.1 / 256 + kn.2 / 256)
        bytesIn lo hi (256 * n) (y.2.done + e.tLat) (y.2.done + e.tLat + ceilDiv n 8)
      | _ => 0
    bytesIn lo hi y.2.c.near v.1 v.2 + s)).foldl (· + ·) 0

/-- R52 BANDWIDTH. 90 % of 9.8 TB/s for 1 µs, in bytes. -/
def nearPeak : Nat := 8820000

/-- Intervals in which array `a` (die × 8 + unit) is enabled: its cells or its motif pair. -/
def arrayOn (l : List (CheckCtx × Charged)) (a : Nat) : List (Nat × Nat) :=
  l.filterMap (fun y =>
    let p := y.2.p
    let on := match p.i with
      | .mxRun _ _ | .mxRunt _ _ | .mxWgrad _ _ => true
      | .mxDrain _ o => o.motif == 1
      | _ => false
    if on && p.arr == a then some (p.h.start, y.2.busy) else none)

/-- Intervals in which the lanes of chain `c` (die × 4 + unit) are occupied. -/
def chainOn (l : List (CheckCtx × Charged)) (c : Nat) : List (Nat × Nat) :=
  l.filterMap (fun y => if y.2.p.h.stage == 4 && y.2.c.res == 1 && y.2.p.h.die * 4 + y.2.p.h.unit == c then
    some (y.2.p.h.start, y.2.busy) else none)

/-- R55, R56. The estimates of bin `i`: switchable load and total draw, in 10^−12 W / MHz of the level's clock. -/
def binDraw (c : CheckCfg) (e : CheckEnv) (l : List (CheckCtx × Charged)) (acc : List (Nat × Nat)) (i : Nat) : Nat × Nat :=
  let f := mhz c.level
  let lo := i * f
  let hi := (i + 1) * f
  let k := kOf c.level
  let unit := 10 ^ 12 * f
  let fore := min hi c.fore
  let sum (n : Nat) (on : Nat → List (Nat × Nat)) : Nat :=
    ((List.range n).map (fun a => sharedCycles lo fore (on a))).foldl (· + ·) 0
  let switch := 50 * unit + 52750000000 * k * sum 16 (arrayOn l) + 23250000000 * k * sum 8 (chainOn l)
  let skein := 234 * 256 * (acc.filter (fun a => lo ≤ a.1 && a.1 < fore)).length * k * f
  let near := if hi ≤ c.fore then nearIn e l lo hi else nearPeak
  let sent := ((l.map (fun y => bytesIn lo fore y.2.c.sent y.2.p.h.start y.2.busy)).foldl (· + ·) 0)
  (switch, switch + 310 * unit + skein + 14800000 * near * f + 12500000 * sent * f)

/-- A load rounded to the nearest watt, as a power profile holds it. -/
def CheckCfg.watts (c : CheckCfg) (x : Nat) : Nat := (2 * x + 10 ^ 12 * mhz c.level) / (2 * 10 ^ 12 * mhz c.level)

/-- R52, R57. Whether the loads of a row's bins keep the slope from `eff` on, and the load at its end. -/
def slopeRun (slope : Nat) : Nat → List Nat → Bool × Nat
  | eff, [] => (true, eff)
  | eff, p :: t => if eff + slope < p then (false, eff) else slopeRun slope (max p (eff - slope)) t

/-- What the check of a row found: a code of R53 other than RAMP with the command and row, or the switchable loads of its
bins in watts. -/
inductive RowVerdict where
  | bad (code cmd : Nat)
  | loads (l : List Nat)
  deriving DecidableEq, Repr

/-- R52. check_row, up to its RAMP test. -/
def checkRow (c : CheckCfg) (e : CheckEnv) (tiers : Option Nat → Nat → Option Tier) (l : List (CheckCtx × Charged)) :
    RowVerdict :=
  let order := sortBy l (fun a b => lexLe [a.2.p.h.die, a.2.p.h.stage, a.2.p.h.index] [b.2.p.h.die, b.2.p.h.stage, b.2.p.h.index])
  let cs := l.map (·.2)
  let code (y : CheckCtx × Charged) : Option (Nat × Nat) :=
    let cmd := y.2.p.cmd.getD 0xFFFF
    if overlapBad cs y.2 then some (1, cmd)
    else if tierBad tiers y.2.p then some (3, cmd)
    else if notReady e l y then some (2, cmd)
    else if c.limit < max y.2.busy (y.2.p.h.start + 1) then some (5, cmd)
    else none
  match order.findSome? code with
  | some x => .bad x.1 x.2
  | none =>
    let acc := cs.flatMap Charged.accesses ++ streamAccesses e l
    if bankBad acc then .bad 6 0xFFFF
    else
      let bins := List.range c.us
      let full := bins.filter (fun i => (i + 1) * mhz c.level ≤ c.fore)
      if full.any (fun i => nearPeak < nearIn e l (i * mhz c.level) ((i + 1) * mhz c.level)) then .bad 7 0xFFFF
      else
        let draws := bins.map (binDraw c e l acc)
        let unit := 10 ^ 12 * mhz c.level
        if draws.any (fun d => 1520 * unit < d.2 || 1000 * unit < d.1) then .bad 8 0xFFFF
        else .loads (draws.map (fun d => c.watts d.1))

/-! ### A template -/

/-- What the check of a template's rows found: a code with the command and the row, or how many ramp rows go before each
row, and to which target. -/
inductive Verdict where
  | bad (code cmd row : Nat)
  | good (ramps : List (Nat × Nat))
  deriving DecidableEq, Repr

/-- R59. The rows' RAMP tests in order: the ramp rows before each row, or the row that fails. -/
def rampPlan (c : CheckCfg) : Nat → Nat → List (List Nat × Bool) → List (Nat × Nat) → Verdict
  | _, _, [], done => .good done
  | row, eff, (l, isRamp) :: t, done =>
    if isRamp then
      rampPlan c (row + 1) (max (l.headD eff) eff) t (done ++ [(0, 0)])
    else
      let r := slopeRun c.slope eff l
      if r.1 then rampPlan c (row + 1) r.2 t (done ++ [(0, 0)])
      else
        let target := l.headD 0 - c.slope
        let n := ceilDiv (target - eff) (c.slope * c.us)
        let again := slopeRun c.slope target l
        if c.mayRamp && n != 0 && again.1 then rampPlan c (row + 1) again.2 t (done ++ [(n, target)])
        else .bad 9 0xFFFF row

/-- R53, R59. The timing check of a template: `room` Pattern Memory rows are left. -/
def checkRows (c : CheckCfg) (e : CheckEnv) (tiers : Option Nat → Nat → Option Tier) (rows : List RowRecord)
    (l : List (CheckCtx × Charged)) : Verdict :=
  let vs := rows.zipIdx.map (fun (r : RowRecord × Nat) =>
    if r.1.ramp then (RowVerdict.loads [min r.1.target 1000], true)
    else (checkRow c e tiers (l.filter (fun y => y.2.p.row == r.2)), false))
  match vs.zipIdx.findSome? (fun v => match v.1.1 with
      | .bad code cmd => some (code, cmd, v.2)
      | .loads _ => none) with
  | some (code, cmd, row) => .bad code cmd row
  | none =>
    let loads := vs.map (fun v => match v.1 with
      | .loads l => (l, v.2)
      | .bad _ _ => ([], v.2))
    rampPlan c 0 (c.base.getD ((loads.headD ([], false)).1.headD 50)) loads []

end Sys2Proof.Machine
end

