-- ==== Sys2Proof/Machine/Admit.lean ====
section
/-!
DEFINITION. Admission of command descriptors (R116 to R118, R121 to R125, R312, R314, R341, R342, R463), the code object
that the Builder checks when it places one (R136, R84), and what a claim of an RNG stream leaves (R314).
-/

namespace Sys2Proof.Machine

/-! ### Code objects -/

/-- The 128-bit words of a stream of `n` instructions from byte `off` of a body on. -/
def wordsAt (body : List Byte) (off n : Nat) : List TWord :=
  (List.range n).map (fun i => BitVec.ofNat 128 (leField body (off + 16 * i) 16))

/-- R72. The row record whose 256 bytes begin at byte `off` of a body. -/
def recordAt (body : List Byte) (off : Nat) : RowRecord :=
  let r := slice body off 256
  let d (i : Nat) : Nat := leField r (8 * i) 8
  let flags := leField r 196 1
  { streams := (List.range 16).map (fun i => wordsAt body (16 * bits (d i) 0 32) (bits (d i) 32 12))
    power := (List.range 32).map (fun i => leField r (128 + 2 * i) 2)
    upstream := leField r 192 2
    downstream := leField r 194 2
    ramp := bit flags 0
    stepFirst := bit flags 1
    stepLast := bit flags 2
    target := leField r 197 2
    rsvd := ((List.range 16).map (fun i => bits (d i) 44 20)).foldl (· + ·) 0 + bits flags 3 5 + leField r 199 57 }

/-- R72, R84. The rows of a code object: its row records end where its first stream begins. -/
def codeRows (body : List Byte) : List RowRecord :=
  let first := ((List.range 16).filterMap (fun i =>
    let d := leField body (8 * i) 8
    if bits d 32 12 = 0 then none else some (16 * bits d 0 32 / 256))).foldl min 256
  (List.range first).map (fun i => recordAt body (256 * i))

/-- The lines of a tensor named by a handle, if it can be read. -/
def State.linesOf (s : State) (h : Handle) : Option (List LineData) :=
  (s.tensor? h).map (fun t => (List.range t.size).map (fun i => lineOfBytes (s.tensorBytes t i 1)))

/-- The parameters of a model as the checks use them. -/
def State.checkEnv (s : State) (m level tokCap : Nat) (cmds : List TemplateCmd) : CheckEnv :=
  let p := (s.model m).params
  { level := level, lpt := p.kvLpt, rankLimit := p.rankLimit, targets := p.targets, tokCap := tokCap, cmds := cmds
    code := cmds.map (fun c => s.linesOf c.desc.code) }

/-- R235. AREA in lines. -/
def State.area (s : State) : Nat := 512 * 2 ^ s.reg Reg.MTF_HOT_CFG_AREA

/-- The instructions of a descriptor's code object, as one command in slot 0 of both dies. -/
def State.codeOf (s : State) (d : Descriptor) : List Placed :=
  match s.tensor? d.code with
  | none => []
  | some t =>
    let rows := codeRows (s.tensorBytes t 0 t.size)
    placedOf rows [⟨0, rows.length, 0, [0, 1], d, 0⟩]

/-- R136. Whether a code object breaks a condition, checked against base model `m`. -/
def State.codeBad (s : State) (d : Descriptor) (m : Nat) : Bool :=
  let all := s.codeOf d
  let l : LoadEnv := ⟨s.checkEnv m 0 65536 [⟨0, 256, 0, [0, 1], d, 0⟩], all, 0, 0⟩
  (CheckCtx.follow l.e CheckCtx.empty all).any (fun y => match y.2.i with
    | .cmdStart _ _ => y.2.h.stage != 0
    | .xEnd _ _ => true
    | _ => !y.2.good || l.ownBad y.1 y.2)

/-- R312. Whether a code object holds VC.RNG or PK.SR. -/
def State.codeDraws (s : State) (d : Descriptor) : Bool := (s.codeOf d).any (fun p => p.op == 0xA8 || p.op == 0xC1)

/-- R314. The streams that a code object stages with select 0. -/
def State.codeStreams (s : State) (d : Descriptor) : List Nat :=
  ((s.codeOf d).flatMap (fun p => match p.i with
    | .cmCtx _ o => if o.kind = 0 ∧ o.rsel / 16 = 0 then setBits o.smask 16 else []
    | _ => [])).dedup

/-- R315. Whether a code object draws through select 1. -/
def State.codeShares (s : State) (d : Descriptor) : Bool :=
  (s.codeOf d).any (fun p => match p.i with
    | .vcRng _ o => o.rsel / 16 == 1
    | _ => false)

/-- The base model against which a command that no graph names is checked: its motif's, else the lowest resident slot. -/
def State.modelOf (s : State) (d : Descriptor) : Nat :=
  match Store.get? s.tier.motifs (ttKey d.motif.fn d.motif.idx) with
  | some m => m.model
  | none => ((List.range 8).find? (fun m => (s.model m).state == 2)).getD 0

/-! ### Streams -/

/-- R310, R314. USE of stream `k` of function `fn`: 0 UNCLAIMED, 1 SERVE, 2 OWN. -/
def State.streamUse (s : State) (fn k : Nat) : Nat :=
  (Store.get? s.tier.ctx fn).elim 0 (fun c => (c.streams.getD k (Stream.default fn k)).use)

/-- R314. Claim streams of a function for a use, where unclaimed. -/
def State.claim (s : State) (fn use : Nat) (ks : List Nat) : State :=
  match Store.get? s.tier.ctx fn with
  | none => s
  | some c =>
    let one (l : List Stream) (k : Nat) : List Stream :=
      let st := l.getD k (Stream.default fn k)
      if st.use = 0 then l.set k { st with use := use } else l
    { s with tier := { s.tier with ctx := Store.put s.tier.ctx fn { c with streams := ks.foldl one c.streams } } }

/-! ### Descriptors -/

/-- R121 step 1. -/
def Descriptor.badVersion (d : Descriptor) : Bool := d.verMajor != 1 || d.verMinor != 0

/-- R117. The operands of some roles. -/
def Descriptor.withRoles (d : Descriptor) (l : List Role) : List Handle :=
  (d.operands.filter (fun o => (Role.ofCode o.role).elim false (fun r => l.contains r))).map (·.handle)

/-- R116, R117, R122, R96, R121 step 2. Reserved fields and ranges. -/
def Descriptor.badArg (d : Descriptor) : Bool :=
  d.kind == 0 || 4 < d.kind || d.rsvd != 0 || 1 < d.flags || d.operands.isEmpty || !d.precond.wf ||
    d.operands.any (fun o => (Role.ofCode o.role).isNone || o.rsvd != 0 || o.handle.malformed || o.handle == Handle.none) ||
    d.code.malformed || d.code == Handle.none || d.motif.malformed || (d.kind == 2) != (d.motif != Handle.none) ||
    (d.withRoles [.inp, .inScale]).any (fun h => (d.withRoles [.out, .outScale]).contains h)

/-- R351. Whether a handle names a SEALED tensor. -/
def State.isSealed (s : State) (h : Handle) : Bool := (s.tensor? h).any (fun t => t.keyIndex == 2)

/-- R118, R463, R121 step 3. Ownership, for a descriptor submitted by function `fn`. -/
def State.descDenied (s : State) (fn : Nat) (d : Descriptor) : Bool :=
  let outs := d.withRoles [.out, .outScale]
  let ins := d.withRoles [.inp, .inScale]
  d.fn != fn || (d.kind == 1 && fn != 0) || (outs ++ d.withRoles [.kv]).any (fun h => h.fn != d.fn) ||
    (ins ++ [d.code]).any (fun h => h.fn != d.fn && h.fn != 0) || (d.motif != Handle.none && d.motif.fn != d.fn) ||
    (d.kind == 1 && outs.any (fun h => (s.tensor? h).isSome && !s.isSealed h)) ||
    (fn == 0 && d.kind != 1 && ins.any s.isSealed)

/-- R123, R122, R230, R314. The built-in conflict of a command, if any. -/
def State.descConflict (s : State) (d : Descriptor) : Option Conflict :=
  let power := s.reg Reg.PWR_STATE_STATE
  let st := s.getF d.fn Reg.GLB_FN_STATE_STATE
  if d.kind = 2 ∧ s.motifMode d.motif = 1 then some ⟨1, 1, d.motif.toNat⟩
  else if 2 ≤ power then some ⟨3, power, 0⟩
  else if st ≠ 1 then some ⟨5, st, d.fn⟩
  else
    match (s.codeStreams d).find? (fun k => s.streamUse d.fn k == 1) with
    | some k => some ⟨0, 1, k⟩
    | none => none

/-- The tensors that a descriptor names. -/
def Descriptor.handles (d : Descriptor) : List Handle :=
  d.operands.map (·.handle) ++ [d.code] ++ (if d.motif = Handle.none then [] else [d.motif])

/-- R342. The lines of its outputs in NEAR with a home. -/
def State.dirtying (s : State) (d : Descriptor) : Nat :=
  (((d.withRoles [.out, .outScale, .kv]).filterMap s.tensor?).filter (fun t => t.tier == .near && t.homeSet)).foldl
    (fun a t => a + t.size) 0

/-- R121, R125, R341, R342, R312, R136. The refusal of a descriptor submitted by function `fn` and checked against base
model `m`: its status and, for STATE_CONFLICT, its report. -/
def State.descRefusal (s : State) (fn : Nat) (d : Descriptor) (m : Nat) : Option (Status × List Byte) :=
  if d.badVersion then some (.badVersion, [])
  else if d.badArg then some (.badArg, [])
  else if s.descDenied fn d then some (.denied, [])
  else
    match s.preConflict d.precond with
    | some c => some (.stateConflict, c.bytes)
    | none =>
      match s.descConflict d with
      | some c => some (.stateConflict, c.bytes)
      | none =>
        if d.handles.any (fun h => (s.tensor? h).isNone) then some (.generationStale, [])
        else if d.handles.any (fun h => (s.tensor? h).any (·.poisoned)) then some (.faulted, [])
        else if (d.withRoles [.inp, .inScale] ++ [d.code]).any (fun h => (s.tensor? h).any (·.incomplete)) then
          some (.incomplete, [])
        else if s.codeBad d m then some (.badArg, [])
        else if s.codeDraws d ∧ !s.flag Reg.RNG_KAT_PASS then some (.faulted, [])
        else
          let dirt := s.dirtying d
          if dirt ≠ 0 ∧ (!s.flag Reg.MOV_STATUS_HOLDUP_READY ∨
              s.reg Reg.MOV_DIRTY_CFG_DIRTY_LIMIT * 2 ^ 12 < s.dirtyLines + dirt) then some (.busyRetry, [])
          else none

/-- R314, R97. An admitted descriptor claims the streams that its code object stages. -/
def State.claimCode (s : State) (d : Descriptor) : State := s.claim d.fn 2 (s.codeStreams d)

end Sys2Proof.Machine
end

