-- ==== Sys2Proof/Machine/Queues.lean ====
section
/-!
DEFINITION. The host queues: doorbells (R502), fetches (R503, R505), the admission of COMMAND, SEQ_OPEN, SEQ_APPEND and
SEQ_CLOSE entries (R121, R368, R371, R370), the completion vector's timer (R509).
-/

namespace Sys2Proof.Machine

/-! ### Doorbells -/

/-- SQ_TAIL_DOORBELL (R502): a write of `v` to queue `n`'s tail doorbell; `word` when it is a 32-bit write. -/
def execSqTailDoorbell (fn n v : Nat) (word : Bool) (s : State) : Result :=
  let size := s.getF fn (sqReg Reg.HQ_SQ0_CFG_SIZE n) + 1
  let head := s.getF fn (sqReg Reg.HQ_SQ0_HEAD_HEAD n)
  let tail := s.getF fn (sqReg Reg.HQ_SQ0_TAIL_TAIL n)
  let used := (tail + size - head % size) % size
  let new := (v + size - tail % size) % size
  if word ∧ n < 8 ∧ s.getF fn (sqReg Reg.HQ_SQ0_CFG_EN n) = 1 ∧ v < size ∧ new < size - used then
    ok ((s.setF fn (sqReg Reg.HQ_SQ0_TAIL_TAIL n) v).wakeBy fn false)
  else ok (s.fnErr fn Reg.GLB_FN_ERR_SQ_DOORBELL)

/-- R508. Write the notifications of a function that wait, while entries are free. -/
def State.drainNotes (s : State) (fn : Nat) : Nat → State
  | 0 => s.showNotes fn
  | k + 1 =>
    match s.notesOf fn with
    | [] => s.showNotes fn
    | n :: _ =>
      if s.cqUsed fn + 1 < s.cqSize fn then
        State.drainNotes ({ s with host := { s.host with notes := s.host.notes.erase n } }.post fn .note .ok 0 true
          (noteBody n.2.1 n.2.2)) fn k
      else s.showNotes fn

/-- CQ_HEAD_DOORBELL (R502, R508): entries up to head `v` are freed. -/
def execCqHeadDoorbell (fn v : Nat) (word : Bool) (s : State) : Result :=
  let n := s.cqSize fn
  let step := (v + n - s.getF fn Reg.HQ_CQ_HEAD_HEAD % n) % n
  if !word then ok (s.fnErr fn Reg.GLB_FN_ERR_SQ_DOORBELL)
  else if v < n ∧ step ≤ s.cqUsed fn then ok ((s.setF fn Reg.HQ_CQ_HEAD_HEAD v).drainNotes fn 64)
  else ok (s.fnErr fn Reg.GLB_FN_ERR_CQ_DOORBELL)

/-- CQ_COALESCE_TIMER (R509): TIME_US has passed since the first counted entry; a TIME_US of 0 disables the timer. -/
def execCqCoalesceTimer (fn : Nat) (s : State) : Result :=
  if Store.getD s.host.coalesced fn 0 = 0 ∨ s.getF fn Reg.HQ_CQ_COALESCE_TIME_US = 0 then ok s
  else ok ({ s with host := { s.host with coalesced := Store.erase s.host.coalesced fn } }.msix fn 0)

/-! ### Fetching -/

/-- R505. The sum of the bytes and bits of an entry that must be zero. -/
def sqRsvd (l : List Byte) : Nat :=
  let z (i k : Nat) : Nat := leField l i k
  let high := bits (z 28 4) 23 9 + bits (z 40 4) 23 9
  match z 0 1 with
  | 1 => z 1 7 + bits (z 8 8) 0 8 + z 16 48
  | 2 => bits (z 1 1) 5 3 + z 3 1 + z 14 2 + z 22 2 + high + z 38 2 + z 44 4 + bits (z 48 8) 0 6 + z 56 8 +
      (if bits (z 2 1) 4 4 = 0 then z 48 8 else 0)
  | 3 => z 1 3 + z 12 4 + z 22 2 + high + z 32 8 + z 44 20
  | 4 => z 1 3 + z 12 52
  | _ => 1

/-- R505. The entry that 64 bytes spell, with the descriptor and the swatch list that were read for it. -/
def SqEntry.ofBytes (l desc sw : List Byte) : SqEntry :=
  let opc := leField l 0 1
  let n := if opc = 2 then bits (leField l 2 1) 4 4 else 0
  let lst := swListOfBytes sw
  { opc := opc
    model := bits (leField l 1 1) 0 3
    fixedSlices := bit (leField l 1 1) 3
    allowBase := bit (leField l 1 1) 4
    rngStream := bits (leField l 2 1) 0 4
    swCount := n
    tag := leField l 4 4
    desc := Descriptor.ofBytes desc
    kv := Handle.ofNat (leField l 8 6)
    seqId := leField l 8 4
    tokens := Handle.ofNat (leField l 16 6)
    tokFirst := leField l 24 4
    tokCount := bits (leField l 28 4) 0 23
    motif := Handle.ofNat (leField l 32 6)
    maxNew := bits (leField l 40 4) 0 23
    swatches := lst.1.take n
    rsvd := sqRsvd l + (if opc = 2 ∧ n ≠ 0 then lst.2 + ((lst.1.drop n).map Handle.toNat).foldl (· + ·) 0 else 0) }

/-- R503, R386. Whether a queue of a function has an entry that may be fetched. -/
def State.mayFetch (s : State) (fn n : Nat) : Bool :=
  n < 8 && s.getF fn (sqReg Reg.HQ_SQ0_CFG_EN n) == 1 &&
    Store.getD s.host.fetchAt (fn * 8 + n) 0 != s.getF fn (sqReg Reg.HQ_SQ0_TAIL_TAIL n) &&
    s.getF fn Reg.GLB_FN_STATE_STATE == 1 && !s.serve.preempts.any (fun p => p.fn == fn) && s.reg Reg.GLB_CASTON_MODE == 0 &&
    !s.asleep && !s.mod.off && !s.flag Reg.GLB_FW_STATUS_RESETTING && s.getF fn Reg.SEC_DPL_CTL_STOP == 0 &&
    (Store.get? s.sec.resets fn).isNone

/-- R504, R506. Refuse a fetched entry: it is done, and a COMMAND or SEQ entry is written. -/
def State.refuseEntry (s : State) (f : Fetched) (st : Status) (report : List Byte) : State :=
  let s := s.sqDone f.fn f.queue f.index
  if 2 ≤ f.entry.opc ∧ f.entry.opc ≤ 4 then
    s.post f.fn .seq st f.queue true (seqBody f.entry.tag 0 0 0 0 report)
  else s.postCommand { f.entry.desc with fn := f.fn } f.queue st report 0

/-- SQ_FETCH (R503, R505): one entry is fetched. A fetch that fails is refused with FAULTED, a reserved OPC with BAD_ARG,
and every entry with BUSY_RETRY until the module is ready (R523). An entry that had completed before a pre-emption is passed
over when the queue is fetched again from its saved head (R107). -/
def execSqFetch (o : SqFetchOp) (s : State) : Result :=
  if !s.mayFetch o.fn o.queue then ok s
  else
    let k := o.fn * 8 + o.queue
    let i := Store.getD s.host.fetchAt k 0
    let size := s.getF o.fn (sqReg Reg.HQ_SQ0_CFG_SIZE o.queue) + 1
    let f : Fetched := ⟨o.fn, o.queue, i, SqEntry.ofBytes o.bytes o.desc o.swatches⟩
    let s := { s with host := { s.host with fetchAt := Store.put s.host.fetchAt k ((i + 1) % size) } }.inc Reg.HQ_FETCHED_COUNT 1
    if (Store.getD s.host.doneIdx k []).contains i then ok s
    else if o.failed then
      ok ((s.dmaFail o.fn).refuseEntry { f with entry := { f.entry with opc := 1, desc := Descriptor.empty } }
        .faulted [])
    else if f.entry.opc = 0 ∨ 4 < f.entry.opc then
      ok (s.refuseEntry { f with entry := { f.entry with desc := Descriptor.empty } } .badArg [])
    else if s.reg Reg.GLB_STATUS_READY = 0 then ok (s.refuseEntry f .busyRetry [])
    else ok { s with host := { s.host with fetched := s.host.fetched ++ [f] } }

/-! ### Admission -/

/-- R442. Whether a command names a tensor that a lifeline is capturing as OUT, OUT_SCALE or KV. -/
def State.capturing (s : State) (d : Descriptor) : Bool :=
  s.twin.lifelines.any (fun l => l.state == 0 && l.entries.any (fun e => e.home.isNone && d.operands.any (fun o =>
    o.handle.fn == e.handle.fn && o.handle.idx == e.handle.idx && (o.role == 2 || o.role == 4 || o.role == 5))))

/-- R503, R508, R442. The oldest fetched entry of a queue, if it has OPC `opc` and its admission may take place. -/
def State.front (s : State) (o : QueueOp) (opc : Nat) : Option Fetched :=
  match s.host.fetched.find? (fun f => f.fn == o.fn && f.queue == o.queue) with
  | some f => if f.entry.opc = opc ∧ 16 < s.credit f.fn ∧ !(opc == 1 && s.capturing f.entry.desc) then some f else none
  | none => none

/-- Take a fetched entry from the admission queue. -/
def State.take (s : State) (f : Fetched) : State :=
  { s with host := { s.host with fetched := s.host.fetched.erase f } }

/-- COMMAND (R121, R123, R124, R342, R463, R136, R314): the oldest entry of a queue is admitted or refused. An admitted
command holds its state until it commits; the Builder places it in a later row. -/
def execCommand (o : QueueOp) (s : State) : Result :=
  match s.front o 1 with
  | none => ok s
  | some f =>
    let s := s.take f
    let d := f.entry.desc
    if f.entry.rsvd ≠ 0 then ok (s.refuseEntry f .badArg [])
    else if (s.twinBars f.fn).isSome then ok (s.refuseEntry f .stateConflict ((s.twinBars f.fn).elim [] Conflict.bytes))
    else
      match s.descRefusal f.fn d (s.modelOf d) with
      | some r => ok (s.refuseEntry f r.1 r.2)
      | none =>
        let s := s.claimCode d
        let cid := s.data.nextCid
        let c := { Cmd.place d 0 [] 0 1 with queue := f.queue, sqIndex := f.index }
        ok { s.setCmd cid c with data := { (s.setCmd cid c).data with nextCid := cid + 1 } }

/-- R370. The tokens of a list of swatches. -/
def State.swatchLen (s : State) (l : List Handle) : Nat :=
  (l.map (fun h => (Store.get? s.tier.swatches (ttKey h.fn h.idx)).elim 0 (·.length))).foldl (· + ·) 0

/-- R251, R252. The status of the first check that a swatch of a list fails, `base` the tokens of those before it. -/
def State.swatchRefusal (s : State) (fn m : Nat) (motif : Handle) (allowBase : Bool) : Nat → List Handle →
    Option (Status × List Byte)
  | _, [] => none
  | base, h :: t =>
    let k := ttKey h.fn h.idx
    if h.malformed ∨ h = Handle.none then some (.badArg, [])
    else if h.fn ≠ fn ∧ h.fn ≠ 0 then some (.denied, [])
    else
      match s.tensor? h, Store.get? s.tier.swatches k with
      | some _, some w =>
        let md := s.motifDigest motif
        if w.state ≠ 1 then some (.stateConflict, (Conflict.mk 0 w.state h.toNat).bytes)
        else if w.model ≠ m then some (.badArg, [])
        else if w.motifDigest ≠ md ∧ !(w.motifDigest = 0 ∧ allowBase) then
          some (.stateConflict, (Conflict.mk 0 1 h.toNat).bytes)
        else if !w.relocatable ∧ w.basePos ≠ base then some (.badArg, [])
        else State.swatchRefusal s fn m motif allowBase (base + w.length) t
      | _, _ => some (.generationStale, [])

/-- R366, R371. Whether a token range lies in an INT32 tensor. -/
def tokensOk (t : Tensor) (first n : Nat) : Bool := t.format == 8 && (first + n) * 4 ≤ t.size * 256

/-- R368, R373, R381, R61. Whether model `m` has a template at or below the cap for the class that a prompt ending at
position `top` needs. -/
def State.classServed (s : State) (m top : Nat) : Bool :=
  let normal := 4096 * 2 ^ ((s.msched m).longClass - 1)
  let needLong := decide ((s.msched m).longClass = 0 ∨ normal < top)
  (s.usable m).any (fun t => s.cap ≤ t.level && s.isLong t == needLong && top ≤ t.limit)

/-- R368. The conflict that keeps function `fn` from opening a sequence with motif `h` on model `m` and a stream. -/
def State.openConflict (s : State) (fn m : Nat) (h kv : Handle) (rng : Nat) : Option Conflict :=
  let st := s.getF fn Reg.GLB_FN_STATE_STATE
  let power := s.reg Reg.PWR_STATE_STATE
  let mo := Store.get? s.tier.motifs (ttKey h.fn h.idx)
  if st ≠ 1 then some ⟨5, st, fn⟩
  else if 2 ≤ power then some ⟨3, power, 0⟩
  else if h ≠ Handle.none ∧ !mo.any (fun x => x.state == .serving && x.model == m) then
    some ⟨1, s.motifMode h, h.toNat⟩
  else if s.serve.seqs.any (fun q => q.2.kv.fn == kv.fn && q.2.kv.idx == kv.idx) then some ⟨0, 1, kv.toNat⟩
  else if s.streamUse fn rng = 2 then some ⟨0, 2, rng⟩
  else none

/-- R368, R473. The checks of a sequence about to be admitted: its own tensors, motif, swatches and the room for it. A
sequence that is admitted again with no token left to read needs its TOKENS no more. -/
def State.seqRefusal (s : State) (q : SeqRec) : Option (Status × List Byte) :=
  let kv := s.tensor? q.kv
  let toks := s.tensor? q.tokens
  let ms := q.motif :: []
  if (q.kv :: q.tokens :: ms).any Handle.malformed ∨ q.kv = Handle.none ∨ q.tokens = Handle.none ∨ 8 < q.swatches.length then
    some (.badArg, [])
  else if q.kv.fn ≠ q.fn ∨ q.tokens.fn ≠ q.fn ∨ (q.motif ≠ Handle.none ∧ q.motif.fn ≠ q.fn) then some (.denied, [])
  else
    match s.openConflict q.fn q.model q.motif q.kv q.rng with
    | some c => some (.stateConflict, c.bytes)
    | none =>
      match s.swatchRefusal q.fn q.model q.motif q.allowBase 0 q.swatches with
      | some r => some r
      | none =>
        match kv, (if q.remain = 0 then kv else toks) with
        | some kv, some tk =>
          if kv.kind ≠ .kv ∨ bits kv.kspec 0 3 ≠ q.model ∨ (q.remain ≠ 0 ∧ !tokensOk tk q.tokNext q.remain) ∨
              kv.capacity < q.ownPos + q.remain + 1 ∨ 4194304 < q.pos + q.remain then some (.badArg, [])
          else if kv.poisoned || tk.poisoned then some (.faulted, [])
          else if kv.incomplete || tk.incomplete then some (.incomplete, [])
          else if (s.sched q.fn).maxSeq ≤ (s.serve.seqs.filter (fun x => x.2.fn == q.fn)).length then some (.quota, [])
          else if 16384 ≤ s.serve.seqs.length ∨ (s.model q.model).state ≠ 2 ∨ !s.classServed q.model (q.pos + q.remain) then
            some (.noCapacity, [])
          else if !(s.usable q.model).any (s.allows q.fn) then some (.denied, [])
          else none
        | _, _ => some (.generationStale, [])

/-- R252. Pin each swatch of a list. -/
def State.pin (s : State) (l : List Handle) : State :=
  l.foldl (fun s h =>
    let k := ttKey h.fn h.idx
    match Store.get? s.tier.swatches k with
    | none => s
    | some w => (s.setSwatch k { w with pins := w.pins + 1 }).mapTensor k (fun t => { t with pinned := true })) s

/-- The lowest SEQ_ID that no sequence and no running or ready roster has (assumption 11). -/
def State.freshSeq (s : State) : Nat :=
  let n := s.serve.seqs.length + (s.rosters.map (fun r => r.entries.length)).foldl (· + ·) 0 + 1
  (((List.range n).map (· + 1)).find? (fun i => !(s.serve.seqs.any (fun q => q.1 == i)) && !s.carries i)).getD n

/-- R367, R368, R252, R314. A sequence is admitted: pinned, its stream claimed, in PREFILL. -/
def State.openSeq (s : State) (id : Nat) (q : SeqRec) : State :=
  let s := (s.pin q.swatches).claim q.fn 1 [q.rng]
  { s with serve := { s.serve with seqs := Store.put s.serve.seqs id q } }.showSeqs

/-- R366. The sequence that a SEQ_OPEN entry asks for. -/
def State.newSeq (s : State) (f : Fetched) : SeqRec :=
  let e := f.entry
  { fn := f.fn, model := e.model, kv := e.kv, tokens := e.tokens, tokNext := e.tokFirst, remain := e.tokCount, copied := 0,
    motif := e.motif, swatches := e.swatches, allowBase := e.allowBase, swLen := s.swatchLen e.swatches,
    rng := e.rngStream, maxNew := e.maxNew, fixedSlices := e.fixedSlices, tag := e.tag, phase := .prefill,
    pos := s.swatchLen e.swatches, sampled := 0, closing := false, lastRow := 0, lastStep := 0, lastTime := 0,
    queue := f.queue }

/-- SEQ_OPEN (R368, R251, R473). -/
def execSeqOpen (o : QueueOp) (s : State) : Result :=
  match s.front o 2 with
  | none => ok s
  | some f =>
    let s := s.take f
    let e := f.entry
    let q := s.newSeq f
    if e.rsvd ≠ 0 ∨ 8 < e.swCount ∨ e.tokCount = 0 ∨ 4194304 < e.tokCount ∨ e.maxNew = 0 ∨ 4194304 < e.maxNew then
      ok (s.refuseEntry f .badArg [])
    else if (s.twinBars f.fn).isSome then ok (s.refuseEntry f .stateConflict ((s.twinBars f.fn).elim [] Conflict.bytes))
    else
      match s.seqRefusal q with
      | some r => ok (s.refuseEntry f r.1 r.2)
      | none =>
        let id := s.freshSeq
        let s := (s.openSeq id q).sqDone f.fn f.queue f.index
        ok (s.post f.fn .seq .ok f.queue true (seqBody e.tag id 0 0 0 []))

/-- R505. The open sequence that an entry names, or why it is refused. -/
def State.namedSeq (s : State) (f : Fetched) : Except (Status × List Byte) SeqRec :=
  match Store.get? s.serve.seqs f.entry.seqId with
  | some q =>
    if q.fn ≠ f.fn ∨ (Store.get? s.serve.builds f.entry.seqId).isSome then .error (.badArg, [])
    else if q.phase = .paused then .error (.stateConflict, (Conflict.mk 0 3 f.entry.seqId).bytes)
    else .ok q
  | none => .error (.badArg, [])

/-- R371, R368. What keeps an append from its sequence. -/
def State.appendRefusal (s : State) (q : SeqRec) (f : Fetched) : Option (Status × List Byte) :=
  let e := f.entry
  if q.phase ≠ .decode ∨ q.closing then some (.stateConflict, (Conflict.mk 0 1 e.seqId).bytes)
  else if e.tokens.fn ≠ f.fn then some (.denied, [])
  else
    match s.tensor? e.tokens with
    | none => some (.generationStale, [])
    | some t =>
      if !tokensOk t e.tokFirst e.tokCount ∨ s.seqCapacity q < q.ownPos + e.tokCount + 1 then some (.badArg, [])
      else if t.poisoned then some (.faulted, [])
      else if t.incomplete then some (.incomplete, [])
      else none

/-- SEQ_APPEND (R371): the new tokens and a new MAX_NEW; the sequence returns to PREFILL. -/
def execSeqAppend (o : QueueOp) (s : State) : Result :=
  match s.front o 3 with
  | none => ok s
  | some f =>
    let s := s.take f
    let e := f.entry
    if e.rsvd ≠ 0 ∨ e.tokCount = 0 ∨ 4194304 < e.tokCount ∨ e.maxNew = 0 ∨ 4194304 < e.maxNew ∨ e.tokens.malformed then
      ok (s.refuseEntry f .badArg [])
    else if (s.twinBars f.fn).isSome then ok (s.refuseEntry f .stateConflict ((s.twinBars f.fn).elim [] Conflict.bytes))
    else
      match s.namedSeq f with
      | .error r => ok (s.refuseEntry f r.1 r.2)
      | .ok q =>
        match s.appendRefusal q f with
        | some r => ok (s.refuseEntry f r.1 r.2)
        | none =>
          let q' := { q with tokens := e.tokens, tokNext := e.tokFirst, remain := e.tokCount, copied := 0, maxNew := e.maxNew,
                             sampled := 0, phase := .prefill }
          let s := { s with serve := { s.serve with seqs := Store.put s.serve.seqs e.seqId q'
                                                    tokens := Store.erase s.serve.tokens e.seqId } }
          ok ((s.sqDone f.fn f.queue f.index).post f.fn .seq .ok f.queue true (seqBody e.tag e.seqId 1 0 q.sampled []))

/-- SEQ_CLOSE (R370): no roster written from now on names the sequence; it ends when no step carries it. -/
def execSeqClose (o : QueueOp) (s : State) : Result :=
  match s.front o 4 with
  | none => ok s
  | some f =>
    let s := s.take f
    let e := f.entry
    if e.rsvd ≠ 0 then ok (s.refuseEntry f .badArg [])
    else if (s.twinBars f.fn).isSome then ok (s.refuseEntry f .stateConflict ((s.twinBars f.fn).elim [] Conflict.bytes))
    else
      match s.namedSeq f with
      | .error r => ok (s.refuseEntry f r.1 r.2)
      | .ok q =>
        let s := { s with serve := { s.serve with seqs := Store.put s.serve.seqs e.seqId { q with closing := true } } }
        let s := (s.sqDone f.fn f.queue f.index).post f.fn .seq .ok f.queue true (seqBody e.tag e.seqId 2 0 q.sampled [])
        ok s.closeSeqs

end Sys2Proof.Machine
end

