-- ==== Sys2Proof/Machine/Motifs.lean ====
section
/-!
DEFINITION. The motif messages: MOTIF_LOAD, MOTIF_BIND, MOTIF_UNBIND and MOTIF_QUERY (R225 to R234, R123, R254).
-/

namespace Sys2Proof.Machine

/-! ### The image of a motif -/

/-- R226. One target of a motif: its id, KT, NT, and the offset and length of its data in lines. -/
structure MotifTarget where
  id : Nat
  kt : Nat
  nt : Nat
  offset : Nat
  length : Nat
  deriving DecidableEq, Repr

/-- R226. A motif as its header and directory spell it. `rsvd` is the sum of its reserved fields. -/
structure MotifImage where
  version : Nat
  rank : Nat
  rotated : Bool
  count : Nat
  baseDigest : BitVec 256
  targets : List MotifTarget
  rsvd : Nat
  deriving DecidableEq, Repr

/-- R226. The targets that `n` directory entries list, as id, KT, NT, offset and length. -/
def motifDirFrom : Nat → List Byte → List MotifTarget
  | 0, _ => []
  | n + 1, l =>
    let x := leField l 0 16
    let rest := motifDirFrom n (l.drop 16)
    if bit x 8 then ⟨bits x 0 8, bits x 16 16, bits x 32 16, bits x 64 32, bits x 96 32⟩ :: rest else rest

/-- R226. The targets of the directory in lines 1 to 16 of a motif. -/
def motifDir (l : List Byte) : List MotifTarget := motifDirFrom 256 (l.drop 256)

/-- R226. The motif that bytes spell. -/
def MotifImage.ofBytes (l : List Byte) : MotifImage :=
  let dir := motifDir l
  { version := leField l 0 2, rank := leField l 2 2, rotated := bit (leField l 4 1) 0, count := leField l 5 1 + 1
    baseDigest := BitVec.ofNat 256 (leField l 16 32), targets := dir
    rsvd := bits (leField l 4 1) 1 7 + leField l 6 2 + leField l 12 4 + leField l 48 208 +
      ((List.range 256).map (fun t => bits (leField l (256 + 16 * t) 16) 9 7 +
        bits (leField l (256 + 16 * t) 16) 48 16)).foldl (· + ·) 0 +
      (if (List.range 256).all (fun t => !bit (leField l (257 + 16 * t) 1) 0 || leField l (256 + 16 * t) 1 == t) then 0 else 1) }

/-- R227. Lines of one tile. -/
def motifTileLines (rank : Nat) : Nat := 2 * rankClass rank

/-- R227. Lines of one target's data. -/
def MotifTarget.lines (t : MotifTarget) (rank : Nat) : Nat := motifTileLines rank * rankPasses rank * (t.kt + t.nt)

/-- R226. The targets laid out from line 17 in ascending order. -/
def layTargets (rank : Nat) : Nat → List MotifTarget → List MotifTarget
  | _, [] => []
  | at', t :: l => { t with offset := at', length := t.lines rank } :: layTargets rank (at' + t.lines rank) l

/-- R228. One element of A: as BF16, rotated along K in blocks of the model's rotation where it must be. `x` holds the
target's data in format `f`; element `e` counts from the first A tile. -/
def motifA (f : Fmt) (rot : Option (Nat × Nat)) (rank x e : Nat) : Nat :=
  let w := rankClass rank
  let row := e % (256 * w) / w
  let col := e % w
  if rank ≤ 64 * (e / (256 * w) % rankPasses rank) + col then 0
  else
    match rot with
    | none => (Fmt.bf16.convert .away (f.decode (elem x f.width e))).code
    | some (blk, signs) =>
      let n := rhtSize blk
      let first := e - row % n * w
      let xs := (List.range n).map (fun j => f.decode (elem x f.width (first + j * w)))
      let c := rhtOut .bf16 blk signs false xs (row % n)
      if c.nf then (Fmt.bf16.convert .away .nan).code else c.code

/-- R228. One element of B': BF16 of the exact product with ALPHA. Element `e` counts from the first B tile, which starts at
element `base`. -/
def motifB (f : Fmt) (alpha : Word) (rank x base e : Nat) : Nat :=
  let w := rankClass rank
  if rank ≤ 64 * (e / (256 * w) % rankPasses rank) + e % (256 * w) / 256 then 0
  else
    let b := ofF32 (f.decode (elem x f.width (base + e))).toF32
    (Fmt.bf16.convert .away (b.mul (ofF32 alpha))).code

/-- R227, R228. The data lines of one target. -/
def MotifTarget.data (t : MotifTarget) (f : Fmt) (rot : Option (Nat × Nat)) (alpha : Word) (rank : Nat) (l : List Byte) :
    List LineData :=
  let x := leField l (256 * t.offset) (256 * t.length)
  let tile := 256 * rankClass rank * rankPasses rank
  codeLines 16 ((List.range (tile * t.kt)).map (motifA f rot rank x) ++
    (List.range (tile * t.nt)).map (motifB f alpha rank x (tile * t.kt)))

/-- R226. The header line and the directory of a stored motif. -/
def motifHead (i : MotifImage) (isRotated : Bool) (alpha : Nat) (ts : List MotifTarget) : List LineData :=
  let head := leBytes 1 2 ++ leBytes i.rank 2 ++ leBytes (b2n isRotated) 1 ++ leBytes (ts.length - 1) 1 ++ leBytes 0 2 ++
    leBytes alpha 4 ++ leBytes 0 4 ++ leBytes i.baseDigest.toNat 32 ++ leBytes 0 208
  let one (n : Nat) : List Byte :=
    match ts.find? (fun t => t.id == n) with
    | some t => leBytes n 1 ++ leBytes 1 1 ++ leBytes t.kt 2 ++ leBytes t.nt 2 ++ leBytes 0 2 ++ leBytes t.offset 4 ++
        leBytes t.length 4
    | none => leBytes n 1 ++ leBytes 0 15
  let all := head ++ (List.range 256).flatMap one
  (List.range 17).map (fun k => lineOfBytes (slice all (256 * k) 256))

/-- R229. Whether a motif fits the base model in its slot: rank, targets, dimensions and digest. -/
def MotifImage.fits (i : MotifImage) (x : ModelSlot) : Bool :=
  4 ≤ i.rank && i.rank % 4 == 0 && i.rank ≤ x.params.rankLimit && i.count == i.targets.length &&
    i.baseDigest == x.digest && i.targets.all (fun t =>
      match x.params.targets[t.id]? with
      | some d => d.1 == 256 * t.kt && d.2 == 256 * t.nt
      | none => false)

/-! ### Messages -/

/-- MOTIF_LOAD (R228, R229, R345 to R348). -/
def execMotifLoad (m : Mail) (s : State) : Result :=
  let slot := m.u 8 2
  let h := m.handle 16
  let alpha := m.u 24 4
  let rotate := bit (m.u 28 4) 0
  let i := MotifImage.ofBytes m.buffer
  ok (s.mail m
    { type := 0x0310, minMinor := 0, longReply := false, size := 32
      args := fun _ => slot < 8 && m.u 10 6 == 0 && m.handleOk 16 && h != Handle.none && m.u 28 4 ≤ 1
      sender := fun _ => h.fn == m.fn
      body := fun _ s =>
        let x := s.model slot
        if x.state ≠ 2 then .conflict ⟨0, x.state, slot⟩
        else
          match s.ownTensor h with
          | .error st => .fail s st []
          | .ok src =>
            match Fmt.ofCode src.format with
            | none => .fail s .badArg []
            | some f =>
              let short (t : MotifTarget) : Bool :=
                t.length != t.lines i.rank * f.width / 16 || src.size < t.offset + t.length || t.offset < 17
              if src.tier ≠ .host ∨ 2 < src.format ∨ i.version ≠ 1 ∨ i.rsvd ≠ 0 ∨ !i.fits x ∨ i.targets.any short then
                .fail s .badArg []
              else
                let ts := layTargets i.rank 17 i.targets
                let size := 17 + (ts.map (·.length)).foldl (· + ·) 0
                let q := s.quota m.fn
                let full := (s.tableFull m.fn 1).or (if q.motifLimit < q.motifUsed + 1 then some .quota
                  else if 4096 ≤ (s.tier.tt.filter (fun c => c.2.kind == .motif && c.2.tier == .near)).length then
                    some .noCapacity
                  else none)
                match full with
                | some st => .fail s st []
                | none =>
                  let t := s.blankTensor m.fn .motif 1 size
                  match s.allocNear m.fn t.keyIndex t.units with
                  | .refused st s p => .fail s st p
                  | .good loc s =>
                    let t := { t with loc := loc, kspec := slot }
                    let signs := ((s.tensor? x.params.signVec).map (fun t => (s.nearLine t.loc).toNat)).getD 0
                    let rot := if rotate then x.params.rhtBlock.map (fun b => (b, signs)) else none
                    let head := motifHead i x.params.rhtBlock.isSome alpha ts
                    let body := i.targets.flatMap (fun t => t.data f rot (BitVec.ofNat 32 alpha) i.rank m.buffer)
                    let s := (s.enter t).writeNear loc (head ++ body)
                    let q := s.quota m.fn
                    let s := s.setQuota m.fn { q with motifUsed := q.motifUsed + 1 }
                    let mo : Motif := ⟨.resident, slot, i.rank, 0⟩
                    .done { s with tier := { s.tier with motifs := Store.put s.tier.motifs t.key mo } }.showSpace
                      (leBytes t.handle.toNat 8) })

/-- R123. An admitted uncommitted TRAIN command that names a motif. -/
def State.trainNames (s : State) (h : Handle) : Bool :=
  s.data.cmds.any (fun c => !c.2.committed && !c.2.step && c.2.desc.kind == 2 && c.2.desc.motif.fn == h.fn &&
    c.2.desc.motif.idx == h.idx)

/-- R125, R230. The conflict report that gives a motif's state. -/
def State.motifConflict (s : State) (h : Handle) : Conflict :=
  ⟨0, (Store.get? s.tier.motifs (ttKey h.fn h.idx)).elim 0 (fun m => m.state.code), h.toNat⟩

/-- R231. The lowest free hot slot. -/
def State.freeSlot (s : State) : Option Nat :=
  ((List.range 255).map (· + 1)).find? (fun i => (Store.get? s.data.hotSlots i).isNone)

/-- R226. The header and directory of a motif in the near tier. -/
def State.motifImage (s : State) (t : Tensor) : MotifImage := MotifImage.ofBytes (s.tensorBytes t 0 17)

/-- R231, R234, R119. Bind a motif to a slot: the slot record, the motif's state and the binding entry. -/
def State.bindMotif (s : State) (t : Tensor) (mo : Motif) (c : CtxBlock) (entry slot mode : Nat) : State :=
  let i := s.motifImage t
  let rec' : HotSlot :=
    { handle := t.handle, fn := t.fn, state := 1, model := mo.model, train := mode == 2, rank := mo.rank, line := t.loc
      gen := t.gen, digest := s.tensorDigest t
      targets := BitVec.ofNat 256 ((i.targets.map (fun x => 2 ^ x.id)).foldl (· + ·) 0) }
  let mo := { mo with state := if mode = 2 then .training else .serving, slot := slot }
  let c := { c with bindings := c.bindings.set entry ⟨t.handle, slot, mode⟩ }
  let s := { s with
    tier := { s.tier with motifs := Store.put s.tier.motifs t.key mo, ctx := Store.put s.tier.ctx t.fn c }
    data := { s.data with hotSlots := Store.put s.data.hotSlots slot rec' } }
  (s.mirrorCtx t.fn).showSlotsBound

/-- MOTIF_BIND (R231, R123, R230): the reply carries the slot. -/
def execMotifBind (m : Mail) (s : State) : Result :=
  let h := m.handle 8
  let mode := m.u 16 2
  ok (s.mail m
    { type := 0x0311, minMinor := 0, longReply := false, size := 18
      args := fun _ => m.handleOk 8 && h != Handle.none && 1 ≤ mode && mode ≤ 2
      sender := fun _ => h.fn == m.fn
      body := fun _ s =>
        match s.ownTensor h, Store.get? s.tier.motifs (ttKey h.fn h.idx), Store.get? s.tier.ctx m.fn with
        | .error st, _, _ => .fail s st []
        | .ok t, some mo, some c =>
          if mo.state ≠ .resident ∨ t.moving ∨ (mode = 1 ∧ s.trainNames h) then .conflict (s.motifConflict h)
          else if t.incomplete then .fail s .incomplete []
          else
            match c.bindings.findIdx? (fun b => b.mode == 0) with
            | none => .fail s .quota []
            | some e =>
              if (s.motifImage t).targets.any (fun x => s.area < x.lines mo.rank) then .fail s .noCapacity []
              else
                match s.freeSlot with
                | none => .fail s .noCapacity []
                | some slot => .done (s.bindMotif t mo c e slot mode) (leBytes slot 2)
        | .ok _, _, _ => .fail s .badArg [] })

/-- MOTIF_UNBIND (R230, R232). -/
def execMotifUnbind (m : Mail) (s : State) : Result :=
  let h := m.handle 8
  ok ((s.mail m
    { type := 0x0312, minMinor := 0, longReply := false, size := 16, args := fun _ => m.handleOk 8 && h != Handle.none
      sender := fun _ => h.fn == m.fn
      body := fun _ s =>
        match s.tensor? h, Store.get? s.tier.motifs (ttKey h.fn h.idx) with
        | none, _ => .fail s .generationStale []
        | some _, none => .fail s .badArg []
        | some t, some mo =>
          if mo.state = .serving ∨ (mo.state = .training ∧ !s.trainNames h) then
            .done ((s.drainMotif t.key).mirrorCtx m.fn) []
          else .conflict (s.motifConflict h) }).settleMotifs)

/-- MOTIF_QUERY (R254): state, slot, rank and digest; the PF receives no digest of a tenant's motif. -/
def execMotifQuery (m : Mail) (s : State) : Result :=
  let h := m.handle 8
  ok (s.mail m
    { type := 0x0313, minMinor := 0, longReply := true, size := 16, args := fun _ => m.handleOk 8 && h != Handle.none
      sender := fun _ => h.fn == m.fn || m.fn == 0
      body := fun _ s =>
        match s.tensor? h, Store.get? s.tier.motifs (ttKey h.fn h.idx) with
        | none, _ => .fail s .generationStale []
        | some _, none => .fail s .badArg []
        | some t, some mo =>
          let d := if m.fn = 0 ∧ t.fn ≠ 0 then 0 else s.tensorDigest t
          .done s (leBytes mo.state.code 2 ++ leBytes mo.slot 2 ++ leBytes mo.rank 2 ++ leBytes 0 26 ++
            leBytes d.toNat 32) })

end Sys2Proof.Machine
end

