-- ==== Sys2Proof/Machine/TwinOps.lean ====
section
/-!
DEFINITION. Twin sets: their links and frames, the application of mirrored changes (R428 to R430), digest points (R433 to
R435), failover (R436 to R439), synchronisation (R426, R441), and VERIFIED marks (R445).
-/

namespace Sys2Proof.Machine

/-! ### State and frames -/

/-- R426. TWN_STATE.STATE, and whether this module is the mirror. -/
def State.twn (s : State) : Nat := s.reg Reg.TWN_STATE_STATE

/-- R426. -/
def State.isMirror (s : State) : Bool := s.reg Reg.TWN_STATE_ROLE == 2

/-- R454. Set bit `f` of TWN_ERR, raising vector 7 when enabled. -/
def State.twinErr (s : State) (f : Fld) : State := s.err f Reg.TWN_INT_EN_EN f.lo 7

/-- The twin links. -/
def State.twinLinks (s : State) : Nat := s.reg Reg.TWN_LINKS_TWIN

/-- R436, R438, R454. A TWIN frame arrives: the silence is over and the link is LIVE. -/
def State.onTwin (s : State) (l n : Nat) (k : State → State) : Result :=
  if !bit s.twinLinks l then ok s
  else
    match s.arriveFrame l n false with
    | none => ok s
    | some s =>
      let s := s.set Reg.TWN_LINKS_LIVE (setBit (s.reg Reg.TWN_LINKS_LIVE) l)
      ok (k { s with twin := { s.twin with silent := false } })

/-! ### The digest of a point -/

/-- R433. The 8-byte key of a line of a tensor. -/
def lineKey (k line : Nat) : Nat := k * 2 ^ 28 + line

/-- R433. The live ranges of a tensor: first line and lines. -/
def State.liveRanges (s : State) (t : Tensor) : List (Nat × Nat) :=
  match s.liveLen t with
  | some n =>
    let p := (s.model (bits t.kspec 0 3)).params
    if n = 0 then [] else (List.range p.layers).map (fun l => (kvLine t.capacity p.kvLpt l 0, n * p.kvLpt))
  | none => [(0, t.size)]

/-- R428. Whether a tensor is mirrored: one that a tier of the module holds. -/
def Tensor.isMirrored (t : Tensor) : Bool := t.tier == .near || t.tier == .deep

/-- R433. Whether line `i` of tensor `k` is in a list of ranges. -/
def inRanges (l : List (Nat × Nat × Nat)) (k i : Nat) : Bool := l.any (fun r => r.1 == k && r.2.1 ≤ i && i < r.2.1 + r.2.2)

/-- The maximal runs of lines from `first` on, `n` lines long, of which `p` holds. -/
def runsOf (p : Nat → Bool) (first : Nat) : Nat → List (Nat × Nat)
  | 0 => []
  | n + 1 =>
    let l := runsOf p first n
    if p (first + n) then
      match l.getLast? with
      | some r => if r.1 + r.2 = first + n then l.dropLast ++ [(r.1, r.2 + 1)] else l ++ [(first + n, 1)]
      | none => [(first + n, 1)]
    else l

/-- R433. Every live range of mirrored tensors whose lines `p` selects, in (function, index, line) order. -/
def State.rangesWhere (s : State) (p : Nat → Nat → Bool) : List (Nat × Nat × Nat) :=
  (s.tier.tt.filter (fun c => c.2.isMirrored)).flatMap (fun c =>
    (s.liveRanges c.2).flatMap (fun r => (runsOf (p c.1) r.1 r.2).map (fun x => (c.1, x.1, x.2))))

/-- R433. The first `most` lines of a list of ranges. -/
def takeLines : Nat → List (Nat × Nat × Nat) → List (Nat × Nat × Nat)
  | _, [] => []
  | most, r :: t => if most = 0 then [] else (r.1, r.2.1, min r.2.2 most) :: takeLines (most - r.2.2) t

/-- R433, R434. The sweep of this point: up to SWEEP MiB of the other live ranges from where the last one stopped, wrapping at
the end; where it stops, and whether it wrapped. -/
def State.sweep (s : State) : List (Nat × Nat × Nat) × Nat × Bool :=
  let rest := s.rangesWhere (fun k i => !inRanges s.twin.touched k i)
  let at' := s.twin.sweepAt
  let ahead := s.rangesWhere (fun k i => !inRanges s.twin.touched k i && at' ≤ lineKey k i)
  let behind := s.rangesWhere (fun k i => !inRanges s.twin.touched k i && lineKey k i < at')
  let most := s.reg Reg.TWN_DIGEST_CFG_SWEEP * 4096
  let chosen := takeLines most (ahead ++ behind)
  let count (l : List (Nat × Nat × Nat)) : Nat := (l.map (·.2.2)).foldl (· + ·) 0
  let wraps := decide (count ahead ≤ most)
  let stop := chosen.getLast?.elim 0 (fun r => lineKey r.1 (r.2.1 + r.2.2))
  (chosen, if count rest ≤ most then 0 else stop, wraps)

/-- R433. The 40-byte item of a range. -/
def digestItem (key : Nat) (l : List Byte) : Nat × List Byte := (key, leBytes key 8 ++ leBytes (Config.sha256 l).toNat 32)

/-- R433. The digest of a point over the state as it stands. How a range key spells a context block or an entry is the
model's (DESIGN CHOICE, assumption 40). -/
def State.pointDigest (s : State) : BitVec 256 :=
  let lines := (s.rangesWhere (inRanges s.twin.touched) ++ s.sweep.1).filterMap (fun r =>
    (s.entry r.1).map (fun t => digestItem (lineKey r.1 r.2.1) (s.tensorBytes t r.2.1 r.2.2)))
  let ctx := s.tier.ctx.map (fun c => digestItem (2 ^ 63 + c.1) (c.2.streams.flatMap Stream.bytes ++
    c.2.bindings.flatMap (fun b => leBytes b.handle.toNat 6 ++ leBytes b.slot 1 ++ leBytes b.mode 1)))
  let tt := (s.tier.tt.filter (fun c => c.2.isMirrored)).map (fun c => digestItem (2 ^ 63 + 2 ^ 62 + c.1) c.2.mirrored.bytes)
  Config.sha256 ((sortBy (lines ++ ctx ++ tt) (fun a b => a.1 ≤ b.1)).flatMap (·.2))

/-- R433. Take this module's digest of the open point, once its MSEQ is reached; what is covered starts afresh. -/
def State.takePoint (s : State) : State :=
  match s.twin.point with
  | some p =>
    if p.value.isSome ∨ s.reg Reg.TWN_MSEQ_SENT_MSEQ ≠ p.mseq then s
    else
      let sw := s.sweep
      let d := s.pointDigest
      let s := if sw.2.2 then s.inc Reg.TWN_SWEEP_ROUND_ROUNDS 1 else s
      { s with twin := { s.twin with point := some { p with value := some d }, touched := [], sweepAt := sw.2.1 } }
  | none => s

/-! ### Lifelines that become VERIFIED -/

/-- R444. The manifest of a lifeline: its lines from 1 on. -/
def Lifeline.tail (l : Lifeline) : List Byte :=
  let streams := (List.range 16).flatMap (fun i =>
    if bit l.mask i then ((l.streams[i]?).map Stream.bytes).getD (List.replicate 32 0) else List.replicate 32 0)
  let entries := l.entries.flatMap (fun e => leBytes e.handle.toNat 6 ++ leBytes e.handle.gen 2 ++ leBytes e.size 4 ++
    leBytes e.copy.toNat 6 ++ leBytes 0 14 ++ leBytes e.digest.toNat 32)
  let n := 256 * ceilDiv l.entries.length 4
  streams ++ (entries ++ List.replicate n 0).take n

/-- R444. The manifest's bytes. -/
def Lifeline.manifestBytes (l : Lifeline) : List Byte :=
  let head := [1, 0] ++ leBytes l.entries.length 2 ++ leBytes l.fn 2 ++ leBytes (l.target + 2 * b2n (l.state == 2)) 1 ++
    leBytes 0 1 ++ leBytes l.label 8 ++ leBytes l.row 6 ++ leBytes 0 2 ++ leBytes l.mseq 4 ++ leBytes l.mask 2 ++ leBytes 0 2 ++
    leBytes (Config.sha256 l.tail).toNat 32
  head ++ List.replicate 192 0 ++ l.tail

/-- Record a lifeline that has its function and LABEL. -/
def State.setLifeline (s : State) (l : Lifeline) : State :=
  { s with twin := { s.twin with lifelines := s.twin.lifelines.map (fun (x : Lifeline) =>
    if x.fn = l.fn ∧ x.label = l.label then l else x) } }

/-- R444. Write a lifeline's manifest into its tensor. -/
def State.writeManifest (s : State) (l : Lifeline) : State :=
  match s.tensor? l.manifest with
  | some t =>
    if t.tier = .deep then
      { s with tier := { s.tier with deep := Memory.writeBytes s.tier.deep (4096 * t.loc) l.manifestBytes } }
    else { s with tier := { s.tier with near := Memory.writeBytes s.tier.near (256 * t.loc) l.manifestBytes } }
  | none => s

/-- R445. Mark a captured lifeline VERIFIED (2) or FAILED (3). -/
def State.markLifeline (s : State) (l : Lifeline) (st : Nat) : State :=
  let l := { l with state := st }
  ((s.setLifeline l).writeManifest l).tinkLog (if st = 2 then 0x0809 else 0x080A) l.fn (leBytes l.label 8)

/-- R435, R445. A digest point at MSEQ `m` has matched: captured lifelines at or before it whose digests match are VERIFIED. -/
def State.verifyLifelines (s : State) (m : Nat) : State :=
  (s.twin.lifelines.filter (fun l => l.state == 1 && l.peerDigest == some l.digest && (m + 2 ^ 32 - l.mseq) % 2 ^ 32 < 2 ^ 31)).foldl
    (fun (s : State) l => s.markLifeline l 2) s

/-! ### Divergence, repair, and a match -/

/-- R426, R436. Halt as HALT_ROW does. -/
def State.twinHalt (s : State) : State := s.askHaltRow

/-- R435. Neither copy is trusted: DIVERGED. -/
def State.diverge (s : State) (p : DigestPoint) : State :=
  let last := s.reg Reg.TWN_LAST_MATCH_LO_ROW_LO + 2 ^ 32 * s.reg Reg.TWN_LAST_MATCH_HI_ROW_HI
  let cids := s.uncommitted
  let s := cids.foldl State.frog s
  let admitted := (s.data.cmds.filter (fun c => !c.2.committed && !c.2.step && !s.seq.dead.contains c.1)).map (·.1)
  let s := s.faultCommands (cids ++ admitted)
  let s := if s.seq.step.isSome then s.faultStep else s
  let s := (s.serve.seqs.map (·.1)).foldl (fun (s : State) id => s.finishSeq id 3 .faulted) s
  let s := ((s.set Reg.TWN_STATE_STATE 5).twinErr Reg.TWN_ERR_DIVERGED).twinHalt
  let s := s.tinkLog 0x0806 noFn (leBytes p.num 4 ++ leBytes p.mseq 4 ++ leBytes last 6)
  { s with twin := { s.twin with point := none, own := none, peer := none, restored := false } }.freeze.startFlush

/-- R435. Send the lines of a range to the other module as SYNC frames. -/
def State.sendRepair (s : State) (r : Nat × Nat × Nat) : State :=
  match s.entry r.1 with
  | some t =>
    let gs := ((List.range (r.2.1 / 4096 + ceilDiv r.2.2 4096 + 1)).drop (r.2.1 / 4096)).filter (fun g =>
      r.2.1 < 4096 * (g + 1) && 4096 * g < r.2.1 + r.2.2)
    gs.foldl (fun (s : State) g =>
      let n := min 4096 (t.size - 4096 * g)
      s.sendTwin (.twinSync g t.handle ((List.range n).map (fun i => lineOfBytes (s.tensorBytes t (4096 * g + i) 1))))) s
  | none => s

/-- R435, R450. One range is repaired from the module whose copy is sound. A primary that repairs its own treats the tensors
as POISONED until the repair lands. -/
def State.repairRange (s : State) (mine : Bool) (r : Nat × Nat × Nat) : State :=
  let h := ((s.entry r.1).map Tensor.handle).getD Handle.none
  let s := s.tinkLog 0x0807 h.fn (leBytes h.toNat 6 ++ leBytes 0 2 ++ leBytes r.2.1 4 ++ leBytes r.2.2 4)
  let s := { s with twin := { s.twin with touched := s.twin.touched ++ [r] } }
  if mine then
    let s := { s with twin := { s.twin with repair := s.twin.repair ++ [r] } }
    if s.isMirror then s else s.mapTensor r.1 (fun t => { t with poisoned := true })
  else s.sendRepair r

/-- R426. The first digest point after the last SYNC granule has matched: the set is TWINNED. -/
def State.nowTwinned (s : State) : State :=
  if s.twn ≠ 1 ∨ (s.isMirror ∧ !s.twin.synced) then s
  else
    let s := ((s.set Reg.TWN_STATE_STATE 2).twinErr Reg.TWN_ERR_SYNC_DONE).tinkLog 0x0801 noFn (leBytes (s.reg Reg.TWN_STATE_PEER) 2)
    match s.twin.resync with
    | some t =>
      let s := s.tinkLog 0x0808 noFn (leBytes s.twin.copied 8)
      { s with twin := { s.twin with resync := none } }.reply t .ok []
    | none => s

/-- R433 to R435. Compare the open point when both digests are known; `err` is the range in which the peer recorded an
uncorrectable error. -/
def State.comparePoint (s : State) (err : Option (Nat × Nat × Nat)) : State :=
  match s.twin.point, s.twin.own, s.twin.peer with
  | some p, some a, some b =>
    let s := { s with twin := { s.twin with point := none, own := none, peer := none, late := false } }
    let s := s.inc Reg.TWN_POINTS_POINTS 1
    let errs := s.twin.errs
    let s := { s with twin := { s.twin with errs := [] } }
    if a = b then
      let s := (s.set Reg.TWN_LAST_MATCH_LO_ROW_LO p.row).set Reg.TWN_LAST_MATCH_HI_ROW_HI (p.row / 2 ^ 32)
      (s.verifyLifelines p.mseq).nowTwinned
    else if !errs.isEmpty ∨ err.isSome then
      let s := s.twinErr Reg.TWN_ERR_ECC_REPAIR
      let s := errs.foldl (State.repairRange · true) s
      err.elim s (fun r => if errs.isEmpty then s.repairRange false r else s)
    else s.diverge p
  | _, _, _ => s

/-! ### What a mirror applies -/

/-- R428. Allot a tensor's place in a tier of the mirror: near lines, a deep extent, or none. -/
def State.placeMirrored (s : State) (t : Tensor) : Nat × State :=
  match t.tier with
  | .near => match s.nearFit t.fn t.keyIndex t.units with
    | some loc => (loc, s.assignFrames t.fn t.keyIndex loc (16 * t.units))
    | none => (0, s)
  | .deep => s.takeDeep t.deepUnits
  | _ => (t.loc, s)

/-- R428, R430. Apply a change of a Tensor Table entry with the mirror's own allocation, move or release. A tensor keeps its
place and home unless its tier changes; a released manifest takes its lifeline with it (R446). -/
def State.applyEntry (s : State) (k : Nat) (entry : Option Tensor) : State :=
  match s.entry k, entry with
  | some old, none =>
    match s.twin.lifelines.find? (fun l => ttKey l.manifest.fn l.manifest.idx == k) with
    | some l => s.dropLifeline l
    | none => s.dropTensor old
  | none, none => s
  | some old, some t =>
    if old.tier = t.tier then
      s.putTensor { t with loc := old.loc, home := old.home, homeSet := old.homeSet, dirty := old.dirty
                           lastUse := s.row, dirtyRow := old.dirtyRow }
    else
      let n := 256 * t.size
      let cells := s.cellsAt old.tier old.loc 0 n []
      let r := s.placeMirrored t
      let s := r.2.putCells t.fn t.tier r.1 0 n cells
      let s := if old.tier = .near then s.releaseNear k old.loc old.units else s
      let s := if old.tier = .deep ∧ t.tier ≠ .near then s.releaseDeep old.loc old.deepUnits else s
      let keep := t.tier == .near && (old.homeSet || old.tier == .deep)
      s.putTensor { t with loc := r.1, homeSet := keep || t.tier == .deep
                           home := if t.tier = .deep then r.1 else if old.tier = .deep then old.loc else old.home
                           dirty := false, lastUse := s.row, dirtyRow := 0 }
  | none, some t =>
    let r := s.placeMirrored t
    let s := r.2.putTensor { t with loc := r.1, home := if t.tier = .deep then r.1 else 0, homeSet := t.tier == .deep
                                    dirty := false, lastUse := s.row, dirtyRow := 0 }
    let q := s.quota t.fn
    s.setQuota t.fn { q with
      tensorUsed := q.tensorUsed + 1
      nearUsed := q.nearUsed + (if t.tier = .near then t.units else 0)
      deepUsed := q.deepUsed + (if t.tier = .deep then 64 * t.deepUnits else 0) }

/-- R428. Apply a function's context block: streams, motif bindings (in the slots the primary chose) and saved heads. -/
def State.applyCtx (s : State) (fn : Nat) (streams : List Stream) (bindings : List (Handle × Nat × Nat)) (heads : List Nat) :
    State :=
  match Store.get? s.tier.ctx fn with
  | none => s
  | some c =>
    let c := { c with streams := streams, sqHeads := heads }
    let s := { s with tier := { s.tier with ctx := Store.put s.tier.ctx fn c } }
    bindings.zipIdx.foldl (fun (s : State) (b : (Handle × Nat × Nat) × Nat) =>
      let c := (Store.get? s.tier.ctx fn).getD c
      let old := c.bindings.getD b.2 ⟨Handle.none, 0, 0⟩
      if old.handle = b.1.1 ∧ old.slot = b.1.2.1 ∧ old.mode = b.1.2.2 then s
      else
        let s := { s with tier := { s.tier with ctx := Store.put s.tier.ctx fn { c with bindings := c.bindings.set b.2 ⟨b.1.1, b.1.2.1, b.1.2.2⟩ } } }
        if b.1.2.2 = 0 then
          match Store.get? s.tier.motifs (ttKey old.handle.fn old.handle.idx) with
          | some mo =>
            let mo := { mo with state := .resident, slot := 0 }
            { s with tier := { s.tier with motifs := Store.put s.tier.motifs (ttKey old.handle.fn old.handle.idx) mo }
                     data := { s.data with hotSlots := Store.erase s.data.hotSlots old.slot
                                           hotAreas := s.data.hotAreas.filter (fun a => a.1 % 256 != old.slot) } }.showSlotsBound
          | none => s
        else
        match s.tensor? b.1.1, Store.get? s.tier.motifs (ttKey b.1.1.fn b.1.1.idx) with
        | some t, some mo =>
            s.bindMotif t mo ((Store.get? s.tier.ctx fn).getD c) b.2 b.1.2.1 b.1.2.2
        | _, _ => s) s

/-- R430. The commit of a tag: the incomplete bits of its destinations clear. -/
def State.applyCommit (s : State) (ctag : Nat) : State :=
  let s := (Store.getD s.twin.staged ctag []).foldl (fun (s : State) k => match s.entry k with
    | some t =>
      let soils := t.tier == .near && t.homeSet && !t.dirty
      let q := s.quota t.fn
      (s.putTensor { t with incomplete := false, dirty := t.dirty || soils, dirtyRow := if soils then s.row else t.dirtyRow }).setQuota
        t.fn { q with dirtyLines := q.dirtyLines + (if soils then t.size else 0) }
    | none => s) s
  { s with twin := { s.twin with staged := Store.erase s.twin.staged ctag } }

/-- R430, R439. The step whose roster comes first has committed: its roster is done and its sequences advance. -/
def State.applyStepEnd (s : State) : State :=
  match s.readyBuffers with
  | [] => s
  | k :: _ =>
    let r := s.rosterMem k
    let snap := Store.getD s.twin.snaps k []
    let s := { s with serve := { s.serve with ready := Store.erase s.serve.ready k }
                      twin := { s.twin with snaps := Store.erase s.twin.snaps k } }
    let s := (s.clrBits Reg.SEQ_ROSTER_READY_READY (2 ^ k)).inc2 Reg.SEQ_STEP_LO_STEP_LO Reg.SEQ_STEP_HI_STEP_HI 1
    (snap.foldl (fun (s : State) p => match r.entries.find? (fun e => e.seqId == p.1) with
      | some e =>
        let q := p.2.after e s.row
        let over' := q.phase == .decode && (q.maxNew ≤ q.sampled || s.seqCapacity q ≤ q.ownPos)
        { s with serve := { s.serve with
          seqs := if over' then Store.erase s.serve.seqs p.1 else Store.put s.serve.seqs p.1 q } }
      | none => s) s).showSeqs

/-- R428, R430. Apply one record. -/
def State.applyRec (s : State) (r : TwinRec) : State :=
  match r with
  | .commit tag ends =>
    let s := s.applyCommit tag
    if ends then s.applyStepEnd else s
  | .ctx fn st b h => s.applyCtx fn st b h
  | .table fn idx e => (s.applyEntry (ttKey fn idx) e).showSpace
  | .roster m b ros seqs =>
    let k := 2 * m + b
    let s := { s with
      tier := { s.tier with near := Memory.writeBytes s.tier.near (rosterAddr k) ros.bytes }
      twin := { s.twin with snaps := Store.put s.twin.snaps k seqs } }
    let s := seqs.foldl (fun (s : State) p =>
      if s.carries p.1 then s else { s with serve := { s.serve with seqs := Store.put s.serve.seqs p.1 p.2 } }) s
    (s.markReady k).showSeqs
  | .tokens id l => { s with serve := { s.serve with tokens := Store.put s.serve.tokens id l } }

/-- R542. Whether a record waits for the Tier Manager: a TABLE record while a complex reset runs. -/
def State.holdsRec (s : State) (r : TwinRec) : Bool :=
  match r with
  | .table _ _ _ => s.flag Reg.GLB_FW_STATUS_RESETTING
  | _ => false

/-- R542. The records held, with their MSEQ: those passed over. Oldest first. -/
def State.heldRecs (s : State) : List (Nat × TwinRec) :=
  let age (m : Nat) : Nat := (s.reg Reg.TWN_MSEQ_SENT_MSEQ + 2 ^ 32 - m) % 2 ^ 32
  sortBy (s.twin.later.filter (fun p => age p.1 < 2 ^ 31)) (fun a b => age b.1 ≤ age a.1)

/-- R430, R542. Apply the records that are next in MSEQ order, passing over what is held, and take the open point's digest when its MSEQ is reached. -/
def State.applyAll (s : State) : Nat → State
  | 0 => s
  | n + 1 =>
    let next := (s.reg Reg.TWN_MSEQ_SENT_MSEQ + 1) % 2 ^ 32
    match Store.get? s.twin.later next with
    | none => s
    | some r =>
      let s := if s.holdsRec r then s
        else { s with twin := { s.twin with later := Store.erase s.twin.later next } }.applyRec r
      (s.set Reg.TWN_MSEQ_SENT_MSEQ next).takePoint.applyAll n

/-- R542. The Tier Manager has restarted: the records held are applied. -/
def State.releaseRecs (s : State) : State :=
  s.heldRecs.foldl (fun (s : State) p =>
    { s with twin := { s.twin with later := Store.erase s.twin.later p.1 } }.applyRec p.2) s

/-- R430. A record arrives at the mirror. -/
def State.takeRec (s : State) (mseq : Nat) (r : TwinRec) : State :=
  let s := { s with twin := { s.twin with later := Store.put s.twin.later mseq r } }
  s.applyAll s.twin.later.length

/-! ### Failover -/

/-- R426, R436, R437. A module enters FENCED: it halts, and what it held for the host is never written. -/
def State.fence (s : State) : State :=
  let s := ((s.set Reg.TWN_STATE_STATE 4).twinErr Reg.TWN_ERR_FENCED).tinkLog 0x0805 noFn (leBytes (s.reg Reg.TWN_MSEQ_ACK_MSEQ) 4)
  { s with twin := { s.twin with waiting := [], point := none, own := none, peer := none } }.twinHalt

/-- R438. The mirror declares loss: staged lines without a COMMIT stay incomplete, and its PF is told. -/
def State.declareLoss (s : State) (fault : Bool) : State :=
  if s.twn ≠ 2 ∨ !s.isMirror ∨ s.twin.lost then s
  else
    let s := s.twinErr Reg.TWN_ERR_LOSS
    let s := s.tinkLog 0x0803 noFn (leBytes (s.reg Reg.TWN_MSEQ_SENT_MSEQ) 4 ++ leBytes (b2n fault) 1)
    { s with twin := { s.twin with lost := true, staged := [] } }.note 0 0x0526 []

/-- R439. At takeover a function is ACTIVE and its queues resume from the mirrored saved heads (R107). -/
def State.resumeFn (s : State) (fn : Nat) : State :=
  if s.getF fn Reg.GLB_FN_STATE_STATE = 0 then s
  else
    let s := s.setF fn Reg.GLB_FN_STATE_STATE 1
    let heads := (Store.get? s.tier.ctx fn).elim (List.replicate 8 0) (·.sqHeads)
    heads.zipIdx.foldl (fun (s : State) (h : Nat × Nat) =>
      let s := s.setF fn (sqReg Reg.HQ_SQ0_HEAD_HEAD h.2) h.1
      { s with host := { s.host with fetchAt := Store.put s.host.fetchAt (fn * 8 + h.2) h.1 } }) s

/-- R439. The mirror takes over. -/
def State.takeOver (s : State) : State :=
  let s := s.set Reg.TWN_STATE_STATE 3
  let s := ((s.tier.ctx.map (·.1))).foldl State.resumeFn s
  let open' := s.readyBuffers.reverse.flatMap (fun k => Store.getD s.twin.snaps k [])
  let s := open'.foldl (fun (s : State) p => { s with serve := { s.serve with seqs := Store.put s.serve.seqs p.1 p.2 } }) s
  let n := (s.serve.seqs.filter (fun q => q.2.phase == .prefill || q.2.phase == .decode)).length
  let s := { s with twin := { s.twin with snaps := [], point := none, own := none, peer := none } }.showSeqs
  let s := s.note 0 0x0525 []
  let s := (s.twinErr Reg.TWN_ERR_TAKEOVER).tinkLog 0x0804 noFn (leBytes (s.reg Reg.TWN_MSEQ_SENT_MSEQ) 4 ++ leBytes n 4)
  s.set Reg.SEQ_CTRL_RUN 1

/-! ### Synchronisation -/

/-- R426, R428. The primary of a new set sends the mirrored set: every entry, context block and live line. -/
def State.sendSync (s : State) : State :=
  let s := s.tier.tt.foldl (fun (s : State) c =>
    if c.2.isMirrored then s.mirror (fun m => .twinTable m c.2.fn c.2.idx (some c.2)) else s) s
  let s := (s.tier.ctx.map (·.1)).foldl State.mirrorCtx s
  let send (s : State) (t : Tensor) : State :=
    (List.range (ceilDiv t.size 4096)).foldl (fun (s : State) g =>
      let n := min 4096 (t.size - 4096 * g)
      let s := s.sendTwin (.twinSync g t.handle ((List.range n).map (fun i => lineOfBytes (s.tensorBytes t (4096 * g + i) 1))))
      { s with twin := { s.twin with copied := s.twin.copied + 256 * n } }) s
  ((s.tier.tt.map (·.2)).filter Tensor.isMirrored).foldl send s

/-- R441. A new mirror discards its mirrored contents; base models, which both modules hold, stay. -/
def State.discardMirrored (s : State) : State :=
  let s := (s.serve.seqs.map (·.1)).foldl (fun (s : State) id => { s with serve := { s.serve with seqs := Store.erase s.serve.seqs id } }) s
  let s := (s.serve.ready.map (·.1)).foldl (fun (s : State) k => s.clrBits Reg.SEQ_ROSTER_READY_READY (2 ^ k)) s
  let s := { s with serve := { s.serve with ready := [], tokens := [], builds := [] }
                    seq := { s.seq with step := none, replay := none }
                    data := { s.data with hotSlots := [], hotAreas := [] }
                    tier := { s.tier with moves := s.tier.moves.filter (fun m => match m.cause with
                      | .model _ => true
                      | _ => false) } }
  let base := ((List.range 8).flatMap (fun m => (s.model m).tensors)).flatMap (fun k => ((s.entry k).elim [] s.pair).map Tensor.key)
  let s := ((s.tier.tt.map (·.2)).filter (fun t => t.isMirrored && !base.contains t.key)).foldl State.dropTensor s
  (s.showSeqs.showSlotsBound).showSpace

/-- R425, R426, R441. A set starts: this module enters SYNCING in a role. -/
def State.startTwin (s : State) (role peer links : Nat) (auto : Bool) : State :=
  let s := (((s.set Reg.TWN_STATE_STATE 1).set Reg.TWN_STATE_ROLE role).set Reg.TWN_STATE_PEER peer).set
    Reg.TWN_STATE_AUTO_TAKEOVER (b2n auto)
  let s := (s.setTwinLinks links).set Reg.TWN_LINKS_LIVE 0
  let s := (s.set Reg.TWN_MSEQ_SENT_MSEQ 0).set Reg.TWN_MSEQ_ACK_MSEQ 0
  let s := { s with twin := { TwinState.reset with lifelines := s.twin.lifelines } }
  if role = 1 then s.sendSync else s.discardMirrored

end Sys2Proof.Machine
end

