-- ==== Sys2Proof/Machine/Firmware.lean ====
section
/-!
DEFINITION. The Firmware Complex (R529 to R554): traps and restarts, complex resets, debug, firmware updates, and the PLDM and
MCTP commands of the management buses (R614, R615).
-/

namespace Sys2Proof.Machine

/-! ### Fault records -/

/-- R544. The name of the ports on which the buses and JTAG answer. -/
def pldmPort : Nat := 201
/-- R616. The JTAG port. -/
def jtagPort : Nat := 202

/-- Answer on a port that is neither the host's nor a link's. -/
def State.say (s : State) (port : Nat) (l : List Byte) : State :=
  { s with out := { s.out with side := s.out.side ++ [(port, l)] } }

/-- R537. Restarts of a component within 60 s before `now`. -/
def State.recentRestarts (s : State) (comp now : Nat) : Nat :=
  (s.fw.restarts.filter (fun (r : Nat × Nat) => r.1 == comp && now < r.2 + 60000)).length

/-- R544. Write a fault record, with its Tink event (R545). -/
def State.faultRecord (s : State) (o : TrapOp) (cause flags : Nat) : State :=
  let i := s.fw.nextFault % 64
  let seq := s.tink.nextSeq
  let s := s.tinkLog 0x0C01 noFn (leBytes o.core 1 ++ leBytes o.comp 1 ++ leBytes cause 1 ++ leBytes flags 1 ++
    leBytes o.mepc 4 ++ leBytes o.sp 4 ++ leBytes i 2)
  let l := leBytes s.row 6 ++ leBytes 0 2 ++ leBytes o.core 1 ++ leBytes o.comp 1 ++ leBytes cause 1 ++ leBytes flags 1 ++
    leBytes (s.recentRestarts o.comp o.now) 4 ++ leBytes o.mepc 8 ++ leBytes o.mtval 8 ++ leBytes o.sp 8 ++ leBytes o.ra 8 ++
    leBytes o.mcause 8 ++ leBytes seq 4 ++ leBytes 0 4
  let s := { s with fw := { s.fw with ring := Store.put s.fw.ring i l, nextFault := i + 1 } }
  let s := if cause = 1 then s.set Reg.GLB_FW_ERR_STACK_FAULT 1 else s
  s.set Reg.GLB_FW_FAULT_NEWEST_INDEX i

/-! ### Component restarts -/

/-- R536, R537, R538. A component is marked FAILED and its restart begins; the fourth within 60 s is a complex reset. -/
def State.failComponent (s : State) (comp now : Nat) : State :=
  if 3 ≤ s.recentRestarts comp now then s.complexReset 0x0A comp 0 now
  else
    let s := { s with fw := { s.fw with
      restarts := s.fw.restarts.filter (fun (r : Nat × Nat) => now < r.2 + 60000) ++ [(comp, now)]
      missed := Store.erase s.fw.missed comp } }
    (s.set Reg.GLB_FW_STATUS_FAILED (s.reg Reg.GLB_FW_STATUS_FAILED ||| 2 ^ comp)).set Reg.GLB_FW_STATUS_COMPLEX_UP 0

/-- R534. Whether a trap finds the stack pointer invalid. -/
def TrapOp.badStack (o : TrapOp) : Bool := o.sp % 16 != 0 || o.sp < o.low + 272 || o.high < o.sp

/-- Whether the cores run. -/
def State.coresRun (s : State) : Bool := !s.mod.off && !s.flag Reg.GLB_FW_STATUS_RESETTING && !s.fw.held

/-- TRAP_ENTRY (R534 to R536). CAUSE 0 is an interrupt, no fault. -/
def execTrapEntry (o : TrapOp) (s : State) : Result :=
  if !s.coresRun ∨ 4 ≤ o.core ∨ 7 ≤ o.comp ∨ 0x0A < o.cause then ok s
  else if o.emergency then ok (s.complexReset 9 o.comp (1 + 2 * b2n o.mmode) o.now)
  else
    let bad := o.badStack
    let cause := if bad then 1 else o.cause
    let ctx : TrapCtx := ⟨bad, o.sp, o.ra, o.mepc, o.mtval, o.mcause⟩
    let s := { s with fw := { s.fw with saved := Store.put s.fw.saved o.core ctx } }
    if cause = 0 then ok s
    else
      let flags := b2n bad + 2 * b2n o.mmode
      let s := s.faultRecord o cause flags
      if o.mmode ∨ o.comp ≤ 1 then ok (s.complexReset cause o.comp flags o.now) else ok (s.failComponent o.comp o.now)

/-- R531. The cores that a component runs on, as a mask. -/
def coresOf (comp : Nat) : Nat := [15, 1, 1, 6, 8, 1, 8].getD comp 15

/-- R537, R544. A component that misses three heartbeats in a row is restarted; its record shows no trap (assumption 2). -/
def State.missBeat (now : Nat) (s : State) (comp : Nat) : State :=
  if !s.coresRun then s
  else
    let n := Store.getD s.fw.missed comp 0 + 1
    if n < 3 then { s with fw := { s.fw with missed := Store.put s.fw.missed comp n } }
    else
      let a := s.draw
      let b := a.2.draw
      let c := b.2.draw
      let d := c.2.draw
      let e := d.2.draw
      let core := if comp = 3 then 1 else if coresOf comp = 8 then 3 else 0
      let o : TrapOp := ⟨core, comp, 5, false, false, a.1, 0, 0, b.1, c.1, d.1, e.1, now⟩
      (e.2.faultRecord o 5 0).failComponent comp now

/-- SUPERVISOR_HEARTBEAT (R537, R538, R552): the components that answered; those on halted cores and those restarting are not
checked. -/
def execSupervisorHeartbeat (answered : List Nat) (now : Nat) (s : State) : Result :=
  let halted := s.reg Reg.GLB_FW_STATUS_HALTED
  if !s.coresRun ∨ bit halted 0 then ok s
  else
    let checked := ([2, 3, 4, 5, 6] : List Nat).filter (fun c => coresOf c &&& halted == 0 && !bit (s.reg Reg.GLB_FW_STATUS_FAILED) c)
    let s := { s with fw := { s.fw with missed := s.fw.missed.filter (fun m => !answered.contains m.1) } }
    ok ((checked.filter (fun c => !answered.contains c)).foldl (State.missBeat now) s)

/-- R539. Builds that run when the Pattern Builder restarts are answered BUSY_RETRY. A recheck begins again. -/
def State.dropBuilds (s : State) (st : Status) : State :=
  let owed := s.seq.builds.filterMap (fun (b : BuildJob) => match b with
    | .graph t _ => some t
    | .build t _ _ _ => some t
    | .load t _ _ _ => some t
    | .recheck => none)
  let s := { s with seq := { s.seq with builds := s.seq.builds.filter (fun (b : BuildJob) => b == BuildJob.recheck) } }
  let s := s.set Reg.SEQ_BUILD_STATUS_BUSY (b2n !s.seq.builds.isEmpty)
  owed.foldl (fun (s : State) t => s.reply t st []) s

/-- COMPONENT_RESTARTED (R537, R539, R545). -/
def execComponentRestarted (comp us : Nat) (s : State) : Result :=
  if !s.coresRun ∨ 7 ≤ comp ∨ !bit (s.reg Reg.GLB_FW_STATUS_FAILED) comp then ok s
  else
    let failed := clearBit (s.reg Reg.GLB_FW_STATUS_FAILED) comp
    let s := (s.set Reg.GLB_FW_STATUS_FAILED failed).set Reg.GLB_FW_STATUS_COMPLEX_UP (b2n (failed == 0))
    let s := (s.inc Reg.GLB_FW_RESTARTS_COUNT 1).set Reg.GLB_FW_ERR_RESTART 1
    let n := (s.fw.restarts.filter (fun (r : Nat × Nat) => r.1 == comp)).length
    let s := s.tinkLog 0x0C02 noFn (leBytes 0 1 ++ leBytes comp 1 ++ leBytes 0 2 ++ leBytes us 4 ++ leBytes n 1)
    ok (if comp = 3 then s.dropBuilds .busyRetry else if comp = 6 then s.endUpdate else s)

/-! ### Complex resets -/

/-- COMPLEX_WATCHDOG_EXPIRY (R540, R552): not while a core is halted. The watchdog is the supervisor's. -/
def execComplexWatchdogExpiry (now : Nat) (s : State) : Result :=
  if s.mod.off ∨ s.reg Reg.GLB_FW_STATUS_HALTED ≠ 0 then ok s else ok (s.complexReset 8 1 0 now)

/-- CORE_SRAM_ECC (R540): which component's data it was is open (assumption 2). -/
def execCoreSramEcc (core now : Nat) (s : State) : Result :=
  if s.mod.off ∨ 4 < core then ok s
  else
    let d := s.draw
    ok (d.2.complexReset 7 (d.1 % 7) 0 now)

/-- R541 step 7. What the complex held in hand ends: model loads fail, moves of the Tier Manager resume, those of tenants'
commands stay STOPPED, and every request still owed is answered FAULTED. -/
def State.restartWork (s : State) : State :=
  let loading := (s.tier.models.filter (fun m => m.2.state == 1)).map (·.1)
  let s := loading.foldl (fun (s : State) m => s.failModel m .faulted) s
  let s := { s with tier := { s.tier with moves := s.tier.moves.map (fun (m : Move) => if m.cause.ofFunction then { m with stopped := false } else m) } }
  let s := (s.stopMoves (fun m => m.cause.ofFunction)).resumeMoves (fun m => !m.cause.ofFunction)
  let s := { s with
    serve := { s.serve with preempts := [] }
    tier := { s.tier with parks := [], restores := [] } }
  let s := s.dropBuilds .faulted
  let s := if s.mod.bindOff.isSome then
      { s with mod := { s.mod with bindOff := none } }.set Reg.GLB_CASTON_MODE 0
    else s
  s.host.tickets.foldl (fun (s : State) t => s.reply t .faulted []) s

/-- COMPLEX_READY (R541 steps 7 to 9, R542), once the running row has finished. -/
def execComplexReady (ms : Nat) (s : State) : Result :=
  if !s.flag Reg.GLB_FW_STATUS_RESETTING ∨ s.fw.held ∨ s.mod.off ∨ s.seq.active then ok s
  else
    let s := s.resetAdvance.set Reg.GLB_FW_STATUS_RESETTING 0
    let s := s.releaseRecs.faultAll
    let s := s.restartWork.settleResets
    let s := s.tinkLog 0x0C04 noFn (leBytes 0 4 ++ leBytes ms 4)
    ok ((s.set Reg.GLB_STATUS_READY 1).set Reg.GLB_FW_STATUS_COMPLEX_UP 1)

/-! ### Debug -/

/-- DEBUG_ACTIVATE (R551, R545). -/
def execDebugActivate (on : Bool) (s : State) : Result :=
  if s.mod.off ∨ s.flag Reg.GLB_FW_STATUS_DEBUG_ACTIVE = on then ok s
  else
    let s := (s.set Reg.GLB_FW_STATUS_DEBUG_ACTIVE (b2n on)).tinkLog 0x0C06 noFn (leBytes (b2n on) 1)
    ok (if on then s.set Reg.GLB_FW_ERR_DEBUG_ATTACH 1 else s)

/-- Whether core `c` is halted by debug. -/
def State.isHalted (s : State) (c : Nat) : Bool := bit (s.reg Reg.GLB_FW_STATUS_HALTED) c

/-- R552. Core `c` halts, or resumes. What a debugger wrote into its registers is overtaken once it runs. -/
def State.setHalted (s : State) (c : Nat) (on : Bool) : State :=
  let h := s.reg Reg.GLB_FW_STATUS_HALTED
  let s := s.set Reg.GLB_FW_STATUS_HALTED (if on then h ||| 2 ^ c else clearBit h c)
  let s := if on then s else { s with fw := { s.fw with coreRegs := s.fw.coreRegs.filter (fun r => r.1 / 65536 != c) } }
  s.tinkLog 0x0C05 noFn (leBytes c 1 ++ leBytes (b2n on) 1)

/-- Whether the Debug Module is active and core `c` exists. -/
def State.debugs (s : State) (c : Nat) : Bool := !s.mod.off && s.flag Reg.GLB_FW_STATUS_DEBUG_ACTIVE && c < 4

/-- DEBUG_HALT (R550, R552). -/
def execDebugHalt (core : Nat) (s : State) : Result :=
  ok (if s.debugs core && !s.isHalted core then s.setHalted core true else s)

/-- DEBUG_RESUME (R550, R552). -/
def execDebugResume (core : Nat) (s : State) : Result :=
  ok (if s.debugs core && s.isHalted core then s.setHalted core false else s)

/-- DEBUG_STEP (R550, R552): a halted core resumes for one instruction and halts again. -/
def execDebugStep (core : Nat) (s : State) : Result :=
  ok (if s.debugs core && s.isHalted core then (s.setHalted core false).setHalted core true else s)

/-- DEBUG_ABSTRACT_COMMAND (R550): a register that no debugger wrote holds what the firmware left there (assumption 2). -/
def execDebugAbstractCommand (o : AbstractOp) (s : State) : Result :=
  if !s.debugs o.core ∨ !s.isHalted o.core ∨ 65536 ≤ o.reg then ok s
  else
    let k := 65536 * o.core + o.reg
    if o.isWrite then ok { s with fw := { s.fw with coreRegs := Store.put s.fw.coreRegs k (o.value % 2 ^ 64) } }
    else
      match Store.get? s.fw.coreRegs k with
      | some v => ok (s.say jtagPort (leBytes v 8))
      | none =>
        let d := s.draw
        ok ({ d.2 with fw := { d.2.fw with coreRegs := Store.put d.2.fw.coreRegs k (d.1 % 2 ^ 64) } }.say jtagPort (leBytes d.1 8))

/-- R529, R551. Byte `a` of SRAM `k` lies in it: 256 KiB of a core, 64 KiB of the locked SRAM. -/
def inSram (k a : Nat) : Bool := if k < 4 then a < 262144 else k == 4 && a < 65536

/-- R551. A byte of an SRAM: what a debugger last wrote, else what the firmware left there (assumption 2). -/
def State.sramByte (s : State) (k a : Nat) : Byte × State :=
  if !inSram k a then (0, s)
  else
    match Store.get? s.fw.sram (k * 2 ^ 20 + a) with
    | some b => (b, s)
    | none => let d := s.draw; (BitVec.ofNat 8 d.1, d.2)

/-- R461, R462, R551. A DBG access that is refused, to no frame: its owner and frame are open (assumption 2). -/
def State.denyUnit (s : State) (isWrite : Bool) (cls : Nat) : State :=
  let d := s.draw
  let e := d.2.draw
  e.2.deny .dbg isWrite cls (d.1 % 2048) (e.1 % 2 ^ 23)

/-- R93, R206, R239, R257. A refused access to the storage of a unit counts there. -/
def State.countUnit (s : State) (isWrite : Bool) (k : Nat) : State :=
  match k with
  | 0 => if isWrite then s else s.inc Reg.SKN_DENIED_RD_DENIED 1
  | 1 => s.inc Reg.MXA_DENIED_RD_DENIED 1
  | 2 => if isWrite then s else s.inc Reg.MTF_DENIED_RD_DENIED 1
  | _ => s.inc Reg.VCH_DENIED_RD_DENIED 1

/-- DEBUG_SYSBUS_ACCESS (R551, R93, R206, R239, R257). -/
def execDebugSysbusAccess (o : BusOp) (s : State) : Result :=
  let n := if o.isWrite then o.data.length else o.count
  if s.mod.off ∨ s.reg Reg.GLB_FW_STATUS_DEBUG_ACTIVE = 0 then ok s
  else
    match o.space with
    | .near =>
      if o.isWrite then ok ((s.openWrite o.addr o.data).denyFrames .dbg true o.addr n)
      else ok ((s.denyFrames .dbg false o.addr n).say jtagPort (s.openRead o.addr n))
    | .sram k =>
      if o.isWrite then
        ok { s with fw := { s.fw with
          sram := o.data.zipIdx.foldl (fun (m : List Host.Cell) (p : Byte × Nat) =>
            if inSram k (o.addr + p.2) then Store.put m (k * 2 ^ 20 + o.addr + p.2) p.1 else m) s.fw.sram } }
      else
        let r := (List.range n).foldl (fun (a : List Byte × State) i =>
          let b := a.2.sramByte k (o.addr + i)
          (a.1 ++ [b.1], b.2)) (([] : List Byte), s)
        ok (r.2.say jtagPort r.1)
    | .unit k =>
      let s := (s.denyUnit o.isWrite 0xFF).countUnit o.isWrite k
      ok (if o.isWrite then s else s.say jtagPort (List.replicate n 0))
    | .elsewhere =>
      let d := s.draw
      let s := d.2.denyUnit o.isWrite (d.1 % 256)
      ok (if o.isWrite then s else s.say jtagPort (List.replicate n 0))

/-- R616. The TAP's IDCODE. -/
def idcode : Nat := 0x1D0070A7

/-- JTAG_INSTRUCTION_LOAD (R469, R616). The TAP holds 0 IDCODE, 1 BYPASS, 2 SAMPLE/PRELOAD, 3 EXTEST, 4 the debug transport, 5
another. IDCODE is shifted out. -/
def execJtagInstructionLoad (ir : TapInstr) (s : State) : Result :=
  let production := s.reg Reg.SEC_STATUS_LIFECYCLE == 1
  let idle := s.tier.ctx.all (fun c => c.1 == 0 || s.getF c.1 Reg.GLB_FN_STATE_STATE == 0) && s.sec.baseKeys.isEmpty
  let load (s : State) (n : Nat) : State := { s with fw := { s.fw with tap := n } }
  match ir with
  | .idcode => ok ((load s 0).say jtagPort (leBytes idcode 4))
  | .bypass => ok (load s 1)
  | .sample => ok (load s 2)
  | .extest => if production && !idle then ok ((load s 1).secErr Reg.SEC_ERR_JTAG_REFUSED) else ok (load s 3)
  | .debug => ok (load s 4)
  | .other => ok (load s (if production then 1 else 5))

/-! ### Firmware updates -/

/-- R539, R541, R552. Whether the telemetry service answers: not while it restarts, and in RECOVERY too (R546). -/
def State.telemetryUp (s : State) : Bool :=
  !s.mod.off && !s.flag Reg.GLB_FW_STATUS_RESETTING && !bit (s.reg Reg.GLB_FW_STATUS_FAILED) 6 && !s.isHalted 3

/-- R546. A PLDM answer: completion code and data. The codes are DSP0267's (PRESUMED). -/
def State.pldm (s : State) (cc : Nat) (l : List Byte) : State := s.say pldmPort (leBytes cc 1 ++ l)

/-- A PLDM command: no answer while the service does not run; else what `f` says. -/
def State.pldmCmd (s : State) (f : State → State) : Result := ok (if s.telemetryUp then f s else s)

/-- Log a stage of an update of a class (R545). -/
def State.fwStage (s : State) (cls stage : Nat) : State := s.tinkLog 0x0C07 noFn (leBytes cls 1 ++ leBytes stage 1)

/-- Record the session and the inactive banks. -/
def State.setUpdate (s : State) (u : UpdateSession) (banks : List (Nat × Nat)) : State :=
  { s with fw := { s.fw with update := some u, banks := banks } }.showBanks

/-- QUERY_DEVICE_IDENTIFIERS (R546): part and serial number. -/
def execQueryDeviceIdentifiers (s : State) : Result :=
  s.pldmCmd (fun s => s.pldm 0 ([0x8000, 0x8004, 0x8008].flatMap (fun o => leBytes (s.readWord 0 o) 4)))

/-- GET_FIRMWARE_PARAMETERS (R546): for each class its identifier, the running SVN and whether an image is pending. -/
def execGetFirmwareParameters (s : State) : Result :=
  s.pldmCmd (fun s => s.pldm 0 ((List.range 4).flatMap (fun k =>
    leBytes (k + 1) 2 ++ leBytes (s.runningSvn k) 2 ++ leBytes (b2n (bit (s.reg Reg.GLB_FW_BANKS_PENDING) k)) 1)))

/-- REQUEST_UPDATE (R546, R547). -/
def execRequestUpdate (s : State) : Result :=
  s.pldmCmd (fun s =>
    if s.fw.update.isSome then s.pldm 0x81 []
    else ((s.setUpdate ⟨[], none, 0, 0, [], []⟩ s.fw.banks).set Reg.GLB_FW_STATUS_UPDATE_OPEN 1).pldm 0 [])

/-- PASS_COMPONENT_TABLE (R546): image classes. -/
def execPassComponentTable (classes : List Nat) (s : State) : Result :=
  s.pldmCmd (fun s =>
    match s.fw.update with
    | none => s.pldm 0x80 []
    | some u =>
      if u.current.isSome ∨ classes.isEmpty ∨ classes.any (4 ≤ ·) then s.pldm 0x82 []
      else (s.setUpdate { u with table := classes.dedup } s.fw.banks).pldm 0 [])

/-- UPDATE_COMPONENT (R546, R547): the transfer of an image into the inactive bank begins; a class under
trial has no bank that does not run or stand by for it, and takes none (DESIGN CHOICE). -/
def execUpdateComponent (cls size : Nat) (s : State) : Result :=
  s.pldmCmd (fun s =>
    match s.fw.update with
    | none => s.pldm 0x80 []
    | some u =>
      if u.current.isSome ∨ !u.table.contains cls ∨ bit (s.reg Reg.GLB_FW_BANKS_TRIAL) cls then s.pldm 0x84 []
      else
        let u := { u with current := some cls, size := size, received := 0, verified := u.verified.erase cls, failed := u.failed.erase cls }
        ((s.setUpdate u (Store.put s.fw.banks cls 1)).fwStage cls 0).pldm 0 [])

/-- REQUEST_FIRMWARE_DATA (R546, R547): a block of `n` bytes arrives and is written into the inactive bank. -/
def execRequestFirmwareData (n : Nat) (s : State) : Result :=
  s.pldmCmd (fun s =>
    match s.fw.update with
    | none => s
    | some u =>
      if u.current.isNone ∨ 4096 < n then s else s.setUpdate { u with received := min u.size (u.received + n) } s.fw.banks)

/-- VERIFY_COMPLETE (R548): the image is checked as at boot; `good` tells whether its signature and key hold. -/
def execVerifyComplete (good : Bool) (svn : Nat) (s : State) : Result :=
  s.pldmCmd (fun s =>
    match s.fw.update with
    | none => s
    | some u =>
      match u.current with
      | none => s
      | some c =>
        if u.received < u.size then s
        else if good && s.fusedSvn c ≤ svn then
          let bank := 1 - s.activeBank c
          let s := { s with
            fresh := s.fresh + 1
            fw := { s.fw with newSvn := Store.put s.fw.newSvn c svn, images := Store.put s.fw.images (2 * c + bank) (s.fresh + 2) } }
          (((s.setUpdate { u with current := none, verified := u.verified ++ [c] } (Store.put s.fw.banks c 2)).fwStage c 1)).pldm 0 []
        else
          (((s.setUpdate { u with current := none, failed := u.failed ++ [c] } (Store.put s.fw.banks c 3)).fwStage c 2)).pldm 0 [])

/-- ACTIVATE_FIRMWARE (R548): every image of the session becomes pending, together, if all passed; the session ends. -/
def execActivateFirmware (s : State) : Result :=
  s.pldmCmd (fun s =>
    match s.fw.update with
    | none => s.pldm 0x80 []
    | some u =>
      if u.current.isSome ∨ u.table.isEmpty ∨ !u.table.all (fun c => u.verified.contains c) then s.pldm 0x85 []
      else
        let banks := u.table.foldl (fun (b : List (Nat × Nat)) c => Store.put b c 4) s.fw.banks
        let s := { s with fw := { s.fw with update := none, banks := banks } }.set Reg.GLB_FW_STATUS_UPDATE_OPEN 0
        (u.table.foldl (fun (s : State) c => s.fwStage c 3) s.showBanks).pldm 0 [])

/-- GET_STATUS (R546): 0 idle, 1 a session, 2 a transfer; the class and the bytes received. -/
def execGetStatus (s : State) : Result :=
  s.pldmCmd (fun s =>
    match s.fw.update with
    | none => s.pldm 0 (leBytes 0 6)
    | some u => s.pldm 0 (leBytes (if u.current.isSome then 2 else 1) 1 ++ leBytes (u.current.getD 0) 1 ++ leBytes u.received 4))

/-- CANCEL_UPDATE_COMPONENT (R546, R547). -/
def execCancelUpdateComponent (s : State) : Result :=
  s.pldmCmd (fun s =>
    match s.fw.update with
    | none => s.pldm 0x80 []
    | some u =>
      match u.current with
      | none => s.pldm 0x84 []
      | some c => (((s.setUpdate { u with current := none } (Store.put s.fw.banks c 0)).fwStage c 4)).pldm 0 [])

/-- CANCEL_UPDATE (R547). -/
def execCancelUpdate (s : State) : Result :=
  s.pldmCmd (fun s => if s.fw.update.isSome then s.endUpdate.pldm 0 [] else s.pldm 0x80 [])

/-- TRIAL_CONFIRM (R549): 600 s have passed since READY without a complex reset. -/
def execTrialConfirm (s : State) : Result :=
  let mask := s.reg Reg.GLB_FW_BANKS_TRIAL
  if mask = 0 ∨ s.reg Reg.GLB_STATUS_READY = 0 then ok s
  else
    let b := (s.fw.activeB.getD Config.activeBanks.toNat) ^^^ mask
    let banks := (setBits mask 4).foldl (fun (l : List (Nat × Nat)) k => Store.put l k 2) s.fw.banks
    let ks := setBits mask 4
    let svn := ks.foldl (fun (l : List (Nat × Nat)) k => Store.put l k (s.runningSvn k)) s.fw.svn
    let old := ks.foldl (fun (l : List (Nat × Nat)) k =>
      Store.put l k (Store.getD s.fw.svn k (Config.imageSvn k (s.activeBank k)).toNat)) s.fw.newSvn
    let s := { s with fw := { s.fw with activeB := some b, banks := banks, svn := svn, newSvn := old } }
    ok (((s.set Reg.GLB_FW_BANKS_TRIAL 0).showBanks).tinkLog 0x0C08 noFn (leBytes mask 1))

/-! ### Sensors and endpoints -/

/-- R624. The TEL_ sensors that are not reserved. -/
def telSensor (n : Nat) : Bool := n < 7 || (8 ≤ n && n < 20) || (24 ≤ n && n < 36)

/-- SET_SENSOR_THRESHOLDS (R615): the warning thresholds of a sensor. -/
def execSetSensorThresholds (sensor lower upper : Nat) (s : State) : Result :=
  s.pldmCmd (fun s =>
    if !telSensor sensor then s.pldm 0x80 []
    else { s with fw := { s.fw with thresholds := Store.put s.fw.thresholds sensor (lower, upper) } }.pldm 0 [])

/-- SET_ENDPOINT_ID (R614): each bus, 0 SMBus and 1 I3C, holds its own endpoint ID. -/
def execSetEndpointId (bus eid : Nat) (s : State) : Result :=
  s.pldmCmd (fun s => if 2 ≤ bus then s else { s with fw := { s.fw with eids := Store.put s.fw.eids bus (eid % 256) } })

end Sys2Proof.Machine
end

