-- ==== Sys2Proof/Machine/PatternOps.lean ====
section
/-!
DEFINITION. Template images and their place in Pattern Memory (R71, R72, R628), the check that a template passes before it
is stored (R52 to R59, R87, R136, R416), ramp rows put into its body (R59), and graph buffers (R520, R49).
-/

namespace Sys2Proof.Machine

/-! ### Template bodies -/

/-- R628. The command-table entry at byte `off` of a body. -/
def tplCmdAt (body : List Byte) (off : Nat) : TemplateCmd :=
  let b (i k : Nat) : Nat := leField body (off + i) k
  let d := Descriptor.ofBytes (slice body (off + 32) 256)
  { firstRow := b 0 4, rows := b 4 2 + 1, cslot := bits (b 6 1) 0 4, dies := setBits (b 7 1) 2, desc := d
    rsvd := bits (b 4 2) 8 8 + bits (b 6 1) 4 4 + bits (b 7 1) 2 6 + b 8 24 + d.rsvd }

/-- R72, R628. A template whose body is `body`: `rows` row records first, `cmds` command-table entries last. -/
def Template.withBody (t : Template) (body : List Byte) (rows cmds : Nat) : Template :=
  { t with
    rows := (List.range rows).map (fun i => recordAt body (256 * i))
    cmds := (List.range cmds).map (fun i => tplCmdAt body (body.length - 288 * (cmds - i)))
    length := body.length
    digest := Config.sha256 body }

/-- R72, R628. The reserved bits of a template's row records and command table. -/
def Template.rsvd (t : Template) : Nat :=
  ((t.rows.map (·.rsvd)) ++ (t.cmds.map (·.rsvd))).foldl (· + ·) 0

/-- R60, R72. Bucket, level and id in range. -/
def Template.bucketOk (t : Template) : Bool :=
  t.id != 0xFFFF && t.level ≤ 7 && t.ctxClass ≤ 10 && (List.range 13).any (fun i => t.seqCap == 2 ^ i) &&
    t.tokCap % 64 == 0 && 64 ≤ t.tokCap && t.tokCap ≤ 65536

/-- R72. A template without rows, of the id, model, level and bucket asked for. -/
def Template.ask (id model level ctxClass seqCap tokCap : Nat) : Template :=
  { id := id, model := model, level := level, verified := false, ctxClass := ctxClass, seqCap := seqCap, tokCap := tokCap
    rows := [], cmds := [], offset := 0, length := 0, digest := 0, dir := 0 }

/-- R628. The template and the body that an image spells; `none` where the header, a reserved byte, the length or the digest
is wrong. -/
def imageTemplate (img : List Byte) : Option (Template × List Byte) :=
  let u (i k : Nat) : Nat := leField img i k
  let body := img.drop 128
  let t := Template.ask (u 8 2) (bits (u 10 1) 0 3) (bits (u 10 1) 3 4) (u 11 1) (u 12 2 + 1) (u 14 4 + 1)
  let rows := u 18 4
  let n := u 24 4
  let rsvd := u 6 2 + u 22 2 + u 28 4 + u 40 24 + u 96 32
  if u 0 4 ≠ 0x54374E44 ∨ u 4 1 ≠ 1 ∨ u 5 1 ≠ 0 ∨ rsvd ≠ 0 ∨ n = 0 ∨ 4096 < n ∨ rows = 0 ∨
      img.length ≠ 128 + u 32 8 ∨ body.length < 256 * rows + 288 * n ∨
      Config.sha256 body ≠ BitVec.ofNat 256 (u 64 32) then none
  else
    let t := t.withBody body rows n
    if t.rsvd ≠ 0 ∨ !t.bucketOk ∨ t.cmds.any (fun c => c.dies.isEmpty) then none else some (t, body)

/-! ### Pattern Memory -/

/-- R72. The 64 bytes of a directory entry. -/
def Template.entryBytes (t : Template) : List Byte :=
  leBytes t.id 2 ++ leBytes (t.model + 8 * t.level + 128 * b2n t.verified) 1 ++ leBytes t.ctxClass 1 ++
    leBytes (t.seqCap - 1) 2 ++ leBytes (t.tokCap - 1) 4 ++ leBytes t.rows.length 4 ++ leBytes 0 2 ++
    leBytes t.offset 8 ++ leBytes t.length 8 ++ leBytes t.digest.toNat 32

/-- R71, R72. The directory: 1,024 entries, empty where no template is. -/
def directoryBytes (l : List Template) : List Byte :=
  (List.range 1024).flatMap (fun i => (l.find? (fun t => t.dir == i)).elim (leBytes 0xFFFF 64) Template.entryBytes)

/-- Write bytes at an offset of Pattern Memory. -/
def State.writePm (s : State) (off : Nat) (l : List Byte) : State :=
  { s with tier := { s.tier with near := Memory.writeBytes s.tier.near (256 * s.patternMem.1 + off) l } }

/-- R71, R81. Pattern Memory holds the templates `l`: the directory, its digest and the count are written. -/
def State.setTemplates (s : State) (l : List Template) : State :=
  let dir := directoryBytes l
  let s := { s with seq := { s.seq with templates := l } }
  let head := leBytes (s.reg Reg.SEQ_PM_SIZE_SIZE + 1) 4 ++ leBytes l.length 2 ++ leBytes 0 2 ++
    leBytes (Config.sha256 dir).toNat 32 ++ leBytes 0 24
  ((s.writePm 0 head).writePm 0x40 dir).set Reg.SEQ_BUILD_STATUS_TEMPLATES (l.filter (·.verified)).length

/-- R71. The lowest 4 KiB-aligned offset at which `n` bytes lie beside templates `l` (assumption 11). -/
def State.pmFit (s : State) (l : List Template) (n : Nat) : Option Nat :=
  let spans := l.map (fun t => (t.offset, t.length))
  let starts := sortBy (0x11000 :: spans.map (fun p => ceilDiv (p.1 + p.2) 4096 * 4096)) (fun a b => a ≤ b)
  starts.find? (fun a => a + n ≤ 256 * s.patternMem.2 && !spans.any (fun p => overlaps p (a, n)))

/-- R74. The templates besides the one of an id. -/
def State.otherTemplates (s : State) (id : Nat) : List Template := s.seq.templates.filter (fun t => t.id != id)

/-- R71, R74. Whether a body of `n` bytes could be stored as template `id`. -/
def State.pmRoom (s : State) (id n : Nat) : Bool :=
  let l := s.otherTemplates id
  l.length < 1024 && (s.pmFit l n).isSome

/-- R71, R74. Store a checked template; the state is unchanged where it does not fit. -/
def State.storeTemplate (s : State) (t : Template) (body : List Byte) : Option State :=
  let l := s.otherTemplates t.id
  match s.pmFit l body.length, (List.range 1024).find? (fun i => !l.any (fun x => x.dir == i)) with
  | some off, some i =>
    let t := { t with offset := off, dir := i, verified := true }
    some ((s.writePm off body).setTemplates (sortBy (l ++ [t]) (fun a b => a.id ≤ b.id)))
  | _, _ => none

/-- R74. Whether a queued or running step uses a template. -/
def State.templateUsed (s : State) (id : Nat) : Bool :=
  s.rosters.any (fun r => r.template == id) || s.seq.step.any (fun st => st.template == id)

/-! ### The check -/

/-- R32, R52, R59, R416. The settings of a check of a template at `level`. -/
def State.checkCfg (s : State) (level : Nat) (mayRamp : Bool) : CheckCfg :=
  let pipe := s.reg Reg.LNK_FABRIC_ROLE != 0
  { us := s.reg Reg.SEQ_ROW_CFG_ROW_LEN + 1, selvage := s.reg Reg.SEQ_ROW_CFG_SELVAGE
    margin := s.reg Reg.SEQ_ROW_CFG_MARGIN, level := level, slope := s.reg Reg.PWR_RAMP_SLOPE
    base := if pipe then some s.fab.floorW else none, mayRamp := mayRamp && !pipe }

/-- R59. A row record moved behind `n` inserted rows: its stream offsets grow by `16 × n` units. -/
def shiftRecord (n : Nat) (r : List Byte) : List Byte :=
  (List.range 16).flatMap (fun i =>
    let d := leField r (8 * i) 8
    leBytes (if bits d 32 12 = 0 then d else d + 16 * n) 8) ++ slice r 128 128

/-- R58, R72. The bytes of a ramp row's record. -/
def rampBytes (target : Nat) : List Byte :=
  leBytes 0 196 ++ leBytes 1 1 ++ leBytes target 2 ++ leBytes 0 57

/-- R59. A body with ramp rows put before its rows, `ramps` telling how many before each and to which target: the rows of a
command count every row it spans. -/
def Template.withRamps (t : Template) (body : List Byte) (ramps : List (Nat × Nat)) : Template × List Byte :=
  let total := (ramps.map (·.1)).foldl (· + ·) 0
  if total = 0 then (t, body)
  else
    let before (i : Nat) : Nat := ((ramps.take (i + 1)).map (·.1)).foldl (· + ·) 0
    let rows := ramps.zipIdx.flatMap (fun (p : (Nat × Nat) × Nat) =>
      (List.replicate p.1.1 (rampBytes p.1.2)).flatten ++ shiftRecord total (slice body (256 * p.2) 256))
    let n := t.rows.length
    let k := t.cmds.length
    let streams := (body.drop (256 * n)).take (body.length - 256 * n - 288 * k)
    let cmds := t.cmds.zipIdx.flatMap (fun (p : TemplateCmd × Nat) =>
      let last := p.1.firstRow + p.1.rows - 1
      let first := p.1.firstRow + before p.1.firstRow
      let raw := slice body (body.length - 288 * (k - p.2)) 288
      leBytes first 4 ++ leBytes (last + before last - first) 2 ++ raw.drop 6)
    let body := rows ++ streams ++ cmds
    (t.withBody body (n + total) k, body)

/-- What the check of a template answers: refused with the command and row of an instruction; failed with a code of R53, the
command and the row; or the template as Pattern Memory holds it, with its body. -/
inductive TplRes where
  | refuse (cmd row : Nat)
  | fail (code cmd row : Nat)
  | good (t : Template) (body : List Byte)
  deriving DecidableEq, Repr

/-- R52 to R59, R87, R136. Check a template against the model in its slot. -/
def State.checkTemplate (s : State) (t : Template) (body : List Byte) (mayRamp : Bool) : TplRes :=
  let c := s.checkCfg t.level mayRamp
  let all := placedOf t.rows t.cmds
  let e := s.checkEnv t.model t.level t.tokCap t.cmds
  let l : LoadEnv := ⟨e, all, c.cycles, s.area⟩
  match l.refusal t.rows with
  | some x => .refuse x.1 x.2
  | none =>
    let tier (cmd : Option Nat) (opd : Nat) : Option Tier :=
      (cmd.bind (fun k => t.cmds[k]?)).bind (fun x => (x.desc.operands[opd]?).bind (fun o => (s.tensor? o.handle).map (·.tier)))
    match checkRows c e tier t.rows (chargeAll e all) with
    | .bad code cmd row => .fail code cmd row
    | .good ramps =>
      let r := t.withRamps body ramps
      .good r.1 r.2

/-! ### Graph buffers -/

/-- R49. The tasks reached from `from'` along edges (producer, consumer), itself among them. -/
def reached (edges : List (Nat × Nat)) : Nat → List Nat → List Nat
  | 0, l => l
  | n + 1, l => reached edges n ((l ++ (edges.filter (fun e => l.contains e.1)).map (·.2)).dedup)

/-- R49, R50. Whether task `b` depends on task `a`. -/
def depends (edges : List (Nat × Nat)) (tasks a b : Nat) : Bool :=
  (reached edges tasks ((edges.filter (fun e => e.1 == a)).map (·.2))).contains b

/-- R520. The graph that a buffer spells, and its edges. -/
structure GraphBuf where
  fn : Nat
  model : Nat
  graphId : Nat
  descs : List Descriptor
  edges : List (Nat × Nat)
  deriving DecidableEq, Repr

/-- R520, R49. The graph of a buffer of `n` bytes; `none` where its form, a reserved bit, an edge or a cycle is wrong. -/
def graphBuf (l : List Byte) (n : Nat) : Option GraphBuf :=
  let u (i k : Nat) : Nat := leField l i k
  let tasks := bits (u 6 2) 0 12 + 1
  let k := bits (u 8 4) 0 17
  let at' := 64 + 256 * tasks
  let edges := (List.range k).map (fun i =>
    let e := u (at' + 4 * i) 4
    (bits e 0 12, bits e 12 12, bits e 24 8))
  let es := (edges.map (fun e => (e.1, e.2.1))).dedup
  let rsvd := bits (u 6 2) 12 4 + bits (u 8 4) 17 15 + bits (u 12 2) 11 5 + bits (u 14 1) 3 5 + u 15 1 + u 28 36 +
    (edges.map (·.2.2)).foldl (· + ·) 0
  if l.length ≠ n ∨ u 24 4 ≠ n ∨ n ≠ at' + 4 * k ∨ u 0 4 ≠ 0x47374E44 ∨ u 4 1 ≠ 1 ∨ u 5 1 ≠ 0 ∨ 65536 < k ∨ rsvd ≠ 0 ∨
      es.any (fun e => tasks ≤ e.1 || tasks ≤ e.2 || e.1 == e.2) ∨
      (List.range tasks).any (fun i => depends es tasks i i) then none
  else
    some ⟨bits (u 12 2) 0 11, bits (u 14 1) 0 3, u 16 8,
      (List.range tasks).map (fun i => Descriptor.ofBytes (slice l (64 + 256 * i) 256)), es⟩

/-- R315, R295. Whether two tasks of a graph must be ordered and are not. -/
def State.unordered (s : State) (g : GraphBuf) : Bool :=
  let n := g.descs.length
  let ds := g.descs.zipIdx
  let free (a b : Nat) : Bool := !depends g.edges n a b && !depends g.edges n b a
  let shares (a b : Descriptor) : Bool :=
    (s.codeStreams a).any (fun k => (s.codeStreams b).contains k) || (a.kind == 1 && s.codeShares a && s.codeShares b)
  let writes (d : Descriptor) (m : Handle) : Bool := (d.withRoles [.out, .outScale, .kv]).contains m
  let reads (d : Descriptor) (m : Handle) : Bool := d.motif == m || (d.withRoles [.inp, .inScale]).contains m
  let motif (d : Descriptor) : List Handle :=
    (d.withRoles [.out]).filter (fun h => (s.tensor? h).any (fun t => t.kind == .motif))
  ds.any (fun a => ds.any (fun b => a.2 != b.2 && free a.2 b.2 &&
    ((a.2 < b.2 && shares a.1 b.1) || (a.1.kind == 2 && (motif a.1).any (fun m => writes a.1 m && reads b.1 m)))))

/-- R49, R118, R520. The refusal of a graph sent by function `fn`: its status and payload. INCOMPLETE is left to the rows
that run, since another task of the graph may write the operand. -/
def State.graphRefusal (s : State) (fn : Nat) (g : GraphBuf) : Option (Status × List Byte) :=
  if g.descs.any (fun d => d.badVersion || d.badArg) then some (.badArg, [])
  else if g.fn ≠ fn ∨ g.descs.any (fun d => d.fn != g.fn || s.descDenied fn d) then some (.denied, [])
  else if s.unordered g then some (.badArg, [])
  else
    (g.descs.findSome? (fun d => match s.descRefusal fn d g.model with
      | some (.incomplete, _) => none
      | r => r))

/-- R292. Whether a graph's commands use LINK instructions. -/
def State.usesLinks (s : State) (g : GraphBuf) : Bool :=
  g.descs.any (fun d => (s.codeOf d).any (fun p => opStage p.op == 7))

/-- A number for a graph that no graph, submitted or being built, has. -/
def State.freshGraph (s : State) : Nat :=
  let ids := s.seq.graphs.map (·.id) ++ s.seq.builds.map (fun j => match j with
    | .graph _ g => g.id
    | .build _ g _ _ => g.id
    | _ => 0)
  ids.foldl max 0 + 1

/-- R49. A graph ready to be built. -/
def State.newGraph (s : State) (g : GraphBuf) : Graph :=
  { id := s.freshGraph, graphId := g.graphId, fn := g.fn, model := g.model, fabric := s.usesLinks g
    tasks := g.descs.zipIdx.map (fun (d : Descriptor × Nat) =>
      ⟨d.1, (g.edges.filter (fun e => e.2 == d.2)).map (·.1), none, false, 0⟩) }

end Sys2Proof.Machine
end

