-- ==== Sys2Proof/Machine/Swatches.lean ====
section
/-!
DEFINITION. The swatch messages (R247 to R253): SWATCH_BUILD, SWATCH_RELEASE, SWATCH_IMPORT and SWATCH_QUERY; and the
sealed blobs of export and import (R478, R479).
-/

namespace Sys2Proof.Machine

/-! ### Blobs -/

/-- R478. Bytes of a chunk. -/
def blobChunk : Nat := 2 ^ 30

/-- R478. The info string "dn7 export v1". -/
def blobInfo : List Byte :=
  [0x64#8, 0x6E#8, 0x37#8, 0x20#8, 0x65#8, 0x78#8, 0x70#8, 0x6F#8, 0x72#8, 0x74#8, 0x20#8, 0x76#8, 0x31#8]

/-- R478. The header of a blob, as its fields. -/
structure BlobHead where
  magic : Nat
  version : Nat
  kind : Nat
  format : Nat
  size : Nat
  kspec : Nat
  digest : BitVec 256
  nonce : Nat
  weights : BitVec 256
  scaleSize : Nat
  scaleSpec : Nat
  scaleFormat : Nat
  rsvd : Nat
  deriving DecidableEq, Repr

/-- R478. The header that 256 bytes spell. -/
def BlobHead.ofBytes (l : List Byte) : BlobHead :=
  ⟨leField l 0 4, leField l 4 2, leField l 6 1, leField l 7 1, leField l 8 4, leField l 12 4,
   BitVec.ofNat 256 (leField l 16 32), leField l 48 8, BitVec.ofNat 256 (leField l 56 32), leField l 88 4, leField l 92 4,
   leField l 96 1, leField l 97 159⟩

/-- R478. The 256 bytes of a header. -/
def BlobHead.bytes (h : BlobHead) : List Byte :=
  leBytes h.magic 4 ++ leBytes h.version 2 ++ leBytes h.kind 1 ++ leBytes h.format 1 ++ leBytes h.size 4 ++
    leBytes h.kspec 4 ++ leBytes h.digest.toNat 32 ++ leBytes h.nonce 8 ++ leBytes h.weights.toNat 32 ++
    leBytes h.scaleSize 4 ++ leBytes h.scaleSpec 4 ++ leBytes h.scaleFormat 1 ++ leBytes h.rsvd 159

/-- R478. The magic 44 4E 37 58. -/
def blobMagic : Nat := 0x58374E44

/-- R478. The length of a blob of `n` payload bytes. -/
def blobLength (n : Nat) : Nat := 256 + n + 16 * ceilDiv n blobChunk

/-- R478. The nonce of chunk `c`. -/
def blobNonce (nonce c : Nat) : Nat := nonce + 2 ^ 64 * c

/-- R478. The sealed chunks of a payload under key `k`. -/
def sealChunks (k : BitVec 256) (head : List Byte) (nonce : Nat) (payload : List Byte) : List Byte :=
  (List.range (ceilDiv payload.length blobChunk)).flatMap (fun c =>
    let r := Config.gcmSeal k (blobNonce nonce c) head (slice payload (blobChunk * c) blobChunk)
    r.1 ++ leBytes r.2.toNat 16)

/-- R479. The payload of `n` bytes that sealed chunks open to; nothing where a tag fails. -/
def openChunks (k : BitVec 256) (head : List Byte) (nonce n : Nat) (l : List Byte) : Option (List Byte) :=
  (List.range (ceilDiv n blobChunk)).foldl (fun (a : Option (List Byte)) c =>
    a.bind (fun done =>
      let len := min blobChunk (n - blobChunk * c)
      let part := slice l ((blobChunk + 16) * c) len
      let tag := BitVec.ofNat 128 (leField l ((blobChunk + 16) * c + len) 16)
      (Config.gcmOpen k (blobNonce nonce c) head part tag).map (done ++ ·))) (some [])

/-- R478. The export key of a blob under the tenant key of function `fn`. -/
def State.blobKey (s : State) (fn nonce : Nat) : Option (BitVec 256) :=
  (Store.get? s.sec.keys fn).map (fun p => Config.hkdf p.key nonce blobInfo)

/-- R478. The weight digest of a tensor's base model; zero for a KIND that has none. -/
def State.weightsOf (s : State) (t : Tensor) : BitVec 256 :=
  match t.kind with
  | .kv | .swatch | .motif => (s.model (bits t.kspec 0 3)).digest
  | _ => 0

/-- R478. The blob of a tensor and its linked scale tensor under a NONCE. -/
def State.blobOf (s : State) (t : Tensor) (key : BitVec 256) (nonce : Nat) : List Byte :=
  let sc := if t.kind = .scale then none else s.scaleOf t
  let scBytes := sc.elim [] (fun u => s.tensorBytes u 0 u.size)
  let head : BlobHead :=
    { magic := blobMagic, version := 1, kind := t.kind.num, format := t.format, size := t.size, kspec := t.kspec
      digest := Config.sha256 (s.liveBytes t ++ scBytes), nonce := nonce, weights := s.weightsOf t
      scaleSize := sc.elim 0 (·.size), scaleSpec := sc.elim 0 (·.kspec), scaleFormat := sc.elim 0 (·.format), rsvd := 0 }
  head.bytes ++ sealChunks key head.bytes nonce (s.tensorBytes t 0 t.size ++ scBytes)

/-- R433. The live bytes, at `n` positions, of key/value data of `layers` layers in a buffer. -/
def kvLive (l : List Byte) (layers lpt capacity n : Nat) : List Byte :=
  (List.range layers).flatMap (fun y => slice l (256 * kvLine capacity lpt y 0) (256 * n * lpt))

/-- R433, R478. The positions at which the digest of a blob's data agrees, for KV and SWATCH; 0 for another KIND. `none` where
it does not agree. -/
def State.blobLive (s : State) (h : BlobHead) (payload : List Byte) : Option Nat :=
  let data := payload.take (256 * h.size)
  let sc := payload.drop (256 * h.size)
  if h.kind = 2 ∨ h.kind = 4 then
    let p := (s.model (bits h.kspec 0 3)).params
    let cap := bits h.kspec 3 23 * 256
    (List.range (cap + 1)).find? (fun n => Config.sha256 (kvLive data p.layers p.kvLpt cap n ++ sc) == h.digest)
  else if Config.sha256 (data ++ sc) = h.digest then some 0
  else none

/-- R479. What opening a blob gives: its header, payload and live positions; or why it fails. -/
def State.openBlob (s : State) (fn : Nat) (src : Tensor) (l : List Byte) : Except Status (BlobHead × List Byte × Nat) :=
  let h := BlobHead.ofBytes l
  let n := 256 * (h.size + h.scaleSize)
  let kindOk := h.kind = 0 ∨ h.kind = 2 ∨ h.kind = 3 ∨ h.kind = 4
  if src.tier ≠ .host ∨ h.magic ≠ blobMagic ∨ h.version ≠ 1 ∨ h.rsvd ≠ 0 ∨ !kindOk ∨ h.size = 0 ∨
      256 * src.size < blobLength n ∨ !(Fmt.ofCode h.format).isSome ∨
      !(h.scaleSize = 0 ∨ (Fmt.ofCode h.scaleFormat).any Fmt.isScale) then .error .badArg
  else
    match s.blobKey fn h.nonce with
    | none => .error .denied
    | some k =>
      match openChunks k (slice l 0 256) h.nonce n (l.drop 256) with
      | none => .error .faulted
      | some payload =>
        match s.blobLive h payload with
        | none => .error .faulted
        | some live => .ok (h, payload, live)

/-- R479. The new tensors of an opened blob, allotted to a function and filled. -/
def State.placeBlob (s : State) (fn : Nat) (h : BlobHead) (payload : List Byte) :
    Except (Status × State × List Byte) (Tensor × Option Tensor × State) :=
  let kind := (TKind.ofNum h.kind).getD .data
  let hasScale := h.scaleSize != 0
  let q := s.quota fn
  match s.tableFull fn (if hasScale then 2 else 1) with
  | some st => .error (st, s, [])
  | none =>
    if kind = .motif ∧ q.motifLimit < q.motifUsed + 1 then .error (.quota, s, [])
    else
      let sizes := h.size :: (if hasScale then [h.scaleSize] else [])
      match s.allocNears fn (classOf fn) (sizes.map (fun n => ceilDiv n 16)) with
      | (.refused st s' p, _) => .error (st, if st = .busyRetry then s' else s, p)
      | (.good _ s, locs) =>
        let t := { s.blankTensor fn kind h.format h.size with kspec := h.kspec, loc := locs.headD 0 }
        let s := (s.enter t).writeNear t.loc (natLines (leField payload 0 (256 * h.size)) h.size)
        let q := s.quota fn
        let s := if kind = .motif then s.setQuota fn { q with motifUsed := q.motifUsed + 1 } else s
        if hasScale then
          let u := { s.blankTensor fn .scale h.scaleFormat h.scaleSize with
            kspec := h.scaleSpec, loc := (locs.drop 1).headD 0, scaleLink := t.idx }
          let s := (s.enter u).writeNear u.loc (natLines (leField payload (256 * h.size) (256 * h.scaleSize)) h.scaleSize)
          let t := { t with scaleLink := u.idx }
          .ok (t, some u, (s.setTensor t).showSpace)
        else .ok (t, none, s.showSpace)

/-! ### Messages -/

/-- R518. The handles of a list whose count is at byte `i`. -/
def Mail.handles (m : Mail) (i : Nat) : List Handle :=
  (List.range (min (m.u i 4) 8)).map (fun k => m.handle (alignUp (i + 4) 8 + 8 * k))

/-- SWATCH_BUILD (R247 to R250). The tokens are run as a sequence of the requesting function; the reply comes when the
swatch is sealed. -/
def execSwatchBuild (m : Mail) (s : State) : Result :=
  let toks := m.handle 8
  let motif := m.handle 16
  let n := m.u 24 4
  let on := m.handles 24
  let e := 32 + 8 * (min n 8)
  let mode := m.u e 2
  let cap := ceilDiv (m.u (e + 4) 4) 256
  let slot := m.u (e + 8) 2
  ok (s.mail m
    { type := 0x0320, minMinor := 0, longReply := false, size := e + 10
      args := fun s => m.handleOk 8 && m.handleOk 16 && toks != Handle.none && n ≤ 7 && m.u 28 4 == 0 && mode ≤ 1 &&
        m.u (e + 2) 2 == 0 && slot < 8 && 1 ≤ cap && cap ≤ 4096 &&
        (mode == 0 || (s.model slot).params.posPre) && (List.range n).all (fun k => m.handleOk (32 + 8 * k))
      sender := fun _ => toks.fn == m.fn && (motif == Handle.none || motif.fn == m.fn)
      body := fun t s =>
        let mo := Store.get? s.tier.motifs (ttKey motif.fn motif.idx)
        let fnState := s.getF m.fn Reg.GLB_FN_STATE_STATE
        if (s.model slot).state ≠ 2 then .conflict ⟨0, (s.model slot).state, slot⟩
        else if fnState ≠ 1 then .conflict (s.fnConflict m.fn)
        else if motif ≠ Handle.none ∧ !mo.any (fun x => x.state == .serving && x.model == slot) then
          .conflict ⟨1, s.motifMode motif, motif.toNat⟩
        else
          match s.swatchRefusal m.fn slot motif false 0 on, s.ownTensor toks with
          | some r, _ => .fail s r.1 r.2
          | none, .error st => .fail s st []
          | none, .ok tk =>
            let len := 64 * tk.size
            let base := s.swatchLen on
            if tk.format ≠ 8 ∨ 1048576 < len ∨ 256 * cap < len ∨ 4194304 < base + len then .fail s .badArg []
            else if tk.incomplete then .fail s .incomplete []
            else
              match s.tableFull m.fn 1 with
              | some st => .fail s st []
              | none =>
                if 16384 ≤ s.serve.seqs.length ∨ !s.classServed slot (base + len) then .fail s .noCapacity []
                else
                  let p := (s.model slot).params
                  let x := s.blankTensor m.fn .swatch 3 (p.layers * (256 * cap) * p.kvLpt)
                  match s.allocNear m.fn x.keyIndex x.units with
                  | .refused st s pl => .fail s st pl
                  | .good loc s =>
                    let x := { x with loc := loc, kspec := slot + 8 * cap }
                    let w : Swatch := { state := 0, model := slot, relocatable := mode == 1, length := len, basePos := base
                                        motifDigest := s.motifDigest motif, digest := 0, pins := 0, done := 0
                                        ticket := some t }
                    let s := (s.enter x).setSwatch x.key w
                    let id := s.freshSeq
                    let q : SeqRec :=
                      { fn := m.fn, model := slot, kv := x.handle, tokens := toks, tokNext := 0, remain := len, copied := 0
                        motif := motif, swatches := on, allowBase := false, swLen := base, rng := 0, maxNew := 0
                        fixedSlices := false, tag := 0, phase := .prefill, pos := base, sampled := 0, closing := false
                        lastRow := 0, lastStep := 0, lastTime := 0, queue := 0 }
                    let s := s.pin on
                    let s := { s with serve := { s.serve with seqs := Store.put s.serve.seqs id q
                                                              builds := Store.put s.serve.builds id x.key } }
                    .later s.showSeqs.showSpace })

/-- R250, R252. A swatch that is released while it is being built: its sequence ends and the build fails. -/
def State.abandonBuild (s : State) (k : Nat) : State :=
  match s.serve.builds.find? (fun b => b.2 == k) with
  | some b => s.finishSeq b.1 3 .faulted
  | none => s.failSwatch k

/-- SWATCH_RELEASE (R250, R252). -/
def execSwatchRelease (m : Mail) (s : State) : Result :=
  let h := m.handle 8
  ok (s.mail m
    { type := 0x0321, minMinor := 0, longReply := false, size := 16, args := fun _ => m.handleOk 8 && h != Handle.none
      sender := fun _ => h.fn == m.fn
      body := fun _ s =>
        let k := ttKey h.fn h.idx
        match s.tensor? h, Store.get? s.tier.swatches k with
        | none, _ => .fail s .generationStale []
        | some _, none => .fail s .badArg []
        | some t, some w =>
          if w.pins ≠ 0 ∨ t.moving ∨ s.named k then .conflict (t.conflict w.state)
          else if w.state = 0 then .done (s.abandonBuild k) []
          else if s.inStep k then .conflict (t.conflict w.state)
          else .done (s.dropPair t) [] })

/-- SWATCH_IMPORT (R253, R478, R479): a sealed blob of KIND SWATCH becomes a sealed swatch. -/
def execSwatchImport (m : Mail) (s : State) : Result :=
  let h := m.handle 8
  let mode := m.u 24 2
  ok (s.mail m
    { type := 0x0322, minMinor := 0, longReply := false, size := 64
      args := fun _ => m.handleOk 8 && h != Handle.none && mode ≤ 1 && m.u 26 6 == 0 && 1 ≤ m.u 16 4 && m.u 16 4 ≤ 1048576
      sender := fun s => h.fn == m.fn && (Store.get? s.sec.keys m.fn).isSome
      body := fun _ s =>
        match s.ownTensor h with
        | .error st => .fail s st []
        | .ok src =>
          match s.openBlob m.fn src m.buffer with
          | .error st => .fail s st []
          | .ok (b, payload, live) =>
            let slot := bits b.kspec 0 3
            let x := s.model slot
            if b.kind ≠ 4 ∨ (mode = 1 ∧ !x.params.posPre) ∨ x.state ≠ 2 ∨ b.weights ≠ x.digest ∨ b.size ≠ s.kvLines b.kspec then
              .fail s .badArg []
            else if live ≠ m.u 16 4 then .fail s .faulted []
            else
              match s.placeBlob m.fn b payload with
              | .error e => .fail e.2.1 e.1 e.2.2
              | .ok (t, _, s) =>
                let w : Swatch := { state := 1, model := slot, relocatable := mode == 1, length := live, basePos := m.u 20 4
                                    motifDigest := BitVec.ofNat 256 (m.u 32 32), digest := b.digest, pins := 0
                                    done := live, ticket := none }
                .done (s.setSwatch t.key w) (leBytes t.handle.toNat 8) })

/-- R248. The 128 bytes of a swatch record; without digests for an asker that may not see them. -/
def Swatch.bytes (w : Swatch) (t : Tensor) (digests : Bool) : List Byte :=
  leBytes t.handle.toNat 6 ++ leBytes t.fn 2 ++ leBytes w.state 1 ++ leBytes (w.model + 8 * b2n w.relocatable) 1 ++
    leBytes 0 2 ++ leBytes w.length 4 ++ leBytes w.basePos 4 ++ leBytes 0 4 ++
    leBytes (if digests then w.motifDigest.toNat else 0) 32 ++ leBytes (if digests then w.digest.toNat else 0) 32 ++
    leBytes 0 40

/-- SWATCH_QUERY (R248, R254). -/
def execSwatchQuery (m : Mail) (s : State) : Result :=
  let h := m.handle 8
  ok (s.mail m
    { type := 0x0323, minMinor := 0, longReply := true, size := 16, args := fun _ => m.handleOk 8 && h != Handle.none
      sender := fun _ => h.fn == m.fn || m.fn == 0
      body := fun _ s =>
        match s.tensor? h, Store.get? s.tier.swatches (ttKey h.fn h.idx) with
        | none, _ => .fail s .generationStale []
        | some _, none => .fail s .badArg []
        | some t, some w => .done s (w.bytes t (m.fn != 0)) })

end Sys2Proof.Machine
end

