-- ==== Sys2Proof/Machine/Security.lean ====
section
/-!
DEFINITION. Tenancy and attestation: the 0x06xx messages but those of zeroisation and deferral (R457, R467, R478, R479, R491),
SPDM sessions, keys, policies and measurements (R468 to R477, R492), IDE and TDISP (R486, R487).
-/

namespace Sys2Proof.Machine

/-! ### Functions -/

/-- FUNC_ENABLE (R457, R311, R346, R477, R595): space that held extents take stays counted. -/
def execFuncEnable (m : Mail) (s : State) : Result :=
  let fn := m.u 8 2
  ok (s.mail m
    { type := 0x0601, minMinor := 0, longReply := false, size := 10, args := fun _ => 1 ≤ fn && fn ≤ 1024
      sender := fun _ => m.fn == 0
      body := fun _ s =>
        if s.getF fn Reg.GLB_FN_STATE_STATE ≠ 0 ∨ (Store.get? s.sec.resets fn).isSome then .conflict (s.fnConflict fn)
        else
          let q := s.quota fn
          let epoch := (Store.get? s.tier.ctx fn).elim 0 (·.epoch)
          let s := s.setQuota fn { Quota.zero with deepUsed := q.deepUsed, tensorUsed := q.tensorUsed }
          let s := { s with
            tier := { s.tier with ctx := Store.put s.tier.ctx fn (CtxBlock.init fn (epoch + 1)) }
            sec := { s.sec with touch := Store.erase s.sec.touch fn, touchOver := s.sec.touchOver.filter (· != fn) } }
          .done ((s.setF fn Reg.GLB_FN_STATE_STATE 1).mirrorCtx fn) [] })

/-- FUNC_DISABLE (R457, R488): the reply comes when the reset is done. -/
def execFuncDisable (m : Mail) (s : State) : Result :=
  let fn := m.u 8 2
  ok (s.mail m
    { type := 0x0602, minMinor := 0, longReply := false, size := 10, args := fun _ => 1 ≤ fn && fn ≤ 1024
      sender := fun _ => m.fn == 0
      body := fun t s =>
        if (Store.get? s.sec.resets fn).isSome then .fail s .busyRetry []
        else .later (s.startReset fn 2 (some t)) }).settleResets

/-- SPDM_TUNNEL (R491, R517): SPDM messages for the RTP, and the RTP's answer. -/
def execSpdmTunnel (m : Mail) (reply : List Byte) (s : State) : Result :=
  ok (s.mail m
    { type := 0x0603, minMinor := 0, longReply := true, size := max 8 m.payload.length, args := fun _ => true
      sender := fun _ => true, body := fun _ s => .done s reply })

/-- R494. A function's key state, TDI state and touch-log length. -/
def State.secOf (s : State) (fn : Nat) : Nat × Nat × Nat :=
  (b2n (Store.get? s.sec.keys fn).isSome, Store.getD s.sec.tdi fn 0, (Store.getD s.sec.touch fn []).length)

/-- SEC_QUERY (R491). -/
def execSecQuery (m : Mail) (s : State) : Result :=
  let fn := m.u 8 2
  ok (s.mail m
    { type := 0x0604, minMinor := 0, longReply := false, size := 10, args := fun _ => fn ≤ 1024
      sender := fun _ => m.fn == 0 || m.fn == fn
      body := fun _ s =>
        let x := s.secOf fn
        .done s (leBytes x.1 2 ++ leBytes x.2.1 2 ++ leBytes x.2.2 4) })

/-- SVN_COMMIT (R467): the fused SVN of a class becomes that of the running image; fuses never go back. -/
def execSvnCommit (m : Mail) (s : State) : Result :=
  let c := m.u 8 2
  ok (s.mail m
    { type := 0x0609, minMinor := 0, longReply := false, size := 10, args := fun _ => c < 4, sender := fun _ => m.fn == 0
      body := fun _ s =>
        let v := max (s.fusedSvn c) (s.runningSvn c)
        .done { s with sec := { s.sec with svnFused := Store.put s.sec.svnFused c v } } [] })

/-! ### Export and import -/

/-- R478. Whether a tensor may be exported: TENANT, of KIND DATA, MOTIF, SWATCH or KV. -/
def Tensor.exports (t : Tensor) : Bool :=
  t.keyIndex == 1 && (t.kind == .data || t.kind == .motif || t.kind == .swatch || t.kind == .kv)

/-- R478. The length of a tensor's blob. -/
def State.blobSize (s : State) (t : Tensor) : Nat := blobLength (256 * (t.size + (s.scaleOf t).elim 0 (·.size)))

/-- TENSOR_EXPORT (R478): the blob goes to the HOST tensor. -/
def execTensorExport (m : Mail) (s : State) : Result :=
  let h := m.handle 8
  let d := m.handle 16
  let src (s : State) := s.entry (ttKey h.fn h.idx)
  let dst (s : State) := s.entry (ttKey d.fn d.idx)
  ok (s.mail m
    { type := 0x0605, minMinor := 0, longReply := false, size := 24
      args := fun s => m.handleOk 8 && m.handleOk 16 && h != Handle.none && d != Handle.none && (src s).all Tensor.exports &&
        (dst s).all (fun u => u.tier == .host && (src s).all (fun t => s.blobSize t ≤ 256 * u.size))
      sender := fun s => h.fn == m.fn && d.fn == m.fn && (Store.get? s.sec.keys m.fn).isSome
      body := fun _ s =>
        match src s, dst s with
        | some t, some u =>
          if t.poisoned ∨ u.poisoned then .fail s .faulted []
          else if t.moving ∨ u.moving ∨ t.tier = .borrowed then .conflict (t.conflict t.tier.code)
          else if t.gen ≠ h.gen ∨ u.gen ≠ d.gen then .fail s .generationStale []
          else if t.incomplete then .fail s .incomplete []
          else
            let r := s.draw
            let nonce := r.1 % 2 ^ 64
            let s := r.2
            match s.blobKey m.fn nonce, Store.get? s.tier.hostRegs u.loc with
            | some k, some g => .done (s.hostWrite m.fn g.2.1 (s.blobOf t k nonce)) []
            | _, _ => .fail s .denied []
        | _, _ => .fail s .generationStale [] })

/-- R479, R229, R253, R332. What the KIND of an opened blob asks of its contents. -/
def State.blobFits (s : State) (b : BlobHead) (payload : List Byte) : Bool :=
  let x := s.model (bits b.kspec 0 3)
  match b.kind with
  | 3 => x.state == 2 && (MotifImage.ofBytes payload).fits x
  | 4 => x.state == 2 && b.weights == x.digest && b.size == s.kvLines b.kspec
  | 2 => b.size == s.kvLines b.kspec
  | _ => true

/-- R225, R248. What the DN7 keeps of an imported MOTIF or SWATCH beside its tensor. A blob does not carry a swatch's POS_MODE, BASE_POS
and MOTIF_DIGEST (assumption 2). -/
def State.keepBlob (s : State) (t : Tensor) (b : BlobHead) (payload : List Byte) (live : Nat) : State :=
  let slot := bits b.kspec 0 3
  if t.kind = .motif then
    { s with tier := { s.tier with motifs := Store.put s.tier.motifs t.key ⟨.resident, slot, (MotifImage.ofBytes payload).rank, 0⟩ } }
  else if t.kind = .swatch then
    let r := s.draw
    let p := r.2.draw
    let g := p.2.draw
    g.2.setSwatch t.key
      { state := 1, model := slot, relocatable := r.1 % 2 == 1, length := live, basePos := p.1 % 2 ^ 32
        motifDigest := BitVec.ofNat 256 g.1, digest := b.digest, pins := 0, done := live, ticket := none }
  else s

/-- TENSOR_IMPORT (R479): the reply carries the new handles, of the tensor and of its scale tensor. -/
def execTensorImport (m : Mail) (s : State) : Result :=
  let h := m.handle 8
  ok (s.mail m
    { type := 0x0606, minMinor := 0, longReply := false, size := 16, args := fun _ => m.handleOk 8 && h != Handle.none
      sender := fun s => m.fn != 0 && h.fn == m.fn && (Store.get? s.sec.keys m.fn).isSome
      body := fun _ s =>
        match s.ownTensor h with
        | .error st => .fail s st []
        | .ok src =>
          match s.openBlob m.fn src m.buffer with
          | .error st => .fail s st []
          | .ok (b, payload, live) =>
            if !s.blobFits b payload then .fail s .badArg []
            else
              match s.placeBlob m.fn b payload with
              | .error e => .fail e.2.1 e.1 e.2.2
              | .ok (t, u, s) =>
                .done (s.keepBlob t b payload live)
                  (leBytes t.handle.toNat 8 ++ leBytes (u.elim 0 (fun u => u.handle.toNat)) 8) })

/-! ### Measurements -/

/-- R466, R476. The digest of the running image of a class. -/
def State.imageNow (s : State) (c : Nat) : BitVec 256 :=
  let bank := s.runningBank c
  Config.imageDigest c (Store.getD s.fw.images (2 * c + bank) bank)

/-- R476. The value of a measurement block, as function `fn` may ask for it; the order of its fields is the model's. -/
def State.measurement (s : State) (fn index : Nat) : Option (List Byte) :=
  let dig (d : BitVec 256) : List Byte := leBytes d.toNat 32
  let img (c : Nat) : List Byte := dig (s.imageNow c) ++ leBytes (s.runningSvn c) 2
  let model (k : Nat) : List Byte :=
    let x := s.model k
    leBytes x.state 1 ++ leBytes (b2n x.params.secret) 1 ++ dig x.digest
  match index with
  | 0x01 => some (img 0)
  | 0x02 => some (img 1)
  | 0x03 => some (dig (s.imageNow 2) ++ dig (s.imageNow 3))
  | 0x04 => some (leBytes (s.reg Reg.SEC_STATUS_LIFECYCLE) 1 ++ (List.range 4).flatMap (fun c => leBytes (s.fusedSvn c) 2) ++
      leBytes (s.readWord 0 0x50000) 4 ++ leBytes (s.readWord 0 0x100004) 4 ++ leBytes (s.readWord 0 Reg.MTF_HOT_CFG_AREA.off) 4 ++
      leBytes (b2n (!s.sec.tdi.isEmpty)) 1 ++ leBytes (b2n (!s.sec.ide.isEmpty)) 1)
  | 0x05 => some (dig (Config.sha256 (directoryBytes s.seq.templates)))
  | 0x06 => some (s.seq.templates.flatMap (fun t => leBytes t.id 2 ++ leBytes t.model 1 ++ leBytes t.level 1 ++ dig t.digest))
  | 0x10 => some (leBytes (b2n (s.sec.touchOver.contains fn)) 1 ++ (Store.getD s.sec.touch fn []).flatMap (fun i =>
      leBytes i.kind 1 ++ leBytes 0 1 ++ leBytes i.entry 2 ++ dig i.digest))
  | 0x11 => some (((Store.get? s.tier.ctx fn).elim [] (·.bindings)).flatMap (fun b =>
      if b.mode = 0 then [] else leBytes b.handle.toNat 6 ++ leBytes b.slot 1 ++ leBytes b.mode 1 ++ dig (s.motifDigest b.handle)))
  | 0x12 => some ((s.tier.swatches.filter (fun w => w.1 / 2 ^ 24 == fn)).flatMap (fun w =>
      leBytes ((s.entry w.1).elim 0 (fun t => t.handle.toNat)) 6 ++ leBytes w.2.state 1 ++ dig w.2.digest ++ dig w.2.motifDigest))
  | 0x13 => some ((Store.get? s.sec.keys fn).elim (leBytes 0 33) (fun p => leBytes 1 1 ++ dig p.digest))
  | k => if 0x08 ≤ k ∧ k ≤ 0x0F then some (model (k - 8)) else none

/-- R471. The values 0x01 to 0x0F in index order. -/
def State.reportBytes (s : State) : List Byte := (List.range 16).flatMap (fun i => (s.measurement 0 i).getD [])

/-- R475. The port on which the RTP answers SPDM. -/
def spdmPort : Nat := 200

/-- R475, R492. The RTP's answer: a status and data. -/
def State.spdm (s : State) (st : Status) (l : List Byte) : State := s.say spdmPort (leBytes st.code 1 ++ l)

/-- GET_MEASUREMENTS (R466, R468, R476): index 0 counts the blocks, 0xFF asks for all. The signature of the alias key is open
(assumption 2). -/
def execGetMeasurements (fn index : Nat) (s : State) : Result :=
  if s.mod.off then ok s
  else
    let blocks := (List.range 0x14).filterMap (fun i => (s.measurement fn i).map (fun l => (i, l)))
    let one (b : Nat × List Byte) : List Byte := leBytes b.1 1 ++ leBytes b.2.length 4 ++ b.2
    let l := if index = 0 then leBytes blocks.length 1
      else if index = 0xFF then blocks.flatMap one
      else (blocks.filter (fun b => b.1 == index)).flatMap one
    let a := s.draw
    let b := a.2.draw
    let c := b.2.draw
    ok (c.2.spdm .ok (l ++ leBytes a.1 32 ++ leBytes b.1 32 ++ leBytes c.1 32))

/-- GET_CERTIFICATE (R468, R475): slot 0 only. -/
def execGetCertificate (slot first count : Nat) (s : State) : Result :=
  if s.mod.off then ok s
  else if slot ≠ 0 then ok (s.spdm .badArg [])
  else ok (s.spdm .ok (slice Config.certificates first count))

/-- KEY_EXCHANGE (R471, R475): at most 1,056 sessions; not in RECOVERY (R466). -/
def execKeyExchange (o : SessionOp) (s : State) : Result :=
  if s.mod.off ∨ s.flag Reg.GLB_STATUS_RECOVERY then ok s
  else if s.sec.sessions.any (fun x => x.id == o.id) ∨ (if o.base then 8 ≤ o.target else 1024 < o.target) then ok (s.spdm .badArg [])
  else if 1056 ≤ s.sec.sessions.length then ok (s.spdm .noCapacity [])
  else ok ({ s with sec := { s.sec with sessions := s.sec.sessions ++ [Session.mk o.id o.base o.target] } }.spdm .ok [])

/-- END_OF_SESSION (R470, R475). -/
def execEndOfSession (session : Nat) (s : State) : Result :=
  ok { s with sec := { s.sec with sessions := s.sec.sessions.filter (fun x => x.id != session) } }

/-! ### Keys -/

/-- R593. The entry that an extent's metadata rebuilds. -/
def Tensor.rebuilt (t : Tensor) : Tensor :=
  let e := t.extent
  { t with tier := .deep, loc := e, home := e, homeSet := true, dirty := false, incomplete := false, pinned := false, moving := false
           parked := false, gen := if t.tier = .near then nextGen t.gen else t.gen }

/-- R595. Held extents of a function whose data keys unwrap enter the Tensor Table; the others stay held. -/
def State.takeHeld (s : State) (fn : Nat) (key : BitVec 256) : State :=
  let l := Store.getD s.mod.heldExt fn []
  let mine := l.filter (fun t => Store.get? s.sec.wraps t.key == some key)
  let rest := l.filter (fun t => Store.get? s.sec.wraps t.key != some key)
  let s := { s with
    mod := { s.mod with heldExt := if rest.isEmpty then Store.erase s.mod.heldExt fn else Store.put s.mod.heldExt fn rest }
    sec := { s.sec with wraps := s.sec.wraps.filter (fun w => !mine.any (fun t => t.key == w.1)) } }
  (mine.foldl (fun (s : State) t =>
    let u := t.rebuilt
    let s := s.setTensor u
    if t.gen = u.gen then s else s.noteMoved t.handle u.handle) s).showSpace

/-- R470, R595. A key that differs from the one under which the deep extents of a function are wrapped leaves those extents held: their
entries leave the Tensor Table, and near tensors lose their homes (DESIGN CHOICE). -/
def State.holdExtents (s : State) (fn : Nat) (key : BitVec 256) : State :=
  match Store.get? s.sec.wraps fn with
  | none => s
  | some old =>
    if old = key then s
    else
      let l := (s.tier.tt.map (·.2)).filter (fun t => t.fn == fn && t.tier == .deep && t.keyIndex == 1)
      let s := ((s.tier.tt.map (·.2)).filter (fun t => t.fn == fn && t.keyIndex == 1)).foldl State.loseHome s
      { s with
        tier := { s.tier with tt := s.tier.tt.filter (fun c => !l.any (fun t => t.key == c.1)) }
        mod := { s.mod with heldExt := Store.put s.mod.heldExt fn (Store.getD s.mod.heldExt fn [] ++ l) }
        sec := { s.sec with wraps := l.foldl (fun (w : List (Nat × BitVec 256)) t => Store.put w t.key old) s.sec.wraps } }

/-- R472. A policy that is well formed for its kind. -/
def Policy.wf (p : Policy) (base : Bool) : Bool :=
  p.templates.length ≤ 1024 && p.weights.length ≤ 8 && p.code.length ≤ 256 && (base || p.code.isEmpty) && p.require < 8

/-- R471, R472. Whether the present state meets a policy's REQUIRE for a session. -/
def State.requireMet (s : State) (p : Policy) (x : Session) : Bool :=
  (!bit p.require 0 || s.reg Reg.MXA_CTRL_ZERO_GATE_EN == 0) && (!bit p.require 1 || s.reg Reg.SEC_STATUS_LIFECYCLE == 1) &&
    (!bit p.require 2 || (!x.base && Store.getD s.sec.tdi x.target 0 == 2))

/-- KEY_RELEASE (R471, R472, R477, R492, R493, R595). -/
def execKeyRelease (o : KeyReleaseOp) (s : State) : Result :=
  if s.mod.off ∨ s.flag Reg.GLB_STATUS_RECOVERY then ok s
  else
    match s.sec.sessions.find? (fun x => x.id == o.session) with
    | none => ok (s.spdm .denied [])
    | some x =>
      let loaded := if x.base then (Store.get? s.sec.baseKeys x.target).isSome else (Store.get? s.sec.keys x.target).isSome
      let ready := if x.base then (s.model x.target).state == 0 else s.getF x.target Reg.GLB_FN_STATE_STATE == 1 && x.target != 0
      if !o.policy.wf x.base then ok (s.spdm .badArg [])
      else if o.report ≠ Config.sha384 s.reportBytes ∨ !s.requireMet o.policy x ∨ !ready then ok (s.spdm .denied [])
      else if loaded then ok (s.spdm .stateConflict [])
      else
        let args := keyArgs (b2n x.base) x.target (leBytes 0 4 ++ (leBytes o.policy.digest.toNat 32).take 8)
        if x.base then
          let s := { s with sec := { s.sec with baseKeys := Store.put s.sec.baseKeys x.target o.policy } }
          ok ((s.tinkLog 0x0B03 noFn args).spdm .ok [])
        else
          let fn := x.target
          let s := { s with sec := { s.sec with
            keys := Store.put s.sec.keys fn o.policy
            touch := Store.erase s.sec.touch fn, touchOver := s.sec.touchOver.filter (· != fn) } }
          let s := (s.tinkLog 0x0B03 fn args).holdExtents fn o.policy.key
          let s := { s with sec := { s.sec with wraps := Store.put s.sec.wraps fn o.policy.key } }
          ok ((s.takeHeld fn o.policy.key).spdm .ok [])

/-- What a secured request does inside its session; outside one it is refused (R492). -/
def State.inSession (s : State) (session : Nat) (f : Session → State) : Result :=
  if s.mod.off ∨ s.flag Reg.GLB_STATUS_RECOVERY then ok s
  else
    match s.sec.sessions.find? (fun x => x.id == session) with
    | none => ok (s.spdm .denied [])
    | some x => ok (f x)

/-- KEY_DESTROY (R481, R492). -/
def execKeyDestroy (session : Nat) (s : State) : Result :=
  s.inSession session (fun x => (if x.base then s.destroyBase x.target 0 else s.destroyKey x.target 0).spdm .ok [])

/-- TOUCH_LOG_READ (R477, R492): of a function. -/
def execTouchLogRead (session : Nat) (s : State) : Result :=
  s.inSession session (fun x =>
    if x.base then s.spdm .badArg [] else s.spdm .ok ((s.measurement x.target 0x10).getD []))

/-- R472. A policy as it is answered: its digest lists and REQUIRE. -/
def Policy.bytes (p : Policy) : List Byte :=
  let ds (l : List (BitVec 256)) : List Byte := leBytes l.length 2 ++ l.flatMap (fun d => leBytes d.toNat 32)
  ds p.templates ++ ds p.weights ++ ds p.code ++ leBytes p.require 4

/-- POLICY_QUERY (R492). -/
def execPolicyQuery (session : Nat) (s : State) : Result :=
  s.inSession session (fun x =>
    match Store.get? (if x.base then s.sec.baseKeys else s.sec.keys) x.target with
    | some p => s.spdm .ok p.bytes
    | none => s.spdm .stateConflict [])

/-! ### IDE and TDISP -/

/-- Record IDE stream `n`. -/
def State.setIde (s : State) (n : Nat) (x : IdeStream) : State := { s with sec := { s.sec with ide := Store.put s.sec.ide n x } }

/-- KEY_PROG (R486): a selective stream is given its keys and the VFs whose requester IDs it carries. -/
def execKeyProg (stream : Nat) (vfs : List Nat) (s : State) : Result :=
  if 256 ≤ stream ∨ s.mod.off then ok s
  else
    let was := Store.getD s.sec.ide stream ⟨[], false, false⟩
    ok (s.setIde stream { was with vfs := vfs, keyed := true })

/-- K_SET_GO (R486): a keyed stream enters the secure state. -/
def execKSetGo (stream : Nat) (s : State) : Result :=
  match Store.get? s.sec.ide stream with
  | none => ok s
  | some x => ok (if x.keyed then s.setIde stream { x with secure := true } else s)

/-- R486, R487. A stream leaves the secure state by failure: every TDI bound to it goes to ERROR. -/
def State.ideFail (s : State) (n : Nat) (x : IdeStream) : State :=
  x.vfs.foldl (fun (s : State) vf => s.tdiError vf 1) (s.setIde n { x with secure := false })

/-- K_SET_STOP (R486): the stream's keys stop. -/
def execKSetStop (stream : Nat) (s : State) : Result :=
  match Store.get? s.sec.ide stream with
  | none => ok s
  | some x => ok (s.setIde stream { x with keyed := false, secure := false })

/-- IDE_INTEGRITY_FAIL (R486). -/
def execIdeIntegrityFail (stream : Nat) (s : State) : Result :=
  match Store.get? s.sec.ide stream with
  | none => ok s
  | some x => if x.secure then ok ((s.ideFail stream x).secErr Reg.SEC_ERR_TDISP_ERROR) else ok s

/-- R487. A TDI moves between two states. -/
def State.tdiMove (s : State) (vf src dst : Nat) : State :=
  if 1 ≤ vf ∧ vf ≤ 1024 ∧ Store.getD s.sec.tdi vf 0 = src then { s with sec := { s.sec with tdi := Store.put s.sec.tdi vf dst } } else s

/-- LOCK_INTERFACE_REQUEST (R487). -/
def execLockInterfaceRequest (vf : Nat) (s : State) : Result := ok (s.tdiMove vf 0 1)

/-- START_INTERFACE_REQUEST (R487). -/
def execStartInterfaceRequest (vf : Nat) (s : State) : Result := ok (s.tdiMove vf 1 2)

/-- TDI_CONFIG_CHANGE (R487). -/
def execTdiConfigChange (vf : Nat) (s : State) : Result := ok (s.tdiError vf 0)

end Sys2Proof.Machine
end

