-- ==== Sys2Proof/Machine/CastOn.lean ====
section
/-!
DEFINITION. Cast-on, retained settings, bind-off, and the hold-up bank (R525, R526, R584 to R601, R609).
-/

namespace Sys2Proof.Machine

/-! ### What survives a loss of power -/

/-- R593, R349. Whether a tensor comes back from the metadata of its deep extent: it has one, it is not being released, and if
it is a swatch its record is SEALED. -/
def State.survives (s : State) (t : Tensor) : Bool :=
  (t.tier == .deep || t.homeSet) && !s.sec.doomed.contains t.key && (Store.get? s.sec.resets t.fn).isNone &&
    (t.kind != .swatch || (Store.get? s.tier.swatches t.key).any (fun w => w.state == 1))

/-- R594. Lifelines that a loss of power ends: those of the mirror, and those not captured. -/
def State.losesLifelines (s : State) : State :=
  (s.twin.lifelines.filter (fun l => l.target != 0 || (l.state != 1 && l.state != 2))).foldl State.dropLifeline s

/-- R593, R595. The entries that deep metadata holds, by function. -/
def State.stash (s : State) : List (Nat × List Tensor) :=
  ((s.tier.tt.map (·.2)).filter s.survives).foldl (fun (l : List (Nat × List Tensor)) (t : Tensor) =>
    Store.put l t.fn (Store.getD l t.fn [] ++ [t])) s.mod.heldExt

/-- R345, R594, R595. The quotas after a cast-on: the PF's are the module's capacities, and held extents count. -/
def heldQuota (fn : Nat) (l : List Tensor) : Quota :=
  { (if fn = 0 then Quota.pf else Quota.zero) with
    deepUsed := (l.map (fun (t : Tensor) => 64 * t.deepUnits)).foldl (· + ·) 0, tensorUsed := l.length }

/-- R594. The tiers after a loss of power: the deep tier and what its metadata keeps. -/
def State.keptTiers (s : State) (held : List (Nat × List Tensor)) : TierState :=
  let keys := held.flatMap (fun (h : Nat × List Tensor) => h.2.map Tensor.key)
  { TierState.reset with
    deep := s.tier.deep, deepTop := s.tier.deepTop, deepFree := s.tier.deepFree, flashLines := s.tier.flashLines
    quotas := held.foldl (fun (q : List (Nat × Quota)) (h : Nat × List Tensor) => Store.put q h.1 (heldQuota h.1 h.2)) [(0, Quota.pf)]
    motifs := (s.tier.motifs.filter (fun (m : Nat × Motif) => keys.contains m.1)).map (fun (m : Nat × Motif) =>
      (m.1, { m.2 with state := MotifState.parked }))
    swatches := (s.tier.swatches.filter (fun (w : Nat × Swatch) => keys.contains w.1)).map (fun (w : Nat × Swatch) =>
      (w.1, { w.2 with pins := 0, ticket := none }))
    hostRegs := if s.mod.storePower && s.mod.storeImage.isSome then s.tier.hostRegs.filter (fun r => r.2.1 == 0) else [] }

/-- R470, R595. The keys under which the data keys of held extents are wrapped, by Tensor Table key. -/
def State.keptWraps (s : State) (held : List (Nat × List Tensor)) : List (Nat × BitVec 256) :=
  (held.flatMap (·.2)).foldl (fun (w : List (Nat × BitVec 256)) (t : Tensor) =>
    match Store.get? s.sec.wraps t.key, Store.get? s.sec.wraps t.fn with
    | some k, _ => Store.put w t.key k
    | none, some k => Store.put w t.key k
    | none, none => w) []

/-- R593, R594, R554, R365. The module after a loss of power: what deep flash, fuses and the always-on log keep, everything else at
its Reset value. -/
def State.restart (s : State) : State :=
  let s := s.losesLifelines
  let gone := (s.tier.tt.map (·.2)).filter (fun t => (t.tier == .deep || t.homeSet) && !s.survives t)
  let s := gone.foldl (fun (s : State) t => s.releaseDeep t.extent t.deepUnits) s
  let held := s.stash
  let image := if s.mod.storePower then s.mod.storeImage else none
  let kept := [Reg.SEC_STATUS_LIFECYCLE, Reg.TNK_STATUS_LOG_LOST, Reg.TNK_STATUS_FROZEN, Reg.GLB_HOLDUP_BANK_FAULT,
    Reg.FTL_STATUS_READ_ONLY, Reg.MOV_STATUS_DEEP_RO, Reg.FTL_STATUS_CHANNELS_OK, Reg.FTL_USED_MIB, Reg.FTL_HOST_WR_LO_WR_LO,
    Reg.FTL_HOST_WR_HI_WR_HI, Reg.FTL_NAND_WR_LO_NWR_LO, Reg.FTL_NAND_WR_HI_NWR_HI, Reg.FTL_LIFE_LIFE_USED,
    Reg.FTL_LIFE_SPARE_LEFT, Reg.FTL_BAD_BLOCKS_GROWN]
  let clean : State := { State.reset with
    tier := s.keptTiers held
    sec := { SecState.reset with svnFused := s.sec.svnFused, wraps := s.keptWraps held }
    twin := { TwinState.reset with lifelines := s.twin.lifelines }
    fw := { FwState.reset with
      banks := s.fw.banks, svn := s.fw.svn, newSvn := s.fw.newSvn, images := s.fw.images, activeB := s.fw.activeB }
    mod := { ModState.reset with
      copyA := s.mod.copyA, copyB := s.mod.copyB, storeImage := image, heldExt := held, refclkOk := s.mod.refclkOk }
    host := { HostState.reset with configReady := false }
    tink := { TinkState.reset with flushes := s.tink.flushes, frozen := s.tink.frozen }
    out := s.out, fresh := s.fresh, pending := s.pending }
  kept.foldl (fun (t : State) f => t.set f (s.reg f)) clean

/-! ### Cast-on -/

/-- R586, R466, R600. A step fails: READY and RECOVERY are set, and STEP holds it. The time to READY is free. -/
def State.castFail (s : State) (step : Nat) : State :=
  let r := s.draw
  let s := { r.2 with mod := { r.2.mod with steps := [] } }
  let s := ((s.set Reg.GLB_STATUS_READY 1).set Reg.GLB_STATUS_RECOVERY 1).set Reg.GLB_CASTON_STEP step
  let s := s.set Reg.GLB_CASTON_MS_MS (r.1 % 65536)
  s.tinkLog 0x0C0C noFn (leBytes (b2n (s.reg Reg.GLB_CASTON_STORE_IMAGE == 1) + 2 * b2n (s.reg Reg.GLB_FW_BANKS_TRIAL != 0) + 4) 4 ++
    leBytes (r.1 % 65536) 4)

/-- R549. A trial is rolled back: `cause` 0 boot verification, 1 a complex reset during the trial. -/
def State.rolledBack (s : State) (mask cause : Nat) : State :=
  if mask = 0 then s else (s.set Reg.GLB_FW_ERR_ROLLBACK 1).tinkLog 0x0C09 noFn (leBytes mask 1 ++ leBytes cause 1)

/-- The mask of some image classes. -/
def classMask (l : List Nat) : Nat := (l.map (fun k => 2 ^ k)).foldl (· + ·) 0

/-- R466, R549, R493. Step 2: pending banks boot together as trials if all of them verify; any other class boots its active bank, or,
where that fails, the other (DESIGN CHOICE: it is active from then on). A class with no bank that verifies is a failure.
`lastTrial` is the mask of the trial before the loss of power. -/
def State.bootImages (s : State) (o : CastOp) (lastTrial : Nat) : State :=
  let st (k : Nat) : Nat := Store.getD s.fw.banks k 2
  let pend := (List.range 4).filter (fun k => st k == 4)
  let good := pend.all (fun k => o.otherOk.getD k false)
  let trial := if good then pend else []
  let s := s.rolledBack (classMask ((List.range 4).filter (fun k => bit lastTrial k && st k == 3))) 1
  let s := if good then s else s.rolledBack (classMask pend) 0
  let banks := if good then s.fw.banks else pend.foldl (fun (b : List (Nat × Nat)) k => Store.put b k 3) s.fw.banks
  let rest := (List.range 4).filter (fun k => !trial.contains k && !o.activeOk.getD k false)
  let swap := rest.filter (fun k => Store.getD banks k 2 == 2 && o.otherOk.getD k false)
  let active := (s.fw.activeB.getD Config.activeBanks.toNat) ^^^ classMask swap
  let svn (k : Nat) : Nat := Store.getD s.fw.svn k (Config.imageSvn k (s.activeBank k)).toNat
  let fw := { s.fw with
    banks := swap.foldl (fun (b : List (Nat × Nat)) k => Store.put b k 3) banks
    svn := swap.foldl (fun (l : List (Nat × Nat)) k =>
      Store.put l k (Store.getD s.fw.newSvn k (Config.imageSvn k (1 - s.activeBank k)).toNat)) s.fw.svn
    newSvn := swap.foldl (fun (l : List (Nat × Nat)) k => Store.put l k (svn k)) s.fw.newSvn
    activeB := if swap.isEmpty then s.fw.activeB else some active }
  let s := ({ s with fw := fw }.set Reg.GLB_FW_BANKS_TRIAL (classMask trial)).showBanks
  match rest.find? (fun k => !swap.contains k) with
  | some k => (s.tinkLog 0x0B0A noFn (leBytes 1 1 ++ leBytes k 1)).castFail 2
  | none =>
    { s.set Reg.SEC_STATUS_BOOT_OK 1 with mod := { s.mod with steps := [1, 2, 3] } }.tinkLog 0x0B0A noFn (leBytes 0 2)

/-- R584. GLB_CASTON.STEP: the lowest step that runs. -/
def State.showStep (s : State) : State :=
  let done (n : Nat) : Bool := s.mod.steps.contains n
  s.set Reg.GLB_CASTON_STEP (if !done 5 || !done 6 then 4 else if !done 7 then 7 else if !done 8 then 8
    else if s.mod.storeImage.isSome then 9 else 8)

/-- R584. A step of cast-on ends. -/
def State.stepEnds (s : State) (n : Nat) : State := { s with mod := { s.mod with steps := s.mod.steps ++ [n] } }.showStep

/-- Whether a cast-on runs in which the steps `need` have ended and `n` has not. -/
def State.casting (s : State) (need : List Nat) (n : Nat) : Bool :=
  need.all (fun k => s.mod.steps.contains k) && !s.mod.steps.contains n

/-- CAST_ON (R584 steps 1 to 3, R594): input power reaches 48 V in OFF. A module that a trip or a rail has locked off needs input
power removed first (R572, R610). -/
def execCastOn (o : CastOp) (s : State) : Result :=
  if !s.mod.off ∨ s.mod.lockedOff then ok s
  else
    let last := s.reg Reg.GLB_FW_BANKS_TRIAL
    let s := s.restart
    let s := { s with mod := { s.mod with straps := o.straps % 8 } }
    let s := (s.set Reg.GLB_STATUS_READY 0).set Reg.GLB_CASTON_SELFTEST_PASS 0
    let s := ((s.set Reg.TEL_STATUS_COUPLED 1).set Reg.TEL_STATUS_PWR_EN 1).set Reg.TEL_STATUS_RAILS_OK 1
    ok ((s.set Reg.GLB_CASTON_STEP 4).bootImages o last)

/-- R591. Fresh gauge records replace the loaded ones of the same kind and load class. -/
def freshGauge (loaded fresh : List GaugeRec) : List GaugeRec :=
  loaded.filter (fun (g : GaugeRec) => !fresh.any (fun (r : GaugeRec) => r.kind == g.kind && r.cls == g.cls)) ++ fresh

/-- HBM_TRAINING_DONE (R584 steps 4 and 5, R591): fresh training records; every frame is zero and FREE, and all unit storage clear. -/
def execHbmTrainingDone (good : Bool) (gauge : List GaugeRec) (s : State) : Result :=
  if !s.casting [3] 5 then ok s
  else if !good then ok (s.castFail 4)
  else
    let s := { s with
      data := DataPath.reset
      tier := { s.tier with near := [], regions := [] }
      pwr := { s.pwr with gauge := freshGauge s.pwr.gauge (gauge.filter (fun (g : GaugeRec) => g.kind == 3)) } }
    ok (s.stepEnds 5)

/-- R589. The choice of settings: 0 A, 1 B, 2 neither valid, 3 both valid with one SEQ and different bodies. -/
def retainedChoice (a b : Option RetCopy) : Nat :=
  match a, b with
  | none, none => 2
  | some _, none => 0
  | none, some _ => 1
  | some a, some b =>
    if a.seq < b.seq then 1
    else if b.seq < a.seq then 0
    else if a.regs = b.regs ∧ a.gauge = b.gauge then 0 else 3

/-- R589. The copy that was chosen, if one was. -/
def State.chosen (s : State) : Option RetCopy :=
  match s.mod.winner with
  | 0 => s.mod.copyA
  | 1 => s.mod.copyB
  | _ => none

/-- R600. The event of the choice: `applied` 0 chosen, 1 applied. -/
def State.logRetained (s : State) (applied : Nat) : State :=
  s.tinkLog 0x0C0B noFn (leBytes s.mod.winner 1 ++ leBytes applied 1 ++ leBytes 0 6 ++ leBytes (s.chosen.elim 0 (·.seq)) 8)

/-- TRANSLATION_LAYER_READY (R584 step 6, R364, R589): the free deep tier is shown, the settings are chosen, and the winner's gauge records loaded. -/
def execTranslationLayerReady (good : Bool) (s : State) : Result :=
  if !s.casting [3] 6 then ok s
  else if !good then ok (s.castFail 4)
  else
    let s := { s with mod := { s.mod with winner := retainedChoice s.mod.copyA s.mod.copyB } }
    let seq := s.chosen.elim 0 (·.seq)
    let s := { s with pwr := { s.pwr with gauge := freshGauge (s.chosen.elim [] (·.gauge)) s.pwr.gauge } }
    let s := (s.set Reg.MOV_DEEP_FREE_MIB (s.tier.deepFree / 4)).set Reg.FTL_USED_MIB (3337860 - s.tier.deepFree / 4)
    let s := (s.set Reg.GLB_CASTON_RETAINED s.mod.winner).set Reg.GLB_RETAINED_SEQ_LO_SEQ_LO (seq % 2 ^ 32)
    ok ((s.set Reg.GLB_RETAINED_SEQ_HI_SEQ_HI (seq / 2 ^ 32 % 2 ^ 32)).logRetained 0 |>.stepEnds 6)

/-- R601. The fields of GLB_SELFTEST. -/
def selftestFields : List Fld :=
  [Reg.GLB_SELFTEST_ARRAYS, Reg.GLB_SELFTEST_CHAINS, Reg.GLB_SELFTEST_SKEIN, Reg.GLB_SELFTEST_CONVERT, Reg.GLB_SELFTEST_RNG,
   Reg.GLB_SELFTEST_DIGEST]

/-- SELFTEST_DONE (R584 step 7, R592, R312): any difference fails the step. -/
def execSelftestDone (o : SelftestOp) (s : State) : Result :=
  if !s.casting [5, 6] 7 then ok s
  else
    let bits' := o.bits % 2 ^ 29
    let s := selftestFields.foldl (fun (s : State) f => s.set f (bits bits' f.lo f.width)) s
    let s := s.tinkLog 0x0C0A noFn (leBytes (b2n (bits' != 0)) 4 ++ leBytes bits' 4)
    let s := (s.set Reg.RNG_KAT_DONE 1).set Reg.RNG_KAT_PASS (1 - bits bits' 27 1)
    if bits' ≠ 0 then ok (s.castFail 7)
    else
      let fresh := o.gauge.filter (fun (g : GaugeRec) => g.kind == 1 || g.kind == 2)
      let s := { s with pwr := { s.pwr with gauge := freshGauge s.pwr.gauge fresh } }
      ok ((s.set Reg.GLB_CASTON_SELFTEST_PASS 1).showGauge.stepEnds 7)

/-- DIRECTORY_REBUILT (R584 step 8, R593, R594): the PF's deep tensors are present; those of VFs stay held. -/
def execDirectoryRebuilt (s : State) : Result :=
  if !s.casting [6] 8 then ok s
  else
    let l := Store.getD s.mod.heldExt 0 []
    let s := l.foldl (fun (s : State) (t : Tensor) => s.putTensor t.rebuilt) { s with mod := { s.mod with heldExt := Store.erase s.mod.heldExt 0 } }
    ok (s.showSpace.stepEnds 8)

/-- STORE_IMAGE_RELOAD (R584 step 9, R596): the PF's entries and Pattern Memory come back, and BASE tensors go to NEAR. -/
def execStoreImageReload (s : State) : Result :=
  match s.mod.storeImage with
  | none => ok s
  | some i =>
    if !s.casting [7, 8] 9 then ok s
    else
      let new := i.tensors.filter (fun (t : Tensor) => (s.entry t.key).isNone)
      let q := s.quota 0
      let s := new.foldl (fun (s : State) (t : Tensor) => s.putTensor t) (s.setQuota 0 { q with tensorUsed := q.tensorUsed + new.length })
      ok ((s.set Reg.GLB_CASTON_STORE_IMAGE 1).storeExit.showSpace.stepEnds 9)

/-- CASTON_DONE (R584, R600): every step has ended; READY is set `ms` after power. -/
def execCastonDone (ms : Nat) (s : State) : Result :=
  if !s.casting [5, 6, 7, 8] 15 ∨ (s.mod.storeImage.isSome ∧ !s.mod.steps.contains 9) then ok s
  else
    let s := { s with mod := { s.mod with steps := [] } }
    let s := ((s.set Reg.GLB_CASTON_STEP 15).set Reg.GLB_CASTON_MS_MS (ms % 65536)).set Reg.GLB_STATUS_READY 1
    ok (s.tinkLog 0x0C0C noFn (leBytes (s.reg Reg.GLB_CASTON_STORE_IMAGE + 2 * b2n (s.reg Reg.GLB_FW_BANKS_TRIAL != 0)) 4 ++
      leBytes (ms % 65536) 4))

/-! ### Retained settings -/

/-- The state a result holds, where there is one. -/
def stateOf (r : Result) (s : State) : State :=
  match r with
  | .next t => t
  | _ => s

/-- R590. One retained register is applied under its own acceptance rules: fields that the host wrote before keep their values, and
fields not retained theirs. -/
def State.applyOne (s : State) (off v : Nat) : State :=
  let w := ((Reg.fieldsAt off).filter (fun f => f.acc == .rw)).foldl (fun (a : Nat) (f : Fld) =>
    let mine := retainedFields.contains f && !s.mod.hostWrote.contains (regKey 0 f)
    a + (if mine then bits v f.lo f.width else s.reg f) * 2 ^ f.lo) 0
  match off with
  | 0x100004 => stateOf (execSeqRowCfgWrite w s) s
  | 0x100068 => stateOf (execSeqSchedCfgWrite w s) s
  | 0x70000 => stateOf (execMtfHotCfgWrite w s) s
  | 0x50000 => stateOf (execMxaCtrlWrite w s) s
  | 0x80004 => stateOf (execMovDirtyCfgWrite w s) s
  | 0x80020 => stateOf (execMovLendCfgWrite w s) s
  | 0x90004 => stateOf (execFtlCfgWrite w s) s
  | 0xA0000 => stateOf (execRegisterWrite 0 off w s) s
  | 0xA0010 => stateOf (execLnkStageCfgWrite w s) s
  | 0xC0008 => stateOf (execPwrLimitWrite w s) s
  | 0xC000C => stateOf (execPwrRampWrite w s) s
  | 0xD0010 => stateOf (execThmLimitsWrite w s) s
  | _ => stateOf (execMarkThreshWrite off w s) s

/-- RETAINED_APPLY (R590): the values chosen are applied after READY; the apply causes no retained write. -/
def execRetainedApply (s : State) : Result :=
  if s.mod.off ∨ s.reg Reg.GLB_STATUS_READY = 0 ∨ s.reg Reg.GLB_STATUS_RECOVERY = 1 ∨ s.reg Reg.GLB_CASTON_APPLIED = 1 then ok s
  else
    let due := s.mod.writeDue
    let wrote := s.mod.hostWrote
    let regs := s.chosen.elim [] (·.regs)
    let s := regs.foldl (fun (s : State) (r : Nat × Nat) => s.applyOne r.1 r.2) s
    let s := { s with mod := { s.mod with writeDue := due, hostWrote := wrote } }
    ok ((s.set Reg.GLB_CASTON_APPLIED 1).logRetained 1)

/-- WRITE_NOW (R591, R601). -/
def execWriteNow (s : State) : Result := ok { s with mod := { s.mod with writeDue := true } }

/-- RETAINED_WRITE (R591): the write that is due ends, well or not; a bind-off that waited for it goes on. -/
def execRetainedWrite (failed : Bool) (s : State) : Result :=
  if s.mod.off ∨ (!s.mod.writeDue ∧ !s.mod.gaugeChanged) then ok s else ok (s.writeRetained failed).bindAdvance

/-! ### Bind-off -/

/-- R597. What keeps a module from being bound off. -/
def State.bindConflict (s : State) : Option Conflict :=
  let twn := s.reg Reg.TWN_STATE_STATE
  if twn ≠ 0 ∧ twn ≠ 4 then some ⟨0, twn, 0⟩
  else if s.reg Reg.LNK_FABRIC_ROLE ≠ 0 then some ⟨0, s.reg Reg.LNK_FABRIC_ROLE, 0⟩
  else if !s.tier.lent.isEmpty ∨ !s.tier.borrowed.isEmpty ∨ s.fw.update.isSome then some ⟨0, 1, 0⟩
  else none

/-- R598 steps 1 and 2. Bind-off begins: fetching stops, and the moves of tenants stop at their next granule. -/
def State.bindBegin (s : State) (t : Ticket) (zeroNear : Bool) : State :=
  let s := (s.set Reg.GLB_CASTON_MODE 1).tinkLog 0x0C0D noFn (leBytes 0 8)
  let s := s.stopMoves (fun m => m.fn != 0 && m.cause != .writeback)
  { s with host := { s.host with fetched := [] }, mod := { s.mod with bindOff := some ⟨t, zeroNear, 0, 0⟩ } }

/-- BIND_OFF (R597, R598): the reply comes when the module is bound off. -/
def execBindOff (m : Mail) (s : State) : Result :=
  ok (s.mail m
    { type := 0x0105, minMinor := 0, longReply := false, size := 12, args := fun _ => m.u 8 4 < 2, sender := fun _ => m.fn == 0
      body := fun t s =>
        if s.reg Reg.GLB_CASTON_MODE = 2 then .done s (leBytes 0 8)
        else if s.reg Reg.GLB_CASTON_MODE = 1 ∨ s.pwr.transition.isSome then .fail s .busyRetry []
        else
          match s.bindConflict with
          | some c => .conflict c
          | none => .later (s.bindBegin t (bit (m.u 8 4) 0)) }).bindAdvance

/-! ### The hold-up bank -/

/-- FLUSH_READY_SET (R451). -/
def execFlushReadySet (s : State) : Result := ok ((s.set Reg.TNK_STATUS_FLUSH_READY 1).set Reg.GLB_STATUS_FLUSH_READY 1)

/-- HOLDUP_READY_SET (R525, R609): not while the bank has failed its check. -/
def execHoldupReadySet (s : State) : Result :=
  if s.flag Reg.GLB_HOLDUP_BANK_FAULT then ok s
  else ok ((s.set Reg.GLB_STATUS_HOLDUP_READY 1).set Reg.MOV_STATUS_HOLDUP_READY 1)

/-- R525. HOLDUP_READY clears after having been set: every dirty tensor is written back, and the module wakes (R567). -/
def State.holdupLost (s : State) : State :=
  if s.reg Reg.GLB_STATUS_HOLDUP_READY = 0 then s
  else
    let s := (s.set Reg.GLB_STATUS_HOLDUP_READY 0).set Reg.MOV_STATUS_HOLDUP_READY 0
    let s := (s.err Reg.GLB_HOST_ERR_HOLDUP_LOST Reg.GLB_HOST_INT_EN_EN 2 2).wakeFrom 3
    ((s.tier.tt.map (·.2)).filter (·.dirty)).foldl State.writeBack s

/-- HOLDUP_LOST (R525). -/
def execHoldupLost (s : State) : Result := ok s.holdupLost

/-- BANK_CHECK (R609, R528): the usable energy at full charge, in mJ. A bank below 1.5 J has failed, and only a cast-on that finds it
healthy clears that. -/
def execBankCheck (mj : Nat) (s : State) : Result :=
  let s := s.set Reg.GLB_HOLDUP_ENERGY_MJ (mj % 65536)
  if mj < 1500 then ok (s.set Reg.GLB_HOLDUP_BANK_FAULT 1).holdupLost
  else if s.mod.steps.isEmpty then ok s
  else ok (s.set Reg.GLB_HOLDUP_BANK_FAULT 0)

/-- POWER_FAIL (R526, R607): input power falls below the threshold. A module that is off and locked is unlocked by it (R572, R610). -/
def execPowerFail (s : State) : Result :=
  if s.mod.off then ok { s with mod := { s.mod with lockedOff := false } } else ok (s.powerOff true true)

end Sys2Proof.Machine
end

