-- ==== Sys2Proof/Machine/Merge.lean ====
section
/-!
DEFINITION. The MERGE stage (R152): FP32 line sums, column scales and bias, motif partials, and segment tables (R240,
R241).
-/

namespace Sys2Proof.Machine

/-- R152. `n` FP32 elements computed one by one from two numbers. -/
def zipLines (f : Word → Word → Word) (n x y : Nat) : List Word :=
  (List.range n).map (fun i => f (BitVec.ofNat 32 (elem x 32 i)) (BitVec.ofNat 32 (elem y 32 i)))

/-- R197. Write FP32 elements at `dst` and count the non-finite ones in MERGE. -/
def State.mergeOut (s : State) (h : Issue) (dst : Nat) (ws : List Word) : State :=
  (s.writeLines dst (codeLines 32 (ws.map (·.toNat)))).counts h 2 0 (ws.filter isNonFinite).length

/-- MG.ACC (R152). -/
def execMgAcc (h : Issue) (o : MgAccOp) (s : State) : Result :=
  let n := o.lcnt + 1
  ok (s.issue h 0x60 (range o.srca n ++ range o.srcb n) (range o.dst n) (fun _ s =>
    s.mergeOut h o.dst (zipLines (if o.neg = 1 then fSub else fAdd) (64 * n) (s.linesAt o.srca n) (s.linesAt o.srcb n))))

/-- MG.SCALE (R152): column scales, then the bias when BIAS is set, one rounding each. -/
def execMgScale (h : Issue) (o : MgScaleOp) (s : State) : Result :=
  let n := 4 * (o.rows + 1)
  let v := if o.bias = 1 then 8 else 4
  ok (s.issue h 0x61 (range o.src n ++ range o.vec v) (range o.dst n) (fun _ s =>
    let x := s.linesAt o.src n
    let w := s.linesAt o.vec v
    let one (i : Nat) : Word :=
      let p := fMul (BitVec.ofNat 32 (elem x 32 i)) (BitVec.ofNat 32 (elem w 32 (i % 256)))
      if o.bias = 1 then fAdd p (BitVec.ofNat 32 (elem w 32 (256 + i % 256))) else p
    s.mergeOut h o.dst ((List.range (64 * n)).map one)))

/-- MG.MOTIF (R152, R246). -/
def execMgMotif (h : Issue) (o : MgMotifOp) (s : State) : Result :=
  let n := 4 * (o.rows + 1)
  ok (s.issue h 0x62 (range o.base n ++ range o.mot n) (range o.dst n) (fun _ s =>
    s.mergeOut h o.dst (zipLines fAdd (64 * n) (s.linesAt o.base n) (s.linesAt o.mot n))))

/-- R241. The segment-table entry of ordinal `seg`. -/
def Roster.segEntry (r : Roster) (o : MgSegtOp) (seg : Nat) : SegEntry :=
  let es := r.entries.filter (fun e => e.segment == seg)
  let rows := (es.map (fun e => e.tokCount + 1)).foldl (· + ·) 0
  let last := seg == o.first + o.count
  { slot := match es with | e :: _ => e.motifSlot | [] => 0
    target := o.target
    rows := if rows > 2048 then 0 else rows
    last := last
    pad := last && o.first + o.count + 1 ≥ r.segments
    tooMany := rows > 2048 }

/-- R241. The two lines of a segment table. -/
def Roster.segLines (r : Roster) (o : MgSegtOp) : List LineData :=
  natLines (packElems 64 ((range o.first (o.count + 1)).map (fun g => (r.segEntry o g).toNat))) 2

/-- MG.SEGT (R152, R241): the table, whose writing triggers the die's slot streamer (R237). -/
def execMgSegt (h : Issue) (o : MgSegtOp) (s : State) : Result :=
  ok (s.issue h 0x63 (s.rosterRange o.roster) (range o.dst 2) (fun _ s =>
    let s := s.writeLines o.dst ((s.rosterAt o.roster).segLines o)
    { s with data := { s.data with streams := s.data.streams ++ [⟨h.die, h.cslot, o.dst⟩] } }))

end Sys2Proof.Machine
end

