-- ==== Sys2Proof/Machine/Link.lean ====
section
/-!
DEFINITION. The LINK stage: LK.SEND (R166), LK.RECV (R167) with its long form (R108, R111), and LK.RED (R168).
-/

namespace Sys2Proof.Machine

/-- R86. The seam link that UNIT `u` names on a die. -/
def linkOf (die u : Nat) : Nat := 8 * die + u

/-- R95, R166. Send lines on a link under the command's tag; the command sends its marker there. -/
def State.sendItem (s : State) (cid link ctag seq cls : Nat) (l : List LineData) : State :=
  let c := s.cmd cid
  (s.setCmd cid { c with sends := c.sends ++ [link] }).send link (.item ctag seq cls l)

/-- LK.SEND (R166). -/
def execLkSend (h : Issue) (o : LkSendOp) (s : State) : Result :=
  let n := o.lcnt + 1
  ok (s.issue h 0xE0 (range o.src n) [] (fun cid s =>
    s.sendItem cid (linkOf h.die h.unit) (s.cmd cid).ctag o.seq o.cls ((range o.src n).map s.line)))

/-- R100, R408. The staged item of a link, tag and number whose commit marker has arrived. -/
def State.stagedItem (s : State) (link ctag seq : Nat) : Option Staged :=
  s.data.staging.find? (fun i => i.link == link && i.ctag == ctag && i.seq == seq && i.committed && i.lines.length == i.total)

/-- R101. A command consumes a staged item. -/
def State.consume (s : State) (cid : Nat) (i : Staged) : State :=
  { s with data := { s.data with staging := s.data.staging.map (fun (x : Staged) =>
    if x.link = i.link ∧ x.ctag = i.ctag ∧ x.seq = i.seq then { x with consumer := cid } else x) } }

/-- R108, R109. Write the progress word of a long receive: the first 8 bytes of its tensor. -/
def State.longProgress (s : State) (r : LongRecv) (state : Nat) (status : Status) : State :=
  match s.tensor? r.prog with
  | some t =>
    if t.tier = Tier.near then
      let w := leBytes (r.done + 2 ^ 32 * state + 2 ^ 40 * status.code) 8
      { s with tier := { s.tier with near := Memory.writeBytes s.tier.near (256 * t.loc) w } }
    else s
  | none => s

/-- R108, R111, R113, R167. Hand a long receive to the link's bulk engine: it starts, resumes, is done already, or is
rejected because it runs already or has failed. -/
def State.longRecv (s : State) (h : Issue) (o : LkRecvOp) (cid : Nat) : State :=
  let dst := (s.operand cid (bits o.dst 17 4)).handle
  let prog := (s.operand cid (bits o.dst 13 4)).handle
  match s.resolve h cid (s.cmdFn cid) dst none 0 1 true, s.resolve h cid (s.cmdFn cid) prog none 0 1 true with
  | .bad c, _ | .good _, .bad c | .denied _, .bad c => s.patternErr h 0xE1 c
  | .denied t, _ | .good _, .denied t => s.dpDeny h 0xE1 t true
  | .good t, .good p =>
    let w := leNat (Memory.readBytes s.tier.near (256 * p.loc) 8)
    let link := linkOf h.die h.unit
    let held := s.fab.longs.any (fun r => r.prog == prog)
    let state := bits w 32 3
    if state = 3 ∨ state = 4 ∨ (state = 1 ∧ held) then s
    else
      let r : LongRecv := ⟨link, if o.fwd = 1 then some (linkOf h.die o.flink) else none, dst, prog,
        if state = 0 then 0 else bits w 0 32, ceilDiv t.size 4096⟩
      let s := { s with fab := { s.fab with longs := s.fab.longs ++ [r] } }
      let s := s.setTensor { t with incomplete := true, moving := true }
      let s := s.longProgress r 1 .ok
      if state = 0 then s else s.send link (.bulkResume 0 r.done)

/-- LK.RECV (R167): a staged item to the skein, forwarded with its marker when FWD is set. It holds until the item's
commit marker has arrived (R100). -/
def execLkRecv (h : Issue) (o : LkRecvOp) (s : State) : Result :=
  let link := linkOf h.die h.unit
  let n := o.lcnt + 1
  if o.long = 1 then ok (s.issue h 0xE1 [] [] (fun cid s => s.longRecv h o cid))
  else if s.data.squash.contains (slotKey h.die h.cslot) then ok s
  else
    match s.stagedItem link o.ctag o.seq with
    | none => ok s
    | some i =>
      ok (s.issue h 0xE1 [] (range o.dst n) (fun cid s =>
        if i.lines.length ≠ n then s.patternErr h 0xE1 0x0B
        else
          let s := (s.writeLines o.dst i.lines).consume cid i
          if o.fwd = 1 then
            (s.send (linkOf h.die o.flink) (.item i.ctag i.seq i.cls i.lines)).send (linkOf h.die o.flink) (.commit i.ctag)
          else s))

/-- R168. The FP32 sum of an upstream partial and the local one, in this order. -/
def redLines (acc loc : List LineData) : List LineData :=
  codeLines 32 ((zipLines fAdd (64 * loc.length) (linesNat acc) (linesNat loc)).map (·.toNat))

/-- LK.RED (R168). -/
def execLkRed (h : Issue) (o : LkRedOp) (s : State) : Result :=
  let link := linkOf h.die h.unit
  let outl := linkOf h.die o.outl
  let n := o.lcnt + 1
  let local' := range o.loc n
  if o.role = 0 then
    ok (s.issue h 0xE2 local' [] (fun cid s =>
      s.sendItem cid outl (s.cmd cid).ctag o.seq 0 (local'.map s.line)))
  else if s.data.squash.contains (slotKey h.die h.cslot) then ok s
  else
    match s.stagedItem link o.ctag o.seq with
    | none => ok s
    | some i =>
      ok (s.issue h 0xE2 (if o.role = 3 then [] else local') (if o.role = 1 then [] else range o.dst n) (fun cid s =>
        if i.lines.length ≠ n then s.patternErr h 0xE2 0x0B
        else
          let out := if o.role = 3 then i.lines else redLines i.lines (local'.map s.line)
          let s := s.consume cid i
          let s := if o.role = 1 then s else s.writeLines o.dst out
          if o.role = 2 then s else s.sendItem cid outl (s.cmd cid).ctag o.seq 0 out))

end Sys2Proof.Machine
end

