-- ==== Sys2Proof/Machine/Control.lean ====
section
/-!
DEFINITION. The control instructions: X.BAR (R169), X.MARK of kinds CMD_START and TRACE (R170), X.PROG (R171), X.NOP and
X.END (R172).
-/

namespace Sys2Proof.Machine

/-- X.BAR (R169): it holds while a named line has a write pending, then retires without effect. -/
def execXBar (h : Issue) (o : XBarOp) (s : State) : Result :=
  let s := s.spoil h.bad
  if s.data.squash.contains (slotKey h.die h.cslot) then ok s
  else if (range o.line (o.lcnt + 1)).any (fun a => s.data.pendLines.any (fun p => p.1 == a)) then ok s
  else ok s

/-- The row that commands count from: the template's row for a step's commands, else the row number. -/
def State.rowOf (s : State) (c : Cmd) : Nat :=
  if c.step then s.seq.step.elim 0 (·.row) else s.row

/-- R84. Whether a placed command has its CMD_START on a die, in a slot, in the row that runs. -/
def State.placedHere (s : State) (h : Issue) (c : Cmd) : Bool :=
  c.cslot == h.cslot && c.dies.contains h.die && c.firstRow ≤ s.rowOf c && s.rowOf c < c.firstRow + c.rows

/-- R464. The grants of a command: base-owner policies that allow the running template, or the command's code object. -/
def State.grantsOf (s : State) (c : Cmd) : Nat :=
  let tpl := (s.seq.step.bind (fun st => s.seq.templates.find? (fun t => t.id == st.template))).map (·.digest)
  let code := if c.desc.kind = 2 ∨ c.desc.kind = 3 then (s.tensor? c.desc.code).map s.tensorDigest else none
  (s.sec.baseKeys.filter (fun b =>
    tpl.elim false (fun d => b.2.templates.contains d) || code.elim false (fun d => b.2.code.contains d))).foldl
      (fun a b => a + 2 ^ b.1) 0

/-- R130. Clear every unit-local entry of a slot on a die. -/
def DataPath.clearSlot (d : DataPath) (die cslot : Nat) : DataPath :=
  let mine {α : Type} (p : Nat × α) : Bool := p.1 == cslot
  let unit (u : ArrayUnit) : ArrayUnit :=
    { u with
      shadow := match u.shadow with | some x => if x.1 = cslot then none else some x | none => none
      acc := u.acc.filter (fun r => r.2.1 != cslot)
      rank := u.rank.filter (fun r => r.2.1 != cslot)
      wgrad := match u.wgrad with | some x => if x.1 = cslot then none else some x | none => none }
  { d with
    arrays := d.arrays.map (fun a => if a.1 / 8 = die then (a.1, unit a.2) else a)
    tbufs := d.tbufs.filter (fun b => !(b.1 / 4096 / 4 == die && mine b.2))
    progs := d.progs.filter (fun b => !(b.1 / 128 == die && mine b.2)) }

/-- R464, R477. Whether the grant of slot `b` rests on the command's code object. -/
def State.codeGrants (s : State) (c : Cmd) (b : Nat) : Bool :=
  (c.desc.kind == 2 || c.desc.kind == 3) && (s.tensor? c.desc.code).any (fun t =>
    (Store.get? s.sec.baseKeys b).any (fun p => p.code.contains (s.tensorDigest t)))

/-- R16, R84, R130, R303, R477. The command-start clear and the slot's entry into flight. -/
def State.startCmd (s : State) (h : Issue) (o : CmdStartOp) (cid : Nat) : State :=
  let c := s.cmd cid
  let key := slotKey h.die h.cslot
  let n := o.count + 1
  let c := { c with started := c.started ++ [h.die], ctag := o.ctag }
  let d := s.data.clearSlot h.die h.cslot
  let s := { s with data := { d with
    skein := Store.removeIf d.skein (fun a => o.first ≤ a && a < o.first + n)
    slots := Store.put d.slots key ⟨cid, o.first, n, s.grantsOf c⟩
    squash := d.squash.filter (· != key) } }
  let m := 2 ^ h.cslot
  let s := if h.die = 0 then
      ((s.clrBits Reg.VCH_NF_LATCH_DIE0 m).clrBits Reg.VCH_SAT_LATCH_DIE0 m).clrBits Reg.VCH_SPIKE_LATCH_DIE0 m
    else ((s.clrBits Reg.VCH_NF_LATCH_DIE1 m).clrBits Reg.VCH_SAT_LATCH_DIE1 m).clrBits Reg.VCH_SPIKE_LATCH_DIE1 m
  let s := ((s.setCmd cid c).inc Reg.SKN_CLEARS_CLEARS 1).showSlots
  let code := (s.tensor? c.desc.code).elim 0 s.tensorDigest
  (setBits (s.grantsOf c) 8).foldl (fun (s : State) b =>
    if (s.codeGrants c b) then s.touchLog c.desc.fn ⟨2, b, code⟩ else s) s

/-- CMD_START (R170): it starts the command placed in its slot on its die. In a replay, a command that committed stays
squashed (R105); a start that no placed command has names a command of its own. -/
def execCmdStart (h : Issue) (o : CmdStartOp) (s : State) : Result :=
  match s.data.cmds.find? (fun c => s.placedHere h c.2 && !c.2.committed && !c.2.frogged &&
      !c.2.started.contains h.die && !s.seq.dead.contains c.1) with
  | some c => ok (s.startCmd h o c.1)
  | none =>
    if s.data.squash.contains (slotKey h.die h.cslot) ∨ s.data.cmds.any (fun c => s.placedHere h c.2) then ok s
    else
      let cid := s.data.nextCid
      let c := { Cmd.place Descriptor.empty h.cslot [h.die] s.row 1 with step := true }
      ok (({ s with data := { s.data with nextCid := cid + 1 } }.setCmd cid c).startCmd h o cid)

/-- TRACE (R170): the value, the row, the cycle and CSLOT go to the operator trace buffer. -/
def execTraceMark (h : Issue) (o : TraceOp) (s : State) : Result :=
  if s.data.squash.contains (slotKey h.die h.cslot) then ok s
  else ok { s with data := { s.data with trace := s.data.trace ++ [⟨o.value, s.row, h.cycle, h.cslot⟩] } }

/-- X.PROG (R171): MARK and the row's index within the command go to the slot's progress register. -/
def execXProg (h : Issue) (o : XProgOp) (s : State) : Result :=
  ok (s.issue h 0xF2 [] [] (fun cid s =>
    let c := s.cmd cid
    s.setCmd cid { c with mark := o.mark, markRow := s.rowOf c - c.firstRow }))

/-- X.NOP (R172). -/
def execXNop (_ : Issue) (s : State) : Result := ok s

/-- X.END (R172), at microsecond `now`: it holds until every command of the step has committed, and then commits the
step. -/
def execXEnd (_ : Issue) (now : Nat) (s : State) : Result :=
  match s.seq.step with
  | none => ok s
  | some st =>
    if st.ended ∨ st.cids.any (fun c => !(s.cmd c).committed) then ok s
    else ok (((((s.commitStep now).closeSeqs).settleMotifs).releaseDoomed).settlePreempts)

end Sys2Proof.Machine
end

