-- ==== Sys2Proof/Machine/Defer.lean ====
section
/-!
DEFINITION. Deferred power and clock requests (R483 to R485, R566) and zeroisation (R469, R481, R482).
-/

namespace Sys2Proof.Machine

/-! ### Zeroisation -/

/-- R482, R481. Zeroisation begins: every key is destroyed, the functions other than the PF are FAULTED, and the data path halts at
the next row boundary. -/
def State.zeroise (s : State) : State :=
  let s := (s.sec.keys.map (·.1)).foldl (fun (s : State) fn => s.destroyKey fn 4) s
  let s := (s.sec.baseKeys.map (·.1)).foldl (fun (s : State) m => s.destroyBase m 4) s
  let s := (s.mod.heldExt.map (·.1)).foldl State.dropHeld s
  let s := { s with sec := { s.sec with wraps := [] } }.set Reg.SEC_STATUS_ZEROISING 1
  let s : State := s.openVfs.foldl (fun (s : State) (fn : Nat) => s.setF fn Reg.GLB_FN_STATE_STATE 3) s
  if s.reg Reg.SEQ_STATUS_STATE = 3 then s else s.askHaltRow

/-- ZEROISE (R481, R482): the reply comes when it is done. -/
def execZeroise (m : Mail) (s : State) : Result :=
  ok (s.mail m
    { type := 0x0607, minMinor := 0, longReply := false, size := 8, args := fun _ => true, sender := fun _ => m.fn == 0
      body := fun _ s => .later s.zeroise }).zeroAdvance

/-- LIFECYCLE_RMA (R469): `good` tells whether the token is the vendor's and bound to this module. -/
def execLifecycleRma (m : Mail) (good : Bool) (s : State) : Result :=
  ok (s.mail m
    { type := 0x060B, minMinor := 0, longReply := false, size := 8, args := fun _ => true, sender := fun _ => m.fn == 0 && good
      body := fun _ s => .later s.zeroise }).zeroAdvance

/-! ### Deferral -/

/-- R483. The port on which the RTP answers power and clock requests. -/
def powerPort : Nat := 203

/-- POWER_CLOCK_REQUEST (R483, R484, R485). -/
def execPowerClockRequest (o : PowerReqOp) (s : State) : Result :=
  let d : Defer := ⟨o.block, o.kind, o.frames, o.rtp, false⟩
  if s.mod.off then ok s
  else if o.keeps ∨ !s.blocks d then ok (s.say powerPort (leBytes o.block 1 ++ leBytes Status.ok.code 1))
  else ok ((s.deferAsk d).say powerPort (leBytes o.block 1 ++ leBytes Status.deferred.code 1))

/-- R484, R566. A deferred request is granted: the asker is told. An entry to STORE goes on with POWER_STATE_ENTRY_DONE. -/
def State.grant (s : State) (d : Defer) : State :=
  let s := s.undefer d.block
  if d.store then s else s.say powerPort (leBytes d.block 1 ++ leBytes Status.ok.code 1)

/-- DEFERRED_REQUEST_PROCEED (R484): once no guarded frame and no key remains. -/
def execDeferredRequestProceed (block : Nat) (s : State) : Result :=
  match s.sec.defers.find? (fun d => d.block == block) with
  | none => ok s
  | some d => ok (if s.blocks d then s else s.grant d)

/-- DEFER_DEADLINE (R484, R566, R493): the remaining frames are zero-filled, for the RTP everything is zeroised, for STORE each VF that is
not DISABLED is disabled, and the request proceeds. -/
def execDeferDeadline (block : Nat) (s : State) : Result :=
  match s.sec.defers.find? (fun d => d.block == block) with
  | none => ok s
  | some d =>
    let fs := s.framesWith (fun f r => inFrames d.frames f && r.guarded)
    let s := s.forceZero fs
    let s := (s.secErr Reg.SEC_ERR_DEFER_EXPIRED).tinkLog 0x0B05 noFn (leBytes 1 8 ++ leBytes (65536 * fs.length) 8)
    let s := if d.store then s.openVfs.foldl (fun (s : State) fn => s.resetFn fn 2 none) s else s
    let s := if d.rtp && s.anyKey then s.zeroise.zeroAdvance else s
    ok (s.grant d)

/-- DEFER_CANCEL (R485): STATE_CONFLICT where no request is deferred any more. A transition to STORE that is withdrawn ends in IDLE. -/
def execDeferCancel (m : Mail) (s : State) : Result :=
  let block := m.u 8 2
  ok (s.mail m
    { type := 0x060A, minMinor := 0, longReply := false, size := 10, args := fun _ => true, sender := fun _ => m.fn == 0
      body := fun _ s =>
        match s.sec.defers.find? (fun d => d.block == block) with
        | none => .conflict ⟨0, 0, block⟩
        | some d =>
          let s := s.undefer block
          if d.store then
            .done ({ s with pwr := { s.pwr with transition := none } }.set Reg.PWR_STATE_ENTERING 0).storeExit []
          else .done s [] })

end Sys2Proof.Machine
end

