-- ==== Sys2Proof/Machine/Fabric.lean ====
section
/-!
DEFINITION. The fabric messages (R422): FABRIC_JOIN and FABRIC_LEAVE (R413), LINK_ATTACH, LINK_DETACH, LINK_QUERY and
LINK_REKEY (R399 to R403), FABRIC_RESYNC (R410) and FABRIC_SEQ_MAP (R415). Their layouts follow R518.
-/

namespace Sys2Proof.Machine

/-- R413. The link that a field names; 0xFFFF names none. -/
def linkField (n : Nat) : Option Nat := if n = 0xFFFF then none else some n

/-- FABRIC_JOIN (R413, R416): FABRIC_ID, MODULE_ID, ROLE, ROSTER_IN, ROSTER_OUT and FLOOR_W, two bytes each. -/
def execFabricJoin (m : Mail) (s : State) : Result :=
  let role := m.u 12 2
  let rin := linkField (m.u 14 2)
  let rout := linkField (m.u 16 2)
  let floor := m.u 18 2
  let inRange (l : Option Nat) : Bool := l.elim true (fun x => x < 16)
  let sameDie := (rin.bind (fun a => rout.map (fun b => a / 8 == b / 8 && a != b))).getD true
  let shape := match role with
    | 0 => rin.isNone && rout.isNone
    | 1 => rin.isNone && 50 ≤ floor && floor ≤ 1000
    | _ => rin.isSome && 50 ≤ floor && floor ≤ 1000
  ok (s.mail m
    { type := 0x0501, minMinor := 0, longReply := false, size := 20
      args := fun _ => m.u 10 2 < 2048 && role ≤ 2 && inRange rin && inRange rout && sameDie && shape
      sender := fun _ => m.fn == 0
      body := fun _ s =>
        match (List.range 16).find? s.linkUp with
        | some l => .conflict ⟨0, 3, l⟩
        | none =>
          let s := ((s.set Reg.LNK_FABRIC_FABRIC_ID (m.u 8 2)).set Reg.LNK_FABRIC_MODULE_ID (m.u 10 2)).set Reg.LNK_FABRIC_ROLE role
          .done { s with fab := { s.fab with rosterIn := rin, rosterOut := rout
                                             floorW := if role = 0 then s.fab.floorW else floor } } [] })

/-- FABRIC_LEAVE (R422): ROLE NONE. -/
def execFabricLeave (m : Mail) (s : State) : Result :=
  ok (s.mail m
    { type := 0x0502, minMinor := 0, longReply := false, size := 8, args := fun _ => true, sender := fun _ => m.fn == 0
      body := fun _ s =>
        match (List.range 16).find? (fun l => s.seq.templates.any (fun t => t.namesLink l)) with
        | some l => .conflict ⟨0, s.linkSt l, l⟩
        | none => .done { s.set Reg.LNK_FABRIC_ROLE 0 with fab := { s.fab with rosterIn := none, rosterOut := none } } [] })

/-- LINK_ATTACH (R401, R402): a DISABLED or DOWN link starts to train. -/
def execLinkAttach (m : Mail) (s : State) : Result :=
  let l := m.u 8 2
  ok (s.mail m
    { type := 0x0503, minMinor := 0, longReply := false, size := 64
      args := fun _ => l < 16 && m.u 10 2 < 2048 && m.u 12 20 == 0
      sender := fun _ => m.fn == 0
      body := fun _ s =>
        let st := s.linkSt l
        if st ≠ 0 ∧ st ≠ 5 then .conflict ⟨0, st, l⟩
        else
          let s := s.setLink l { LinkCtl.empty with keyHash := BitVec.ofNat 256 (m.u 32 32) }
          let s := (s.quiet l 1).setF (linkFn l) Reg.LNK_CFG_ENABLED 1
          .done (s.setF (linkFn l) Reg.LNK_CFG_PEER_EXPECT (m.u 10 2)) [] })

/-- R403. Whether something uses link `l`, so that it may not be detached. -/
def State.linkInUse (s : State) (l : Nat) : Bool :=
  s.seq.templates.any (fun t => t.namesLink l) || s.tier.lent.any (fun h => h.2.link == l) ||
    s.tier.borrowed.any (fun h => h.2.link == l) ||
    s.fab.relays.any (fun r => (s.model r.slot).state == 1 && (r.linkIn == some l || r.linkOut == some l)) ||
    s.fab.longs.any (fun r => r.link == l || r.fwd == some l) ||
    (s.reg Reg.TWN_STATE_STATE != 0 && bit (s.reg Reg.TWN_LINKS_TWIN) l) ||
    (s.reg Reg.LNK_FABRIC_ROLE != 0 && (s.fab.rosterIn == some l || s.fab.rosterOut == some l))

/-- LINK_DETACH (R403). -/
def execLinkDetach (m : Mail) (s : State) : Result :=
  let l := m.u 8 2
  ok (s.mail m
    { type := 0x0504, minMinor := 0, longReply := false, size := 10, args := fun _ => l < 16, sender := fun _ => m.fn == 0
      body := fun _ s => if s.linkInUse l then .conflict ⟨0, s.linkSt l, l⟩ else .done (s.detach l) [] })

/-- LINK_QUERY (R422): state, peer, width (1 on two lanes), rate (1 at half rate) and counters. -/
def execLinkQuery (m : Mail) (s : State) : Result :=
  let l := m.u 8 2
  ok (s.mail m
    { type := 0x0505, minMinor := 0, longReply := false, size := 10, args := fun _ => l < 16, sender := fun _ => m.fn == 0
      body := fun _ s =>
        let g (f : Fld) (n : Nat) : List Byte := leBytes (s.getF (linkFn l) f) n
        .done s (g Reg.LNK_STATE_STATE 2 ++ g Reg.LNK_STATE_PEER_MODULE 2 ++ g Reg.LNK_STATE_TWO_LANE 2 ++
          g Reg.LNK_STATE_HALF_RATE 2 ++ g Reg.LNK_TX_LO_TX_LO 4 ++ g Reg.LNK_TX_HI_TX_HI 4 ++ g Reg.LNK_RX_LO_RX_LO 4 ++
          g Reg.LNK_RX_HI_RX_HI 4 ++ g Reg.LNK_FEC_CE_CE 4 ++ g Reg.LNK_REPLAY_REPLAYS 4 ++ g Reg.LNK_AUTH_FAIL_FAILS 4 ++
          g Reg.LNK_RETRAINS_RETRAINS 4 ++ g Reg.LNK_REKEYS_REKEYS 4) })

/-- LINK_REKEY (R399): a re-key starts at once. -/
def execLinkRekey (m : Mail) (s : State) : Result :=
  let l := m.u 8 2
  ok (s.mail m
    { type := 0x0506, minMinor := 0, longReply := false, size := 10, args := fun _ => l < 16, sender := fun _ => m.fn == 0
      body := fun _ s => if s.linkUp l then .done (s.rekey l) [] else .conflict ⟨0, s.linkSt l, l⟩ })

/-- FABRIC_RESYNC (R410): the ordinals of the listed links restart at 0. -/
def execFabricResync (m : Mail) (s : State) : Result :=
  let n := m.u 8 4
  let links := (List.range (min n 16)).map (fun i => m.u (12 + 2 * i) 2)
  ok (s.mail m
    { type := 0x0507, minMinor := 0, longReply := false, size := 12 + 2 * min n 16
      args := fun _ => 1 ≤ n && n ≤ 16 && links.all (· < 16)
      sender := fun _ => m.fn == 0
      body := fun _ s =>
        if s.reg Reg.SEQ_STATUS_STATE = 1 then .conflict ⟨0, 1, 0⟩
        else .done (links.foldl (fun (s : State) l =>
          { s.setLink l { s.link l with ordTx := 0, ordRx := 0, tokens := 0 } with
            seq := { s.seq with resync := s.seq.resync &&& (0xFFFF - 2 ^ l) } }) s) [] })

/-- R415. Why a stage may not map a local handle of function `fn` to a KIND, if it may not. -/
def State.mapRefusal (s : State) (fn : Nat) (kind : TKind) (h : Handle) : Option Status :=
  if h.fn ≠ fn then some .denied
  else
    match s.tensor? h with
    | none => some .generationStale
    | some t => if t.kind = kind then none else some .badArg

/-- FABRIC_SEQ_MAP (R415): a stage's map of one sequence, written or (with the REMOVE flag) deleted by its function. -/
def execFabricSeqMap (m : Mail) (s : State) : Result :=
  let fn := m.u 8 2
  let id := m.u 12 4
  let n := min (m.u 32 4) 9
  let sw := (List.range n).map (fun i => m.handle (40 + 8 * i))
  let p := if n = 0 then 36 else 40 + 8 * n
  let flags := m.u p 4
  let x : StageMap := ⟨fn, id, m.handle 16, m.handle 24, sw⟩
  ok (s.mail m
    { type := 0x0508, minMinor := 0, longReply := false, size := p + 4
      args := fun _ => fn ≤ 1024 && m.u 10 2 == 0 && n ≤ 8 && flags ≤ 1 && m.handleOk 16 && m.handleOk 24 &&
        (List.range n).all (fun i => m.handleOk (40 + 8 * i))
      sender := fun _ => fn == m.fn
      body := fun _ s =>
        let rest := s.fab.maps.filter (fun y => y.fn != fn || y.seqId != id)
        if s.reg Reg.LNK_FABRIC_ROLE ≠ 2 then .conflict ⟨0, s.reg Reg.LNK_FABRIC_ROLE, 0⟩
        else if flags = 1 then .done { s with fab := { s.fab with maps := rest } } []
        else
          let motif := if x.motif = Handle.none then none else s.mapRefusal fn .motif x.motif
          match (s.mapRefusal fn .kv x.kv).orElse (fun _ => motif.orElse (fun _ => x.swatches.findSome? (s.mapRefusal fn .swatch))) with
          | some st => .fail s st []
          | none => .done { s with fab := { s.fab with maps := rest ++ [x] } } [] })

end Sys2Proof.Machine
end

