-- ==== Sys2Proof/Machine/Lifelines.lean ====
section
/-!
DEFINITION. Lifelines (R442 to R446): a function's tensors and streams as they stand after its last commit, kept in copies
that can be written back.
-/

namespace Sys2Proof.Machine

/-! ### Writing -/

/-- R443. A tensor whose home is clean: nothing has been committed to it since the home was written. -/
def Tensor.homeClean (t : Tensor) : Option Nat :=
  if t.tier = .deep then some t.loc else if t.homeSet && !t.dirty then some t.home else none

/-- R443, R346. The tensors of a list that need a deep copy, the manifest's size counted as one more, in 256 KiB units. -/
def copyUnits (target : Nat) (l : List Tensor) : Nat :=
  1 + (if target = 1 then 0 else ((l.filter (fun t => t.homeClean.isNone)).map Tensor.deepUnits).foldl (· + ·) 0)

/-- R443, R444, R351. Enter a fresh deep tensor of a function under key `key`, READONLY, `size` lines long and incomplete until its
contents are whole. -/
def State.deepCopy (s : State) (fn key format size : Nat) : Tensor × State :=
  let t := { s.blankTensor fn .data format size with
    tier := .deep, keyIndex := key, readOnly := true, incomplete := true, homeSet := true }
  let d := s.takeDeep t.deepUnits
  let t := { t with loc := d.1, home := d.1 }
  let q := d.2.quota fn
  (t, (d.2.setQuota fn { q with deepUsed := q.deepUsed + 64 * t.deepUnits }).enter t)

/-- R442, R443. Capture one tensor of a lifeline with the contents it has after the function's last commit. -/
def State.capture (target : Nat) (a : List LifeEntry × State) (t : Tensor) : List LifeEntry × State :=
  let s := a.2
  let e : LifeEntry :=
    { handle := t.handle, copy := Handle.none, home := if target = 0 then t.homeClean else none, near := none, size := t.size
      live := s.liveRanges t, digest := Config.sha256 (s.liveBytes t) }
  if target = 1 ∨ e.home.isSome then (a.1 ++ [e], s)
  else
    let d := s.deepCopy t.fn t.keyIndex t.format t.size
    let n := 256 * t.size
    (a.1 ++ [{ e with copy := d.1.handle }], d.2.putCells t.fn .deep d.1.loc 0 n (s.cellsAt t.tier t.loc 0 n []))

/-- R442, R444. The motif tensors of a list with the MODE of each. -/
def State.boundModes (s : State) (l : List Tensor) : List (Handle × Nat) :=
  (l.filter (fun t => t.kind == .motif)).map (fun t => (t.handle, s.motifMode t.handle))

/-- R442, R443. A lifeline of function `fn` starts: its copies and its manifest are allotted. -/
def State.startLifeline (s : State) (fn label target mask : Nat) (l : List Tensor) (t : Option Ticket) : State :=
  let streams := (Store.get? s.tier.ctx fn).elim [] (·.streams)
  let modes := s.boundModes l
  let c := l.foldl (State.capture target) (([] : List LifeEntry), s)
  let m := c.2.deepCopy fn (classOf fn) 0 (3 + ceilDiv l.length 4)
  let s := m.2
  let new : Lifeline :=
    { fn := fn, label := label, target := target, state := 0, mask := mask, streams := streams, bindings := modes, entries := c.1
      row := s.row, mseq := if s.mirrors then s.reg Reg.TWN_MSEQ_SENT_MSEQ else 0, manifest := m.1.handle, digest := 0
      peerDigest := none, ticket := t }
  { s with twin := { s.twin with lifelines := s.twin.lifelines ++ [new] } }

/-- R442. The handles that a LIFELINE_WRITE names, and the offset after them. -/
def lifeHandles (m : Mail) : List Handle × Nat :=
  let n := min (m.u 8 4) 257
  ((List.range n).map (fun i => m.handle (16 + 8 * i)), 16 + 8 * n)

/-- R121, R323. The tensors that a list of handles names, or the status of the first that is wrong. -/
def State.lifeTensors (s : State) : List Handle → Except Status (List Tensor)
  | [] => .ok []
  | h :: t =>
    match s.ownTensor h with
    | .error st => .error st
    | .ok x =>
      if x.tier = .host then .error .badArg
      else if x.incomplete then .error .incomplete
      else (State.lifeTensors s t).map (x :: ·)

/-- LIFELINE_WRITE (R442, R443, R445): tensors, stream mask, TARGET and LABEL. The reply comes when the captures are
complete. -/
def execLifelineWrite (m : Mail) (s : State) : Result :=
  let hs := lifeHandles m
  let p := hs.2
  let target := m.u (p + 2) 2
  let label := m.u (p + 8) 8
  ok (s.mail m
    { type := 0x0530, minMinor := 1, longReply := false, size := p + 16
      args := fun _ => 1 ≤ hs.1.length && hs.1.length ≤ 256 && m.u 12 4 == 0 && target ≤ 1 && m.u (p + 4) 4 == 0 &&
        (List.range hs.1.length).all (fun i => m.handleOk (16 + 8 * i)) && hs.1.all (· != Handle.none) &&
        hs.1.dedup.length == hs.1.length
      sender := fun _ => hs.1.all (fun h => h.fn == m.fn)
      body := fun t s =>
        match s.lifeTensors hs.1 with
        | .error st => .fail s st []
        | .ok l =>
          let q := s.quota m.fn
          let n := 1 + (l.filter (fun x => target = 0 && x.homeClean.isNone)).length
          let need := copyUnits target l
          if s.twin.lifelines.any (fun x => x.fn == m.fn && x.label == label) then .conflict ⟨0, 1, 0⟩
          else if target = 1 ∧ s.twn ≠ 2 then .conflict ⟨0, s.twn, 0⟩
          else
            match l.find? (fun x => x.moving), s.tableFull m.fn n with
            | some x, _ => .conflict (x.conflict 0)
            | none, some st => .fail s st []
            | none, none =>
              if !s.deepKey m.fn (classOf m.fn) ∨ (target = 0 ∧ l.any (fun x => !s.deepKey x.fn x.keyIndex)) then .fail s .denied []
              else if q.deepLimit < q.deepUsed + 64 * need then .fail s .quota []
              else if s.tier.deepFree < need ∨ s.flag Reg.FTL_STATUS_READ_ONLY then .fail s .noCapacity []
              else .later (s.startLifeline m.fn label target (m.u p 2) l (some t)).showSpace })

/-! ### Completion -/

/-- R443. On a mirror a lifeline of TARGET MIRROR keeps the copy of a tensor in the near tier, counted in NEAR_USED. -/
def State.nearCopy (s : State) (t : Tensor) (e : LifeEntry) : LifeEntry × State :=
  match s.nearFit t.fn t.keyIndex t.units with
  | some loc =>
    let n := 256 * t.size
    let q := s.quota t.fn
    let s := (s.assignFrames t.fn t.keyIndex loc (16 * t.units)).setQuota t.fn { q with nearUsed := q.nearUsed + t.units }
    ({ e with near := some loc }, s.putCells t.fn .near loc 0 n (s.cellsAt t.tier t.loc 0 n []))
  | none => (e, s)

/-- R445. The mirror captures one tensor of the primary's lifeline; its copy's entry came as a TABLE record. -/
def State.mirrorCapture (target : Nat) (a : List LifeEntry × State) (p : Handle × Handle) : List LifeEntry × State :=
  let s := a.2
  match s.tensor? p.1 with
  | none => a
  | some t =>
    let e : LifeEntry :=
      { handle := t.handle, copy := p.2, home := if target = 0 ∧ p.2 = Handle.none then t.homeClean else none, near := none
        size := t.size, live := s.liveRanges t, digest := Config.sha256 (s.liveBytes t) }
    if target = 1 then
      let r := s.nearCopy t e
      (a.1 ++ [r.1], r.2)
    else
      match s.tensor? p.2 with
      | some c =>
        let n := 256 * t.size
        (a.1 ++ [e], s.putCells c.fn c.tier c.loc 0 n (s.cellsAt t.tier t.loc 0 n []))
      | none => (a.1 ++ [e], s)

/-- R445. The mirror's own lifeline, for the operation that the primary mirrored. -/
def State.mirrorLifeline (s : State) (fn label : Nat) (o : MirroredLife) : State :=
  let c := o.pairs.foldl (State.mirrorCapture o.target) (([] : List LifeEntry), s)
  let s := c.2
  let named := o.pairs.filterMap (fun p => s.tensor? p.1)
  let new : Lifeline :=
    { fn := fn, label := label, target := o.target, state := 0, mask := o.mask
      streams := (Store.get? s.tier.ctx fn).elim [] (·.streams), bindings := s.boundModes named, entries := c.1
      row := o.row, mseq := o.mseq, manifest := o.manifest, digest := 0, peerDigest := none, ticket := none }
  { s with twin := { s.twin with lifelines := s.twin.lifelines ++ [new] } }

/-- R364. Lines that a lifeline's captures wrote to flash count in FTL_HOST_WR. -/
def State.countCapture (s : State) (l : Lifeline) : State :=
  s.wroteFlash (((l.entries.filter (fun e => e.copy.idx != 0)).map (·.size)).foldl (· + ·) 0)

/-- R443 to R445. The captures of lifeline `l` are complete and its manifest is written; without a twin it is VERIFIED at
once, with one it is FAILED at once when the two manifest digests differ. -/
def State.endCapture (s : State) (l : Lifeline) (peer : Option (BitVec 256)) : State :=
  let own := l.manifest :: (l.entries.map (·.copy)).filter (fun h => h.idx != 0)
  let s := own.foldl (fun (s : State) h => s.mapTensor (ttKey h.fn h.idx) (fun t => { t with incomplete := false })) s
  let l := { l with state := 1, digest := Config.sha256 l.tail, peerDigest := peer, ticket := none }
  let s := ((s.setLifeline l).writeManifest l).countCapture l
  if s.twn ≠ 1 ∧ s.twn ≠ 2 then s.markLifeline l 2
  else if peer.any (fun d => d != l.digest) then s.markLifeline l 3
  else s

/-- LIFELINE_CAPTURE_DONE (R443 to R445). -/
def execLifelineCaptureDone (o : CaptureOp) (s : State) : Result :=
  let s := match o.mirrored with
    | some a => if s.isMirror && !s.twin.lifelines.any (fun x => x.fn == o.fn && x.label == o.label) then
        s.mirrorLifeline o.fn o.label a else s
    | none => s
  match s.twin.lifelines.find? (fun x => x.fn == o.fn && x.label == o.label && x.state == 0) with
  | none => ok s
  | some l =>
    let s := s.endCapture l o.peer
    let failed := s.twin.lifelines.any (fun x => x.fn == o.fn && x.label == o.label && x.state == 3)
    ok (l.ticket.elim s (fun t => s.reply t (if failed then .faulted else .ok) (leBytes l.manifest.toNat 8)))

/-! ### Restoring -/

/-- R443. Where the contents of an entry are: its copy, the home that it references, or the mirror's near copy. -/
def State.lifeSource (s : State) (e : LifeEntry) : Option (Tier × Nat) :=
  match e.home, e.near with
  | some h, _ => some (.deep, h)
  | none, some n => some (.near, n)
  | none, none => (s.tensor? e.copy).map (fun t => (t.tier, t.loc))

/-- R446. Whether the contents of an entry still have the digest of its manifest entry. -/
def State.lifeSound (s : State) (e : LifeEntry) : Bool :=
  match s.lifeSource e with
  | some (t, loc) =>
    let l := e.live.flatMap (fun r => Memory.readBytes (s.cellsAt t loc (256 * r.1) (256 * r.2) []) 0 (256 * r.2))
    Config.sha256 l == e.digest
  | none => false

/-- R446, R328, R329. Write an entry's contents into the tensor its index names, at its current location; the generation
increments and the owner is told. -/
def State.restoreEntry (s : State) (e : LifeEntry) : State :=
  match s.entry (ttKey e.handle.fn e.handle.idx), s.lifeSource e with
  | some t, some (tier, loc) =>
    let n := 256 * e.size
    let s := s.putCells t.fn t.tier t.loc 0 n (s.cellsAt tier loc 0 n [])
    let soils := t.tier == .near && t.homeSet && !t.dirty && e.home != some t.home
    let q := s.quota t.fn
    let t' := { t with gen := nextGen t.gen, incomplete := false, poisoned := false, dirty := t.dirty || soils
                       dirtyRow := if soils then s.row else t.dirtyRow }
    ((s.setTensor t').setQuota t.fn { q with dirtyLines := q.dirtyLines + (if soils then t.size else 0) }).noteMoved t.handle t'.handle
  | _, _ => s

/-- R444, R230. A captured motif gets its MODE again: a binding it has now is given up, and it is bound anew. -/
def State.restoreBinding (s : State) (b : Handle × Nat) : State :=
  let k := ttKey b.1.fn b.1.idx
  let s := (s.drainMotif k).settleMotifs
  match s.entry k, Store.get? s.tier.motifs k, Store.get? s.tier.ctx b.1.fn with
  | some t, some mo, some c =>
    match c.bindings.findIdx? (fun x => x.mode == 0), s.freeSlot with
    | some i, some slot => if b.2 = 0 ∨ mo.state ≠ .resident then s else s.bindMotif t mo c i slot b.2
    | _, _ => s
  | _, _, _ => s

/-- R446, R444. The captured states of the streams in the mask. -/
def State.restoreStreams (s : State) (l : Lifeline) : State :=
  match Store.get? s.tier.ctx l.fn with
  | none => s
  | some c =>
    let now := c.streams.zipIdx.map (fun (x : Stream × Nat) => if bit l.mask x.2 then (l.streams[x.2]?).getD x.1 else x.1)
    { s with tier := { s.tier with ctx := Store.put s.tier.ctx l.fn { c with streams := now } } }

/-- R446. What keeps a lifeline from being restored. -/
def State.restoreConflict (s : State) (l : Lifeline) : Option Conflict :=
  let motif (h : Handle) : Bool := (Store.get? s.tier.motifs (ttKey h.fn h.idx)).any (fun m => m.state == .serving || m.state == .draining)
  if l.state ≠ 2 then some ⟨0, l.state, 0⟩
  else if s.twn = 1 ∨ s.twn = 2 then some ⟨0, s.twn, 0⟩
  else if s.data.cmds.any (fun c => c.2.desc.fn == l.fn && !c.2.committed && !c.2.step) then some (s.fnConflict l.fn)
  else
    match l.entries.find? (fun e => motif e.handle) with
    | some e => some (s.motifConflict e.handle)
    | none => none

/-- LIFELINE_RESTORE (R446). -/
def execLifelineRestore (m : Mail) (s : State) : Result :=
  ok (s.mail m
    { type := 0x0531, minMinor := 1, longReply := false, size := 16, args := fun _ => true, sender := fun _ => true
      body := fun _ s =>
        match s.twin.lifelines.find? (fun x => x.fn == m.fn && x.label == m.u 8 8) with
        | none => .fail s .badArg []
        | some l =>
          match s.restoreConflict l with
          | some c => .conflict c
          | none =>
            let now := l.entries.map (fun e => s.entry (ttKey e.handle.fn e.handle.idx))
            if now.any (fun t => t.isNone) then .fail s .generationStale []
            else
              match (l.entries.zip now).find? (fun x => x.2.any (fun t => t.moving || t.size != x.1.size)) with
              | some x => .conflict ⟨2, 0, x.1.handle.toNat⟩
              | none =>
                if !l.entries.all s.lifeSound then .fail s .faulted []
                else
                  let s := l.entries.foldl State.restoreEntry s
                  let s := l.bindings.foldl State.restoreBinding (s.restoreStreams l)
                  let s := s.mirrorCtx l.fn
                  .done ({ s with twin := { s.twin with restored := true } }.showSpace) [] })

/-! ### Listing and dropping -/

/-- LIFELINE_LIST (R446): the LABEL, state and TARGET of each of the sender's lifelines. -/
def execLifelineList (m : Mail) (s : State) : Result :=
  ok (s.mail m
    { type := 0x0532, minMinor := 1, longReply := true, size := 8, args := fun _ => true, sender := fun _ => true
      body := fun _ s =>
        let l := s.twin.lifelines.filter (fun x => x.fn == m.fn)
        .done s (leBytes l.length 4 ++ leBytes 0 4 ++ l.flatMap (fun x =>
          leBytes x.label 8 ++ leBytes x.state 2 ++ leBytes x.target 2 ++ leBytes 0 4)) })

/-- LIFELINE_DROP (R446, R349, R443). -/
def execLifelineDrop (m : Mail) (s : State) : Result :=
  ok (s.mail m
    { type := 0x0533, minMinor := 1, longReply := false, size := 16, args := fun _ => true, sender := fun _ => true
      body := fun _ s =>
        match s.twin.lifelines.find? (fun x => x.fn == m.fn && x.label == m.u 8 8) with
        | none => .fail s .badArg []
        | some l => if l.state = 0 then .conflict ⟨0, 0, 0⟩ else .done (s.dropLifeline l) [] })

end Sys2Proof.Machine
end

