-- ==== Sys2Proof/Machine/Links.lean ====
section
/-!
DEFINITION. The seam links' frames and events: items and markers (R100, R102, R408), tokens (R45, R409), pipeline rosters
(R414, R415), bulk streams (R418 to R421), borrowed reads (R355, R356), keys, errors, training and loss (R396 to R404), the
Row Beacon (R411, R412).
-/

namespace Sys2Proof.Machine

/-- A frame of `n` payload lines arrives on link `l`, and `k` says what it does. -/
def State.onFrame (s : State) (l n : Nat) (onDegraded : Bool) (k : State → State) : Result :=
  match s.arriveFrame l n onDegraded with
  | none => ok s
  | some s => ok (k s)

/-! ### Items -/

/-- ITEM (R394, R408): its lines are placed in link staging. -/
def execItemFrame (o : ItemOp) (s : State) : Result :=
  s.onFrame o.link o.lines.length false (fun s =>
    let n := o.lines.length
    let bad := s.protocolErr o.link 1 o.ctag o.seq
    let mine (i : Staged) : Bool := i.link == o.link && i.ctag == o.ctag && i.seq == o.seq
    if n = 0 ∨ 8 < n ∨ o.total < o.first + n then bad
    else
      match s.data.staging.find? mine with
      | none =>
        if o.first ≠ 0 then bad
        else { s with data := { s.data with
          staging := s.data.staging ++ [Staged.mk o.link o.ctag o.seq o.cls o.total o.lines false 0] } }.showStaging o.link
      | some i =>
        if i.lines.length = i.total ∨ i.total ≠ o.total ∨ i.cls ≠ o.cls ∨ o.first ≠ i.lines.length then bad
        else { s with data := { s.data with staging := s.data.staging.map (fun (x : Staged) =>
          if mine x then { x with lines := x.lines ++ o.lines } else x) } }.showStaging o.link)

/-- COMMIT (R100): the staged items of the tag become consumable. -/
def execCommitFrame (o : TagOp) (s : State) : Result :=
  s.onFrame o.link 0 false (fun s =>
    { s with data := { s.data with staging := s.data.staging.map (fun (x : Staged) =>
      if x.link = o.link ∧ x.ctag = o.ctag then { x with committed := true } else x) } })

/-- DISCARD (R102): every staged item of the tag is dropped. -/
def execDiscard (o : TagOp) (s : State) : Result :=
  s.onFrame o.link 0 false (fun s => s.dropStaged o.link (fun i => i.ctag == o.ctag))

/-! ### Tokens -/

/-- ROW_DONE (R40, R409): counted toward the barrier, or TOKEN_ORDER (R410). -/
def execRowDone (o : TokenOp) (s : State) : Result :=
  s.onFrame o.link 0 false (fun s => s.tokenIn o.link o.ordinal id)

/-- ROW_FAULT (R45): a fault of the receiver's own job. -/
def execRowFault (o : TokenOp) (s : State) : Result :=
  s.onFrame o.link 0 false (fun s => s.tokenIn o.link o.ordinal (fun s => s.faultResponse 0 2))

/-! ### Pipeline rosters -/

/-- R415. A roster entry as a stage maps it: with local handles, the slot of its motif, and its swatch list's place; `none`
when it has no map or its motif is not SERVING. -/
def State.mapEntry (s : State) (e : RosterEntry) (place : Nat) : Option (RosterEntry × List Handle) :=
  match s.fab.maps.find? (fun m => m.fn == e.fn && m.seqId == e.seqId) with
  | none => none
  | some m => (s.slotOf m.motif).map (fun slot =>
      ({ e with kv := m.kv, motifSlot := slot, swatchCount := m.swatches.length
                swIndex := if m.swatches.isEmpty then 0 else place }, m.swatches))

/-- R414, R415. The stage's template whose bucket equals a record's: one at or below the cap where there is one. -/
def State.stageTemplate (s : State) (model seqCap tokCap ctxClass : Nat) : Option Template :=
  (s.levels model).findSome? (fun g => g.find? (fun t => t.seqCap == seqCap && t.tokCap == tokCap && t.ctxClass == ctxClass))

/-- R415. A record's roster with the stage's map and template applied. -/
def State.mapRoster (s : State) (r : Roster) (t : Template) : Option Roster :=
  (r.entries.foldl (fun (a : Option (List RosterEntry × List (List Handle))) e =>
    a.bind (fun x => (s.mapEntry e x.2.length).map (fun y =>
      (x.1 ++ [y.1], if y.2.isEmpty then x.2 else x.2 ++ [(y.2 ++ List.replicate 8 Handle.none).take 8]))))
    (some ([], []))).map (fun x => { r with template := t.id, entries := x.1, swLists := x.2 })

/-- ROSTER (R414, R415): forwarded, mapped, written to a buffer of its model slot, and marked ready; one that cannot be
mapped is found ROSTER_INVALID at step start. -/
def execRosterFrame (o : RosterFrameOp) (s : State) : Result :=
  s.onFrame o.link (ceilDiv (32 + o.bytes.length) 256) false (fun s =>
    if s.reg Reg.LNK_FABRIC_ROLE ≠ 2 ∨ s.fab.rosterIn ≠ some o.link then s
    else
      let r := Roster.ofBytes o.bytes
      let s := s.fab.rosterOut.elim s (fun l => s.send l (.roster r.step 0 o.seqCap o.tokCap o.ctxClass o.bytes))
      let busy := s.reg Reg.SEQ_ROSTER_READY_READY ||| s.reg Reg.SEQ_ROSTER_LOCK_LOCK
      let k := if bit busy (2 * r.model) then 2 * r.model + 1 else 2 * r.model
      let mapped := (s.stageTemplate r.model o.seqCap o.tokCap o.ctxClass).bind (s.mapRoster r)
      let bytes := mapped.elim o.bytes Roster.bytes
      let rest := s.fab.badRosters.filter (· != k)
      let s := { s with
        fab := { s.fab with badRosters := if mapped.isSome then rest else rest ++ [k] }
        tier := { s.tier with near := Memory.writeBytes s.tier.near (rosterAddr k) bytes } }
      s.markReady k)

/-! ### Bulk streams -/

/-- Change a relay stream. -/
def State.setRelay (s : State) (r new : Relay) : State :=
  { s with fab := { s.fab with relays := s.fab.relays.map (fun (x : Relay) => if x = r then new else x) } }

/-- The stream `n` that arrives on a link. -/
def State.relayIn (s : State) (l n : Nat) : Option Relay :=
  s.fab.relays.find? (fun r => r.linkIn == some l && r.stream == n && r.opened)

/-- The stream `n` that leaves on a link. -/
def State.relayOut (s : State) (l n : Nat) : Option Relay :=
  s.fab.relays.find? (fun r => r.linkOut == some l && r.stream == n && r.opened)

/-- R423. Log the end of a relay stream. -/
def State.relayEnd (s : State) (r : Relay) (st : Status) : State :=
  s.tinkLog 0x0709 noFn (leBytes r.stream 2 ++ leBytes st.code 2 ++ leBytes r.granules 4)

/-- R359, R421. A receiver of a stream fails: the load is released, and the sender told. -/
def State.failRelay (s : State) (r : Relay) (st : Status) : State :=
  let s := s.relayEnd r st
  let s := r.linkIn.elim s (fun l => s.send l (.bulkRefuse r.stream st))
  s.failModel r.slot st

/-- R421. The last granule and CLOSE have both come: CLOSE goes on, and the receiver compares digests. -/
def State.endRelay (s : State) (r : Relay) : State :=
  match r.closed with
  | none => s
  | some d =>
    if r.granules < r.total then s
    else
      let s := match r.linkOut with
        | some l => if r.accepted then s.send l (.bulkClose r.stream d) else s
        | none => s
      let own := Config.sha256 (s.shardBytes (s.model r.slot))
      let want : BitVec 256 := (s.model r.slot).params.digest
      if own ≠ d ∨ (r.expected ≠ 0 ∧ own ≠ r.expected) ∨ (want ≠ 0 ∧ own ≠ want) then s.failRelay r .faulted
      else (s.relayEnd r .ok).finishModel r.slot

/-- BULK_OPEN (R418): accepted when a MODEL_RELAY of the slot has the same sizes, and sent onward; else refused. -/
def execBulkOpen (o : BulkOpenOp) (s : State) : Result :=
  s.onFrame o.link 1 true (fun s =>
    match s.fab.relays.find? (fun r => r.linkIn == some o.link && r.slot == o.slot && !r.opened) with
    | none => s.send o.link (.bulkRefuse o.stream .stateConflict)
    | some r =>
      if r.sizes ≠ o.sizes then s.send o.link (.bulkRefuse o.stream .badArg)
      else
        let s := (s.setRelay r { r with stream := o.stream, opened := true, expected := o.digest }).send o.link (.bulkAccept o.stream)
        r.linkOut.elim s (fun l => s.send l (.bulkOpen o.stream o.slot o.sizes o.digest)))

/-- BULK_ACCEPT (R418): what has landed is sent, and all of it when the load is complete. -/
def execBulkAccept (o : BulkCtlOp) (s : State) : Result :=
  s.onFrame o.link 0 true (fun s =>
    match s.relayOut o.link o.stream with
    | none => s
    | some r =>
      let s := s.setRelay r { r with accepted := true }
      let x := s.model r.slot
      if x.state = 2 then s.sendStream r x x.digest 0
      else if r.linkIn.isSome then s.sendGranules r x 0 r.granules
      else s)

/-- BULK_REFUSE (R418, R421): the neighbour's status is kept for the reply; this module's own load goes on. -/
def execBulkRefuse (o : BulkCtlOp) (s : State) : Result :=
  s.onFrame o.link 0 true (fun s =>
    match s.relayOut o.link o.stream with
    | none => s
    | some r => s.setRelay r { r with accepted := false, outStatus := o.status })

/-- R109, R167. Lines of a long receive land in its tensor; a whole granule is acknowledged and its progress written. -/
def State.landLong (s : State) (r : LongRecv) (o : BulkOp) : State :=
  match s.entry (ttKey r.dst.fn r.dst.idx) with
  | none => s
  | some t =>
    let line := 4096 * o.granule + o.first
    let n := o.lines.length
    if o.granule ≠ r.done ∨ t.size < line + n ∨ t.tier ≠ .near then s
    else
      let s := s.writeNear (t.loc + line) o.lines
      let s := r.fwd.elim s (fun l => s.send l (.bulk o.stream o.granule o.first o.lines))
      if o.first + n < min 4096 (t.size - 4096 * o.granule) then s
      else
        let r' := { r with done := r.done + 1 }
        let s := s.send o.link (.bulkAck o.stream o.granule)
        if r'.done < r.total then
          { s with fab := { s.fab with longs := s.fab.longs.map (fun (x : LongRecv) => if x = r then r' else x) } }.longProgress r' 1 .ok
        else
          let s := (s.setTensor { t with incomplete := false, moving := false }).longProgress r' 3 .ok
          { s with fab := { s.fab with longs := s.fab.longs.filter (· != r) } }

/-- R419. The near-tier stretches (first line and lines) that a slot's stream fills, in its order. -/
def State.relayPlaces (s : State) (x : ModelSlot) : List (Nat × Nat) :=
  x.tensors.flatMap (fun k => ((s.entry k).elim [] s.pair).map (fun t => (t.loc, t.size)))

/-- The near-tier line of line `i` of a stream. -/
def placeOf : List (Nat × Nat) → Nat → Option Nat
  | [], _ => none
  | p :: t, i => if i < p.2 then some (p.1 + i) else placeOf t (i - p.2)

/-- BULK (R167, R419): the lines land in the slot's shards and are forwarded; a whole granule is acknowledged upstream. With no
stream of that number, they belong to the link's long receive. -/
def execBulkFrame (o : BulkOp) (s : State) : Result :=
  s.onFrame o.link o.lines.length true (fun s =>
    match s.relayIn o.link o.stream with
    | none => (s.fab.longs.find? (fun r => r.link == o.link)).elim s (fun r => s.landLong r o)
    | some r =>
      let x := s.model r.slot
      let places := s.relayPlaces x
      let lines := (places.map (·.2)).foldl (· + ·) 0
      let line := 4096 * o.granule + o.first
      let n := o.lines.length
      if o.granule ≠ r.granules ∨ lines < line + n ∨ x.state ≠ 1 then s
      else
        let s := o.lines.zipIdx.foldl (fun (s : State) (p : LineData × Nat) =>
          (placeOf places (line + p.2)).elim s (fun a => s.writeNear a [p.1])) s
        let s := match r.linkOut with
          | some l => if r.accepted then s.send l (.bulk o.stream o.granule o.first o.lines) else s
          | none => s
        if o.first + n < min 4096 (lines - 4096 * o.granule) then s
        else
          let r' := { r with granules := r.granules + 1 }
          ((s.setRelay r r').send o.link (.bulkAck o.stream o.granule)).endRelay r')

/-- BULK_ACK (R419): a granule has landed at the next module. The sender keeps its own landed copy, so nothing changes. -/
def execBulkAck (o : BulkCtlOp) (s : State) : Result := s.onFrame o.link 0 true id

/-- BULK_RESUME (R420): the sender sends again from a granule, out of its landed copy. -/
def execBulkResume (o : BulkCtlOp) (s : State) : Result :=
  s.onFrame o.link 0 true (fun s =>
    match s.relayOut o.link o.stream with
    | none => s
    | some r =>
      let x := s.model r.slot
      if x.state = 2 then s.sendStream r x x.digest o.granule
      else if r.linkIn.isSome then s.sendGranules r x o.granule r.granules
      else s)

/-- BULK_CLOSE (R421). -/
def execBulkClose (o : BulkCtlOp) (s : State) : Result :=
  s.onFrame o.link 1 true (fun s =>
    match s.relayIn o.link o.stream with
    | none => s
    | some r =>
      if (s.model r.slot).state ≠ 1 then s
      else
        let r' := { r with closed := some o.digest }
        (s.setRelay r r').endRelay r')

/-- RELAY_TIMEOUT (R421): a receiver without progress for 10 s fails. -/
def execRelayTimeout (slot : Nat) (s : State) : Result :=
  match s.fab.relays.find? (fun r => r.slot == slot && r.linkIn.isSome && r.opened) with
  | some r => ok (if (s.model slot).state = 1 then s.failRelay r .faulted else s)
  | none => ok s

/-! ### Borrowed reads -/

/-- BREAD_REQ (R356): served from a lent hank, or completed GENERATION_STALE. -/
def execBreadReq (o : BreadReqOp) (s : State) : Result :=
  s.onFrame o.link 0 false (fun s =>
    let covers (e : Extent) : Bool :=
      e.fn == o.fn && e.idx == o.idx && e.gen == o.gen && e.first ≤ o.first && o.first + o.count ≤ e.first + e.count
    match Store.get? s.tier.lent o.hank with
    | some x =>
      if x.link = o.link ∧ x.extents.any (fun e => covers e.2) then
        s.send o.link (.breadCpl o.tag false ((range (x.base + o.first) o.count).map s.nearLine))
      else (s.inc Reg.MOV_STALE_SERVED_SERVED 1).send o.link (.breadCpl o.tag true [])
    | none => (s.inc Reg.MOV_STALE_SERVED_SERVED 1).send o.link (.breadCpl o.tag true []))

/-- R355. The borrower writes or clears a directory entry of a hank lent to it; an extent that it clears is zero-filled. -/
def State.dirArrives (s : State) (o : HankDirOp) : Result :=
  s.onFrame o.link 1 false (fun s =>
    match Store.get? s.tier.lent o.hank with
    | some x =>
      if x.link ≠ o.link ∨ 64 ≤ o.extent ∨ 2 ^ 22 < o.entry.first + o.entry.count then s
      else
        let l := if o.valid then Store.put x.extents o.extent o.entry else Store.erase x.extents o.extent
        let near := match o.valid, Store.get? x.extents o.extent with
          | false, some e => Memory.zero s.tier.near (256 * (x.base + e.first)) (256 * e.count)
          | _, _ => s.tier.near
        { s with tier := { s.tier with near := near, lent := Store.put s.tier.lent o.hank { x with extents := l } } }
    | none => s)

/-- R322, R355. The first of `units` 4 KiB units free in a borrowed hank, in lines. -/
def BorrowedHank.fit (x : BorrowedHank) (units : Nat) : Option Nat :=
  let n := 16 * units
  let top (e : Extent) : Nat := (e.first + e.count + 15) / 16 * 16
  let clear (a : Nat) : Bool := a + n ≤ 2 ^ 22 && x.extents.all (fun (e : Nat × Extent) => top e.2 ≤ a || a + n ≤ e.2.first)
  (sortBy (0 :: x.extents.map (fun (e : Nat × Extent) => top e.2)) (fun (a b : Nat) => decide (a ≤ b))) |>.find? clear

/-- R355, R325. One tensor takes an extent in a borrowed hank: its place there, with the directory written. -/
def State.takeExtent (s : State) (link hank : Nat) (t : Tensor) : Option (Nat × State) :=
  let k := 512 * link + hank
  (Store.get? s.tier.borrowed k).bind (fun x =>
    match x.fit t.units, (List.range 64).find? (fun i => (Store.get? x.extents i).isNone) with
    | some first, some i =>
      let e : Extent := ⟨first, t.size, t.fn, t.idx, nextGen t.gen⟩
      let s := { s with tier := { s.tier with borrowed := Store.put s.tier.borrowed k { x with extents := Store.put x.extents i e } } }
      some (2 ^ 36 * link + 2 ^ 27 * hank + first, s.send link (.hankDir hank i true first t.size t.fn t.idx (nextGen t.gen)))
    | _, _ => none)

/-- R334, R336, R346, R355. The Tier Manager relocates a READONLY tensor into a hank borrowed on a link, from the near tier or its
home. Nothing happens where a check fails. -/
def State.placeBorrowed (s : State) (h : Handle) (link hank : Nat) : State :=
  match s.tensor? h, Store.get? s.tier.borrowed (512 * link + hank) with
  | some t, some x =>
    let p := s.pair t
    let d := MoveDesc.reloc t .borrowed
    let q := s.quota t.fn
    let need := (p.map Tensor.units).foldl (· + ·) 0
    if !s.linkUp link ∨ x.recallAt.isSome ∨ (s.moveRefusal t.fn true d).isSome ∨ p.any (·.dirty) ∨ q.borrowLimit < q.borrowUsed + need then s
    else
      let r := p.foldl (fun (a : Option (List MoveSeg × List Nat × State)) (u : Tensor) => a.bind (fun b =>
        (b.2.2.takeExtent link hank u).map (fun e =>
          let src : Tier := if u.tier = .near then .near else .deep
          let seg : MoveSeg := ⟨src, u.loc, .borrowed, e.1, u.size⟩
          (b.1 ++ [seg], b.2.1 ++ [e.1], e.2)))) (some ([], [], s))
      match r with
      | none => s
      | some r =>
        (r.2.2.setQuota t.fn { q with borrowUsed := q.borrowUsed + need }).beginMove (Move.new t.fn .evict d r.1 r.2.1 false)
  | _, _ => s

/-- HANK_DIR (R355). -/
def execHankDir (o : DirOp) (s : State) : Result :=
  match o with
  | .arrives o => s.dirArrives o
  | .places t link hank => ok (s.placeBorrowed t link hank)

/-! ### Keys, errors and training -/

/-- KEY_READY (R399): the peer confirms the new keys; when this end has too, the phase flips. -/
def execKeyReady (l : Nat) (s : State) : Result :=
  s.onFrame l 0 true (fun s =>
    let c := s.link l
    if c.ownReady then s.flipKeys l else s.setLink l { c with peerReady := true })

/-- CHANNEL_ERROR (R396): unacknowledged frames are replayed under fresh COUNTERs. -/
def execChannelError (o : ChannelErrOp) (s : State) : Result :=
  if !s.linkUp o.link then ok s
  else
    let f := linkFn o.link
    let c := s.link o.link
    let s := s.setLink o.link { c with frames := c.frames + o.replays }
    let s := s.setF f Reg.LNK_KEY_AGE_FRAMES ((c.frames + o.replays) / 2 ^ 20)
    let s := s.setF f Reg.LNK_REPLAY_REPLAYS (s.getF f Reg.LNK_REPLAY_REPLAYS + o.replays)
    ok (s.setF f Reg.LNK_FEC_CE_CE (s.getF f Reg.LNK_FEC_CE_CE + o.corrected))

/-- AUTH_FAIL (R400): counted and replayed; the sixteenth within 1 ms takes the link DOWN. -/
def execAuthFail (o : AuthFailOp) (s : State) : Result :=
  if !s.linkUp o.link then ok s
  else
    let f := linkFn o.link
    let s := s.setF f Reg.LNK_AUTH_FAIL_FAILS (s.getF f Reg.LNK_AUTH_FAIL_FAILS + 1)
    if o.recent < 16 then ok s
    else
      let s := (s.linkErr o.link Reg.LNK_ERR_AUTH_BURST).tinkLog 0x0703 noFn (leBytes o.link 1 ++ leBytes 0 7 ++ leBytes o.counter 8)
      ok (s.goDown o.link 3 true)

/-- LINK_RETRAIN (R396): the link carries no frame, which is a loss (R404); keys, counters and staging state are kept. -/
def execLinkRetrain (l : Nat) (s : State) : Result :=
  if !s.linkUp l then ok s
  else
    let f := linkFn l
    let s := (s.setF f Reg.LNK_STATE_STATE 4).showUp
    let s := s.setF f Reg.LNK_RETRAINS_RETRAINS (s.getF f Reg.LNK_RETRAINS_RETRAINS + 1)
    ok ((s.setLink l { s.link l with retrains := 0 }).loseLink l)

/-- R420. Link `l` carries frames again: receivers of interrupted streams and long receives ask for the rest. -/
def State.resumeStreams (s : State) (l : Nat) : State :=
  let s := (s.fab.relays.filter (fun r => r.linkIn == some l && r.opened && r.granules < r.total)).foldl
    (fun (s : State) r => s.send l (.bulkResume r.stream r.granules)) s
  (s.fab.longs.filter (fun r => r.link == l)).foldl (fun (s : State) r => s.send l (.bulkResume 0 r.done)) s

/-- R391, R404. A link that carries frames again below full width or rate is degraded, which is a loss. -/
def State.checkWidth (s : State) (l : Nat) : State :=
  let s := s.showUp
  let s := if s.linkFull l then s else (s.linkErr l Reg.LNK_ERR_DEGRADED).loseLink l
  s.resumeStreams l

/-- LINK_RETRAIN_DONE (R396): frames resume, or after the third failure in a row the link goes DOWN. -/
def execLinkRetrainDone (o : TrainOp) (s : State) : Result :=
  if s.linkSt o.link ≠ 4 then ok s
  else if o.good then
    ok ((((s.setF (linkFn o.link) Reg.LNK_STATE_STATE 3).setLink o.link { s.link o.link with retrains := 0 }).showWidth o.link o.twoLane
      o.halfRate).checkWidth o.link)
  else
    let c := s.link o.link
    ok (if 2 ≤ c.retrains then s.goDown o.link 1 false else s.setLink o.link { c with retrains := c.retrains + 1 })

/-- LINK_TRAINED (R401): TRAINING ends in SECURING, or after three failures in DOWN (whose cause byte for a failed training
the spec does not give: assumption 2). -/
def execLinkTrained (o : TrainOp) (s : State) : Result :=
  if s.linkSt o.link ≠ 1 then ok s
  else if o.good then
    ok ((s.setF (linkFn o.link) Reg.LNK_STATE_STATE 2).showWidth o.link o.twoLane o.halfRate)
  else
    let c := s.link o.link
    let d := s.draw
    ok (if 2 ≤ c.trainFails then d.2.goDown o.link d.1 false else s.setLink o.link { c with trainFails := c.trainFails + 1 })

/-- LINK_SECURED (R398, R402): the identity checks pass, keys are installed and the link is UP; or it goes DOWN for good. -/
def execLinkSecured (o : PairOp) (s : State) : Result :=
  let f := linkFn o.link
  if s.linkSt o.link ≠ 2 then ok s
  else if !o.chains ∨ o.keyHash ≠ (s.link o.link).keyHash ∨ o.fabricId ≠ s.reg Reg.LNK_FABRIC_FABRIC_ID ∨
      o.moduleId ≠ s.getF f Reg.LNK_CFG_PEER_EXPECT then
    let s := (s.linkErr o.link Reg.LNK_ERR_PEER_MISMATCH).tinkLog 0x0707 noFn
      (leBytes o.link 1 ++ leBytes 0 1 ++ leBytes o.moduleId 2 ++ leBytes o.fabricId 2)
    ok (s.goDown o.link 5 true)
  else
    let c := s.link o.link
    let s := s.setLink o.link { LinkCtl.empty with keyHash := c.keyHash, gens := 1 }
    let s := (s.setF f Reg.LNK_STATE_STATE 3).setF f Reg.LNK_STATE_PEER_MODULE o.moduleId
    let s := (s.setF f Reg.LNK_STATE_KEY_PHASE 0).setF f Reg.LNK_REKEYS_REKEYS (s.getF f Reg.LNK_REKEYS_REKEYS + 1)
    let half := s.getF f Reg.LNK_STATE_HALF_RATE
    let s := s.tinkLog 0x0701 noFn (leBytes o.link 1 ++ leBytes 0 1 ++ leBytes o.moduleId 2 ++
      leBytes (s.getF f Reg.LNK_STATE_TWO_LANE + 4 * half) 1)
    ok (s.checkWidth o.link)

/-- LOSS_OF_SIGNAL (R401). -/
def execLossOfSignal (l : Nat) (s : State) : Result := if s.linkUp l then ok (s.goDown l 0 false) else ok s

/-- LINK_RETRY (R401): a DOWN link trains again, up to three times, unless R400 or R402 bars it. -/
def execLinkRetry (l : Nat) (s : State) : Result :=
  let c := s.link l
  if s.linkSt l ≠ 5 ∨ c.noRetry ∨ 3 ≤ c.retries then ok s
  else ok ((s.setF (linkFn l) Reg.LNK_STATE_STATE 1).setLink l { c with retries := c.retries + 1, trainFails := 0 })

/-- REKEY_DUE (R399): a fresh session is run; a direction at COUNTER 2^41 without new keys takes the link DOWN. -/
def execRekeyDue (o : RekeyOp) (s : State) : Result :=
  if !s.linkUp o.link then ok s
  else if o.late ∨ 2 ^ 41 ≤ (s.link o.link).frames then
    ok ((s.linkErr o.link Reg.LNK_ERR_REKEY_LATE).goDown o.link 4 false)
  else ok (s.rekey o.link)

/-- OLD_KEY_EXPIRY (R399). -/
def execOldKeyExpiry (l : Nat) (s : State) : Result := ok (s.setLink l { s.link l with oldKeys := false })

/-! ### The Row Beacon -/

/-- BEACON_PULSE (R411): the count advances; four pulses in a row at the module's own row length within 0.5 % lock it. -/
def execBeaconPulse (periodNs : Nat) (s : State) : Result :=
  let s := s.inc2 Reg.LNK_BEACON_CNT_LO_CNT_LO Reg.LNK_BEACON_CNT_HI_CNT_HI 1
  let nominal := 1000 * (s.reg Reg.SEQ_ROW_CFG_ROW_LEN + 1)
  let near := 200 * (max periodNs nominal - min periodNs nominal) ≤ nominal
  if !s.flag Reg.LNK_CTRL_BEACON_IN_EN then ok { s with fab := { s.fab with pulses := 0 } }
  else
    let n := if near then s.fab.pulses + 1 else 0
    let s := { s with fab := { s.fab with pulses := n } }
    ok (if 4 ≤ n then s.set Reg.LNK_BEACON_LOCKED 1 else s)

/-- BEACON_LOST (R412): a locked module that sees no pulse for two row lengths unlocks. -/
def execBeaconLost (s : State) : Result :=
  if !s.flag Reg.LNK_BEACON_LOCKED then ok s
  else
    let s := { s with fab := { s.fab with pulses := 0 } }.set Reg.LNK_BEACON_LOCKED 0
    let s := s.err Reg.LNK_ERR_BEACON_LOST Reg.LNK_INT_EN_EN 6 6
    ok (s.tinkLog 0x0706 noFn (leBytes (s.reg Reg.LNK_BEACON_CNT_LO_CNT_LO) 4 ++ leBytes (s.reg Reg.LNK_BEACON_CNT_HI_CNT_HI) 2))

end Sys2Proof.Machine
end

