-- ==== Sys2Proof/Machine/ModuleCmds.lean ====
section
/-!
DEFINITION. Rails, clock, couplings and telemetry of the module (R605 to R624).
-/

namespace Sys2Proof.Machine

/-! ### Pins -/

/-- R605. PWR_GOOD: the input switch is closed and every rail lies in its window. -/
def State.pwrGood (s : State) : Bool := !s.mod.off && s.flag Reg.TEL_STATUS_PWR_EN && s.flag Reg.TEL_STATUS_RAILS_OK

/-- R605, R610. FAULT# is asserted. -/
def State.faultPin (s : State) : Bool :=
  s.flag Reg.THM_STATUS_TRIPPED || s.flag Reg.GLB_HOLDUP_BANK_FAULT || s.flag Reg.GLB_STATUS_RECOVERY || s.mod.lockedOff

/-- R624. SMB_ALERT# is asserted: an enabled bit of TEL_ALERT is set. -/
def State.smbAlert (s : State) : Bool :=
  ([Reg.TEL_ALERT_UNDER_V, Reg.TEL_ALERT_OVER_V, Reg.TEL_ALERT_COUPLING_OPEN, Reg.TEL_ALERT_INLET_HIGH].any
    (fun f => s.flag f && bit (s.reg Reg.TEL_ALERT_EN_EN) f.lo))

/-- R614. The SMBus and I3C static address. -/
def State.busAddress (s : State) : Nat := 0x58 + s.mod.straps

/-! ### Faults -/

/-- R610. The rails by their TEL voltage sensors: 8 V12, 9 and 10 VCORE, 11 and 12 VSRAM, 13 to 15 VHBM, 16 VSERDES, 17 VIO, 18
VFLASH, 19 VAON. A flush needs flash and the always-on domain, a write-back HBM too. -/
def railFlush (rail : Nat) : Bool := rail != 8 && rail != 18 && rail != 19

/-- R610. Whether a write-back can be performed with this rail out of window. -/
def railWrite (rail : Nat) : Bool := railFlush rail && !(13 ≤ rail && rail ≤ 15)

/-- RAIL_FAULT (R610, R447): the module powers off until input power is removed and restored. -/
def execRailFault (rail : Nat) (s : State) : Result :=
  if s.mod.off ∨ rail < 8 ∨ 20 ≤ rail then ok s
  else
    let s := ((s.set Reg.TEL_STATUS_RAILS_OK 0).moduleFault 0xFF).powerOff (railFlush rail) (railWrite rail)
    ok { s with mod := { s.mod with lockedOff := true } }

/-- REFCLK_FAULT (R611, R447): issue stops, and the host link goes down and is held down. The LTSSM state logged is free. -/
def execRefclkFault (s : State) : Result :=
  if s.mod.off ∨ !s.mod.refclkOk then ok s
  else
    let r := (s.moduleFault 0xFF).draw
    ok ({ r.2 with mod := { r.2.mod with refclkOk := false } }.linkLoss (r.1 % 256))

/-- REFCLK_RECOVERED (R611): within tolerance for 10 ms; the link may come up. -/
def execRefclkRecovered (s : State) : Result := ok { s with mod := { s.mod with refclkOk := true } }

/-- FAILED_HBM_STACK (R447). -/
def execFailedHbmStack (stack : Nat) (s : State) : Result :=
  if s.mod.off ∨ 8 ≤ stack then ok s else ok (s.moduleFault 0xFF)

/-! ### Couplings and telemetry -/

/-- COUPLING_OPEN (R621): the thermal cap becomes P7. -/
def execCouplingOpen (s : State) : Result :=
  if s.mod.off then ok s
  else
    let s := (s.set Reg.TEL_STATUS_COUPLED 0).set Reg.TEL_ALERT_COUPLING_OPEN 1
    ok { s with pwr := { s.pwr with openCap := true } }.levelChanged

/-- COUPLING_CLOSED (R621). -/
def execCouplingClosed (s : State) : Result :=
  ok { s.set Reg.TEL_STATUS_COUPLED 1 with pwr := { s.pwr with openCap := false } }.levelChanged

/-- R624. Record the input voltage, in 10 mV. -/
def State.vin (s : State) (v : Nat) : State :=
  { s with pwr := { s.pwr with tel := Store.put s.pwr.tel 0 (10 * (v % 65536)) } }.set Reg.TEL_INPUT_VIN (v % 65536)

/-- UNDER_V (R607, R624): VIN between 44 V and 48 V, or back above. -/
def execUnderV (below : Bool) (vin : Nat) (s : State) : Result :=
  let s := s.vin vin
  if below then ok ((s.set Reg.TEL_STATUS_UNDER_V 1).set Reg.TEL_ALERT_UNDER_V 1) else ok (s.set Reg.TEL_STATUS_UNDER_V 0)

/-- OVER_V (R624). -/
def execOverV (vin : Nat) (s : State) : Result :=
  let s := s.vin vin
  ok (if 5400 < vin % 65536 then s.set Reg.TEL_ALERT_OVER_V 1 else s)

/-- INLET_HIGH (R619): a coolant inlet reading (sensor 58, in 0.125 °C). -/
def execInletHigh (temp : Nat) (s : State) : Result :=
  let s := s.readTemps [(58, temp)]
  let s := { s with pwr := { s.pwr with tel := Store.put s.pwr.tel 3 (BitVec.ofInt 32 (temp12 (temp % 4096))).toNat } }
  ok (if 360 < temp12 (temp % 4096) then s.set Reg.TEL_ALERT_INLET_HIGH 1 else s)

end Sys2Proof.Machine
end

