-- ==== Sys2Proof/Machine/Patterns.lean ====
section
/-!
DEFINITION. The pattern messages: GRAPH_SUBMIT, TEMPLATE_LOAD, TEMPLATE_BUILD, TEMPLATE_RETIRE, PATTERN_QUERY and
TRAIN_WINDOW (R49, R74, R171, R292, R521, R522, R629), and the end of a build (R52).
-/

namespace Sys2Proof.Machine

/-- R81. Put a job on the control cores. -/
def State.addBuild (s : State) (j : BuildJob) : State :=
  { s with seq := { s.seq with builds := s.seq.builds ++ [j] } }.set Reg.SEQ_BUILD_STATUS_BUSY 1

/-- GRAPH_SUBMIT (R49, R289, R295, R315, R520, R521): the graph is read, checked and handed to the graph sequencer. -/
def execGraphSubmit (m : Mail) (s : State) : Result :=
  ok (s.mail m
    { type := 0x0401, minMinor := 0, longReply := false, size := 20, args := fun _ => m.u 8 8 % 64 == 0
      sender := fun _ => true
      body := fun t s =>
        match graphBuf m.buffer (m.u 16 4) with
        | none => .fail s .badArg []
        | some g =>
          match s.graphRefusal m.fn g with
          | some r => .fail s r.1 r.2
          | none =>
            let s := g.descs.foldl State.claimCode s
            .later (s.addBuild (.graph t (s.newGraph g))) })

/-- R74. What keeps a template of an id for a model from being loaded. -/
def State.templateConflict (s : State) (id model : Nat) : Option Conflict :=
  let st := (s.model model).state
  if st ≠ 2 then some ⟨0, st, model⟩
  else if s.templateUsed id then some ⟨0, 1, id⟩
  else none

/-- TEMPLATE_LOAD (R74, R628, R629): the image is read and its body handed to the Builder to check. -/
def execTemplateLoad (m : Mail) (s : State) : Result :=
  let verify := bit (m.u 8 4) 0
  ok (s.mail m
    { type := 0x0402, minMinor := 0, longReply := false, size := 28
      args := fun _ => m.u 8 4 ≤ 1 && m.u 12 4 == 0 && m.u 16 8 % 64 == 0
      sender := fun _ => m.fn == 0
      body := fun t s =>
        match (if m.buffer.length = m.u 24 4 then imageTemplate m.buffer else none) with
        | none => .fail s .badArg []
        | some (tpl, body) =>
          match s.templateConflict tpl.id tpl.model with
          | some c => .conflict c
          | none =>
            match s.tier.lent.find? (fun h => tpl.sendsOn h.2.link) with
            | some h => .conflict ⟨0, s.linkSt h.2.link, h.2.link⟩
            | none =>
            if !verify ∧ !s.pmRoom tpl.id body.length then .fail s .noCapacity []
            else .later (s.addBuild (.load t tpl body verify)) })

/-- TEMPLATE_BUILD (R54, R74, R521): the graph is read, checked and handed to the Builder with the bucket asked for. -/
def execTemplateBuild (m : Mail) (s : State) : Result :=
  let b := m.u 22 1
  let tpl := Template.ask (m.u 20 2) (bits b 0 3) (bits b 3 4) (m.u 23 1) (m.u 24 4) (m.u 28 4)
  ok (s.mail m
    { type := 0x0403, minMinor := 0, longReply := false, size := 32
      args := fun _ => m.u 8 8 % 64 == 0 && tpl.bucketOk
      sender := fun _ => m.fn == 0
      body := fun t s =>
        match graphBuf m.buffer (m.u 16 4) with
        | none => .fail s .badArg []
        | some g =>
          if g.fn ≠ 0 ∨ g.descs.any (fun d => d.fn != 0) then .fail s .denied []
          else if g.model ≠ tpl.model ∨ g.descs.any (fun d => d.badVersion || d.badArg) ∨ s.unordered g then
            .fail s .badArg []
          else
            match s.templateConflict tpl.id tpl.model with
            | some c => .conflict c
            | none =>
              if !bit b 7 ∧ 1024 ≤ (s.otherTemplates tpl.id).length then .fail s .noCapacity []
              else .later (s.addBuild (.build t (s.newGraph g) tpl (bit b 7))) })

/-- TEMPLATE_RETIRE (R74, R123): the template leaves Pattern Memory. -/
def execTemplateRetire (m : Mail) (s : State) : Result :=
  let id := m.u 8 2
  ok (s.mail m
    { type := 0x0404, minMinor := 0, longReply := false, size := 10, args := fun _ => true, sender := fun _ => m.fn == 0
      body := fun _ s =>
        if !s.seq.templates.any (fun t => t.id == id) then .fail s .badArg []
        else if s.templateUsed id then .conflict ⟨0, 1, id⟩
        else .done (s.setTemplates (s.otherTemplates id)) [] })

/-- R171. The progress of the sender's commands in flight, by slot, then by die: FUNCTION, CSLOT, MARK and the row within
the command. The PF sees every function's. -/
def State.progress (s : State) (fn : Nat) : List Byte :=
  let mine := s.data.slots.filter (fun x => fn == 0 || (s.cmd x.2.cid).desc.fn == fn)
  leBytes mine.length 4 ++ mine.flatMap (fun x =>
    let c := s.cmd x.2.cid
    leBytes c.desc.fn 2 ++ leBytes x.1 2 ++ leBytes c.mark 2 ++ leBytes c.markRow 2)

/-- PATTERN_QUERY (R171): the last progress marks. -/
def execPatternQuery (m : Mail) (s : State) : Result :=
  ok (s.mail m
    { type := 0x0405, minMinor := 0, longReply := true, size := 8, args := fun _ => true, sender := fun _ => true
      body := fun _ s => .done s (s.progress m.fn) })

/-- TRAIN_WINDOW (R292, R522): a window of rows at a step boundary for one function. -/
def execTrainWindow (m : Mail) (s : State) : Result :=
  let step := m.u 8 8
  let rows := m.u 16 4
  let fn := m.u 20 2
  ok (s.mail m
    { type := 0x0406, minMinor := 1, longReply := false, size := 22
      args := fun _ => 1 ≤ rows && rows ≤ 4096 && fn ≤ 1024
      sender := fun _ => m.fn == 0
      body := fun _ s =>
        if step < s.stepNo ∨ (step = s.stepNo ∧ s.seq.step.isSome) then .conflict ⟨0, 1, step⟩
        else
          let ws := s.seq.windows.filter (fun w => w.step != step)
          .done { s with seq := { s.seq with windows := ws ++ [⟨step, rows, rows, fn⟩] } } [] })

/-! ### The end of a build -/

/-- R81. Record the failure code of a check. -/
def State.buildErr (s : State) (code : Nat) : State := s.set Reg.SEQ_BUILD_STATUS_LAST_ERR code

/-- R521. The reply of a graph build. -/
def graphReply (g : Graph) (code task rows : Nat) : List Byte :=
  leBytes g.graphId 8 ++ leBytes code 1 ++ leBytes 0 1 ++ leBytes task 2 ++ leBytes rows 4

/-- R629. The reply of TEMPLATE_LOAD. -/
def loadReply (id code cmd row rows : Nat) : List Byte :=
  leBytes id 2 ++ leBytes code 1 ++ leBytes 0 1 ++ leBytes cmd 2 ++ leBytes 0 2 ++ leBytes row 4 ++ leBytes rows 4

/-- R416, R54. A pipeline's template that fails RAMP in its first row, checked from FLOOR_W. -/
def State.floorFails (s : State) (code row : Nat) : Bool := code == 9 && row == 0 && s.reg Reg.LNK_FABRIC_ROLE != 0

/-- The end of a template check: refused, failed, or stored and answered. `payload` gives the reply from the code, the
command or task, the row and the rows. -/
def State.endTemplate (s : State) (t : Ticket) (tpl : Template) (body : List Byte) (verify : Bool)
    (payload : Nat → Nat → Nat → Nat → List Byte) : State :=
  match s.checkTemplate tpl body (!verify) with
  | .refuse cmd row => s.reply t .badArg (payload 0 cmd row 0)
  | .fail code cmd row =>
    if s.floorFails code row ∧ t.type = 0x0402 ∧ !verify then (s.buildErr code).reply t .badArg []
    else (s.buildErr code).reply t .faulted (payload code cmd row tpl.rows.length)
  | .good tpl' body' =>
    let rows := tpl'.rows.length
    if verify then s.reply t .ok (payload 0 0xFFFF 0 rows)
    else
      match s.storeTemplate tpl' body' with
      | some s => (s.gaugeFor tpl'.loadClass tpl'.level).reply t .ok (payload 0 0xFFFF 0 rows)
      | none => (s.buildErr 0xA).reply t .faulted (payload 0xA 0xFFFF 0 rows)

/-- R80. Recheck every template: one that now fails is marked unverified. -/
def State.recheckAll (s : State) : State :=
  let one (t : Template) : Template × Nat :=
    match s.checkTemplate t [] false with
    | .good _ _ => ({ t with verified := true }, 0)
    | .fail code _ _ => ({ t with verified := false }, code)
    | .refuse _ _ => ({ t with verified := false }, 0)
  let r := s.seq.templates.map one
  let bad := (r.map (·.2)).filter (· != 0)
  let s := s.setTemplates (r.map (·.1))
  match bad.getLast? with
  | some c => s.buildErr c
  | none => s

/-- The end of one job. -/
def State.endBuild (s : State) (o : BuildDoneOp) (j : BuildJob) : State :=
  match j with
  | .recheck => s.recheckAll
  | .graph t g =>
    if o.code ≠ 0 then (s.buildErr o.code).reply t .faulted (graphReply g o.code o.task o.rows)
    else if !g.fabric ∧ o.taskRows.any (8 < ·) then s.reply t .badArg []
    else
      let g := { g with tasks := g.tasks.zipIdx.map (fun (x : GTask × Nat) => { x.1 with rows := o.taskRows.getD x.2 1 }) }
      ({ s with seq := { s.seq with graphs := s.seq.graphs ++ [g] } }).reply t .ok (graphReply g 0 0 o.rows)
  | .build t g entry verify =>
    let pay (code task _row rows : Nat) : List Byte := graphReply g code task rows ++ leBytes entry.id 2
    if o.code ≠ 0 then (s.buildErr o.code).reply t .faulted (pay o.code o.task 0 o.rows)
    else s.endTemplate t (entry.withBody o.body o.rows g.tasks.length) o.body verify pay
  | .load t tpl body verify => s.endTemplate t tpl body verify (loadReply tpl.id)

/-- BUILD_DONE (R52, R54, R80, R521, R629): the oldest job on the control cores finishes. -/
def execBuildDone (o : BuildDoneOp) (s : State) : Result :=
  match s.seq.builds with
  | [] => ok s
  | j :: rest =>
    if !s.builderUp then ok s else
    let s := { s with seq := { s.seq with builds := rest } }.set Reg.SEQ_BUILD_STATUS_BUSY (b2n !rest.isEmpty)
    ok (s.endBuild o j)

end Sys2Proof.Machine
end

