-- ==== Sys2Proof/Machine/Sched.lean ====
section
/-!
DEFINITION. The scheduling and sequence messages (R377, R381, R386 to R388).
-/

namespace Sys2Proof.Machine

/-- SCHED_SET (R377). -/
def execSchedSet (m : Mail) (s : State) : Result :=
  let fn := m.u 8 2
  let x : Sched := ⟨m.u 10 2, m.u 12 2, m.u 16 4, m.u 20 2⟩
  ok (s.mail m
    { type := 0x0410, minMinor := 0, longReply := false, size := 22
      args := fun _ => fn ≤ 1024 && m.u 14 2 == 0 && x.share ≤ 1024 && x.priority ≤ 7 && 64 ≤ x.slice && x.slice ≤ 65536 &&
        x.slice % 64 == 0 && x.maxSeq ≤ 4096
      sender := fun _ => m.fn == 0
      body := fun _ s =>
        let others := ((s.serve.sched.filter (fun p => p.1 != fn)).map (fun p => p.2.share)).foldl (· + ·) 0
        if 1024 < others + x.share then .fail s .noCapacity []
        else .done { s with serve := { s.serve with sched := Store.put s.serve.sched fn x } } [] })

/-- R379. A function's reserve of entries and tokens in the steps of one class of one model. -/
def State.reserve (s : State) (fn model : Nat) (isLong : Bool) : Nat × Nat :=
  match s.fillTemplate model isLong with
  | some t => ((s.sched fn).share * t.seqCap / 1024, (s.sched fn).share * t.tokCap / 1024)
  | none => (0, 0)

/-- SCHED_QUERY (R377 to R379, R388): parameters, the reserves of each model's NORMAL and LONG class, and the charges of
this window and the last. -/
def execSchedQuery (m : Mail) (s : State) : Result :=
  let fn := m.u 8 2
  ok (s.mail m
    { type := 0x0411, minMinor := 0, longReply := true, size := 10, args := fun _ => fn ≤ 1024
      sender := fun _ => fn == m.fn || m.fn == 0
      body := fun _ s =>
        let x := s.sched fn
        let res := (List.range 8).flatMap (fun k => [s.reserve fn k false, s.reserve fn k true])
        .done s (leBytes x.share 2 ++ leBytes x.priority 2 ++ leBytes x.slice 4 ++ leBytes x.maxSeq 2 ++ leBytes 0 2 ++
          leBytes res.length 4 ++ res.flatMap (fun r => leBytes r.1 4 ++ leBytes r.2 4) ++
          leBytes (s.chargeOf fn) 4 ++ leBytes (Store.getD s.serve.lastCharges fn 0) 4) })

/-- MODEL_SCHED_SET (R381). -/
def execModelSchedSet (m : Mail) (s : State) : Result :=
  let x : ModelSched := ⟨m.u 10 2, m.u 12 2, m.u 14 2, m.u 16 2⟩
  ok (s.mail m
    { type := 0x0412, minMinor := 0, longReply := false, size := 18
      args := fun _ => m.u 8 2 < 8 && 1 ≤ x.weight && x.weight ≤ 8 && 1 ≤ x.longClass && x.longClass ≤ 11 &&
        1 ≤ x.longPeriod && x.longPeriod ≤ 64 && 1 ≤ x.longRows
      sender := fun _ => m.fn == 0
      body := fun _ s => .done { s with serve := { s.serve with models := Store.put s.serve.models (m.u 8 2) x } } [] })

/-- R386 step 1. Entries fetched and not admitted are refused and stay in the queue. -/
def State.returnFetched (s : State) (fn : Nat) : State :=
  let mine := s.host.fetched.filter (fun f => f.fn == fn)
  let report := (Conflict.mk 5 2 fn).bytes
  let s := mine.foldl (fun (s : State) f =>
    if 2 ≤ f.entry.opc then s.post fn .seq .stateConflict f.queue true (seqBody f.entry.tag 0 0 0 0 report)
    else s.postCommand { f.entry.desc with fn := fn } f.queue .stateConflict report 0) s
  { s with host := { s.host with fetched := s.host.fetched.filter (fun f => f.fn != fn) } }

/-- FUNC_PREEMPT (R386): the reply comes when the last step that names the function has committed. -/
def execFuncPreempt (m : Mail) (s : State) : Result :=
  let fn := m.u 8 2
  ok (s.mail m
    { type := 0x0413, minMinor := 0, longReply := false, size := 10, args := fun _ => fn ≤ 1024
      sender := fun _ => m.fn == 0
      body := fun t s =>
        if s.getF fn Reg.GLB_FN_STATE_STATE ≠ 1 ∨ s.serve.preempts.any (fun p => p.fn == fn) then .conflict (s.fnConflict fn)
        else
          let s := s.returnFetched fn
          .later { s with serve := { s.serve with preempts := s.serve.preempts ++ [⟨fn, t⟩] } } })

/-- R387. What keeps a function from being resumed: its state, or one of its tensors. -/
def State.resumeConflict (s : State) (fn : Nat) : Option Conflict :=
  let mine := (s.tier.tt.map (·.2)).filter (fun t => t.fn == fn)
  if s.getF fn Reg.GLB_FN_STATE_STATE ≠ 2 then some (s.fnConflict fn)
  else
    match mine.find? (·.parked) with
    | some t => some (t.conflict 0)
    | none =>
      if s.tier.parks.any (fun p => p.1 == fn) ∨ s.tier.restores.any (fun p => p.1 == fn) then
        some (((mine.find? (·.moving)).map (fun t => t.conflict 0)).getD (s.fnConflict fn))
      else none

/-- R329, R361. The handle that names now what a handle named before a park and a restore. -/
def State.current (s : State) (h : Handle) : Handle :=
  if h = Handle.none then h else ((s.entry (ttKey h.fn h.idx)).map Tensor.handle).getD h

/-- R387, R368. A paused sequence is admitted again, with the handles its tensors have now, or ends with the status of the
check that fails. -/
def State.resumeSeq (s : State) (id : Nat) : State :=
  match Store.get? s.serve.seqs id with
  | none => s
  | some q =>
    let q := { q with phase := if q.remain = 0 then .decode else .prefill
                      kv := s.current q.kv, tokens := s.current q.tokens, motif := s.current q.motif
                      swatches := q.swatches.map s.current }
    let without := { s with serve := { s.serve with seqs := Store.erase s.serve.seqs id } }
    if (Store.get? s.serve.builds id).isSome then
      let s := s.pin q.swatches
      { s with serve := { s.serve with seqs := Store.put s.serve.seqs id q } }
    else
      match without.seqRefusal q with
      | none => without.openSeq id q
      | some r =>
        let s := { s with serve := { s.serve with seqs := Store.put s.serve.seqs id { q with phase := .queued } } }
        s.endSeq id 3 r.1

/-- FUNC_RESUME (R387, R107). -/
def execFuncResume (m : Mail) (s : State) : Result :=
  let fn := m.u 8 2
  ok (s.mail m
    { type := 0x0414, minMinor := 0, longReply := false, size := 10, args := fun _ => fn ≤ 1024
      sender := fun _ => m.fn == 0
      body := fun _ s =>
        match s.resumeConflict fn with
        | some c => .conflict c
        | none =>
          let s := s.setF fn Reg.GLB_FN_STATE_STATE 1
          let heads := (Store.get? s.tier.ctx fn).elim (List.replicate 8 0) (·.sqHeads)
          let at' := heads.zipIdx.foldl (fun (a : List (Nat × Nat)) h => Store.put a (fn * 8 + h.2) h.1) s.host.fetchAt
          let s := { s with host := { s.host with fetchAt := at' } }
          let ids := (s.serve.seqs.filter (fun q => q.2.fn == fn && q.2.phase == .paused)).map (·.1)
          .done ((ids.foldl State.resumeSeq s).resumeMoves (fun x => x.fn == fn && x.cause.ofFunction && x.table == Handle.none)) [] })

/-- R367. The number of a sequence's state. -/
def SeqPhase.code (p : SeqPhase) : Nat :=
  match p with
  | .queued => 0
  | .prefill => 1
  | .decode => 2
  | .paused => 3

/-- SEQ_QUERY (R388): state, position and the step of the last token. -/
def execSeqQuery (m : Mail) (s : State) : Result :=
  let id := m.u 8 4
  ok (s.mail m
    { type := 0x0415, minMinor := 0, longReply := false, size := 12
      args := fun s => (Store.get? s.serve.seqs id).isSome
      sender := fun s => m.fn == 0 || (Store.get? s.serve.seqs id).any (fun q => q.fn == m.fn)
      body := fun _ s =>
        match Store.get? s.serve.seqs id with
        | some q => .done s (leBytes q.phase.code 2 ++ leBytes 0 2 ++ leBytes q.pos 4 ++ leBytes q.lastStep 8)
        | none => .fail s .badArg [] })

end Sys2Proof.Machine
end

