-- ==== Sys2Proof/Machine/Tink.lean ====
section
/-!
DEFINITION. The Tink log's messages and registers (R448, R451, R452, R455), and the reader of fault records (R544, R553).
-/

namespace Sys2Proof.Machine

/-- R448. The 32 bytes of a Tink entry. -/
def TinkEntry.bytes (e : TinkEntry) : List Byte :=
  leBytes e.row 6 ++ leBytes e.cycle 2 ++ leBytes e.code 2 ++ leBytes e.fn 2 ++ leBytes e.seq 4 ++ e.args

/-- R452. The log that SOURCE of TINK_READ names: 0 the ring, 1 to 16 a flush, the most recent first, 17 to 20 a frozen slot
(DESIGN CHOICE). -/
def State.tinkSource (s : State) (k : Nat) : Option (List TinkEntry) :=
  if k = 0 then some s.tink.ring
  else if k ≤ 16 then s.tink.flushes.reverse[k - 1]?
  else Store.get? s.tink.frozen (k - 17)

/-- TINK_READ (R452): up to COUNT entries of SOURCE from entry FIRST of it on. -/
def execTinkRead (m : Mail) (s : State) : Result :=
  let src := m.u 8 2
  let count := m.u 16 4
  ok (s.mail m
    { type := 0x0701, minMinor := 0, longReply := true, size := 20
      args := fun s => src ≤ 20 && m.u 10 2 == 0 && 1 ≤ count && count ≤ 127 && (s.tinkSource src).isSome
      sender := fun _ => m.fn == 0
      body := fun _ s =>
        let l := (((s.tinkSource src).getD []).drop (m.u 12 4)).take count
        .done s (leBytes l.length 4 ++ l.flatMap TinkEntry.bytes) })

/-- TINK_FREEZE (R452). A freeze that finds every slot held answers NO_CAPACITY. -/
def execTinkFreeze (m : Mail) (s : State) : Result :=
  ok (s.mail m
    { type := 0x0702, minMinor := 0, longReply := false, size := 8, args := fun _ => true, sender := fun _ => m.fn == 0
      body := fun _ s =>
        if s.tink.frozen.length < 4 then .done s.freeze [] else .fail s.freeze .noCapacity [] })

/-- R455. TNK_STATUS.FROZEN shows the slots whose copy has completed. -/
def State.showFrozen (s : State) : State :=
  s.set Reg.TNK_STATUS_FROZEN ((s.tink.frozen.map (fun c => 2 ^ c.1)).foldl (· + ·) 0)

/-- TINK_RELEASE (R452). -/
def execTinkRelease (m : Mail) (s : State) : Result :=
  let slot := m.u 8 2
  ok (s.mail m
    { type := 0x0703, minMinor := 0, longReply := false, size := 10, args := fun _ => slot < 4, sender := fun _ => m.fn == 0
      body := fun _ s =>
        if (Store.get? s.tink.frozen slot).isNone ∨ s.tink.freezing = some slot then
          .conflict ⟨0, b2n (Store.get? s.tink.frozen slot).isSome, slot⟩
        else
          let s := { s with tink := { s.tink with frozen := Store.erase s.tink.frozen slot } }
          .done (s.set Reg.TNK_STATUS_FROZEN (clearBit (s.reg Reg.TNK_STATUS_FROZEN) slot)) [] })

/-- TNK_FREEZE (R452, R455): software writes TNK_CTRL.FREEZE. -/
def execTnkFreeze (s : State) : Result := ok s.freeze

/-- TINK_FLUSH_DONE (R451, R452, R510, R544, R598): the flush and the freeze that run complete; the sixteen newest flushes are
kept, and vector 12 is raised. -/
def execTinkFlushDone (s : State) : Result :=
  if !s.tink.flushing ∧ s.tink.freezing.isNone then ok s
  else
    let s := if s.tink.flushing then
        let l := s.tink.flushes ++ [s.tink.ring]
        let s := { s with tink := { s.tink with flushing := false, flushes := l.drop (l.length - 16) } }
        ((s.set Reg.TNK_STATUS_FLUSHING 0).inc Reg.TNK_FLUSHES_FLUSHES 1).set Reg.TNK_FLUSH_SEQ_ENTRY_SEQ
          (s.reg Reg.TNK_SEQ_ENTRY_SEQ)
      else s
    let s := if s.tink.freezing.isSome then
        let s := { s with tink := { s.tink with freezing := none } }
        (s.set Reg.TNK_CTRL_FREEZE 0).showFrozen
      else s
    ok (s.msix 0 12).bindAdvance

/-- Show 4-byte words in consecutive registers from field `f` on. -/
def State.showWords (s : State) (f : Fld) (n : Nat) (l : List Byte) : State :=
  (List.range n).foldl (fun (s : State) i => s.set (f.at (4 * i)) (leField l (4 * i) 4)) s

/-- TNK_ENTRY_READ (R455): ABSENT for an entry that has left the ring; an entry not yet written reads zero. -/
def execTnkEntryRead (s : State) : Result :=
  let n := s.reg Reg.TNK_SEL_ENTRY_SEQ
  match s.tink.ring.find? (fun e => e.seq == n) with
  | some e => ok ((s.showWords Reg.TNK_DATA0_WORD 8 e.bytes).set Reg.TNK_CMD_DONE 1)
  | none =>
    let s' := s.showWords Reg.TNK_DATA0_WORD 8 []
    let past := (s.tink.nextSeq + 2 ^ 32 - 1 - n) % 2 ^ 32 < 2 ^ 31 && s.tink.ring.length == 16384
    ok (s'.set (if past then Reg.TNK_CMD_ABSENT else Reg.TNK_CMD_DONE) 1)

/-- FW_FAULT_READ (R544, R553). -/
def execFwFaultRead (s : State) : Result :=
  match Store.get? s.fw.ring (s.reg Reg.GLB_FW_FAULT_SEL_INDEX) with
  | some l => ok ((s.showWords Reg.GLB_FW_FAULT_DATA0_WORD 16 l).set Reg.GLB_FW_FAULT_CMD_DONE 1)
  | none => ok ((s.showWords Reg.GLB_FW_FAULT_DATA0_WORD 16 []).set Reg.GLB_FW_FAULT_CMD_ABSENT 1)

end Sys2Proof.Machine
end

