-- ==== Sys2Proof/Machine/Twins.lean ====
section
/-!
DEFINITION. Twin sets: the twin messages (R425, R426, R438, R441), TWIN frames (R429 to R435) and the events of time on a
twin set (R430, R433, R436 to R439).
-/

namespace Sys2Proof.Machine

/-! ### Messages -/

/-- R425. The most lines that a row of a template writes to mirrored tensors: its CM.TENS lines, and for its CM.KV the
key/value rows of a full roster. -/
def State.mirroredLines (s : State) (t : Template) : Nat :=
  let lpt := (s.model t.model).params.kvLpt
  let row (r : RowRecord) : Nat := (({ t with rows := [r] }.instrs).map (fun (x : Issue × Instr) => match x.2 with
    | .cmTens _ o => o.lcnt + 1
    | .cmKv _ _ => t.tokCap * lpt
    | _ => 0)).foldl (· + ·) 0
  (t.rows.map row).foldl max 0

/-- R425. Whether a template's mirrored writes in some row exceed 80 % of what `n` twin links carry in a nominal row. -/
def State.tooWide (s : State) (t : Template) (n : Nat) : Bool :=
  80 * n * 100000 * (s.reg Reg.SEQ_ROW_CFG_ROW_LEN + 1) < 100 * 256 * s.mirroredLines t

/-- R425. Whether every tenant function that is enabled holds its key. -/
def State.tenantsKeyed (s : State) : Bool :=
  (s.tier.ctx.map (·.1)).all (fun f => f == 0 || s.getF f Reg.GLB_FN_STATE_STATE == 0 || (Store.get? s.sec.keys f).isSome)

/-- TWIN_DECLARE (R425): role, peer, links, digest interval in rows, sweep in MiB, AUTO_TAKEOVER; `o` is what the peer's own
message shows. -/
def execTwinDeclare (m : Mail) (o : PeerOp) (s : State) : Result :=
  let role := m.u 8 2
  let peer := m.u 10 2
  let n := min (m.u 12 4) 9
  let links := (List.range n).map (fun i => m.u (16 + 2 * i) 2)
  let p := ceilDiv (16 + 2 * n) 4 * 4
  let rows := m.u p 4
  let mib := m.u (p + 4) 4
  ok (s.mail m
    { type := 0x0520, minMinor := 0, longReply := false, size := p + 12
      args := fun _ => 1 ≤ role && role ≤ 2 && peer < 2048 && 2 ≤ n && n ≤ 8 && links.all (· < 16) && links.dedup.length == n &&
        256 ≤ rows && rows ≤ 65536 && rows % 256 == 0 && 1 ≤ mib && mib < 65536 && m.u (p + 8) 4 ≤ 1 && m.u (16 + 2 * n) (p - 16 - 2 * n) == 0
      sender := fun _ => m.fn == 0
      body := fun _ s =>
        match links.find? (fun l => !s.linkFull l || s.seq.templates.any (fun t => t.namesLink l)) with
        | some l => .conflict ⟨0, s.linkSt l, l⟩
        | none =>
          if s.twn ≠ 0 ∨ s.reg Reg.LNK_FABRIC_ROLE ≠ 0 ∨ !o.free ∨ !o.came ∨ !o.same ∨ !s.tenantsKeyed then .conflict ⟨0, s.twn, 0⟩
          else if !o.agrees then .fail s .badArg []
          else if s.seq.templates.any (fun t => s.tooWide t n) then .fail s .noCapacity []
          else
            let s := (s.set Reg.TWN_DIGEST_CFG_INTERVAL (rows / 256 - 1)).set Reg.TWN_DIGEST_CFG_SWEEP mib
            .done (s.startTwin role peer ((links.map (2 ^ ·)).foldl (· + ·) 0) (bit (m.u (p + 8) 4) 0)) [] })

/-- TWIN_DISSOLVE (R426): the set ends in any state. -/
def execTwinDissolve (m : Mail) (s : State) : Result :=
  ok (s.mail m
    { type := 0x0521, minMinor := 0, longReply := false, size := 8, args := fun _ => true, sender := fun _ => m.fn == 0
      body := fun _ s => if s.twn = 0 then .conflict ⟨0, 0, 0⟩ else .done s.dissolve [] })

/-- TWIN_QUERY (R426): state, peer, the MSEQ counters and the row of the last matching digest point. -/
def execTwinQuery (m : Mail) (s : State) : Result :=
  ok (s.mail m
    { type := 0x0522, minMinor := 0, longReply := false, size := 8, args := fun _ => true, sender := fun _ => m.fn == 0
      body := fun _ s =>
        .done s (leBytes s.twn 2 ++ leBytes (s.reg Reg.TWN_STATE_PEER) 2 ++ leBytes (s.reg Reg.TWN_MSEQ_SENT_MSEQ) 4 ++
          leBytes (s.reg Reg.TWN_MSEQ_ACK_MSEQ) 4 ++ leBytes 0 4 ++ leBytes (s.reg Reg.TWN_LAST_MATCH_LO_ROW_LO) 4 ++
          leBytes (s.reg Reg.TWN_LAST_MATCH_HI_ROW_HI) 4) })

/-- TWIN_TAKEOVER (R438): the mirror takes over on its PF's order, after 2 ms of silence. -/
def execTwinTakeover (m : Mail) (s : State) : Result :=
  ok (s.mail m
    { type := 0x0523, minMinor := 0, longReply := false, size := 8, args := fun _ => true, sender := fun _ => m.fn == 0
      body := fun _ s =>
        if s.twn ≠ 2 ∨ !s.isMirror ∨ !s.twin.lost ∨ !s.twin.silent then .conflict ⟨0, s.twn, 0⟩ else .done s.takeOver [] })

/-- TWIN_RESYNC (R441): ROLE (1 primary, 2 mirror) and peer; both PFs must send it. The reply comes when the set is TWINNED. -/
def execTwinResync (m : Mail) (o : PeerOp) (s : State) : Result :=
  let role := m.u 8 2
  let peer := m.u 10 2
  ok (s.mail m
    { type := 0x0524, minMinor := 0, longReply := false, size := 12, args := fun _ => 1 ≤ role && role ≤ 2 && peer < 2048
      sender := fun _ => m.fn == 0
      body := fun t s =>
        let st := s.twn
        if st < 3 ∨ (st = 4 ∧ role = 1) ∨ (st = 5 ∧ !s.twin.restored) ∨ !o.came ∨ !o.agrees ∨ !o.free ∨
            (setBits s.twinLinks 16).any (fun l => !s.linkFull l) then .conflict ⟨0, st, 0⟩
        else
          let s := s.startTwin role peer s.twinLinks (s.flag Reg.TWN_STATE_AUTO_TAKEOVER)
          .later { s with twin := { s.twin with resync := some t } } })

/-! ### Frames -/

/-- TWIN_WRITE (R430): the lines land and the destination becomes incomplete. -/
def execTwinWrite (o : TwinWriteOp) (s : State) : Result :=
  s.onTwin o.link o.lines.length (fun s =>
    match s.entry (ttKey o.handle.fn o.handle.idx) with
    | none => s
    | some t =>
      if !s.isMirror ∨ t.tier ≠ .near ∨ t.size < o.first + o.lines.length then s
      else
        let s := (s.putTensor { t with incomplete := true }).writeNear (t.loc + o.first) o.lines
        let l := Store.getD s.twin.staged o.ctag []
        { s with twin := { s.twin with
          staged := Store.put s.twin.staged o.ctag (if l.contains t.key then l else l ++ [t.key])
          touched := s.twin.touched ++ [(t.key, o.first, o.lines.length)] } })

/-- TWIN_COMMIT (R430). -/
def execTwinCommit (o : TwinRecOp) (s : State) : Result :=
  s.onTwin o.link 0 (fun s => match s.isMirror, o.body with
    | true, .commit tag ends => s.takeRec o.mseq (.commit tag ends)
    | _, _ => s)

/-- TWIN_DISCARD (R430): the destinations of the tag stay incomplete. -/
def execTwinDiscard (o : TwinTagOp) (s : State) : Result :=
  s.onTwin o.link 0 (fun s => { s with twin := { s.twin with staged := Store.erase s.twin.staged o.ctag } })

/-- TWIN_CTX (R428, R430). -/
def execTwinCtx (o : TwinRecOp) (s : State) : Result :=
  s.onTwin o.link 1 (fun s => match s.isMirror, o.body with
    | true, .ctx fn st b h => s.takeRec o.mseq (.ctx fn st b h)
    | _, _ => s)

/-- TWIN_TABLE (R428). -/
def execTwinTable (o : TwinRecOp) (s : State) : Result :=
  s.onTwin o.link 1 (fun s => match s.isMirror, o.body with
    | true, .table fn idx e => s.takeRec o.mseq (.table fn idx e)
    | _, _ => s)

/-- TWIN_ROSTER (R428): a roster, or tokens of a step token buffer. -/
def execTwinRoster (o : TwinRecOp) (s : State) : Result :=
  s.onTwin o.link 1 (fun s => match s.isMirror, o.body with
    | true, .roster m b r q => s.takeRec o.mseq (.roster m b r q)
    | true, .tokens id l => s.takeRec o.mseq (.tokens id l)
    | _, _ => s)

/-- R431. Write the completion entries that wait for MSEQ `m` or an earlier one. -/
def State.releaseUpTo (s : State) (m : Nat) : State :=
  let due (p : Nat × HeldEntry) : Bool := (m + 2 ^ 32 - p.1) % 2 ^ 32 < 2 ^ 31
  let now := s.twin.waiting.filter due
  let s := { s with twin := { s.twin with waiting := s.twin.waiting.filter (fun p => !due p) } }
  now.foldl (fun (s : State) p => s.post p.2.fn p.2.kind p.2.status p.2.sq p.2.counted p.2.body) s

/-- TWIN_ACK (R431, R450, R454): the entries that it covers are written. -/
def execTwinAck (o : TwinAckOp) (s : State) : Result :=
  s.onTwin o.link 0 (fun s =>
    if s.isMirror ∨ (s.twn ≠ 1 ∧ s.twn ≠ 2) then s
    else
      let late := decide (s.reg Reg.TWN_ACK_MARK_THRESH < o.waitUs)
      let s := (s.set Reg.TWN_MSEQ_ACK_MSEQ o.mseq).peak Reg.TWN_ACK_PEAK_PEAK_US o.waitUs
      let s := s.sample 0 Reg.TWN_ACK_MARK_STATUS Reg.TWN_ACK_MARK_INT_EN Reg.TWN_ACK_CROSS_CROSSINGS late
      let s := if late then s.tinkLog 0x0802 noFn (leBytes o.mseq 4 ++ leBytes o.waitUs 4) else s
      s.releaseUpTo o.mseq)

/-- TWIN_ACK_SEND (R430, R542): while applied records are unacknowledged; nothing beyond the first record held. -/
def execTwinAckSend (s : State) : Result :=
  let m := match s.heldRecs with
    | p :: _ => (p.1 + 2 ^ 32 - 1) % 2 ^ 32
    | [] => s.reg Reg.TWN_MSEQ_SENT_MSEQ
  if !s.isMirror ∨ (s.twn ≠ 1 ∧ s.twn ≠ 2) ∨ s.reg Reg.TWN_MSEQ_ACK_MSEQ = m then ok s
  else ok ((s.sendTwin (.twinAck m)).set Reg.TWN_MSEQ_ACK_MSEQ m)

/-- TWIN_HEARTBEAT (R436): the silence is over. -/
def execTwinHeartbeat (l : Nat) (s : State) : Result := s.onTwin l 0 id

/-- TWIN_HEARTBEAT_SEND (R436, R454): every 100 µs on every twin link; `live` is the links on which a frame has arrived in
the last 100 µs. -/
def execTwinHeartbeatSend (live : Nat) (s : State) : Result :=
  if s.twn = 0 then ok s
  else ok ((s.sendAll s.twinLinks (.twinHeartbeat (s.reg Reg.TWN_MSEQ_SENT_MSEQ) s.row)).set Reg.TWN_LINKS_LIVE (live &&& s.twinLinks))

/-! ### Digest points -/

/-- DIGEST_POINT (R433, R434): after INTERVAL rows the primary opens a point for its last commit, unless the last one is
still open, which counts once. -/
def execDigestPoint (s : State) : Result :=
  if s.isMirror ∨ (s.twn ≠ 1 ∧ s.twn ≠ 2) ∨ s.seq.active ∨ s.twin.rows < 256 * (s.reg Reg.TWN_DIGEST_CFG_INTERVAL + 1) then ok s
  else if s.twin.point.isSome then
    if s.twin.late then ok s
    else ok ({ s with twin := { s.twin with late := true } }.inc Reg.TWN_DIGEST_LATE_LATE 1)
  else
    let m := s.reg Reg.TWN_MSEQ_SENT_MSEQ
    let num := s.reg Reg.TWN_POINTS_POINTS
    let s := { s with twin := { s.twin with point := some ⟨num, m, s.row, none⟩, rows := 0 } }
    ok ((s.sendTwin (.twinDigest m num 0)).takePoint)

/-- DIGEST_COMPUTED (R434): this module's digest of the open point is complete, and the peer is told. -/
def execDigestComputed (s : State) : Result :=
  match s.twin.point with
  | some p =>
    match p.value, s.twin.own with
    | some d, none =>
      ok (({ s with twin := { s.twin with own := some d } }.sendTwin (.twinDigest p.mseq p.num d)).comparePoint none)
    | _, _ => ok s
  | none => ok s

/-- TWIN_DIGEST (R433, R435): a point opens at the mirror, or the peer's digest of the open point is compared. -/
def execTwinDigest (o : TwinDigestOp) (s : State) : Result :=
  s.onTwin o.link 1 (fun s =>
    match s.twin.point with
    | none =>
      if s.isMirror ∧ (s.twn = 1 ∨ s.twn = 2) then
        { s with twin := { s.twin with point := some ⟨o.point, o.mseq, s.row, none⟩ } }.takePoint
      else s
    | some p =>
      if p.num ≠ o.point ∨ o.digest = 0 then s
      else { s with twin := { s.twin with peer := some o.digest } }.comparePoint o.err)

/-! ### Failover -/

/-- TWIN_FAULT (R438): loss is declared at once, and with AUTO_TAKEOVER the mirror takes over at once. -/
def execTwinFault (o : TwinTagOp) (s : State) : Result :=
  s.onTwin o.link 0 (fun s =>
    if s.twn ≠ 2 ∨ !s.isMirror then s
    else
      let s := s.declareLoss true
      if s.flag Reg.TWN_STATE_AUTO_TAKEOVER then s.takeOver else s)

/-- TWIN_SYNC (R426, R435): lines of the mirrored set land; so do those of a repair. -/
def execTwinSync (o : TwinSyncOp) (s : State) : Result :=
  s.onTwin o.link o.lines.length (fun s =>
    match s.entry (ttKey o.handle.fn o.handle.idx) with
    | none => { s with twin := { s.twin with synced := s.twin.synced || o.last } }
    | some t =>
      let k := t.key
      let line := 4096 * o.granule
      let mends := s.twin.repair.any (fun r => r.1 == k && line ≤ r.2.1 && r.2.1 < line + 4096)
      if t.size < line + o.lines.length ∨ !(mends || (s.isMirror && s.twn == 1)) then s
      else
        let cells := cellsOf o.lines
        let s := s.putCells t.fn t.tier t.loc (256 * line) (256 * o.lines.length) cells
        let left := s.twin.repair.filter (fun r => !(r.1 == k && line ≤ r.2.1 && r.2.1 + r.2.2 ≤ line + o.lines.length))
        let s := { s with twin := { s.twin with
          synced := s.twin.synced || o.last, copied := s.twin.copied + 256 * o.lines.length, repair := left } }
        if mends && !left.any (fun r => r.1 == k) then s.mapTensor k (fun t => { t with poisoned := false }) else s)

/-- TWIN_DROP (R437): the mirror is FENCED and never takes over. -/
def execTwinDrop (o : TwinTagOp) (s : State) : Result :=
  s.onTwin o.link 0 (fun s => if s.isMirror ∧ (s.twn = 1 ∨ s.twn = 2) then s.fence else s)

/-- TWIN_DROP_REPEAT (R437): every 100 µs. -/
def execTwinDropRepeat (s : State) : Result :=
  ok (if s.twin.dropping then s.sendAll s.twinLinks (.twinDrop (s.reg Reg.TWN_MSEQ_ACK_MSEQ)) else s)

/-- TWIN_FENCE (R436): the primary has received nothing for 0.5 ms. -/
def execTwinFence (s : State) : Result := ok (if s.twn = 2 ∧ !s.isMirror then s.fence else s)

/-- ACK_TIMEOUT (R437): the oldest commit that waits has waited 10 ms: the mirror is dropped and the primary is SOLO. -/
def execAckTimeout (s : State) : Result :=
  match s.twn, s.isMirror, s.twin.waiting with
  | 2, false, w :: rest =>
    let held := w :: rest
    let acked := s.reg Reg.TWN_MSEQ_ACK_MSEQ
    let s := s.sendAll s.twinLinks (.twinDrop acked)
    let s := (s.set Reg.TWN_STATE_STATE 3).tinkLog 0x080B noFn (leBytes w.1 4 ++ leBytes acked 4)
    let s := s.twinErr Reg.TWN_ERR_ACK_TIMEOUT
    let s := { s with twin := { s.twin with dropping := true, waiting := [], point := none, own := none, peer := none } }
    ok (held.foldl (fun (s : State) p => s.post p.2.fn p.2.kind p.2.status p.2.sq p.2.counted p.2.body) s)
  | _, _, _ => ok s

/-- TWIN_LOSS (R438): 1 ms of silence. -/
def execTwinLoss (s : State) : Result := ok (s.declareLoss false)

/-- TWIN_AUTO_TAKEOVER (R438, R439): 2 ms of silence; with AUTO_TAKEOVER the mirror takes over. -/
def execTwinAutoTakeover (s : State) : Result :=
  if s.twn ≠ 2 ∨ !s.isMirror ∨ !s.twin.lost then ok s
  else
    let s := { s with twin := { s.twin with silent := true } }
    ok (if s.flag Reg.TWN_STATE_AUTO_TAKEOVER then s.takeOver else s)

end Sys2Proof.Machine
end

