-- ==== Sys2Proof/Machine/Dispatch.lean ====
section
/-!
DEFINITION. The dispatch: one arm for each command, each one call of that command's meaning.
-/

namespace Sys2Proof.Machine

/-- The effect of a command on everything but the queue. -/
def exec (i : Instr) (s : State) : Host.Outcome State Fault Refusal :=
  match i with
  | .fetchT h o => Sys2Proof.Machine.execFetchT h o s
  | .fetchS h o => Sys2Proof.Machine.execFetchS h o s
  | .fetchKv h o => Sys2Proof.Machine.execFetchKv h o s
  | .moveT h o => Sys2Proof.Machine.execMoveT h o s
  | .unpCvt h o => Sys2Proof.Machine.execUnpCvt h o s
  | .unpDq h o => Sys2Proof.Machine.execUnpDq h o s
  | .unpRht h o => Sys2Proof.Machine.execUnpRht h o s
  | .unpLay h o => Sys2Proof.Machine.execUnpLay h o s
  | .mxLdw h o => Sys2Proof.Machine.execMxLdw h o s
  | .mxRun h o => Sys2Proof.Machine.execMxRun h o s
  | .mxRunt h o => Sys2Proof.Machine.execMxRunt h o s
  | .mxWgrad h o => Sys2Proof.Machine.execMxWgrad h o s
  | .mxDrain h o => Sys2Proof.Machine.execMxDrain h o s
  | .mgAcc h o => Sys2Proof.Machine.execMgAcc h o s
  | .mgScale h o => Sys2Proof.Machine.execMgScale h o s
  | .mgMotif h o => Sys2Proof.Machine.execMgMotif h o s
  | .mgSegt h o => Sys2Proof.Machine.execMgSegt h o s
  | .vcLdp h o => Sys2Proof.Machine.execVcLdp h o s
  | .vcLd h o => Sys2Proof.Machine.execVcLd h o s
  | .vcSt h o => Sys2Proof.Machine.execVcSt h o s
  | .vcProg h o => Sys2Proof.Machine.execVcProg h o s
  | .vcRed h o => Sys2Proof.Machine.execVcRed h o s
  | .vcSmax h o => Sys2Proof.Machine.execVcSmax h o s
  | .vcCmp h o => Sys2Proof.Machine.execVcCmp h o s
  | .vcExp h o => Sys2Proof.Machine.execVcExp h o s
  | .vcRng h o => Sys2Proof.Machine.execVcRng h o s
  | .pkQ h o => Sys2Proof.Machine.execPkQ h o s
  | .pkSr h o => Sys2Proof.Machine.execPkSr h o s
  | .cmTens h o => Sys2Proof.Machine.execCmTens h o s
  | .cmKv h o => Sys2Proof.Machine.execCmKv h o s
  | .cmCtx h o => Sys2Proof.Machine.execCmCtx h o s
  | .cmMark h o => Sys2Proof.Machine.execCmMark h o s
  | .lkSend h o => Sys2Proof.Machine.execLkSend h o s
  | .lkRecv h o => Sys2Proof.Machine.execLkRecv h o s
  | .lkRed h o => Sys2Proof.Machine.execLkRed h o s
  | .xBar h o => Sys2Proof.Machine.execXBar h o s
  | .cmdStart h o => Sys2Proof.Machine.execCmdStart h o s
  | .traceMark h o => Sys2Proof.Machine.execTraceMark h o s
  | .xProg h o => Sys2Proof.Machine.execXProg h o s
  | .xNop h => Sys2Proof.Machine.execXNop h s
  | .xEnd h now => Sys2Proof.Machine.execXEnd h now s
  | .rowRecordFetch o => Sys2Proof.Machine.execRowRecordFetch o s
  | .rowStart o => Sys2Proof.Machine.execRowStart o s
  | .rowComplete o => Sys2Proof.Machine.execRowComplete o s
  | .activityLimiterBin want holds => Sys2Proof.Machine.execActivityLimiterBin want holds s
  | .tickOverrun cycle => Sys2Proof.Machine.execTickOverrun cycle s
  | .barrierTimeout => Sys2Proof.Machine.execBarrierTimeout s
  | .frogComplete o => Sys2Proof.Machine.execFrogComplete o s
  | .tierWriteAck o => Sys2Proof.Machine.execTierWriteAck o s
  | .tierWriteFail o => Sys2Proof.Machine.execTierWriteFail o s
  | .commitPoint o => Sys2Proof.Machine.execCommitPoint o s
  | .slotStream o => Sys2Proof.Machine.execSlotStream o s
  | .tierReadComplete o => Sys2Proof.Machine.execTierReadComplete o s
  | .rosterBuild => Sys2Proof.Machine.execRosterBuild s
  | .tokenCopy o => Sys2Proof.Machine.execTokenCopy o s
  | .schedWindowBoundary => Sys2Proof.Machine.execSchedWindowBoundary s
  | .quotaSnapshot => Sys2Proof.Machine.execQuotaSnapshot s
  | .sqTailDoorbell fn n v word => Sys2Proof.Machine.execSqTailDoorbell fn n v word s
  | .cqHeadDoorbell fn v word => Sys2Proof.Machine.execCqHeadDoorbell fn v word s
  | .sqFetch o => Sys2Proof.Machine.execSqFetch o s
  | .command o => Sys2Proof.Machine.execCommand o s
  | .seqOpen o => Sys2Proof.Machine.execSeqOpen o s
  | .seqAppend o => Sys2Proof.Machine.execSeqAppend o s
  | .seqClose o => Sys2Proof.Machine.execSeqClose o s
  | .hostReadCompletion o => Sys2Proof.Machine.execHostReadCompletion o s
  | .cqCoalesceTimer fn => Sys2Proof.Machine.execCqCoalesceTimer fn s
  | .deviceQuery h => Sys2Proof.Machine.execDeviceQuery h s
  | .rowConfig h => Sys2Proof.Machine.execRowConfig h s
  | .powerState h => Sys2Proof.Machine.execPowerState h s
  | .perfLevel h => Sys2Proof.Machine.execPerfLevel h s
  | .bindOff h => Sys2Proof.Machine.execBindOff h s
  | .tensorAlloc h => Sys2Proof.Machine.execTensorAlloc h s
  | .tensorFree h => Sys2Proof.Machine.execTensorFree h s
  | .tensorQuery h => Sys2Proof.Machine.execTensorQuery h s
  | .tensorPlace h => Sys2Proof.Machine.execTensorPlace h s
  | .hostRegister h => Sys2Proof.Machine.execHostRegister h s
  | .hostUnregister h => Sys2Proof.Machine.execHostUnregister h s
  | .quotaSet h => Sys2Proof.Machine.execQuotaSet h s
  | .quotaQuery h => Sys2Proof.Machine.execQuotaQuery h s
  | .tenantPark h => Sys2Proof.Machine.execTenantPark h s
  | .tenantRestore h => Sys2Proof.Machine.execTenantRestore h s
  | .hankLend o => Sys2Proof.Machine.execHankLend o s
  | .hankRecall o => Sys2Proof.Machine.execHankRecall o s
  | .hankRecallDeadline lender hank => Sys2Proof.Machine.execHankRecallDeadline lender hank s
  | .writeback h => Sys2Proof.Machine.execWriteback h s
  | .writebackStart o => Sys2Proof.Machine.execWritebackStart o s
  | .moveGranuleDone o => Sys2Proof.Machine.execMoveGranuleDone o s
  | .zeroFillDone frame => Sys2Proof.Machine.execZeroFillDone frame s
  | .flashWearOp o => Sys2Proof.Machine.execFlashWearOp o s
  | .flashChannelFail exhausted => Sys2Proof.Machine.execFlashChannelFail exhausted s
  | .modelLoad h => Sys2Proof.Machine.execModelLoad h s
  | .modelRelay h => Sys2Proof.Machine.execModelRelay h s
  | .modelUnload h => Sys2Proof.Machine.execModelUnload h s
  | .modelQuery h => Sys2Proof.Machine.execModelQuery h s
  | .motifLoad h => Sys2Proof.Machine.execMotifLoad h s
  | .motifBind h => Sys2Proof.Machine.execMotifBind h s
  | .motifUnbind h => Sys2Proof.Machine.execMotifUnbind h s
  | .motifQuery h => Sys2Proof.Machine.execMotifQuery h s
  | .swatchBuild h => Sys2Proof.Machine.execSwatchBuild h s
  | .swatchRelease h => Sys2Proof.Machine.execSwatchRelease h s
  | .swatchImport h => Sys2Proof.Machine.execSwatchImport h s
  | .swatchQuery h => Sys2Proof.Machine.execSwatchQuery h s
  | .graphSubmit h => Sys2Proof.Machine.execGraphSubmit h s
  | .templateLoad h => Sys2Proof.Machine.execTemplateLoad h s
  | .templateBuild h => Sys2Proof.Machine.execTemplateBuild h s
  | .templateRetire h => Sys2Proof.Machine.execTemplateRetire h s
  | .patternQuery h => Sys2Proof.Machine.execPatternQuery h s
  | .trainWindow h => Sys2Proof.Machine.execTrainWindow h s
  | .schedSet h => Sys2Proof.Machine.execSchedSet h s
  | .schedQuery h => Sys2Proof.Machine.execSchedQuery h s
  | .modelSchedSet h => Sys2Proof.Machine.execModelSchedSet h s
  | .funcPreempt h => Sys2Proof.Machine.execFuncPreempt h s
  | .funcResume h => Sys2Proof.Machine.execFuncResume h s
  | .seqQuery h => Sys2Proof.Machine.execSeqQuery h s
  | .fabricJoin h => Sys2Proof.Machine.execFabricJoin h s
  | .fabricLeave h => Sys2Proof.Machine.execFabricLeave h s
  | .linkAttach h => Sys2Proof.Machine.execLinkAttach h s
  | .linkDetach h => Sys2Proof.Machine.execLinkDetach h s
  | .linkQuery h => Sys2Proof.Machine.execLinkQuery h s
  | .linkRekey h => Sys2Proof.Machine.execLinkRekey h s
  | .fabricResync h => Sys2Proof.Machine.execFabricResync h s
  | .fabricSeqMap h => Sys2Proof.Machine.execFabricSeqMap h s
  | .twinDeclare h o => Sys2Proof.Machine.execTwinDeclare h o s
  | .twinDissolve h => Sys2Proof.Machine.execTwinDissolve h s
  | .twinQuery h => Sys2Proof.Machine.execTwinQuery h s
  | .twinTakeover h => Sys2Proof.Machine.execTwinTakeover h s
  | .twinResync h o => Sys2Proof.Machine.execTwinResync h o s
  | .lifelineWrite h => Sys2Proof.Machine.execLifelineWrite h s
  | .lifelineCaptureDone o => Sys2Proof.Machine.execLifelineCaptureDone o s
  | .lifelineRestore h => Sys2Proof.Machine.execLifelineRestore h s
  | .lifelineList h => Sys2Proof.Machine.execLifelineList h s
  | .lifelineDrop h => Sys2Proof.Machine.execLifelineDrop h s
  | .funcEnable h => Sys2Proof.Machine.execFuncEnable h s
  | .funcDisable h => Sys2Proof.Machine.execFuncDisable h s
  | .spdmTunnel h reply => Sys2Proof.Machine.execSpdmTunnel h reply s
  | .secQuery h => Sys2Proof.Machine.execSecQuery h s
  | .tensorExport h => Sys2Proof.Machine.execTensorExport h s
  | .tensorImport h => Sys2Proof.Machine.execTensorImport h s
  | .zeroise h => Sys2Proof.Machine.execZeroise h s
  | .svnCommit h => Sys2Proof.Machine.execSvnCommit h s
  | .deferCancel h => Sys2Proof.Machine.execDeferCancel h s
  | .lifecycleRma h good => Sys2Proof.Machine.execLifecycleRma h good s
  | .tinkRead h => Sys2Proof.Machine.execTinkRead h s
  | .tinkFreeze h => Sys2Proof.Machine.execTinkFreeze h s
  | .tinkRelease h => Sys2Proof.Machine.execTinkRelease h s
  | .keyRelease o => Sys2Proof.Machine.execKeyRelease o s
  | .keyDestroy session => Sys2Proof.Machine.execKeyDestroy session s
  | .touchLogRead session => Sys2Proof.Machine.execTouchLogRead session s
  | .policyQuery session => Sys2Proof.Machine.execPolicyQuery session s
  | .getMeasurements fn index => Sys2Proof.Machine.execGetMeasurements fn index s
  | .getCertificate slot first count => Sys2Proof.Machine.execGetCertificate slot first count s
  | .keyExchange o => Sys2Proof.Machine.execKeyExchange o s
  | .keyProg stream vfs => Sys2Proof.Machine.execKeyProg stream vfs s
  | .kSetGo stream => Sys2Proof.Machine.execKSetGo stream s
  | .kSetStop stream => Sys2Proof.Machine.execKSetStop stream s
  | .lockInterfaceRequest vf => Sys2Proof.Machine.execLockInterfaceRequest vf s
  | .startInterfaceRequest vf => Sys2Proof.Machine.execStartInterfaceRequest vf s
  | .tdiConfigChange vf => Sys2Proof.Machine.execTdiConfigChange vf s
  | .ideIntegrityFail stream => Sys2Proof.Machine.execIdeIntegrityFail stream s
  | .flr fn => Sys2Proof.Machine.execFlr fn s
  | .vfEnableClear enabled numVfs => Sys2Proof.Machine.execVfEnableClear enabled numVfs s
  | .hostLinkDown ltssm => Sys2Proof.Machine.execHostLinkDown ltssm s
  | .configSpaceReady => Sys2Proof.Machine.execConfigSpaceReady s
  | .bar4Access o => Sys2Proof.Machine.execBar4Access o s
  | .registerWrite fn off v => Sys2Proof.Machine.execRegisterWrite fn off v s
  | .rcRead fn off => Sys2Proof.Machine.execRcRead fn off s
  | .loReadLatch fn off => Sys2Proof.Machine.execLoReadLatch fn off s
  | .seqRun run => Sys2Proof.Machine.execSeqRun run s
  | .haltStep => Sys2Proof.Machine.execHaltStep s
  | .haltRow => Sys2Proof.Machine.execHaltRow s
  | .seqFaultClear mask => Sys2Proof.Machine.execSeqFaultClear mask s
  | .seqRowCfgWrite v => Sys2Proof.Machine.execSeqRowCfgWrite v s
  | .pmBaseWrite off v => Sys2Proof.Machine.execPmBaseWrite off v s
  | .rosterReadySet mask => Sys2Proof.Machine.execRosterReadySet mask s
  | .seqSchedCfgWrite v => Sys2Proof.Machine.execSeqSchedCfgWrite v s
  | .mxaCtrlWrite v => Sys2Proof.Machine.execMxaCtrlWrite v s
  | .mtfHotCfgWrite v => Sys2Proof.Machine.execMtfHotCfgWrite v s
  | .rngRead fn v => Sys2Proof.Machine.execRngRead fn v s
  | .rngLoad fn v => Sys2Proof.Machine.execRngLoad fn v s
  | .rngDerive fn v => Sys2Proof.Machine.execRngDerive fn v s
  | .rngReset fn v => Sys2Proof.Machine.execRngReset fn v s
  | .deriveDone fn => Sys2Proof.Machine.execDeriveDone fn s
  | .movPause v => Sys2Proof.Machine.execMovPause v s
  | .movDirtyCfgWrite v => Sys2Proof.Machine.execMovDirtyCfgWrite v s
  | .movLendCfgWrite v => Sys2Proof.Machine.execMovLendCfgWrite v s
  | .movTtRead => Sys2Proof.Machine.execMovTtRead s
  | .ftlCfgWrite v => Sys2Proof.Machine.execFtlCfgWrite v s
  | .lnkStageCfgWrite v => Sys2Proof.Machine.execLnkStageCfgWrite v s
  | .tnkFreeze => Sys2Proof.Machine.execTnkFreeze s
  | .tnkEntryRead => Sys2Proof.Machine.execTnkEntryRead s
  | .dplEnable on => Sys2Proof.Machine.execDplEnable on s
  | .dplStop on => Sys2Proof.Machine.execDplStop on s
  | .dplEpoch => Sys2Proof.Machine.execDplEpoch s
  | .dplHeadWrite v => Sys2Proof.Machine.execDplHeadWrite v s
  | .fwFaultRead => Sys2Proof.Machine.execFwFaultRead s
  | .writeNow => Sys2Proof.Machine.execWriteNow s
  | .retainedWrite failed => Sys2Proof.Machine.execRetainedWrite failed s
  | .pwrLimitWrite v => Sys2Proof.Machine.execPwrLimitWrite v s
  | .pwrRampWrite v => Sys2Proof.Machine.execPwrRampWrite v s
  | .thmLimitsWrite v => Sys2Proof.Machine.execThmLimitsWrite v s
  | .markThreshWrite off v => Sys2Proof.Machine.execMarkThreshWrite off v s
  | .queueConfigWrite fn off v => Sys2Proof.Machine.execQueueConfigWrite fn off v s
  | .itemFrame o => Sys2Proof.Machine.execItemFrame o s
  | .commitFrame o => Sys2Proof.Machine.execCommitFrame o s
  | .discard o => Sys2Proof.Machine.execDiscard o s
  | .rowDone o => Sys2Proof.Machine.execRowDone o s
  | .rowFault o => Sys2Proof.Machine.execRowFault o s
  | .rosterFrame o => Sys2Proof.Machine.execRosterFrame o s
  | .bulkFrame o => Sys2Proof.Machine.execBulkFrame o s
  | .bulkOpen o => Sys2Proof.Machine.execBulkOpen o s
  | .bulkAccept o => Sys2Proof.Machine.execBulkAccept o s
  | .bulkRefuse o => Sys2Proof.Machine.execBulkRefuse o s
  | .bulkAck o => Sys2Proof.Machine.execBulkAck o s
  | .bulkResume o => Sys2Proof.Machine.execBulkResume o s
  | .bulkClose o => Sys2Proof.Machine.execBulkClose o s
  | .relayTimeout slot => Sys2Proof.Machine.execRelayTimeout slot s
  | .breadReq o => Sys2Proof.Machine.execBreadReq o s
  | .breadCpl o => Sys2Proof.Machine.execBreadCpl o s
  | .hankDir o => Sys2Proof.Machine.execHankDir o s
  | .keyReady l => Sys2Proof.Machine.execKeyReady l s
  | .channelError o => Sys2Proof.Machine.execChannelError o s
  | .authFail o => Sys2Proof.Machine.execAuthFail o s
  | .linkRetrain l => Sys2Proof.Machine.execLinkRetrain l s
  | .linkRetrainDone o => Sys2Proof.Machine.execLinkRetrainDone o s
  | .linkTrained o => Sys2Proof.Machine.execLinkTrained o s
  | .linkSecured o => Sys2Proof.Machine.execLinkSecured o s
  | .lossOfSignal l => Sys2Proof.Machine.execLossOfSignal l s
  | .linkRetry l => Sys2Proof.Machine.execLinkRetry l s
  | .rekeyDue o => Sys2Proof.Machine.execRekeyDue o s
  | .oldKeyExpiry l => Sys2Proof.Machine.execOldKeyExpiry l s
  | .beaconPulse periodNs => Sys2Proof.Machine.execBeaconPulse periodNs s
  | .beaconLost => Sys2Proof.Machine.execBeaconLost s
  | .twinWrite o => Sys2Proof.Machine.execTwinWrite o s
  | .twinCommit o => Sys2Proof.Machine.execTwinCommit o s
  | .twinDiscard o => Sys2Proof.Machine.execTwinDiscard o s
  | .twinCtx o => Sys2Proof.Machine.execTwinCtx o s
  | .twinTable o => Sys2Proof.Machine.execTwinTable o s
  | .twinRoster o => Sys2Proof.Machine.execTwinRoster o s
  | .twinAck o => Sys2Proof.Machine.execTwinAck o s
  | .twinAckSend => Sys2Proof.Machine.execTwinAckSend s
  | .twinHeartbeat l => Sys2Proof.Machine.execTwinHeartbeat l s
  | .twinHeartbeatSend live => Sys2Proof.Machine.execTwinHeartbeatSend live s
  | .digestPoint => Sys2Proof.Machine.execDigestPoint s
  | .digestComputed => Sys2Proof.Machine.execDigestComputed s
  | .twinDigest o => Sys2Proof.Machine.execTwinDigest o s
  | .twinFault o => Sys2Proof.Machine.execTwinFault o s
  | .twinSync o => Sys2Proof.Machine.execTwinSync o s
  | .twinDrop o => Sys2Proof.Machine.execTwinDrop o s
  | .twinDropRepeat => Sys2Proof.Machine.execTwinDropRepeat s
  | .twinFence => Sys2Proof.Machine.execTwinFence s
  | .ackTimeout => Sys2Proof.Machine.execAckTimeout s
  | .twinLoss => Sys2Proof.Machine.execTwinLoss s
  | .twinAutoTakeover => Sys2Proof.Machine.execTwinAutoTakeover s
  | .tinkFlushDone => Sys2Proof.Machine.execTinkFlushDone s
  | .trapEntry o => Sys2Proof.Machine.execTrapEntry o s
  | .supervisorHeartbeat answered now => Sys2Proof.Machine.execSupervisorHeartbeat answered now s
  | .componentRestarted comp us => Sys2Proof.Machine.execComponentRestarted comp us s
  | .queueWaitTimeout h type => Sys2Proof.Machine.execQueueWaitTimeout h type s
  | .complexWatchdogExpiry now => Sys2Proof.Machine.execComplexWatchdogExpiry now s
  | .complexReady ms => Sys2Proof.Machine.execComplexReady ms s
  | .debugActivate on => Sys2Proof.Machine.execDebugActivate on s
  | .debugHalt core => Sys2Proof.Machine.execDebugHalt core s
  | .debugResume core => Sys2Proof.Machine.execDebugResume core s
  | .debugStep core => Sys2Proof.Machine.execDebugStep core s
  | .debugAbstractCommand o => Sys2Proof.Machine.execDebugAbstractCommand o s
  | .debugSysbusAccess o => Sys2Proof.Machine.execDebugSysbusAccess o s
  | .jtagInstructionLoad ir => Sys2Proof.Machine.execJtagInstructionLoad ir s
  | .queryDeviceIdentifiers => Sys2Proof.Machine.execQueryDeviceIdentifiers s
  | .getFirmwareParameters => Sys2Proof.Machine.execGetFirmwareParameters s
  | .requestUpdate => Sys2Proof.Machine.execRequestUpdate s
  | .passComponentTable classes => Sys2Proof.Machine.execPassComponentTable classes s
  | .updateComponent cls size => Sys2Proof.Machine.execUpdateComponent cls size s
  | .requestFirmwareData n => Sys2Proof.Machine.execRequestFirmwareData n s
  | .verifyComplete good svn => Sys2Proof.Machine.execVerifyComplete good svn s
  | .activateFirmware => Sys2Proof.Machine.execActivateFirmware s
  | .getStatus => Sys2Proof.Machine.execGetStatus s
  | .cancelUpdateComponent => Sys2Proof.Machine.execCancelUpdateComponent s
  | .cancelUpdate => Sys2Proof.Machine.execCancelUpdate s
  | .trialConfirm => Sys2Proof.Machine.execTrialConfirm s
  | .setSensorThresholds sensor lower upper => Sys2Proof.Machine.execSetSensorThresholds sensor lower upper s
  | .setEndpointId bus eid => Sys2Proof.Machine.execSetEndpointId bus eid s
  | .supplyDroop => Sys2Proof.Machine.execSupplyDroop s
  | .inputOvercurrent => Sys2Proof.Machine.execInputOvercurrent s
  | .powerLimitAverage w => Sys2Proof.Machine.execPowerLimitAverage w s
  | .skipRelease current => Sys2Proof.Machine.execSkipRelease current s
  | .sustainedSkipCheck skipped pulses => Sys2Proof.Machine.execSustainedSkipCheck skipped pulses s
  | .skipCapLift skipped pulses => Sys2Proof.Machine.execSkipCapLift skipped pulses s
  | .voltageSettled => Sys2Proof.Machine.execVoltageSettled s
  | .powerStateEntryDone us => Sys2Proof.Machine.execPowerStateEntryDone us s
  | .powerStateExitDone us => Sys2Proof.Machine.execPowerStateExitDone us s
  | .wakeEvent kind => Sys2Proof.Machine.execWakeEvent kind s
  | .powerClockRequest o => Sys2Proof.Machine.execPowerClockRequest o s
  | .deferredRequestProceed block => Sys2Proof.Machine.execDeferredRequestProceed block s
  | .deferDeadline block => Sys2Proof.Machine.execDeferDeadline block s
  | .thermalThrottle sensor temp => Sys2Proof.Machine.execThermalThrottle sensor temp s
  | .thermalCapStep => Sys2Proof.Machine.execThermalCapStep s
  | .thermalCritical sensor temp => Sys2Proof.Machine.execThermalCritical sensor temp s
  | .thermalTrip sensor temp => Sys2Proof.Machine.execThermalTrip sensor temp s
  | .sensorFail sensor => Sys2Proof.Machine.execSensorFail sensor s
  | .regaugeOp o => Sys2Proof.Machine.execRegaugeOp o s
  | .gaugeDone ms => Sys2Proof.Machine.execGaugeDone ms s
  | .gaugeRetry => Sys2Proof.Machine.execGaugeRetry s
  | .powerFail => Sys2Proof.Machine.execPowerFail s
  | .castOn o => Sys2Proof.Machine.execCastOn o s
  | .hbmTrainingDone good gauge => Sys2Proof.Machine.execHbmTrainingDone good gauge s
  | .translationLayerReady good => Sys2Proof.Machine.execTranslationLayerReady good s
  | .selftestDone o => Sys2Proof.Machine.execSelftestDone o s
  | .directoryRebuilt => Sys2Proof.Machine.execDirectoryRebuilt s
  | .storeImageReload => Sys2Proof.Machine.execStoreImageReload s
  | .castonDone ms => Sys2Proof.Machine.execCastonDone ms s
  | .retainedApply => Sys2Proof.Machine.execRetainedApply s
  | .flushReadySet => Sys2Proof.Machine.execFlushReadySet s
  | .holdupReadySet => Sys2Proof.Machine.execHoldupReadySet s
  | .holdupLost => Sys2Proof.Machine.execHoldupLost s
  | .bankCheck mj => Sys2Proof.Machine.execBankCheck mj s
  | .railFault rail => Sys2Proof.Machine.execRailFault rail s
  | .refclkFault => Sys2Proof.Machine.execRefclkFault s
  | .refclkRecovered => Sys2Proof.Machine.execRefclkRecovered s
  | .couplingOpen => Sys2Proof.Machine.execCouplingOpen s
  | .couplingClosed => Sys2Proof.Machine.execCouplingClosed s
  | .buildDone o => Sys2Proof.Machine.execBuildDone o s
  | .hostLinkUp gen width flit => Sys2Proof.Machine.execHostLinkUp gen width flit s
  | .underV below vin => Sys2Proof.Machine.execUnderV below vin s
  | .overV vin => Sys2Proof.Machine.execOverV vin s
  | .inletHigh temp => Sys2Proof.Machine.execInletHigh temp s
  | .stitchMarkerSample o => Sys2Proof.Machine.execStitchMarkerSample o s
  | .mbxDoorbell h type => Sys2Proof.Machine.execMbxDoorbell h type s
  | .coreSramEcc core now => Sys2Proof.Machine.execCoreSramEcc core now s
  | .endOfSession session => Sys2Proof.Machine.execEndOfSession session s
  | .failedHbmStack stack => Sys2Proof.Machine.execFailedHbmStack stack s

end Sys2Proof.Machine
end

