-- ==== Sys2Proof/Safety.lean ====
section
/-!
DEFINITION. What the statements speak of: the forms that every step keeps, when an instruction issues with nothing amiss, when
a message is taken, and what a command leaves of the machine.
-/

namespace Sys2Proof.Machine

/-! ### Forms that every step keeps -/

/-- The bytes of both tiers stand in canonical form: addresses strictly rising, no zero byte listed. -/
def State.MemWf (s : State) : Prop := Memory.wf s.tier.near ∧ Memory.wf s.tier.deep

/-- The register file lists each field once, keys rising. -/
def State.RegsWf (s : State) : Prop := Store.wf s.regs

/-- A safe outcome: the machine goes on. -/
def Safe (r : Result) : Prop := ∃ t, r = .next t

/-! ### Issue -/

/-- An issue with nothing amiss: no error appears on a line, on a tier read or in unit-local storage, and the tier read
delivers in time. -/
def Issue.Clean (h : Issue) : Prop :=
  h.bad = [] ∧ h.tierEcc = false ∧ h.late = false ∧ h.unitErr = none ∧ h.unitCe = 0

/-- R34, R35, R90, R91, R103. Nothing bars an instruction, on one of the two dies, of command `cid` that reads and writes these skein lines: it is not
squashed, no line it reads has a write pending, every line lies in its allotment, and no line it reads is in error. -/
def State.Issues (s : State) (h : Issue) (reads writes : List Nat) (cid : Nat) : Prop :=
  h.Clean ∧ h.die < 2 ∧ slotKey h.die h.cslot ∉ s.data.squash ∧ (∀ a ∈ reads, ∀ p ∈ s.data.pendLines, p.1 ≠ a) ∧
    (∀ a ∈ reads ++ writes, s.allotted h.cslot a = true) ∧ (∀ a ∈ reads, s.valid a = true → a ∉ s.data.bad) ∧
    s.slotCmd h = some cid

/-- The state in which an issued instruction takes its effect: its reads of lines never written are counted (R90). -/
def State.atIssue (s : State) (reads : List Nat) : State :=
  s.inc Reg.SKN_ZERO_READS_ZREADS (reads.filter (fun a => !s.valid a)).length

/-- The skein holds the lines `l` from `dst` on, valid, and every other line is as before. -/
def State.LinesAre (s t : State) (dst : Nat) (l : List LineData) : Prop :=
  (∀ i (hi : i < l.length), t.line (dst + i) = l[i] ∧ t.valid (dst + i) = true) ∧
    ∀ a, a ∉ range dst l.length → t.line a = s.line a ∧ t.valid a = s.valid a

/-- No line of the skein has changed. -/
def State.LinesKept (s t : State) : Prop := ∀ a, t.line a = s.line a ∧ t.valid a = s.valid a

/-- Every register field whose offset `p` does not hold of, and every register of a VF, reads as before. -/
def State.RegsKept (p : Nat → Bool) (s t : State) : Prop :=
  ∀ (fn : Nat) (f : Fld), f.off < 0x200000 → f.lo < 32 → (fn ≠ 0 ∨ p f.off = false) → t.getF fn f = s.getF fn f

/-- R90, R196, R287, R303. The registers that an instruction of a stage (0 UNPACK to 4 PACK) on a die may advance: SKN_ZERO_READS, the
stage's saturation and non-finite counts of that die, and the two latches. -/
def countRegs (stage die off : Nat) : Bool :=
  off == 0x4000C || off == 0x60018 || off == 0x6001C || off == 0x60040 + 8 * stage + 4 * die ||
    off == 0x60070 + 8 * stage + 4 * die

/-- Everything that is not the data path or a counter is as before. -/
def State.Outside (s t : State) : Prop :=
  t.seq = s.seq ∧ t.tier = s.tier ∧ t.serve = s.serve ∧ t.sec = s.sec ∧ t.fab = s.fab ∧ t.twin = s.twin ∧ t.pwr = s.pwr ∧
    t.fw = s.fw ∧ t.mod = s.mod ∧ t.host = s.host ∧ t.tink = s.tink ∧ t.out = s.out ∧ t.fresh = s.fresh ∧
    t.pending = s.pending

/-- R196, R287, R303. The stage's saturation and non-finite counts of the instruction's die advance and hold at
0xFFFF_FFFF, and the latch of its slot is set when there was anything to count. -/
def State.Counted (stage sat nf : Nat) (h : Issue) (s t : State) : Prop :=
  let k := 8 * stage + 4 * h.die
  let satLatch := if h.die = 0 then Reg.VCH_SAT_LATCH_DIE0 else Reg.VCH_SAT_LATCH_DIE1
  let nfLatch := if h.die = 0 then Reg.VCH_NF_LATCH_DIE0 else Reg.VCH_NF_LATCH_DIE1
  t.reg (Reg.VCH_SAT_UNPACK_D0_COUNT.at k) = min (s.reg (Reg.VCH_SAT_UNPACK_D0_COUNT.at k) + sat) 0xFFFFFFFF ∧
    t.reg (Reg.VCH_NF_UNPACK_D0_COUNT.at k) = min (s.reg (Reg.VCH_NF_UNPACK_D0_COUNT.at k) + nf) 0xFFFFFFFF ∧
    (h.cslot < 16 → sat ≠ 0 → (t.reg satLatch).testBit h.cslot = true) ∧
    (h.cslot < 16 → nf ≠ 0 → (t.reg nfLatch).testBit h.cslot = true)

/-- An instruction of a stage leaves all but the skein and its counters. -/
def State.StageOnly (stage : Nat) (h : Issue) (s t : State) : Prop :=
  s.Outside t ∧ s.RegsKept (countRegs stage h.die) t ∧ t.data = { s.data with skein := t.data.skein, bad := t.data.bad }

/-- What the platform's commands leave alone: every part of the machine but registers, power, firmware, log and outputs. -/
def State.KeepsWork (s t : State) : Prop :=
  t.data = s.data ∧ t.seq = s.seq ∧ t.tier = s.tier ∧ t.serve = s.serve ∧ t.sec = s.sec ∧ t.fab = s.fab ∧ t.twin = s.twin ∧
    t.mod = s.mod ∧ t.host = s.host

/-- R394, R436, R454. A TWIN frame of `n` payload lines arrives on twin link `l` and leaves the machine at `b`, before its own effect: the
lines are counted, the link is LIVE and the silence is over. -/
def State.TwinArrives (s : State) (l n : Nat) (b : State) : Prop :=
  bit (s.reg Reg.TWN_LINKS_TWIN) l = true ∧ ∃ a, s.arriveFrame l n false = some a ∧
    b = { a.set Reg.TWN_LINKS_LIVE (setBit (a.reg Reg.TWN_LINKS_LIVE) l) with twin := { a.twin with silent := false } }

/-! ### Messages -/

/-- R122, R516. The precondition of a message of a type: PRECOND where the type carries one. -/
def Mail.precond (h : Mail) (type : Nat) : Precond :=
  if 0x0101 ≤ type ∧ type ≤ 0x07FF then Precond.ofNat (h.u 0 8) else Precond.none

/-- R511 to R517, R121. A message of a type, whose layout takes `size` bytes and version minor or more, meets nothing that answers it before its own rules: its
page is not busy, nothing bars it (`mailGate`), its header and length are right, no bytes follow its layout, its flags are clear (it is
not ASYNC), and its precondition holds. -/
def State.Taken (s : State) (h : Mail) (type minor size : Nat) : Prop :=
  s.getF h.fn Reg.MBX_STATUS_BUSY ≠ 1 ∧ s.mailGate h.fn type = .open' ∧ h.major = 3 ∧ minor ≤ h.minor ∧
    size ≤ h.payload.length ∧ (∀ b ∈ h.payload.drop size, b = 0) ∧ h.status = 0 ∧ h.flags = 0 ∧
    (h.precond type).wf = true ∧ s.preConflict (h.precond type) = none

/-- The request of a message that is not ASYNC. -/
def Mail.ticket (h : Mail) (type : Nat) : Ticket := ⟨h.fn, type, h.seq, min h.minor 1, false⟩

/-- R511, R512. The page reply OK to a message of a type, with a payload, in state `t`. -/
def State.replied (t : State) (h : Mail) (type : Nat) (payload : List Byte) : State :=
  t.pageReply (h.ticket type) .ok false payload

/-- R511, R517. The message is admitted and its page stays busy until its final outcome. -/
def State.waiting (t : State) (h : Mail) (type : Nat) : State :=
  { t with host := { t.host with tickets := t.host.tickets ++ [h.ticket type] } }.setF h.fn Reg.MBX_STATUS_BUSY 1

end Sys2Proof.Machine
end

