-- ==== Sys2Proof/WellFormed.lean ====
section
/-!
DEFINITION. Which commands are well formed: the ranges that the spec gives the numbers a command carries. A command from
outside these ranges spells nothing that the hardware can send; `exec` is total on them all the same.
-/

namespace Sys2Proof

open Machine

/-- R456. Function numbers: the PF is 0, the VFs 1 to 1,024. -/
def fnWf (fn : Nat) : Bool := decide (fn ≤ 1024)

/-- R12, R390. Sixteen seam links. -/
def linkWf (l : Nat) : Bool := decide (l < 16)

/-- R531. Four control cores. -/
def coreWf (c : Nat) : Bool := decide (c < 4)

/-- R495, R6. Registers are 32 bits wide, in a window of 2 MiB. -/
def offWf (off : Nat) : Bool := decide (off % 4 = 0) && decide (off < 0x200000)

/-- R512. The header fields of a request, and its payload of 0 to 4,080 bytes. -/
def mailWf (h : Mail) : Bool :=
  fnWf h.fn && decide (h.major < 256) && decide (h.minor < 256) && decide (h.seq < 2 ^ 32) && decide (h.status < 65536) &&
    decide (h.flags < 65536) && decide (h.payload.length ≤ 4080)

/-- Each value fits the bits of its field. -/
def fieldsFit : List (Nat × Nat) → List Nat → Bool
  | [], [] => true
  | (_, w) :: l, v :: t => decide (v < 2 ^ w) && fieldsFit l t
  | _, _ => false

/-- R85, R10. The fields of an instruction word fit their bits, and the fields that the word does not carry are zero, with
the skein bits of a long receive (R167). -/
def wordWf (i : Instr) : Bool :=
  match trolumParts i with
  | none => false
  | some (h, op, v) =>
    decide (h.die < 2) && decide (h.stage < 8) && decide (h.unit < 32) && decide (h.start < 65536) && decide (h.cslot < 16) &&
      (match trolumFields op (v.headD 0) with
        | none => false
        | some l => fieldsFit l v) && longOk op v &&
      (match i with
        | .pkQ _ o => o.rsel == 0
        | _ => true)

/-- R355, R357. A neighbour's word of a hank comes on one of the links. -/
def hankOpWf (o : HankOp) : Bool :=
  match o with
  | .message m => mailWf m
  | .peer l _ _ => linkWf l

/-- R355. A directory entry comes, or goes, on one of the links. -/
def dirOpWf (o : DirOp) : Bool :=
  match o with
  | .arrives d => linkWf d.link
  | .places _ l _ => linkWf l

/-- The ranges of a command's numbers. -/
def Instr.wf (i : Instr) : Bool :=
  match i with
  | .fetchT h o => wordWf (.fetchT h o)
  | .fetchS h o => wordWf (.fetchS h o)
  | .fetchKv h o => wordWf (.fetchKv h o)
  | .moveT h o => wordWf (.moveT h o)
  | .unpCvt h o => wordWf (.unpCvt h o)
  | .unpDq h o => wordWf (.unpDq h o)
  | .unpRht h o => wordWf (.unpRht h o)
  | .unpLay h o => wordWf (.unpLay h o)
  | .mxLdw h o => wordWf (.mxLdw h o)
  | .mxRun h o => wordWf (.mxRun h o)
  | .mxRunt h o => wordWf (.mxRunt h o)
  | .mxWgrad h o => wordWf (.mxWgrad h o)
  | .mxDrain h o => wordWf (.mxDrain h o)
  | .mgAcc h o => wordWf (.mgAcc h o)
  | .mgScale h o => wordWf (.mgScale h o)
  | .mgMotif h o => wordWf (.mgMotif h o)
  | .mgSegt h o => wordWf (.mgSegt h o)
  | .vcLdp h o => wordWf (.vcLdp h o)
  | .vcLd h o => wordWf (.vcLd h o)
  | .vcSt h o => wordWf (.vcSt h o)
  | .vcProg h o => wordWf (.vcProg h o)
  | .vcRed h o => wordWf (.vcRed h o)
  | .vcSmax h o => wordWf (.vcSmax h o)
  | .vcCmp h o => wordWf (.vcCmp h o)
  | .vcExp h o => wordWf (.vcExp h o)
  | .vcRng h o => wordWf (.vcRng h o)
  | .pkQ h o => wordWf (.pkQ h o)
  | .pkSr h o => wordWf (.pkSr h o)
  | .cmTens h o => wordWf (.cmTens h o)
  | .cmKv h o => wordWf (.cmKv h o)
  | .cmCtx h o => wordWf (.cmCtx h o)
  | .cmMark h o => wordWf (.cmMark h o)
  | .lkSend h o => wordWf (.lkSend h o)
  | .lkRecv h o => wordWf (.lkRecv h o)
  | .lkRed h o => wordWf (.lkRed h o)
  | .xBar h o => wordWf (.xBar h o)
  | .cmdStart h o => wordWf (.cmdStart h o)
  | .traceMark h o => wordWf (.traceMark h o)
  | .xProg h o => wordWf (.xProg h o)
  | .xNop h => wordWf (.xNop h)
  | .xEnd h now => wordWf (.xEnd h now)
  | .rowRecordFetch _ => true
  | .rowStart _ => true
  | .rowComplete _ => true
  | .activityLimiterBin _ _ => true
  | .tickOverrun _ => true
  | .barrierTimeout => true
  | .frogComplete o => decide (o.die < 2) && decide (o.cslot < 16)
  | .tierWriteAck o => decide (o.die < 2) && decide (o.cslot < 16)
  | .tierWriteFail o => decide (o.die < 2) && decide (o.cslot < 16)
  | .commitPoint o => decide (o.die < 2) && decide (o.cslot < 16)
  | .slotStream o => decide (o.die < 2)
  | .tierReadComplete _ => true
  | .rosterBuild => true
  | .tokenCopy _ => true
  | .schedWindowBoundary => true
  | .quotaSnapshot => true
  | .sqTailDoorbell fn n v _ => fnWf fn && decide (n < 8) && decide (v < 2 ^ 32)
  | .cqHeadDoorbell fn v _ => fnWf fn && decide (v < 2 ^ 32)
  | .sqFetch o => fnWf o.fn && decide (o.queue < 8)
  | .command o => fnWf o.fn && decide (o.queue < 8)
  | .seqOpen o => fnWf o.fn && decide (o.queue < 8)
  | .seqAppend o => fnWf o.fn && decide (o.queue < 8)
  | .seqClose o => fnWf o.fn && decide (o.queue < 8)
  | .hostReadCompletion _ => true
  | .cqCoalesceTimer fn => fnWf fn
  | .deviceQuery h => mailWf h
  | .rowConfig h => mailWf h
  | .powerState h => mailWf h
  | .perfLevel h => mailWf h
  | .bindOff h => mailWf h
  | .tensorAlloc h => mailWf h
  | .tensorFree h => mailWf h
  | .tensorQuery h => mailWf h
  | .tensorPlace h => mailWf h
  | .hostRegister h => mailWf h
  | .hostUnregister h => mailWf h
  | .quotaSet h => mailWf h
  | .quotaQuery h => mailWf h
  | .tenantPark h => mailWf h
  | .tenantRestore h => mailWf h
  | .hankLend o => hankOpWf o
  | .hankRecall o => hankOpWf o
  | .hankRecallDeadline _ _ => true
  | .writeback h => mailWf h
  | .writebackStart _ => true
  | .moveGranuleDone _ => true
  | .zeroFillDone _ => true
  | .flashWearOp _ => true
  | .flashChannelFail _ => true
  | .modelLoad h => mailWf h
  | .modelRelay h => mailWf h
  | .modelUnload h => mailWf h
  | .modelQuery h => mailWf h
  | .motifLoad h => mailWf h
  | .motifBind h => mailWf h
  | .motifUnbind h => mailWf h
  | .motifQuery h => mailWf h
  | .swatchBuild h => mailWf h
  | .swatchRelease h => mailWf h
  | .swatchImport h => mailWf h
  | .swatchQuery h => mailWf h
  | .graphSubmit h => mailWf h
  | .templateLoad h => mailWf h
  | .templateBuild h => mailWf h
  | .templateRetire h => mailWf h
  | .patternQuery h => mailWf h
  | .trainWindow h => mailWf h
  | .schedSet h => mailWf h
  | .schedQuery h => mailWf h
  | .modelSchedSet h => mailWf h
  | .funcPreempt h => mailWf h
  | .funcResume h => mailWf h
  | .seqQuery h => mailWf h
  | .fabricJoin h => mailWf h
  | .fabricLeave h => mailWf h
  | .linkAttach h => mailWf h
  | .linkDetach h => mailWf h
  | .linkQuery h => mailWf h
  | .linkRekey h => mailWf h
  | .fabricResync h => mailWf h
  | .fabricSeqMap h => mailWf h
  | .twinDeclare h _ => mailWf h
  | .twinDissolve h => mailWf h
  | .twinQuery h => mailWf h
  | .twinTakeover h => mailWf h
  | .twinResync h _ => mailWf h
  | .lifelineWrite h => mailWf h
  | .lifelineCaptureDone o => fnWf o.fn
  | .lifelineRestore h => mailWf h
  | .lifelineList h => mailWf h
  | .lifelineDrop h => mailWf h
  | .funcEnable h => mailWf h
  | .funcDisable h => mailWf h
  | .spdmTunnel h _ => mailWf h
  | .secQuery h => mailWf h
  | .tensorExport h => mailWf h
  | .tensorImport h => mailWf h
  | .zeroise h => mailWf h
  | .svnCommit h => mailWf h
  | .deferCancel h => mailWf h
  | .lifecycleRma h _ => mailWf h
  | .tinkRead h => mailWf h
  | .tinkFreeze h => mailWf h
  | .tinkRelease h => mailWf h
  | .keyRelease _ => true
  | .keyDestroy _ => true
  | .touchLogRead _ => true
  | .policyQuery _ => true
  | .getMeasurements fn _ => fnWf fn
  | .getCertificate _ _ _ => true
  | .keyExchange _ => true
  | .keyProg _ vfs => vfs.all fnWf
  | .kSetGo _ => true
  | .kSetStop _ => true
  | .lockInterfaceRequest vf => fnWf vf
  | .startInterfaceRequest vf => fnWf vf
  | .tdiConfigChange vf => fnWf vf
  | .ideIntegrityFail _ => true
  | .flr fn => fnWf fn
  | .vfEnableClear _ numVfs => fnWf numVfs
  | .hostLinkDown _ => true
  | .configSpaceReady => true
  | .bar4Access _ => true
  | .registerWrite fn off v => fnWf fn && offWf off && decide (v < 2 ^ 32)
  | .rcRead fn off => fnWf fn && offWf off
  | .loReadLatch fn off => fnWf fn && offWf off
  | .seqRun _ => true
  | .haltStep => true
  | .haltRow => true
  | .seqFaultClear mask => decide (mask < 2 ^ 32)
  | .seqRowCfgWrite v => decide (v < 2 ^ 32)
  | .pmBaseWrite off v => offWf off && decide (v < 2 ^ 32)
  | .rosterReadySet mask => decide (mask < 2 ^ 32)
  | .seqSchedCfgWrite v => decide (v < 2 ^ 32)
  | .mxaCtrlWrite v => decide (v < 2 ^ 32)
  | .mtfHotCfgWrite v => decide (v < 2 ^ 32)
  | .rngRead fn v => fnWf fn && decide (v < 2 ^ 32)
  | .rngLoad fn v => fnWf fn && decide (v < 2 ^ 32)
  | .rngDerive fn v => fnWf fn && decide (v < 2 ^ 32)
  | .rngReset fn v => fnWf fn && decide (v < 2 ^ 32)
  | .deriveDone fn => fnWf fn
  | .movPause v => decide (v < 2 ^ 32)
  | .movDirtyCfgWrite v => decide (v < 2 ^ 32)
  | .movLendCfgWrite v => decide (v < 2 ^ 32)
  | .movTtRead => true
  | .ftlCfgWrite v => decide (v < 2 ^ 32)
  | .lnkStageCfgWrite v => decide (v < 2 ^ 32)
  | .tnkFreeze => true
  | .tnkEntryRead => true
  | .dplEnable _ => true
  | .dplStop _ => true
  | .dplEpoch => true
  | .dplHeadWrite v => decide (v < 2 ^ 32)
  | .fwFaultRead => true
  | .writeNow => true
  | .retainedWrite _ => true
  | .pwrLimitWrite v => decide (v < 2 ^ 32)
  | .pwrRampWrite v => decide (v < 2 ^ 32)
  | .thmLimitsWrite v => decide (v < 2 ^ 32)
  | .markThreshWrite off v => offWf off && decide (v < 2 ^ 32)
  | .queueConfigWrite fn off v => fnWf fn && offWf off && decide (v < 2 ^ 32)
  | .itemFrame o => linkWf o.link
  | .commitFrame o => linkWf o.link
  | .discard o => linkWf o.link
  | .rowDone o => linkWf o.link
  | .rowFault o => linkWf o.link
  | .rosterFrame o => linkWf o.link
  | .bulkFrame o => linkWf o.link
  | .bulkOpen o => linkWf o.link
  | .bulkAccept o => linkWf o.link
  | .bulkRefuse o => linkWf o.link
  | .bulkAck o => linkWf o.link
  | .bulkResume o => linkWf o.link
  | .bulkClose o => linkWf o.link
  | .relayTimeout _ => true
  | .breadReq o => linkWf o.link
  | .breadCpl _ => true
  | .hankDir o => dirOpWf o
  | .keyReady l => linkWf l
  | .channelError o => linkWf o.link
  | .authFail o => linkWf o.link
  | .linkRetrain l => linkWf l
  | .linkRetrainDone o => linkWf o.link
  | .linkTrained o => linkWf o.link
  | .linkSecured o => linkWf o.link
  | .lossOfSignal l => linkWf l
  | .linkRetry l => linkWf l
  | .rekeyDue o => linkWf o.link
  | .oldKeyExpiry l => linkWf l
  | .beaconPulse _ => true
  | .beaconLost => true
  | .twinWrite o => linkWf o.link
  | .twinCommit o => linkWf o.link
  | .twinDiscard o => linkWf o.link
  | .twinCtx o => linkWf o.link
  | .twinTable o => linkWf o.link
  | .twinRoster o => linkWf o.link
  | .twinAck o => linkWf o.link
  | .twinAckSend => true
  | .twinHeartbeat l => linkWf l
  | .twinHeartbeatSend _ => true
  | .digestPoint => true
  | .digestComputed => true
  | .twinDigest o => linkWf o.link
  | .twinFault o => linkWf o.link
  | .twinSync o => linkWf o.link
  | .twinDrop o => linkWf o.link
  | .twinDropRepeat => true
  | .twinFence => true
  | .ackTimeout => true
  | .twinLoss => true
  | .twinAutoTakeover => true
  | .tinkFlushDone => true
  | .trapEntry o => coreWf o.core
  | .supervisorHeartbeat _ _ => true
  | .componentRestarted _ _ => true
  | .queueWaitTimeout h _ => mailWf h
  | .complexWatchdogExpiry _ => true
  | .complexReady _ => true
  | .debugActivate _ => true
  | .debugHalt core => coreWf core
  | .debugResume core => coreWf core
  | .debugStep core => coreWf core
  | .debugAbstractCommand o => coreWf o.core
  | .debugSysbusAccess _ => true
  | .jtagInstructionLoad _ => true
  | .queryDeviceIdentifiers => true
  | .getFirmwareParameters => true
  | .requestUpdate => true
  | .passComponentTable _ => true
  | .updateComponent _ _ => true
  | .requestFirmwareData _ => true
  | .verifyComplete _ _ => true
  | .activateFirmware => true
  | .getStatus => true
  | .cancelUpdateComponent => true
  | .cancelUpdate => true
  | .trialConfirm => true
  | .setSensorThresholds _ _ _ => true
  | .setEndpointId _ _ => true
  | .supplyDroop => true
  | .inputOvercurrent => true
  | .powerLimitAverage _ => true
  | .skipRelease _ => true
  | .sustainedSkipCheck _ _ => true
  | .skipCapLift _ _ => true
  | .voltageSettled => true
  | .powerStateEntryDone _ => true
  | .powerStateExitDone _ => true
  | .wakeEvent _ => true
  | .powerClockRequest _ => true
  | .deferredRequestProceed _ => true
  | .deferDeadline _ => true
  | .thermalThrottle _ _ => true
  | .thermalCapStep => true
  | .thermalCritical _ _ => true
  | .thermalTrip _ _ => true
  | .sensorFail _ => true
  | .regaugeOp _ => true
  | .gaugeDone _ => true
  | .gaugeRetry => true
  | .powerFail => true
  | .castOn _ => true
  | .hbmTrainingDone _ _ => true
  | .translationLayerReady _ => true
  | .selftestDone _ => true
  | .directoryRebuilt => true
  | .storeImageReload => true
  | .castonDone _ => true
  | .retainedApply => true
  | .flushReadySet => true
  | .holdupReadySet => true
  | .holdupLost => true
  | .bankCheck _ => true
  | .railFault _ => true
  | .refclkFault => true
  | .refclkRecovered => true
  | .couplingOpen => true
  | .couplingClosed => true
  | .buildDone _ => true
  | .hostLinkUp _ _ _ => true
  | .underV _ _ => true
  | .overV _ => true
  | .inletHigh _ => true
  | .stitchMarkerSample _ => true
  | .mbxDoorbell h _ => mailWf h
  | .coreSramEcc core _ => coreWf core
  | .endOfSession _ => true
  | .failedHbmStack stack => decide (stack < 8)

end Sys2Proof
end

