-- ==== Sys2Proof/Certificates/Slice0/Obligations.lean ====
section
/-!
DEFINITION. The statements for the provers. Each says in its docstring which rules of the spec it comes from.
-/

open Sys2Proof Sys2Proof.Machine

/-! ### Trolum instructions -/

/-- UNP.CVT, UNP.DQ, UNP.RHT and UNP.LAY (R143): with known formats and nothing amiss, each completes, its destination lines hold the
converted elements, the UNPACK counts advance, and nothing else changes. -/
def Obligations.UnpackCompletes : Prop :=
  (∀ (s : State) (h : Issue) (o : UnpCvtOp) (cid : Nat) (sf df : Fmt),
    Fmt.ofCode o.sfmt = some sf → Fmt.ofCode o.dfmt = some df →
    s.Issues h (range o.src (linesFor (o.ecnt + 1) sf.width)) (range o.dst (linesFor (o.ecnt + 1) df.width)) cid →
    let c := unpCvt sf df (s.linesAt o.src (linesFor (o.ecnt + 1) sf.width)) (o.ecnt + 1)
    ∃ t, exec (.unpCvt h o) s = .next t ∧ s.LinesAre t o.dst (codeLines df.width c.codes) ∧
      State.Counted 0 c.sat c.nf h s t ∧ State.StageOnly 0 h s t) ∧
  (∀ (s : State) (h : Issue) (o : UnpDqOp) (cid : Nat) (sf df sc : Fmt),
    Fmt.ofCode o.sfmt = some sf → Fmt.ofCode o.dfmt = some df → Fmt.ofCode o.scfmt = some sc →
    s.Issues h (range o.src (blockDims sf sc (groupSize o.group) (o.ecnt + 1)).total)
      (range o.dst (linesFor (o.ecnt + 1) df.width)) cid →
    let c := unpDq sf df sc (o.qmode == 1) (groupSize o.group) (o.ecnt + 1)
      (s.linesAt o.src (blockDims sf sc (groupSize o.group) (o.ecnt + 1)).total)
    ∃ t, exec (.unpDq h o) s = .next t ∧ s.LinesAre t o.dst (codeLines df.width c.codes) ∧
      State.Counted 0 c.sat c.nf h s t ∧ State.StageOnly 0 h s t) ∧
  (∀ (s : State) (h : Issue) (o : UnpRhtOp) (cid : Nat) (f : Fmt), Fmt.ofCode o.fmt = some f →
    s.Issues h (range o.src (linesFor (o.ecnt + 1) f.width) ++ [o.signs])
      (range o.dst (linesFor (o.ecnt + 1) f.width)) cid →
    let c := unpRht f o.blk (s.line o.signs).toNat (o.inv == 1) (s.linesAt o.src (linesFor (o.ecnt + 1) f.width))
      (o.ecnt + 1)
    ∃ t, exec (.unpRht h o) s = .next t ∧ s.LinesAre t o.dst (codeLines f.width c.codes) ∧
      State.Counted 0 c.sat c.nf h s t ∧ State.StageOnly 0 h s t) ∧
  (∀ (s : State) (h : Issue) (o : UnpLayOp) (cid : Nat) (f : Fmt), Fmt.ofCode o.fmt = some f →
    s.Issues h (range o.src (linesFor (o.ecnt + 1) f.width))
      (range o.dst (linesFor (layMap o.op (o.rowlen + 1) (o.ecnt + 1)).length f.width)) cid →
    let c := unpLay f o.op (o.rowlen + 1) (s.linesAt o.src (linesFor (o.ecnt + 1) f.width)) (o.ecnt + 1)
    ∃ t, exec (.unpLay h o) s = .next t ∧ s.LinesAre t o.dst (codeLines f.width c.codes) ∧
      State.Counted 0 c.sat c.nf h s t ∧ State.StageOnly 0 h s t)

/-- MG.ACC, MG.SCALE, MG.MOTIF and MG.SEGT (R152, R241, R246): each completes with one FP32 operation an element, in the order that the
rules give (MG.SEGT: with the segment table of the roster, which also triggers the die's slot streamer), and nothing else changes. -/
def Obligations.MergeCompletes : Prop :=
  (∀ (s : State) (h : Issue) (o : MgAccOp) (cid : Nat),
    s.Issues h (range o.srca (o.lcnt + 1) ++ range o.srcb (o.lcnt + 1)) (range o.dst (o.lcnt + 1)) cid →
    let ws := zipLines (if o.neg = 1 then fSub else fAdd) (64 * (o.lcnt + 1)) (s.linesAt o.srca (o.lcnt + 1))
      (s.linesAt o.srcb (o.lcnt + 1))
    ∃ t, exec (.mgAcc h o) s = .next t ∧ s.LinesAre t o.dst (codeLines 32 (ws.map (·.toNat))) ∧
      State.Counted 2 0 (ws.filter isNonFinite).length h s t ∧ State.StageOnly 2 h s t) ∧
  (∀ (s : State) (h : Issue) (o : MgScaleOp) (cid : Nat), o.bias < 2 →
    s.Issues h (range o.src (4 * (o.rows + 1)) ++ range o.vec (if o.bias = 1 then 8 else 4))
      (range o.dst (4 * (o.rows + 1))) cid →
    let x (i : Nat) : Word := BitVec.ofNat 32 (elem (s.linesAt o.src (4 * (o.rows + 1))) 32 i)
    let v (i : Nat) : Word := BitVec.ofNat 32 (elem (s.linesAt o.vec (if o.bias = 1 then 8 else 4)) 32 i)
    let ws := (List.range (64 * (4 * (o.rows + 1)))).map (fun i =>
      if o.bias = 1 then fAdd (fMul (x i) (v (i % 256))) (v (256 + i % 256)) else fMul (x i) (v (i % 256)))
    ∃ t, exec (.mgScale h o) s = .next t ∧ s.LinesAre t o.dst (codeLines 32 (ws.map (·.toNat))) ∧
      State.Counted 2 0 (ws.filter isNonFinite).length h s t ∧ State.StageOnly 2 h s t) ∧
  (∀ (s : State) (h : Issue) (o : MgMotifOp) (cid : Nat),
    s.Issues h (range o.base (4 * (o.rows + 1)) ++ range o.mot (4 * (o.rows + 1))) (range o.dst (4 * (o.rows + 1))) cid →
    let ws := zipLines fAdd (64 * (4 * (o.rows + 1))) (s.linesAt o.base (4 * (o.rows + 1)))
      (s.linesAt o.mot (4 * (o.rows + 1)))
    ∃ t, exec (.mgMotif h o) s = .next t ∧ s.LinesAre t o.dst (codeLines 32 (ws.map (·.toNat))) ∧
      State.Counted 2 0 (ws.filter isNonFinite).length h s t ∧ State.StageOnly 2 h s t) ∧
  (∀ (s : State) (h : Issue) (o : MgSegtOp) (cid : Nat),
    s.Issues h (s.rosterRange o.roster) (range o.dst 2) cid →
    ∃ t, exec (.mgSegt h o) s = .next t ∧ s.LinesAre t o.dst ((s.rosterAt o.roster).segLines o) ∧
      t.data.streams = s.data.streams ++ [⟨h.die, h.cslot, o.dst⟩] ∧ s.Outside t)

/-- PK.Q and PK.SR (R160, R161, R193): each completes with the scaled block of its source, rounding ties away from zero or by one word
of the command's stream for each element; PK.SR keeps the advanced stream with the command. -/
def Obligations.PackCompletes : Prop :=
  (∀ (s : State) (h : Issue) (o : PkOp) (cid : Nat) (f sc : Fmt), Fmt.ofCode o.fmt = some f → Fmt.ofCode o.scfmt = some sc →
    s.Issues h (range o.src (linesFor (o.ecnt + 1) 32)) (range o.dst (blockDims f sc (groupSize o.group) (o.ecnt + 1)).total)
      cid →
    let q := quantBlock f sc (o.qmode == 1) (groupSize o.group) (o.ecnt + 1)
      (s.linesAt o.src (linesFor (o.ecnt + 1) 32)) (fun _ => .away)
    ∃ t, exec (.pkQ h o) s = .next t ∧ s.LinesAre t o.dst (q.lines f sc) ∧
      State.Counted 4 q.elems.sat q.elems.nf h s t ∧ State.StageOnly 4 h s t) ∧
  (∀ (s : State) (h : Issue) (o : PkOp) (cid : Nat) (f sc : Fmt), Fmt.ofCode o.fmt = some f → Fmt.ofCode o.scfmt = some sc →
    s.Issues h (range o.src (linesFor (o.ecnt + 1) 32)) (range o.dst (blockDims f sc (groupSize o.group) (o.ecnt + 1)).total)
      cid →
    let k := s.cmdFn cid * 16 + o.rsel % 16
    let d := Stream.draws (o.ecnt + 1) (s.workStream cid k)
    let q := quantBlock f sc (o.qmode == 1) (groupSize o.group) (o.ecnt + 1)
      (s.linesAt o.src (linesFor (o.ecnt + 1) 32)) (fun i => .stoch (d.1.getD i 0).toNat)
    ∃ t, exec (.pkSr h o) s = .next t ∧ s.LinesAre t o.dst (q.lines f sc) ∧
      State.Counted 4 q.elems.sat q.elems.nf h s t ∧ t.workStream cid k = d.2 ∧ s.Outside t)

/-- VC.LDP, VC.LD and VC.ST (R153, R154): a program slot takes a line, tile-buffer lines take skein lines, skein lines take
tile-buffer lines; nothing else changes. -/
def Obligations.ChainLoadsComplete : Prop :=
  (∀ (s : State) (h : Issue) (o : VcLdpOp) (cid : Nat), s.Issues h [o.src] [] cid →
    ∃ t, exec (.vcLdp h o) s = .next t ∧
      Store.get? t.data.progs (progKey h.die h.unit o.pslot) = some (h.cslot, s.line o.src) ∧
      (∀ k, k ≠ progKey h.die h.unit o.pslot → Store.get? t.data.progs k = Store.get? s.data.progs k) ∧
      s.LinesKept t ∧ s.Outside t ∧ s.RegsKept (countRegs 3 h.die) t) ∧
  (∀ (s : State) (h : Issue) (o : VcBufOp) (cid : Nat), s.Issues h (range o.line (o.lcnt + 1)) [] cid →
    ∃ t, exec (.vcLd h o) s = .next t ∧
      (∀ i, i ≤ o.lcnt → t.bufLine h (tbufKey h.die h.unit o.buf (o.boff + i)) = s.line (o.line + i)) ∧
      (∀ k, (∀ i, i ≤ o.lcnt → k ≠ tbufKey h.die h.unit o.buf (o.boff + i)) →
        Store.get? t.data.tbufs k = Store.get? s.data.tbufs k) ∧
      s.LinesKept t ∧ s.Outside t ∧ s.RegsKept (countRegs 3 h.die) t) ∧
  (∀ (s : State) (h : Issue) (o : VcBufOp) (cid : Nat), s.Issues h [] (range o.line (o.lcnt + 1)) cid →
    s.bufForeign h ((range o.boff (o.lcnt + 1)).map (tbufKey h.die h.unit o.buf)) = false →
    ∃ t, exec (.vcSt h o) s = .next t ∧
      s.LinesAre t o.line ((range o.boff (o.lcnt + 1)).map (fun l => s.bufLine h (tbufKey h.die h.unit o.buf l))) ∧
      State.StageOnly 3 h s t)

/-- VC.PROG, VC.RED, VC.SMAX, VC.CMP, VC.EXP and VC.RNG (R155 to R159): each completes, on sources of its own command, with the lines
that its rule computes. VC.PROG needs a text that its command loaded (R153), VC.EXP a count line that agrees with its mask (R158). -/
def Obligations.ChainCompletes : Prop :=
  (∀ (s : State) (h : Issue) (o : VcProgOp) (cid : Nat) (text : LineData),
    let p := Prog.ofLine text
    let la := linesFor (o.ecnt + 1) (chainWidth o.xin)
    let lb := if p.readsB then bLines p o.xin (o.ecnt + 1) else 0
    let lw := if p.bitout then linesFor (o.ecnt + 1) 1 else linesFor (o.ecnt + 1) (chainWidth o.xout)
    let reads := locLines o.srca la ++ locLines o.srcb lb
    Store.get? s.data.progs (progKey h.die h.unit o.pslot) = some (h.cslot, text) →
    s.Issues h reads (locLines o.dst lw) cid → s.bufForeign h (bufKeys h o.srca la ++ bufKeys h o.srcb lb) = false →
    let r := progRun p o.xin o.xout (o.ecnt + 1) (s.cmd cid).desc.scalars (s.locAt h o.srca la) (s.locAt h o.srcb lb)
    exec (.vcProg h o) s = .next (((s.atIssue reads).writeLoc h o.dst r.1).counts h 3 r.2.1 r.2.2)) ∧
  (∀ (s : State) (h : Issue) (o : VcRedOp) (cid : Nat),
    let w := chainWidth o.xin
    let k := linesFor (o.ecnt + 1) w
    let lr := k * (o.rows + 1)
    s.Issues h (locLines o.src lr) (locLines o.dst (linesFor (o.rows + 1) 32)) cid →
    s.bufForeign h (bufKeys h o.src lr) = false →
    let row (i : Nat) : Word := reduceRow o.op o.xin ((List.range (o.ecnt + 1)).map (fun j =>
      chainIn o.xin (elem (s.locAt h o.src lr / 2 ^ (2048 * k * i)) w j)))
    let rs := (List.range (o.rows + 1)).map row
    let t := ((s.atIssue (locLines o.src lr)).writeLoc h o.dst (codeLines 32 (rs.map (·.toNat)))).counts
      h 3 0 (if o.op ≥ 4 then 0 else (rs.filter isNonFinite).length)
    exec (.vcRed h o) s = .next (if s.isLoss h cid o then t.lossWrite h cid (rs.getD 0 0) else t)) ∧
  (∀ (s : State) (h : Issue) (o : VcSmaxOp) (cid : Nat), o.mode < 3 →
    let n := o.ecnt + 1
    let k := linesFor n 32
    let mk := if o.msk = 1 then linesFor n 1 else 0
    let stl := linesFor (o.rows + 1) 128
    s.Issues h (range o.src ((o.rows + 1) * k + (if o.mode = 2 then 0 else (o.rows + 1) * mk)) ++
        (if o.mode = 0 then [] else range o.state stl))
      (range o.dst ((o.rows + 1) * k) ++ (if o.mode = 2 then [] else range o.state stl)) cid →
    let st (i : Nat) : SmState := SmState.ofRecord (bits (s.linesAt o.state stl) (128 * i) 128)
    let xs (i : Nat) := smRow (s.linesAt o.src ((o.rows + 1) * k))
      (s.linesAt (o.src + (o.rows + 1) * k) ((o.rows + 1) * mk)) n k mk (o.msk == 1) i
    let row (i : Nat) : List Word × SmState :=
      if o.mode = 0 then smOneshot (xs i) else if o.mode = 1 then smChunk (xs i) (st i)
      else ((xs i).map (fun e => smOut (st i) e.1), st i)
    let rs := (List.range (o.rows + 1)).map row
    let out := rs.flatMap (fun r => codeLines 32 (r.1.map (·.toNat)))
    ∃ t, exec (.vcSmax h o) s = .next t ∧ s.Outside t ∧ (o.mode = 2 → s.LinesAre t o.dst out) ∧
      (o.mode ≠ 2 → (s.writeLines o.dst out).LinesAre t o.state (codeLines 128 (rs.map (fun r => r.2.record)))) ∧
      (o.mode ≠ 1 → t.reg Reg.VCH_SMAX_EMPTY_EMPTY =
        (s.reg Reg.VCH_SMAX_EMPTY_EMPTY + (rs.filter (fun r => r.2.empty)).length) % 2 ^ 32)) ∧
  (∀ (s : State) (h : Issue) (o : VcCmpOp) (cid : Nat) (f : Fmt), Fmt.ofCode o.xfmt = some f →
    let w := chainWidth o.xfmt
    let k := linesFor (o.ecnt + 1) w
    let mk := linesFor (o.ecnt + 1) 1
    s.Issues h (range o.src k ++ range o.mask mk) (range o.dst (1 + k)) cid →
    let mask := bits (s.linesAt o.mask mk) 0 (o.ecnt + 1)
    let xs := compressElems (elemsOf (s.linesAt o.src k) w (o.ecnt + 1)) mask
    ∃ t, exec (.vcCmp h o) s = .next t ∧
      s.LinesAre t o.dst (BitVec.ofNat 2048 (popCount mask (o.ecnt + 1)) :: natLines (packElems w xs) k) ∧
      State.Counted 3 0 (if o.xfmt = 3 then 0 else (xs.filter f.writesNonFinite).length) h s t ∧ State.StageOnly 3 h s t) ∧
  (∀ (s : State) (h : Issue) (o : VcCmpOp) (cid : Nat) (f : Fmt), Fmt.ofCode o.xfmt = some f →
    let w := chainWidth o.xfmt
    let mk := linesFor (o.ecnt + 1) 1
    let mask := bits (s.linesAt o.mask mk) 0 (o.ecnt + 1)
    let m := popCount mask (o.ecnt + 1)
    s.Issues h (range o.src (1 + linesFor m w) ++ range o.mask mk) (range o.dst (linesFor (o.ecnt + 1) w)) cid →
    bits (s.line o.src).toNat 0 32 = m →
    let xs := expandElems mask (o.ecnt + 1) 0 (elemsOf (s.linesAt (o.src + 1) (linesFor m w)) w m)
    ∃ t, exec (.vcExp h o) s = .next t ∧ s.LinesAre t o.dst (codeLines w xs) ∧
      State.Counted 3 0 (if o.xfmt = 3 then 0 else (xs.filter f.writesNonFinite).length) h s t ∧ State.StageOnly 3 h s t) ∧
  (∀ (s : State) (h : Issue) (o : VcRngOp) (cid : Nat), o.rsel < 16 →
    s.Issues h [] (locLines o.dst (linesFor (o.ecnt + 1) 32)) cid →
    let key := s.cmdFn cid * 16 + o.rsel
    let d := Stream.values o.dist (o.ecnt + 1) (s.workStream cid key)
    exec (.vcRng h o) s = .next ((((s.atIssue []).keepStream cid key d.2).writeLoc h o.dst
      (codeLines 32 (d.1.map (·.toNat)))).counts h 3 0 (distNf o.dist d.1))) ∧
  (∀ (s : State) (h : Issue) (o : VcRngOp) (cid : Nat), 16 ≤ o.rsel → o.rsel < 32 →
    let r := s.rosterAt o.roster
    let total := s.tokCap r * (o.ecnt + 1)
    s.Issues h (s.rosterRange o.roster) (locLines o.dst (linesFor total 32)) cid →
    let d := State.drawEntries cid (o.rsel - 16) o.dist (o.ecnt + 1) r.entries (s.atIssue (s.rosterRange o.roster))
    let vs := (d.1 ++ List.replicate (total - d.1.length) 0).take total
    exec (.vcRng h o) s = .next ((d.2.writeLoc h o.dst (codeLines 32 (vs.map (·.toNat)))).counts h 3 0 (distNf o.dist vs)))

/-- MX.LDW, MX.RUN, MX.RUNT, MX.WGRAD and MX.DRAIN (R146 to R151, R208, R216, R217, R242, R244, R245): each completes. The shadow
buffer takes the tile; a run without a motif puts each row's products into the accumulator and moves the shadow's tile to the cells;
a gradient run fills the gradient cells, or drains them; a drain writes the accumulator's rows as lines. -/
def Obligations.MatrixCompletes : Prop :=
  (∀ (s : State) (h : Issue) (o : MxLdwOp) (cid : Nat) (wf sc asc : Fmt),
    Fmt.ofCode o.wfmt = some wf → Fmt.ofCode o.scfmt = some sc → Fmt.ofCode o.ascfmt = some asc →
    let n := (blockDims wf sc (groupSize o.group) 65536).total
    s.Issues h (range o.src n) [] cid →
    ∃ t, exec (.mxLdw h o) s = .next t ∧
      t.array h = { s.array h with shadow := some (h.cslot, ⟨wf, o.group, sc, asc, o.qmode == 1, s.linesAt o.src n⟩) } ∧
      s.LinesKept t ∧ s.Outside t ∧ s.RegsKept (countRegs 1 h.die) t) ∧
  (∀ (s : State) (h : Issue) (o : MxRunOp) (cid : Nat) (af wf : Fmt) (segs : List Seg) (tr : Bool),
    Fmt.ofCode o.afmt = some af → Fmt.ofCode o.wfmt = some wf → h.cslot < 16 →
    let u := (s.array h).use wf
    let n := o.rows + 1
    let act : ActBlock := ⟨af, n, s.linesAt o.act (ActBlock.lines af n u.2.1)⟩
    u.1 = h.cslot → u.2.1.wfmt = wf →
    (o.accIn = 1 → o.pass = 0 → foreign h (s.array h).acc (range o.accb n) = false) →
    (if o.motif = 1 then s.segments (s.segTable o.segt) n else some [⟨n, 0, 0, none⟩]) = some segs →
    (o.motif = 1 → foreignRank h (s.array h).rank (range o.accb n) = false ∧ s.streamPending h = false ∧
      s.areasOk h segs = true) →
    s.Issues h (range o.act (ActBlock.lines af n u.2.1) ++ (if o.motif = 1 then range o.segt 2 else [])) [] cid →
    ∃ t, exec (if tr then .mxRunt h o else .mxRun h o) s = .next t ∧
      (t.array h).acc = (if o.pass = 0 then runAcc tr h u.2.1 act (o.accIn == 1) o.accb n (s.array h).acc
        else (s.array h).acc) ∧
      (t.array h).rank = (if o.motif = 1 then s.runRank tr h u.2.1 act o segs (s.array h).rank else (s.array h).rank) ∧
      (t.array h).cells = some (h.cslot, u.2.1) ∧ (t.array h).shadow = none ∧ s.LinesKept t ∧ s.Outside t) ∧
  (∀ (s : State) (h : Issue) (o : MxWgradOp) (cid : Nat), o.mode < 2 →
    let n := o.rows + 1
    let k := o.rank + 1
    let l := wgradLines o.mode
    let dims : Nat × Nat := if o.mode = 0 then (256, k) else (k, 256)
    s.Issues h (range o.in1 (n * l.1) ++ range o.in2 (n * l.2))
      (if o.drain = 1 then range o.dst (linesFor (dims.1 * dims.2) 32) else []) cid →
    (o.accIn = 1 → ∀ w, (s.array h).wgrad = some w → w.1 = h.cslot) →
    let toks := (List.range n).map (fun i => (bits (s.linesAt o.in1 (n * l.1)) (2048 * l.1 * i) (2048 * l.1),
      bits (s.linesAt o.in2 (n * l.2)) (2048 * l.2 * i) (2048 * l.2)))
    let old (j : Nat) : Word := match (s.array h).wgrad with
      | some w => if o.accIn = 1 then Store.getD w.2 j 0 else 0
      | none => 0
    let cells := (List.range (dims.1 * dims.2)).map (fun j => (j, wgradCell toks (j / dims.2) (j % dims.2) (old j)))
    ∃ t, exec (.mxWgrad h o) s = .next t ∧ s.Outside t ∧
      (t.array h).wgrad = (if o.drain = 1 then none else some (h.cslot, cells)) ∧
      (o.drain = 1 → s.LinesAre t o.dst (codeLines 32 (cells.map (·.2.toNat)))) ∧ (o.drain ≠ 1 → s.LinesKept t)) ∧
  (∀ (s : State) (h : Issue) (o : MxDrainOp) (cid : Nat) (segs : List Seg),
    let n := o.rows + 1
    let rows := range o.accb n
    let p := ceilDiv (s.rankLimit segs) 64
    let total := 4 * n + (if o.motif = 1 then 4 * n else 0) + (if o.rankout = 1 then n * p else 0)
    (if o.motif = 1 then s.segments (s.segTable o.segt) n else some [⟨n, 0, 0, none⟩]) = some segs →
    (o.motif = 1 → s.streamPending h = false ∧ s.areasOk h segs = true) →
    foreign h (s.array h).acc rows = false → (o.motif = 1 ∨ o.rankout = 1 → foreignRank h (s.array h).rank rows = false) →
    s.Issues h (if o.motif = 1 then range o.segt 2 else []) (range o.dst total) cid →
    let rk (r : Nat) : Nat × Bool × Nat := Store.getD (s.array h).rank r (h.cslot, false, 0)
    let base := rows.flatMap (fun r => natLines (Store.getD (s.array h).acc r (h.cslot, 0)).2 4)
    let parts := if o.motif = 1 then ((rowSegs segs).zip rows).flatMap (fun gr =>
        natLines (s.partialRow h (rk gr.2).2.1 o.nt gr.1 (rk gr.2).2.2) 4) else []
    let ranks := if o.rankout = 1 then rows.flatMap (fun r => natLines (rk r).2.2 p) else []
    ∃ t, exec (.mxDrain h o) s = .next t ∧ s.LinesAre t o.dst (base ++ parts ++ ranks) ∧
      t.data.arrays = s.data.arrays ∧ s.Outside t)

/-- FETCH.T, FETCH.S, FETCH.KV, MOVE.T and TIER_READ_COMPLETE (R139 to R142): a fetch of a near tensor of the command's own operands
writes its lines; a chunk of a history is written with its mask; a move descriptor is kept until the commit point; a read that was
late lands when it completes. -/
def Obligations.FetchCompletes : Prop :=
  (∀ (s : State) (h : Issue) (o : FetchOp) (cid : Nat) (t' : Tensor) (sc : Bool), o.src = 0 →
    s.Issues h [] (range o.dst (o.lcnt + 1)) cid →
    s.resolve h cid (s.cmdFn cid) (s.operand cid o.opd).handle (some o.fmt) o.offset (o.lcnt + 1) false = .good t' →
    t'.tier = .near →
    ∃ t, exec (if sc then .fetchS h o else .fetchT h o) s = .next t ∧
      s.LinesAre t o.dst ((range (t'.loc + o.offset) (o.lcnt + 1)).map s.nearLine) ∧ t.tier.near = s.tier.near) ∧
  (∀ (s : State) (h : Issue) (o : FetchKvOp) (cid : Nat),
    let r := s.rosterAt o.roster
    let c := 256 * 2 ^ o.chlen
    let lpt := (s.model r.model).params.kvLpt
    let lo := o.chunk * c
    s.Issues h (s.rosterRange o.roster) (range o.dst (c * lpt + ceilDiv c 2048)) cid →
    ∀ e, r.entries[o.entry]? = some e → e.position ≤ lo →
    ∃ t, exec (.fetchKv h o) s = .next t ∧
      s.LinesAre t o.dst (List.replicate (c * lpt) 0 ++
        natLines (packElems 1 ((List.range c).map (fun i => b2n (lo + i < e.position)))) (ceilDiv c 2048))) ∧
  (∀ (s : State) (h : Issue) (o : FetchKvOp) (cid : Nat) (e : RosterEntry) (w : Tensor),
    let r := s.rosterAt o.roster
    let c := 256 * 2 ^ o.chlen
    let lpt := (s.model r.model).params.kvLpt
    let lo := o.chunk * c
    let mask := packElems 1 ((List.range c).map (fun i => b2n (lo + i < e.position)))
    let first := kvLine w.capacity lpt o.layer lo
    s.Issues h (s.rosterRange o.roster) (range o.dst (c * lpt + ceilDiv c 2048)) cid →
    r.entries[o.entry]? = some e → r.swatchesOf e = [] → lo + c ≤ e.position → e.kv.fn = e.fn → s.tensor? e.kv = some w →
    w.tier = .near → s.resolve h cid e.fn e.kv none first (c * lpt) false = .good w →
    ∃ t, exec (.fetchKv h o) s = .next t ∧
      (s.writeLines o.dst (List.replicate (c * lpt) 0 ++ natLines mask (ceilDiv c 2048))).LinesAre t o.dst
        ((range (w.loc + first) (c * lpt)).map s.nearLine)) ∧
  (∀ (s : State) (h : Issue) (o : MoveOp) (cid : Nat), s.Issues h [] [] cid →
    ∃ t, exec (.moveT h o) s = .next t ∧
      (t.cmd cid).moves = (s.cmd cid).moves ++ [⟨(s.operand cid o.opd).handle, o.index⟩] ∧ s.Outside t ∧ s.LinesKept t) ∧
  (∀ (s : State) (o : TierReadOp) (r : FetchReq) (t' : Tensor),
    s.data.fetches.find? (fun q => q.id == o.id) = some r → o.ecc = false → s.tensor? r.handle = some t' → t'.tier = .near →
    ∃ t, exec (.tierReadComplete o) s = .next t ∧
      s.LinesAre t r.dst (((range (t'.loc + r.offset) r.count).map s.nearLine).take r.count) ∧
      (∀ q ∈ t.data.fetches, q.id ≠ r.id) ∧ (∀ p ∈ t.data.pendLines, p.2 ≠ r.id) ∧ s.Outside t)

/-- CM.TENS, CM.KV, CM.CTX and CM.MARK (R162 to R165): on a module that mirrors to no twin, lines go to the operand tensor (to each
entry's own positions), the destination becomes incomplete until the commit, the write waits for its acknowledgement; streams, records
and the command's completion are staged; a die's commit mark is kept.
TIER_WRITE_ACK, TIER_WRITE_FAIL, COMMIT_POINT and FROG_COMPLETE (R94, R97, R99, R103): the oldest write of the command in the slot is
acknowledged; a failed one bars its commit, and is no further fault while the command is being frogged; a command at its commit point
commits; a frog ends once nothing is outstanding. -/
def Obligations.CommitCompletes : Prop :=
  (∀ (s : State) (h : Issue) (o : CmTensOp) (cid : Nat) (w : Tensor),
    s.Issues h (range o.src (o.lcnt + 1)) [] cid →
    s.resolve h cid (s.cmdFn cid) (s.operand cid o.opd).handle (some o.fmt) o.offset (o.lcnt + 1) true = .good w →
    let l := (range o.src (o.lcnt + 1)).map s.line
    exec (.cmTens h o) s = .next ((s.atIssue (range o.src (o.lcnt + 1))).tierWrite h 0xD0 cid w o.offset l)) ∧
  (∀ (s : State) (h : Issue) (op cid : Nat) (w : Tensor) (offset : Nat) (l : List LineData), s.mirrors = false →
    let t := s.tierWrite h op cid w offset l
    t.tier.near = Memory.writeBytes s.tier.near (256 * (w.loc + offset)) (l.flatMap bytesOfLine) ∧
      Store.get? t.tier.tt w.key = some { w with incomplete := true, lastUse := s.row } ∧
      (t.cmd cid).writes = (s.cmd cid).writes ++ [(h.die, op, h.index)] ∧ w.key ∈ (t.cmd cid).dests ∧
      t.regs = s.regs ∧ s.LinesKept t) ∧
  (∀ (s : State) (h : Issue) (o : CmKvOp) (cid : Nat),
    let r := s.rosterAt o.roster
    let lpt := (s.model r.model).params.kvLpt
    let es := r.span o.first o.count
    let reads := s.rosterRange o.roster ++ es.flatMap (fun e => range (o.src + e.tokOffset * lpt) ((e.tokCount + 1) * lpt))
    s.Issues h reads [] cid →
    exec (.cmKv h o) s = .next (es.foldl (State.kvEntry h o r cid lpt) (s.atIssue reads, true)).1) ∧
  (∀ (s : State) (h : Issue) (o : CmKvOp) (cid lpt : Nat) (r : Roster) (e : RosterEntry) (w w' : Tensor),
    let p := e.position - s.swatchTokens (r.swatchesOf e)
    let n := e.tokCount + 1
    s.tensor? e.kv = some w → e.kv.fn = e.fn → p + n ≤ w.capacity →
    s.resolve h cid e.fn e.kv none (kvLine w.capacity lpt o.layer p) (n * lpt) true = .good w' →
    State.kvEntry h o r cid lpt (s, true) e = (s.tierWrite h 0xD1 cid w' (kvLine w.capacity lpt o.layer p)
      ((range (o.src + e.tokOffset * lpt) (n * lpt)).map s.line), true)) ∧
  (∀ (s : State) (h : Issue) (o : CmCtxOp) (cid : Nat), o.kind = 2 → s.Issues h [] [] cid →
    ∃ t, exec (.cmCtx h o) s = .next t ∧ (t.cmd cid).doneStaged = true ∧ s.Outside t ∧ s.LinesKept t) ∧
  (∀ (s : State) (h : Issue) (o : CmCtxOp) (cid : Nat), o.kind = 0 → o.rsel < 16 → s.Issues h [] [] cid →
    ∃ t, exec (.cmCtx h o) s = .next t ∧ s.Outside t ∧ s.LinesKept t ∧
      ∀ i ∈ setBits o.smask 16, Store.get? (t.cmd cid).staged (s.cmdFn cid * 16 + i) =
        some (s.workStream cid (s.cmdFn cid * 16 + i))) ∧
  (∀ (s : State) (h : Issue) (o : CmCtxOp) (cid : Nat), o.kind = 0 → 16 ≤ o.rsel → o.rsel < 32 →
    let r := s.rosterAt o.roster
    s.Issues h (s.rosterRange o.roster) [] cid →
    exec (.cmCtx h o) s = .next ((((r.span o.first o.count).filter (fun e => s.hasCtx e.fn)).map
      (fun e => e.fn * 16 + (o.rsel - 16 + e.rngStream) % 16)).foldl (State.stageStream cid)
        (s.atIssue (s.rosterRange o.roster)))) ∧
  (∀ (s : State) (h : Issue) (o : CmCtxOp) (cid : Nat), o.kind = 1 →
    let r := s.rosterAt o.roster
    let n := linesFor (o.count + 1) 32
    s.Issues h (s.rosterRange o.roster ++ range o.src n) [] cid →
    ∃ t, exec (.cmCtx h o) s = .next t ∧ s.Outside t ∧ s.LinesKept t ∧
      (t.cmd cid).records = (s.cmd cid).records ++
        (((r.span o.first o.count).zipIdx.filter (fun p => (p.1.sample || p.1.lastSlice) && s.hasCtx p.1.fn)).map
          (fun p => p.1.record (elem (s.linesAt o.src n) 32 p.2)))) ∧
  (∀ (s : State) (h : Issue) (o : CmMarkOp) (cid : Nat), o.kind = 0 → s.Issues h [] [] cid →
    (o.dschk = 1 → ∀ d ∈ (s.cmd cid).dies, s.latches (s.cmd cid).cslot d = (false, false)) →
    ∃ t, exec (.cmMark h o) s = .next t ∧ (t.cmd cid).marked = (s.cmd cid).marked ++ [h.die] ∧ s.Outside t ∧ s.LinesKept t) ∧
  (∀ (s : State) (h : Issue) (o : CmMarkOp) (cid d : Nat), o.kind = 0 → o.dschk = 1 → s.Issues h [] [] cid →
    d ∈ (s.cmd cid).dies → s.latches (s.cmd cid).cslot d ≠ (false, false) →
    exec (.cmMark h o) s = .next ((s.atIssue []).dropStitch h cid)) ∧
  (∀ (s : State) (o : SlotOp) (cid : Nat), s.cmdIn o.die o.cslot = some cid →
    ∃ t, exec (.tierWriteAck o) s = .next t ∧ (t.cmd cid).writes = (s.cmd cid).writes.drop 1 ∧ s.Outside t ∧ t.regs = s.regs) ∧
  (∀ (s : State) (o : SlotOp) (cid : Nat) (w : Nat × Nat × Nat) (rest : List (Nat × Nat × Nat)),
    s.cmdIn o.die o.cslot = some cid → (s.cmd cid).writes = w :: rest →
    let s1 := s.setCmd cid { s.cmd cid with writes := rest, writeFailed := true }
    exec (.tierWriteFail o) s = .next (if (s.cmd cid).frogged then s1 else
      s1.patternErr ⟨w.1, 6, 0, o.cslot, 0, w.2.2, o.cycle, [], false, false, none, 0⟩ w.2.1 7)) ∧
  (∀ (s : State) (o : SlotOp) (cid : Nat), s.cmdIn o.die o.cslot = some cid → s.reached cid = true →
    exec (.commitPoint o) s = .next (s.commit cid).releaseDoomed) ∧
  (∀ (s : State) (o : SlotOp) (cid : Nat), s.cmdIn o.die o.cslot = some cid → cid ∈ s.seq.frogWait → (s.cmd cid).writes = [] →
    let e := s.endFrog cid
    cid ∉ e.seq.dead →
    exec (.frogComplete o) s = .next ({ e with seq := { e.seq with
      frogWait := e.seq.frogWait.filter (· != cid), dead := e.seq.dead.filter (· != cid) } }).leaveFaulted)

/-- LK.SEND, LK.RECV and LK.RED (R100, R101, R166 to R168): lines leave on the unit's link under the command's tag; a staged item whose
marker has come is written and consumed; a reduction sends, adds or delivers by its role.
CMD_START, TRACE, X.BAR, X.PROG, X.NOP and X.END (R169 to R172, R84): a start clears the slot and gives it its allotment; a trace
value goes to the trace buffer; a barrier whose lines are settled and a NOP have no effect; progress is kept with the command; X.END holds
until every command of the step has committed. -/
def Obligations.ControlAndLinkComplete : Prop :=
  (∀ (s : State) (h : Issue) (o : LkSendOp) (cid : Nat), s.Issues h (range o.src (o.lcnt + 1)) [] cid →
    exec (.lkSend h o) s = .next ((s.atIssue (range o.src (o.lcnt + 1))).sendItem cid (8 * h.die + h.unit) (s.cmd cid).ctag
      o.seq o.cls ((range o.src (o.lcnt + 1)).map s.line))) ∧
  (∀ (s : State) (h : Issue) (o : LkRecvOp) (cid : Nat) (i : Staged), o.long = 0 → o.fwd = 0 →
    s.stagedItem (8 * h.die + h.unit) o.ctag o.seq = some i → i.lines.length = o.lcnt + 1 →
    s.Issues h [] (range o.dst (o.lcnt + 1)) cid →
    ∃ t, exec (.lkRecv h o) s = .next t ∧ s.LinesAre t o.dst i.lines ∧ s.Outside t ∧
      (∀ x ∈ t.data.staging, x.link = i.link ∧ x.ctag = i.ctag ∧ x.seq = i.seq → x.consumer = cid)) ∧
  (∀ (s : State) (h : Issue) (o : LkRecvOp) (cid : Nat) (i : Staged), o.long = 0 → o.fwd = 1 →
    s.stagedItem (8 * h.die + h.unit) o.ctag o.seq = some i → i.lines.length = o.lcnt + 1 →
    s.Issues h [] (range o.dst (o.lcnt + 1)) cid →
    exec (.lkRecv h o) s = .next (((((s.atIssue []).writeLines o.dst i.lines).consume cid i).send (8 * h.die + o.flink)
      (.item i.ctag i.seq i.cls i.lines)).send (8 * h.die + o.flink) (.commit i.ctag))) ∧
  (∀ (s : State) (h : Issue) (o : LkRecvOp) (cid : Nat), o.long = 1 → s.Issues h [] [] cid →
    exec (.lkRecv h o) s = .next ((s.atIssue []).longRecv h o cid)) ∧
  (∀ (s : State) (h : Issue) (o : LkRedOp) (cid : Nat), o.role = 0 → s.Issues h (range o.loc (o.lcnt + 1)) [] cid →
    exec (.lkRed h o) s = .next ((s.atIssue (range o.loc (o.lcnt + 1))).sendItem cid (8 * h.die + o.outl) (s.cmd cid).ctag o.seq 0
      ((range o.loc (o.lcnt + 1)).map s.line))) ∧
  (∀ (s : State) (h : Issue) (o : LkRedOp) (cid : Nat) (i : Staged), o.role = 3 →
    s.stagedItem (8 * h.die + h.unit) o.ctag o.seq = some i → i.lines.length = o.lcnt + 1 →
    s.Issues h [] (range o.dst (o.lcnt + 1)) cid →
    exec (.lkRed h o) s = .next ((((s.atIssue []).consume cid i).writeLines o.dst i.lines).sendItem cid (8 * h.die + o.outl)
      (s.cmd cid).ctag o.seq 0 i.lines)) ∧
  (∀ (s : State) (h : Issue) (o : LkRedOp) (cid : Nat) (i : Staged), o.role = 1 →
    s.stagedItem (8 * h.die + h.unit) o.ctag o.seq = some i → i.lines.length = o.lcnt + 1 →
    s.Issues h (range o.loc (o.lcnt + 1)) [] cid →
    exec (.lkRed h o) s = .next (((s.atIssue (range o.loc (o.lcnt + 1))).consume cid i).sendItem cid (8 * h.die + o.outl)
      (s.cmd cid).ctag o.seq 0 (redLines i.lines ((range o.loc (o.lcnt + 1)).map s.line)))) ∧
  (∀ (s : State) (h : Issue) (o : LkRedOp) (cid : Nat) (i : Staged), o.role = 2 →
    s.stagedItem (8 * h.die + h.unit) o.ctag o.seq = some i → i.lines.length = o.lcnt + 1 →
    s.Issues h (range o.loc (o.lcnt + 1)) (range o.dst (o.lcnt + 1)) cid →
    ∃ t, exec (.lkRed h o) s = .next t ∧
      s.LinesAre t o.dst (redLines i.lines ((range o.loc (o.lcnt + 1)).map s.line)) ∧ s.Outside t) ∧
  (∀ (s : State) (h : Issue) (o : CmdStartOp) (c : Nat × Cmd), h.die < 2 →
    s.data.cmds.find? (fun c => s.placedHere h c.2 && !c.2.committed && !c.2.frogged &&
      !c.2.started.contains h.die && !s.seq.dead.contains c.1) = some c →
    exec (.cmdStart h o) s = .next (s.startCmd h o c.1)) ∧
  (∀ (s : State) (h : Issue) (o : CmdStartOp) (cid : Nat),
    s.grantsOf { s.cmd cid with started := (s.cmd cid).started ++ [h.die], ctag := o.ctag } = 0 →
    let t := s.startCmd h o cid
    Store.get? t.data.slots (slotKey h.die h.cslot) = some ⟨cid, o.first, o.count + 1, 0⟩ ∧
      (∀ a, o.first ≤ a → a < o.first + (o.count + 1) → t.valid a = false ∧ t.line a = 0) ∧
      (∀ a, ¬(o.first ≤ a ∧ a < o.first + (o.count + 1)) → t.line a = s.line a ∧ t.valid a = s.valid a) ∧
      slotKey h.die h.cslot ∉ t.data.squash ∧ s.Outside t) ∧
  (∀ (s : State) (h : Issue) (o : TraceOp), slotKey h.die h.cslot ∉ s.data.squash →
    exec (.traceMark h o) s = .next { s with data := { s.data with
      trace := s.data.trace ++ [⟨o.value, s.row, h.cycle, h.cslot⟩] } }) ∧
  (∀ (s : State) (h : Issue) (o : XBarOp), h.bad = [] → exec (.xBar h o) s = .next s) ∧
  (∀ (s : State) (h : Issue) (o : XProgOp) (cid : Nat), s.Issues h [] [] cid →
    ∃ t, exec (.xProg h o) s = .next t ∧ (t.cmd cid).mark = o.mark ∧
      (t.cmd cid).markRow = s.rowOf (s.cmd cid) - (s.cmd cid).firstRow ∧ s.Outside t ∧ s.LinesKept t) ∧
  (∀ (s : State) (h : Issue), exec (.xNop h) s = .next s) ∧
  (∀ (s : State) (h : Issue) (now : Nat) (st : StepRun), s.seq.step = some st → st.ended = false →
    (∀ c ∈ st.cids, (s.cmd c).committed = true) →
    exec (.xEnd h now) s = .next (((((s.commitStep now).closeSeqs).settleMotifs).releaseDoomed).settlePreempts)) ∧
  (∀ (s : State) (h : Issue) (now : Nat) (st : StepRun) (c : Nat), s.seq.step = some st → c ∈ st.cids →
    (s.cmd c).committed = false → exec (.xEnd h now) s = .next s)

/-! ### Rows, the Builder and the sequencer's registers -/

/-- ROW_START (R22, R58, R65, R70, R81): at a boundary that nothing bars, the running step's next row begins (it becomes the row record,
SEQ_STATUS shows RUNNING, the row number advances by one after the first row); with no step running, the step ready in the first buffer
starts with its first row; while a row runs, or while the sequencer may not run, nothing starts. -/
def Obligations.RowStartCompletes : Prop :=
  (∀ (s : State) (o : RowStartOp) (st : StepRun), s.mod.bindOff = none → s.flag Reg.SEC_STATUS_ZEROISING = false →
    s.sec.resets = [] → s.mayRun = true → s.cap = s.reg Reg.PWR_LEVEL_IN_FORCE → s.serve.round.forced = false →
    s.seq.step = some st → st.ended = false → s.seq.replay = none →
    let r := s.rowRecord st.template st.row
    r.upstream = 0 → r.downstream &&& s.seq.resync = 0 →
    ∃ t, exec (.rowStart o) s = .next t ∧ t.seq.active = true ∧ t.seq.record = r ∧ t.seq.step = some st ∧
      t.seq.kind = (if r.ramp then .ramp else .serve) ∧ t.reg Reg.SEQ_STATUS_STATE = 1 ∧
      t.row = (if s.seq.rowsRun = 0 then s.row else (s.row + 1) % 2 ^ 64) ∧ t.tier = s.tier ∧ t.pending = s.pending) ∧
  (∀ (s : State) (o : RowStartOp) (k : Nat) (rest : List Nat) (tp : Template), s.mod.bindOff = none →
    s.flag Reg.SEC_STATUS_ZEROISING = false → s.sec.resets = [] → s.mayRun = true → s.flag Reg.SEQ_CTRL_RUN = true →
    s.cap = s.reg Reg.PWR_LEVEL_IN_FORCE → s.serve.round.forced = false → s.seq.step = none → s.seq.window = none →
    s.forcedCmd = none → (∀ w ∈ s.seq.windows, w.step ≠ s.stepNo) → s.readyBuffers = k :: rest →
    s.templateOf (s.rosterMem k) = some tp → s.disallowed (s.rosterMem k) tp = false → s.rosterOk k (s.rosterMem k) tp = true →
    s.seq.rampsLeft = 1 → (s.rowRecord tp.id 0).upstream = 0 → (s.rowRecord tp.id 0).downstream &&& s.seq.resync = 0 →
    exec (.rowStart o) s = .next ((s.startStep k (s.rosterMem k) tp).beginRow .serve (s.rowRecord tp.id 0))) ∧
  (∀ (s : State) (o : RowStartOp), s.mod.bindOff = none → s.seq.active = true → exec (.rowStart o) s = .next s)

/-- ROW_COMPLETE, ROW_RECORD_FETCH, ACTIVITY_LIMITER_BIN, TICK_OVERRUN and BARRIER_TIMEOUT (R37, R42 to R44, R57, R73, R88): a row that may
end ends; the next row's record is fetched, an uncorrectable error in it raising PATTERN_ERR with cause PM; the limiter's load follows the
scheduled load by at most the slope; an overrun and a barrier that is not met give the fault response of their bits.
R44, R47, R81: the fault response sets the SEQ_FAULT bit and records the row when the register was zero, clears RUN and shows FAULTED,
and starts a flush of the Tink ring. Here on a module with no command in flight, no step running, no graph and no peer to tell. -/
def Obligations.RowEventsComplete : Prop :=
  (∀ (s : State) (o : RowCompleteOp), s.rowComplete = true →
    exec (.rowComplete o) s = .next (s.endRow o).bindAdvance.resetAdvance.zeroAdvance) ∧
  (∀ (s : State) (o : RowCompleteOp), s.seq.active = false → exec (.rowComplete o) s = .next s) ∧
  (∀ (s : State) (o : RowFetchOp), s.seq.active = true → o.ecc = false →
    ∃ t, exec (.rowRecordFetch o) s = .next t ∧ t.seq.fetched = s.seq.step.map (fun st => st.row + 1) ∧ t.regs = s.regs ∧
      t.data = s.data ∧ t.tier = s.tier) ∧
  (∀ (s : State) (o : RowFetchOp), s.seq.active = true → o.ecc = true →
    exec (.rowRecordFetch o) s =
      .next (s.patternErr ⟨0, 0, 0, 0, 0, 0, o.cycle, [], false, false, none, 0⟩ 0 0x0A)) ∧
  (∀ (s : State) (want holds : Nat), s.seq.active = false → s.reg Reg.LNK_FABRIC_ROLE = 0 →
    let slope := s.reg Reg.PWR_RAMP_SLOPE
    let m := max (min want (s.seq.eff + slope)) (s.seq.eff - slope)
    ∃ t, exec (.activityLimiterBin want holds) s = .next t ∧ t.seq.eff = m ∧ t.seq.load = m ∧
      t.reg Reg.PWR_DRAW_SWITCH_W = m % 2 ^ Reg.PWR_DRAW_SWITCH_W.width ∧
      t.reg Reg.MXA_LIMIT_HOLD_HOLDS = (if s.seq.eff + slope < want then
        (s.reg Reg.MXA_LIMIT_HOLD_HOLDS + holds) % 2 ^ 32 else s.reg Reg.MXA_LIMIT_HOLD_HOLDS)) ∧
  (∀ (s : State) (cycle : Nat), s.seq.active = true → exec (.tickOverrun cycle) s = .next (s.faultResponse cycle 0)) ∧
  (∀ (s : State), s.seq.active = false → s.reg Reg.SEQ_STATUS_STATE = 1 →
    exec .barrierTimeout s = .next (s.faultResponse 0 1)) ∧
  (∀ (s : State) (cycle i : Nat), i < 7 → s.data.cmds = [] → s.seq.step = none → s.seq.graphs = [] →
     s.seq.record.downstream = 0 → s.waitsForMirror = false →
     let t := s.faultResponse cycle i
     t.reg (seqFaultFld i) = 1 ∧ t.reg Reg.SEQ_STATUS_STATE = 3 ∧ t.reg Reg.SEQ_CTRL_RUN = 0 ∧
       t.reg Reg.TNK_STATUS_FLUSHING = 1 ∧ t.tink.flushing = true ∧ t.seq.active = false ∧
       (s.seqFault = 0 → t.reg Reg.SEQ_FAULT_ROW_LO_FROW_LO = s.row % 2 ^ 32) ∧
       (s.seqFault ≠ 0 → t.reg Reg.SEQ_FAULT_ROW_LO_FROW_LO = s.reg Reg.SEQ_FAULT_ROW_LO_FROW_LO) ∧ t.data = s.data ∧
       t.tier = s.tier)

/-- ROSTER_BUILD, TOKEN_COPY, SCHED_WINDOW_BOUNDARY, QUOTA_SNAPSHOT and SLOT_STREAM (R64, R237, R345, R369, R375, R378, R389): the Builder's
next roster goes to the buffer that is not locked; tokens of a prefill reach the step token buffer; a window whose rows have run starts
the charges and gap counts again; every context block's snapshot takes the present quota and row; a streamer takes its oldest table.
SEQ_RUN, HALT_STEP, HALT_ROW, SEQ_FAULT_CLEAR, SEQ_ROW_CFG_WRITE, PM_BASE_WRITE, ROSTER_READY_SET and SEQ_SCHED_CFG_WRITE (R47, R48, R65,
R79, R80, R389, R627): RUN takes the value written unless the sequencer is FAULTED; a halt asked for at rest is done at once; ones clear
SEQ_FAULT bits; row settings and Pattern Memory's place change only at rest and in range, else CFG_REJECT is set. -/
def Obligations.SequencerCommandsComplete : Prop :=
  (∀ (s : State) (r : RoundState) (t : Template) (ros : Roster), s.mayBuild = true → s.builderUp = true →
    s.pwr.regauge.isSome = true → s.pwr.gaugeCap = 0 → s.nextRoster = some (r, t, ros) →
    exec .rosterBuild s = .next ({ s with serve := { s.serve with round := r } }.writeRoster
      (if bit (s.reg Reg.SEQ_ROSTER_LOCK_LOCK) (2 * t.model) then 2 * t.model + 1 else 2 * t.model) t ros)) ∧
  (∀ (s : State), s.mayBuild = false ∨ s.builderUp = false → exec .rosterBuild s = .next s) ∧
  (∀ (s : State) (o : TokenCopyOp) (q : SeqRec) (t' : Tensor), Store.get? s.serve.seqs o.seqId = some q →
    s.tensor? q.tokens = some t' → q.phase = .prefill → s.mirrors = false →
    let n := min o.count (q.remain - q.copied)
    ∃ t, exec (.tokenCopy o) s = .next t ∧
      Store.get? t.serve.tokens o.seqId = some ((Store.getD s.serve.tokens o.seqId []).take q.copied ++
        s.int32s t' (q.tokNext + q.copied) n) ∧
      Store.get? t.serve.seqs o.seqId = some { q with copied := q.copied + n } ∧ t.tier = s.tier ∧ t.regs = s.regs) ∧
  (∀ (s : State), s.serve.windowLen ≤ s.serve.windowRows →
    ∃ t, exec .schedWindowBoundary s = .next t ∧ t.serve.windowRows = 0 ∧ t.serve.charges = [] ∧
      t.serve.lastCharges = s.serve.charges ∧ t.serve.windowLen = 256 * (s.reg Reg.SEQ_SCHED_CFG_WINDOW + 1) ∧
      t.seq.gapCounts = [] ∧ t.serve.seqs = s.serve.seqs ∧ t.regs = s.regs ∧ t.tier = s.tier) ∧
  (∀ (s : State), ∃ t, exec .quotaSnapshot s = .next t ∧
    (∀ fn c, Store.get? s.tier.ctx fn = some c →
      Store.get? t.tier.ctx fn = some { c with snapshot := s.quota fn, snapRow := s.row }) ∧
    t.regs = s.regs ∧ t.tier.tt = s.tier.tt ∧ t.tier.near = s.tier.near ∧ t.serve = s.serve) ∧
  (∀ (s : State) (o : StreamOp) (r : StreamReq), o.direct = none →
    s.data.streams.find? (fun r => r.die == o.die) = some r →
    exec (.slotStream o) s = .next ({ s with data := { s.data with streams := s.data.streams.erase r } }.streamTable r)) ∧
  (∀ (s : State) (o : StreamOp) (cslot table : Nat), o.direct = some (cslot, table) →
    exec (.slotStream o) s = .next (s.streamTable ⟨o.die, cslot, table⟩)) ∧
  (∀ (s : State) (run : Bool), s.reg Reg.SEQ_STATUS_STATE ≠ 3 → s.reg Reg.SEQ_STATUS_STATE ≠ 1 →
    ∃ t, exec (.seqRun run) s = .next t ∧ t.reg Reg.SEQ_CTRL_RUN = b2n run ∧
      (∀ f : Fld, f.off * 32 + f.lo ≠ Reg.SEQ_CTRL_RUN.off * 32 + Reg.SEQ_CTRL_RUN.lo → t.reg f = s.reg f) ∧
      t.seq = s.seq ∧ t.data = s.data ∧ t.tier = s.tier) ∧
  (∀ (s : State) (run : Bool), s.reg Reg.SEQ_STATUS_STATE = 3 → exec (.seqRun run) s = .next s) ∧
  (∀ (s : State), s.reg Reg.SEQ_STATUS_STATE = 0 ∨ s.reg Reg.SEQ_STATUS_STATE = 2 →
    (∃ t, exec .haltStep s = .next t ∧ t.reg Reg.SEQ_CTRL_HALT_DONE = 1 ∧ t.reg Reg.SEQ_STATUS_STATE = 2 ∧
      t.reg Reg.SEQ_CTRL_RUN = 0 ∧ t.seq = s.seq) ∧
    (∃ t, exec .haltRow s = .next t ∧ t.reg Reg.SEQ_CTRL_HALT_DONE = 1 ∧ t.reg Reg.SEQ_STATUS_STATE = 2 ∧
      t.reg Reg.SEQ_CTRL_RUN = 0 ∧ t.seq = s.seq)) ∧
  (∀ (s : State), s.reg Reg.SEQ_STATUS_STATE = 1 → s.seq.active = true →
    exec .haltStep s = .next (s.set Reg.SEQ_CTRL_HALT_STEP 1) ∧ exec .haltRow s = .next (s.set Reg.SEQ_CTRL_HALT_ROW 1)) ∧
  (∀ (s : State) (mask : Nat), mask < 2 ^ 32 → ∃ t, exec (.seqFaultClear mask) s = .next t ∧
    (∀ i, i < 7 → bit mask i = true → t.reg (seqFaultFld i) = 0) ∧
    (∀ i, i < 7 → bit mask i = false → t.reg (seqFaultFld i) = s.reg (seqFaultFld i)) ∧
    (bit mask 4 = true → t.reg Reg.SEQ_IFAULT_INFO_CAUSE = 0 ∧ t.reg Reg.SEQ_IFAULT_OP_OPCODE = 0) ∧
    t.data = s.data ∧ t.seq = s.seq ∧ t.tier = s.tier) ∧
  (∀ (s : State) (v : Nat), s.seqAtRest = true → rowCfgOk v = true → exec (.seqRowCfgWrite v) s = .next (s.setRowCfg v)) ∧
  (∀ (s : State) (v : Nat), (s.setRowCfg v).reg Reg.SEQ_ROW_CFG_ROW_LEN = bits v 0 5 ∧
    (s.setRowCfg v).reg Reg.SEQ_ROW_CFG_SELVAGE = bits v 8 4 ∧ (s.setRowCfg v).reg Reg.SEQ_ROW_CFG_MARGIN = bits v 16 8) ∧
  (∀ (s : State) (v : Nat), s.seqAtRest = false ∨ rowCfgOk v = false →
    exec (.seqRowCfgWrite v) s = .next s.seqReject ∧ s.seqReject.reg Reg.SEQ_FAULT_CFG_REJECT = 1) ∧
  (∀ (s : State) (off v : Nat), off = 0x100038 ∨ off = 0x10003C ∨ off = 0x100040 → s.seqAtRest = true →
    let t := (Reg.fieldsAt off).foldl (fun s f => s.set f (bits v f.lo f.width)) s
    t.pmPlaced = true → exec (.pmBaseWrite off v) s = .next t.showSpace) ∧
  (∀ (s : State) (k : Nat), k < 16 → bit (s.reg Reg.SEQ_ROSTER_LOCK_LOCK) k = false →
    exec (.rosterReadySet (2 ^ k)) s = .next (s.markReady k) ∧
      (s.markReady k).reg Reg.SEQ_ROSTER_READY_READY = (s.reg Reg.SEQ_ROSTER_READY_READY ||| 2 ^ k) % 2 ^ 16 ∧
      Store.get? (s.markReady k).serve.ready k = some (s.rosterMem k)) ∧
  (∀ (s : State) (v : Nat), ∃ t, exec (.seqSchedCfgWrite v) s = .next t ∧ t.reg Reg.SEQ_SCHED_CFG_WINDOW = bits v 0 8 ∧
    t.serve = s.serve ∧ t.data = s.data ∧ t.tier = s.tier)

/-! ### Submission and completion queues -/

/-- SQ_TAIL_DOORBELL and CQ_HEAD_DOORBELL (R502, R508): a legal 32-bit write moves the tail (a wake event, R567) or frees entries; any
other write leaves the pointer and sets the queue's doorbell error. CQ_COALESCE_TIMER (R509): counted entries raise vector 0.
SQ_FETCH, COMMAND, SEQ_OPEN, SEQ_APPEND and SEQ_CLOSE (R503 to R505, R121, R366 to R371): an entry that may be fetched joins the
admission queue; the oldest one is admitted when none of its checks refuses it. An admitted command is kept until it commits; an admitted
sequence entry is done and answered. -/
def Obligations.QueueCommandsComplete : Prop :=
  (∀ (s : State) (fn n v : Nat), n < 8 → s.getF fn (sqReg Reg.HQ_SQ0_CFG_EN n) = 1 →
    let size := s.getF fn (sqReg Reg.HQ_SQ0_CFG_SIZE n) + 1
    let head := s.getF fn (sqReg Reg.HQ_SQ0_HEAD_HEAD n)
    let tail := s.getF fn (sqReg Reg.HQ_SQ0_TAIL_TAIL n)
    v < size → (v + size - tail % size) % size < size - (tail + size - head % size) % size →
    exec (.sqTailDoorbell fn n v true) s = .next ((s.setF fn (sqReg Reg.HQ_SQ0_TAIL_TAIL n) v).wakeBy fn false)) ∧
  (∀ (s : State) (fn n v : Nat), exec (.sqTailDoorbell fn n v false) s = .next (s.fnErr fn Reg.GLB_FN_ERR_SQ_DOORBELL)) ∧
  (∀ (s : State) (fn n v : Nat) (word : Bool), s.getF fn (sqReg Reg.HQ_SQ0_CFG_EN n) = 0 →
    exec (.sqTailDoorbell fn n v word) s = .next (s.fnErr fn Reg.GLB_FN_ERR_SQ_DOORBELL)) ∧
  (∀ (s : State) (fn v : Nat), v < s.cqSize fn →
    (v + s.cqSize fn - s.getF fn Reg.HQ_CQ_HEAD_HEAD % s.cqSize fn) % s.cqSize fn ≤ s.cqUsed fn → s.notesOf fn = [] →
    ∃ t, exec (.cqHeadDoorbell fn v true) s = .next t ∧
      t.getF fn Reg.HQ_CQ_HEAD_HEAD = v % 2 ^ Reg.HQ_CQ_HEAD_HEAD.width ∧ t.out = s.out ∧ t.host = s.host) ∧
  (∀ (s : State) (fn v : Nat), s.cqUsed fn < (v + s.cqSize fn - s.getF fn Reg.HQ_CQ_HEAD_HEAD % s.cqSize fn) % s.cqSize fn →
    exec (.cqHeadDoorbell fn v true) s = .next (s.fnErr fn Reg.GLB_FN_ERR_CQ_DOORBELL)) ∧
  (∀ (s : State) (fn : Nat), Store.getD s.host.coalesced fn 0 ≠ 0 → s.getF fn Reg.HQ_CQ_COALESCE_TIME_US ≠ 0 →
    ∃ t, exec (.cqCoalesceTimer fn) s = .next t ∧ t.out.msix = s.out.msix ++ [(fn, 0)] ∧
      Store.get? t.host.coalesced fn = none ∧ t.regs = s.regs ∧ t.tier = s.tier) ∧
  (∀ (s : State) (o : SqFetchOp), s.mayFetch o.fn o.queue = true → o.failed = false → s.reg Reg.GLB_STATUS_READY ≠ 0 →
    let k := o.fn * 8 + o.queue
    let i := Store.getD s.host.fetchAt k 0
    let f : Fetched := ⟨o.fn, o.queue, i, SqEntry.ofBytes o.bytes o.desc o.swatches⟩
    i ∉ Store.getD s.host.doneIdx k [] → 1 ≤ f.entry.opc → f.entry.opc ≤ 4 →
    ∃ t, exec (.sqFetch o) s = .next t ∧ t.host.fetched = s.host.fetched ++ [f] ∧
      Store.get? t.host.fetchAt k = some ((i + 1) % (s.getF o.fn (sqReg Reg.HQ_SQ0_CFG_SIZE o.queue) + 1)) ∧
      t.reg Reg.HQ_FETCHED_COUNT = (s.reg Reg.HQ_FETCHED_COUNT + 1) % 2 ^ 32 ∧ t.out = s.out ∧ t.data = s.data) ∧
  (∀ (s : State) (o : QueueOp) (f : Fetched), s.front o 1 = some f → f.entry.rsvd = 0 → (s.take f).twinBars f.fn = none →
    (s.take f).descRefusal f.fn f.entry.desc ((s.take f).modelOf f.entry.desc) = none →
    let a := (s.take f).claimCode f.entry.desc
    ∃ t, exec (.command o) s = .next t ∧ t.data.nextCid = a.data.nextCid + 1 ∧
      Store.get? t.data.cmds a.data.nextCid =
        some { Cmd.place f.entry.desc 0 [] 0 1 with queue := f.queue, sqIndex := f.index } ∧ t.host = a.host ∧ t.out = a.out) ∧
  (∀ (s : State) (o : QueueOp) (f : Fetched), s.front o 2 = some f → f.entry.rsvd = 0 → f.entry.swCount ≤ 8 →
    1 ≤ f.entry.tokCount → f.entry.tokCount ≤ 4194304 → 1 ≤ f.entry.maxNew → f.entry.maxNew ≤ 4194304 →
    let a := s.take f
    a.twinBars f.fn = none → a.seqRefusal (a.newSeq f) = none →
    exec (.seqOpen o) s = .next (((a.openSeq a.freshSeq (a.newSeq f)).sqDone f.fn f.queue f.index).post f.fn .seq .ok f.queue true
      (seqBody f.entry.tag a.freshSeq 0 0 0 []))) ∧
  (∀ (s : State) (id : Nat) (q : SeqRec), q.swatches = [] →
    Store.get? (s.openSeq id q).serve.seqs id = some q ∧
      ∀ j, j ≠ id → Store.get? (s.openSeq id q).serve.seqs j = Store.get? s.serve.seqs j) ∧
  (∀ (s : State) (o : QueueOp) (f : Fetched) (q : SeqRec), s.front o 3 = some f → f.entry.rsvd = 0 →
    1 ≤ f.entry.tokCount → f.entry.tokCount ≤ 4194304 → 1 ≤ f.entry.maxNew → f.entry.maxNew ≤ 4194304 →
    f.entry.tokens.malformed = false → (s.take f).twinBars f.fn = none → (s.take f).namedSeq f = .ok q →
    (s.take f).appendRefusal q f = none →
    let e := f.entry
    let q' : SeqRec :=
      { q with tokens := e.tokens, tokNext := e.tokFirst, remain := e.tokCount, copied := 0, maxNew := e.maxNew, sampled := 0, phase := .prefill }
    let sv : ServeState :=
      { s.serve with seqs := Store.put s.serve.seqs e.seqId q', tokens := Store.erase s.serve.tokens e.seqId }
    let a : State := { s.take f with serve := sv }
    exec (.seqAppend o) s = .next ((a.sqDone f.fn f.queue f.index).post f.fn .seq .ok f.queue true
      (seqBody f.entry.tag f.entry.seqId 1 0 q.sampled []))) ∧
  (∀ (s : State) (o : QueueOp) (f : Fetched) (q : SeqRec), s.front o 4 = some f → f.entry.rsvd = 0 →
    (s.take f).twinBars f.fn = none → (s.take f).namedSeq f = .ok q →
    let sv : ServeState := { s.serve with seqs := Store.put s.serve.seqs f.entry.seqId { q with closing := true } }
    let a : State := { s.take f with serve := sv }
    exec (.seqClose o) s = .next ((a.sqDone f.fn f.queue f.index).post f.fn .seq .ok f.queue true
      (seqBody f.entry.tag f.entry.seqId 2 0 q.sampled [])).closeSeqs)

/-- R506, R507: a completion entry is written at the tail of an enabled queue whose function is not stopped, with the queue's phase; the
tail moves on by one, and at the last entry it returns to 0 and the phase turns.
R511, R512, R514: a page reply to a request that is not ASYNC puts the reply with the request's type and sequence into the page, ends
BUSY, sets DONE, raises vector 1, counts the message as handled (a refused one also as refused), and changes nothing else. -/
def Obligations.RepliesPosted : Prop :=
  (∀ (s : State) (fn : Nat) (st : Status) (body : List Byte), s.getF fn Reg.HQ_CQ_CFG_EN = 1 →
     s.getF fn Reg.SEC_DPL_CTL_STOP = 0 → s.getF fn Reg.SEC_DPL_CTL_EN = 0 →
     let tail := s.getF fn Reg.HQ_CQ_TAIL_TAIL
     let phase := s.getF fn Reg.HQ_CQ_TAIL_PHASE
     tail < 65536 → phase < 2 →
     let t := s.post fn .reply st 0 false body
     t.out.completions = s.out.completions ++ [⟨fn, tail, .reply, phase, st, 0, 0, (body ++ List.replicate 56 0).take 56⟩] ∧
       t.getF fn Reg.HQ_CQ_TAIL_TAIL = (if s.cqSize fn ≤ tail + 1 then 0 else (tail + 1) % 65536) ∧
       t.getF fn Reg.HQ_CQ_TAIL_PHASE = (if s.cqSize fn ≤ tail + 1 then 1 - phase else phase) ∧
       t.tier = s.tier ∧ t.data = s.data ∧ t.serve = s.serve) ∧
  (∀ (s : State) (h : Mail) (type : Nat) (st : Status) (p : List Byte),
     let t := s.pageReply (h.ticket type) st false p
     t.out.replies = s.out.replies ++ [⟨h.fn, type, h.seq, min h.minor 1, st, false, false, p⟩] ∧
       t.out.msix = s.out.msix ++ [(h.fn, 1)] ∧ t.getF h.fn Reg.MBX_STATUS_BUSY = 0 ∧ t.getF h.fn Reg.MBX_STATUS_DONE = 1 ∧
       t.reg Reg.MBX_HANDLED_COUNT = (s.reg Reg.MBX_HANDLED_COUNT + 1) % 2 ^ 32 ∧
       t.reg Reg.MBX_REFUSED_COUNT = (if st = .ok then s.reg Reg.MBX_REFUSED_COUNT else (s.reg Reg.MBX_REFUSED_COUNT + 1) % 2 ^ 32) ∧
       t.data = s.data ∧ t.seq = s.seq ∧ t.tier = s.tier ∧ t.serve = s.serve ∧ t.sec = s.sec ∧ t.fab = s.fab ∧ t.twin = s.twin ∧
       t.pwr = s.pwr ∧ t.fw = s.fw ∧ t.mod = s.mod ∧ t.host = s.host ∧ t.tink = s.tink ∧ t.fresh = s.fresh ∧ t.pending = s.pending)

/-! ### The mailbox -/

/-- R121, R511, R513, R516, R517: the checks that come before a message's own rules, in their order, for every message: BUSY sets
MBX_DOORBELL; a wrong major version or a minor version too low is BAD_VERSION; a payload too short, a status, a reserved flag or a bad
precondition BAD_ARG; a sender that may not send it DENIED; a precondition that does not hold STATE_CONFLICT with its report; a 17th
ASYNC request BUSY_RETRY. A request that only the credit bars waits (assumption 9).
R517: an ASYNC request that meets nothing that answers it before its own rules, and whose own rules are done, gets its page reply at
admission with PENDING, and then its final reply as a REPLY entry. -/
def Obligations.MailAnswered : Prop :=
  (∀ (s : State) (h : Mail) (m : MailSpec),
     let t : Ticket := ⟨h.fn, m.type, h.seq, replyMinor h, bit h.flags 1⟩
     (s.getF h.fn Reg.MBX_STATUS_BUSY = 1 → s.mail h m = s.fnErr h.fn Reg.GLB_FN_ERR_MBX_DOORBELL) ∧
     (s.getF h.fn Reg.MBX_STATUS_BUSY ≠ 1 → s.mailGate h.fn m.type = .open' →
       (h.major ≠ 3 ∨ h.minor < m.minMinor → s.mail h m = s.pageReply t .badVersion false []) ∧
       (h.major = 3 → m.minMinor ≤ h.minor → h.payload.length < m.size →
         s.mail h m = s.pageReply t .badArg false []) ∧
       (h.major = 3 → m.minMinor ≤ h.minor → m.size = h.payload.length → h.status = 0 → h.flags = 0 →
         (h.precond m.type).wf = true → m.args s = true →
         (m.sender s = false → s.mail h m = s.pageReply t .denied false []) ∧
         (m.sender s = true → ∀ c, s.preConflict (h.precond m.type) = some c →
           s.mail h m = s.pageReply t .stateConflict false c.bytes))) ∧
     (∀ st p, s.getF h.fn Reg.MBX_STATUS_BUSY ≠ 1 → s.mailGate h.fn m.type = .refuse st p →
       s.mail h m = s.pageReply t st false p)) ∧
  (∀ (s s' : State) (h : Mail) (m : MailSpec) (p : List Byte), s.getF h.fn Reg.MBX_STATUS_BUSY ≠ 1 →
     s.mailGate h.fn m.type = .open' → h.major = 3 → m.minMinor ≤ h.minor → h.payload.length = m.size → h.status = 0 →
     h.flags = 2 → m.longReply = false → (h.precond m.type).wf = true → m.args s = true → m.sender s = true →
     s.preConflict (h.precond m.type) = none → s.getF h.fn Reg.MBX_STATUS_ASYNC_OUT < 16 → 16 < s.credit h.fn →
     let t : Ticket := ⟨h.fn, m.type, h.seq, min h.minor 1, true⟩
     m.body t s = .done s' p →
     let a := (s'.setF h.fn Reg.MBX_STATUS_ASYNC_OUT (s'.getF h.fn Reg.MBX_STATUS_ASYNC_OUT + 1)).pageReply t .ok true []
     s.mail h m = ({ a with host := { a.host with tickets := a.host.tickets ++ [t] } } : State).reply t .ok p)

/-- TENSOR_ALLOC, TENSOR_FREE, TENSOR_QUERY, TENSOR_PLACE, HOST_REGISTER and HOST_UNREGISTER (R322 to R336, R346, R349, R363): taken in
their states, they allot and enter a tensor, release a pair, answer an entry, start a relocation, and enter or release a HOST tensor. -/
def Obligations.TensorMessagesComplete : Prop :=
  (∀ (s s1 : State) (h : Mail) (a : AllocAsk) (x : Tensor), s.Taken h 0x0201 0 40 → h.handleOk 32 = true →
    allocAsk h = some a → a.good s = true → (a.sealed' = true → h.fn = 0) → h.handle 32 = Handle.none →
    s.allot h.fn a = .ok (x, s1) →
    exec (.tensorAlloc h) s = .next (s1.showSpace.replied h 0x0201 (leBytes x.handle.toNat 8))) ∧
  (∀ (s s1 : State) (fn : Nat) (a : AllocAsk) (x : Tensor), s.allot fn a = .ok (x, s1) →
    x.fn = fn ∧ x.kind = a.kind ∧ x.size = a.size ∧ x.format = a.format ∧ x.readOnly = a.readOnly ∧
      x.tier = (if a.deep then .deep else .near) ∧ (x.fn, x.gen, x.idx) = (fn, (s.freshIndex fn).2, (s.freshIndex fn).1)) ∧
  (∀ (s : State) (h : Mail) (x : Tensor), s.Taken h 0x0202 0 16 → h.handleOk 8 = true → h.handle 8 ≠ Handle.none →
    (h.handle 8).fn = h.fn → s.tensor? (h.handle 8) = some x → s.freeConflict x = none → x.tier ≠ .host →
    exec (.tensorFree h) s = .next ((s.dropPair x).replied h 0x0202 [])) ∧
  (∀ (s : State) (h : Mail) (x : Tensor), s.Taken h 0x0203 0 16 → h.handleOk 8 = true → h.handle 8 ≠ Handle.none →
    (h.handle 8).fn = h.fn ∨ h.fn = 0 → s.tensor? (h.handle 8) = some x →
    exec (.tensorQuery h) s = .next (s.replied h 0x0203 (x.bytes ++ leBytes x.handle.toNat 8))) ∧
  (∀ (s s1 : State) (h : Mail), s.Taken h 0x0204 0 18 → h.handleOk 8 = true → h.handle 8 ≠ Handle.none → h.u 16 2 ≤ 3 →
    (h.handle 8).fn = h.fn →
    let d : MoveDesc := { MoveDesc.empty with src := h.handle 8, relocate := true, dstTier := Tier.ofCode (h.u 16 2) }
    s.moveRefusal h.fn false d = none → s.startMove h.fn (.place (h.ticket 0x0204)) d Handle.none 0 = .ok s1 →
    s1.tier.ended = [] → exec (.tensorPlace h) s = .next (s1.waiting h 0x0204)) ∧
  (∀ (s : State) (h : Mail), s.Taken h 0x0205 0 22 → h.u 16 4 ≠ 0 → (Fmt.ofCode (h.u 20 2)).isSome = true →
    s.tableFull h.fn 1 = none → s.tier.hostRegs = [] →
    let x := { s.blankTensor h.fn .data (h.u 20 2) (ceilDiv (h.u 16 4) 256) with tier := .host, loc := 0, keyIndex := 0 }
    let a : State := { s with tier := { s.tier with hostRegs := [(0, h.fn, h.u 8 8, h.u 16 4)] } }
    exec (.hostRegister h) s = .next ((a.enter x).replied h 0x0205 (leBytes x.handle.toNat 8))) ∧
  (∀ (s : State) (h : Mail) (x : Tensor), s.Taken h 0x0206 0 16 → h.handleOk 8 = true → h.handle 8 ≠ Handle.none →
    (h.handle 8).fn = h.fn → s.tensor? (h.handle 8) = some x → x.tier = .host → x.moving = false →
    (∀ v ∈ s.tier.moves, v.desc.src ≠ h.handle 8 ∧ v.desc.dst ≠ h.handle 8) → s.named x.key = false →
    let a : State := { s with tier := { s.tier with hostRegs := Store.erase s.tier.hostRegs x.loc } }
    exec (.hostUnregister h) s = .next ((a.dropPair x).replied h 0x0206 []))

/-- QUOTA_SET, QUOTA_QUERY, TENANT_PARK, TENANT_RESTORE and WRITEBACK (R340, R345, R346, R361, R362): taken in their states, they set a
function's limits, answer its snapshot, start to park a pre-empted function and to restore a parked one, and start write-back. -/
def Obligations.TenantMessagesComplete : Prop :=
  (∀ (s : State) (h : Mail), s.Taken h 0x0207 0 34 → h.fn = 0 → h.u 8 2 ≤ 1024 → h.u 10 2 = 0 → h.u 16 4 ≤ h.u 12 4 →
    s.enabled (h.u 8 2) = true →
    ((s.tier.quotas.filter (fun q => q.1 != h.u 8 2)).map (fun q => q.2.nearReserve)).foldl (· + ·) 0 + 256 * h.u 16 4 ≤
      s.reg Reg.MOV_NEAR_AVAIL_MIB * 256 →
    let q : Quota := { s.quota (h.u 8 2) with nearLimit := 256 * h.u 12 4, nearReserve := 256 * h.u 16 4, deepLimit := 256 * h.u 20 4, borrowLimit := 256 * h.u 24 4, tensorLimit := h.u 28 4, motifLimit := h.u 32 2 }
    exec (.quotaSet h) s = .next ((s.setQuota (h.u 8 2) q).replied h 0x0207 []) ∧ (s.setQuota (h.u 8 2) q).quota (h.u 8 2) = q ∧
      ∀ fn, fn ≠ h.u 8 2 → (s.setQuota (h.u 8 2) q).quota fn = s.quota fn) ∧
  (∀ (s : State) (h : Mail) (c : CtxBlock), s.Taken h 0x0208 0 10 → h.u 8 2 ≤ 1024 → h.u 8 2 = h.fn ∨ h.fn = 0 →
    Store.get? s.tier.ctx (h.u 8 2) = some c →
    exec (.quotaQuery h) s = .next (s.replied h 0x0208 (c.snapshot.bytes c.snapRow))) ∧
  (∀ (s : State) (h : Mail), s.Taken h 0x0209 0 10 → h.fn = 0 → h.u 8 2 ≤ 1024 →
    s.getF (h.u 8 2) Reg.GLB_FN_STATE_STATE = 2 → (∀ p ∈ s.tier.parks, p.1 ≠ h.u 8 2) →
    let keys := (s.tier.tt.filter (fun c => c.2.fn == h.u 8 2)).map (·.1)
    let a := (keys.foldl State.drainMotif s).mirrorCtx (h.u 8 2)
    let a := keys.foldl (fun (s : State) k => s.mapTensor k (fun t =>
      if t.tier = .near ∧ t.kind ≠ .context then { t with parked := true } else t)) a
    let a : State := { a with tier := { a.tier with parks := a.tier.parks ++ [(h.u 8 2, h.ticket 0x0209)] } }
    exec (.tenantPark h) s = .next (a.waiting h 0x0209).settleMotifs.settle) ∧
  (∀ (s : State) (h : Mail), s.Taken h 0x020A 0 10 → h.u 8 2 ≤ 1024 → h.fn = 0 ∨ h.u 8 2 = h.fn → s.enabled (h.u 8 2) = true →
    (∀ p ∈ s.tier.parks, p.1 ≠ h.u 8 2) → (∀ p ∈ s.tier.restores, p.1 ≠ h.u 8 2) →
    (∀ c ∈ s.tier.tt, c.2.fn = h.u 8 2 → c.2.parked = false) →
    exec (.tenantRestore h) s = .next (s.replied h 0x020A [])) ∧
  (∀ (s s1 : State) (h : Mail), s.Taken h 0x020A 0 10 → h.u 8 2 ≤ 1024 → h.fn = 0 ∨ h.u 8 2 = h.fn → s.enabled (h.u 8 2) = true →
    (∀ p ∈ s.tier.parks, p.1 ≠ h.u 8 2) → (∀ p ∈ s.tier.restores, p.1 ≠ h.u 8 2) →
    let away := (s.tier.tt.map (·.2)).filter (fun x => x.fn == h.u 8 2 && x.parked && x.kind != .scale)
    away ≠ [] → (∀ x ∈ away, x.tier = .deep ∧ s.deepKey x.fn x.keyIndex = true) → s.restoreAll (h.u 8 2) away = .ok s1 →
    let a : State := { s1 with tier := { s1.tier with restores := s1.tier.restores ++ [(h.u 8 2, h.ticket 0x020A)] } }
    exec (.tenantRestore h) s = .next (a.waiting h 0x020A)) ∧
  (∀ (s : State) (h : Mail), s.Taken h 0x020D 0 10 → h.u 8 2 ≤ 1024 → h.fn = 0 ∨ h.u 8 2 = h.fn → s.enabled (h.u 8 2) = true →
    exec (.writeback h) s = .next (((s.dirtyOf (fun t => t.fn == h.u 8 2)).foldl State.writeBack s).replied h 0x020D []))

/-- HANK_LEND, HANK_RECALL, HANK_RECALL_DEADLINE and HANK_DIR (R355, R357, R405): a hank is lent on an idle link while LEND_MAX allows
it; one that a neighbour offers joins the borrowed hanks; a recall tells the borrower; at the deadline the lender takes the hank back and
the borrower finds its tensors at home; a directory entry is written or cleared in the lent hank. -/
def Obligations.HanksComplete : Prop :=
  (∀ (s : State) (h : Mail) (loc : Nat), s.Taken h 0x020B 0 16 → h.u 8 2 < 16 → h.u 10 2 = 0 → h.u 12 4 = 1 → h.fn = 0 →
    s.getF (linkFn (h.u 8 2)) Reg.LNK_STATE_STATE = 3 → (∀ t ∈ s.seq.templates, t.sendsOn (h.u 8 2) = false) →
    s.tier.lent.length + 1 ≤ s.reg Reg.MOV_LEND_CFG_LEND_MAX → s.nearFit 0 0x10 (2 ^ 18) = some loc → s.tier.lent = [] →
    let a := s.assignFrames 0 0x10 loc (2 ^ 22)
    let a : State := { a with tier := { a.tier with lent := [(0, ⟨h.u 8 2, loc, [], none⟩)] } }
    exec (.hankLend (.message h)) s = .next (a.showSpace.replied h 0x020B [])) ∧
  (∀ (s : State) (l k d : Nat), l < 16 → k < 512 → s.linkUp l = true → s.tier.borrowed.length < 512 →
    Store.get? s.tier.borrowed (512 * l + k) = none →
    ∃ t, exec (.hankLend (.peer l k d)) s = .next t ∧ Store.get? t.tier.borrowed (512 * l + k) = some ⟨l, k, [], none⟩ ∧
      t.tier.near = s.tier.near ∧ t.tier.tt = s.tier.tt) ∧
  (∀ (s : State) (h : Mail) (x : LentHank), s.Taken h 0x020C 0 20 → h.u 8 4 = 1 → h.fn = 0 → h.u 16 4 = 1000 →
    Store.get? s.tier.lent (h.u 12 2) = some x →
    let a : State := { s with tier := { s.tier with lent := Store.put s.tier.lent (h.u 12 2) { x with recallAt := some 1000 } } }
    exec (.hankRecall (.message h)) s = .next ((a.send x.link (.hankRecall (h.u 12 2) 1000)).replied h 0x020C [])) ∧
  (∀ (s : State) (l k d : Nat), exec (.hankRecall (.peer l k d)) s = .next (s.hankRecalled l k d)) ∧
  (∀ (s : State) (l k d : Nat) (x : BorrowedHank), Store.get? s.tier.borrowed (512 * l + k) = some x →
    (∀ t ∈ s.tier.tt, t.2.tier ≠ .borrowed) →
    Store.get? (s.hankRecalled l k d).tier.borrowed (512 * l + k) = some { x with recallAt := some d } ∧
      (s.hankRecalled l k d).reg Reg.MOV_INT_RECALLED = 1) ∧
  (∀ (s : State) (k : Nat) (x : LentHank), Store.get? s.tier.lent k = some x → x.recallAt.isSome = true →
    exec (.hankRecallDeadline none k) s = .next (s.takeBack k)) ∧
  (∀ (s : State) (l k : Nat) (x : BorrowedHank), Store.get? s.tier.borrowed (512 * l + k) = some x → x.recallAt.isSome = true →
    exec (.hankRecallDeadline (some l) k) s = .next (s.loseHanks (fun a b => a == l && b == k)))

/-- WRITEBACK_START, MOVE_GRANULE_DONE, HOST_READ_COMPLETION, ZERO_FILL_DONE, FLASH_WEAR_OP and FLASH_CHANNEL_FAIL (R109, R338, R340, R349,
R353, R354, R365, R459, R488): the tensor dirty longest starts its write-back; the move served next gains its granule; a host read lands,
or is discarded where it is squashed; a zeroed frame is FREE and reads zero; the wear counters advance, and with no spare block left the
deep tier becomes read-only. -/
def Obligations.TierEventsComplete : Prop :=
  (∀ (s : State) (o : WritebackOp) (x : Tensor) (rest : List Tensor), s.flag Reg.MOV_CTRL_WB_EN = true → o.delayed = true →
    s.dirtyOf (fun _ => true) = x :: rest → exec (.writebackStart o) s = .next (s.writeBack x)) ∧
  (∀ (s : State) (o : MoveGranuleOp) (m : Move), s.nextServed = some m →
    exec (.moveGranuleDone o) s =
      .next ({ s with tier := { s.tier with served := m.fn } }.landGranule m o.lines o.fail).settle.bindAdvance) ∧
  (∀ (s : State) (o : HostReadOp), o.move ∈ s.host.squashReads →
    ∃ t, exec (.hostReadCompletion o) s = .next t ∧ t.host.squashReads = s.host.squashReads.erase o.move ∧ t.tier = s.tier ∧
      t.regs = s.regs) ∧
  (∀ (s : State) (o : HostReadOp) (m : Move), o.move ∉ s.host.squashReads → s.flag Reg.MOV_CTRL_PAUSE = false →
    s.tier.moves.find? (fun m => m.id == o.move && m.running && !m.stopped && m.segs.any (fun g => g.srcTier == .host)) = some m →
    exec (.hostReadCompletion o) s = .next ({ s with tier := { s.tier with served := m.fn } }.landGranule m o.lines
      (if o.failed then 2 else 0)).settle) ∧
  (∀ (s : State) (f : Nat) (r : Region), Store.get? s.tier.regions f = some r → r.state = 2 → r.hold = false →
    s.tier.zeroPend = [(256 * f, 256, r.owner)] → s.tier.parks = [] → s.tier.ended = [] →
    ∃ t, exec (.zeroFillDone f) s = .next t ∧ Store.get? t.tier.regions f = none ∧ t.tier.zeroPend = [] ∧
      (∀ a, 65536 * f ≤ a → a < 65536 * f + 65536 → Memory.read t.tier.near a = 0) ∧
      (∀ a, ¬(65536 * f ≤ a ∧ a < 65536 * f + 65536) → Memory.read t.tier.near a = Memory.read s.tier.near a)) ∧
  (∀ (s : State) (o : WearOp), o.kind = 0 → o.spareLeft ≠ 0 →
    ∃ t, exec (.flashWearOp o) s = .next t ∧ t.reg Reg.FTL_GC_BLOCKS_BLOCKS = (s.reg Reg.FTL_GC_BLOCKS_BLOCKS + 1) % 2 ^ 32 ∧
      t.reg Reg.FTL_LIFE_SPARE_LEFT = min 100 o.spareLeft ∧
      t.reg Reg.FTL_PARITY_FIX_COUNT = (s.reg Reg.FTL_PARITY_FIX_COUNT + o.parityFixes) % 2 ^ 32 ∧ t.tier = s.tier) ∧
  (∀ (s : State), s.flag Reg.FTL_STATUS_READ_ONLY = false →
    (∃ t, exec (.flashChannelFail true) s = .next t ∧ t.reg Reg.FTL_STATUS_READ_ONLY = 1 ∧ t.reg Reg.FTL_ERR_CHANNEL_FAIL = 1 ∧
      t.reg Reg.FTL_LIFE_SPARE_LEFT = 0 ∧ t.tier = s.tier) ∧
    (∃ t, exec (.flashChannelFail false) s = .next t ∧ t.reg Reg.FTL_STATUS_READ_ONLY = s.reg Reg.FTL_STATUS_READ_ONLY ∧
      t.reg Reg.FTL_ERR_CHANNEL_FAIL = 1 ∧ t.tier = s.tier))

/-- MODEL_LOAD, MODEL_RELAY, MODEL_UNLOAD and MODEL_QUERY (R358 to R360, R363, R418 to R421): taken for an EMPTY slot and good parameters,
a load allots its shards and starts their moves, a relay allots them for the stream to come; a RESIDENT model that nothing uses is
released; a query answers the slot's state, parameters and digest. -/
def Obligations.ModelMessagesComplete : Prop :=
  (∀ (s s1 : State) (h : Mail) (shards : List Shard) (keys : List Nat),
    let a := modelAsk h
    s.Taken h 0x0301 0 (a.size - 2) → a.slot < 8 → h.u 10 2 = 0 → h.fn = 0 → a.params.secret = false →
    s.slotConflict a.slot = none → a.good = true → a.linkA = 0xFFFF → s.hostShards a.shards = .ok shards →
    s.allotShards a.slot false shards = .ok (keys, s1) →
    let s2 := s1.setModel a.slot ⟨1, a.params, 0, keys, some (h.ticket 0x0301), none⟩
    let s3 := (shards.zip keys).foldl (fun (s : State) (x : Shard × Nat) =>
      match s.entry x.2, s.tensor? x.1.desc.src with
      | some d, some hst =>
        s.beginMove (Move.new 0 (.model a.slot) { x.1.desc with dst := d.handle } [⟨.host, hst.loc, .near, d.loc, hst.size⟩] [] false)
      | _, _ => s) s2
    exec (.modelLoad h) s = .next (s3.waiting h 0x0301).settle) ∧
  (∀ (s s1 : State) (h : Mail) (keys : List Nat),
    let a := modelAsk h
    s.Taken h 0x0302 0 a.size → a.slot < 8 → h.u 10 2 = 0 → h.fn = 0 → a.params.secret = false →
    s.slotConflict a.slot = none → a.good = true → a.linkA < 16 → a.linkB = 0xFFFF →
    (∀ d ∈ a.shards, (Fmt.ofCode d.qfmt).isSome = true ∧ d.src = Handle.none) →
    let shards := a.shards.map (fun d =>
      let f := (Fmt.ofCode d.qfmt).getD .bf16
      let k := d.shardDims f (linesFor ((d.rows + 1) * (d.cols + 1)) f.width)
      (⟨d, d.qfmt, k.1, k.2⟩ : Shard))
    s.allotShards a.slot false shards = .ok (keys, s1) →
    let s2 := s1.setModel a.slot ⟨1, a.params, 0, keys, some (h.ticket 0x0302), none⟩
    let sizes := shards.map (fun x => (x.data, x.scale))
    let r : Relay := ⟨0, a.slot, some a.linkA, none, streamGranules sizes, sizes, 0, a.params.digest, false, .ok, false, none⟩
    let s3 : State := { s2 with fab := { s2.fab with relays := s2.fab.relays ++ [r] } }
    exec (.modelRelay h) s = .next (s3.waiting h 0x0302)) ∧
  (∀ (s : State) (h : Mail), s.Taken h 0x0303 0 10 → h.u 8 2 < 8 → h.fn = 0 → s.unloadConflict (h.u 8 2) = none →
    (s.model (h.u 8 2)).tensors = [] → (s.model (h.u 8 2)).params.secret = false →
    let a : State := { s with fab := { s.fab with relays := s.fab.relays.filter (fun r => r.slot != h.u 8 2) } }
    exec (.modelUnload h) s = .next ((a.setModel (h.u 8 2) ModelSlot.empty).replied h 0x0303 []) ∧
      ((a.setModel (h.u 8 2) ModelSlot.empty).model (h.u 8 2)).state = 0) ∧
  (∀ (s : State) (h : Mail), s.Taken h 0x0304 0 10 → h.u 8 2 < 8 → ∃ p, exec (.modelQuery h) s = .next (s.replied h 0x0304 p) ∧
    p.take 2 = leBytes (s.model (h.u 8 2)).state 2 ∧ p.drop (p.length - 32) = leBytes (s.model (h.u 8 2)).digest.toNat 32)

/-- MOTIF_LOAD, MOTIF_BIND, MOTIF_UNBIND and MOTIF_QUERY (R226 to R234, R254): taken for a RESIDENT model, a fitting image becomes a
RESIDENT motif in its stored form; a RESIDENT motif is bound to the lowest free hot slot; a SERVING one begins to drain; a query answers
its record. -/
def Obligations.MotifMessagesComplete : Prop :=
  (∀ (s s1 : State) (h : Mail) (src : Tensor) (f : Fmt) (loc : Nat),
    let slot := h.u 8 2
    let i := MotifImage.ofBytes h.buffer
    s.Taken h 0x0310 0 32 → slot < 8 → h.u 10 6 = 0 → h.handleOk 16 = true → h.handle 16 ≠ Handle.none → h.u 28 4 = 0 →
    (h.handle 16).fn = h.fn → (s.model slot).state = 2 → s.ownTensor (h.handle 16) = .ok src → Fmt.ofCode src.format = some f →
    src.tier = .host → src.format ≤ 2 → i.version = 1 → i.rsvd = 0 → i.fits (s.model slot) = true →
    (∀ t ∈ i.targets, t.length = t.lines i.rank * f.width / 16 ∧ t.offset + t.length ≤ src.size ∧ 17 ≤ t.offset) →
    s.tableFull h.fn 1 = none → (s.quota h.fn).motifUsed + 1 ≤ (s.quota h.fn).motifLimit →
    (s.tier.tt.filter (fun c => c.2.kind == .motif && c.2.tier == .near)).length < 4096 →
    let ts := layTargets i.rank 17 i.targets
    let x := s.blankTensor h.fn .motif 1 (17 + (ts.map (·.length)).foldl (· + ·) 0)
    s.allocNear h.fn x.keyIndex x.units = .good loc s1 →
    let x := { x with loc := loc, kspec := slot }
    let lines := motifHead i (s.model slot).params.rhtBlock.isSome (h.u 24 4) ts ++
      i.targets.flatMap (fun t => t.data f none (BitVec.ofNat 32 (h.u 24 4)) i.rank h.buffer)
    (s1.model slot).params = (s.model slot).params →
    let s2 := (s1.enter x).writeNear loc lines
    let s3 := s2.setQuota h.fn { s2.quota h.fn with motifUsed := (s2.quota h.fn).motifUsed + 1 }
    let s4 : State := { s3 with tier := { s3.tier with motifs := Store.put s3.tier.motifs x.key ⟨.resident, slot, i.rank, 0⟩ } }
    exec (.motifLoad h) s = .next (s4.showSpace.replied h 0x0310 (leBytes x.handle.toNat 8))) ∧
  (∀ (s : State) (h : Mail) (x : Tensor) (mo : Motif) (c : CtxBlock) (e slot : Nat), s.Taken h 0x0311 0 18 →
    h.handleOk 8 = true → h.handle 8 ≠ Handle.none → (h.handle 8).fn = h.fn → h.u 16 2 = 1 ∨ h.u 16 2 = 2 →
    s.ownTensor (h.handle 8) = .ok x → Store.get? s.tier.motifs (ttKey h.fn (h.handle 8).idx) = some mo →
    Store.get? s.tier.ctx h.fn = some c → mo.state = .resident → x.moving = false → x.incomplete = false →
    (h.u 16 2 = 1 → s.trainNames (h.handle 8) = false) → c.bindings.findIdx? (fun b => b.mode == 0) = some e →
    (∀ t ∈ (s.motifImage x).targets, t.lines mo.rank ≤ s.area) → s.freeSlot = some slot →
    exec (.motifBind h) s = .next ((s.bindMotif x mo c e slot (h.u 16 2)).replied h 0x0311 (leBytes slot 2))) ∧
  (∀ (s : State) (x : Tensor) (mo : Motif) (c : CtxBlock) (e slot mode : Nat), s.mirrors = false →
    let t := s.bindMotif x mo c e slot mode
    Store.get? t.tier.motifs x.key = some { mo with state := if mode = 2 then .training else .serving, slot := slot } ∧
      (Store.get? t.data.hotSlots slot).map (fun r => (r.handle, r.fn, r.state, r.model, r.rank, r.line)) =
        some (x.handle, x.fn, 1, mo.model, mo.rank, x.loc) ∧ t.tier.near = s.tier.near ∧ t.tier.tt = s.tier.tt) ∧
  (∀ (s : State) (h : Mail) (x : Tensor) (mo : Motif), s.Taken h 0x0312 0 16 → h.handleOk 8 = true →
    h.handle 8 ≠ Handle.none → (h.handle 8).fn = h.fn → s.tensor? (h.handle 8) = some x →
    Store.get? s.tier.motifs (ttKey h.fn (h.handle 8).idx) = some mo → mo.state = .serving →
    exec (.motifUnbind h) s = .next (((s.drainMotif x.key).mirrorCtx h.fn).replied h 0x0312 []).settleMotifs) ∧
  (∀ (s : State) (h : Mail) (x : Tensor) (mo : Motif), s.Taken h 0x0313 0 16 → h.handleOk 8 = true →
    h.handle 8 ≠ Handle.none → (h.handle 8).fn = h.fn ∨ h.fn = 0 → s.tensor? (h.handle 8) = some x →
    Store.get? s.tier.motifs (ttKey (h.handle 8).fn (h.handle 8).idx) = some mo →
    exec (.motifQuery h) s = .next (s.replied h 0x0313 (leBytes mo.state.code 2 ++ leBytes mo.slot 2 ++ leBytes mo.rank 2 ++
      leBytes 0 26 ++ leBytes (if h.fn = 0 ∧ x.fn ≠ 0 then 0 else s.tensorDigest x).toNat 32)))

/-- SWATCH_BUILD, SWATCH_RELEASE, SWATCH_IMPORT and SWATCH_QUERY (R247 to R253, R478, R479): taken with all they ask for in range, a build
enters a BUILDING swatch and opens the sequence that fills it; a swatch that nothing pins or names is released; an opened blob becomes a
SEALED swatch; a query answers its record, without digests to the PF. -/
def Obligations.SwatchMessagesComplete : Prop :=
  (∀ (s s1 : State) (h : Mail) (tk : Tensor) (loc : Nat), s.Taken h 0x0320 0 42 → h.handleOk 8 = true →
    h.handle 8 ≠ Handle.none → (h.handle 8).fn = h.fn → h.u 16 8 = 0 → h.u 24 8 = 0 → h.u 32 4 = 0 → h.u 40 2 < 8 →
    let cap := ceilDiv (h.u 36 4) 256
    let slot := h.u 40 2
    1 ≤ cap → cap ≤ 4096 → (s.model slot).state = 2 → s.getF h.fn Reg.GLB_FN_STATE_STATE = 1 →
    s.ownTensor (h.handle 8) = .ok tk → tk.format = 8 → 64 * tk.size ≤ 1048576 → 64 * tk.size ≤ 256 * cap →
    tk.incomplete = false → s.tableFull h.fn 1 = none → s.serve.seqs.length < 16384 →
    s.classServed slot (64 * tk.size) = true →
    let p := (s.model slot).params
    let x := s.blankTensor h.fn .swatch 3 (p.layers * (256 * cap) * p.kvLpt)
    s.allocNear h.fn x.keyIndex x.units = .good loc s1 →
    ∃ t : State, exec (.swatchBuild h) s = .next (t.waiting h 0x0320) ∧
      (Store.get? t.tier.swatches x.key).map (fun (w : Swatch) => (w.state, w.model, w.length, w.basePos, w.pins)) =
        some (0, slot, 64 * tk.size, 0, 0) ∧ (∃ id, Store.get? t.serve.builds id = some x.key ∧
          (Store.get? t.serve.seqs id).map (fun (q : SeqRec) => (q.fn, q.kv, q.tokens, q.remain)) =
            some (h.fn, x.handle, h.handle 8, 64 * tk.size))) ∧
  (∀ (s : State) (h : Mail) (x : Tensor) (w : Swatch), s.Taken h 0x0321 0 16 → h.handleOk 8 = true →
    h.handle 8 ≠ Handle.none → (h.handle 8).fn = h.fn → s.tensor? (h.handle 8) = some x →
    Store.get? s.tier.swatches (ttKey h.fn (h.handle 8).idx) = some w → w.pins = 0 → w.state ≠ 0 → x.moving = false →
    s.named (ttKey h.fn (h.handle 8).idx) = false → s.inStep (ttKey h.fn (h.handle 8).idx) = false →
    exec (.swatchRelease h) s = .next ((s.dropPair x).replied h 0x0321 [])) ∧
  (∀ (s s1 : State) (h : Mail) (src : Tensor) (b : BlobHead) (payload : List Byte) (x : Tensor) (sc : Option Tensor),
    s.Taken h 0x0322 0 64 → h.handleOk 8 = true → h.handle 8 ≠ Handle.none → (h.handle 8).fn = h.fn → h.u 24 2 = 0 →
    h.u 26 6 = 0 → 1 ≤ h.u 16 4 → h.u 16 4 ≤ 1048576 → (Store.get? s.sec.keys h.fn).isSome = true →
    s.ownTensor (h.handle 8) = .ok src → s.openBlob h.fn src h.buffer = .ok (b, payload, h.u 16 4) → b.kind = 4 →
    (s.model (bits b.kspec 0 3)).state = 2 → b.weights = (s.model (bits b.kspec 0 3)).digest → b.size = s.kvLines b.kspec →
    s.placeBlob h.fn b payload = .ok (x, sc, s1) →
    let w : Swatch := ⟨1, bits b.kspec 0 3, false, h.u 16 4, h.u 20 4, BitVec.ofNat 256 (h.u 32 32), b.digest, 0, h.u 16 4, none⟩
    exec (.swatchImport h) s = .next ((s1.setSwatch x.key w).replied h 0x0322 (leBytes x.handle.toNat 8))) ∧
  (∀ (s : State) (h : Mail) (x : Tensor) (w : Swatch), s.Taken h 0x0323 0 16 → h.handleOk 8 = true →
    h.handle 8 ≠ Handle.none → (h.handle 8).fn = h.fn ∨ h.fn = 0 → s.tensor? (h.handle 8) = some x →
    Store.get? s.tier.swatches (ttKey (h.handle 8).fn (h.handle 8).idx) = some w →
    exec (.swatchQuery h) s = .next (s.replied h 0x0323 (w.bytes x (h.fn != 0))))

/-- GRAPH_SUBMIT, TEMPLATE_LOAD, TEMPLATE_BUILD, TEMPLATE_RETIRE, PATTERN_QUERY, TRAIN_WINDOW and BUILD_DONE (R49 to R54, R74, R80, R171,
R292, R520, R521, R628, R629): what they hand to the control cores joins the jobs there and is answered when the job ends; a template that
no roster or window uses is retired; a query answers the progress marks; a window is granted for a step to come. -/
def Obligations.PatternMessagesComplete : Prop :=
  (∀ (s : State) (h : Mail) (g : GraphBuf), s.Taken h 0x0401 0 20 → h.u 8 8 % 64 = 0 → graphBuf h.buffer (h.u 16 4) = some g →
    s.graphRefusal h.fn g = none →
    let a := g.descs.foldl State.claimCode s
    exec (.graphSubmit h) s = .next ((a.addBuild (.graph (h.ticket 0x0401) (a.newGraph g))).waiting h 0x0401)) ∧
  (∀ (s : State) (h : Mail) (tpl : Template) (body : List Byte), s.Taken h 0x0402 0 28 → h.u 8 4 = 0 → h.u 12 4 = 0 →
    h.u 16 8 % 64 = 0 → h.fn = 0 → h.buffer.length = h.u 24 4 → imageTemplate h.buffer = some (tpl, body) →
    s.templateConflict tpl.id tpl.model = none → (∀ k ∈ s.tier.lent, tpl.sendsOn k.2.link = false) →
    s.pmRoom tpl.id body.length = true →
    exec (.templateLoad h) s = .next ((s.addBuild (.load (h.ticket 0x0402) tpl body false)).waiting h 0x0402)) ∧
  (∀ (s : State) (h : Mail) (g : GraphBuf), s.Taken h 0x0403 0 32 → h.u 8 8 % 64 = 0 → h.fn = 0 →
    let b := h.u 22 1
    let tpl := Template.ask (h.u 20 2) (bits b 0 3) (bits b 3 4) (h.u 23 1) (h.u 24 4) (h.u 28 4)
    tpl.bucketOk = true → graphBuf h.buffer (h.u 16 4) = some g → g.fn = 0 → (∀ d ∈ g.descs, d.fn = 0) →
    g.model = tpl.model → (∀ d ∈ g.descs, d.badVersion = false ∧ d.badArg = false) → s.unordered g = false →
    s.templateConflict tpl.id tpl.model = none → (s.otherTemplates tpl.id).length < 1024 →
    exec (.templateBuild h) s =
      .next ((s.addBuild (.build (h.ticket 0x0403) (s.newGraph g) tpl (bit b 7))).waiting h 0x0403)) ∧
  (∀ (s : State) (h : Mail), s.Taken h 0x0404 0 10 → h.fn = 0 → (∃ t ∈ s.seq.templates, t.id = h.u 8 2) →
    s.templateUsed (h.u 8 2) = false →
    exec (.templateRetire h) s = .next ((s.setTemplates (s.otherTemplates (h.u 8 2))).replied h 0x0404 [])) ∧
  (∀ (s : State) (h : Mail), s.Taken h 0x0405 0 8 →
    exec (.patternQuery h) s = .next (s.replied h 0x0405 (s.progress h.fn))) ∧
  (∀ (s : State) (h : Mail), s.Taken h 0x0406 1 22 → 1 ≤ h.u 16 4 → h.u 16 4 ≤ 4096 → h.u 20 2 ≤ 1024 → h.fn = 0 →
    s.stepNo < h.u 8 8 →
    let w : Window := ⟨h.u 8 8, h.u 16 4, h.u 16 4, h.u 20 2⟩
    exec (.trainWindow h) s = .next (State.replied { s with seq := { s.seq with
      windows := s.seq.windows.filter (fun x => x.step != h.u 8 8) ++ [w] } } h 0x0406 [])) ∧
  (∀ (s : State) (o : BuildDoneOp) (j : BuildJob) (rest : List BuildJob), s.seq.builds = j :: rest → s.builderUp = true →
    exec (.buildDone o) s = .next (({ s with seq := { s.seq with builds := rest } }.set Reg.SEQ_BUILD_STATUS_BUSY
      (b2n !rest.isEmpty)).endBuild o j))

/-- SCHED_SET, SCHED_QUERY, MODEL_SCHED_SET, FUNC_PREEMPT, FUNC_RESUME and SEQ_QUERY (R377 to R381, R386 to R388): shares whose sum fits
1,024 are set; a model's parameters are set; a pre-emption returns the fetched entries and waits for the last step; a PREEMPTED function
without a parked tensor is ACTIVE again; a sequence's state is answered. -/
def Obligations.SchedMessagesComplete : Prop :=
  (∀ (s : State) (h : Mail),
    let x : Sched := ⟨h.u 10 2, h.u 12 2, h.u 16 4, h.u 20 2⟩
    s.Taken h 0x0410 0 22 → h.fn = 0 → h.u 8 2 ≤ 1024 → h.u 14 2 = 0 → x.share ≤ 1024 → x.priority ≤ 7 → 64 ≤ x.slice →
    x.slice ≤ 65536 → x.slice % 64 = 0 → x.maxSeq ≤ 4096 →
    ((s.serve.sched.filter (fun p => p.1 != h.u 8 2)).map (fun p => p.2.share)).foldl (· + ·) 0 + x.share ≤ 1024 →
    let a : State := { s with serve := { s.serve with sched := Store.put s.serve.sched (h.u 8 2) x } }
    exec (.schedSet h) s = .next (a.replied h 0x0410 []) ∧ a.sched (h.u 8 2) = x ∧
      ∀ fn, fn ≠ h.u 8 2 → a.sched fn = s.sched fn) ∧
  (∀ (s : State) (h : Mail), s.Taken h 0x0411 0 10 → h.u 8 2 ≤ 1024 → h.u 8 2 = h.fn ∨ h.fn = 0 →
    ∃ p, exec (.schedQuery h) s = .next (s.replied h 0x0411 p) ∧ p.take 2 = leBytes (s.sched (h.u 8 2)).share 2) ∧
  (∀ (s : State) (h : Mail),
    let x : ModelSched := ⟨h.u 10 2, h.u 12 2, h.u 14 2, h.u 16 2⟩
    s.Taken h 0x0412 0 18 → h.fn = 0 → h.u 8 2 < 8 → 1 ≤ x.weight → x.weight ≤ 8 → 1 ≤ x.longClass → x.longClass ≤ 11 →
    1 ≤ x.longPeriod → x.longPeriod ≤ 64 → 1 ≤ x.longRows →
    exec (.modelSchedSet h) s = .next (State.replied { s with serve := { s.serve with
      models := Store.put s.serve.models (h.u 8 2) x } } h 0x0412 [])) ∧
  (∀ (s : State) (h : Mail), s.Taken h 0x0413 0 10 → h.fn = 0 → h.u 8 2 ≤ 1024 →
    s.getF (h.u 8 2) Reg.GLB_FN_STATE_STATE = 1 → (∀ p ∈ s.serve.preempts, p.fn ≠ h.u 8 2) →
    let a := s.returnFetched (h.u 8 2)
    exec (.funcPreempt h) s = .next (State.waiting { a with serve := { a.serve with
      preempts := a.serve.preempts ++ [⟨h.u 8 2, h.ticket 0x0413⟩] } } h 0x0413)) ∧
  (∀ (s : State) (h : Mail), s.Taken h 0x0414 0 10 → h.fn = 0 → h.u 8 2 ≤ 1024 → s.resumeConflict (h.u 8 2) = none →
    (∀ q ∈ s.serve.seqs, q.2.fn ≠ h.u 8 2) → s.tier.moves = [] →
    ∃ t : State, exec (.funcResume h) s = .next (t.replied h 0x0414 []) ∧ t.getF (h.u 8 2) Reg.GLB_FN_STATE_STATE = 1 ∧
      t.serve = s.serve ∧ t.tier.tt = s.tier.tt) ∧
  (∀ (s : State) (h : Mail) (q : SeqRec), s.Taken h 0x0415 0 12 → Store.get? s.serve.seqs (h.u 8 4) = some q →
    h.fn = 0 ∨ q.fn = h.fn →
    exec (.seqQuery h) s = .next (s.replied h 0x0415 (leBytes q.phase.code 2 ++ leBytes 0 2 ++ leBytes q.pos 4 ++
      leBytes q.lastStep 8)))

/-! ### Power, thermal control and gauge -/

/-- POWER_STATE and PERF_LEVEL (R556, R564 to R569, R580): a legal entry begins and answers when it is done; IDLE answers at once while
the module is awake and wakes it otherwise; a level is requested, takes force later and is answered with the level in force.
POWER_STATE_ENTRY_DONE, POWER_STATE_EXIT_DONE and WAKE_EVENT (R564 to R568, R582): with the sequencer at rest the state is entered,
its request is answered and a wake event latched meanwhile ends it at once; an exit ends in IDLE, with the links retraining after PARK and
the image reloaded after STORE; a wake event starts the exit. -/
def Obligations.PowerCommandsComplete : Prop :=
  (∀ (s : State) (h : Mail), s.Taken h 0x0103 0 10 → s.powerManagerUp = true → h.fn = 0 → s.asleep = false →
    s.pwr.transition = none →
    (h.u 8 2 = 1 → exec (.powerState h) s = .next (s.replied h 0x0103 (stateReply (s.reg Reg.PWR_STATE_STATE) 0))) ∧
    (2 ≤ h.u 8 2 → h.u 8 2 ≤ 4 → s.powerConflict (h.u 8 2) = none →
      (h.u 8 2 ≠ 4 → exec (.powerState h) s = .next ((s.beginEntry (h.u 8 2) (h.ticket 0x0103)).waiting h 0x0103)) ∧
      (h.u 8 2 = 4 → exec (.powerState h) s = .next ((s.beginEntry 4 (h.ticket 0x0103)).waiting h 0x0103).advanceStore))) ∧
  (∀ (s : State) (h : Mail), s.Taken h 0x0103 0 10 → s.powerManagerUp = true → h.fn = 0 → h.u 8 2 = 1 →
    2 ≤ s.reg Reg.PWR_STATE_STATE → s.flag Reg.PWR_STATE_ENTERING = false → s.flag Reg.PWR_STATE_EXITING = false →
    let a := s.wake
    exec (.powerState h) s = .next (State.waiting { a with pwr := { a.pwr with
      wakeTickets := s.pwr.wakeTickets ++ [h.ticket 0x0103] } } h 0x0103)) ∧
  (∀ (s : State) (target : Nat) (t : Ticket),
    (s.beginEntry target t).reg Reg.PWR_STATE_ENTERING = 1 ∧
      (target ≠ 4 → (s.beginEntry target t).pwr.transition = some ⟨s.reg Reg.PWR_STATE_STATE, target, some t, false⟩ ∧
        s.KeepsWork (s.beginEntry target t))) ∧
  (∀ (s : State) (h : Mail), s.Taken h 0x0104 0 10 → s.powerManagerUp = true → h.fn = 0 → h.u 8 2 ≤ 7 →
    let a := (s.set Reg.PWR_LEVEL_REQUESTED (h.u 8 2)).levelChanged
    exec (.perfLevel h) s =
        .next (a.replied h 0x0104 (leBytes (s.reg Reg.PWR_LEVEL_IN_FORCE) 2 ++ leBytes a.capBits 2)) ∧
      a.reg Reg.PWR_LEVEL_REQUESTED = h.u 8 2 ∧ a.reg Reg.PWR_LEVEL_IN_FORCE = s.reg Reg.PWR_LEVEL_IN_FORCE ∧ s.KeepsWork a) ∧
  (∀ (s : State) (us : Nat) (t : Transition), s.pwr.transition = some t → t.exits = false →
    s.reg Reg.SEQ_STATUS_STATE = 0 ∨ s.reg Reg.SEQ_STATUS_STATE = 2 →
    (t.dst = 4 → s.mod.storeImage.isSome = true ∧ ∀ d ∈ s.sec.defers, d.store = false) →
    let a := if t.dst = 4 then s.powerDown else s
    let a := ({ a with pwr := { a.pwr with transition := none } }.set Reg.PWR_STATE_STATE t.dst).set Reg.PWR_STATE_ENTERING 0
    let a := t.ticket.elim a (fun k => a.reply k .ok (stateReply t.dst us))
    exec (.powerStateEntryDone us) s = .next (a.stateDone t.src t.dst a.pwr.wake).bounce) ∧
  (∀ (s : State) (us : Nat) (t : Transition), s.pwr.transition = some t → t.exits = true →
    let a := (({ s with pwr := { s.pwr with transition := none, wakeTickets := [] } }).set Reg.PWR_STATE_STATE 1).set
      Reg.PWR_STATE_EXITING 0
    let done (b : State) : State :=
      s.pwr.wakeTickets.foldl (fun (s : State) k => s.reply k .ok (stateReply 1 us)) (b.stateDone t.src 1 false)
    (t.src ≠ 3 → t.src ≠ 4 → exec (.powerStateExitDone us) s = .next (done a)) ∧
    (t.src = 4 → exec (.powerStateExitDone us) s = .next (done a.storeExit)) ∧
    (t.src = 3 → s.pwr.wakeTickets = [] → ∃ u, exec (.powerStateExitDone us) s = .next u ∧ u.reg Reg.PWR_STATE_STATE = 1 ∧
      u.reg Reg.PWR_STATE_EXITING = 0 ∧ (∀ l, l < 16 → s.linkUp l = true → u.linkSt l = 4) ∧
      (∀ l, l < 16 → s.linkUp l = false → u.linkSt l = s.linkSt l) ∧ u.tier = s.tier ∧ u.data = s.data)) ∧
  (∀ (s : State) (l : Nat), s.linkUp l = true → exec (.wakeEvent (.frame l)) s = .next (s.wakeFrom 2)) ∧
  (∀ (s : State), exec (.wakeEvent .holdup) s = .next (s.wakeFrom 3) ∧ exec (.wakeEvent .throttle) s = .next (s.wakeFrom 3)) ∧
  (∀ (s : State) (deepest : Nat), s.pwr.transition = none → 2 ≤ s.reg Reg.PWR_STATE_STATE →
    s.reg Reg.PWR_STATE_STATE ≤ deepest → s.flag Reg.PWR_STATE_ENTERING = false → s.flag Reg.PWR_STATE_EXITING = false →
    (s.wakeFrom deepest).pwr.transition = some ⟨s.reg Reg.PWR_STATE_STATE, 1, none, true⟩ ∧
      (s.wakeFrom deepest).reg Reg.PWR_STATE_EXITING = 1 ∧ s.KeepsWork (s.wakeFrom deepest))

/-- SUPPLY_DROOP, INPUT_OVERCURRENT, POWER_LIMIT_AVERAGE, SKIP_RELEASE, SUSTAINED_SKIP_CHECK, SKIP_CAP_LIFT and VOLTAGE_SETTLED (R556,
R558, R559, R582): the demands rise to 8 at once, the limit's demand by one at a time up to 8, and all fall by one at a time; the trigger
counters hold at their top; the skip cap becomes one level slower, or lifts by one. -/
def Obligations.PulseSkippingCompletes : Prop :=
  (∀ (s : State), ∃ t, exec .supplyDroop s = .next t ∧ t.pwr = { s.pwr with droop := 8 } ∧
    t.reg Reg.PWR_SKIP_EVENTS_DROOP = min (s.reg Reg.PWR_SKIP_EVENTS_DROOP + 1) 65535 ∧
    s.RegsKept (fun o => o == 0xC0024) t ∧ s.KeepsWork t ∧ t.out = s.out) ∧
  (∀ (s : State), ∃ t, exec .inputOvercurrent s = .next t ∧ t.pwr = { s.pwr with current := 8 } ∧
    t.reg Reg.PWR_SKIP_EVENTS_DROOP = min (s.reg Reg.PWR_SKIP_EVENTS_DROOP + 1) 65535 ∧
    s.RegsKept (fun o => o == 0xC0024) t ∧ s.KeepsWork t ∧ t.out = s.out) ∧
  (∀ (s : State) (w : Nat), s.reg Reg.PWR_LIMIT_LIMIT_W < w → ∃ t, exec (.powerLimitAverage w) s = .next t ∧
    t.pwr = { s.pwr with limit := min 8 (s.pwr.limit + 1) } ∧
    (s.pwr.limit = 0 → t.reg Reg.PWR_SKIP_EVENTS_LIMIT = min (s.reg Reg.PWR_SKIP_EVENTS_LIMIT + 1) 65535 ∧
      t.reg Reg.PWR_ERR_LIMIT_SKIP = 1) ∧
    (s.pwr.limit ≠ 0 → t.regs = s.regs) ∧ s.RegsKept (fun o => o == 0xC0024 || o == 0xC004C) t ∧ s.KeepsWork t) ∧
  (∀ (s : State) (w : Nat), w ≤ s.reg Reg.PWR_LIMIT_LIMIT_W → exec (.powerLimitAverage w) s =
    .next (if 100 * w < 97 * s.reg Reg.PWR_LIMIT_LIMIT_W then { s with pwr := { s.pwr with limit := s.pwr.limit - 1 } } else s)) ∧
  (∀ (s : State), exec (.skipRelease false) s = .next { s with pwr := { s.pwr with droop := s.pwr.droop - 1 } } ∧
    exec (.skipRelease true) s = .next { s with pwr := { s.pwr with current := s.pwr.current - 1 } }) ∧
  (∀ (s : State) (skipped pulses : Nat), s.reg Reg.SEQ_ROW_CFG_MARGIN * pulses < 256 * skipped →
    ∃ t, exec (.sustainedSkipCheck skipped pulses) s = .next t ∧
      t.pwr.skipCap = min 7 ((if s.pwr.skipCap = 0 then s.reg Reg.PWR_LEVEL_IN_FORCE else s.pwr.skipCap) + 1) ∧
      t.reg Reg.PWR_ERR_SUSTAINED_SKIP = 1 ∧ s.KeepsWork t) ∧
  (∀ (s : State) (skipped pulses : Nat), 512 * skipped < s.reg Reg.SEQ_ROW_CFG_MARGIN * pulses →
    ∃ t, exec (.skipCapLift skipped pulses) s = .next t ∧ t.pwr.skipCap = s.pwr.skipCap - 1 ∧ s.KeepsWork t) ∧
  (∀ (s : State), exec .voltageSettled s = .next { s with pwr := { s.pwr with voltageWait := false } })

/-- THERMAL_THROTTLE, THERMAL_CAP_STEP, THERMAL_CRITICAL, THERMAL_TRIP and SENSOR_FAIL (R571 to R573, R581, R583): a reading above the
throttle limit sets the sensor group's status and THM_ERR; the thermal cap steps one level; at 105 °C critical action begins; at the trip limit
the module powers off and stays off; a failed sensor is excluded.
REGAUGE_OP, GAUGE_DONE, GAUGE_RETRY and STITCH_MARKER_SAMPLE (R561, R562, R574 to R578, R581, R582): a record in range replaces the
one of its kind, object and class; one out of range fails the re-gauge; when nothing is missing the gauge cap lifts; a sample shows the
draw and adds to the energy. -/
def Obligations.ThermalAndGaugeComplete : Prop :=
  (∀ (s : State) (sensor temp : Nat), sensor < 57 → sensor ∉ s.pwr.excluded →
    let a := s.readTemps [(sensor, temp)]
    let f := if sensor < 48 then Reg.THM_STATUS_DIE_THROTTLE
      else if sensor < 56 then Reg.THM_STATUS_HBM_THROTTLE else Reg.THM_STATUS_FLASH_THROTTLE
    a.throttleLimit sensor < a.heat sensor → a.flag f = false →
    ∃ t, exec (.thermalThrottle sensor temp) s = .next t ∧ t.reg f = 1 ∧ t.reg Reg.THM_ERR_THROTTLE = 1 ∧ s.KeepsWork t) ∧
  (∀ (s : State), s.showThermal.pwr.thermalCap ≠ 0 →
    let a := s.showThermal
    let l := a.sensors 0 56
    ((∃ n ∈ l, a.throttleLimit n < a.heat n) → ∃ t, exec .thermalCapStep s = .next t ∧
      t.pwr.thermalCap = min 7 (a.pwr.thermalCap + 1) ∧ s.KeepsWork t) ∧
    ((∀ n ∈ l, a.heat n + 40 ≤ a.throttleLimit n) → ∃ t, exec .thermalCapStep s = .next t ∧
      t.pwr.thermalCap = a.pwr.thermalCap - 1 ∧ s.KeepsWork t)) ∧
  (∀ (s : State) (sensor temp : Nat), sensor < 48 → sensor ∉ s.pwr.excluded →
    let a := s.readTemps [(sensor, temp)]
    840 ≤ a.heat sensor → a.pwr.critical = false →
    ∃ t, exec (.thermalCritical sensor temp) s = .next t ∧ t.pwr.critical = true ∧ t.reg Reg.THM_STATUS_CRITICAL = 1 ∧
      t.reg Reg.THM_ERR_CRITICAL = 1 ∧ s.KeepsWork t) ∧
  (∀ (s : State) (sensor temp : Nat), sensor < 58 → sensor ∉ s.pwr.excluded → s.mod.off = false →
    let a := s.readTemps [(sensor, temp)]
    tripLimit sensor ≤ a.heat sensor →
    ∃ t, exec (.thermalTrip sensor temp) s = .next t ∧ t.reg Reg.THM_STATUS_TRIPPED = 1 ∧ t.mod.lockedOff = true) ∧
  (∀ (s : State) (sensor : Nat), sensor < 60 → sensor ∉ s.pwr.excluded →
    ∃ t, exec (.sensorFail sensor) s = .next t ∧ t.pwr.excluded = sensor :: s.pwr.excluded ∧
      t.reg Reg.THM_ERR_SENSOR_FAIL = 1 ∧ s.KeepsWork t) ∧
  (∀ (s : State) (o : RegaugeOp), o.rcd.kind < 4 → o.rcd.cls < 4 → o.inRange = true →
    ∃ t, exec (.regaugeOp o) s = .next t ∧ t.mod = { s.mod with gaugeChanged := true } ∧ o.rcd ∈ t.pwr.gauge ∧
      (∀ g ∈ t.pwr.gauge, g.kind = o.rcd.kind → g.obj = o.rcd.obj → g.cls = o.rcd.cls → g = o.rcd) ∧
      (∀ g, ¬(g.kind = o.rcd.kind ∧ g.obj = o.rcd.obj ∧ g.cls = o.rcd.cls) → (g ∈ t.pwr.gauge ↔ g ∈ s.pwr.gauge)) ∧
      t.data = s.data ∧ t.tier = s.tier) ∧
  (∀ (s : State) (o : RegaugeOp), o.rcd.kind < 4 → o.rcd.cls < 4 → o.inRange = false →
    ∃ t, exec (.regaugeOp o) s = .next t ∧ t.pwr.gauge = s.pwr.gauge ∧ t.reg Reg.PWR_ERR_GAUGE_FAIL = 1 ∧ s.KeepsWork t) ∧
  (∀ (s : State) (ms c : Nat), s.pwr.regauge = some c → s.gaugeStale c true = [] →
    ∃ t, exec (.gaugeDone ms) s = .next t ∧ t.pwr.gaugeCap = 0 ∧ t.pwr.regauge = none ∧ t.reg Reg.PWR_LEVEL_GAUGE_CAP = 0 ∧
      t.reg Reg.PWR_GAUGE_REGAUGING = 0 ∧ t.pwr.gauge = s.pwr.gauge ∧ s.KeepsWork t) ∧
  (∀ (s : State), ∃ t, exec .gaugeRetry s = .next t ∧ t.pwr = { s.pwr with regaugeWait := false } ∧
    t.reg Reg.PWR_GAUGE_REGAUGING = b2n s.pwr.regauge.isSome ∧ s.KeepsWork t ∧ t.out = s.out) ∧
  (∀ (s : State) (o : SampleOp), ∃ t, exec (.stitchMarkerSample o) s = .next t ∧
    t.reg Reg.PWR_DRAW_INPUT_W = o.draw % 2 ^ 11 ∧
    t.reg Reg.PWR_ENERGY_LO_MJ_LO + 2 ^ 32 * t.reg Reg.PWR_ENERGY_HI_MJ_HI =
      (s.reg Reg.PWR_ENERGY_LO_MJ_LO + 2 ^ 32 * s.reg Reg.PWR_ENERGY_HI_MJ_HI + o.energy) % 2 ^ 64 ∧ s.KeepsWork t)

/-! ### Cast-on, bind-off and the hold-up bank -/

/-- CAST_ON, HBM_TRAINING_DONE, TRANSLATION_LAYER_READY, SELFTEST_DONE, DIRECTORY_REBUILT, STORE_IMAGE_RELOAD and CASTON_DONE (R584 to
R586, R589, R592 to R596): with the active images good, cast-on starts from the Reset values with READY clear; each step then ends in its turn,
a failed one leaves the module in RECOVERY at that step, and the last one sets READY.
RETAINED_APPLY, WRITE_NOW and RETAINED_WRITE (R589 to R591, R601): the chosen settings are applied after READY; a write that is due
replaces the copy that did not win, with the next SEQ. -/
def Obligations.CastOnAndRetainedComplete : Prop :=
  (∀ (s : State) (o : CastOp), s.mod.off = true → s.mod.lockedOff = false → (∀ k, k < 4 → Store.getD s.fw.banks k 2 ≠ 4) →
    (∀ k, k < 4 → o.activeOk.getD k false = true) →
    ∃ t, exec (.castOn o) s = .next t ∧ t.mod.off = false ∧ t.mod.steps = [1, 2, 3] ∧ t.mod.straps = o.straps % 8 ∧
      t.reg Reg.GLB_STATUS_READY = 0 ∧ t.reg Reg.GLB_CASTON_STEP = 4 ∧ t.reg Reg.SEC_STATUS_BOOT_OK = 1 ∧
      t.data = DataPath.reset ∧ t.seq = SeqState.reset ∧ t.serve = ServeState.reset ∧ t.fab = FabState.reset ∧ t.tier.near = []) ∧
  (∀ (s : State) (gauge : List GaugeRec), s.casting [3] 5 = true →
    (∃ t, exec (.hbmTrainingDone true gauge) s = .next t ∧ t.tier.near = [] ∧ t.tier.regions = [] ∧ t.data = DataPath.reset ∧
      t.mod.steps = s.mod.steps ++ [5] ∧ t.tier.deep = s.tier.deep) ∧
    exec (.hbmTrainingDone false gauge) s = .next (s.castFail 4)) ∧
  (∀ (s : State), s.casting [3] 6 = true →
    (∃ t, exec (.translationLayerReady true) s = .next t ∧ t.mod.winner = retainedChoice s.mod.copyA s.mod.copyB ∧
      t.reg Reg.GLB_CASTON_RETAINED = retainedChoice s.mod.copyA s.mod.copyB ∧ t.mod.steps = s.mod.steps ++ [6] ∧
      t.tier = s.tier ∧ t.data = s.data) ∧
    exec (.translationLayerReady false) s = .next (s.castFail 4)) ∧
  (∀ (s : State) (o : SelftestOp), s.casting [5, 6] 7 = true →
    (o.bits % 2 ^ 29 = 0 → ∃ t, exec (.selftestDone o) s = .next t ∧ t.reg Reg.GLB_CASTON_SELFTEST_PASS = 1 ∧
      t.reg Reg.RNG_KAT_PASS = 1 ∧ t.mod.steps = s.mod.steps ++ [7] ∧ t.tier = s.tier ∧ t.data = s.data) ∧
    (o.bits % 2 ^ 29 ≠ 0 → ∃ t, exec (.selftestDone o) s = .next t ∧ t.reg Reg.GLB_STATUS_RECOVERY = 1 ∧
      t.reg Reg.GLB_STATUS_READY = 1 ∧ t.reg Reg.GLB_CASTON_STEP = 7 ∧ t.mod.steps = [] ∧ t.tier = s.tier)) ∧
  (∀ (s : State), s.casting [6] 8 = true → ∃ t, exec .directoryRebuilt s = .next t ∧ t.mod.steps = s.mod.steps ++ [8] ∧
    Store.get? t.mod.heldExt 0 = none ∧ t.tier.near = s.tier.near ∧ t.tier.deep = s.tier.deep ∧ t.data = s.data) ∧
  (∀ (s : State) (i : StoreImage), s.mod.storeImage = some i → s.casting [7, 8] 9 = true →
    let new := i.tensors.filter (fun (t : Tensor) => (s.entry t.key).isNone)
    let q := s.quota 0
    let a := new.foldl State.putTensor (s.setQuota 0 { q with tensorUsed := q.tensorUsed + new.length })
    exec .storeImageReload s = .next ((a.set Reg.GLB_CASTON_STORE_IMAGE 1).storeExit.showSpace.stepEnds 9)) ∧
  (∀ (s : State) (ms : Nat), s.casting [5, 6, 7, 8] 15 = true → (s.mod.storeImage.isSome = true → 9 ∈ s.mod.steps) → ms < 65536 →
    ∃ t, exec (.castonDone ms) s = .next t ∧ t.reg Reg.GLB_STATUS_READY = 1 ∧ t.reg Reg.GLB_CASTON_STEP = 15 ∧
      t.reg Reg.GLB_CASTON_MS_MS = ms ∧ t.mod = { s.mod with steps := [] } ∧ t.tier = s.tier ∧ t.data = s.data) ∧
  (∀ (s : State) (step : Nat), step < 16 → (s.castFail step).reg Reg.GLB_STATUS_READY = 1 ∧
    (s.castFail step).reg Reg.GLB_STATUS_RECOVERY = 1 ∧ (s.castFail step).reg Reg.GLB_CASTON_STEP = step) ∧
  (∀ (s : State), s.mod.off = false → s.reg Reg.GLB_STATUS_READY ≠ 0 → s.reg Reg.GLB_STATUS_RECOVERY ≠ 1 →
    s.reg Reg.GLB_CASTON_APPLIED ≠ 1 →
    let a := (s.chosen.elim [] (·.regs)).foldl (fun (s : State) (r : Nat × Nat) => s.applyOne r.1 r.2) s
    let a : State := { a with mod := { a.mod with writeDue := s.mod.writeDue, hostWrote := s.mod.hostWrote } }
    exec .retainedApply s = .next ((a.set Reg.GLB_CASTON_APPLIED 1).logRetained 1)) ∧
  (∀ (s : State), s.mod.off = false → s.reg Reg.GLB_STATUS_READY ≠ 0 → s.reg Reg.GLB_STATUS_RECOVERY ≠ 1 →
    s.reg Reg.GLB_CASTON_APPLIED ≠ 1 → s.chosen = none →
    ∃ t, exec .retainedApply s = .next t ∧ t.reg Reg.GLB_CASTON_APPLIED = 1 ∧ s.KeepsWork t ∧ t.pwr = s.pwr ∧ t.out = s.out) ∧
  (∀ (s : State), exec .writeNow s = .next { s with mod := { s.mod with writeDue := true } }) ∧
  (∀ (s : State) (failed : Bool), s.mod.off = false → s.mod.writeDue = true ∨ s.mod.gaugeChanged = true →
    exec (.retainedWrite failed) s = .next (s.writeRetained failed).bindAdvance) ∧
  (∀ (s : State), s.mod.bindOff = none → (s.writeRetained false).bindAdvance = s.writeRetained false) ∧
  (∀ (s : State),
    let c : RetCopy := ⟨s.nextRetSeq, s.retainedRegs, s.pwr.gauge⟩
    let t := s.writeRetained false
    (s.nextCopy = true → t.mod.copyB = some c ∧ t.mod.copyA = s.mod.copyA) ∧
      (s.nextCopy = false → t.mod.copyA = some c ∧ t.mod.copyB = s.mod.copyB) ∧ t.mod.writeDue = false ∧
      t.reg Reg.GLB_RETAIN_CTL_WRITE_DONE = 1 ∧
      (∀ a, s.mod.copyA = some a → a.seq < s.nextRetSeq) ∧ (∀ b, s.mod.copyB = some b → b.seq < s.nextRetSeq))

/-- BIND_OFF, FLUSH_READY_SET, HOLDUP_READY_SET, HOLDUP_LOST, BANK_CHECK and POWER_FAIL (R451, R525, R526, R572, R597, R598, R609): a
bind-off that nothing bars begins, with MODE 1 and nothing fetched, and goes on; one that is done answers again; the bank's ready bits and
its check show; losing HOLDUP_READY starts every write-back; input power below its threshold takes the module off. -/
def Obligations.BindOffAndHoldupComplete : Prop :=
  (∀ (s : State) (h : Mail), s.Taken h 0x0105 0 12 → h.u 8 4 < 2 → h.fn = 0 →
    (s.reg Reg.GLB_CASTON_MODE = 2 → s.mod.bindOff = none →
      exec (.bindOff h) s = .next (s.replied h 0x0105 (leBytes 0 8))) ∧
    (s.reg Reg.GLB_CASTON_MODE = 0 → s.pwr.transition = none → s.bindConflict = none →
      exec (.bindOff h) s =
        .next ((s.bindBegin (h.ticket 0x0105) (bit (h.u 8 4) 0)).waiting h 0x0105).bindAdvance)) ∧
  (∀ (s : State) (t : Ticket) (z : Bool), (s.bindBegin t z).mod.bindOff = some ⟨t, z, 0, 0⟩ ∧
    (s.bindBegin t z).host.fetched = [] ∧ (s.tier.moves = [] → (s.bindBegin t z).reg Reg.GLB_CASTON_MODE = 1)) ∧
  (∀ (s : State), exec .flushReadySet s =
    .next ((s.set Reg.TNK_STATUS_FLUSH_READY 1).set Reg.GLB_STATUS_FLUSH_READY 1)) ∧
  (∀ (s : State), s.flag Reg.GLB_HOLDUP_BANK_FAULT = false → exec .holdupReadySet s =
    .next ((s.set Reg.GLB_STATUS_HOLDUP_READY 1).set Reg.MOV_STATUS_HOLDUP_READY 1)) ∧
  (∀ (s : State), exec .holdupLost s = .next s.holdupLost) ∧
  (∀ (s : State), s.reg Reg.GLB_STATUS_HOLDUP_READY ≠ 0 → (∀ x ∈ s.tier.tt, x.2.dirty = false) →
    s.holdupLost.reg Reg.GLB_STATUS_HOLDUP_READY = 0 ∧ s.holdupLost.reg Reg.MOV_STATUS_HOLDUP_READY = 0 ∧
      s.holdupLost.reg Reg.GLB_HOST_ERR_HOLDUP_LOST = 1 ∧ s.KeepsWork s.holdupLost) ∧
  (∀ (s : State) (mj : Nat),
    let a := s.set Reg.GLB_HOLDUP_ENERGY_MJ (mj % 65536)
    (mj < 1500 → exec (.bankCheck mj) s = .next (a.set Reg.GLB_HOLDUP_BANK_FAULT 1).holdupLost) ∧
    (1500 ≤ mj → exec (.bankCheck mj) s =
      .next (if s.mod.steps = [] then a else a.set Reg.GLB_HOLDUP_BANK_FAULT 0))) ∧
  (∀ (s : State), (s.mod.off = true → exec .powerFail s = .next { s with mod := { s.mod with lockedOff := false } }) ∧
    (s.mod.off = false → exec .powerFail s = .next (s.powerOff true true)))

/-! ### The host link and the module -/

/-- FLR, VF_ENABLE_CLEAR, HOST_LINK_DOWN, HOST_LINK_UP and CONFIG_SPACE_READY (R7, R457, R488, R495, R524, R585, R611): a function that
is not being reset begins its reset; every VF no longer enabled is disabled; the link's loss and its training show in GLB_STATUS.
BAR4_ACCESS (R461, R462, R500): the 1 MiB window reads and writes the near tier from GLB_STAGE_BASE on, zeros for reads and nothing
for writes where the frame is not open to the host. -/
def Obligations.HostAccessesComplete : Prop :=
  (∀ (s : State) (fn : Nat), fn ≤ 1024 → Store.get? s.sec.resets fn = none →
    exec (.flr fn) s = .next (s.resetFn fn 1 none)) ∧
  (∀ (s : State) (fn st : Nat), st < 4 →
    let t := s.resetWindow fn st
    t.getF fn Reg.GLB_FN_STATE_STATE = st ∧
      (∀ f : Fld, f.off < 0x10000 → f.lo < 32 → ¬(fn = 0 ∧ 0x8000 ≤ f.off ∧ f.off < 0xE000) →
        regKey fn f ≠ regKey fn Reg.GLB_FN_STATE_STATE → t.getF fn f = f.rst) ∧
      (∀ (g : Nat) (f : Fld), g ≠ fn → f.off < 0x200000 → f.lo < 32 → t.getF g f = s.getF g f) ∧
      t.tier = s.tier ∧ t.data = s.data ∧ t.serve = s.serve) ∧
  (∀ (s : State) (enabled : Bool) (n : Nat),
    let a : State := { s with host := { s.host with vfEnable := enabled, numVfs := n } }
    exec (.vfEnableClear enabled n) s =
      .next ((s.liveVfs.filter (fun fn => !enabled || n < fn)).foldl (fun (s : State) fn => s.resetFn fn 2 none) a)) ∧
  (∀ (s : State) (ltssm : Nat), ∃ t, exec (.hostLinkDown ltssm) s = .next t ∧ t.reg Reg.GLB_STATUS_LINK_GEN = 0 ∧
    t.reg Reg.GLB_STATUS_LINK_WIDTH = 0 ∧ t.reg Reg.GLB_STATUS_FLIT = 0 ∧ t.reg Reg.GLB_HOST_ERR_LINK_DOWN = 1) ∧
  (∀ (s : State) (gen width : Nat) (flit : Bool), s.mod.refclkOk = true → 4 ≤ gen → gen ≤ 6 →
    width = 4 ∨ width = 8 ∨ width = 16 →
    ∃ t, exec (.hostLinkUp gen width flit) s = .next t ∧ t.reg Reg.GLB_STATUS_LINK_GEN = gen ∧
      t.reg Reg.GLB_STATUS_LINK_WIDTH = width ∧ t.reg Reg.GLB_STATUS_FLIT = b2n flit ∧ s.RegsKept (fun o => o == 0x8010) t ∧
      s.KeepsWork t ∧ t.pwr = s.pwr ∧ t.out = s.out) ∧
  (∀ (s : State), exec .configSpaceReady s = .next { s with host := { s.host with configReady := true } }) ∧
  (∀ (s : State) (o : BarOp),
     let a := s.reg Reg.GLB_STAGE_BASE_LO_BASE_LO * 2 ^ 20 + s.reg Reg.GLB_STAGE_BASE_HI_BASE_HI * 2 ^ 32 + o.off
     (o.isWrite = false → o.off + o.count ≤ 2 ^ 20 → ∃ t, exec (.bar4Access o) s = .next t ∧
       t.out.bar = s.out.bar ++ [(List.range o.count).map (fun i =>
         if s.openFrame ((a + i) / 65536) then Memory.read s.tier.near (a + i) else 0)] ∧ t.tier = s.tier ∧ t.data = s.data ∧
       ((∀ i, i < o.count → s.openFrame ((a + i) / 65536) = true) → t.regs = s.regs ∧ t.tink = s.tink)) ∧
     (o.isWrite = true → o.off + o.data.length ≤ 2 ^ 20 → ∃ t, exec (.bar4Access o) s = .next t ∧
       (∀ i (hi : i < o.data.length), Memory.read t.tier.near (a + i) =
         if s.openFrame ((a + i) / 65536) then o.data[i] else Memory.read s.tier.near (a + i)) ∧
       (∀ x, ¬(a ≤ x ∧ x < a + o.data.length) → Memory.read t.tier.near x = Memory.read s.tier.near x) ∧
       t.data = s.data ∧ t.tier.tt = s.tier.tt ∧
       ((∀ i, i < o.data.length → s.openFrame ((a + i) / 65536) = true) → t.regs = s.regs ∧ t.tink = s.tink)))

/-- MBX_DOORBELL, QUEUE_WAIT_TIMEOUT, DEVICE_QUERY and ROW_CONFIG (R79, R80, R511, R515, R519, R533): a SEND while BUSY is flagged, one of
an unlisted type BAD_ARG; a request whose wait times out is BUSY_RETRY; DEVICE_QUERY answers five registers; ROW_CONFIG at rest sets the
row settings.
RAIL_FAULT, REFCLK_FAULT, REFCLK_RECOVERED, FAILED_HBM_STACK, COUPLING_OPEN, COUPLING_CLOSED, UNDER_V, OVER_V and INLET_HIGH (R447,
R607, R610, R611, R619, R621, R624): a rail out of window, a lost clock and a failed stack are Module faults; a coupling sets or lifts the
thermal cap of P7; the alerts and readings show. -/
def Obligations.ModuleCommandsComplete : Prop :=
  (∀ (s : State) (h : Mail) (type : Nat), s.getF h.fn Reg.MBX_STATUS_BUSY = 1 →
    exec (.mbxDoorbell h type) s = .next (s.fnErr h.fn Reg.GLB_FN_ERR_MBX_DOORBELL)) ∧
  (∀ (s : State) (h : Mail) (type : Nat), s.Taken h type 0 h.payload.length → listedTypes.contains type = false →
    exec (.mbxDoorbell h type) s = .next (s.pageReply (h.ticket type) .badArg false [])) ∧
  (∀ (s : State) (h : Mail) (type : Nat), s.Taken h type 0 h.payload.length →
    exec (.queueWaitTimeout h type) s = .next (s.pageReply (h.ticket type) .busyRetry false [])) ∧
  (∀ (s : State) (h : Mail), s.Taken h 0x0101 0 8 →
    exec (.deviceQuery h) s = .next (s.replied h 0x0101 ([0x8000, 0x800C, 0x8010, 0x80010, 0x8001C].flatMap (fun o =>
      leBytes (s.readWord 0 o) 4)))) ∧
  (∀ (s : State) (h : Mail), s.Taken h 0x0102 0 12 → h.fn = 0 → rowCfgOk (h.u 8 4) = true → bits (h.u 8 4) 5 3 = 0 →
    bits (h.u 8 4) 28 4 = 0 → s.seqAtRest = true →
    exec (.rowConfig h) s = .next ((s.setRowCfg (h.u 8 4)).replied h 0x0102 [])) ∧
  (∀ (s : State) (v : Nat), (s.setRowCfg v).reg Reg.SEQ_ROW_CFG_ROW_LEN = bits v 0 5 ∧
    (s.setRowCfg v).reg Reg.SEQ_ROW_CFG_SELVAGE = bits v 8 4 ∧ (s.setRowCfg v).reg Reg.SEQ_ROW_CFG_MARGIN = bits v 16 8 ∧
    (s.setRowCfg v).tier = s.tier ∧ (s.setRowCfg v).data = s.data) ∧
  (∀ (s : State) (rail : Nat), s.mod.off = false → 8 ≤ rail → rail < 20 →
    let a := ((s.set Reg.TEL_STATUS_RAILS_OK 0).moduleFault 0xFF).powerOff (railFlush rail) (railWrite rail)
    exec (.railFault rail) s = .next { a with mod := { a.mod with lockedOff := true } }) ∧
  (∀ (s : State), s.mod.off = false → s.mod.refclkOk = true →
    let r := (s.moduleFault 0xFF).draw
    exec .refclkFault s = .next (State.linkLoss { r.2 with mod := { r.2.mod with refclkOk := false } } (r.1 % 256))) ∧
  (∀ (s : State), exec .refclkRecovered s = .next { s with mod := { s.mod with refclkOk := true } }) ∧
  (∀ (s : State) (stack : Nat), s.mod.off = false → stack < 8 →
    exec (.failedHbmStack stack) s = .next (s.moduleFault 0xFF)) ∧
  (∀ (s : State), s.mod.off = false → ∃ t, exec .couplingOpen s = .next t ∧ t.reg Reg.TEL_STATUS_COUPLED = 0 ∧
    t.reg Reg.TEL_ALERT_COUPLING_OPEN = 1 ∧ t.pwr.openCap = true ∧ 7 ≤ t.thermalCap ∧ s.KeepsWork t ∧ t.out = s.out) ∧
  (∀ (s : State), ∃ t, exec .couplingClosed s = .next t ∧ t.reg Reg.TEL_STATUS_COUPLED = 1 ∧ t.pwr.openCap = false ∧
    t.reg Reg.TEL_ALERT_COUPLING_OPEN = s.reg Reg.TEL_ALERT_COUPLING_OPEN ∧ s.KeepsWork t ∧ t.out = s.out) ∧
  (∀ (s : State) (below : Bool) (vin : Nat), vin < 65536 → ∃ t, exec (.underV below vin) s = .next t ∧
    t.reg Reg.TEL_INPUT_VIN = vin ∧ t.reg Reg.TEL_STATUS_UNDER_V = b2n below ∧ (below = true → t.reg Reg.TEL_ALERT_UNDER_V = 1) ∧
    s.RegsKept (fun o => o == 0x120008 || o == 0x12000C || o == 0x120010) t ∧ s.KeepsWork t) ∧
  (∀ (s : State) (vin : Nat), vin < 65536 → ∃ t, exec (.overV vin) s = .next t ∧ t.reg Reg.TEL_INPUT_VIN = vin ∧
    (5400 < vin → t.reg Reg.TEL_ALERT_OVER_V = 1) ∧ s.RegsKept (fun o => o == 0x120008 || o == 0x120010) t ∧ s.KeepsWork t) ∧
  (∀ (s : State) (temp : Nat), ∃ t, exec (.inletHigh temp) s = .next t ∧ Store.get? t.pwr.temps 58 = some (temp % 4096) ∧
    (360 < temp12 (temp % 4096) → t.reg Reg.TEL_ALERT_INLET_HIGH = 1) ∧ s.KeepsWork t)

/-! ### The fabric and the seam links -/

/-- FABRIC_JOIN, FABRIC_LEAVE, LINK_ATTACH, LINK_DETACH, LINK_QUERY, LINK_REKEY, FABRIC_RESYNC and FABRIC_SEQ_MAP (R399, R401, R403, R410,
R413, R415, R422): with no link UP a role is taken; a role that no template needs is left; a link begins to train, ends, answers, or is
re-keyed; ordinals restart; a stage writes or deletes the map of a sequence. -/
def Obligations.FabricMessagesComplete : Prop :=
  (∀ (s : State) (h : Mail), s.Taken h 0x0501 0 20 → h.fn = 0 → h.u 10 2 < 2048 → (∀ l, l < 16 → s.linkUp l = false) →
    let role := h.u 12 2
    let rin := h.u 14 2
    let rout := h.u 16 2
    let floor := h.u 18 2
    ((role = 0 ∧ rin = 0xFFFF ∧ rout = 0xFFFF) ∨ (role = 1 ∧ rin = 0xFFFF ∧ (rout < 16 ∨ rout = 0xFFFF) ∧ 50 ≤ floor ∧ floor ≤ 1000) ∨
      (role = 2 ∧ rin < 16 ∧ (rout = 0xFFFF ∨ (rout < 16 ∧ rin / 8 = rout / 8 ∧ rin ≠ rout)) ∧ 50 ≤ floor ∧ floor ≤ 1000)) →
    let a := ((s.set Reg.LNK_FABRIC_FABRIC_ID (h.u 8 2)).set Reg.LNK_FABRIC_MODULE_ID (h.u 10 2)).set Reg.LNK_FABRIC_ROLE role
    let a : State := { a with fab := { a.fab with rosterIn := linkField rin, rosterOut := linkField rout, floorW := if role = 0 then a.fab.floorW else floor } }
    exec (.fabricJoin h) s = .next (a.replied h 0x0501 []) ∧ a.reg Reg.LNK_FABRIC_ROLE = role ∧
      a.reg Reg.LNK_FABRIC_MODULE_ID = h.u 10 2) ∧
  (∀ (s : State) (h : Mail), s.Taken h 0x0502 0 8 → h.fn = 0 →
    (∀ t ∈ s.seq.templates, ∀ l, l < 16 → t.namesLink l = false) →
    let a : State := { s.set Reg.LNK_FABRIC_ROLE 0 with fab := { s.fab with rosterIn := none, rosterOut := none } }
    exec (.fabricLeave h) s = .next (a.replied h 0x0502 [])) ∧
  (∀ (s : State) (h : Mail), s.Taken h 0x0503 0 64 → h.fn = 0 → h.u 8 2 < 16 → h.u 10 2 < 2048 → h.u 12 20 = 0 →
    s.linkSt (h.u 8 2) = 0 ∨ s.linkSt (h.u 8 2) = 5 →
    ∃ t : State, exec (.linkAttach h) s = .next (t.replied h 0x0503 []) ∧ t.linkSt (h.u 8 2) = 1 ∧
      t.getF (linkFn (h.u 8 2)) Reg.LNK_CFG_ENABLED = 1 ∧ t.getF (linkFn (h.u 8 2)) Reg.LNK_CFG_PEER_EXPECT = h.u 10 2 ∧
      (t.link (h.u 8 2)).keyHash = BitVec.ofNat 256 (h.u 32 32) ∧
      (∀ k, k ≠ h.u 8 2 → t.linkSt k = s.linkSt k ∧ t.link k = s.link k) ∧ t.data = s.data ∧ t.tier = s.tier) ∧
  (∀ (s : State) (h : Mail), s.Taken h 0x0504 0 10 → h.fn = 0 → h.u 8 2 < 16 → s.linkInUse (h.u 8 2) = false →
    exec (.linkDetach h) s = .next ((s.detach (h.u 8 2)).replied h 0x0504 [])) ∧
  (∀ (s : State) (l : Nat), (s.detach l).linkSt l = 0 ∧ (s.detach l).link l = LinkCtl.empty ∧
    (∀ i ∈ (s.detach l).data.staging, i.link ≠ l) ∧ (∀ k, k ≠ l → (s.detach l).linkSt k = s.linkSt k) ∧
    (s.detach l).tier = s.tier) ∧
  (∀ (s : State) (h : Mail), s.Taken h 0x0505 0 10 → h.fn = 0 → h.u 8 2 < 16 →
    ∃ p, exec (.linkQuery h) s = .next (s.replied h 0x0505 p) ∧
      p.take 4 = leBytes (s.linkSt (h.u 8 2)) 2 ++ leBytes (s.getF (linkFn (h.u 8 2)) Reg.LNK_STATE_PEER_MODULE) 2) ∧
  (∀ (s : State) (h : Mail), s.Taken h 0x0506 0 10 → h.fn = 0 → h.u 8 2 < 16 → s.linkUp (h.u 8 2) = true →
    exec (.linkRekey h) s = .next ((s.rekey (h.u 8 2)).replied h 0x0506 [])) ∧
  (∀ (s : State) (h : Mail), s.Taken h 0x0507 0 (12 + 2 * h.u 8 4) → h.fn = 0 → 1 ≤ h.u 8 4 → h.u 8 4 ≤ 16 →
    s.reg Reg.SEQ_STATUS_STATE ≠ 1 →
    let links := (List.range (h.u 8 4)).map (fun i => h.u (12 + 2 * i) 2)
    (∀ l ∈ links, l < 16) →
    ∃ t : State, exec (.fabricResync h) s = .next (t.replied h 0x0507 []) ∧
      (∀ l ∈ links, t.link l = { s.link l with ordTx := 0, ordRx := 0, tokens := 0 } ∧ bit t.seq.resync l = false) ∧
      (∀ l, l ∉ links → t.link l = s.link l) ∧ t.regs = s.regs ∧ t.data = s.data ∧ t.tier = s.tier) ∧
  (∀ (s : State) (h : Mail),
    let n := h.u 32 4
    let sw := (List.range n).map (fun i => h.handle (40 + 8 * i))
    let p := if n = 0 then 36 else 40 + 8 * n
    let x : StageMap := ⟨h.fn, h.u 12 4, h.handle 16, h.handle 24, sw⟩
    let rest := s.fab.maps.filter (fun y => y.fn != h.fn || y.seqId != h.u 12 4)
    s.Taken h 0x0508 0 (p + 4) → h.u 8 2 = h.fn → h.fn ≤ 1024 → h.u 10 2 = 0 → n ≤ 8 → h.handleOk 16 = true →
    h.handleOk 24 = true → (∀ i, i < n → h.handleOk (40 + 8 * i) = true) → s.reg Reg.LNK_FABRIC_ROLE = 2 →
    (h.u p 4 = 1 → exec (.fabricSeqMap h) s = .next (State.replied { s with fab := { s.fab with maps := rest } } h 0x0508 [])) ∧
    (h.u p 4 = 0 → s.mapRefusal h.fn .kv x.kv = none → (x.motif ≠ Handle.none → s.mapRefusal h.fn .motif x.motif = none) →
      (∀ w ∈ sw, s.mapRefusal h.fn .swatch w = none) →
      exec (.fabricSeqMap h) s = .next (State.replied { s with fab := { s.fab with maps := rest ++ [x] } } h 0x0508 [])))

/-- R391, R396, R401, R424. A frame arrives on an UP link at full width and rate, and on a degraded one where it is of a kind that a
degraded link carries; its payload lines are counted and, but for a wake event in REST, nothing else changes. -/
def Obligations.FramesArrive : Prop :=
  ∀ (s : State) (l n : Nat) (onDegraded : Bool),
    (s.linkUp l = true → onDegraded = true ∨ s.getF (linkFn l) Reg.LNK_STATE_FULL = 1 → s.reg Reg.PWR_STATE_STATE ≠ 2 →
      ∃ a, s.arriveFrame l n onDegraded = some a ∧
        a.getF (linkFn l) Reg.LNK_RX_LO_RX_LO + 2 ^ 32 * a.getF (linkFn l) Reg.LNK_RX_HI_RX_HI =
          (s.getF (linkFn l) Reg.LNK_RX_LO_RX_LO + 2 ^ 32 * s.getF (linkFn l) Reg.LNK_RX_HI_RX_HI + n) % 2 ^ 64 ∧
        s.KeepsWork a ∧ a.pwr = s.pwr ∧ a.out = s.out ∧
        (∀ (fn : Nat) (f : Fld), f.off < 0x200000 → f.lo < 32 → fn ≠ linkFn l ∨ (f.off ≠ 0xA0024 ∧ f.off ≠ 0xA0028) →
          a.getF fn f = s.getF fn f)) ∧
    (s.linkUp l = false → s.arriveFrame l n onDegraded = none)

/-- ITEM, COMMIT, DISCARD, ROW_DONE, ROW_FAULT, ROSTER, BREAD_REQ, BREAD_CPL and HANK_DIR frames (R40, R45, R100, R102, R140, R355, R356, R394,
R408 to R410, R414, R415): an arriving frame stages its lines, commits or drops its tag, counts its token or faults the job, fills a
roster buffer, is served from a lent hank, lands a fetch, or writes a lent hank's directory. -/
def Obligations.PatternFramesComplete : Prop :=
  (∀ (s a : State) (o : ItemOp), s.arriveFrame o.link o.lines.length false = some a → 1 ≤ o.lines.length → o.lines.length ≤ 8 →
    o.first + o.lines.length ≤ o.total →
    (o.first = 0 → (∀ i ∈ a.data.staging, ¬(i.link = o.link ∧ i.ctag = o.ctag ∧ i.seq = o.seq)) →
      exec (.itemFrame o) s = .next (State.showStaging { a with data := { a.data with
        staging := a.data.staging ++ [Staged.mk o.link o.ctag o.seq o.cls o.total o.lines false 0] } } o.link)) ∧
    (∀ i, a.data.staging.find? (fun i => i.link == o.link && i.ctag == o.ctag && i.seq == o.seq) = some i →
      i.total = o.total → i.cls = o.cls → o.first = i.lines.length →
      exec (.itemFrame o) s = .next (State.showStaging { a with data := { a.data with
        staging := a.data.staging.map (fun (x : Staged) =>
          if x.link == o.link && x.ctag == o.ctag && x.seq == o.seq then { x with lines := x.lines ++ o.lines } else x) } } o.link))) ∧
  (∀ (s a : State) (o : TagOp), s.arriveFrame o.link 0 false = some a →
    exec (.commitFrame o) s = .next { a with data := { a.data with staging := a.data.staging.map (fun (x : Staged) =>
      if x.link = o.link ∧ x.ctag = o.ctag then { x with committed := true } else x) } }) ∧
  (∀ (s a : State) (o : TagOp), s.arriveFrame o.link 0 false = some a → ∃ t, exec (.discard o) s = .next t ∧
    t.data.staging = a.data.staging.filter (fun i => i.link != o.link || i.ctag != o.ctag) ∧ t.tier = s.tier ∧ t.seq = s.seq) ∧
  (∀ (s a : State) (o : TokenOp), s.arriveFrame o.link 0 false = some a → o.ordinal = (a.link o.link).ordRx →
    let c := a.link o.link
    let b := a.setLink o.link { c with ordRx := (c.ordRx + 1) % 2 ^ 48, tokens := c.tokens + 1 }
    exec (.rowDone o) s = .next b ∧ exec (.rowFault o) s = .next (b.faultResponse 0 2)) ∧
  (∀ (s a : State) (o : RosterFrameOp), s.arriveFrame o.link (ceilDiv (32 + o.bytes.length) 256) false = some a →
    a.reg Reg.LNK_FABRIC_ROLE = 2 → a.fab.rosterIn = some o.link → a.fab.rosterOut = none →
    let r := Roster.ofBytes o.bytes
    let busy := a.reg Reg.SEQ_ROSTER_READY_READY ||| a.reg Reg.SEQ_ROSTER_LOCK_LOCK
    let k := if bit busy (2 * r.model) then 2 * r.model + 1 else 2 * r.model
    let mapped := (a.stageTemplate r.model o.seqCap o.tokCap o.ctxClass).bind (a.mapRoster r)
    let bytes := mapped.elim o.bytes Roster.bytes
    r.model < 8 →
    ∃ t, exec (.rosterFrame o) s = .next t ∧ bit (t.reg Reg.SEQ_ROSTER_READY_READY) k = true ∧
      (k ∈ t.fab.badRosters ↔ mapped = none) ∧
      (∀ i (hi : i < bytes.length), Memory.read t.tier.near (rosterAddr k + i) = bytes[i]) ∧
      (∀ x, ¬(rosterAddr k ≤ x ∧ x < rosterAddr k + bytes.length) → Memory.read t.tier.near x = Memory.read s.tier.near x) ∧
      t.data = s.data ∧ t.seq = s.seq) ∧
  (∀ (s a : State) (o : BreadReqOp) (x : LentHank), s.arriveFrame o.link 0 false = some a →
    Store.get? a.tier.lent o.hank = some x → x.link = o.link →
    ((∃ e ∈ x.extents, e.2.fn = o.fn ∧ e.2.idx = o.idx ∧ e.2.gen = o.gen ∧ e.2.first ≤ o.first ∧
        o.first + o.count ≤ e.2.first + e.2.count) →
      exec (.breadReq o) s = .next (a.send o.link (.breadCpl o.tag false ((range (x.base + o.first) o.count).map a.nearLine)))) ∧
    (x.extents = [] → exec (.breadReq o) s =
      .next ((a.inc Reg.MOV_STALE_SERVED_SERVED 1).send o.link (.breadCpl o.tag true [])))) ∧
  (∀ (s : State) (o : BreadCplOp) (r : FetchReq), s.data.fetches.find? (fun q => q.id == o.tag) = some r → o.ecc = false →
    o.stale = false → ∃ t, exec (.breadCpl o) s = .next t ∧ s.LinesAre t r.dst (o.lines.take r.count) ∧
      (∀ q ∈ t.data.fetches, q.id ≠ r.id) ∧ (∀ p ∈ t.data.pendLines, p.2 ≠ r.id) ∧ s.Outside t) ∧
  (∀ (s a : State) (o : HankDirOp) (x : LentHank), s.arriveFrame o.link 1 false = some a →
    Store.get? a.tier.lent o.hank = some x → x.link = o.link → o.extent < 64 → o.entry.first + o.entry.count ≤ 2 ^ 22 →
    (o.valid = true → ∃ t, exec (.hankDir (.arrives o)) s = .next t ∧
      Store.get? t.tier.lent o.hank = some { x with extents := Store.put x.extents o.extent o.entry } ∧
      t.tier.near = s.tier.near ∧ t.tier.tt = s.tier.tt) ∧
    (o.valid = false → ∀ e, Store.get? x.extents o.extent = some e → ∃ t, exec (.hankDir (.arrives o)) s = .next t ∧
      Store.get? t.tier.lent o.hank = some { x with extents := Store.erase x.extents o.extent } ∧
      (∀ y, 256 * (x.base + e.first) ≤ y → y < 256 * (x.base + e.first) + 256 * e.count → Memory.read t.tier.near y = 0) ∧
      (∀ y, ¬(256 * (x.base + e.first) ≤ y ∧ y < 256 * (x.base + e.first) + 256 * e.count) →
        Memory.read t.tier.near y = Memory.read s.tier.near y))) ∧
  (∀ (s s1 : State) (h : Handle) (t : Tensor) (x : BorrowedHank) (link hank e : Nat), s.tensor? h = some t →
    Store.get? s.tier.borrowed (512 * link + hank) = some x → s.linkUp link = true → x.recallAt = none →
    s.moveRefusal t.fn true (MoveDesc.reloc t .borrowed) = none → s.pair t = [t] → t.dirty = false →
    (s.quota t.fn).borrowUsed + t.units ≤ (s.quota t.fn).borrowLimit → s.takeExtent link hank t = some (e, s1) →
    let q := s.quota t.fn
    exec (.hankDir (.places h link hank)) s = .next ((s1.setQuota t.fn { q with borrowUsed := q.borrowUsed + t.units }).beginMove
      (Move.new t.fn .evict (MoveDesc.reloc t .borrowed) [⟨if t.tier = .near then .near else .deep, t.loc, .borrowed, e, t.size⟩] [e] false)))

/-- BULK, BULK_CTL OPEN, ACCEPT, REFUSE, ACK, RESUME and CLOSE, and RELAY_TIMEOUT (R109, R167, R418 to R421): a stream that a load
expects is accepted and passed on; its lines land in the shards; the last granule and CLOSE end it; a sender answers ACCEPT and RESUME out of
its landed copy; a receiver that waits too long fails. -/
def Obligations.BulkFramesComplete : Prop :=
  (∀ (s a : State) (o : BulkOpenOp) (r : Relay), s.arriveFrame o.link 1 true = some a →
    a.fab.relays.find? (fun r => r.linkIn == some o.link && r.slot == o.slot && !r.opened) = some r → r.sizes = o.sizes →
    let b := (a.setRelay r { r with stream := o.stream, opened := true, expected := o.digest }).send o.link (.bulkAccept o.stream)
    exec (.bulkOpen o) s = .next (r.linkOut.elim b (fun l => b.send l (.bulkOpen o.stream o.slot o.sizes o.digest)))) ∧
  (∀ (s a : State) (o : BulkCtlOp) (r : Relay), s.arriveFrame o.link 0 true = some a → a.relayOut o.link o.stream = some r →
    exec (.bulkRefuse o) s = .next (a.setRelay r { r with accepted := false, outStatus := o.status }) ∧
    (let b := a.setRelay r { r with accepted := true }
     let x := b.model r.slot
     exec (.bulkAccept o) s = .next (if x.state = 2 then b.sendStream r x x.digest 0
       else if r.linkIn.isSome then b.sendGranules r x 0 r.granules else b)) ∧
    (let x := a.model r.slot
     exec (.bulkResume o) s = .next (if x.state = 2 then a.sendStream r x x.digest o.granule
       else if r.linkIn.isSome then a.sendGranules r x o.granule r.granules else a))) ∧
  (∀ (s a : State) (o : BulkCtlOp), s.arriveFrame o.link 0 true = some a → exec (.bulkAck o) s = .next a) ∧
  (∀ (s a : State) (o : BulkCtlOp) (r : Relay), s.arriveFrame o.link 1 true = some a → a.relayIn o.link o.stream = some r →
    (a.model r.slot).state = 1 →
    let r' := { r with closed := some o.digest }
    exec (.bulkClose o) s = .next ((a.setRelay r r').endRelay r')) ∧
  (∀ (s a : State) (o : BulkOp) (r : Relay), s.arriveFrame o.link o.lines.length true = some a →
    a.relayIn o.link o.stream = some r → r.linkOut = none → (a.model r.slot).state = 1 → o.granule = r.granules →
    let places := a.relayPlaces (a.model r.slot)
    let lines := (places.map (·.2)).foldl (· + ·) 0
    4096 * o.granule + o.first + o.lines.length ≤ lines →
    let b := o.lines.zipIdx.foldl (fun (s : State) (p : LineData × Nat) =>
      (placeOf places (4096 * o.granule + o.first + p.2)).elim s (fun x => s.writeNear x [p.1])) a
    (o.first + o.lines.length < min 4096 (lines - 4096 * o.granule) → exec (.bulkFrame o) s = .next b) ∧
    (min 4096 (lines - 4096 * o.granule) ≤ o.first + o.lines.length →
      let r' := { r with granules := r.granules + 1 }
      exec (.bulkFrame o) s = .next (((b.setRelay r r').send o.link (.bulkAck o.stream o.granule)).endRelay r'))) ∧
  (∀ (s a : State) (o : BulkOp) (r : LongRecv), s.arriveFrame o.link o.lines.length true = some a →
    a.relayIn o.link o.stream = none → a.fab.longs.find? (fun r => r.link == o.link) = some r →
    exec (.bulkFrame o) s = .next (a.landLong r o)) ∧
  (∀ (s : State) (slot : Nat) (r : Relay),
    s.fab.relays.find? (fun r => r.slot == slot && r.linkIn.isSome && r.opened) = some r → (s.model slot).state = 1 →
    exec (.relayTimeout slot) s = .next (s.failRelay r .faulted))

/-- KEY_READY, CHANNEL_ERROR, AUTH_FAIL, REKEY_DUE and OLD_KEY_EXPIRY (R396, R399, R400): keys flip when both ends have confirmed them;
replays and failed tags are counted, a burst of them takes the link DOWN; a re-key runs, or is late.
LINK_RETRAIN, LINK_RETRAIN_DONE, LINK_TRAINED, LINK_SECURED, LOSS_OF_SIGNAL, LINK_RETRY, BEACON_PULSE and BEACON_LOST (R396, R398, R401,
R402, R404, R411, R412): a link moves through its states as training, pairing and the channel go; the Row Beacon counts, locks and unlocks. -/
def Obligations.LinkEventsComplete : Prop :=
  (∀ (s a : State) (l : Nat), s.arriveFrame l 0 true = some a →
    ((a.link l).ownReady = true → exec (.keyReady l) s = .next (a.flipKeys l)) ∧
    ((a.link l).ownReady = false →
      let c := a.link l
      exec (.keyReady l) s = .next (a.setLink l { c with peerReady := true }))) ∧
  (∀ (s : State) (l : Nat), s.getF (linkFn l) Reg.LNK_STATE_KEY_PHASE < 2 →
    let t := s.flipKeys l
    t.getF (linkFn l) Reg.LNK_STATE_KEY_PHASE = 1 - s.getF (linkFn l) Reg.LNK_STATE_KEY_PHASE ∧
      (t.link l).frames = 0 ∧ (t.link l).oldKeys = true ∧
      t.getF (linkFn l) Reg.LNK_REKEYS_REKEYS = (s.getF (linkFn l) Reg.LNK_REKEYS_REKEYS + 1) % 2 ^ 32 ∧ t.data = s.data) ∧
  (∀ (s : State) (o : ChannelErrOp), s.linkUp o.link = true → ∃ t, exec (.channelError o) s = .next t ∧
    t.getF (linkFn o.link) Reg.LNK_REPLAY_REPLAYS = (s.getF (linkFn o.link) Reg.LNK_REPLAY_REPLAYS + o.replays) % 2 ^ 32 ∧
    t.getF (linkFn o.link) Reg.LNK_FEC_CE_CE = (s.getF (linkFn o.link) Reg.LNK_FEC_CE_CE + o.corrected) % 2 ^ 32 ∧
    (t.link o.link).frames = (s.link o.link).frames + o.replays ∧ t.data = s.data ∧ t.tier = s.tier ∧ t.seq = s.seq) ∧
  (∀ (s : State) (o : AuthFailOp), s.linkUp o.link = true →
    let a := s.setF (linkFn o.link) Reg.LNK_AUTH_FAIL_FAILS (s.getF (linkFn o.link) Reg.LNK_AUTH_FAIL_FAILS + 1)
    (o.recent < 16 → exec (.authFail o) s = .next a) ∧
    (16 ≤ o.recent → exec (.authFail o) s = .next (((a.linkErr o.link Reg.LNK_ERR_AUTH_BURST).tinkLog 0x0703 noFn
      (leBytes o.link 1 ++ leBytes 0 7 ++ leBytes o.counter 8)).goDown o.link 3 true))) ∧
  (∀ (s : State) (o : RekeyOp), s.linkUp o.link = true →
    (o.late = false → (s.link o.link).frames < 2 ^ 41 → exec (.rekeyDue o) s = .next (s.rekey o.link)) ∧
    (o.late = true ∨ 2 ^ 41 ≤ (s.link o.link).frames → exec (.rekeyDue o) s =
      .next ((s.linkErr o.link Reg.LNK_ERR_REKEY_LATE).goDown o.link 4 false))) ∧
  (∀ (s : State) (l : Nat), let c := s.link l
    exec (.oldKeyExpiry l) s = .next (s.setLink l { c with oldKeys := false })) ∧
  (∀ (s : State) (l : Nat), s.linkUp l = true →
    let a := (s.setF (linkFn l) Reg.LNK_STATE_STATE 4).showUp
    let a := a.setF (linkFn l) Reg.LNK_RETRAINS_RETRAINS (a.getF (linkFn l) Reg.LNK_RETRAINS_RETRAINS + 1)
    let c := a.link l
    exec (.linkRetrain l) s = .next ((a.setLink l { c with retrains := 0 }).loseLink l) ∧
    exec (.lossOfSignal l) s = .next (s.goDown l 0 false)) ∧
  (∀ (s : State) (o : TrainOp), s.linkSt o.link = 4 →
    let c := s.link o.link
    (o.good = true → exec (.linkRetrainDone o) s = .next ((((s.setF (linkFn o.link) Reg.LNK_STATE_STATE 3).setLink o.link
      { c with retrains := 0 }).showWidth o.link o.twoLane o.halfRate).checkWidth o.link)) ∧
    (o.good = false → exec (.linkRetrainDone o) s = .next (if 2 ≤ c.retrains then s.goDown o.link 1 false
      else s.setLink o.link { c with retrains := c.retrains + 1 }))) ∧
  (∀ (s : State) (o : TrainOp), s.linkSt o.link = 1 →
    let c := s.link o.link
    (o.good = true → ∃ t, exec (.linkTrained o) s = .next t ∧ t.linkSt o.link = 2 ∧
      t.getF (linkFn o.link) Reg.LNK_STATE_FULL = b2n (!o.twoLane && !o.halfRate) ∧
      t.getF (linkFn o.link) Reg.LNK_STATE_TWO_LANE = b2n o.twoLane ∧
      t.getF (linkFn o.link) Reg.LNK_STATE_HALF_RATE = b2n o.halfRate ∧ s.KeepsWork t ∧ t.out = s.out) ∧
    (o.good = false → c.trainFails < 2 →
      exec (.linkTrained o) s = .next (s.setLink o.link { c with trainFails := c.trainFails + 1 }))) ∧
  (∀ (s : State) (o : PairOp), s.linkSt o.link = 2 → o.moduleId < 2048 →
    (o.chains = true → o.keyHash = (s.link o.link).keyHash → o.fabricId = s.reg Reg.LNK_FABRIC_FABRIC_ID →
      o.moduleId = s.getF (linkFn o.link) Reg.LNK_CFG_PEER_EXPECT → s.getF (linkFn o.link) Reg.LNK_STATE_FULL = 1 →
      s.fab.relays = [] → s.fab.longs = [] →
      ∃ t, exec (.linkSecured o) s = .next t ∧ t.linkSt o.link = 3 ∧
        t.getF (linkFn o.link) Reg.LNK_STATE_PEER_MODULE = o.moduleId ∧ (t.link o.link).gens = 1 ∧
        (t.link o.link).ordTx = 0 ∧ (t.link o.link).ordRx = 0 ∧ t.data = s.data ∧ t.tier = s.tier ∧ t.seq = s.seq) ∧
    (o.chains = false → exec (.linkSecured o) s = .next (((s.linkErr o.link Reg.LNK_ERR_PEER_MISMATCH).tinkLog 0x0707 noFn
      (leBytes o.link 1 ++ leBytes 0 1 ++ leBytes o.moduleId 2 ++ leBytes o.fabricId 2)).goDown o.link 5 true))) ∧
  (∀ (s : State) (l : Nat), s.linkSt l = 5 → (s.link l).noRetry = false → (s.link l).retries < 3 →
    let c := s.link l
    exec (.linkRetry l) s = .next ((s.setF (linkFn l) Reg.LNK_STATE_STATE 1).setLink l
      { c with retries := c.retries + 1, trainFails := 0 })) ∧
  (∀ (s : State) (periodNs : Nat), s.flag Reg.LNK_CTRL_BEACON_IN_EN = true →
    let nominal := 1000 * (s.reg Reg.SEQ_ROW_CFG_ROW_LEN + 1)
    let near := 200 * (max periodNs nominal - min periodNs nominal) ≤ nominal
    ∃ t, exec (.beaconPulse periodNs) s = .next t ∧ (near → t.fab.pulses = s.fab.pulses + 1) ∧ (¬near → t.fab.pulses = 0) ∧
      (near → 3 ≤ s.fab.pulses → t.reg Reg.LNK_BEACON_LOCKED = 1) ∧
      t.reg Reg.LNK_BEACON_CNT_LO_CNT_LO = (s.reg Reg.LNK_BEACON_CNT_LO_CNT_LO + 1) % 2 ^ 32 ∧
      s.RegsKept (fun o => o == 0xA0068 || o == 0xA006C || o == 0xA0070) t ∧ t.data = s.data ∧ t.tier = s.tier) ∧
  (∀ (s : State), s.flag Reg.LNK_BEACON_LOCKED = true → ∃ t, exec .beaconLost s = .next t ∧ t.reg Reg.LNK_BEACON_LOCKED = 0 ∧
    t.reg Reg.LNK_ERR_BEACON_LOST = 1 ∧ t.fab = { s.fab with pulses := 0 } ∧ t.data = s.data ∧ t.tier = s.tier)

/-! ### Twin sets and lifelines -/

/-- TWIN_DECLARE, TWIN_DISSOLVE, TWIN_QUERY, TWIN_TAKEOVER and TWIN_RESYNC (R425, R426, R438, R441): a set that both modules declare and
nothing bars starts to synchronise in the declared role; any set can be dissolved; a query answers; the mirror takes over after the
silence; a resynchronisation starts and answers later. -/
def Obligations.TwinMessagesComplete : Prop :=
  (∀ (s : State) (h : Mail) (o : PeerOp),
    let role := h.u 8 2
    let n := h.u 12 4
    let links := (List.range n).map (fun i => h.u (16 + 2 * i) 2)
    let p := ceilDiv (16 + 2 * n) 4 * 4
    let rows := h.u p 4
    let mib := h.u (p + 4) 4
    s.Taken h 0x0520 0 (p + 12) → h.fn = 0 → role = 1 ∨ role = 2 → h.u 10 2 < 2048 → 2 ≤ n → n ≤ 8 → (∀ l ∈ links, l < 16) →
    links.dedup.length = n → 256 ≤ rows → rows ≤ 65536 → rows % 256 = 0 → 1 ≤ mib → mib < 65536 → h.u (p + 8) 4 ≤ 1 →
    h.u (16 + 2 * n) (p - 16 - 2 * n) = 0 →
    (∀ l ∈ links, s.linkFull l = true ∧ ∀ t ∈ s.seq.templates, t.namesLink l = false) → s.twn = 0 →
    s.reg Reg.LNK_FABRIC_ROLE = 0 → o.free = true → o.came = true → o.same = true → o.agrees = true → s.tenantsKeyed = true →
    (∀ t ∈ s.seq.templates, s.tooWide t n = false) →
    let a := (s.set Reg.TWN_DIGEST_CFG_INTERVAL (rows / 256 - 1)).set Reg.TWN_DIGEST_CFG_SWEEP mib
    exec (.twinDeclare h o) s = .next ((a.startTwin role (h.u 10 2) ((links.map (2 ^ ·)).foldl (· + ·) 0)
      (bit (h.u (p + 8) 4) 0)).replied h 0x0520 [])) ∧
  (∀ (s : State) (role peer links : Nat) (auto : Bool), role = 1 ∨ role = 2 → peer < 2048 → s.tier.tt = [] → s.tier.ctx = [] →
    let t := s.startTwin role peer links auto
    t.reg Reg.TWN_STATE_STATE = 1 ∧ t.reg Reg.TWN_STATE_ROLE = role ∧ t.reg Reg.TWN_STATE_PEER = peer ∧
      t.reg Reg.TWN_MSEQ_SENT_MSEQ = 0 ∧ t.twin = { TwinState.reset with lifelines := s.twin.lifelines }) ∧
  (∀ (s : State) (h : Mail), s.Taken h 0x0521 0 8 → h.fn = 0 → s.twn ≠ 0 →
    exec (.twinDissolve h) s = .next (s.dissolve.replied h 0x0521 [])) ∧
  (∀ (s : State), s.twin.waiting = [] → s.twin.resync = none → s.dissolve.reg Reg.TWN_STATE_STATE = 0 ∧
    s.dissolve.reg Reg.TWN_STATE_ROLE = 0 ∧ s.dissolve.reg Reg.TWN_LINKS_TWIN = 0 ∧ s.dissolve.tier = s.tier ∧
    s.dissolve.serve = s.serve ∧ s.dissolve.data = s.data) ∧
  (∀ (s : State) (h : Mail), s.Taken h 0x0522 0 8 → h.fn = 0 → ∃ p, exec (.twinQuery h) s = .next (s.replied h 0x0522 p) ∧
    p.take 8 = leBytes s.twn 2 ++ leBytes (s.reg Reg.TWN_STATE_PEER) 2 ++ leBytes (s.reg Reg.TWN_MSEQ_SENT_MSEQ) 4) ∧
  (∀ (s : State) (h : Mail), s.Taken h 0x0523 0 8 → h.fn = 0 → s.twn = 2 → s.isMirror = true → s.twin.lost = true →
    s.twin.silent = true → exec (.twinTakeover h) s = .next (s.takeOver.replied h 0x0523 [])) ∧
  (∀ (s : State), s.takeOver.reg Reg.SEQ_CTRL_RUN = 1 ∧ (s.tier.ctx = [] → s.takeOver.reg Reg.TWN_STATE_STATE = 3)) ∧
  (∀ (s : State) (h : Mail) (o : PeerOp), s.Taken h 0x0524 0 12 → h.fn = 0 → h.u 8 2 = 1 ∨ h.u 8 2 = 2 → h.u 10 2 < 2048 →
    s.twn = 3 ∨ (s.twn = 4 ∧ h.u 8 2 = 2) ∨ (s.twn = 5 ∧ s.twin.restored = true) → o.came = true → o.agrees = true →
    o.free = true → (∀ l ∈ setBits s.twinLinks 16, s.linkFull l = true) →
    let a := s.startTwin (h.u 8 2) (h.u 10 2) s.twinLinks (s.flag Reg.TWN_STATE_AUTO_TAKEOVER)
    exec (.twinResync h o) s = .next (State.waiting { a with twin := { a.twin with resync := some (h.ticket 0x0524) } } h 0x0524))

/-- TWIN WRITE, COMMIT, DISCARD, CTX, TABLE, ROSTER, ACK, HEARTBEAT and SYNC (R426, R428 to R431, R436): on the mirror lines land and
records are taken in MSEQ order; an ACK writes the entries that it covers; a granule of the synchronisation lands. -/
def Obligations.TwinFramesComplete : Prop :=
  (∀ (s b : State) (o : TwinWriteOp) (t : Tensor), s.TwinArrives o.link o.lines.length b → b.isMirror = true →
    b.entry (ttKey o.handle.fn o.handle.idx) = some t → t.tier = .near → o.first + o.lines.length ≤ t.size →
    ∃ u, exec (.twinWrite o) s = .next u ∧ (range (t.loc + o.first) o.lines.length).map u.nearLine = o.lines ∧
      (∀ x, x ∉ range (t.loc + o.first) o.lines.length → u.nearLine x = s.nearLine x) ∧
      Store.get? u.tier.tt t.key = some { t with incomplete := true, lastUse := b.row } ∧
      t.key ∈ Store.getD u.twin.staged o.ctag [] ∧ u.data = s.data ∧ u.serve = s.serve) ∧
  (∀ (s b : State) (o : TwinRecOp), s.TwinArrives o.link 0 b → b.isMirror = true → (∃ tag ends, o.body = .commit tag ends) →
    exec (.twinCommit o) s = .next (b.takeRec o.mseq o.body)) ∧
  (∀ (s b : State) (o : TwinRecOp), s.TwinArrives o.link 1 b → b.isMirror = true →
    ((∃ fn st l hs, o.body = .ctx fn st l hs) → exec (.twinCtx o) s = .next (b.takeRec o.mseq o.body)) ∧
    ((∃ fn idx e, o.body = .table fn idx e) → exec (.twinTable o) s = .next (b.takeRec o.mseq o.body)) ∧
    ((∃ m k r q, o.body = .roster m k r q) → exec (.twinRoster o) s = .next (b.takeRec o.mseq o.body)) ∧
    ((∃ id l, o.body = .tokens id l) → exec (.twinRoster o) s = .next (b.takeRec o.mseq o.body))) ∧
  (∀ (s : State) (m : Nat) (r : TwinRec), m = (s.reg Reg.TWN_MSEQ_SENT_MSEQ + 1) % 2 ^ 32 → s.twin.later = [] →
    s.holdsRec r = false → s.takeRec m r = ((s.applyRec r).set Reg.TWN_MSEQ_SENT_MSEQ m).takePoint) ∧
  (∀ (s b : State) (o : TwinTagOp), s.TwinArrives o.link 0 b →
    exec (.twinDiscard o) s = .next { b with twin := { b.twin with staged := Store.erase b.twin.staged o.ctag } }) ∧
  (∀ (s b : State) (o : TwinAckOp), s.TwinArrives o.link 0 b → b.isMirror = false → b.twn = 1 ∨ b.twn = 2 →
    let late := decide (b.reg Reg.TWN_ACK_MARK_THRESH < o.waitUs)
    let c := (b.set Reg.TWN_MSEQ_ACK_MSEQ o.mseq).peak Reg.TWN_ACK_PEAK_PEAK_US o.waitUs
    let c := c.sample 0 Reg.TWN_ACK_MARK_STATUS Reg.TWN_ACK_MARK_INT_EN Reg.TWN_ACK_CROSS_CROSSINGS late
    let c := if late then c.tinkLog 0x0802 noFn (leBytes o.mseq 4 ++ leBytes o.waitUs 4) else c
    exec (.twinAck o) s = .next (c.releaseUpTo o.mseq)) ∧
  (∀ (s b : State) (l : Nat), s.TwinArrives l 0 b → exec (.twinHeartbeat l) s = .next b) ∧
  (∀ (s b : State) (o : TwinSyncOp) (t : Tensor), s.TwinArrives o.link o.lines.length b → b.isMirror = true → b.twn = 1 →
    b.entry (ttKey o.handle.fn o.handle.idx) = some t → b.twin.repair = [] → 4096 * o.granule + o.lines.length ≤ t.size →
    let c := b.putCells t.fn t.tier t.loc (256 * (4096 * o.granule)) (256 * o.lines.length) (cellsOf o.lines)
    exec (.twinSync o) s = .next { c with twin := { c.twin with
      synced := c.twin.synced || o.last, copied := c.twin.copied + 256 * o.lines.length, repair := [] } })

/-- TWIN_ACK_SEND, TWIN_HEARTBEAT_SEND, DIGEST_POINT, DIGEST_COMPUTED, TWIN DIGEST and their comparison (R430, R433 to R436): the mirror
acknowledges what it has applied; heartbeats go out on every twin link; the primary opens a point, both modules compute and compare it, and
a match is recorded.
TWIN FAULT and DROP frames, TWIN_DROP_REPEAT, TWIN_FENCE, ACK_TIMEOUT, TWIN_LOSS and TWIN_AUTO_TAKEOVER (R436 to R439): the mirror
declares loss and takes over where it may; a dropped or isolated module is FENCED; a primary that waits too long goes on SOLO. -/
def Obligations.DigestsAndFailoverComplete : Prop :=
  (∀ (s : State), s.isMirror = true → s.twn = 1 ∨ s.twn = 2 → s.heldRecs = [] →
    s.reg Reg.TWN_MSEQ_ACK_MSEQ ≠ s.reg Reg.TWN_MSEQ_SENT_MSEQ →
    let m := s.reg Reg.TWN_MSEQ_SENT_MSEQ
    exec .twinAckSend s = .next ((s.sendTwin (.twinAck m)).set Reg.TWN_MSEQ_ACK_MSEQ m)) ∧
  (∀ (s : State) (live : Nat), s.twn ≠ 0 → exec (.twinHeartbeatSend live) s =
    .next ((s.sendAll s.twinLinks (.twinHeartbeat (s.reg Reg.TWN_MSEQ_SENT_MSEQ) s.row)).set Reg.TWN_LINKS_LIVE
      (live &&& s.twinLinks))) ∧
  (∀ (s : State), s.isMirror = false → s.twn = 1 ∨ s.twn = 2 → s.seq.active = false →
    256 * (s.reg Reg.TWN_DIGEST_CFG_INTERVAL + 1) ≤ s.twin.rows →
    (s.twin.point = none →
      let m := s.reg Reg.TWN_MSEQ_SENT_MSEQ
      let num := s.reg Reg.TWN_POINTS_POINTS
      let a : State := { s with twin := { s.twin with point := some ⟨num, m, s.row, none⟩, rows := 0 } }
      exec .digestPoint s = .next (a.sendTwin (.twinDigest m num 0)).takePoint) ∧
    (s.twin.point.isSome = true → s.twin.late = false → ∃ t, exec .digestPoint s = .next t ∧
      t.twin = { s.twin with late := true } ∧ t.reg Reg.TWN_DIGEST_LATE_LATE = (s.reg Reg.TWN_DIGEST_LATE_LATE + 1) % 2 ^ 32 ∧
      s.RegsKept (fun o => o == 0xB0020) t ∧ t.out = s.out)) ∧
  (∀ (s : State) (p : DigestPoint) (d : BitVec 256), s.twin.point = some p → p.value = some d → s.twin.own = none →
    let a : State := { s with twin := { s.twin with own := some d } }
    exec .digestComputed s = .next ((a.sendTwin (.twinDigest p.mseq p.num d)).comparePoint none)) ∧
  (∀ (s b : State) (o : TwinDigestOp), s.TwinArrives o.link 1 b →
    (b.twin.point = none → b.isMirror = true → b.twn = 1 ∨ b.twn = 2 →
      exec (.twinDigest o) s =
        .next (State.takePoint { b with twin := { b.twin with point := some ⟨o.point, o.mseq, b.row, none⟩ } })) ∧
    (∀ p, b.twin.point = some p → p.num = o.point → o.digest ≠ 0 → exec (.twinDigest o) s =
      .next (State.comparePoint { b with twin := { b.twin with peer := some o.digest } } o.err))) ∧
  (∀ (s : State) (p : DigestPoint) (d : BitVec 256) (err : Option (Nat × Nat × Nat)), s.twin.point = some p →
    s.twin.own = some d → s.twin.peer = some d → s.twin.lifelines = [] → s.twn ≠ 1 →
    let t := s.comparePoint err
    t.twin.point = none ∧ t.reg Reg.TWN_POINTS_POINTS = (s.reg Reg.TWN_POINTS_POINTS + 1) % 2 ^ 32 ∧
      t.reg Reg.TWN_LAST_MATCH_LO_ROW_LO = p.row % 2 ^ 32 ∧ t.reg Reg.TWN_STATE_STATE = s.twn ∧ t.tier = s.tier) ∧
  (∀ (s b : State) (o : TwinTagOp), s.TwinArrives o.link 0 b → b.isMirror = true →
    (b.twn = 2 → exec (.twinFault o) s =
      .next (if (b.declareLoss true).flag Reg.TWN_STATE_AUTO_TAKEOVER then (b.declareLoss true).takeOver else b.declareLoss true)) ∧
    (b.twn = 1 ∨ b.twn = 2 → exec (.twinDrop o) s = .next b.fence)) ∧
  (∀ (s : State) (fault : Bool), s.twn = 2 → s.isMirror = true → s.twin.lost = false →
    exec .twinLoss s = .next (s.declareLoss false) ∧ (s.declareLoss fault).twin.lost = true ∧
      (s.declareLoss fault).twin.staged = [] ∧ (s.declareLoss fault).tier = s.tier) ∧
  (∀ (s : State), s.twin.dropping = true →
    exec .twinDropRepeat s = .next (s.sendAll s.twinLinks (.twinDrop (s.reg Reg.TWN_MSEQ_ACK_MSEQ)))) ∧
  (∀ (s : State), s.twn = 2 → s.isMirror = false → exec .twinFence s = .next s.fence) ∧
  (∀ (s : State), s.seq.active = true → s.reg Reg.SEQ_STATUS_STATE = 1 → s.fence.reg Reg.TWN_STATE_STATE = 4 ∧ s.fence.reg Reg.TWN_ERR_FENCED = 1 ∧
    s.fence.twin.waiting = [] ∧ s.fence.out.completions = s.out.completions) ∧
  (∀ (s : State) (w : Nat × HeldEntry) (rest : List (Nat × HeldEntry)), s.twn = 2 → s.isMirror = false →
    s.twin.waiting = w :: rest →
    let acked := s.reg Reg.TWN_MSEQ_ACK_MSEQ
    let a := ((s.sendAll s.twinLinks (.twinDrop acked)).set Reg.TWN_STATE_STATE 3).tinkLog 0x080B noFn (leBytes w.1 4 ++ leBytes acked 4)
    let a := a.twinErr Reg.TWN_ERR_ACK_TIMEOUT
    let a : State := { a with twin := { a.twin with dropping := true, waiting := [], point := none, own := none, peer := none } }
    exec .ackTimeout s = .next ((w :: rest).foldl (fun (s : State) p =>
      s.post p.2.fn p.2.kind p.2.status p.2.sq p.2.counted p.2.body) a)) ∧
  (∀ (s : State), s.twn = 2 → s.isMirror = true → s.twin.lost = true →
    let a : State := { s with twin := { s.twin with silent := true } }
    exec .twinAutoTakeover s = .next (if s.flag Reg.TWN_STATE_AUTO_TAKEOVER then a.takeOver else a))

/-- LIFELINE_WRITE, LIFELINE_CAPTURE_DONE, LIFELINE_RESTORE, LIFELINE_LIST and LIFELINE_DROP (R442 to R446): tensors that may be captured
start a lifeline, which answers when its captures are complete; a VERIFIED one whose copies are sound is written back; a list names the
sender's lifelines; a captured one is dropped. -/
def Obligations.LifelinesComplete : Prop :=
  (∀ (s : State) (h : Mail) (l : List Tensor),
    let hs := lifeHandles h
    let p := hs.2
    let target := h.u (p + 2) 2
    let label := h.u (p + 8) 8
    let q := s.quota h.fn
    s.Taken h 0x0530 1 (p + 16) → 1 ≤ hs.1.length → hs.1.length ≤ 256 → h.u 12 4 = 0 → target ≤ 1 → h.u (p + 4) 4 = 0 →
    (∀ i, i < hs.1.length → h.handleOk (16 + 8 * i) = true) → (∀ x ∈ hs.1, x ≠ Handle.none ∧ x.fn = h.fn) →
    hs.1.dedup.length = hs.1.length → s.lifeTensors hs.1 = .ok l →
    (∀ x ∈ s.twin.lifelines, ¬(x.fn = h.fn ∧ x.label = label)) → (target = 1 → s.twn = 2) → (∀ x ∈ l, x.moving = false) →
    s.tableFull h.fn (1 + (l.filter (fun x => target = 0 && x.homeClean.isNone)).length) = none →
    s.deepKey h.fn (classOf h.fn) = true → (target = 0 → ∀ x ∈ l, s.deepKey x.fn x.keyIndex = true) →
    q.deepUsed + 64 * copyUnits target l ≤ q.deepLimit → copyUnits target l ≤ s.tier.deepFree →
    s.flag Reg.FTL_STATUS_READ_ONLY = false →
    exec (.lifelineWrite h) s =
      .next ((s.startLifeline h.fn label target (h.u p 2) l (some (h.ticket 0x0530))).showSpace.waiting h 0x0530)) ∧
  (∀ (s : State) (o : CaptureOp) (l : Lifeline), o.mirrored = none →
    s.twin.lifelines.find? (fun x => x.fn == o.fn && x.label == o.label && x.state == 0) = some l →
    let a := s.endCapture l o.peer
    let failed := a.twin.lifelines.any (fun x => x.fn == o.fn && x.label == o.label && x.state == 3)
    exec (.lifelineCaptureDone o) s = .next (l.ticket.elim a (fun t =>
      a.reply t (if failed then .faulted else .ok) (leBytes l.manifest.toNat 8)))) ∧
  (∀ (s : State) (o : CaptureOp) (m : MirroredLife) (l : Lifeline), o.mirrored = some m → s.isMirror = true →
    (∀ x ∈ s.twin.lifelines, ¬(x.fn = o.fn ∧ x.label = o.label)) →
    (s.mirrorLifeline o.fn o.label m).twin.lifelines = s.twin.lifelines ++ [l] → l.fn = o.fn → l.label = o.label →
    l.state = 0 → l.ticket = none →
    exec (.lifelineCaptureDone o) s = .next ((s.mirrorLifeline o.fn o.label m).endCapture l o.peer)) ∧
  (∀ (s : State) (h : Mail) (l : Lifeline), s.Taken h 0x0531 1 16 →
    s.twin.lifelines.find? (fun x => x.fn == h.fn && x.label == h.u 8 8) = some l → s.restoreConflict l = none →
    (∀ e ∈ l.entries, s.lifeSound e = true ∧ ∃ t, s.entry (ttKey e.handle.fn e.handle.idx) = some t ∧ t.moving = false ∧
      t.size = e.size) →
    let a := l.bindings.foldl State.restoreBinding ((l.entries.foldl State.restoreEntry s).restoreStreams l)
    let a := a.mirrorCtx l.fn
    let a : State := { a with twin := { a.twin with restored := true } }
    exec (.lifelineRestore h) s = .next (a.showSpace.replied h 0x0531 [])) ∧
  (∀ (s : State) (h : Mail), s.Taken h 0x0532 1 8 →
    let l := s.twin.lifelines.filter (fun x => x.fn == h.fn)
    exec (.lifelineList h) s = .next (s.replied h 0x0532 (leBytes l.length 4 ++ leBytes 0 4 ++ l.flatMap (fun x =>
      leBytes x.label 8 ++ leBytes x.state 2 ++ leBytes x.target 2 ++ leBytes 0 4)))) ∧
  (∀ (s : State) (h : Mail) (l : Lifeline), s.Taken h 0x0533 1 16 →
    s.twin.lifelines.find? (fun x => x.fn == h.fn && x.label == h.u 8 8) = some l → l.state ≠ 0 →
    exec (.lifelineDrop h) s = .next ((s.dropLifeline l).replied h 0x0533 [])) ∧
  (∀ (s : State) (l : Lifeline), ∀ x ∈ (s.dropLifeline l).twin.lifelines, ¬(x.fn = l.fn ∧ x.label = l.label))

/-! ### Tenancy, attestation and keys -/

/-- FUNC_ENABLE, FUNC_DISABLE, SPDM_TUNNEL, SEC_QUERY, SVN_COMMIT, TENSOR_EXPORT and TENSOR_IMPORT (R457, R467, R478, R479, R488, R491,
R517, R595): a DISABLED function becomes ACTIVE with a fresh context block and no quota; a disabled one starts its reset; the RTP's answer
is handed on; a key state is answered; the running SVN is fused; a blob is written, or opened and placed. -/
def Obligations.TenancyMessagesComplete : Prop :=
  (∀ (s : State) (h : Mail),
    let fn := h.u 8 2
    s.Taken h 0x0601 0 10 → h.fn = 0 → 1 ≤ fn → fn ≤ 1024 → s.getF fn Reg.GLB_FN_STATE_STATE = 0 →
    Store.get? s.sec.resets fn = none →
    let epoch := (Store.get? s.tier.ctx fn).elim 0 (·.epoch)
    ∃ t : State, exec (.funcEnable h) s = .next (t.replied h 0x0601 []) ∧ t.getF fn Reg.GLB_FN_STATE_STATE = 1 ∧
      t.quota fn = { Quota.zero with deepUsed := (s.quota fn).deepUsed, tensorUsed := (s.quota fn).tensorUsed } ∧
      Store.get? t.tier.ctx fn = some (CtxBlock.init fn (epoch + 1)) ∧
      (∀ g, g ≠ fn → t.getF g Reg.GLB_FN_STATE_STATE = s.getF g Reg.GLB_FN_STATE_STATE ∧ t.quota g = s.quota g ∧
        Store.get? t.tier.ctx g = Store.get? s.tier.ctx g) ∧ t.tier.tt = s.tier.tt ∧ t.tier.near = s.tier.near ∧ t.data = s.data) ∧
  (∀ (s : State) (h : Mail), s.Taken h 0x0602 0 10 → h.fn = 0 → 1 ≤ h.u 8 2 → h.u 8 2 ≤ 1024 →
    Store.get? s.sec.resets (h.u 8 2) = none →
    exec (.funcDisable h) s =
      .next ((s.startReset (h.u 8 2) 2 (some (h.ticket 0x0602))).waiting h 0x0602).settleResets) ∧
  (∀ (s : State) (fn cause : Nat) (k : Option Ticket), Store.get? (s.startReset fn cause k).sec.resets fn = some (cause, k) ∧
    Store.get? (s.startReset fn cause k).sec.tdi fn = none ∧ Store.get? (s.startReset fn cause k).sec.keys fn = none) ∧
  (∀ (s : State) (h : Mail) (l : List Byte), s.Taken h 0x0603 0 (max 8 h.payload.length) →
    exec (.spdmTunnel h l) s = .next (s.replied h 0x0603 l)) ∧
  (∀ (s : State) (h : Mail), s.Taken h 0x0604 0 10 → h.u 8 2 ≤ 1024 → h.fn = 0 ∨ h.fn = h.u 8 2 →
    exec (.secQuery h) s = .next (s.replied h 0x0604 (leBytes (b2n (Store.get? s.sec.keys (h.u 8 2)).isSome) 2 ++
      leBytes (Store.getD s.sec.tdi (h.u 8 2) 0) 2 ++ leBytes (Store.getD s.sec.touch (h.u 8 2) []).length 4))) ∧
  (∀ (s : State) (h : Mail), s.Taken h 0x0609 0 10 → h.fn = 0 → h.u 8 2 < 4 →
    let c := h.u 8 2
    exec (.svnCommit h) s = .next (State.replied { s with sec := { s.sec with
      svnFused := Store.put s.sec.svnFused c (max (s.fusedSvn c) (s.runningSvn c)) } } h 0x0609 [])) ∧
  (∀ (s : State) (h : Mail) (t u : Tensor) (k : BitVec 256) (g : Nat × Nat × Nat),
    let a := h.handle 8
    let d := h.handle 16
    let r := s.draw
    s.Taken h 0x0605 0 24 → h.handleOk 8 = true → h.handleOk 16 = true → a ≠ Handle.none → d ≠ Handle.none → a.fn = h.fn →
    d.fn = h.fn → (Store.get? s.sec.keys h.fn).isSome = true → s.entry (ttKey a.fn a.idx) = some t →
    s.entry (ttKey d.fn d.idx) = some u → t.exports = true → u.tier = .host → s.blobSize t ≤ 256 * u.size →
    t.poisoned = false → u.poisoned = false → t.moving = false → u.moving = false → t.tier ≠ .borrowed → t.gen = a.gen →
    u.gen = d.gen → t.incomplete = false → r.2.blobKey h.fn (r.1 % 2 ^ 64) = some k →
    Store.get? r.2.tier.hostRegs u.loc = some g →
    exec (.tensorExport h) s = .next ((r.2.hostWrite h.fn g.2.1 (r.2.blobOf t k (r.1 % 2 ^ 64))).replied h 0x0605 [])) ∧
  (∀ (s s1 : State) (h : Mail) (src t : Tensor) (u : Option Tensor) (b : BlobHead) (payload : List Byte) (live : Nat),
    s.Taken h 0x0606 0 16 → h.handleOk 8 = true → h.handle 8 ≠ Handle.none → h.fn ≠ 0 → (h.handle 8).fn = h.fn →
    (Store.get? s.sec.keys h.fn).isSome = true → s.ownTensor (h.handle 8) = .ok src →
    s.openBlob h.fn src h.buffer = .ok (b, payload, live) → s.blobFits b payload = true →
    s.placeBlob h.fn b payload = .ok (t, u, s1) →
    exec (.tensorImport h) s = .next ((s1.keepBlob t b payload live).replied h 0x0606
      (leBytes t.handle.toNat 8 ++ leBytes (u.elim 0 (fun u => u.handle.toNat)) 8)))

/-- GET_MEASUREMENTS, GET_CERTIFICATE, KEY_EXCHANGE, END_OF_SESSION, KEY_RELEASE, KEY_DESTROY, TOUCH_LOG_READ, POLICY_QUERY, KEY_PROG,
K_SET_GO, K_SET_STOP, IDE_INTEGRITY_FAIL and the TDISP requests (R468 to R477, R481, R486, R487, R492): each answers on the RTP's port or
changes its session, key, stream or TDI as its rule says. -/
def Obligations.AttestationCompletes : Prop :=
  (∀ (s : State) (fn k : Nat) (m : List Byte), s.mod.off = false → 1 ≤ k → k ≤ 0x13 → s.measurement fn k = some m →
    ∃ t sig, exec (.getMeasurements fn k) s = .next t ∧ t.out.side = s.out.side ++
      [(spdmPort, leBytes Status.ok.code 1 ++ (leBytes k 1 ++ leBytes m.length 4 ++ m ++ sig))] ∧ sig.length = 96 ∧
      t.regs = s.regs ∧ s.KeepsWork t) ∧
  (∀ (s : State) (first count : Nat), s.mod.off = false →
    exec (.getCertificate 0 first count) s = .next (s.spdm .ok (slice Config.certificates first count))) ∧
  (∀ (s : State) (o : SessionOp), s.mod.off = false → s.flag Reg.GLB_STATUS_RECOVERY = false →
    (∀ x ∈ s.sec.sessions, x.id ≠ o.id) → (if o.base then o.target < 8 else o.target ≤ 1024) → s.sec.sessions.length < 1056 →
    exec (.keyExchange o) s = .next (State.spdm { s with sec := { s.sec with
      sessions := s.sec.sessions ++ [Session.mk o.id o.base o.target] } } .ok [])) ∧
  (∀ (s : State) (n : Nat), exec (.endOfSession n) s = .next { s with sec := { s.sec with
    sessions := s.sec.sessions.filter (fun x => x.id != n) } }) ∧
  (∀ (s : State) (o : KeyReleaseOp) (x : Session), s.mod.off = false → s.flag Reg.GLB_STATUS_RECOVERY = false →
    s.sec.sessions.find? (fun x => x.id == o.session) = some x → o.policy.wf x.base = true →
    o.report = Config.sha384 s.reportBytes → s.requireMet o.policy x = true →
    let args := keyArgs (b2n x.base) x.target (leBytes 0 4 ++ (leBytes o.policy.digest.toNat 32).take 8)
    (x.base = true → (s.model x.target).state = 0 → Store.get? s.sec.baseKeys x.target = none →
      ∃ t, exec (.keyRelease o) s = .next t ∧ Store.get? t.sec.baseKeys x.target = some o.policy ∧ t.sec.keys = s.sec.keys ∧
        t.tier = s.tier ∧ t.out.side = s.out.side ++ [(spdmPort, leBytes Status.ok.code 1)]) ∧
    (x.base = false → x.target ≠ 0 → s.getF x.target Reg.GLB_FN_STATE_STATE = 1 → Store.get? s.sec.keys x.target = none →
      let a : State := { s with sec := { s.sec with
        keys := Store.put s.sec.keys x.target o.policy, touch := Store.erase s.sec.touch x.target, touchOver := s.sec.touchOver.filter (· != x.target) } }
      let a := (a.tinkLog 0x0B03 x.target args).holdExtents x.target o.policy.key
      let a : State := { a with sec := { a.sec with wraps := Store.put a.sec.wraps x.target o.policy.key } }
      exec (.keyRelease o) s = .next ((a.takeHeld x.target o.policy.key).spdm .ok []))) ∧
  (∀ (s : State) (n : Nat) (x : Session), s.mod.off = false → s.flag Reg.GLB_STATUS_RECOVERY = false →
    s.sec.sessions.find? (fun x => x.id == n) = some x →
    exec (.keyDestroy n) s =
      .next ((if x.base then s.destroyBase x.target 0 else s.destroyKey x.target 0).spdm .ok []) ∧
    (x.base = false → exec (.touchLogRead n) s = .next (s.spdm .ok ((s.measurement x.target 0x10).getD []))) ∧
    (∀ p, Store.get? (if x.base then s.sec.baseKeys else s.sec.keys) x.target = some p →
      exec (.policyQuery n) s = .next (s.spdm .ok p.bytes))) ∧
  (∀ (s : State) (fn slot cause : Nat), Store.get? (s.destroyKey fn cause).sec.keys fn = none ∧
    (∀ g, g ≠ fn → Store.get? (s.destroyKey fn cause).sec.keys g = Store.get? s.sec.keys g) ∧
    Store.get? (s.destroyBase slot cause).sec.baseKeys slot = none) ∧
  (∀ (s : State) (n : Nat) (vfs : List Nat), n < 256 → s.mod.off = false →
    let was := Store.getD s.sec.ide n ⟨[], false, false⟩
    exec (.keyProg n vfs) s = .next (s.setIde n { was with vfs := vfs, keyed := true })) ∧
  (∀ (s : State) (n : Nat) (x : IdeStream), Store.get? s.sec.ide n = some x →
    (x.keyed = true → exec (.kSetGo n) s = .next (s.setIde n { x with secure := true })) ∧
    exec (.kSetStop n) s = .next (s.setIde n { x with keyed := false, secure := false }) ∧
    (x.secure = true → exec (.ideIntegrityFail n) s = .next ((s.ideFail n x).secErr Reg.SEC_ERR_TDISP_ERROR))) ∧
  (∀ (s : State) (vf : Nat), 1 ≤ vf → vf ≤ 1024 →
    (Store.getD s.sec.tdi vf 0 = 0 → exec (.lockInterfaceRequest vf) s = .next { s with sec := { s.sec with tdi := Store.put s.sec.tdi vf 1 } }) ∧
    (Store.getD s.sec.tdi vf 0 = 1 → exec (.startInterfaceRequest vf) s = .next { s with sec := { s.sec with tdi := Store.put s.sec.tdi vf 2 } }) ∧
    (Store.getD s.sec.tdi vf 0 = 1 ∨ Store.getD s.sec.tdi vf 0 = 2 → ∃ t, exec (.tdiConfigChange vf) s = .next t ∧
      Store.get? t.sec.tdi vf = some 3 ∧ t.reg Reg.SEC_ERR_TDISP_ERROR = 1 ∧ t.tier = s.tier ∧ t.data = s.data))

/-- ZEROISE, LIFECYCLE_RMA, POWER_CLOCK_REQUEST, DEFERRED_REQUEST_PROCEED, DEFER_DEADLINE and DEFER_CANCEL (R469, R481 to R485, R493, R566):
zeroisation destroys every key and goes on when the row has ended; a request that frames or keys bar is deferred, is granted when
nothing bars it any more or at its deadline, or is withdrawn. -/
def Obligations.DeferralCompletes : Prop :=
  (∀ (s : State) (h : Mail), h.fn = 0 →
    (s.Taken h 0x0607 0 8 → exec (.zeroise h) s = .next (s.zeroise.waiting h 0x0607).zeroAdvance) ∧
    (s.Taken h 0x060B 0 8 → exec (.lifecycleRma h true) s = .next (s.zeroise.waiting h 0x060B).zeroAdvance)) ∧
  (∀ (s : State), s.seq.active = true → s.reg Reg.SEQ_STATUS_STATE = 1 → s.zeroise.reg Reg.SEC_STATUS_ZEROISING = 1 ∧
    s.zeroise.sec.keys = [] ∧ s.zeroise.sec.baseKeys = [] ∧ s.zeroise.sec.wraps = [] ∧
    s.zeroise.zeroAdvance = s.zeroise) ∧
  (∀ (s : State) (o : PowerReqOp), s.mod.off = false →
    let d : Defer := ⟨o.block, o.kind, o.frames, o.rtp, false⟩
    (o.keeps = true ∨ s.blocks d = false → exec (.powerClockRequest o) s =
      .next (s.say powerPort (leBytes o.block 1 ++ leBytes Status.ok.code 1))) ∧
    (o.keeps = false → s.blocks d = true → exec (.powerClockRequest o) s =
      .next ((s.deferAsk d).say powerPort (leBytes o.block 1 ++ leBytes Status.deferred.code 1)))) ∧
  (∀ (s : State) (d : Defer), (∀ x ∈ s.sec.defers, x.block ≠ d.block) → d ∈ (s.deferAsk d).sec.defers ∧
    (s.deferAsk d).reg Reg.SEC_STATUS_DEFER_PENDING = 1 ∧
    (∀ f r, Store.get? (s.deferAsk d).tier.regions f = some r → inFrames d.frames f = true → r.hold = true)) ∧
  (∀ (s : State) (block : Nat) (d : Defer), s.sec.defers.find? (fun d => d.block == block) = some d →
    (s.blocks d = false → exec (.deferredRequestProceed block) s = .next (s.grant d)) ∧
    (let fs := s.framesWith (fun f r => inFrames d.frames f && r.guarded)
     let a := ((s.forceZero fs).secErr Reg.SEC_ERR_DEFER_EXPIRED).tinkLog 0x0B05 noFn (leBytes 1 8 ++ leBytes (65536 * fs.length) 8)
     let a := if d.store then a.openVfs.foldl (fun (s : State) fn => s.resetFn fn 2 none) a else a
     let a := if d.rtp && a.anyKey then a.zeroise.zeroAdvance else a
     exec (.deferDeadline block) s = .next (a.grant d))) ∧
  (∀ (s : State) (h : Mail) (d : Defer), s.Taken h 0x060A 0 10 → h.fn = 0 →
    s.sec.defers.find? (fun d => d.block == h.u 8 2) = some d →
    let a := s.undefer (h.u 8 2)
    (d.store = false → exec (.deferCancel h) s = .next (a.replied h 0x060A [])) ∧
    (d.store = true → exec (.deferCancel h) s =
      .next (((({ a with pwr := { a.pwr with transition := none } } : State).set Reg.PWR_STATE_ENTERING 0).storeExit).replied h 0x060A [])))

/-! ### The Tink log -/

/-- TINK_READ, TINK_FREEZE, TINK_RELEASE, TNK_FREEZE, TINK_FLUSH_DONE, TNK_ENTRY_READ and FW_FAULT_READ (R448, R451, R452, R455, R510, R544,
R553): entries are answered as bytes; a freeze copies the ring to a free slot; a slot is released; a flush that ends is kept and
announced; an entry or a record is shown in the data registers. -/
def Obligations.TinkCompletes : Prop :=
  (∀ (s : State) (h : Mail) (log : List TinkEntry), s.Taken h 0x0701 0 20 → h.fn = 0 → h.u 8 2 ≤ 20 → h.u 10 2 = 0 →
    1 ≤ h.u 16 4 → h.u 16 4 ≤ 127 → s.tinkSource (h.u 8 2) = some log →
    let l := (log.drop (h.u 12 4)).take (h.u 16 4)
    exec (.tinkRead h) s = .next (s.replied h 0x0701 (leBytes l.length 4 ++ l.flatMap TinkEntry.bytes))) ∧
  (∀ (s : State) (h : Mail), s.Taken h 0x0702 0 8 → h.fn = 0 → s.tink.frozen.length < 4 →
    exec (.tinkFreeze h) s = .next (s.freeze.replied h 0x0702 [])) ∧
  (∀ (s : State), exec .tnkFreeze s = .next s.freeze ∧
    ∀ i, (List.range 4).find? (fun i => (Store.get? s.tink.frozen i).isNone) = some i →
      Store.get? s.freeze.tink.frozen i = some s.tink.ring ∧ (∀ j, j ≠ i → Store.get? s.freeze.tink.frozen j = Store.get? s.tink.frozen j) ∧
      s.freeze.tink.ring = s.tink.ring ∧ s.freeze.reg Reg.TNK_CTRL_FREEZE = 1 ∧ s.KeepsWork s.freeze) ∧
  (∀ (s : State) (h : Mail), s.Taken h 0x0703 0 10 → h.fn = 0 → h.u 8 2 < 4 →
    (Store.get? s.tink.frozen (h.u 8 2)).isSome = true → s.tink.freezing ≠ some (h.u 8 2) →
    let a : State := { s with tink := { s.tink with frozen := Store.erase s.tink.frozen (h.u 8 2) } }
    exec (.tinkRelease h) s =
      .next ((a.set Reg.TNK_STATUS_FROZEN (clearBit (s.reg Reg.TNK_STATUS_FROZEN) (h.u 8 2))).replied h 0x0703 [])) ∧
  (∀ (s : State), s.mod.bindOff = none → s.tink.flushing = true → s.tink.freezing = none →
    ∃ t, exec .tinkFlushDone s = .next t ∧ t.tink.flushing = false ∧ t.tink.flushes.getLast? = some s.tink.ring ∧
      t.tink.flushes.length ≤ 16 ∧ t.tink.ring = s.tink.ring ∧ t.reg Reg.TNK_STATUS_FLUSHING = 0 ∧
      t.reg Reg.TNK_FLUSHES_FLUSHES = (s.reg Reg.TNK_FLUSHES_FLUSHES + 1) % 2 ^ Reg.TNK_FLUSHES_FLUSHES.width ∧
      t.out.msix = s.out.msix ++ [(0, 12)] ∧ s.KeepsWork t) ∧
  (∀ (s : State) (i : Nat), s.mod.bindOff = none → s.tink.flushing = false → s.tink.freezing = some i →
    ∃ t, exec .tinkFlushDone s = .next t ∧ t.tink = { s.tink with freezing := none } ∧ t.reg Reg.TNK_CTRL_FREEZE = 0 ∧
      t.out.msix = s.out.msix ++ [(0, 12)] ∧ s.KeepsWork t) ∧
  (∀ (s : State) (e : TinkEntry), s.tink.ring.find? (fun e => e.seq == s.reg Reg.TNK_SEL_ENTRY_SEQ) = some e →
    ∃ t, exec .tnkEntryRead s = .next t ∧ (∀ i, i < 8 → t.reg (Reg.TNK_DATA0_WORD.at (4 * i)) = leField e.bytes (4 * i) 4 % 2 ^ 32) ∧
      t.reg Reg.TNK_CMD_DONE = 1 ∧ t = { s with regs := t.regs }) ∧
  (∀ (s : State) (l : List Byte), Store.get? s.fw.ring (s.reg Reg.GLB_FW_FAULT_SEL_INDEX) = some l →
    ∃ t, exec .fwFaultRead s = .next t ∧ (∀ i, i < 16 → t.reg (Reg.GLB_FW_FAULT_DATA0_WORD.at (4 * i)) = leField l (4 * i) 4 % 2 ^ 32) ∧
      t.reg Reg.GLB_FW_FAULT_CMD_DONE = 1 ∧ t = { s with regs := t.regs })

/-! ### Register accesses -/

/-- REGISTER_WRITE, RC_READ and LO_READ_LATCH (R6, R494, R623): a plain write takes effect field by field under the access codes; a
write that the security block refuses leaves everything or sets CFG_REJECT; a write outside the window leaves everything; a read is
shown, clears the RC fields of its register, and latches or uses the HI half. -/
def Obligations.RegisterAccessesComplete : Prop :=
  (∀ (s : State) (fn off v : Nat), mapped fn off = true → ¬ (0x11000 ≤ off ∧ off < 0x11200) →
    s.secRefusal (s.home fn off).2 v = 0 →
    exec (.registerWrite fn off v) s = .next
      ((s.writeWord (s.home fn off).1 (s.home fn off).2 v (fun f => !f.own)).afterWrite (s.home fn off).2)) ∧
  (∀ (s : State) (fn off v : Nat), mapped fn off = false ∨ (0x11000 ≤ off ∧ off < 0x11200) ∨
    s.secRefusal (s.home fn off).2 v = 1 → exec (.registerWrite fn off v) s = .next s) ∧
  (∀ (s : State) (fn off v : Nat), mapped fn off = true → ¬ (0x11000 ≤ off ∧ off < 0x11200) →
    s.secRefusal (s.home fn off).2 v = 2 →
    exec (.registerWrite fn off v) s = .next (s.secErr Reg.SEC_ERR_CFG_REJECT)) ∧
  (∀ (s : State) (fn off : Nat), mapped fn off = true →
    ∃ t, exec (.rcRead fn off) s = .next t ∧ t.out.reads = s.out.reads ++ [(fn, off, s.readWord fn off)] ∧
      (∀ f, f ∈ Reg.fieldsAt (s.home fn off).2 → f.acc = .rc → t.getF (s.home fn off).1 f = f.rst % 2 ^ f.width) ∧
      (∀ (g : Nat) (f : Fld), (∀ e, e ∈ Reg.fieldsAt (s.home fn off).2 → e.acc = .rc → regKey g f ≠ regKey (s.home fn off).1 e) →
        t.getF g f = s.getF g f) ∧
      t = { s with regs := t.regs, out := t.out }) ∧
  (∀ (s : State) (fn off : Nat), mapped fn off = false →
    exec (.rcRead fn off) s = .next (s.shown fn off 0) ∧ exec (.loReadLatch fn off) s = .next (s.shown fn off 0)) ∧
  (∀ (s : State) (fn off lo hi : Nat), mapped fn off = true → latchPairs.find? (fun p => p.1 == (s.home fn off).2) = some (lo, hi) →
    ∃ t, exec (.loReadLatch fn off) s = .next t ∧ t.out.reads = s.out.reads ++ [(fn, off, s.readWord fn off)] ∧
      Store.get? t.host.latches ((s.home fn off).1 * 0x200000 + hi) = some (s.readWord fn (off + (hi - lo))) ∧
      t = { s with host := t.host, out := t.out }) ∧
  (∀ (s : State) (fn off : Nat), mapped fn off = true → latchPairs.find? (fun p => p.1 == (s.home fn off).2) = none →
    let k := (s.home fn off).1 * 0x200000 + (s.home fn off).2
    (∀ x, Store.get? s.host.latches k = some x →
      ∃ t, exec (.loReadLatch fn off) s = .next t ∧ t.out.reads = s.out.reads ++ [(fn, off, x)] ∧
        t = { s with host := { s.host with latches := Store.erase s.host.latches k }, out := t.out }) ∧
    (Store.get? s.host.latches k = none → exec (.loReadLatch fn off) s = .next (s.shown fn off (s.readWord fn off))))

/-- MXA_CTRL_WRITE, MTF_HOT_CFG_WRITE, MOV_PAUSE, MOV_DIRTY_CFG_WRITE, MOV_LEND_CFG_WRITE, FTL_CFG_WRITE, LNK_STAGE_CFG_WRITE,
PWR_LIMIT_WRITE, PWR_RAMP_WRITE, THM_LIMITS_WRITE, MARK_THRESH_WRITE and QUEUE_CONFIG_WRITE (R219, R235, R255, R364, R365, R406, R474,
R501, R560, R571, R579, R582, R583): a legal write takes effect, is kept for the retained copies, and has the recheck it calls for; an illegal
one is ignored and shown in its error register. -/
def Obligations.ConfigurationWritesComplete : Prop :=
  (∀ (s : State) (v : Nat), bits v 0 1 = 0 ∨ s.gateLocked = false →
    exec (.mxaCtrlWrite v) s = .next ((s.set Reg.MXA_CTRL_ZERO_GATE_EN (bits v 0 1)).retain 0x50000)) ∧
  (∀ (s : State) (v : Nat), bits v 0 1 = 1 → s.gateLocked = true →
    exec (.mxaCtrlWrite v) s = .next (s.secErr Reg.SEC_ERR_POLICY_LOCK)) ∧
  (∀ (s : State) (v : Nat),
    (s.seqAtRest = true ∧ s.data.hotSlots = [] ∧ bits v 0 2 ≠ 3 →
      exec (.mtfHotCfgWrite v) s = .next (((s.set Reg.MTF_HOT_CFG_AREA (bits v 0 2)).retain 0x70000).recheck)) ∧
    (s.seqAtRest = false ∨ s.data.hotSlots ≠ [] ∨ bits v 0 2 = 3 →
      exec (.mtfHotCfgWrite v) s = .next (s.set Reg.MTF_ERR_CFG_REJECT 1))) ∧
  (∀ (s : State) (v : Nat),
    let a := (s.set Reg.MOV_CTRL_PAUSE (bits v 0 1)).set Reg.MOV_CTRL_WB_EN (bits v 1 1)
    let live := s.tier.moves.filter (fun m => m.running && !m.stopped)
    (s.reg Reg.MOV_CTRL_PAUSE = bits v 0 1 → exec (.movPause v) s = .next a) ∧
    (s.reg Reg.MOV_CTRL_PAUSE = 0 → bits v 0 1 = 1 → exec (.movPause v) s =
      .next ((live.foldl (fun (t : State) m => t.writeProgress m 2 .ok) a).set Reg.MOV_STATUS_PAUSED 1)) ∧
    (s.reg Reg.MOV_CTRL_PAUSE = 1 → bits v 0 1 = 0 → exec (.movPause v) s =
      .next ((live.foldl (fun (t : State) m => t.writeProgress m 1 .ok) a).set Reg.MOV_STATUS_PAUSED 0))) ∧
  (∀ (s : State) (v : Nat),
    let l := bits v 0 16
    let d := bits v 16 16
    (16 ≤ l ∧ l ≤ 256 ∧ 10 ≤ d ∧ d ≤ 60000 → exec (.movDirtyCfgWrite v) s =
      .next (((s.set Reg.MOV_DIRTY_CFG_DIRTY_LIMIT l).set Reg.MOV_DIRTY_CFG_WB_DELAY d).retain 0x80004)) ∧
    (¬ (16 ≤ l ∧ l ≤ 256 ∧ 10 ≤ d ∧ d ≤ 60000) → exec (.movDirtyCfgWrite v) s = .next s.movReject)) ∧
  (∀ (s : State) (v : Nat),
    (bits v 0 9 ≤ 192 → exec (.movLendCfgWrite v) s = .next ((s.set Reg.MOV_LEND_CFG_LEND_MAX (bits v 0 9)).retain 0x80020)) ∧
    (192 < bits v 0 9 → exec (.movLendCfgWrite v) s = .next s.movReject)) ∧
  (∀ (s : State) (v : Nat),
    let w := bits v 0 6
    let l := bits v 8 4
    (5 ≤ w ∧ w ≤ 50 ∧ 2 ≤ l ∧ l ≤ 10 →
      exec (.ftlCfgWrite v) s = .next (((s.set Reg.FTL_CFG_WEAR_SHARE w).set Reg.FTL_CFG_LOW_MARK l).retain 0x90004)) ∧
    (¬ (5 ≤ w ∧ w ≤ 50 ∧ 2 ≤ l ∧ l ≤ 10) → exec (.ftlCfgWrite v) s = .next (s.set Reg.FTL_ERR_CFG_REJECT 1))) ∧
  (∀ (s : State) (v : Nat),
    (s.seqAtRest = true ∧ bits v 0 2 ≠ 3 →
      exec (.lnkStageCfgWrite v) s = .next ((s.set Reg.LNK_STAGE_CFG_SIZE (bits v 0 2)).retain 0xA0010)) ∧
    (s.seqAtRest = false ∨ bits v 0 2 = 3 →
      exec (.lnkStageCfgWrite v) s = .next (s.err Reg.LNK_ERR_CFG_REJECT Reg.LNK_INT_EN_EN 7 6))) ∧
  (∀ (s : State) (v : Nat),
    let w := bits v 0 11
    (800 ≤ w ∧ w ≤ 1600 → exec (.pwrLimitWrite v) s = .next ((s.set Reg.PWR_LIMIT_LIMIT_W w).retain 0xC0008)) ∧
    (¬ (800 ≤ w ∧ w ≤ 1600) → exec (.pwrLimitWrite v) s = .next (s.pwrErr Reg.PWR_ERR_CFG_REJECT))) ∧
  (∀ (s : State) (v : Nat),
    let w := bits v 0 7
    let t := (s.set Reg.PWR_RAMP_SLOPE w).retain 0xC000C
    (s.seqAtRest = true ∧ 5 ≤ w ∧ w ≤ 100 ∧ s.reg Reg.PWR_RAMP_SLOPE ≠ w → exec (.pwrRampWrite v) s = .next t.recheck) ∧
    (s.seqAtRest = true ∧ 5 ≤ w ∧ w ≤ 100 ∧ s.reg Reg.PWR_RAMP_SLOPE = w → exec (.pwrRampWrite v) s = .next t) ∧
    (s.seqAtRest = false ∨ w < 5 ∨ 100 < w → exec (.pwrRampWrite v) s = .next (s.pwrErr Reg.PWR_ERR_CFG_REJECT))) ∧
  (∀ (s : State) (v : Nat),
    let d := bits v 0 8
    let h := bits v 8 8
    (80 ≤ d ∧ d ≤ 100 ∧ 75 ≤ h ∧ h ≤ 85 → exec (.thmLimitsWrite v) s =
      .next (((s.set Reg.THM_LIMITS_DIE_THROTTLE d).set Reg.THM_LIMITS_HBM_THROTTLE h).retain 0xD0010)) ∧
    (¬ (80 ≤ d ∧ d ≤ 100 ∧ 75 ≤ h ∧ h ≤ 85) → exec (.thmLimitsWrite v) s = .next (s.thmErr Reg.THM_ERR_CFG_REJECT))) ∧
  (∀ (s : State) (off v : Nat), off ∈ markRegs →
    let a := s.writeWord (s.home 0 off).1 off v (fun _ => true)
    let keys := ((Reg.fieldsAt off).filter (fun f => f.acc == .rw1c)).map (regKey (s.home 0 off).1)
    exec (.markThreshWrite off v) s = .next
      (State.retain { a with pwr := { a.pwr with beyond := a.pwr.beyond.filter (fun k => !keys.contains k) } } off)) ∧
  (∀ (s : State) (off v : Nat), off ∉ markRegs → exec (.markThreshWrite off v) s = .next s) ∧
  (∀ (s : State) (fn off v : Nat) (en size : Fld) (least : Nat), queueAt off = some (en, size, least) →
    let n := bits v 0 16
    let bad := (s.getF fn en = 1 ∧ (off ≠ size.off ∨ n ≠ s.getF fn size)) ∨ (off = size.off ∧ bit v 16 = true ∧ n < least)
    (bad → exec (.queueConfigWrite fn off v) s = .next (s.fnErr fn Reg.GLB_FN_ERR_CFG_REJECT)) ∧
    (¬ bad → exec (.queueConfigWrite fn off v) s = .next (s.writeWord fn off v (fun _ => true)))) ∧
  (∀ (s : State) (fn off v : Nat), queueAt off = none → exec (.queueConfigWrite fn off v) s = .next s)

/-- RNG_READ, RNG_LOAD, RNG_DERIVE, RNG_RESET and DERIVE_DONE (R320, R311): the committed stream state is shown; the holding registers
go to the stream; a key is asked for, and written when the request completes; the stream returns to its first state; a write that asks for
several sets ARG_ERR; LOAD, DERIVE and RESET of a function with work that may draw set BUSY_ERR.
MOV_TT_READ, DPL_ENABLE, DPL_STOP, DPL_EPOCH and DPL_HEAD_WRITE (R330, R364, R489, R490): the selected entry is shown in the data
registers, zeros and ABSENT where there is none; the dirty-page log of the selected VF is enabled, stopped with its completion records
held and released in order, its filter cleared, and its head moved. -/
def Obligations.BlockRequestsComplete : Prop :=
  (∀ (s : State) (fn v : Nat) (c : CtxBlock), fn ≤ 1024 → v % 16 = 1 → Store.get? s.tier.ctx fn = some c →
    let w := s.writeWord fn 0xE024 v (fun f => !f.own)
    let st := c.stream fn (w.getF fn Reg.RNG_SEL_STREAM)
    ∃ t, exec (.rngRead fn v) s = .next t ∧ t.getF fn Reg.RNG_KEY0_KEY0 = st.key0.toNat ∧ t.getF fn Reg.RNG_KEY1_KEY1 = st.key1.toNat ∧
      t.getF fn Reg.RNG_CTR0_CTR0 = st.counter.toNat % 2 ^ 32 ∧ t.getF fn Reg.RNG_CTR1_CTR1 = st.counter.toNat / 2 ^ 32 % 2 ^ 32 ∧
      t.getF fn Reg.RNG_CTR2_CTR2 = st.counter.toNat / 2 ^ 64 % 2 ^ 32 ∧ t.getF fn Reg.RNG_CTR3_CTR3 = st.counter.toNat / 2 ^ 96 ∧
      t.getF fn Reg.RNG_CTL_WORD = st.word % 2 ^ Reg.RNG_CTL_WORD.width ∧ t.getF fn Reg.RNG_CTL_USE = st.use % 2 ^ Reg.RNG_CTL_USE.width ∧
      t.getF fn Reg.RNG_COMMITS_COMMITS = st.commits % 2 ^ 32 ∧
      t.getF fn Reg.RNG_CMD_DONE = 1 ∧ t.getF fn Reg.RNG_SEL_STREAM = s.getF fn Reg.RNG_SEL_STREAM ∧ t = { s with regs := t.regs }) ∧
  (∀ (s : State) (fn v : Nat) (c : CtxBlock), fn ≤ 1024 → v % 16 = 2 → Store.get? s.tier.ctx fn = some c → s.rngBusy fn = false →
    s.getF fn Reg.RNG_CTL_USE ≠ 3 → (∀ f ∈ [Reg.RNG_CTR0_CTR0, Reg.RNG_CTR1_CTR1, Reg.RNG_CTR2_CTR2, Reg.RNG_CTR3_CTR3], s.getF fn f < 2 ^ 32) →
    let w := s.writeWord fn 0xE024 v (fun f => !f.own)
    let k := s.getF fn Reg.RNG_SEL_STREAM
    ∃ st : Stream, exec (.rngLoad fn v) s = .next (w.putStream fn k c st) ∧ st.key0.toNat = s.getF fn Reg.RNG_KEY0_KEY0 % 2 ^ 32 ∧
      st.key1.toNat = s.getF fn Reg.RNG_KEY1_KEY1 % 2 ^ 32 ∧ st.counter.toNat % 2 ^ 32 = s.getF fn Reg.RNG_CTR0_CTR0 ∧
      st.counter.toNat / 2 ^ 32 % 2 ^ 32 = s.getF fn Reg.RNG_CTR1_CTR1 ∧ st.counter.toNat / 2 ^ 64 % 2 ^ 32 = s.getF fn Reg.RNG_CTR2_CTR2 ∧
      st.counter.toNat / 2 ^ 96 = s.getF fn Reg.RNG_CTR3_CTR3 ∧ st.word = s.getF fn Reg.RNG_CTL_WORD ∧ st.use = s.getF fn Reg.RNG_CTL_USE ∧
      st.commits = (c.stream fn k).commits) ∧
  (∀ (s : State) (fn v : Nat) (c : CtxBlock), fn ≤ 1024 → Store.get? s.tier.ctx fn = some c → s.rngBusy fn = false →
    let w := s.writeWord fn 0xE024 v (fun f => !f.own)
    let k := s.getF fn Reg.RNG_SEL_STREAM
    (v % 16 = 4 → exec (.rngDerive fn v) s = .next { w with host := { w.host with derives := s.host.derives ++ [(fn, k)] } }) ∧
    (v % 16 = 8 → exec (.rngReset fn v) s = .next (w.putStream fn k c (Stream.default fn k)))) ∧
  (∀ (s : State) (fn v : Nat) (c : CtxBlock), fn ≤ 1024 → Store.get? s.tier.ctx fn = some c → s.rngBusy fn = true →
    let w := s.writeWord fn 0xE024 v (fun f => !f.own)
    (v % 16 = 2 → s.getF fn Reg.RNG_CTL_USE ≠ 3 → exec (.rngLoad fn v) s = .next (w.setF fn Reg.RNG_CMD_BUSY_ERR 1)) ∧
    (v % 16 = 2 → s.getF fn Reg.RNG_CTL_USE = 3 → exec (.rngLoad fn v) s = .next (w.setF fn Reg.RNG_CMD_ARG_ERR 1)) ∧
    (v % 16 = 4 → exec (.rngDerive fn v) s = .next (w.setF fn Reg.RNG_CMD_BUSY_ERR 1)) ∧
    (v % 16 = 8 → exec (.rngReset fn v) s = .next (w.setF fn Reg.RNG_CMD_BUSY_ERR 1))) ∧
  (∀ (s : State) (fn v i : Nat) (c : Instr), (i, c) ∈ [(0, Instr.rngRead fn v), (1, .rngLoad fn v), (2, .rngDerive fn v), (3, .rngReset fn v)] →
    bit v i = true → v % 16 ≠ 2 ^ i →
    exec c s = .next ((s.writeWord fn 0xE024 v (fun f => !f.own)).setF fn Reg.RNG_CMD_ARG_ERR 1)) ∧
  (∀ (s : State) (fn k : Nat) (c : CtxBlock) (l m : List (Nat × Nat)), fn ≤ 1024 → (∀ d ∈ l, d.1 ≠ fn) →
    s.host.derives = l ++ (fn, k) :: m → Store.get? s.tier.ctx fn = some c → k < c.streams.length →
    ∃ (t : State) (b : CtxBlock) (st : Stream), exec (.deriveDone fn) s = .next t ∧ t.host.derives = l ++ m ∧
      Store.get? t.tier.ctx fn = some b ∧ b.streams[k]? = some st ∧ st.counter = 0 ∧ st.word = 0 ∧ st.use = (c.stream fn k).use ∧
      st.commits = (c.stream fn k).commits ∧ st.key0.toNat = t.getF fn Reg.RNG_KEY0_KEY0 ∧ st.key1.toNat = t.getF fn Reg.RNG_KEY1_KEY1 ∧
      t.getF fn Reg.RNG_CMD_DONE = 1 ∧ t.tier.near = s.tier.near ∧ t.tier.tt = s.tier.tt ∧ t.data = s.data ∧
      (∀ g, g ≠ fn → Store.get? t.tier.ctx g = Store.get? s.tier.ctx g)) ∧
  (∀ (s : State),
    let k := ttKey (s.reg Reg.MOV_TT_SEL_FN_FUNCTION) (s.reg Reg.MOV_TT_SEL_IDX_INDEX)
    s.reg Reg.MOV_TT_SEL_IDX_INDEX ≠ 0xFFFFFF →
    (∀ e, s.entry k = some e → ∃ t, exec .movTtRead s = .next t ∧
      (∀ i, i < 16 → t.reg (Reg.MOV_TT_DATA0_WORD.at (4 * i)) = leField e.bytes (4 * i) 4 % 2 ^ 32) ∧
      t.reg Reg.MOV_TT_CMD_DONE = 1 ∧ t = { s with regs := t.regs }) ∧
    (s.entry k = none → ∃ t, exec .movTtRead s = .next t ∧
      (∀ i, i < 16 → t.reg (Reg.MOV_TT_DATA0_WORD.at (4 * i)) = 0) ∧
      t.reg Reg.MOV_TT_CMD_ABSENT = 1 ∧ t = { s with regs := t.regs })) ∧
  (∀ (s : State),
    let e := s.ctxEntry (s.reg Reg.MOV_TT_SEL_FN_FUNCTION)
    s.reg Reg.MOV_TT_SEL_IDX_INDEX = 0xFFFFFF → (Store.get? s.tier.ctx (s.reg Reg.MOV_TT_SEL_FN_FUNCTION)).isSome = true →
    ∃ t, exec .movTtRead s = .next t ∧
      (∀ i, i < 16 → t.reg (Reg.MOV_TT_DATA0_WORD.at (4 * i)) = leField e.1.bytes (4 * i) 4 % 2 ^ 32) ∧
      t.reg Reg.MOV_TT_CMD_DONE = 1 ∧ t = { s with regs := t.regs, fresh := s.fresh + 1 }) ∧
  (∀ (s : State),
    let vf := s.reg Reg.SEC_DPL_SEL_VF
    (s.getF vf Reg.SEC_DPL_CTL_EN = 0 → exec (.dplEnable true) s = .next ((s.setF vf Reg.SEC_DPL_CTL_EN 1).tdiError vf 2)) ∧
    (s.getF vf Reg.SEC_DPL_CTL_EN ≠ 0 → exec (.dplEnable true) s = .next (s.setF vf Reg.SEC_DPL_CTL_EN 1)) ∧
    exec (.dplEnable false) s = .next (s.setF vf Reg.SEC_DPL_CTL_EN 0) ∧
    (Store.getD s.sec.tdi vf 0 = 1 ∨ Store.getD s.sec.tdi vf 0 = 2 → Store.getD (s.tdiError vf 2).sec.tdi vf 0 = 3) ∧
    exec (.dplStop true) s = .next ((s.setF vf Reg.SEC_DPL_CTL_STOP 1).setF vf Reg.SEC_DPL_CTL_STOPPED 1) ∧
    (let a := (s.setF vf Reg.SEC_DPL_CTL_STOP 0).setF vf Reg.SEC_DPL_CTL_STOPPED 0
     exec (.dplStop false) s = .next ((s.sec.held.filter (fun h => h.fn == vf)).foldl
       (fun (t : State) (h : HeldEntry) => t.post h.fn h.kind h.status h.sq h.counted h.body)
       { a with sec := { s.sec with held := s.sec.held.filter (fun h => h.fn != vf) } })) ∧
    exec .dplEpoch s = .next { s with sec := { s.sec with filters := Store.erase s.sec.filters vf } } ∧
    ∀ v, exec (.dplHeadWrite v) s = .next (s.setF vf Reg.SEC_DPL_HEAD_HEAD (bits v 0 20)))

/-! ### The Firmware Complex -/

/-- TRAP_ENTRY, SUPERVISOR_HEARTBEAT, COMPONENT_RESTARTED, COMPLEX_WATCHDOG_EXPIRY, CORE_SRAM_ECC and COMPLEX_READY (R534 to R545): a trap
keeps its context and writes its fault record, and a fault restarts its component, or the complex for the kernel, the supervisor or a
machine-mode trap; an interrupt only keeps its context; a component that answers is not missed; a restarted component is up again; the
watchdog and a core's SRAM error reset the complex; the complex comes back READY. -/
def Obligations.ComplexEventsComplete : Prop :=
  (∀ (s : State) (o : TrapOp), s.coresRun = true → o.core < 4 → o.comp < 7 → o.cause ≤ 0x0A → o.emergency = false →
    let cause := if o.badStack then 1 else o.cause
    let ctx : TrapCtx := ⟨o.badStack, o.sp, o.ra, o.mepc, o.mtval, o.mcause⟩
    let flags := b2n o.badStack + 2 * b2n o.mmode
    let a : State := { s with fw := { s.fw with saved := Store.put s.fw.saved o.core ctx } }
    (cause = 0 → exec (.trapEntry o) s = .next a) ∧
    (cause ≠ 0 → o.mmode = true ∨ o.comp ≤ 1 →
      exec (.trapEntry o) s = .next ((a.faultRecord o cause flags).complexReset cause o.comp flags o.now)) ∧
    (cause ≠ 0 → o.mmode = false → 2 ≤ o.comp →
      exec (.trapEntry o) s = .next ((a.faultRecord o cause flags).failComponent o.comp o.now))) ∧
  (∀ (s : State) (o : TrapOp), s.coresRun = true → o.core < 4 → o.comp < 7 → o.cause ≤ 0x0A → o.emergency = true →
    exec (.trapEntry o) s = .next (s.complexReset 9 o.comp (1 + 2 * b2n o.mmode) o.now)) ∧
  (∀ (s : State) (o : TrapOp) (cause flags : Nat), ∃ l : List Byte,
    let t := s.faultRecord o cause flags
    l.length = 64 ∧ Store.get? t.fw.ring (s.fw.nextFault % 64) = some l ∧ leField l 8 1 = o.core % 256 ∧ leField l 9 1 = o.comp % 256 ∧
    leField l 10 1 = cause % 256 ∧ leField l 11 1 = flags % 256 ∧ leField l 16 8 = o.mepc % 2 ^ 64 ∧ leField l 24 8 = o.mtval % 2 ^ 64 ∧
    leField l 32 8 = o.sp % 2 ^ 64 ∧ leField l 40 8 = o.ra % 2 ^ 64 ∧ leField l 48 8 = o.mcause % 2 ^ 64 ∧
    t.fw.nextFault = s.fw.nextFault % 64 + 1 ∧ t.reg Reg.GLB_FW_FAULT_NEWEST_INDEX = s.fw.nextFault % 64 ∧ s.KeepsWork t) ∧
  (∀ (s : State) (comp now : Nat), comp < 7 → s.recentRestarts comp now < 3 →
    let t := s.failComponent comp now
    (t.reg Reg.GLB_FW_STATUS_FAILED).testBit comp = true ∧ t.reg Reg.GLB_FW_STATUS_COMPLEX_UP = 0 ∧
      Store.get? t.fw.missed comp = none ∧ t.recentRestarts comp now = s.recentRestarts comp now + 1 ∧ s.KeepsWork t) ∧
  (∀ (s : State) (comp now : Nat), 3 ≤ s.recentRestarts comp now → s.failComponent comp now = s.complexReset 0x0A comp 0 now) ∧
  (∀ (s : State) (answered : List Nat) (now : Nat), s.coresRun = true → bit (s.reg Reg.GLB_FW_STATUS_HALTED) 0 = false →
    (∀ c ∈ [2, 3, 4, 5, 6], c ∈ answered) → exec (.supervisorHeartbeat answered now) s =
      .next { s with fw := { s.fw with missed := s.fw.missed.filter (fun m => !answered.contains m.1) } }) ∧
  (∀ (s : State) (c now : Nat), s.coresRun = true → s.reg Reg.GLB_FW_STATUS_HALTED = 0 → s.reg Reg.GLB_FW_STATUS_FAILED = 0 →
    c ∈ [2, 3, 4, 5, 6] →
    let others := ([2, 3, 4, 5, 6] : List Nat).erase c
    let missed := s.fw.missed.filter (fun m => !others.contains m.1)
    Store.getD missed c 0 < 2 → exec (.supervisorHeartbeat others now) s =
      .next { s with fw := { s.fw with missed := Store.put missed c (Store.getD missed c 0 + 1) } }) ∧
  (∀ (s : State) (comp us : Nat), s.coresRun = true → comp < 7 → comp ≠ 3 → comp ≠ 6 → (s.reg Reg.GLB_FW_STATUS_FAILED).testBit comp = true →
    s.reg Reg.GLB_FW_STATUS_FAILED < 2 ^ Reg.GLB_FW_STATUS_FAILED.width →
    ∃ t, exec (.componentRestarted comp us) s = .next t ∧ (t.reg Reg.GLB_FW_STATUS_FAILED).testBit comp = false ∧
      (∀ k, k ≠ comp → (t.reg Reg.GLB_FW_STATUS_FAILED).testBit k = (s.reg Reg.GLB_FW_STATUS_FAILED).testBit k) ∧
      (t.reg Reg.GLB_FW_STATUS_COMPLEX_UP = 1 ↔ t.reg Reg.GLB_FW_STATUS_FAILED = 0) ∧
      t.reg Reg.GLB_FW_RESTARTS_COUNT = (s.reg Reg.GLB_FW_RESTARTS_COUNT + 1) % 2 ^ Reg.GLB_FW_RESTARTS_COUNT.width ∧
      t.reg Reg.GLB_FW_ERR_RESTART = 1 ∧ s.KeepsWork t ∧ t.fw = s.fw) ∧
  (∀ (s : State) (us : Nat), s.coresRun = true → (s.reg Reg.GLB_FW_STATUS_FAILED).testBit 6 = true → s.fw.update = none →
    ∃ t, exec (.componentRestarted 6 us) s = .next t ∧ t.reg Reg.GLB_FW_ERR_RESTART = 1 ∧ t.fw = s.fw ∧ s.KeepsWork t) ∧
  (∀ (s : State) (us : Nat), s.coresRun = true → (s.reg Reg.GLB_FW_STATUS_FAILED).testBit 3 = true → s.seq.builds = [] →
    ∃ t, exec (.componentRestarted 3 us) s = .next t ∧ t.reg Reg.GLB_FW_ERR_RESTART = 1 ∧ t.fw = s.fw ∧
      t.seq = s.seq ∧ t.tier = s.tier ∧ t.data = s.data) ∧
  (∀ (s : State) (now : Nat), s.mod.off = false → s.reg Reg.GLB_FW_STATUS_HALTED = 0 →
    exec (.complexWatchdogExpiry now) s = .next (s.complexReset 8 1 0 now)) ∧
  (∀ (s : State) (core now : Nat), s.mod.off = false → core ≤ 4 →
    exec (.coreSramEcc core now) s = .next (s.draw.2.complexReset 7 (s.draw.1 % 7) 0 now)) ∧
  (∀ (s : State) (cause comp flags now : Nat), s.reg Reg.GLB_FW_STATUS_RESETTING ≠ 1 → s.fw.held = false →
    s.reg Reg.GLB_FW_BANKS_TRIAL = 0 → (s.fw.resets.filter (fun t => now < t + 600000)).length < 3 → s.seq.active = true →
    let t := s.complexReset cause comp flags now
    t.reg Reg.GLB_STATUS_READY = 0 ∧ t.reg Reg.GLB_FW_STATUS_RESETTING = 1 ∧ t.reg Reg.GLB_FW_STATUS_COMPLEX_UP = 0 ∧
      t.reg Reg.GLB_FW_STATUS_FAILED = 0 ∧ t.reg Reg.GLB_FW_ERR_COMPLEX_RESET = 1 ∧
      t.reg Reg.GLB_FW_RESETS_COUNT = (s.reg Reg.GLB_FW_RESETS_COUNT + 1) % 2 ^ Reg.GLB_FW_RESETS_COUNT.width ∧ t.fw.update = none ∧
      t.fw.resets = s.fw.resets.filter (fun t => now < t + 600000) ++ [now] ∧ t.host.fetched = [] ∧
      t.tier.near = s.tier.near ∧ t.tier.tt = s.tier.tt ∧ t.data = s.data ∧ t.serve = s.serve) ∧
  (∀ (s : State) (ms : Nat), s.reg Reg.GLB_FW_STATUS_RESETTING = 1 → s.fw.held = false → s.mod.off = false → s.seq.active = false →
    let a := (s.resetAdvance.set Reg.GLB_FW_STATUS_RESETTING 0).releaseRecs.faultAll.restartWork.settleResets
    exec (.complexReady ms) s = .next
      (((a.tinkLog 0x0C04 noFn (leBytes 0 4 ++ leBytes ms 4)).set Reg.GLB_STATUS_READY 1).set Reg.GLB_FW_STATUS_COMPLEX_UP 1))

/-- DEBUG_ACTIVATE, DEBUG_HALT, DEBUG_RESUME, DEBUG_STEP, DEBUG_ABSTRACT_COMMAND, DEBUG_SYSBUS_ACCESS and JTAG_INSTRUCTION_LOAD (R469, R550 to
R552, R616): the Debug Module is switched; a core halts, resumes, or steps; its registers are read and written; system-bus accesses reach open
frames, the SRAMs, and nothing else; the TAP takes its instruction. -/
def Obligations.DebugCompletes : Prop :=
  (∀ (s : State) (on : Bool), s.mod.off = false → s.reg Reg.GLB_FW_STATUS_DEBUG_ACTIVE = b2n (!on) →
    ∃ t, exec (.debugActivate on) s = .next t ∧ t.reg Reg.GLB_FW_STATUS_DEBUG_ACTIVE = b2n on ∧
      (on = true → t.reg Reg.GLB_FW_ERR_DEBUG_ATTACH = 1) ∧ t.fw = s.fw ∧ s.KeepsWork t) ∧
  (∀ (s : State) (core : Nat), s.debugs core = true → s.isHalted core = false →
    exec (.debugHalt core) s = .next (s.setHalted core true) ∧ exec (.debugResume core) s = .next s ∧ exec (.debugStep core) s = .next s) ∧
  (∀ (s : State) (core : Nat), s.debugs core = true → s.isHalted core = true →
    exec (.debugHalt core) s = .next s ∧ exec (.debugResume core) s = .next (s.setHalted core false) ∧
      exec (.debugStep core) s = .next ((s.setHalted core false).setHalted core true)) ∧
  (∀ (s : State) (core : Nat) (on : Bool), core < 4 →
    let t := s.setHalted core on
    t.isHalted core = on ∧ (∀ c, c < 4 → c ≠ core → t.isHalted c = s.isHalted c) ∧ s.KeepsWork t) ∧
  (∀ (s : State) (o : AbstractOp), s.debugs o.core = true → s.isHalted o.core = true → o.reg < 65536 →
    (o.isWrite = true → ∃ t, exec (.debugAbstractCommand o) s = .next t ∧
      Store.get? t.fw.coreRegs (65536 * o.core + o.reg) = some (o.value % 2 ^ 64) ∧
      t = { s with fw := { s.fw with coreRegs := t.fw.coreRegs } }) ∧
    (o.isWrite = false → ∃ (t : State) (v : Nat), exec (.debugAbstractCommand o) s = .next t ∧
      (∀ x, Store.get? s.fw.coreRegs (65536 * o.core + o.reg) = some x → v = x) ∧ t.out.side = s.out.side ++ [(jtagPort, leBytes v 8)] ∧
      t = { s with fw := { s.fw with coreRegs := t.fw.coreRegs }, out := t.out, fresh := t.fresh })) ∧
  (∀ (s : State) (o : BusOp), s.mod.off = false → s.reg Reg.GLB_FW_STATUS_DEBUG_ACTIVE ≠ 0 →
    (o.space = .near → o.isWrite = true →
      exec (.debugSysbusAccess o) s = .next ((s.openWrite o.addr o.data).denyFrames .dbg true o.addr o.data.length)) ∧
    (o.space = .near → o.isWrite = false →
      exec (.debugSysbusAccess o) s = .next ((s.denyFrames .dbg false o.addr o.count).say jtagPort (s.openRead o.addr o.count))) ∧
    (∀ k, o.space = .unit k →
      let a := (s.denyUnit o.isWrite 0xFF).countUnit o.isWrite k
      exec (.debugSysbusAccess o) s = .next (if o.isWrite then a else a.say jtagPort (List.replicate o.count 0))) ∧
    (o.space = .elsewhere →
      let a := s.draw.2.denyUnit o.isWrite (s.draw.1 % 256)
      exec (.debugSysbusAccess o) s = .next (if o.isWrite then a else a.say jtagPort (List.replicate (if o.isWrite then 0 else o.count) 0))) ∧
    (∀ k, o.space = .sram k → o.isWrite = true → (∀ i, i < o.data.length → inSram k (o.addr + i) = true) →
      ∃ t, exec (.debugSysbusAccess o) s = .next t ∧
        (∀ i (h : i < o.data.length), Store.get? t.fw.sram (k * 2 ^ 20 + o.addr + i) = some o.data[i]) ∧
        t = { s with fw := { s.fw with sram := t.fw.sram } }) ∧
    (∀ k, o.space = .sram k → o.isWrite = false → ∃ (t : State) (l : List Byte), exec (.debugSysbusAccess o) s = .next t ∧
      l.length = o.count ∧ t.out.side = s.out.side ++ [(jtagPort, l)] ∧
      (∀ i (h : i < l.length) (b : Byte), inSram k (o.addr + i) = true → Store.get? s.fw.sram (k * 2 ^ 20 + (o.addr + i)) = some b → l[i] = b) ∧
      (∀ i (h : i < l.length), inSram k (o.addr + i) = false → l[i] = 0) ∧ t = { s with out := t.out, fresh := t.fresh })) ∧
  (∀ (s : State) (ir : TapInstr),
    let production := s.reg Reg.SEC_STATUS_LIFECYCLE = 1
    let idle := (∀ c ∈ s.tier.ctx, c.1 = 0 ∨ s.getF c.1 Reg.GLB_FN_STATE_STATE = 0) ∧ s.sec.baseKeys = []
    let tapAt := fun (n : Nat) => ({ s with fw := { s.fw with tap := n } } : State)
    (ir = .idcode → exec (.jtagInstructionLoad ir) s = .next ((tapAt 0).say jtagPort (leBytes idcode 4))) ∧
    (ir = .bypass → exec (.jtagInstructionLoad ir) s = .next (tapAt 1)) ∧
    (ir = .sample → exec (.jtagInstructionLoad ir) s = .next (tapAt 2)) ∧
    (ir = .extest → production → ¬ idle → exec (.jtagInstructionLoad ir) s = .next ((tapAt 1).secErr Reg.SEC_ERR_JTAG_REFUSED)) ∧
    (ir = .extest → ¬ production ∨ idle → exec (.jtagInstructionLoad ir) s = .next (tapAt 3)) ∧
    (ir = .debug → exec (.jtagInstructionLoad ir) s = .next (tapAt 4)) ∧
    (ir = .other → production → exec (.jtagInstructionLoad ir) s = .next (tapAt 1)) ∧
    (ir = .other → ¬ production → exec (.jtagInstructionLoad ir) s = .next (tapAt 5)))

/-- The PLDM and MCTP commands: QUERY_DEVICE_IDENTIFIERS, GET_FIRMWARE_PARAMETERS, REQUEST_UPDATE, PASS_COMPONENT_TABLE, UPDATE_COMPONENT,
REQUEST_FIRMWARE_DATA, VERIFY_COMPLETE, ACTIVATE_FIRMWARE, GET_STATUS, CANCEL_UPDATE_COMPONENT, CANCEL_UPDATE, TRIAL_CONFIRM,
SET_SENSOR_THRESHOLDS and SET_ENDPOINT_ID (R545 to R549, R614, R615). The answers' codes and layouts are the model's (assumption 166). -/
def Obligations.UpdateCommandsComplete : Prop :=
  (∀ (s : State) (c : Instr), s.telemetryUp = false → c ∈ [Instr.queryDeviceIdentifiers, .getFirmwareParameters, .requestUpdate,
    .activateFirmware, .getStatus, .cancelUpdateComponent, .cancelUpdate] → exec c s = .next s) ∧
  (∀ s : State, s.telemetryUp = true →
    exec .queryDeviceIdentifiers s = .next (s.pldm 0 ([0x8000, 0x8004, 0x8008].flatMap (fun o => leBytes (s.readWord 0 o) 4))) ∧
    exec .getFirmwareParameters s = .next (s.pldm 0 ((List.range 4).flatMap (fun k => leBytes (k + 1) 2 ++ leBytes (s.runningSvn k) 2 ++
      leBytes (b2n (bit (s.reg Reg.GLB_FW_BANKS_PENDING) k)) 1))) ∧
    (s.fw.update = none →
      exec .requestUpdate s = .next
        (((s.setUpdate ⟨[], none, 0, 0, [], []⟩ s.fw.banks).set Reg.GLB_FW_STATUS_UPDATE_OPEN 1).pldm 0 []) ∧
      exec .getStatus s = .next (s.pldm 0 (leBytes 0 6)) ∧ exec .cancelUpdate s = .next (s.pldm 0x80 []) ∧
      exec .cancelUpdateComponent s = .next (s.pldm 0x80 []) ∧ exec .activateFirmware s = .next (s.pldm 0x80 []) ∧
      (∀ l, exec (.passComponentTable l) s = .next (s.pldm 0x80 [])) ∧ (∀ c n, exec (.updateComponent c n) s = .next (s.pldm 0x80 [])) ∧
      (∀ n, exec (.requestFirmwareData n) s = .next s) ∧ ∀ g n, exec (.verifyComplete g n) s = .next s) ∧
    ∀ u : UpdateSession, s.fw.update = some u →
      exec .requestUpdate s = .next (s.pldm 0x81 []) ∧ exec .cancelUpdate s = .next (s.endUpdate.pldm 0 []) ∧
      exec .getStatus s = .next (s.pldm 0 (leBytes (if u.current.isSome then 2 else 1) 1 ++ leBytes (u.current.getD 0) 1 ++
        leBytes u.received 4)) ∧
      (∀ classes : List Nat, u.current = none → classes ≠ [] → (∀ c ∈ classes, c < 4) →
        exec (.passComponentTable classes) s = .next ((s.setUpdate { u with table := classes.dedup } s.fw.banks).pldm 0 [])) ∧
      (∀ cls size : Nat, u.current = none → cls ∈ u.table → bit (s.reg Reg.GLB_FW_BANKS_TRIAL) cls = false →
        exec (.updateComponent cls size) s = .next (((s.setUpdate { u with
          current := some cls, size := size, received := 0, verified := u.verified.erase cls, failed := u.failed.erase cls }
          (Store.put s.fw.banks cls 1)).fwStage cls 0).pldm 0 [])) ∧
      (∀ n : Nat, u.current ≠ none → n ≤ 4096 →
        exec (.requestFirmwareData n) s = .next (s.setUpdate { u with received := min u.size (u.received + n) } s.fw.banks)) ∧
      (∀ c, u.current = some c →
        exec .cancelUpdateComponent s = .next
          (((s.setUpdate { u with current := none } (Store.put s.fw.banks c 0)).fwStage c 4).pldm 0 [])) ∧
      (∀ (c svn : Nat), u.current = some c → u.size ≤ u.received → s.fusedSvn c ≤ svn → ∃ t, exec (.verifyComplete true svn) s = .next t ∧
        t.fw.update = some { u with current := none, verified := u.verified ++ [c] } ∧ Store.get? t.fw.banks c = some 2 ∧
        Store.get? t.fw.newSvn c = some svn ∧ t.fw.activeB = s.fw.activeB ∧ s.KeepsWork t) ∧
      (∀ (c svn : Nat) (good : Bool), u.current = some c → u.size ≤ u.received → good = false ∨ svn < s.fusedSvn c →
        exec (.verifyComplete good svn) s = .next (((s.setUpdate { u with current := none, failed := u.failed ++ [c] }
          (Store.put s.fw.banks c 3)).fwStage c 2).pldm 0 [])) ∧
      (u.current = none → u.table ≠ [] → (∀ c ∈ u.table, c ∈ u.verified) → ∃ t, exec .activateFirmware s = .next t ∧
        t.fw.update = none ∧ (∀ c ∈ u.table, Store.get? t.fw.banks c = some 4) ∧ t.reg Reg.GLB_FW_STATUS_UPDATE_OPEN = 0 ∧
        t.fw.activeB = s.fw.activeB ∧ s.KeepsWork t)) ∧
  (∀ s : State, s.reg Reg.GLB_FW_BANKS_TRIAL ≠ 0 → s.reg Reg.GLB_FW_BANKS_TRIAL < 16 → s.reg Reg.GLB_STATUS_READY ≠ 0 →
    ∃ t, exec .trialConfirm s = .next t ∧
      t.fw.activeB = some ((s.fw.activeB.getD Config.activeBanks.toNat) ^^^ s.reg Reg.GLB_FW_BANKS_TRIAL) ∧
      t.reg Reg.GLB_FW_BANKS_TRIAL = 0 ∧
      (∀ k, k < 4 → bit (s.reg Reg.GLB_FW_BANKS_TRIAL) k = true → Store.get? t.fw.banks k = some 2 ∧
        Store.get? t.fw.svn k = some (s.runningSvn k)) ∧ s.KeepsWork t) ∧
  (∀ (s : State) (n lo hi : Nat), s.telemetryUp = true → telSensor n = true → exec (.setSensorThresholds n lo hi) s =
    .next (State.pldm { s with fw := { s.fw with thresholds := Store.put s.fw.thresholds n (lo, hi) } } 0 [])) ∧
  (∀ (s : State) (bus eid : Nat), s.telemetryUp = true → bus < 2 → exec (.setEndpointId bus eid) s =
    .next { s with fw := { s.fw with eids := Store.put s.fw.eids bus (eid % 256) } })

/-! ### The machine as a whole -/

/-- Assumption 1, the model's own: a step is the effect of the command at the front of the queue, on the machine with the queue's rest; with an
empty queue the block idles. -/
def Obligations.StepRunsTheFront : Prop :=
  (∀ (s : State) (c : Instr) (l : List Instr), step { s with pending := c :: l } = exec c { s with pending := l }) ∧
  (∀ s : State, s.pending = [] → step s = .next s)

/-- Every command, in every state, answers a next state: nothing faults and nothing is refused (R9, R515: what is wrong with a command is
answered by a status or shown in an error register). -/
def Obligations.EveryCommandAnswers : Prop := ∀ (c : Instr) (s : State), Safe (exec c s)

/-- No command touches the queue, so that a step takes exactly the front command off it. -/
def Obligations.QueueFirstInFirstOut : Prop :=
  (∀ (c : Instr) (s t : State), exec c s = .next t → t.pending = s.pending) ∧
  (∀ s t : State, step s = .next t → t.pending = s.pending.tail)

/-- R7. Right after cast-on every register field holds its Reset value (the PF is ACTIVE: assumption 43), and nothing else is there:
no tensor, no command, no sequence, no template, no key, no byte in either tier, no waiting command. The Reset values of the registers are the
spec's; that memory is empty is the model's choice (assumption 4). -/
def Obligations.ResetState : Prop :=
  (∀ (fn : Nat) (f : Fld), f.off < 0x200000 → f.lo < 32 → (fn, f.off, f.lo) ≠ (0, 4, 0) → State.reset.getF fn f = f.rst) ∧
  State.reset.reg Reg.GLB_FN_STATE_STATE = 1 ∧ State.reset.tier.near = [] ∧ State.reset.tier.deep = [] ∧ State.reset.tier.tt = [] ∧
  State.reset.data.cmds = [] ∧ State.reset.serve.seqs = [] ∧ State.reset.seq.templates = [] ∧ State.reset.sec.keys = [] ∧
  State.reset.pending = [] ∧ State.reset.MemWf ∧ State.reset.RegsWf

/-- Every step keeps the canonical form of both tiers' bytes and of the register file: a state that meets it, whether or not a run reaches
it, goes to one that meets it. -/
def Obligations.StepKeepsForms : Prop := ∀ s t : State, s.MemWf → s.RegsWf → step s = .next t → t.MemWf ∧ t.RegsWf

/-- R85, R127 and the layouts of chapter 04: a well-formed Trolum instruction has a word, and its word decodes, at the same place of the same
die's stream, to an instruction with the same opcode, the same operands and the same common fields; and every word that decodes is the
word of what it decodes to. -/
def Obligations.TrolumRoundTrip : Prop :=
  (∀ (i : Instr) (h : Issue) (op : Nat) (v : List Nat), i.wf = true → trolumParts i = some (h, op, v) →
    ∃ (w : TWord) (j : Instr), encodeTrolum i = some w ∧ decodeTrolum h.die h.index w = some j ∧
      trolumParts j = some (⟨h.die, h.stage, h.unit, h.cslot, h.start, h.index, h.start, [], false, false, none, 0⟩, op, v)) ∧
  (∀ (die index : Nat) (w : TWord) (i : Instr), decodeTrolum die index w = some i → encodeTrolum i = some w)

/-- R127, R147, R160, R172: the word of the worked example of MX.RUN, a word of X.NOP and X.END decode as the layouts say, and a reserved opcode and a
word with a reserved bit set decode to nothing. -/
def Obligations.TrolumWordsDecode : Prop :=
  decodeTrolum 0 0 0x4140_0387_5040_3180_2F80_019C_1077_3808#128 =
    some (.mxRun ⟨0, 2, 0, 5, 903, 0, 903, [], false, false, none, 0⟩ ⟨0x08063, 95, 0, 0x03, 0x07, 0x083B9, 1, 1, 1, 0⟩) ∧
  decodeTrolum 1 7 (0xF3E0_0000_1000_0000_0000_0000_0000_0000#128) =
    some (.xNop ⟨1, 7, 0, 1, 0, 7, 0, [], false, false, none, 0⟩) ∧
  decodeTrolum 1 7 (0xFFE0_0010_0000_0000_0000_0000_0000_0000#128) =
    some (.xEnd ⟨1, 7, 0, 0, 16, 7, 16, [], false, false, none, 0⟩ 0) ∧
  decodeTrolum 0 0 (0xF3E0_0000_0000_0000_0000_0000_0000_0001#128) = none ∧
  decodeTrolum 0 0 (0x0300_0000_0000_0000_0000_0000_0000_0000#128) = none

/-- R474, quoted: while a loaded key's REQUIRE bit 0 is set, a write that would set ZERO_GATE_EN leaves it and everything but the error
register and its interrupt as they are, and sets POLICY_LOCK. -/
def Obligations.PolicyLockHolds : Prop :=
  ∀ (s : State) (v k : Nat) (p : Policy), (k, p) ∈ s.sec.keys ++ s.sec.baseKeys → bit p.require 0 = true → bit v 0 = true →
    ∃ t, exec (.mxaCtrlWrite v) s = .next t ∧ t.reg Reg.SEC_ERR_POLICY_LOCK = 1 ∧
      (∀ (fn : Nat) (f : Fld), f.off < 0x200000 → f.lo < 32 → regKey fn f ≠ regKey 0 Reg.SEC_ERR_POLICY_LOCK → t.getF fn f = s.getF fn f) ∧
      t = { s with regs := t.regs, out := { s.out with msix := t.out.msix } }

/-- R499, quoted: the PF's RNG block at 0xE0000 and at 0xE000 is one block. A plain write through either address gives the same state, and a
read through either shows the same value; the requests of RNG_CMD name the function and no address. -/
def Obligations.RngBlockAliased : Prop :=
  ∀ (s : State) (k v : Nat), k < 0x1000 →
    exec (.registerWrite 0 (0xE0000 + k) v) s = exec (.registerWrite 0 (0xE000 + k) v) s ∧
    s.readWord 0 (0xE0000 + k) = s.readWord 0 (0xE000 + k)

/-- R579, quoted: a write of a stitch marker's THRESH takes effect and re-arms it, so that a next sample beyond the threshold is a
crossing: STATUS is set and the counter advances, holding at its top. -/
def Obligations.MarkerRearms : Prop :=
  ∀ (s : State) (off v : Nat), off ∈ markRegs → ∃ t, exec (.markThreshWrite off v) s = .next t ∧
    (∀ f, f ∈ Reg.fieldsAt off → f.own = true → t.getF (s.home 0 off).1 f = bits v f.lo f.width) ∧
    (∀ st inten count, st ∈ Reg.fieldsAt off → st.acc = .rw1c → count.off < 0x200000 → count.lo < 32 → count.width = 32 → count.off ≠ off →
      let fn := (s.home 0 off).1
      let u := t.sample fn st inten count true
      u.getF fn st = 1 ∧ u.getF fn count = min (t.getF fn count + 1) 0xFFFFFFFF)
end

