-- ==== Sys2Proof/Laws/Store.lean ====
section
/-!
SUPPORT. The laws of sparse data: what a read finds after a write, and that every operation keeps the canonical form.
-/

namespace Sys2Proof.Machine

variable {α : Type}

theorem Store.get?_put_same (m : List (Nat × α)) (a : Nat) (v : α) : Store.get? (Store.put m a v) a = some v := by
  induction m with
  | nil => simp [Store.put, Store.get?]
  | cons c t ih =>
    obtain ⟨k, w⟩ := c
    simp only [Store.put]
    split
    · simp [Store.get?]
    · split
      · simp [Store.get?]
      · rename_i h1 h2
        simp [Store.get?, ih, Ne.symm h2]

theorem Store.get?_put_ne (m : List (Nat × α)) {a b : Nat} (v : α) (h : b ≠ a) :
    Store.get? (Store.put m a v) b = Store.get? m b := by
  induction m with
  | nil => simp [Store.put, Store.get?, Ne.symm h]
  | cons c t ih =>
    obtain ⟨k, w⟩ := c
    simp only [Store.put]
    split
    · simp [Store.get?, Ne.symm h]
    · split
      · rename_i h1 h2
        subst h2
        simp [Store.get?, Ne.symm h]
      · simp [Store.get?, ih]

@[simp] theorem Store.getD_put_same (m : List (Nat × α)) (a : Nat) (v d : α) : Store.getD (Store.put m a v) a d = v := by
  simp [Store.getD, Store.get?_put_same]

theorem Store.getD_put_ne (m : List (Nat × α)) {a b : Nat} (v d : α) (h : b ≠ a) :
    Store.getD (Store.put m a v) b d = Store.getD m b d := by
  simp [Store.getD, Store.get?_put_ne m v h]

/-- One lemma for both cases. -/
theorem Store.get?_put (m : List (Nat × α)) (a b : Nat) (v : α) :
    Store.get? (Store.put m a v) b = if b = a then some v else Store.get? m b := by
  by_cases h : b = a
  · subst h; simp [Store.get?_put_same]
  · simp [Store.get?_put_ne m v h, h]

theorem Store.get?_removeIf (m : List (Nat × α)) (p : Nat → Bool) (b : Nat) :
    Store.get? (Store.removeIf m p) b = if p b then none else Store.get? m b := by
  induction m with
  | nil => simp [Store.removeIf, Store.get?]
  | cons c t ih =>
    obtain ⟨k, w⟩ := c
    simp only [Store.removeIf, List.filter] at ih ⊢
    by_cases hk : k = b
    · subst hk
      cases hp : p k <;> simp [hp, Store.get?, ih]
    · cases hp : p k <;> simp [Store.get?, ih, hk]

@[simp] theorem Store.get?_erase_same (m : List (Nat × α)) (a : Nat) : Store.get? (Store.erase m a) a = none := by
  simp [Store.erase, Store.get?_removeIf]

theorem Store.get?_erase_ne (m : List (Nat × α)) {a b : Nat} (h : b ≠ a) :
    Store.get? (Store.erase m a) b = Store.get? m b := by
  simp [Store.erase, Store.get?_removeIf, h]

theorem Store.mem_put {m : List (Nat × α)} {a : Nat} {v : α} {c : Nat × α} (h : c ∈ Store.put m a v) :
    c = (a, v) ∨ c ∈ m := by
  induction m with
  | nil => simpa [Store.put] using h
  | cons d t ih =>
    obtain ⟨k, w⟩ := d
    simp only [Store.put] at h
    split at h
    · simpa using h
    · split at h
      · rcases List.mem_cons.mp h with h | h
        · exact .inl h
        · exact .inr (List.mem_cons_of_mem _ h)
      · rcases List.mem_cons.mp h with h | h
        · exact .inr (by simp [h])
        · rcases ih h with h | h
          · exact .inl h
          · exact .inr (List.mem_cons_of_mem _ h)

theorem Store.put_wf {m : List (Nat × α)} (h : Store.wf m) (a : Nat) (v : α) : Store.wf (Store.put m a v) := by
  induction m with
  | nil => simp [Store.put]
  | cons d t ih =>
    obtain ⟨k, w⟩ := d
    have hc := List.pairwise_cons.mp h
    simp only [Store.put]
    split
    · rename_i hlt
      refine List.pairwise_cons.mpr ⟨?_, h⟩
      intro c hm
      rcases List.mem_cons.mp hm with rfl | hm
      · exact hlt
      · exact Nat.lt_trans hlt (hc.1 c hm)
    · split
      · rename_i h1 h2
        subst h2
        exact List.pairwise_cons.mpr ⟨hc.1, hc.2⟩
      · rename_i h1 h2
        refine List.pairwise_cons.mpr ⟨?_, ih hc.2⟩
        intro c hm
        rcases Store.mem_put hm with rfl | hm
        · show k < a
          omega
        · exact hc.1 c hm

theorem Store.removeIf_wf {m : List (Nat × α)} (h : Store.wf m) (p : Nat → Bool) : Store.wf (Store.removeIf m p) :=
  List.Pairwise.filter _ h

theorem Store.erase_wf {m : List (Nat × α)} (h : Store.wf m) (a : Nat) : Store.wf (Store.erase m a) :=
  Store.removeIf_wf h _

/-! ### Memories -/

theorem Memory.removeIf_wf {m : List Host.Cell} (h : Memory.wf m) (p : Nat → Bool) : Memory.wf (Store.removeIf m p) :=
  ⟨Store.removeIf_wf h.1 p, fun c hc => h.2 c (List.mem_filter.mp hc).1⟩

theorem Memory.write_wf {m : List Host.Cell} (h : Memory.wf m) (a : Nat) (b : Byte) : Memory.wf (Memory.write m a b) := by
  unfold Memory.write
  split
  · exact Memory.removeIf_wf h _
  · rename_i hb
    refine ⟨Store.put_wf h.1 a b, fun c hc => ?_⟩
    rcases Store.mem_put hc with rfl | hc
    · exact hb
    · exact h.2 c hc

theorem Memory.writeBytes_wf {m : List Host.Cell} (h : Memory.wf m) (a : Nat) (l : List Byte) :
    Memory.wf (Memory.writeBytes m a l) := by
  induction l generalizing m a with
  | nil => exact h
  | cons b t ih => exact ih (Memory.write_wf h a b) (a + 1)

theorem Memory.zero_wf {m : List Host.Cell} (h : Memory.wf m) (a k : Nat) : Memory.wf (Memory.zero m a k) :=
  Memory.removeIf_wf h _

theorem Memory.nil_wf : Memory.wf [] := by simp [Memory.wf, Store.wf]

theorem Memory.read_write (m : List Host.Cell) (a b : Nat) (v : Byte) :
    Memory.read (Memory.write m a v) b = if b = a then v else Memory.read m b := by
  unfold Memory.write Memory.read Store.getD
  by_cases hv : v = 0
  · by_cases hb : b = a
    · subst hb; simp [hv]
    · simp [hv, hb, Store.get?_erase_ne m hb]
  · simp only [hv, if_false, Store.get?_put]
    by_cases hb : b = a <;> simp [hb]

/-- A write of bytes leaves every byte outside them. -/
theorem Memory.read_writeBytes_outside (m : List Host.Cell) (a : Nat) (l : List Byte) (b : Nat)
    (h : b < a ∨ a + l.length ≤ b) : Memory.read (Memory.writeBytes m a l) b = Memory.read m b := by
  induction l generalizing m a with
  | nil => rfl
  | cons x t ih =>
    simp only [List.length_cons] at h
    simp only [Memory.writeBytes]
    rw [ih _ _ (by omega), Memory.read_write, if_neg (by omega)]

/-- A write of bytes stores each of them at its place. -/
theorem Memory.read_writeBytes_inside (m : List Host.Cell) (a : Nat) (l : List Byte) (i : Nat) (h : i < l.length) :
    Memory.read (Memory.writeBytes m a l) (a + i) = l[i] := by
  induction l generalizing m a i with
  | nil => simp at h
  | cons x t ih =>
    simp only [Memory.writeBytes]
    cases i with
    | zero =>
      rw [Nat.add_zero, Memory.read_writeBytes_outside _ _ _ _ (by omega), Memory.read_write]
      simp
    | succ i =>
      have := ih (Memory.write m a x) (a + 1) i (by simpa using h)
      rw [show a + (i + 1) = a + 1 + i by omega, this]
      simp

/-- A zero-fill makes its bytes zero and leaves the others. -/
theorem Memory.read_zero (m : List Host.Cell) (a k b : Nat) :
    Memory.read (Memory.zero m a k) b = if a ≤ b ∧ b < a + k then 0 else Memory.read m b := by
  unfold Memory.read Memory.zero Store.getD
  rw [Store.get?_removeIf]
  by_cases h : a ≤ b ∧ b < a + k
  · simp [h]
  · have : (decide (a ≤ b) && decide (b < a + k)) = false := by simpa using h
    simp [h, this]

end Sys2Proof.Machine
end

