-- ==== Sys2Proof/Laws/State.lean ====
section
/-!
SUPPORT. What the named operations of Ops leave of each field of the state, and what a register reads after another is
written.
-/

namespace Sys2Proof.Machine

/-! ### Registers -/

/-- Different fields of one function have different keys. -/
theorem regKey_ne {fn : Nat} {f g : Fld} (h : g.off * 32 + g.lo ≠ f.off * 32 + f.lo) : regKey fn g ≠ regKey fn f := by
  unfold regKey
  omega

/-- Fields of two functions have different keys: offsets lie in the window and bits in the word. -/
theorem regKey_fn_ne {a b : Nat} {f g : Fld} (hf : f.off < 0x200000 ∧ f.lo < 32) (hg : g.off < 0x200000 ∧ g.lo < 32)
    (h : b ≠ a) : regKey b g ≠ regKey a f := by
  unfold regKey
  obtain ⟨hf1, hf2⟩ := hf
  obtain ⟨hg1, hg2⟩ := hg
  rcases Nat.lt_or_gt_of_ne h with h | h
  · have : b * 0x200000 + 0x200000 ≤ a * 0x200000 := by
      have : (b + 1) * 0x200000 ≤ a * 0x200000 := Nat.mul_le_mul_right _ h
      omega
    omega
  · have : a * 0x200000 + 0x200000 ≤ b * 0x200000 := by
      have : (a + 1) * 0x200000 ≤ b * 0x200000 := Nat.mul_le_mul_right _ h
      omega
    omega

@[simp] theorem State.getF_setF_same (s : State) (fn : Nat) (f : Fld) (v : Nat) :
    (s.setF fn f v).getF fn f = v % 2 ^ f.width := by
  simp [State.getF, State.setF]

theorem State.getF_setF_key (s : State) (a b : Nat) (f g : Fld) (v : Nat) (h : regKey b g ≠ regKey a f) :
    (s.setF a f v).getF b g = s.getF b g := by
  simp [State.getF, State.setF, Store.getD_put_ne _ _ _ h]

/-- A write of one field leaves every other field of the function. -/
theorem State.getF_setF_ne (s : State) (fn : Nat) (f g : Fld) (v : Nat) (h : g.off * 32 + g.lo ≠ f.off * 32 + f.lo) :
    (s.setF fn f v).getF fn g = s.getF fn g :=
  State.getF_setF_key s fn fn f g v (regKey_ne h)

/-- A write of a field of one function leaves every field of the others. -/
theorem State.getF_setF_fn (s : State) (a b : Nat) (f g : Fld) (v : Nat) (hf : f.off < 0x200000 ∧ f.lo < 32)
    (hg : g.off < 0x200000 ∧ g.lo < 32) (h : b ≠ a) : (s.setF a f v).getF b g = s.getF b g :=
  State.getF_setF_key s a b f g v (regKey_fn_ne hf hg h)

@[simp] theorem State.reg_set_same (s : State) (f : Fld) (v : Nat) : (s.set f v).reg f = v % 2 ^ f.width := by
  simp [State.reg, State.set]

theorem State.reg_set_ne (s : State) (f g : Fld) (v : Nat) (h : g.off * 32 + g.lo ≠ f.off * 32 + f.lo) :
    (s.set f v).reg g = s.reg g :=
  State.getF_setF_ne s 0 f g v h

theorem State.flag_set_ne (s : State) (f g : Fld) (v : Nat) (h : g.off * 32 + g.lo ≠ f.off * 32 + f.lo) :
    (s.set f v).flag g = s.flag g := by
  simp [State.flag, State.reg_set_ne s f g v h]

theorem State.reg_set_getF (s : State) (fn : Nat) (f g : Fld) (v : Nat) (h : regKey fn g ≠ regKey 0 f) :
    (s.set f v).getF fn g = s.getF fn g :=
  State.getF_setF_key s 0 fn f g v h

@[simp] theorem State.reg_eq (s : State) (f : Fld) : s.getF 0 f = s.reg f := rfl
@[simp] theorem State.setF_zero (s : State) (f : Fld) (v : Nat) : s.setF 0 f v = s.set f v := rfl

/-! ### Fields after a register write -/

@[simp] theorem State.setF_data (s : State) (fn : Nat) (g : Fld) (v : Nat) : (s.setF fn g v).data = s.data := rfl
@[simp] theorem State.setF_seq (s : State) (fn : Nat) (g : Fld) (v : Nat) : (s.setF fn g v).seq = s.seq := rfl
@[simp] theorem State.setF_tier (s : State) (fn : Nat) (g : Fld) (v : Nat) : (s.setF fn g v).tier = s.tier := rfl
@[simp] theorem State.setF_serve (s : State) (fn : Nat) (g : Fld) (v : Nat) : (s.setF fn g v).serve = s.serve := rfl
@[simp] theorem State.setF_sec (s : State) (fn : Nat) (g : Fld) (v : Nat) : (s.setF fn g v).sec = s.sec := rfl
@[simp] theorem State.setF_fab (s : State) (fn : Nat) (g : Fld) (v : Nat) : (s.setF fn g v).fab = s.fab := rfl
@[simp] theorem State.setF_twin (s : State) (fn : Nat) (g : Fld) (v : Nat) : (s.setF fn g v).twin = s.twin := rfl
@[simp] theorem State.setF_pwr (s : State) (fn : Nat) (g : Fld) (v : Nat) : (s.setF fn g v).pwr = s.pwr := rfl
@[simp] theorem State.setF_fw (s : State) (fn : Nat) (g : Fld) (v : Nat) : (s.setF fn g v).fw = s.fw := rfl
@[simp] theorem State.setF_mod (s : State) (fn : Nat) (g : Fld) (v : Nat) : (s.setF fn g v).mod = s.mod := rfl
@[simp] theorem State.setF_host (s : State) (fn : Nat) (g : Fld) (v : Nat) : (s.setF fn g v).host = s.host := rfl
@[simp] theorem State.setF_tink (s : State) (fn : Nat) (g : Fld) (v : Nat) : (s.setF fn g v).tink = s.tink := rfl
@[simp] theorem State.setF_out (s : State) (fn : Nat) (g : Fld) (v : Nat) : (s.setF fn g v).out = s.out := rfl
@[simp] theorem State.setF_fresh (s : State) (fn : Nat) (g : Fld) (v : Nat) : (s.setF fn g v).fresh = s.fresh := rfl
@[simp] theorem State.setF_pending (s : State) (fn : Nat) (g : Fld) (v : Nat) : (s.setF fn g v).pending = s.pending := rfl

/-! ### Fields after a write of a register of the PF -/

@[simp] theorem State.set_data (s : State) (g : Fld) (v : Nat) : (s.set g v).data = s.data := rfl
@[simp] theorem State.set_seq (s : State) (g : Fld) (v : Nat) : (s.set g v).seq = s.seq := rfl
@[simp] theorem State.set_tier (s : State) (g : Fld) (v : Nat) : (s.set g v).tier = s.tier := rfl
@[simp] theorem State.set_serve (s : State) (g : Fld) (v : Nat) : (s.set g v).serve = s.serve := rfl
@[simp] theorem State.set_sec (s : State) (g : Fld) (v : Nat) : (s.set g v).sec = s.sec := rfl
@[simp] theorem State.set_fab (s : State) (g : Fld) (v : Nat) : (s.set g v).fab = s.fab := rfl
@[simp] theorem State.set_twin (s : State) (g : Fld) (v : Nat) : (s.set g v).twin = s.twin := rfl
@[simp] theorem State.set_pwr (s : State) (g : Fld) (v : Nat) : (s.set g v).pwr = s.pwr := rfl
@[simp] theorem State.set_fw (s : State) (g : Fld) (v : Nat) : (s.set g v).fw = s.fw := rfl
@[simp] theorem State.set_mod (s : State) (g : Fld) (v : Nat) : (s.set g v).mod = s.mod := rfl
@[simp] theorem State.set_host (s : State) (g : Fld) (v : Nat) : (s.set g v).host = s.host := rfl
@[simp] theorem State.set_tink (s : State) (g : Fld) (v : Nat) : (s.set g v).tink = s.tink := rfl
@[simp] theorem State.set_out (s : State) (g : Fld) (v : Nat) : (s.set g v).out = s.out := rfl
@[simp] theorem State.set_fresh (s : State) (g : Fld) (v : Nat) : (s.set g v).fresh = s.fresh := rfl
@[simp] theorem State.set_pending (s : State) (g : Fld) (v : Nat) : (s.set g v).pending = s.pending := rfl

/-! ### Fields after a counter advances -/

@[simp] theorem State.inc_data (s : State) (g : Fld) (v : Nat) : (s.inc g v).data = s.data := rfl
@[simp] theorem State.inc_seq (s : State) (g : Fld) (v : Nat) : (s.inc g v).seq = s.seq := rfl
@[simp] theorem State.inc_tier (s : State) (g : Fld) (v : Nat) : (s.inc g v).tier = s.tier := rfl
@[simp] theorem State.inc_serve (s : State) (g : Fld) (v : Nat) : (s.inc g v).serve = s.serve := rfl
@[simp] theorem State.inc_sec (s : State) (g : Fld) (v : Nat) : (s.inc g v).sec = s.sec := rfl
@[simp] theorem State.inc_fab (s : State) (g : Fld) (v : Nat) : (s.inc g v).fab = s.fab := rfl
@[simp] theorem State.inc_twin (s : State) (g : Fld) (v : Nat) : (s.inc g v).twin = s.twin := rfl
@[simp] theorem State.inc_pwr (s : State) (g : Fld) (v : Nat) : (s.inc g v).pwr = s.pwr := rfl
@[simp] theorem State.inc_fw (s : State) (g : Fld) (v : Nat) : (s.inc g v).fw = s.fw := rfl
@[simp] theorem State.inc_mod (s : State) (g : Fld) (v : Nat) : (s.inc g v).mod = s.mod := rfl
@[simp] theorem State.inc_host (s : State) (g : Fld) (v : Nat) : (s.inc g v).host = s.host := rfl
@[simp] theorem State.inc_tink (s : State) (g : Fld) (v : Nat) : (s.inc g v).tink = s.tink := rfl
@[simp] theorem State.inc_out (s : State) (g : Fld) (v : Nat) : (s.inc g v).out = s.out := rfl
@[simp] theorem State.inc_fresh (s : State) (g : Fld) (v : Nat) : (s.inc g v).fresh = s.fresh := rfl
@[simp] theorem State.inc_pending (s : State) (g : Fld) (v : Nat) : (s.inc g v).pending = s.pending := rfl

/-! ### Fields after an MSI-X message -/

@[simp] theorem State.msix_regs (s : State) (fn v : Nat) : (s.msix fn v).regs = s.regs := rfl
@[simp] theorem State.msix_data (s : State) (fn v : Nat) : (s.msix fn v).data = s.data := rfl
@[simp] theorem State.msix_seq (s : State) (fn v : Nat) : (s.msix fn v).seq = s.seq := rfl
@[simp] theorem State.msix_tier (s : State) (fn v : Nat) : (s.msix fn v).tier = s.tier := rfl
@[simp] theorem State.msix_serve (s : State) (fn v : Nat) : (s.msix fn v).serve = s.serve := rfl
@[simp] theorem State.msix_sec (s : State) (fn v : Nat) : (s.msix fn v).sec = s.sec := rfl
@[simp] theorem State.msix_fab (s : State) (fn v : Nat) : (s.msix fn v).fab = s.fab := rfl
@[simp] theorem State.msix_twin (s : State) (fn v : Nat) : (s.msix fn v).twin = s.twin := rfl
@[simp] theorem State.msix_pwr (s : State) (fn v : Nat) : (s.msix fn v).pwr = s.pwr := rfl
@[simp] theorem State.msix_fw (s : State) (fn v : Nat) : (s.msix fn v).fw = s.fw := rfl
@[simp] theorem State.msix_mod (s : State) (fn v : Nat) : (s.msix fn v).mod = s.mod := rfl
@[simp] theorem State.msix_host (s : State) (fn v : Nat) : (s.msix fn v).host = s.host := rfl
@[simp] theorem State.msix_tink (s : State) (fn v : Nat) : (s.msix fn v).tink = s.tink := rfl
@[simp] theorem State.msix_fresh (s : State) (fn v : Nat) : (s.msix fn v).fresh = s.fresh := rfl
@[simp] theorem State.msix_pending (s : State) (fn v : Nat) : (s.msix fn v).pending = s.pending := rfl

@[simp] theorem State.getF_msix (s : State) (fn v n : Nat) (f : Fld) : (s.msix fn v).getF n f = s.getF n f := rfl
@[simp] theorem State.reg_msix (s : State) (fn v : Nat) (f : Fld) : (s.msix fn v).reg f = s.reg f := rfl

/-! ### A field of the record replaced -/

@[simp] theorem State.getF_data (s : State) (x : DataPath) (n : Nat) (g : Fld) :
    State.getF { s with data := x } n g = s.getF n g := rfl
@[simp] theorem State.reg_data (s : State) (x : DataPath) (g : Fld) : State.reg { s with data := x } g = s.reg g := rfl
@[simp] theorem State.flag_data (s : State) (x : DataPath) (g : Fld) : State.flag { s with data := x } g = s.flag g := rfl
@[simp] theorem State.getF_seq (s : State) (x : SeqState) (n : Nat) (g : Fld) :
    State.getF { s with seq := x } n g = s.getF n g := rfl
@[simp] theorem State.reg_seq (s : State) (x : SeqState) (g : Fld) : State.reg { s with seq := x } g = s.reg g := rfl
@[simp] theorem State.flag_seq (s : State) (x : SeqState) (g : Fld) : State.flag { s with seq := x } g = s.flag g := rfl
@[simp] theorem State.getF_tier (s : State) (x : TierState) (n : Nat) (g : Fld) :
    State.getF { s with tier := x } n g = s.getF n g := rfl
@[simp] theorem State.reg_tier (s : State) (x : TierState) (g : Fld) : State.reg { s with tier := x } g = s.reg g := rfl
@[simp] theorem State.flag_tier (s : State) (x : TierState) (g : Fld) : State.flag { s with tier := x } g = s.flag g := rfl
@[simp] theorem State.getF_serve (s : State) (x : ServeState) (n : Nat) (g : Fld) :
    State.getF { s with serve := x } n g = s.getF n g := rfl
@[simp] theorem State.reg_serve (s : State) (x : ServeState) (g : Fld) : State.reg { s with serve := x } g = s.reg g := rfl
@[simp] theorem State.flag_serve (s : State) (x : ServeState) (g : Fld) : State.flag { s with serve := x } g = s.flag g := rfl
@[simp] theorem State.getF_sec (s : State) (x : SecState) (n : Nat) (g : Fld) :
    State.getF { s with sec := x } n g = s.getF n g := rfl
@[simp] theorem State.reg_sec (s : State) (x : SecState) (g : Fld) : State.reg { s with sec := x } g = s.reg g := rfl
@[simp] theorem State.flag_sec (s : State) (x : SecState) (g : Fld) : State.flag { s with sec := x } g = s.flag g := rfl
@[simp] theorem State.getF_fab (s : State) (x : FabState) (n : Nat) (g : Fld) :
    State.getF { s with fab := x } n g = s.getF n g := rfl
@[simp] theorem State.reg_fab (s : State) (x : FabState) (g : Fld) : State.reg { s with fab := x } g = s.reg g := rfl
@[simp] theorem State.flag_fab (s : State) (x : FabState) (g : Fld) : State.flag { s with fab := x } g = s.flag g := rfl
@[simp] theorem State.getF_twin (s : State) (x : TwinState) (n : Nat) (g : Fld) :
    State.getF { s with twin := x } n g = s.getF n g := rfl
@[simp] theorem State.reg_twin (s : State) (x : TwinState) (g : Fld) : State.reg { s with twin := x } g = s.reg g := rfl
@[simp] theorem State.flag_twin (s : State) (x : TwinState) (g : Fld) : State.flag { s with twin := x } g = s.flag g := rfl
@[simp] theorem State.getF_pwr (s : State) (x : PwrState) (n : Nat) (g : Fld) :
    State.getF { s with pwr := x } n g = s.getF n g := rfl
@[simp] theorem State.reg_pwr (s : State) (x : PwrState) (g : Fld) : State.reg { s with pwr := x } g = s.reg g := rfl
@[simp] theorem State.flag_pwr (s : State) (x : PwrState) (g : Fld) : State.flag { s with pwr := x } g = s.flag g := rfl
@[simp] theorem State.getF_fw (s : State) (x : FwState) (n : Nat) (g : Fld) :
    State.getF { s with fw := x } n g = s.getF n g := rfl
@[simp] theorem State.reg_fw (s : State) (x : FwState) (g : Fld) : State.reg { s with fw := x } g = s.reg g := rfl
@[simp] theorem State.flag_fw (s : State) (x : FwState) (g : Fld) : State.flag { s with fw := x } g = s.flag g := rfl
@[simp] theorem State.getF_mod (s : State) (x : ModState) (n : Nat) (g : Fld) :
    State.getF { s with mod := x } n g = s.getF n g := rfl
@[simp] theorem State.reg_mod (s : State) (x : ModState) (g : Fld) : State.reg { s with mod := x } g = s.reg g := rfl
@[simp] theorem State.flag_mod (s : State) (x : ModState) (g : Fld) : State.flag { s with mod := x } g = s.flag g := rfl
@[simp] theorem State.getF_host (s : State) (x : HostState) (n : Nat) (g : Fld) :
    State.getF { s with host := x } n g = s.getF n g := rfl
@[simp] theorem State.reg_host (s : State) (x : HostState) (g : Fld) : State.reg { s with host := x } g = s.reg g := rfl
@[simp] theorem State.flag_host (s : State) (x : HostState) (g : Fld) : State.flag { s with host := x } g = s.flag g := rfl
@[simp] theorem State.getF_tink (s : State) (x : TinkState) (n : Nat) (g : Fld) :
    State.getF { s with tink := x } n g = s.getF n g := rfl
@[simp] theorem State.reg_tink (s : State) (x : TinkState) (g : Fld) : State.reg { s with tink := x } g = s.reg g := rfl
@[simp] theorem State.flag_tink (s : State) (x : TinkState) (g : Fld) : State.flag { s with tink := x } g = s.flag g := rfl
@[simp] theorem State.getF_out (s : State) (x : Outbox) (n : Nat) (g : Fld) :
    State.getF { s with out := x } n g = s.getF n g := rfl
@[simp] theorem State.reg_out (s : State) (x : Outbox) (g : Fld) : State.reg { s with out := x } g = s.reg g := rfl
@[simp] theorem State.flag_out (s : State) (x : Outbox) (g : Fld) : State.flag { s with out := x } g = s.flag g := rfl
@[simp] theorem State.getF_fresh (s : State) (x : Nat) (n : Nat) (g : Fld) :
    State.getF { s with fresh := x } n g = s.getF n g := rfl
@[simp] theorem State.reg_fresh (s : State) (x : Nat) (g : Fld) : State.reg { s with fresh := x } g = s.reg g := rfl
@[simp] theorem State.flag_fresh (s : State) (x : Nat) (g : Fld) : State.flag { s with fresh := x } g = s.flag g := rfl
@[simp] theorem State.getF_pending (s : State) (x : List Instr) (n : Nat) (g : Fld) :
    State.getF { s with pending := x } n g = s.getF n g := rfl
@[simp] theorem State.reg_pending (s : State) (x : List Instr) (g : Fld) : State.reg { s with pending := x } g = s.reg g := rfl
@[simp] theorem State.flag_pending (s : State) (x : List Instr) (g : Fld) : State.flag { s with pending := x } g = s.flag g := rfl

end Sys2Proof.Machine
end

