-- ==== Sys2Proof/Laws/Mail.lean ====
section
/-!
SUPPORT. The laws of the mailbox: what a message that is taken is answered, from what its own rules say.
-/

namespace Sys2Proof.Machine

/-- A message that is taken, in range and from a sender that may send it, goes to its own rules. -/
theorem State.mail_taken {s : State} {h : Mail} {m : MailSpec} (ht : s.Taken h m.type m.minMinor m.size)
    (ha : m.args s = true) (hs : m.sender s = true) :
    s.mail h m = match m.body (h.ticket m.type) s with
      | .done s p => s.replied h m.type p
      | .fail s st p => s.pageReply (h.ticket m.type) st false p
      | .conflict c => s.pageReply (h.ticket m.type) .stateConflict false c.bytes
      | .later s => s.waiting h m.type := by
  obtain ⟨hb, hg, hmaj, hmin, hlen, hex, hst, hfl, hwf, hpre⟩ := ht
  have hasync : bit h.flags 1 = false := by simp [hfl, bit]
  have hpc : m.precond h = h.precond m.type := rfl
  have hex' : (h.payload.drop m.size).any (· != 0) = false := by
    simp only [List.any_eq_false, bne_iff_ne, ne_eq, Decidable.not_not]
    exact hex
  have hclr : clearBit h.flags 1 = 0 := by rw [hfl]; decide
  have hr : m.refusal h s = none := by
    have h1 : ¬(h.minor < m.minMinor) := by omega
    have h2 : ¬(h.payload.length < m.size) := by omega
    simp only [MailSpec.refusal, hasync, hex', hmaj, h1, h2, hst, hclr, hpc, hwf, ha, hs, hpre]
    simp
  have hrm : replyMinor h = min h.minor 1 := by simp [replyMinor, hmaj]
  unfold State.mail
  rw [if_neg hb]
  simp only [hg, hr, hrm, hasync]
  show (match m.body (h.ticket m.type) s with
    | .done s p => s.pageReply (h.ticket m.type) .ok false p
    | .fail s st p => s.pageReply (h.ticket m.type) st false p
    | .conflict c => s.pageReply (h.ticket m.type) .stateConflict false c.bytes
    | .later s => ({ s with host := { s.host with tickets := s.host.tickets ++ [h.ticket m.type] } } : State).setF h.fn
        Reg.MBX_STATUS_BUSY 1) = _
  rfl

/-- A message whose own rules are done at once is answered OK. -/
theorem State.mail_done {s s' : State} {h : Mail} {m : MailSpec} {p : List Byte} (ht : s.Taken h m.type m.minMinor m.size)
    (ha : m.args s = true) (hs : m.sender s = true) (hd : m.body (h.ticket m.type) s = .done s' p) :
    s.mail h m = s'.replied h m.type p := by
  rw [State.mail_taken ht ha hs, hd]

/-- A message that is answered later keeps its page. -/
theorem State.mail_later {s s' : State} {h : Mail} {m : MailSpec} (ht : s.Taken h m.type m.minMinor m.size)
    (ha : m.args s = true) (hs : m.sender s = true) (hd : m.body (h.ticket m.type) s = .later s') :
    s.mail h m = s'.waiting h m.type := by
  rw [State.mail_taken ht ha hs, hd]

end Sys2Proof.Machine
end

