-- ==== Sys2Proof/Laws/Skein.lean ====
section
/-!
SUPPORT. The laws of the skein and of an instruction's issue: what a line reads after a write, what an issue with nothing
amiss answers, and which registers a count leaves.
-/

namespace Sys2Proof.Machine

/-! ### Registers that are kept -/

theorem State.RegsKept.refl (p : Nat → Bool) (s : State) : s.RegsKept p s := fun _ _ _ _ _ => rfl

theorem State.RegsKept.trans {p : Nat → Bool} {a b c : State} (h : a.RegsKept p b) (k : b.RegsKept p c) : a.RegsKept p c :=
  fun fn f ho hl hp => (k fn f ho hl hp).trans (h fn f ho hl hp)

theorem State.RegsKept.of_regs {p : Nat → Bool} {s t : State} (h : t.regs = s.regs) : s.RegsKept p t := by
  intro fn f _ _ _
  simp [State.getF, h]

theorem State.regsKept_set {p : Nat → Bool} (s : State) (f : Fld) (v : Nat) (hf : f.off < 0x200000) (hl : f.lo < 32)
    (hp : p f.off = true) : s.RegsKept p (s.set f v) := by
  intro fn g ho hg h
  by_cases hfn : fn = 0
  · subst hfn
    rcases h with h | h
    · exact absurd rfl h
    · have : g.off ≠ f.off := by
        intro e
        rw [e, hp] at h
        exact Bool.noConfusion h
      exact State.getF_setF_ne s 0 f g v (by omega)
  · exact State.getF_setF_fn s 0 fn f g v ⟨hf, hl⟩ ⟨ho, hg⟩ hfn

theorem State.regsKept_inc {p : Nat → Bool} (s : State) (f : Fld) (v : Nat) (hf : f.off < 0x200000) (hl : f.lo < 32)
    (hp : p f.off = true) : s.RegsKept p (s.inc f v) :=
  State.regsKept_set s f _ hf hl hp

/-! ### What lies outside the data path -/

theorem State.Outside.refl (s : State) : s.Outside s := by simp [State.Outside]

theorem State.Outside.trans {a b c : State} (h : a.Outside b) (k : b.Outside c) : a.Outside c := by
  unfold State.Outside at *
  obtain ⟨h1, h2, h3, h4, h5, h6, h7, h8, h9, h10, h11, h12, h13, h14⟩ := h
  obtain ⟨k1, k2, k3, k4, k5, k6, k7, k8, k9, k10, k11, k12, k13, k14⟩ := k
  exact ⟨k1.trans h1, k2.trans h2, k3.trans h3, k4.trans h4, k5.trans h5, k6.trans h6, k7.trans h7, k8.trans h8,
    k9.trans h9, k10.trans h10, k11.trans h11, k12.trans h12, k13.trans h13, k14.trans h14⟩

theorem State.outside_set (s : State) (f : Fld) (v : Nat) : s.Outside (s.set f v) := by simp [State.Outside]

/-! ### Lines -/

@[simp] theorem State.line_set (s : State) (f : Fld) (v a : Nat) : (s.set f v).line a = s.line a := rfl
@[simp] theorem State.valid_set (s : State) (f : Fld) (v a : Nat) : (s.set f v).valid a = s.valid a := rfl
@[simp] theorem State.line_inc (s : State) (f : Fld) (v a : Nat) : (s.inc f v).line a = s.line a := rfl
@[simp] theorem State.valid_inc (s : State) (f : Fld) (v a : Nat) : (s.inc f v).valid a = s.valid a := rfl
@[simp] theorem State.linesAt_inc (s : State) (f : Fld) (v a n : Nat) : (s.inc f v).linesAt a n = s.linesAt a n := rfl

theorem mem_range {a n x : Nat} : x ∈ range a n ↔ a ≤ x ∧ x < a + n := by
  simp only [range, List.mem_map, List.mem_range]
  constructor
  · rintro ⟨i, hi, rfl⟩
    omega
  · rintro ⟨h1, h2⟩
    exact ⟨x - a, by omega, by omega⟩

theorem State.line_writeLine (s : State) (a b : Nat) (d : LineData) :
    (s.writeLine a d).line b = if b = a then d else s.line b := by
  simp only [State.line, State.writeLine, Store.getD, Store.get?_put]
  split <;> rfl

theorem State.valid_writeLine (s : State) (a b : Nat) (d : LineData) :
    (s.writeLine a d).valid b = if b = a then true else s.valid b := by
  simp only [State.valid, State.writeLine, Store.get?_put]
  split <;> rfl

/-- A write of lines changes the skein and its errors alone. -/
theorem State.writeLines_rest (s : State) (a : Nat) (l : List LineData) :
    ∃ sk bd, s.writeLines a l = { s with data := { s.data with skein := sk, bad := bd } } := by
  induction l generalizing s a with
  | nil => exact ⟨s.data.skein, s.data.bad, rfl⟩
  | cons d t ih =>
    obtain ⟨sk, bd, h⟩ := ih (s.writeLine a d) (a + 1)
    exact ⟨sk, bd, by rw [State.writeLines, h]; rfl⟩

/-- R90. Lines written read back, and every other line is as before. -/
theorem State.linesAre_writeLines (s : State) (a : Nat) (l : List LineData) : s.LinesAre (s.writeLines a l) a l := by
  induction l generalizing s a with
  | nil => exact ⟨fun i hi => by simp at hi, fun _ _ => ⟨rfl, rfl⟩⟩
  | cons d t ih =>
    obtain ⟨h1, h2⟩ := ih (s.writeLine a d) (a + 1)
    have out : ∀ b, b ∉ range (a + 1) t.length →
        (State.writeLines (s.writeLine a d) (a + 1) t).line b = (if b = a then d else s.line b) ∧
        (State.writeLines (s.writeLine a d) (a + 1) t).valid b = (if b = a then true else s.valid b) := by
      intro b hb
      rw [(h2 b hb).1, (h2 b hb).2, State.line_writeLine, State.valid_writeLine]
      exact ⟨rfl, rfl⟩
    refine ⟨fun i hi => ?_, fun b hb => ?_⟩
    · cases i with
      | zero =>
        have := out a (by rw [mem_range]; omega)
        simpa [State.writeLines] using this
      | succ i =>
        have := h1 i (by simpa using hi)
        simpa [State.writeLines, Nat.add_assoc, Nat.add_comm 1 i] using this
    · have hb' : b ∉ range (a + 1) t.length ∧ b ≠ a := by
        rw [mem_range] at hb ⊢
        simp only [List.length_cons] at hb
        constructor <;> omega
      have := out b hb'.1
      simpa [State.writeLines, hb'.2] using this

theorem State.LinesAre.kept {s t u : State} {a : Nat} {l : List LineData} (h : s.LinesAre t a l) (k : t.LinesKept u) :
    s.LinesAre u a l :=
  ⟨fun i hi => ⟨(k _).1.trans (h.1 i hi).1, (k _).2.trans (h.1 i hi).2⟩,
   fun b hb => ⟨(k _).1.trans (h.2 b hb).1, (k _).2.trans (h.2 b hb).2⟩⟩

theorem State.LinesAre.from_kept {s t u : State} {a : Nat} {l : List LineData} (k : s.LinesKept t) (h : t.LinesAre u a l) :
    s.LinesAre u a l :=
  ⟨h.1, fun b hb => ⟨(h.2 b hb).1.trans (k b).1, (h.2 b hb).2.trans (k b).2⟩⟩

theorem State.linesKept_data {s t : State} (h : t.data = s.data) : s.LinesKept t := by
  intro a
  simp [State.line, State.valid, h]

/-! ### Issue -/

@[simp] theorem State.atIssue_data (s : State) (r : List Nat) : (s.atIssue r).data = s.data := rfl
@[simp] theorem State.linesAt_atIssue (s : State) (r : List Nat) (a n : Nat) :
    (s.atIssue r).linesAt a n = s.linesAt a n := rfl
@[simp] theorem State.line_atIssue (s : State) (r : List Nat) (a : Nat) : (s.atIssue r).line a = s.line a := rfl

/-- R34, R35, R90, R91. An instruction that nothing bars takes its effect. -/
theorem State.issue_next {s : State} {h : Issue} {reads writes : List Nat} {cid : Nat} (hi : s.Issues h reads writes cid)
    (op : Nat) (k : Nat → State → State) : s.issue h op reads writes k = k cid (s.atIssue reads) := by
  obtain ⟨⟨hbad, -, -, hunit, hce⟩, -, hsq, hpend, hal, herr, hcmd⟩ := hi
  have e0 : s.spoil h.bad = s := by simp [State.spoil, hbad]
  have e1 : s.data.squash.contains (slotKey h.die h.cslot) = false := by simpa using hsq
  have e2 : reads.any (fun a => s.data.pendLines.any (fun p => p.1 == a)) = false := by
    simp only [List.any_eq_false]
    intro a ha
    simp only [Bool.not_eq_true, List.any_eq_false, beq_iff_eq]
    exact fun p hp => hpend a ha p hp
  have e3 : (reads ++ writes).filter (fun a => !s.allotted h.cslot a) = [] := by
    simp only [List.filter_eq_nil_iff]
    intro a ha
    simp [hal a ha]
  have e4 : reads.any (fun a => s.data.bad.contains a && s.valid a) = false := by
    simp only [List.any_eq_false, Bool.and_eq_true, List.contains_iff_mem, not_and]
    intro a ha hb hv
    exact herr a ha hv hb
  have e5 : s.unitCorrected h = s := by simp [State.unitCorrected, hce]
  simp only [State.issue, e0, e1, e2, e3, e4, e5, hunit, hcmd, List.length_nil]
  rfl

theorem State.atIssue_regs (s : State) (r : List Nat) (stage die : Nat) : s.RegsKept (countRegs stage die) (s.atIssue r) :=
  State.regsKept_inc s _ _ (by decide) (by decide) (by simp [countRegs, Reg.SKN_ZERO_READS_ZREADS])

/-! ### Counts -/

/-- What `counts` does: counts and latches of one stage and die, nothing else. -/
theorem State.counts_stage (s : State) (h : Issue) (hd : h.die < 2) (stage sat nf : Nat) (hs : stage < 5) :
    s.StageOnly stage h (s.counts h stage sat nf) := by
  have key : ∀ (a : State) (f : Fld) (v : Nat), f.off < 0x200000 → f.lo < 32 → countRegs stage h.die f.off = true →
      s.StageOnly stage h a → s.StageOnly stage h (a.set f v) := by
    intro a f v h1 h2 h3 ⟨ho, hr, hda⟩
    exact ⟨ho.trans (State.outside_set a f v), hr.trans (State.regsKept_set a f v h1 h2 h3), by simpa using hda⟩
  have base : s.StageOnly stage h s := ⟨State.Outside.refl s, State.RegsKept.refl _ s, rfl⟩
  have k1 : ((Reg.VCH_SAT_UNPACK_D0_COUNT.at (8 * stage + 4 * h.die)).off < 0x200000) := by
    simp only [Fld.at, Reg.VCH_SAT_UNPACK_D0_COUNT]; omega
  have k2 : ((Reg.VCH_NF_UNPACK_D0_COUNT.at (8 * stage + 4 * h.die)).off < 0x200000) := by
    simp only [Fld.at, Reg.VCH_NF_UNPACK_D0_COUNT]; omega
  have c1 : countRegs stage h.die (Reg.VCH_SAT_UNPACK_D0_COUNT.at (8 * stage + 4 * h.die)).off = true := by
    simp [countRegs, Fld.at, Reg.VCH_SAT_UNPACK_D0_COUNT]; omega
  have c2 : countRegs stage h.die (Reg.VCH_NF_UNPACK_D0_COUNT.at (8 * stage + 4 * h.die)).off = true := by
    simp [countRegs, Fld.at, Reg.VCH_NF_UNPACK_D0_COUNT]; omega
  have c3 : ∀ f ∈ [Reg.VCH_SAT_LATCH_DIE0, Reg.VCH_SAT_LATCH_DIE1, Reg.VCH_NF_LATCH_DIE0, Reg.VCH_NF_LATCH_DIE1],
      f.off < 0x200000 ∧ f.lo < 32 ∧ countRegs stage h.die f.off = true := by
    intro f hf
    simp only [List.mem_cons, List.not_mem_nil, or_false] at hf
    rcases hf with rfl | rfl | rfl | rfl <;> refine ⟨by decide, by decide, ?_⟩ <;>
      simp [countRegs, Reg.VCH_SAT_LATCH_DIE0, Reg.VCH_SAT_LATCH_DIE1, Reg.VCH_NF_LATCH_DIE0, Reg.VCH_NF_LATCH_DIE1]
  simp only [State.counts, State.incHold, State.orBits]
  have a1 := key s _ (min (s.reg (Reg.VCH_SAT_UNPACK_D0_COUNT.at (8 * stage + 4 * h.die)) + sat) 0xFFFFFFFF) k1 (by show 0 < 32; omega) c1 base
  have a2 := key _ _ (min ((s.set (Reg.VCH_SAT_UNPACK_D0_COUNT.at (8 * stage + 4 * h.die))
    (min (s.reg (Reg.VCH_SAT_UNPACK_D0_COUNT.at (8 * stage + 4 * h.die)) + sat) 0xFFFFFFFF)).reg
      (Reg.VCH_NF_UNPACK_D0_COUNT.at (8 * stage + 4 * h.die)) + nf) 0xFFFFFFFF) k2 (by show 0 < 32; omega) c2 a1
  split <;> split <;> (try split) <;>
    first
      | exact a2
      | exact key _ _ _ (c3 _ (by simp)).1 (c3 _ (by simp)).2.1 (c3 _ (by simp)).2.2 a2
      | exact key _ _ _ (c3 _ (by simp)).1 (c3 _ (by simp)).2.1 (c3 _ (by simp)).2.2
          (key _ _ _ (c3 _ (by simp)).1 (c3 _ (by simp)).2.1 (c3 _ (by simp)).2.2 a2)

/-- A latch keeps a bit that is set, whatever else is written besides. -/
theorem State.counts_counted (s : State) (h : Issue) (hd : h.die < 2) (stage sat nf : Nat) (hs : stage < 5) :
    State.Counted stage sat nf h s (s.counts h stage sat nf) := by
  have hdd : h.die = 0 ∨ h.die = 1 := by omega
  have hss : stage = 0 ∨ stage = 1 ∨ stage = 2 ∨ stage = 3 ∨ stage = 4 := by omega
  simp only [State.Counted, State.counts, State.incHold, State.orBits]
  refine ⟨?_, ?_, fun hc hn => ?_, fun hc hn => ?_⟩
  · rcases hdd with hd' | hd' <;> rcases hss with rfl | rfl | rfl | rfl | rfl <;> rw [hd'] <;> by_cases h1 : sat = 0 <;>
      by_cases h2 : nf = 0 <;> simp (disch := decide) [h1, h2, State.reg_set_ne] <;>
      exact Nat.mod_eq_of_lt (Nat.lt_of_le_of_lt (Nat.min_le_right _ _) (by decide))
  · rcases hdd with hd' | hd' <;> rcases hss with rfl | rfl | rfl | rfl | rfl <;> rw [hd'] <;> by_cases h1 : sat = 0 <;>
      by_cases h2 : nf = 0 <;> simp (disch := decide) [h1, h2, State.reg_set_ne] <;>
      exact Nat.mod_eq_of_lt (Nat.lt_of_le_of_lt (Nat.min_le_right _ _) (by decide))
  · rcases hdd with hd' | hd' <;> rw [hd'] <;> by_cases h2 : nf = 0 <;>
      simp (disch := decide) [hn, h2, State.reg_set_ne] <;> exact hc
  · rcases hdd with hd' | hd' <;> rw [hd'] <;> simp [hn] <;> exact hc

@[simp] theorem State.counts_data (s : State) (h : Issue) (stage sat nf : Nat) :
    (s.counts h stage sat nf).data = s.data := by
  simp only [State.counts]
  split <;> split <;> rfl

/-- Lines written by an instruction of a stage, with its counts: what they read, and that nothing else changes. -/
theorem State.stage_write (s : State) (h : Issue) (hd : h.die < 2) {stage : Nat} (hs : stage < 5) (r : List Nat)
    (dst sat nf : Nat) (l : List LineData) :
    s.LinesAre (((s.atIssue r).writeLines dst l).counts h stage sat nf) dst l ∧
      State.Counted stage sat nf h s (((s.atIssue r).writeLines dst l).counts h stage sat nf) ∧
      State.StageOnly stage h s (((s.atIssue r).writeLines dst l).counts h stage sat nf) := by
  obtain ⟨sk, bd, e⟩ := State.writeLines_rest (s.atIssue r) dst l
  have cs := State.counts_stage ((s.atIssue r).writeLines dst l) h hd stage sat nf hs
  have cc := State.counts_counted ((s.atIssue r).writeLines dst l) h hd stage sat nf hs
  have l0 := State.linesAre_writeLines (s.atIssue r) dst l
  have la : s.LinesKept (s.atIssue r) := State.linesKept_data rfl
  refine ⟨(State.LinesAre.from_kept la l0).kept (State.linesKept_data (by simp)), ?_, ?_⟩
  · have hr : ∀ f : Fld, f.off ≠ 0x4000C → f.lo = 0 → ((s.atIssue r).writeLines dst l).reg f = s.reg f := by
      intro f hf hlo
      rw [e]
      show (s.atIssue r).reg f = s.reg f
      have : Reg.SKN_ZERO_READS_ZREADS.off = 0x4000C ∧ Reg.SKN_ZERO_READS_ZREADS.lo = 0 := by decide
      exact State.reg_set_ne _ _ _ _ (by rw [this.1, this.2]; omega)
    obtain ⟨c1, c2, c3, c4⟩ := cc
    refine ⟨?_, ?_, c3, c4⟩
    · rw [c1, hr _ (by simp only [Fld.at, Reg.VCH_SAT_UNPACK_D0_COUNT]; omega) rfl]
    · rw [c2, hr _ (by simp only [Fld.at, Reg.VCH_NF_UNPACK_D0_COUNT]; omega) rfl]
  · obtain ⟨o1, o2, o3⟩ := cs
    refine ⟨State.Outside.trans (b := s.atIssue r) (State.outside_set s _ _) (State.Outside.trans ?_ o1), (State.atIssue_regs s r stage h.die).trans
      (State.RegsKept.trans (State.RegsKept.of_regs ?_) o2), ?_⟩
    · rw [e]; exact State.Outside.refl _
    · rw [e]
    · rw [State.counts_data, e]
      rfl

end Sys2Proof.Machine
end

