-- ==== Sys2Proof/Tests/Slice0.lean ====
section
/-!
SUPPORT. The model's own tests: ill-formed terms that the check refuses, words written out from the spec's encodings,
worked examples of the spec, and for each statement of the certificate concrete states and operands that meet its
hypotheses.
-/

namespace Sys2Proof.Tests

set_option linter.unusedVariables false
set_option Elab.async false

open Sys2Proof Sys2Proof.Machine

/-! ### Helpers -/

/-- The state a result leads to. -/
def after (r : Result) : State :=
  match r with
  | .next t => t
  | _ => State.reset

/-- One command from a state. -/
def does (c : Instr) (s : State) : State := after (exec c s)

/-- A word issues at its start on die 0, slot 1, in the stream of a stage. -/
def at' (stage : Nat) : Issue := ⟨0, stage, 0, 1, 0, 0, 0, [], false, false, none, 0⟩

/-- A command of function 0 in flight in slot 1 of both dies, its number 7, with lines 0 to 1,023 of die 0 allotted. -/
def busy : State :=
  { State.reset with data := { DataPath.reset with
      slots := [(1, ⟨7, 0, 1024, 0⟩), (17, ⟨7, 1048576, 64, 0⟩)], nextCid := 8
      cmds := [(7, { Cmd.place Descriptor.empty 1 [0, 1] 0 4 with started := [0, 1], ctag := 9 })] } }

/-- `busy` with some of its lines written. -/
def lines (l : List (Nat × LineData)) : State := { busy with data := { busy.data with skein := l } }

/-- Function 1 is ACTIVE, with a context block, and may hold 1 GiB in each tier. -/
def tenant : State :=
  { (State.reset.setF 1 Reg.GLB_FN_STATE_STATE 1) with
    tier := { TierState.reset with ctx := Store.put TierState.reset.ctx 1 (CtxBlock.init 1 1) } }

/-- A tensor of generation 1. -/
def tensor (fn idx : Nat) (tier : Tier) (kind : TKind) (format size loc : Nat) : Tensor :=
  { State.reset.blankTensor fn kind format size with idx := idx, gen := 1, tier := tier, loc := loc, keyIndex := classOf fn, lastUse := 0 }

/-- A state with more tensors. -/
def holding (l : List Tensor) (s : State) : State := l.foldl State.putTensor s

/-- Module fields of a state set. -/
def sets (l : List (Fld × Nat)) (s : State) : State := l.foldl (fun (s : State) p => s.set p.1 p.2) s

/-- Links brought UP at full width and rate. -/
def up (l : List Nat) (s : State) : State :=
  l.foldl (fun (s : State) i => (s.setF (linkFn i) Reg.LNK_STATE_STATE 3).setF (linkFn i) Reg.LNK_STATE_FULL 1) s

/-- A message of a function in its page: major version 3, minor 1, number 7, no precondition, then the body. -/
def letter (fn : Nat) (body : List Byte) (buffer : List Byte := []) : Mail := ⟨fn, 3, 1, 7, 0, 0, List.replicate 8 0 ++ body, buffer⟩

/-- A state in which messages are admitted. -/
def awake (s : State) : State := s.set Reg.GLB_CASTON_APPLIED 1

/-! ### Conversions and merges -/

/-- A line that holds elements of one width, the first lowest (R175). -/
def packed (w : Nat) (l : List Nat) : LineData := BitVec.ofNat 2048 (packElems w l)

/-- R174: 6.0 in E2M1 (code 7) is 0x40C00000 in FP32. -/
theorem test_unpCvt :
    (let s := lines [(0, 0x7)]
     s.Issues (at' 1) (range 0 (linesFor 1 4)) (range 8 (linesFor 1 32)) 7 ∧ Fmt.ofCode 7 = some .e2m1 ∧
       (does (.unpCvt (at' 1) ⟨0, 8, 0, 7, 0⟩) s).line 8 = 0x40C00000) := by
  unfold State.Issues Issue.Clean; decide +kernel

/-- R183, worked example of chapter 05: elements 4 and 0 of the MXFP4 block are 24.0 and 6.0. -/
theorem test_unpDq :
    (let s := lines [(0, 0x05970183), (1, 0x81)]
     let t := does (.unpDq (at' 1) ⟨0, 8, 31, 0x10, 0, 1, 1, 0x0E⟩) s
     s.Issues (at' 1) (range 0 (blockDims .mxfp4 .e8m0 (groupSize 1) 32).total) (range 8 (linesFor 32 32)) 7 ∧
       elem (t.linesAt 8 1) 32 4 = 0x41C00000 ∧ elem (t.linesAt 8 1) 32 0 = 0x40C00000) := by
  unfold State.Issues Issue.Clean; decide +kernel

/-- R203: the transform of a block of 32 that holds only zeros is zero. -/
theorem test_unpRht :
    (let s := lines [(0, 0), (1, 0)]
     let t := does (.unpRht (at' 1) ⟨0, 8, 31, 0, 0, 0, 1⟩) s
     s.Issues (at' 1) (range 0 (linesFor 32 32) ++ [1]) (range 8 (linesFor 32 32)) 7 ∧ t.line 8 = 0 ∧ t.valid 8 = true) := by
  unfold State.Issues Issue.Clean; decide +kernel

/-- R143: rows of three elements, each laid in a row of 256. -/
theorem test_unpLay :
    (let s := lines [(0, packed 8 [1, 2, 3, 4, 5, 6])]
     let t := does (.unpLay (at' 1) ⟨0, 8, 5, 0x0B, 1, 2⟩) s
     s.Issues (at' 1) (range 0 (linesFor 6 8)) (range 8 (linesFor (layMap 1 3 6).length 8)) 7 ∧
       t.line 8 = packed 8 [1, 2, 3] ∧ t.line 9 = packed 8 [4, 5, 6]) := by
  unfold State.Issues Issue.Clean; decide +kernel

/-- R152: 1.0 + 2.0 is 3.0, and with NEG 1.0 − 2.0 is −1.0. -/
theorem test_mgAcc :
    (let s := lines [(0, packed 32 [0x3F800000]), (1, packed 32 [0x40000000])]
     s.Issues (at' 3) (range 0 1 ++ range 1 1) (range 8 1) 7 ∧
       (does (.mgAcc (at' 3) ⟨0, 1, 8, 0, 0⟩) s).line 8 = packed 32 [0x40400000] ∧
       (does (.mgAcc (at' 3) ⟨0, 1, 8, 0, 1⟩) s).line 8 = packed 32 [0xBF800000]) := by
  unfold State.Issues Issue.Clean; decide +kernel

/-- R152: 3.0 × 2.0 + 1.0 is 7.0 with BIAS; the bias follows the 256 scales. -/
theorem test_mgScale :
    (let s := lines [(0, packed 32 [0x40400000]), (16, packed 32 [0x40000000]), (20, packed 32 [0x3F800000])]
     s.Issues (at' 3) (range 0 4 ++ range 16 8) (range 8 4) 7 ∧
       elem (does (.mgScale (at' 3) ⟨0, 8, 16, 0, 1⟩) s |>.linesAt 8 1) 32 0 = 0x40E00000 ∧
       elem (does (.mgScale (at' 3) ⟨0, 8, 16, 0, 0⟩) s |>.linesAt 8 1) 32 0 = 0x40C00000) := by
  unfold State.Issues Issue.Clean; decide +kernel

/-- R152, R246: base and motif parts are added. -/
theorem test_mgMotif :
    (let s := lines [(0, packed 32 [0x40400000]), (4, packed 32 [0x3F800000])]
     s.Issues (at' 3) (range 0 4 ++ range 4 4) (range 8 4) 7 ∧
       (does (.mgMotif (at' 3) ⟨0, 4, 8, 0⟩) s).line 8 = packed 32 [0x40800000]) := by
  unfold State.Issues Issue.Clean; decide +kernel

/-! ### Packing, the chain and the arrays -/

/-- The FP32 inputs of the worked example of chapter 05. -/
def ombrel : LineData :=
  packed 32 [0x40A66666, 0xBF333333, 0x3FA00000, 0x3DCCCCCD, 0x41A00000, 0xC0200000, 0x41200000]

/-- Worked example of chapter 05: the MXFP4 block and the UE4M3-scaled one. -/
theorem test_pkQ :
    (let s := lines [(0, ombrel)]
     let t := does (.pkQ (at' 5) ⟨0, 8, 31, 0x10, 1, 1, 0x0E, 0⟩) s
     let u := does (.pkQ (at' 5) ⟨0, 8, 31, 0x07, 1, 0, 0x0F, 0⟩) s
     s.Issues (at' 5) (range 0 (linesFor 32 32)) (range 8 (blockDims .mxfp4 .e8m0 (groupSize 1) 32).total) 7 ∧
       t.line 8 = 0x05970183 ∧ t.line 9 = 0x81 ∧ u.line 8 = 0x05970183 ∧ u.line 9 = 0x46) := by
  unfold State.Issues Issue.Clean; decide +kernel

/-- Worked example of chapter 09: the word 0xFE123456 is not below F = 0xFDB00000, so 0x3C13FDB0 rounds down to BF16 0x3C13; a word below F
rounds up. -/
theorem test_stochastic :
    ((Fmt.bf16.convert (.stoch 0xFE123456) (ofF32 0x3C13FDB0)).code = 0x3C13 ∧
      (Fmt.bf16.convert (.stoch 0xFDAFFFFF) (ofF32 0x3C13FDB0)).code = 0x3C14) := by decide +kernel

/-- R161: values that BF16 holds are not moved, whatever the words. -/
theorem test_pkSr :
    (let s := lines [(0, packed 32 [0x3F800000, 0xC0000000])]
     let t := does (.pkSr (at' 5) ⟨0, 8, 1, 1, 0, 0, 0, 2⟩) s
     s.Issues (at' 5) (range 0 (linesFor 2 32)) (range 8 (blockDims .bf16 .fp32 (groupSize 0) 2).total) 7 ∧
       t.line 8 = packed 16 [0x3F80, 0xC000] ∧ (t.workStream 7 2) = (Stream.draws 2 (s.workStream 7 2)).2) := by
  unfold State.Issues Issue.Clean; decide +kernel

/-- R312: the block of key (0, 0) and counter 0. -/
theorem test_philoxKat :
    (List.range 4).map (philoxWord 0 0 0) = [0x6627E8D5#32, 0xE169C58D#32, 0xBC57AC4C#32, 0x9B00DBD8#32] := by decide +kernel

/-- R153, R154: program slots and tile buffers take lines and give them back. -/
theorem test_vcLoads :
    (let s := lines [(0, 5)]
     let t := does (.vcLd (at' 4) ⟨0, 1, 3, 0⟩) s
     s.Issues (at' 4) (range 0 1) [] 7 ∧ s.Issues (at' 4) [0] [] 7 ∧ t.Issues (at' 4) [] (range 8 1) 7 ∧
       t.bufForeign (at' 4) ((range 3 1).map (tbufKey 0 0 1)) = false ∧ t.bufLine (at' 4) (tbufKey 0 0 1 3) = 5 ∧
       (does (.vcSt (at' 4) ⟨8, 1, 3, 0⟩) t).line 8 = 5 ∧
       Store.get? (does (.vcLdp (at' 4) ⟨0, 31⟩) s).data.progs (progKey 0 0 31) = some (1, 5)) := by
  unfold State.Issues Issue.Clean; decide +kernel

/-- R261: the micro-operations of the worked example of chapter 08. -/
theorem test_microOps :
    MicroOp.ofNat 0x0C08B0000000 = ⟨3, 0, 0x11, 0x18, 0, 0⟩ ∧ MicroOp.ofNat 0x040032000000 = ⟨1, 0, 0, 0x19, 0, 0⟩ ∧
      MicroOp.ofNat 0x300000000000 = ⟨0x0C, 0, 0, 0, 0, 0⟩ ∧ MicroOp.ofNat 0x0E0800000000 = ⟨3, 16, 0x10, 0, 0, 0⟩ := by decide +kernel

/-- A program of one micro-operation, FMUL D, A, SCALAR0 (R260, R261), loaded in slot 5. -/
def scaled : State :=
  let s := lines [(0, packed 32 [0x40400000, 0x3F800000])]
  { s with data := { s.data with
      progs := [(progKey 0 0 5, (1, BitVec.ofNat 2048 ((3 * 2 ^ 42 + 16 * 2 ^ 37 + 0x10 * 2 ^ 31 + 0x18 * 2 ^ 25) * 2 ^ 128)))]
      cmds := [(7, { Cmd.place { Descriptor.empty with scalars := [0x40000000] } 1 [0, 1] 0 4 with started := [0, 1] })] } }

/-- R260 to R266: 3.0 and 1.0 times 2.0. -/
theorem test_vcProg :
    (scaled.Issues (at' 4) (locLines 0 (linesFor 2 32)) (locLines 8 (linesFor 2 32)) 7 ∧
      Store.get? scaled.data.progs (progKey 0 0 5) ≠ none ∧ scaled.bufForeign (at' 4) (bufKeys (at' 4) 0 1) = false ∧
      (does (.vcProg (at' 4) ⟨0, 0, 8, 1, 5, 0, 0⟩) scaled).line 8 = packed 32 [0x40C00000, 0x40000000]) := by
  unfold State.Issues Issue.Clean; decide +kernel

/-- R156, R273: a sum of one row. -/
theorem test_vcRed :
    (let s := lines [(8, packed 32 [0x40400000, 0x3F800000])]
     s.Issues (at' 4) (locLines 8 (linesFor 2 32)) (locLines 16 (linesFor 1 32)) 7 ∧ s.bufForeign (at' 4) (bufKeys (at' 4) 8 1) = false ∧
       (does (.vcRed (at' 4) ⟨8, 16, 1, 0, 0, 0⟩) s).line 16 = packed 32 [0x40800000]) := by
  unfold State.Issues Issue.Clean; decide +kernel

/-- Chunk 1 of rows C and D of the worked example of chapter 08, and chunk 2 of row D, whose state becomes NAN. -/
theorem test_smaxStates :
    (smChunk ((List.replicate 4 (0, true))) SmState.init).2.record = 0x000000000000000040800000_00000000 ∧
      (smChunk [(0x3F000000, true), (0x7FC00000, true), (0xBF800000, true), (0x40000000, true)]
        (smChunk (List.replicate 4 (0x3F800000, true)) SmState.init).2).2.record = 0x00000004_7FC00000_7FC00000_7FC00000 := by
  decide +kernel

/-- R280: one row of equal scores gives equal weights; FINAL divides by the state's sum. -/
theorem test_vcSmax :
    (let s := lines [(0, packed 32 [0, 0]), (32, BitVec.ofNat 2048 0x00000000_3F800000_40000000_00000000)]
     let one := does (.vcSmax (at' 4) ⟨0, 8, 1, 0, 0, 40, 0⟩) s
     let fin := does (.vcSmax (at' 4) ⟨0, 8, 1, 0, 2, 32, 0⟩) (lines [(0, packed 32 [0x40000000, 0]), (32, s.line 32)])
     s.Issues (at' 4) (range 0 1) (range 8 1 ++ range 40 1) 7 ∧ s.Issues (at' 4) (range 0 1 ++ range 32 1) (range 8 1) 7 ∧
       one.line 8 = packed 32 [0x3F000000, 0x3F000000] ∧ fin.line 8 = packed 32 [0x3F800000, 0]) := by
  unfold State.Issues Issue.Clean; decide +kernel

/-- R158, R285: elements 1 and 2 of three are gathered and scattered back. -/
theorem test_vcCmpExp :
    (let s := lines [(0, packed 32 [7, 8, 9]), (1, 6)]
     let t := does (.vcCmp (at' 4) ⟨0, 1, 8, 2, 0⟩) s
     let u := does (.vcExp (at' 4) ⟨8, 1, 16, 2, 0⟩) t
     s.Issues (at' 4) (range 0 1 ++ range 1 1) (range 8 2) 7 ∧ t.Issues (at' 4) (range 8 2 ++ range 1 1) (range 16 1) 7 ∧
       bits (t.line 8).toNat 0 32 = popCount (bits (t.linesAt 1 1) 0 3) 3 ∧ t.line 8 = 2 ∧ t.line 9 = packed 32 [8, 9] ∧
       u.line 16 = packed 32 [0, 8, 9]) := by
  unfold State.Issues Issue.Clean; decide +kernel

/-- R159: raw words of stream 0 from its first block. -/
theorem test_vcRng :
    (let s := busy
     let t := does (.vcRng (at' 4) ⟨8, 1, 0, 0, 0⟩) s
     s.Issues (at' 4) [] (locLines 8 (linesFor 2 32)) 7 ∧ (t.workStream 7 0) = (Stream.values 0 2 (s.workStream 7 0)).2 ∧ t.valid 8 = true) := by
  unfold State.Issues Issue.Clean; decide +kernel

/-- Worked example of chapter 05: the column tree gives 0x402E9C74. -/
theorem test_columnTree :
    (let t : Tile := ⟨.int4, 1, .fp16, .bf16, false, 3 + 0xB * 2 ^ 1024 + 7 * 2 ^ 2048 + 0x2253 * 2 ^ (2048 * 128)⟩
     let a : ActBlock := ⟨.uint8, 1, packElems 8 (200 :: 50 :: 129 :: List.replicate 29 128) + 0x3CF7 * 2 ^ 2048 + 128 * 2 ^ 4096⟩
     columnTree t a 0 0 0x40200000 = 0x402E9C74) := by decide +kernel

/-- The words of MX.RUN, X.NOP and X.END, a reserved opcode, and a reserved bit (R127, R147, R172). -/
theorem test_decodeRun :
    decodeTrolum 0 0 0x4140_0387_5040_3180_2F80_019C_1077_3808#128 =
      some (.mxRun ⟨0, 2, 0, 5, 903, 0, 903, [], false, false, none, 0⟩ ⟨0x08063, 95, 0, 3, 7, 0x083B9, 1, 1, 1, 0⟩) := by decide +kernel

/-- R208, R146: a tile goes to the shadow, and a run moves it to the cells. -/
theorem test_mxLdw :
    (let s := lines [(0, 1)]
     let o : MxLdwOp := ⟨0, 7, 1, 0x0E, 0x0E, 0⟩
     let t := does (.mxLdw (at' 2) o) s
     s.Issues (at' 2) (range 0 (blockDims .e2m1 .e8m0 (groupSize 1) 65536).total) [] 7 ∧
       (t.array (at' 2)).shadow = some (1, ⟨.e2m1, 1, .e8m0, .e8m0, false, s.linesAt 0 136⟩) ∧
       (t.array (at' 2)).use .e2m1 = (1, ⟨.e2m1, 1, .e8m0, .e8m0, false, s.linesAt 0 136⟩, true)) := by
  unfold State.Issues Issue.Clean; decide +kernel

/-- An array of die 0 whose cells hold a tile of zeros, and an accumulator row of 1.0. -/
def loaded : State :=
  { busy with data := { busy.data with
      arrays := [(0, { ArrayUnit.empty with cells := some (1, ⟨.e2m1, 1, .e8m0, .e8m0, false, 0⟩), acc := [(0, (1, packElems 32 (List.replicate 256 0x3F800000)))] })] } }

/-- R147, R149: what a run without a motif asks for. -/
theorem test_mxRun_hypotheses :
    (let u := (loaded.array (at' 2)).use .e2m1
     loaded.Issues (at' 2) (range 0 (ActBlock.lines .e4m3 1 u.2.1) ++ []) [] 7 ∧ u.1 = 1 ∧ u.2.1.wfmt = .e2m1 ∧
       foreign (at' 2) (loaded.array (at' 2)).acc (range 0 1) = false) := by
  unfold State.Issues Issue.Clean; decide +kernel

/-- R151: gradient cells of one token row. -/
theorem test_mxWgrad :
    (let s := lines [(0, packed 16 [0x3F80]), (2, packed 16 [0x4000])]
     s.Issues (at' 2) (range 0 2 ++ range 2 1) (range 16 (linesFor (256 * 4) 32)) 7 ∧
       elem ((does (.mxWgrad (at' 2) ⟨0, 2, 16, 0, 0, 0, 1, 3⟩) s).linesAt 16 1) 32 0 = 0x40000000) := by
  unfold State.Issues Issue.Clean; decide +kernel

/-- R150: a drain writes the accumulator row. -/
theorem test_mxDrain :
    (let o : MxDrainOp := ⟨8, 0, 0, 0, 0, 0, 0⟩
     loaded.Issues (at' 2) [] (range 8 4) 7 ∧ foreign (at' 2) (loaded.array (at' 2)).acc (range 0 1) = false ∧
       (does (.mxDrain (at' 2) o) loaded).line 11 = packed 32 (List.replicate 64 0x3F800000)) := by
  unfold State.Issues Issue.Clean; decide +kernel

/-! ### Fetches, commits and links -/

/-- The command of `busy` has one operand, a near tensor of the PF of two lines whose first byte is 5. -/
def fed : State :=
  let s := holding [tensor 0 3 .near .data 0 2 0x1000] busy
  { s with
    tier := { s.tier with near := [(0x100000, 5)] }
    data := { s.data with cmds := [(7, { Cmd.place { Descriptor.empty with operands := [⟨⟨0, 1, 3⟩, 0, 0⟩] } 1 [0, 1] 0 4 with started := [0, 1], ctag := 9 })] } }

/-- R139: both lines reach the skein, the rest of the second as zeros. -/
theorem test_fetchT :
    (let o : FetchOp := ⟨0, 8, 1, 0, 0, 0, 0⟩
     fed.Issues (at' 0) [] (range 8 2) 7 ∧
       (match fed.resolve (at' 0) 7 0 (fed.operand 7 0).handle (some 0) 0 2 false with | .good t => t.tier == .near | _ => false) = true ∧
       (does (.fetchT (at' 0) o) fed).line 8 = 5 ∧ (does (.fetchS (at' 0) o) fed).valid 9 = true) := by
  unfold State.Issues Issue.Clean; decide +kernel

/-- A roster of one entry whose sequence has no history (R67, R68). -/
def roster : Roster :=
  { step := 1, template := 0, tokTotal := 1, segments := 0, model := 0, swLists := [], rsvd := 0
    entries := [{ seqId := 5, fn := 0, motifSlot := 0, segment := 0, position := 0, tokCount := 0, tokOffset := 0, kv := ⟨0, 1, 4⟩, rngStream := 0, swatchCount := 0, prefill := false, lastSlice := false, sample := true, swIndex := 0, tag := 77, rsvd := 0 }] }

/-- Model 0 with two layers and two lines for each token, and the tensor of the roster's sequence. -/
def served : State :=
  let s := holding [{ (tensor 0 4 .near .kv 3 2048 0x2000) with kspec := 16 }] (lines [(0, lineOfBytes roster.bytes)])
  { s with tier := { s.tier with models := [(0, { (s.model 0) with state := 2, params := { (s.model 0).params with layers := 2, kvLpt := 2 } })] } }

/-- R67, R68: the roster reads back as it was written. -/
theorem test_rosterAt : (served.rosterAt 0 = roster ∧ served.rosterRange 0 = [0]) := by decide +kernel

/-- The roster of Lindmere-1's decode step (chapter 07): slot 7 in segment 0 twice, slot 12 in segment 1 and slot 30 in segment 2. -/
def lindmere : Roster :=
  let e := roster.entries.headD (RosterEntry.ofBytes [])
  { roster with
    tokTotal := 4, segments := 3
    entries := [{ e with motifSlot := 7, tokOffset := 0 }, { e with motifSlot := 7, tokOffset := 1 }, { e with motifSlot := 12, segment := 1, tokOffset := 2 }, { e with motifSlot := 30, segment := 2, tokOffset := 3 }] }

/-- R152, R241: the four entries of its table (chapter 07): 2, 1, 1 and no rows, the last one LAST and PAD. -/
theorem test_mgSegt :
    (let s := lines [(0, lineOfBytes lindmere.bytes)]
     let o : MgSegtOp := ⟨0, 16, 0, 3, 0⟩
     s.Issues (at' 0) (s.rosterRange 0) (range 16 2) 7 ∧
       (List.range 4).map (fun g => (lindmere.segEntry o g).rows) = [2, 1, 1, 0] ∧
       (List.range 4).map (fun g => (lindmere.segEntry o g).slot) = [7, 12, 30, 0] ∧
       (List.range 4).map (fun g => (lindmere.segEntry o g).last) = [false, false, false, true] ∧
       (List.range 4).map (fun g => (lindmere.segEntry o g).pad) = [false, false, false, true] ∧
       (does (.mgSegt (at' 0) o) s).data.streams.length = 1 ∧
       bits ((does (.mgSegt (at' 0) o) s).line 16).toNat 64 8 = 12) := by
  unfold State.Issues Issue.Clean; decide +kernel

/-- R141: a chunk past the history is zeros with an empty mask. -/
theorem test_fetchKv :
    (let o : FetchKvOp := ⟨0, 0, 0, 0, 16, 1, 0⟩
     served.Issues (at' 0) (served.rosterRange 0) (range 16 (256 * 2 + 1)) 7) := by
  unfold State.Issues Issue.Clean; decide +kernel

/-- R141: a whole chunk of own history. -/
theorem test_fetchKv_history :
    (let e : RosterEntry := { (roster.entries.getD 0 (RosterEntry.ofBytes [])) with position := 256 }
     let s := { served with data := { served.data with skein := [(0, lineOfBytes { roster with entries := [e] }.bytes)] } }
     let first := kvLine 512 2 1 0
     s.Issues (at' 0) (s.rosterRange 0) (range 16 (256 * 2 + 1)) 7 ∧ (s.rosterAt 0).entries[0]? = some e ∧ (s.rosterAt 0).swatchesOf e = [] ∧
       (match s.resolve (at' 0) 7 0 e.kv none first 512 false with | .good t => t.tier == .near | _ => false) = true) := by
  unfold State.Issues Issue.Clean; decide +kernel

/-- R142: a move descriptor is kept with the command. -/
theorem test_moveT :
    (fed.Issues (at' 0) [] [] 7 ∧ ((does (.moveT (at' 0) ⟨0, 3⟩) fed).cmd 7).moves = [⟨⟨0, 1, 3⟩, 3⟩]) := by
  unfold State.Issues Issue.Clean; decide +kernel

/-- R139: a fetch that was late lands when it completes. -/
theorem test_tierReadComplete :
    (let s := { fed with data := { fed.data with fetches := [⟨1, 7, 0, 1, 8, ⟨0, 1, 3⟩, 0, 1, 0, 0, 0⟩], pendLines := [(8, 1)] } }
     (s.data.fetches.find? (fun q => q.id == 1)).isSome = true ∧ (s.tensor? ⟨0, 1, 3⟩).isSome = true ∧
       (does (.tierReadComplete ⟨1, 0, false⟩) s).line 8 = 5 ∧ (does (.tierReadComplete ⟨1, 0, false⟩) s).data.pendLines = []) := by
  decide +kernel

/-- R162: a line goes to the tensor, which is incomplete until the commit, and the write waits. -/
theorem test_cmTens :
    (let s := { fed with data := { fed.data with skein := [(0, 9)] } }
     let o : CmTensOp := ⟨0, 0, 0, 1, 0⟩
     let t := does (.cmTens (at' 6) o) s
     s.Issues (at' 6) (range 0 1) [] 7 ∧
       (match s.resolve (at' 6) 7 0 ⟨0, 1, 3⟩ (some 0) 1 1 true with | .good _ => true | _ => false) = true ∧ s.mirrors = false ∧
       t.nearLine 0x1001 = 9 ∧ (t.entry 3).map (·.incomplete) = some true ∧ (t.cmd 7).writes = [(0, 0xD0, 0)]) := by
  unfold State.Issues Issue.Clean; decide +kernel

/-- R163: the new position of a sequence is written in its place of the layer. -/
theorem test_cmKv :
    (let s := { served with data := { served.data with skein := (0, lineOfBytes roster.bytes) :: [(16, 1), (17, 2)] } }
     let t := does (.cmKv (at' 6) ⟨16, 0, 1, 0, 0⟩) s
     s.Issues (at' 6) (s.rosterRange 0 ++ range 16 2) [] 7 ∧ (s.tensor? ⟨0, 1, 4⟩).isSome = true ∧
       t.nearLine (0x2000 + kvLine 512 2 1 0) = 1 ∧ t.nearLine (0x2000 + kvLine 512 2 1 0 + 1) = 2) := by
  unfold State.Issues Issue.Clean; decide +kernel

/-- R164: the command's completion, streams and records are staged. -/
theorem test_cmCtx :
    (let s := { served with data := { served.data with skein := (0, lineOfBytes roster.bytes) :: [(16, packed 32 [123])] } }
     s.Issues (at' 6) [] [] 7 ∧ s.Issues (at' 6) (s.rosterRange 0 ++ range 16 (linesFor 1 32)) [] 7 ∧ s.hasCtx 0 = true ∧
       ((does (.cmCtx (at' 6) ⟨2, 0, 0, 0, 0, 0, 0⟩) s).cmd 7).doneStaged = true ∧
       ((does (.cmCtx (at' 6) ⟨0, 0, 5, 0, 0, 0, 0⟩) s).cmd 7).staged.map (·.1) = [0, 2] ∧
       ((does (.cmCtx (at' 6) ⟨0, 16, 0, 0, 0, 0, 0⟩) s).cmd 7).staged.map (·.1) = [0] ∧
       ((does (.cmCtx (at' 6) ⟨1, 0, 0, 16, 0, 0, 0⟩) s).cmd 7).records.map (·.value) = [123]) := by
  unfold State.Issues Issue.Clean; decide +kernel

/-- R165, R306: a commit mark is kept; with DSCHK and a latch set the command is halted. -/
theorem test_cmMark :
    (let s := busy.set Reg.VCH_NF_LATCH_DIE0 2
     busy.Issues (at' 6) [] [] 7 ∧ s.Issues (at' 6) [] [] 7 ∧ busy.latches 1 0 = (false, false) ∧ busy.latches 1 1 = (false, false) ∧
       s.latches 1 0 ≠ (false, false) ∧ ((does (.cmMark (at' 6) ⟨0, 1⟩) busy).cmd 7).marked = [0] ∧
       (does (.cmMark (at' 6) ⟨0, 1⟩) s).reg Reg.VCH_DS_HALTS_HALTS = 1) := by
  unfold State.Issues Issue.Clean; decide +kernel

/-- R94, R97, R99: acknowledgements end the waiting; a failed write bars the commit; a command at its commit point commits. -/
theorem test_commitEvents :
    (let c := busy.cmd 7
     let s := busy.setCmd 7 { c with writes := [(0, 0xD0, 0)] }
     let d := busy.setCmd 7 { c with marked := [0, 1] }
     s.cmdIn 0 1 = some 7 ∧ d.reached 7 = true ∧ s.reached 7 = false ∧ ((does (.tierWriteAck ⟨0, 1, 0⟩) s).cmd 7).writes = [] ∧
       (does (.tierWriteFail ⟨0, 1, 0⟩) s).reg Reg.SEQ_STATUS_STATE = 3 ∧ (does (.commitPoint ⟨0, 1, 0⟩) d).cmdIn 0 1 = none) := by
  decide +kernel

/-- R103: a frog ends once nothing is outstanding. -/
theorem test_frogComplete :
    (let s := { busy with seq := { busy.seq with frogWait := [7] } }
     s.cmdIn 0 1 = some 7 ∧ (s.cmd 7).writes = [] ∧ 7 ∉ (s.endFrog 7).seq.dead ∧ (does (.frogComplete ⟨0, 1, 0⟩) s).seq.frogWait = []) := by
  decide +kernel

/-- `busy` with an item staged on link 2 under tag 4. -/
def staged : State :=
  let s := up [0, 2, 3] (lines [(0, packed 32 [0x3F800000])])
  { s with data := { s.data with
      staging := [{ link := 2, ctag := 4, seq := 1, cls := 0, total := 1, lines := [packed 32 [0x40000000]], committed := true, consumer := 0 }] } }

/-- A word of the LINK stream for link 2. -/
def onLink2 : Issue := { (at' 7) with unit := 2 }

/-- R166 to R168: a send leaves on the link; a receive writes and consumes; reductions add. -/
theorem test_links_hypotheses :
    staged.Issues onLink2 (range 0 1) [] 7 ∧ staged.Issues onLink2 [] (range 8 1) 7 ∧ staged.Issues onLink2 [] [] 7 ∧
      staged.Issues onLink2 (range 0 1) (range 8 1) 7 ∧ (staged.stagedItem 2 4 1).map (·.lines.length) = some 1 := by
  unfold State.Issues Issue.Clean
  refine ⟨?_, ?_, ?_, ?_, ?_⟩ <;> decide +kernel

/-- The frames sent since `staged`. -/
def sent (c : Instr) : List (Nat × Frame) := (does c staged).out.frames

/-- R166 to R168: what is sent, received and added. -/
theorem test_links :
    ((sent (.lkSend onLink2 ⟨0, 0, 1, 0⟩)).length = 1 ∧ (does (.lkRecv onLink2 ⟨0, 8, 0, 4, 1, 0, 0⟩) staged).line 8 = packed 32 [0x40000000] ∧
       (sent (.lkRecv onLink2 ⟨0, 8, 0, 4, 1, 1, 3⟩)).length = 2 ∧
       (does (.lkRed onLink2 ⟨0, 8, 0, 4, 1, 2, 0⟩) staged).line 8 = packed 32 [0x40400000] ∧
       (does (.lkRed onLink2 ⟨0, 8, 0, 4, 1, 3, 0⟩) staged).line 8 = packed 32 [0x40000000] ∧
       (sent (.lkRed onLink2 ⟨0, 8, 0, 4, 1, 1, 0⟩)).length = 1 ∧ (sent (.lkRed onLink2 ⟨0, 8, 0, 4, 1, 0, 0⟩)).length = 1) := by
  decide +kernel

/-- R170, R84, R16: a start gives the slot its allotment and clears the lines. -/
theorem test_cmdStart :
    (let c := { busy.cmd 7 with started := [] }
     let s := { (lines [(3, 1)]).setCmd 7 c with data := { ((lines [(3, 1)]).setCmd 7 c).data with slots := [] } }
     let o : CmdStartOp := ⟨0, 63, 5⟩
     let t := does (.cmdStart (at' 0) o) s
     (s.data.cmds.find? (fun c => s.placedHere (at' 0) c.2 && !c.2.committed && !c.2.frogged && !c.2.started.contains 0 && !s.seq.dead.contains c.1)).map (·.1) = some 7 ∧
       s.grantsOf { s.cmd 7 with started := [0], ctag := 5 } = 0 ∧ t.valid 3 = false ∧ t.cmdIn 0 1 = some 7) := by
  decide +kernel

/-- R169 to R172: the CONTROL instructions. -/
theorem test_control :
    (let st : StepRun := ⟨0, 0, roster, 0, [7], 0, false⟩
     let s := { busy with seq := { busy.seq with step := some st } }
     let d := s.setCmd 7 { s.cmd 7 with committed := true }
     (does (.traceMark (at' 0) ⟨42⟩) busy).data.trace.map (·.value) = [42] ∧ does (.xBar (at' 0) ⟨0, 3⟩) busy = busy ∧
       ((does (.xProg (at' 0) ⟨17⟩) busy).cmd 7).mark = 17 ∧ does (.xNop (at' 0)) busy = busy ∧ does (.xEnd (at' 0) 0) s = s ∧
       (does (.xEnd (at' 0) 0) d).stepNo = 1) := by decide +kernel

/-! ### Rows, the Builder and the sequencer's registers -/

/-- Template 3 of model 0: two empty rows. -/
def tpl : Template :=
  { Template.ask 3 0 0 0 8 64 with verified := true, rows := [RowRecord.empty, { RowRecord.empty with stepLast := true }] }

/-- The record of a sequence of function 0 on model 0 in DECODE, its history 9 tokens long. -/
def chat : SeqRec :=
  { fn := 0, model := 0, kv := ⟨0, 1, 4⟩, tokens := ⟨0, 1, 5⟩, tokNext := 0, remain := 0, copied := 0, motif := Handle.none, swatches := [], allowBase := false, swLen := 0, rng := 0, maxNew := 100, fixedSlices := false, tag := 77, phase := .decode, pos := 9, sampled := 1, closing := false, lastRow := 0, lastStep := 0, lastTime := 0, queue := 0 }

/-- Model 0 is RESIDENT with one template, sequence 5 is in DECODE, the step token tensor is 5, and completions have room. -/
def serving : State :=
  let s := holding [{ (tensor 0 4 .near .kv 3 2048 0x2000) with kspec := 16 }, tensor 0 5 .near .data 8 2 0x9000] (sets [(Reg.HQ_CQ_CFG_SIZE, 255), (Reg.SEQ_CTRL_RUN, 1)] State.reset)
  { s with
    tier := { s.tier with models := [(0, { (s.model 0) with state := 2, params := { (s.model 0).params with layers := 2, kvLpt := 2 } })] }
    seq := { s.seq with templates := [tpl] }
    serve := { s.serve with seqs := [(5, chat)] } }

/-- The roster that the Builder makes of `serving`. -/
def chatRoster : Roster := { roster with step := 0, template := 3, segments := 1, entries := roster.entries.map (fun e => { e with position := 9 }) }

/-- `serving` with its roster ready in buffer 0. -/
def ready : State :=
  let s := { serving with tier := { serving.tier with near := Memory.writeBytes serving.tier.near (rosterAddr 0) chatRoster.bytes } }
  s.markReady 0

/-- `serving` with its step running and row 1 next. -/
def stepping : State :=
  { serving with seq := { serving.seq with step := some ⟨0, 0, chatRoster, 3, [], 1, false⟩, rowsRun := 1 } }

/-- A row of that step is running. -/
def inRow : State := ({ stepping with seq := { stepping.seq with active := true } }).set Reg.SEQ_STATUS_STATE 1

/-- R22, R58: a step's next row begins; with a row running nothing starts. -/
theorem test_rowStart :
  (let s : State := stepping
   let o : RowStartOp := ⟨RowRecord.empty, []⟩
   let st : StepRun := ⟨0, 0, chatRoster, 3, [], 1, false⟩
   s.mod.bindOff = none ∧ s.flag Reg.SEC_STATUS_ZEROISING = false ∧ s.sec.resets = [] ∧ s.mayRun = true ∧
   s.cap = s.reg Reg.PWR_LEVEL_IN_FORCE ∧ s.serve.round.forced = false ∧ s.seq.step = some st ∧ st.ended = false ∧
   s.seq.replay = none ∧
   let r := s.rowRecord st.template st.row
   r.upstream = 0 ∧ r.downstream &&& s.seq.resync = 0 ∧
   let t := does (.rowStart o) s
   t.seq.active = true ∧ t.seq.record = r ∧ t.seq.step = some st ∧ t.seq.kind = (if r.ramp then .ramp else .serve) ∧
   t.reg Reg.SEQ_STATUS_STATE = 1 ∧ t.row = (if s.seq.rowsRun = 0 then s.row else (s.row + 1) % 2 ^ 64) ∧ t.tier = s.tier ∧
   t.pending = s.pending) ∧
  (let s : State := inRow
   let o : RowStartOp := ⟨RowRecord.empty, []⟩
   s.mod.bindOff = none ∧ s.seq.active = true ∧ does (.rowStart o) s = s) := by
  refine ⟨?_, ?_⟩ <;> (decide +kernel)

/-- R65, R70: the step ready in the first buffer starts. -/
theorem test_rowStart_step :
  (let s : State := { ready with seq := { ready.seq with rampsLeft := 1 } }
   let o : RowStartOp := ⟨RowRecord.empty, []⟩
   let k : Nat := 0
   let rest : List Nat := []
   let tp : Template := tpl
   s.mod.bindOff = none ∧ s.flag Reg.SEC_STATUS_ZEROISING = false ∧ s.sec.resets = [] ∧ s.mayRun = true ∧
   s.flag Reg.SEQ_CTRL_RUN = true ∧ s.cap = s.reg Reg.PWR_LEVEL_IN_FORCE ∧ s.serve.round.forced = false ∧ s.seq.step = none ∧
   s.seq.window = none ∧ s.forcedCmd = none ∧ (∀ w ∈ s.seq.windows, w.step ≠ s.stepNo) ∧ s.readyBuffers = k :: rest ∧
   s.templateOf (s.rosterMem k) = some tp ∧ s.disallowed (s.rosterMem k) tp = false ∧ s.rosterOk k (s.rosterMem k) tp = true ∧
   s.seq.rampsLeft = 1 ∧ (s.rowRecord tp.id 0).upstream = 0 ∧ (s.rowRecord tp.id 0).downstream &&& s.seq.resync = 0 ∧
   does (.rowStart o) s = ((s.startStep k (s.rosterMem k) tp).beginRow .serve (s.rowRecord tp.id 0))) := by
  decide +kernel

/-- R37, R73: a row that may end ends, and the record of the next one is fetched. -/
theorem test_rowEnds :
  (let s : State := inRow
   let o : RowCompleteOp := ⟨40, 0, 0⟩
   s.rowComplete = true ∧ does (.rowComplete o) s = (s.endRow o).bindAdvance.resetAdvance.zeroAdvance) ∧
  (let s : State := stepping
   let o : RowCompleteOp := ⟨40, 0, 0⟩
   s.seq.active = false ∧ does (.rowComplete o) s = s) ∧
  (let s : State := inRow
   let o : RowFetchOp := ⟨false, 5⟩
   s.seq.active = true ∧ o.ecc = false ∧
   let t := does (.rowRecordFetch o) s
   t.seq.fetched = s.seq.step.map (fun st => st.row + 1) ∧ t.regs = s.regs ∧ t.data = s.data ∧ t.tier = s.tier) ∧
  (let s : State := inRow
   let o : RowFetchOp := ⟨true, 5⟩
   s.seq.active = true ∧ o.ecc = true ∧
   does (.rowRecordFetch o) s = (s.patternErr ⟨0, 0, 0, 0, 0, 0, o.cycle, [], false, false, none, 0⟩ 0 0x0A)) := by
  refine ⟨?_, ?_, ?_, ?_⟩ <;> (decide +kernel)

/-- R42 to R44, R57, R88: the limiter, an overrun, a barrier not met, and the fault response. -/
theorem test_rowEvents :
  (let s : State := serving
   let want : Nat := 500
   let holds : Nat := 3
   s.seq.active = false ∧ s.reg Reg.LNK_FABRIC_ROLE = 0 ∧
   let slope := s.reg Reg.PWR_RAMP_SLOPE
   let m := max (min want (s.seq.eff + slope)) (s.seq.eff - slope)
   let t := does (.activityLimiterBin want holds) s
   t.seq.eff = m ∧ t.seq.load = m ∧ t.reg Reg.PWR_DRAW_SWITCH_W = m % 2 ^ Reg.PWR_DRAW_SWITCH_W.width ∧
   t.reg Reg.MXA_LIMIT_HOLD_HOLDS = (if s.seq.eff + slope < want then (s.reg Reg.MXA_LIMIT_HOLD_HOLDS + holds) % 2 ^ 32 else s.reg Reg.MXA_LIMIT_HOLD_HOLDS)) ∧
  (let s : State := inRow
   let cycle : Nat := 9
   s.seq.active = true ∧ does (.tickOverrun cycle) s = (s.faultResponse cycle 0)) ∧
  (let s : State := serving.set Reg.SEQ_STATUS_STATE 1
   s.seq.active = false ∧ s.reg Reg.SEQ_STATUS_STATE = 1 ∧ does .barrierTimeout s = (s.faultResponse 0 1)) ∧
  (let s : State := serving
   let cycle : Nat := 9
   let i : Nat := 6
   i < 7 ∧ s.data.cmds = [] ∧ s.seq.step = none ∧ s.seq.graphs = [] ∧ s.seq.record.downstream = 0 ∧ s.waitsForMirror = false ∧
   let t := s.faultResponse cycle i
   t.reg (seqFaultFld i) = 1 ∧ t.reg Reg.SEQ_STATUS_STATE = 3 ∧ t.reg Reg.SEQ_CTRL_RUN = 0 ∧
   t.reg Reg.TNK_STATUS_FLUSHING = 1 ∧ t.tink.flushing = true ∧ t.seq.active = false ∧
   (s.seqFault = 0 → t.reg Reg.SEQ_FAULT_ROW_LO_FROW_LO = s.row % 2 ^ 32) ∧
   (s.seqFault ≠ 0 → t.reg Reg.SEQ_FAULT_ROW_LO_FROW_LO = s.reg Reg.SEQ_FAULT_ROW_LO_FROW_LO) ∧ t.data = s.data ∧
   t.tier = s.tier) := by
  refine ⟨?_, ?_, ?_, ?_⟩ <;> (decide +kernel)

/-- R64, R380: the Builder's next roster goes to the free buffer. -/
theorem test_rosterBuild :
  (let s : State := { serving with pwr := { serving.pwr with regauge := some 0 } }
   let r : RoundState := ((serving.nextRoster.map (·.1)).getD ⟨0, 0, 0, false, false⟩)
   let t : Template := tpl
   let ros : Roster := chatRoster
   s.mayBuild = true ∧ s.builderUp = true ∧ s.pwr.regauge.isSome = true ∧ s.pwr.gaugeCap = 0 ∧
   s.nextRoster = some (r, t, ros) ∧
   does .rosterBuild s = ({ s with serve := { s.serve with round := r } }.writeRoster (if bit (s.reg Reg.SEQ_ROSTER_LOCK_LOCK) (2 * t.model) then 2 * t.model + 1 else 2 * t.model) t ros)) ∧
  (let s : State := ready
   (s.mayBuild = false ∨ s.builderUp = false) ∧ does .rosterBuild s = s) := by
  refine ⟨?_, ?_⟩ <;> (decide +kernel)

/-- R369: tokens of a prefill reach the step token buffer. -/
theorem test_tokenCopy :
  (let s : State := { serving with serve := { serving.serve with seqs := [(5, { chat with phase := .prefill, remain := 3 })] }, tier := { serving.tier with near := [(0x900000, 8)] } }
   let o : TokenCopyOp := ⟨5, 2⟩
   let q : SeqRec := { chat with phase := .prefill, remain := 3 }
   let t' : Tensor := tensor 0 5 .near .data 8 2 0x9000
   Store.get? s.serve.seqs o.seqId = some q ∧ s.tensor? q.tokens = some t' ∧ q.phase = .prefill ∧ s.mirrors = false ∧
   let n := min o.count (q.remain - q.copied)
   let t := does (.tokenCopy o) s
   Store.get? t.serve.tokens o.seqId = some ((Store.getD s.serve.tokens o.seqId []).take q.copied ++ s.int32s t' (q.tokNext + q.copied) n) ∧
   Store.get? t.serve.seqs o.seqId = some { q with copied := q.copied + n } ∧ t.tier = s.tier ∧ t.regs = s.regs ∧
   Store.get? (does (.tokenCopy o) s).serve.tokens 5 = some [8, 0]) := by
  decide +kernel

/-- R345, R378: a window that has run starts again; the context blocks take their snapshot. -/
theorem test_windows :
  (let s : State := { serving with serve := { serving.serve with windowRows := 4096, charges := [(0, 4)] } }
   s.serve.windowLen ≤ s.serve.windowRows ∧
   let t := does .schedWindowBoundary s
   t.serve.windowRows = 0 ∧ t.serve.charges = [] ∧ t.serve.lastCharges = s.serve.charges ∧
   t.serve.windowLen = 256 * (s.reg Reg.SEQ_SCHED_CFG_WINDOW + 1) ∧ t.seq.gapCounts = [] ∧ t.serve.seqs = s.serve.seqs ∧
   t.regs = s.regs ∧ t.tier = s.tier) ∧
  (let s := tenant.setQuota 1 { tenant.quota 1 with nearUsed := 3 }
(Store.get? s.tier.ctx 1).isSome = true ∧ ((Store.get? (does .quotaSnapshot s).tier.ctx 1).map (fun (c : CtxBlock) => c.snapshot)) = some (s.quota 1)) := by
  refine ⟨?_, ?_⟩ <;> (decide +kernel)

/-- R237: a streamer takes its oldest table. -/
theorem test_slotStream :
  (let s : State := { busy with data := { busy.data with streams := [⟨0, 1, 40⟩] } }
   let o : StreamOp := ⟨0, none⟩
   let r : StreamReq := ⟨0, 1, 40⟩
   o.direct = none ∧ s.data.streams.find? (fun r => r.die == o.die) = some r ∧
   does (.slotStream o) s = ({ s with data := { s.data with streams := s.data.streams.erase r } }.streamTable r)) ∧
  (let s : State := busy
   let o : StreamOp := ⟨0, some (1, 40)⟩
   let cslot : Nat := 1
   let table : Nat := 40
   o.direct = some (cslot, table) ∧ does (.slotStream o) s = (s.streamTable ⟨o.die, cslot, table⟩)) := by
  refine ⟨?_, ?_⟩ <;> (decide +kernel)

/-- R47, R48: RUN, and halts at rest and in a row. -/
theorem test_seqRun :
  (let s : State := serving
   let run : Bool := false
   s.reg Reg.SEQ_STATUS_STATE ≠ 3 ∧ s.reg Reg.SEQ_STATUS_STATE ≠ 1 ∧
   let t := does (.seqRun run) s
   t.reg Reg.SEQ_CTRL_RUN = b2n run ∧ t.seq = s.seq ∧ t.data = s.data ∧ t.tier = s.tier) ∧
  (let s : State := serving.set Reg.SEQ_STATUS_STATE 3
   let run : Bool := true
   s.reg Reg.SEQ_STATUS_STATE = 3 ∧ does (.seqRun run) s = s) ∧
  (let s : State := serving
   (s.reg Reg.SEQ_STATUS_STATE = 0 ∨ s.reg Reg.SEQ_STATUS_STATE = 2)) ∧
  (let s : State := inRow
   s.reg Reg.SEQ_STATUS_STATE = 1 ∧ s.seq.active = true ∧ does .haltStep s = (s.set Reg.SEQ_CTRL_HALT_STEP 1) ∧
   does .haltRow s = (s.set Reg.SEQ_CTRL_HALT_ROW 1)) := by
  refine ⟨?_, ?_, ?_, ?_⟩ <;> (decide +kernel)

/-- R65, R79 to R81, R389, R627: clearing faults, and settings accepted and rejected. -/
theorem test_seqRegisters :
  (let s : State := sets [(Reg.SEQ_FAULT_TICK_OVERRUN, 1), (Reg.SEQ_FAULT_PATTERN_ERR, 1), (Reg.SEQ_IFAULT_INFO_CAUSE, 9)] serving
   let mask : Nat := 2 ^ 32 - 1
   mask < 2 ^ 32 ∧
   let t := does (.seqFaultClear mask) s
   (∀ i ∈ List.range 7, bit mask i = true → t.reg (seqFaultFld i) = 0) ∧
   (∀ i ∈ List.range 7, bit mask i = false → t.reg (seqFaultFld i) = s.reg (seqFaultFld i)) ∧
   (bit mask 4 = true → t.reg Reg.SEQ_IFAULT_INFO_CAUSE = 0 ∧ t.reg Reg.SEQ_IFAULT_OP_OPCODE = 0) ∧ t.data = s.data ∧
   t.seq = s.seq ∧ t.tier = s.tier) ∧
  (let s : State := serving
   let v : Nat := 0x02082801
   s.seqAtRest = true ∧ rowCfgOk v = true ∧ does (.seqRowCfgWrite v) s = (s.setRowCfg v)) ∧
  (let s : State := serving
   let v : Nat := 0x0812811F
   (s.setRowCfg v).reg Reg.SEQ_ROW_CFG_ROW_LEN = bits v 0 5 ∧ (s.setRowCfg v).reg Reg.SEQ_ROW_CFG_SELVAGE = bits v 8 4 ∧
   (s.setRowCfg v).reg Reg.SEQ_ROW_CFG_MARGIN = bits v 16 8) ∧
  (let s : State := inRow
   let v : Nat := 0x02082801
   (s.seqAtRest = false ∨ rowCfgOk v = false) ∧ does (.seqRowCfgWrite v) s = s.seqReject ∧
   s.seqReject.reg Reg.SEQ_FAULT_CFG_REJECT = 1) ∧
  (let s : State := serving
   let v : Nat := 0
   (s.seqAtRest = false ∨ rowCfgOk v = false) ∧ does (.seqRowCfgWrite v) s = s.seqReject ∧
   s.seqReject.reg Reg.SEQ_FAULT_CFG_REJECT = 1) ∧
  (let s : State := State.reset
   let off : Nat := 0x100040
   let v : Nat := 4
   (off = 0x100038 ∨ off = 0x10003C ∨ off = 0x100040) ∧ s.seqAtRest = true ∧
   let t := (Reg.fieldsAt off).foldl (fun s f => s.set f (bits v f.lo f.width)) s
   t.pmPlaced = true ∧ does (.pmBaseWrite off v) s = t.showSpace) ∧
  (let s : State := ready
   let k : Nat := 15
   k < 16 ∧ bit (s.reg Reg.SEQ_ROSTER_LOCK_LOCK) k = false ∧ does (.rosterReadySet (2 ^ k)) s = (s.markReady k) ∧
   (s.markReady k).reg Reg.SEQ_ROSTER_READY_READY = (s.reg Reg.SEQ_ROSTER_READY_READY ||| 2 ^ k) % 2 ^ 16 ∧
   Store.get? (s.markReady k).serve.ready k = some (s.rosterMem k)) ∧
  (let s : State := serving
   let v : Nat := 255
   let t := does (.seqSchedCfgWrite v) s
   t.reg Reg.SEQ_SCHED_CFG_WINDOW = bits v 0 8 ∧ t.serve = s.serve ∧ t.data = s.data ∧ t.tier = s.tier) := by
  refine ⟨?_, ?_, ?_, ?_, ?_, ?_, ?_, ?_⟩ <;> (decide +kernel)

/-! ### Queues and the mailbox -/

/-- `serving` with submission queue 0 of the PF enabled, 16 entries, and no sequence. -/
def queued : State :=
  { (sets [(Reg.HQ_SQ0_CFG_EN, 1), (Reg.HQ_SQ0_CFG_SIZE, 15), (Reg.HQ_CQ_CFG_EN, 1)] serving) with serve := ServeState.reset }

/-- A submission queue entry of an opcode for sequence 5. -/
def entry (opc : Nat) : SqEntry :=
  { (SqEntry.ofBytes [] [] []) with opc := opc, tag := 77, kv := ⟨0, 1, 4⟩, seqId := 5, tokens := ⟨0, 1, 5⟩, tokCount := 1, maxNew := 4194304, rsvd := 0 }

/-- `queued` with that entry fetched from index 2. -/
def fetched (opc : Nat) (s : State) : State := { s with host := { s.host with fetched := [⟨0, 0, 2, entry opc⟩] } }

/-- A function's own command: it reads tensor 5 and its code is tensor 6, an empty code object. -/
def inference : Descriptor := { Descriptor.empty with kind := 3, operands := [⟨⟨0, 1, 5⟩, 1, 0⟩], code := ⟨0, 1, 6⟩ }

/-- R502, R508, R509: doorbells at the edges of what they may write, and the coalescing timer. -/
theorem test_doorbells :
  (let s : State := queued
   let fn : Nat := 0
   let n : Nat := 0
   let v : Nat := 15
   n < 8 ∧ s.getF fn (sqReg Reg.HQ_SQ0_CFG_EN n) = 1 ∧
   let size := s.getF fn (sqReg Reg.HQ_SQ0_CFG_SIZE n) + 1
   let head := s.getF fn (sqReg Reg.HQ_SQ0_HEAD_HEAD n)
   let tail := s.getF fn (sqReg Reg.HQ_SQ0_TAIL_TAIL n)
   v < size ∧ (v + size - tail % size) % size < size - (tail + size - head % size) % size ∧
   does (.sqTailDoorbell fn n v true) s = ((s.setF fn (sqReg Reg.HQ_SQ0_TAIL_TAIL n) v).wakeBy fn false)) ∧
  (let s : State := queued
   let fn : Nat := 0
   let n : Nat := 7
   let v : Nat := 1
   let word : Bool := true
   s.getF fn (sqReg Reg.HQ_SQ0_CFG_EN n) = 0 ∧
   does (.sqTailDoorbell fn n v word) s = (s.fnErr fn Reg.GLB_FN_ERR_SQ_DOORBELL)) ∧
  (let s : State := queued.setF 0 Reg.HQ_CQ_TAIL_TAIL 3
   let fn : Nat := 0
   let v : Nat := 3
   v < s.cqSize fn ∧ (v + s.cqSize fn - s.getF fn Reg.HQ_CQ_HEAD_HEAD % s.cqSize fn) % s.cqSize fn ≤ s.cqUsed fn ∧
   s.notesOf fn = [] ∧
   let t := does (.cqHeadDoorbell fn v true) s
   t.getF fn Reg.HQ_CQ_HEAD_HEAD = v % 2 ^ Reg.HQ_CQ_HEAD_HEAD.width ∧ t.out = s.out ∧ t.host = s.host) ∧
  (let s : State := queued.setF 0 Reg.HQ_CQ_TAIL_TAIL 3
   let fn : Nat := 0
   let v : Nat := 4
   s.cqUsed fn < (v + s.cqSize fn - s.getF fn Reg.HQ_CQ_HEAD_HEAD % s.cqSize fn) % s.cqSize fn ∧
   does (.cqHeadDoorbell fn v true) s = (s.fnErr fn Reg.GLB_FN_ERR_CQ_DOORBELL)) ∧
  (let s : State := { (queued.set Reg.HQ_CQ_COALESCE_TIME_US 5) with host := { queued.host with coalesced := [(0, 2)] } }
   let fn : Nat := 0
   Store.getD s.host.coalesced fn 0 ≠ 0 ∧ s.getF fn Reg.HQ_CQ_COALESCE_TIME_US ≠ 0 ∧
   let t := does (.cqCoalesceTimer fn) s
   t.out.msix = s.out.msix ++ [(fn, 0)] ∧ Store.get? t.host.coalesced fn = none ∧ t.regs = s.regs ∧ t.tier = s.tier) := by
  refine ⟨?_, ?_, ?_, ?_, ?_⟩ <;> (decide +kernel)

/-- R503: an entry is fetched. -/
theorem test_sqFetch :
  (let s : State := queued.set (sqReg Reg.HQ_SQ0_TAIL_TAIL 0) 1
   let o : SqFetchOp := ⟨0, 0, leBytes 4 64, [], [], false⟩
   s.mayFetch o.fn o.queue = true ∧ o.failed = false ∧ s.reg Reg.GLB_STATUS_READY ≠ 0 ∧
   let k := o.fn * 8 + o.queue
   let i := Store.getD s.host.fetchAt k 0
   let f : Fetched := ⟨o.fn, o.queue, i, SqEntry.ofBytes o.bytes o.desc o.swatches⟩
   i ∉ Store.getD s.host.doneIdx k [] ∧ 1 ≤ f.entry.opc ∧ f.entry.opc ≤ 4 ∧
   let t := does (.sqFetch o) s
   t.host.fetched = s.host.fetched ++ [f] ∧
   Store.get? t.host.fetchAt k = some ((i + 1) % (s.getF o.fn (sqReg Reg.HQ_SQ0_CFG_SIZE o.queue) + 1)) ∧
   t.reg Reg.HQ_FETCHED_COUNT = (s.reg Reg.HQ_FETCHED_COUNT + 1) % 2 ^ 32 ∧ t.out = s.out ∧ t.data = s.data) := by
  decide +kernel

/-- R121, R123: a command with nothing against it is admitted. -/
theorem test_command :
  (let s : State := { (holding [tensor 0 6 .near .code 0 1 0x9100] queued) with host := { queued.host with fetched := [⟨0, 0, 2, { entry 1 with desc := inference }⟩] } }
   let o : QueueOp := ⟨0, 0⟩
   let f : Fetched := ⟨0, 0, 2, { entry 1 with desc := inference }⟩
   s.front o 1 = some f ∧ f.entry.rsvd = 0 ∧ (s.take f).twinBars f.fn = none ∧
   (s.take f).descRefusal f.fn f.entry.desc ((s.take f).modelOf f.entry.desc) = none ∧
   let a := (s.take f).claimCode f.entry.desc
   let t := does (.command o) s
   t.data.nextCid = a.data.nextCid + 1 ∧
   Store.get? t.data.cmds a.data.nextCid = some { Cmd.place f.entry.desc 0 [] 0 1 with queue := f.queue, sqIndex := f.index } ∧
   t.host = a.host ∧ t.out = a.out) := by
  decide +kernel

/-- R366 to R368: a sequence is opened. -/
theorem test_seqOpen :
  (let s : State := fetched 2 queued
   let o : QueueOp := ⟨0, 0⟩
   let f : Fetched := ⟨0, 0, 2, entry 2⟩
   s.front o 2 = some f ∧ f.entry.rsvd = 0 ∧ f.entry.swCount ≤ 8 ∧ 1 ≤ f.entry.tokCount ∧ f.entry.tokCount ≤ 4194304 ∧
   1 ≤ f.entry.maxNew ∧ f.entry.maxNew ≤ 4194304 ∧
   let a := s.take f
   a.twinBars f.fn = none ∧ a.seqRefusal (a.newSeq f) = none ∧
   does (.seqOpen o) s = (((a.openSeq a.freshSeq (a.newSeq f)).sqDone f.fn f.queue f.index).post f.fn .seq .ok f.queue true (seqBody f.entry.tag a.freshSeq 0 0 0 []))) ∧
  (chat.swatches = [] ∧ Store.get? (queued.openSeq 7 chat).serve.seqs 7 = some chat) := by
  refine ⟨?_, ?_⟩ <;> (decide +kernel)

/-- R371: new tokens for a sequence, and its close. -/
theorem test_seqAppend :
  (let s : State := fetched 3 { queued with serve := { queued.serve with seqs := [(5, chat)] } }
   let o : QueueOp := ⟨0, 0⟩
   let f : Fetched := ⟨0, 0, 2, entry 3⟩
   let q : SeqRec := chat
   s.front o 3 = some f ∧ f.entry.rsvd = 0 ∧ 1 ≤ f.entry.tokCount ∧ f.entry.tokCount ≤ 4194304 ∧ 1 ≤ f.entry.maxNew ∧
   f.entry.maxNew ≤ 4194304 ∧ f.entry.tokens.malformed = false ∧ (s.take f).twinBars f.fn = none ∧
   (s.take f).namedSeq f = .ok q ∧ (s.take f).appendRefusal q f = none ∧
   let e := f.entry
   let q' : SeqRec :=
     { q with tokens := e.tokens, tokNext := e.tokFirst, remain := e.tokCount, copied := 0, maxNew := e.maxNew, sampled := 0, phase := .prefill }
   let sv : ServeState :=
     { s.serve with seqs := Store.put s.serve.seqs e.seqId q', tokens := Store.erase s.serve.tokens e.seqId }
   let a : State := { s.take f with serve := sv }
   does (.seqAppend o) s = ((a.sqDone f.fn f.queue f.index).post f.fn .seq .ok f.queue true (seqBody f.entry.tag f.entry.seqId 1 0 q.sampled []))) ∧
  (let s : State := fetched 4 { queued with serve := { queued.serve with seqs := [(5, chat)] } }
   let o : QueueOp := ⟨0, 0⟩
   let f : Fetched := ⟨0, 0, 2, entry 4⟩
   let q : SeqRec := chat
   s.front o 4 = some f ∧ f.entry.rsvd = 0 ∧ (s.take f).twinBars f.fn = none ∧ (s.take f).namedSeq f = .ok q ∧
   let sv : ServeState := { s.serve with seqs := Store.put s.serve.seqs f.entry.seqId { q with closing := true } }
   let a : State := { s.take f with serve := sv }
   does (.seqClose o) s = ((a.sqDone f.fn f.queue f.index).post f.fn .seq .ok f.queue true (seqBody f.entry.tag f.entry.seqId 2 0 q.sampled [])).closeSeqs) := by
  refine ⟨?_, ?_⟩ <;> (decide +kernel)

/-- R506, R507, R511: a completion entry at the last place of a queue, and a page reply. -/
theorem test_replies :
  (let s : State := queued.setF 0 Reg.HQ_CQ_TAIL_TAIL 255
   let fn : Nat := 0
   let st : Status := Status.quota
   let body : List Byte := [1, 2]
   s.getF fn Reg.HQ_CQ_CFG_EN = 1 ∧ s.getF fn Reg.SEC_DPL_CTL_STOP = 0 ∧ s.getF fn Reg.SEC_DPL_CTL_EN = 0 ∧
   let tail := s.getF fn Reg.HQ_CQ_TAIL_TAIL
   let phase := s.getF fn Reg.HQ_CQ_TAIL_PHASE
   tail < 65536 ∧ phase < 2 ∧
   let t := s.post fn .reply st 0 false body
   t.out.completions = s.out.completions ++ [⟨fn, tail, .reply, phase, st, 0, 0, (body ++ List.replicate 56 0).take 56⟩] ∧
   t.getF fn Reg.HQ_CQ_TAIL_TAIL = (if s.cqSize fn ≤ tail + 1 then 0 else (tail + 1) % 65536) ∧
   t.getF fn Reg.HQ_CQ_TAIL_PHASE = (if s.cqSize fn ≤ tail + 1 then 1 - phase else phase) ∧ t.tier = s.tier ∧
   t.data = s.data ∧ t.serve = s.serve) ∧
  (let s : State := queued
   let h : Mail := letter 0 []
   let type : Nat := 0x0101
   let st : Status := .denied
   let p : List Byte := []
   let t := s.pageReply (h.ticket type) st false p
   t.out.replies = s.out.replies ++ [⟨h.fn, type, h.seq, min h.minor 1, st, false, false, p⟩] ∧
   t.out.msix = s.out.msix ++ [(h.fn, 1)] ∧ t.getF h.fn Reg.MBX_STATUS_BUSY = 0 ∧ t.getF h.fn Reg.MBX_STATUS_DONE = 1 ∧
   t.reg Reg.MBX_HANDLED_COUNT = (s.reg Reg.MBX_HANDLED_COUNT + 1) % 2 ^ 32 ∧
   t.reg Reg.MBX_REFUSED_COUNT = (if st = .ok then s.reg Reg.MBX_REFUSED_COUNT else (s.reg Reg.MBX_REFUSED_COUNT + 1) % 2 ^ 32) ∧
   t.data = s.data ∧ t.seq = s.seq ∧ t.tier = s.tier ∧ t.serve = s.serve ∧ t.sec = s.sec ∧ t.fab = s.fab ∧ t.twin = s.twin ∧
   t.pwr = s.pwr ∧ t.fw = s.fw ∧ t.mod = s.mod ∧ t.host = s.host ∧ t.tink = s.tink ∧ t.fresh = s.fresh ∧
   t.pending = s.pending) := by
  refine ⟨?_, ?_⟩ <;> (decide +kernel)

/-- A message type of no effect. -/
def nothing : MailSpec := ⟨0x0700, 1, false, 8, fun _ => true, fun s => s.reg Reg.GLB_CASTON_MODE == 0, fun _ s => .done s []⟩

/-- R511, R513, R516, R517: the checks of a message in their order. -/
theorem test_mail :
  (let s : State := (awake queued).set Reg.MBX_STATUS_BUSY 1
   let h : Mail := letter 0 []
   let m : MailSpec := nothing
   let t : Ticket := ⟨h.fn, m.type, h.seq, replyMinor h, bit h.flags 1⟩
   s.getF h.fn Reg.MBX_STATUS_BUSY = 1 ∧ s.mail h m = s.fnErr h.fn Reg.GLB_FN_ERR_MBX_DOORBELL) ∧
  (let s : State := awake queued
   let h : Mail := { letter 0 [] with minor := 0 }
   let m : MailSpec := nothing
   let t : Ticket := ⟨h.fn, m.type, h.seq, replyMinor h, bit h.flags 1⟩
   s.getF h.fn Reg.MBX_STATUS_BUSY ≠ 1 ∧ s.mailGate h.fn m.type = .open' ∧ (h.major ≠ 3 ∨ h.minor < m.minMinor) ∧
   s.mail h m = s.pageReply t .badVersion false []) ∧
  (let s : State := awake queued
   let h : Mail := { letter 0 [] with payload := [0] }
   let m : MailSpec := nothing
   let t : Ticket := ⟨h.fn, m.type, h.seq, replyMinor h, bit h.flags 1⟩
   s.getF h.fn Reg.MBX_STATUS_BUSY ≠ 1 ∧ s.mailGate h.fn m.type = .open' ∧ h.major = 3 ∧ m.minMinor ≤ h.minor ∧
   h.payload.length < m.size ∧ s.mail h m = s.pageReply t .badArg false []) ∧
  (let s : State := awake queued
   let h : Mail := letter 0 []
   let m : MailSpec := { nothing with sender := fun _ => false }
   let t : Ticket := ⟨h.fn, m.type, h.seq, replyMinor h, bit h.flags 1⟩
   s.getF h.fn Reg.MBX_STATUS_BUSY ≠ 1 ∧ s.mailGate h.fn m.type = .open' ∧ h.major = 3 ∧ m.minMinor ≤ h.minor ∧
   m.size = h.payload.length ∧ h.status = 0 ∧ h.flags = 0 ∧ (h.precond m.type).wf = true ∧ m.args s = true ∧
   m.sender s = false ∧ s.mail h m = s.pageReply t .denied false []) ∧
  (let s : State := awake queued
   let h : Mail := { letter 0 [] with payload := leBytes (4 + 256 * 3) 8 }
   let m : MailSpec := nothing
   let c := ((awake queued).preConflict (h.precond m.type)).getD ⟨0, 0, 0⟩
   let t : Ticket := ⟨h.fn, m.type, h.seq, replyMinor h, bit h.flags 1⟩
   s.getF h.fn Reg.MBX_STATUS_BUSY ≠ 1 ∧ s.mailGate h.fn m.type = .open' ∧ h.major = 3 ∧ m.minMinor ≤ h.minor ∧
   m.size = h.payload.length ∧ h.status = 0 ∧ h.flags = 0 ∧ (h.precond m.type).wf = true ∧ m.args s = true ∧
   m.sender s = true ∧ s.preConflict (h.precond m.type) = some c ∧ s.mail h m = s.pageReply t .stateConflict false c.bytes) ∧
  (let s : State := queued.set Reg.GLB_STATUS_READY 0
   let h : Mail := letter 0 []
   let m : MailSpec := { nothing with type := 0x0601 }
   let st : Status := .busyRetry
   let p : List Byte := []
   let t : Ticket := ⟨h.fn, m.type, h.seq, replyMinor h, bit h.flags 1⟩
   s.getF h.fn Reg.MBX_STATUS_BUSY ≠ 1 ∧ s.mailGate h.fn m.type = .refuse st p ∧ s.mail h m = s.pageReply t st false p) := by
  refine ⟨?_, ?_, ?_, ?_, ?_, ?_⟩ <;> (decide +kernel)

/-- R517: an ASYNC request with room for its completion. -/
theorem test_mail_async :
  (let s := awake queued
let h := { letter 0 [] with flags := 2 }
let m := nothing
let t : Ticket := ⟨0, 0x0700, 7, 1, true⟩
s.getF h.fn Reg.MBX_STATUS_BUSY ≠ 1 ∧ s.mailGate h.fn m.type = .open' ∧ h.major = 3 ∧ m.minMinor ≤ h.minor ∧
h.payload.length = m.size ∧ (h.precond m.type).wf = true ∧ m.sender s = true ∧ s.preConflict (h.precond m.type) = none ∧
s.getF h.fn Reg.MBX_STATUS_ASYNC_OUT < 16 ∧ 16 < s.credit h.fn ∧ (s.mail h m).out.completions.length = 1 ∧
(s.mail h m).out.replies.map (fun r => r.status) = [Status.ok]) := by
  decide +kernel

/-! ### Tensors, tenants and hanks -/

/-- Function 1 with 65,536 lines of each tier to use and the near tensor 3. -/
def owner : State :=
  let s := awake (holding [tensor 1 3 .near .data 0 2 0x1000] tenant)
  s.setQuota 1 { s.quota 1 with nearLimit := 65536, nearReserve := 65536, deepLimit := 65536, borrowLimit := 65536, tensorLimit := 16 }

/-- The PF owns near tensor 3 and may allot in every tier. -/
def lifed : State :=
  let s := awake (holding [tensor 0 3 .near .data 0 2 0x1000] State.reset)
  s.setQuota 0 { s.quota 0 with nearLimit := 65536, deepLimit := 65536, borrowLimit := 65536, tensorLimit := 16 }

/-- The request for a near tensor of one line. -/
def small : AllocAsk := ⟨false, .data, 0, 1, 0, false, false, false, Handle.none⟩

/-- R322 to R326, R346: a tensor is allotted and entered. -/
theorem test_tensorAlloc :
  (let s : State := owner
   let h : Mail := letter 1 (leBytes 0 8 ++ leBytes 1 4 ++ leBytes 0 20)
   let a : AllocAsk := small
   let s1 : State := (match owner.allot 1 small with | .ok r => r.2 | .error _ => owner)
   let x : Tensor := (match owner.allot 1 small with | .ok r => r.1 | .error _ => tensor 1 9 .near .data 0 0 0)
   s.Taken h 0x0201 0 40 ∧ h.handleOk 32 = true ∧ allocAsk h = some a ∧ a.good s = true ∧ (a.sealed' = true → h.fn = 0) ∧
   h.handle 32 = Handle.none ∧ s.allot h.fn a = .ok (x, s1) ∧
   does (.tensorAlloc h) s = (s1.showSpace.replied h 0x0201 (leBytes x.handle.toNat 8)) ∧
   x.idx = 1) := by
  unfold State.Taken; decide +kernel

/-- R327, R328, R363: a tensor is released, and its entry answered. -/
theorem test_tensorMessages :
  (let s : State := owner
   let h : Mail := letter 1 (leBytes (Handle.toNat ⟨1, 1, 3⟩) 8)
   let x : Tensor := tensor 1 3 .near .data 0 2 0x1000
   s.Taken h 0x0202 0 16 ∧ h.handleOk 8 = true ∧ h.handle 8 ≠ Handle.none ∧ (h.handle 8).fn = h.fn ∧
   s.tensor? (h.handle 8) = some x ∧ s.freeConflict x = none ∧ x.tier ≠ .host ∧
   does (.tensorFree h) s = ((s.dropPair x).replied h 0x0202 [])) ∧
  (let s : State := owner
   let h : Mail := letter 0 (leBytes (Handle.toNat ⟨1, 1, 3⟩) 8)
   let x : Tensor := tensor 1 3 .near .data 0 2 0x1000
   s.Taken h 0x0203 0 16 ∧ h.handleOk 8 = true ∧ h.handle 8 ≠ Handle.none ∧ ((h.handle 8).fn = h.fn ∨ h.fn = 0) ∧
   s.tensor? (h.handle 8) = some x ∧ does (.tensorQuery h) s = (s.replied h 0x0203 (x.bytes ++ leBytes x.handle.toNat 8))) := by
  refine ⟨?_, ?_⟩ <;> ((try unfold State.Taken); decide +kernel)

/-- R336, R349: a relocation starts. -/
theorem test_tensorPlace :
  (let s : State := lifed
   let h : Mail := letter 0 (leBytes (Handle.toNat ⟨0, 1, 3⟩) 8 ++ [1, 0])
   let s1 : State := (match s.startMove 0 (.place (h.ticket 0x0204)) { MoveDesc.empty with src := ⟨0, 1, 3⟩, relocate := true, dstTier := Tier.ofCode 1 } Handle.none 0 with | .ok r => r | .error _ => s)
   s.Taken h 0x0204 0 18 ∧ h.handleOk 8 = true ∧ h.handle 8 ≠ Handle.none ∧ h.u 16 2 ≤ 3 ∧ (h.handle 8).fn = h.fn ∧
   let d : MoveDesc := { MoveDesc.empty with src := h.handle 8, relocate := true, dstTier := Tier.ofCode (h.u 16 2) }
   s.moveRefusal h.fn false d = none ∧ s.startMove h.fn (.place (h.ticket 0x0204)) d Handle.none 0 = .ok s1 ∧
   s1.tier.ended = [] ∧ does (.tensorPlace h) s = (s1.waiting h 0x0204)) := by
  unfold State.Taken; decide +kernel

/-- R329, R346: a HOST tensor is entered and released. -/
theorem test_hostTensors :
  (let s : State := owner
   let h : Mail := letter 1 (leBytes 0x1000 8 ++ leBytes 513 4 ++ leBytes 0 2)
   s.Taken h 0x0205 0 22 ∧ h.u 16 4 ≠ 0 ∧ (Fmt.ofCode (h.u 20 2)).isSome = true ∧ s.tableFull h.fn 1 = none ∧
   s.tier.hostRegs = [] ∧
   let x := { s.blankTensor h.fn .data (h.u 20 2) (ceilDiv (h.u 16 4) 256) with tier := .host, loc := 0, keyIndex := 0 }
   let a : State := { s with tier := { s.tier with hostRegs := [(0, h.fn, h.u 8 8, h.u 16 4)] } }
   does (.hostRegister h) s = ((a.enter x).replied h 0x0205 (leBytes x.handle.toNat 8))) ∧
  (let s : State := (awake (holding [tensor 1 3 .host .data 0 2 0] tenant))
   let h : Mail := letter 1 (leBytes (Handle.toNat ⟨1, 1, 3⟩) 8)
   let x : Tensor := tensor 1 3 .host .data 0 2 0
   s.Taken h 0x0206 0 16 ∧ h.handleOk 8 = true ∧ h.handle 8 ≠ Handle.none ∧ (h.handle 8).fn = h.fn ∧
   s.tensor? (h.handle 8) = some x ∧ x.tier = .host ∧ x.moving = false ∧
   (∀ v ∈ s.tier.moves, v.desc.src ≠ h.handle 8 ∧ v.desc.dst ≠ h.handle 8) ∧ s.named x.key = false ∧
   let a : State := { s with tier := { s.tier with hostRegs := Store.erase s.tier.hostRegs x.loc } }
   does (.hostUnregister h) s = ((a.dropPair x).replied h 0x0206 [])) := by
  refine ⟨?_, ?_⟩ <;> ((try unfold State.Taken); decide +kernel)

/-- R345, R346: limits are set and answered. -/
theorem test_quotas :
  (let s : State := owner
   let h : Mail := letter 0 (leBytes 1 2 ++ [0, 0] ++ leBytes 2 4 ++ leBytes 2 4 ++ leBytes 3 4 ++ leBytes 1 4 ++ leBytes 9 4 ++ leBytes 1 2)
   s.Taken h 0x0207 0 34 ∧ h.fn = 0 ∧ h.u 8 2 ≤ 1024 ∧ h.u 10 2 = 0 ∧ h.u 16 4 ≤ h.u 12 4 ∧ s.enabled (h.u 8 2) = true ∧
   ((s.tier.quotas.filter (fun q => q.1 != h.u 8 2)).map (fun q => q.2.nearReserve)).foldl (· + ·) 0 + 256 * h.u 16 4 ≤ s.reg Reg.MOV_NEAR_AVAIL_MIB * 256 ∧
   let q : Quota := { s.quota (h.u 8 2) with nearLimit := 256 * h.u 12 4, nearReserve := 256 * h.u 16 4, deepLimit := 256 * h.u 20 4, borrowLimit := 256 * h.u 24 4, tensorLimit := h.u 28 4, motifLimit := h.u 32 2 }
   does (.quotaSet h) s = ((s.setQuota (h.u 8 2) q).replied h 0x0207 []) ∧ (s.setQuota (h.u 8 2) q).quota (h.u 8 2) = q) ∧
  (let s : State := owner
   let h : Mail := letter 1 (leBytes 1 2)
   let c : CtxBlock := ((Store.get? owner.tier.ctx 1).getD (CtxBlock.init 1 1))
   s.Taken h 0x0208 0 10 ∧ h.u 8 2 ≤ 1024 ∧ (h.u 8 2 = h.fn ∨ h.fn = 0) ∧ Store.get? s.tier.ctx (h.u 8 2) = some c ∧
   does (.quotaQuery h) s = (s.replied h 0x0208 (c.snapshot.bytes c.snapRow))) := by
  refine ⟨?_, ?_⟩ <;> ((try unfold State.Taken); decide +kernel)

/-- R361: a pre-empted function starts to park. -/
theorem test_tenantPark :
  (let s : State := owner.setF 1 Reg.GLB_FN_STATE_STATE 2
   let h : Mail := letter 0 (leBytes 1 2)
   s.Taken h 0x0209 0 10 ∧ h.fn = 0 ∧ h.u 8 2 ≤ 1024 ∧ s.getF (h.u 8 2) Reg.GLB_FN_STATE_STATE = 2 ∧
   (∀ p ∈ s.tier.parks, p.1 ≠ h.u 8 2) ∧
   let keys := (s.tier.tt.filter (fun c => c.2.fn == h.u 8 2)).map (·.1)
   let a := (keys.foldl State.drainMotif s).mirrorCtx (h.u 8 2)
   let a := keys.foldl (fun (s : State) k => s.mapTensor k (fun t =>
     if t.tier = .near ∧ t.kind ≠ .context then { t with parked := true } else t)) a
   let a : State := { a with tier := { a.tier with parks := a.tier.parks ++ [(h.u 8 2, h.ticket 0x0209)] } }
   does (.tenantPark h) s = (a.waiting h 0x0209).settleMotifs.settle) := by
  unfold State.Taken; decide +kernel

/-- R362, R340: with nothing parked, with a parked tensor, and a write-back of all. -/
theorem test_tenantRestore :
  (let s : State := owner
   let h : Mail := letter 1 (leBytes 1 2)
   s.Taken h 0x020A 0 10 ∧ h.u 8 2 ≤ 1024 ∧ (h.fn = 0 ∨ h.u 8 2 = h.fn) ∧ s.enabled (h.u 8 2) = true ∧
   (∀ p ∈ s.tier.parks, p.1 ≠ h.u 8 2) ∧ (∀ p ∈ s.tier.restores, p.1 ≠ h.u 8 2) ∧
   (∀ c ∈ s.tier.tt, c.2.fn = h.u 8 2 → c.2.parked = false) ∧ does (.tenantRestore h) s = (s.replied h 0x020A [])) ∧
  (let s : State := (awake (holding [{ (tensor 0 3 .deep .data 0 2 0) with parked := true }] State.reset))
   let s1 : State := (match s.restoreAll 0 [{ (tensor 0 3 .deep .data 0 2 0) with parked := true }] with | .ok r => r | .error _ => s)
   let h : Mail := letter 0 (leBytes 0 2)
   s.Taken h 0x020A 0 10 ∧ h.u 8 2 ≤ 1024 ∧ (h.fn = 0 ∨ h.u 8 2 = h.fn) ∧ s.enabled (h.u 8 2) = true ∧
   (∀ p ∈ s.tier.parks, p.1 ≠ h.u 8 2) ∧ (∀ p ∈ s.tier.restores, p.1 ≠ h.u 8 2) ∧
   let away := (s.tier.tt.map (·.2)).filter (fun x => x.fn == h.u 8 2 && x.parked && x.kind != .scale)
   away ≠ [] ∧ (∀ x ∈ away, x.tier = .deep ∧ s.deepKey x.fn x.keyIndex = true) ∧ s.restoreAll (h.u 8 2) away = .ok s1 ∧
   let a : State := { s1 with tier := { s1.tier with restores := s1.tier.restores ++ [(h.u 8 2, h.ticket 0x020A)] } }
   does (.tenantRestore h) s = (a.waiting h 0x020A)) ∧
  (let s : State := owner
   let h : Mail := letter 1 (leBytes 1 2)
   s.Taken h 0x020D 0 10 ∧ h.u 8 2 ≤ 1024 ∧ (h.fn = 0 ∨ h.u 8 2 = h.fn) ∧ s.enabled (h.u 8 2) = true ∧
   does (.writeback h) s = (((s.dirtyOf (fun t => t.fn == h.u 8 2)).foldl State.writeBack s).replied h 0x020D [])) := by
  refine ⟨?_, ?_, ?_⟩ <;> ((try unfold State.Taken); decide +kernel)

/-- Link 3 is UP, its frames numbered. -/
def neighbour : State := up [3] (awake State.reset)

/-- Hank 0 is lent on link 3 from line 0. -/
def lender : State := { neighbour with tier := { neighbour.tier with lent := [(0, ⟨3, 0, [], none⟩)] } }

/-- R355, R405: a hank is lent, and one offered is borrowed. -/
theorem test_hankLend :
  (let s : State := neighbour.set Reg.MOV_LEND_CFG_LEND_MAX 1
   let h : Mail := letter 0 (leBytes 3 2 ++ [0, 0] ++ leBytes 1 4)
   let loc : Nat := ((s.nearFit 0 0x10 (2 ^ 18)).getD 0)
   s.Taken h 0x020B 0 16 ∧ h.u 8 2 < 16 ∧ h.u 10 2 = 0 ∧ h.u 12 4 = 1 ∧ h.fn = 0 ∧
   s.getF (linkFn (h.u 8 2)) Reg.LNK_STATE_STATE = 3 ∧ (∀ t ∈ s.seq.templates, t.sendsOn (h.u 8 2) = false) ∧
   s.tier.lent.length + 1 ≤ s.reg Reg.MOV_LEND_CFG_LEND_MAX ∧ s.nearFit 0 0x10 (2 ^ 18) = some loc ∧ s.tier.lent = []) ∧
  (let s : State := neighbour
   let l : Nat := 3
   let k : Nat := 511
   let d : Nat := 0
   l < 16 ∧ k < 512 ∧ s.linkUp l = true ∧ s.tier.borrowed.length < 512 ∧ Store.get? s.tier.borrowed (512 * l + k) = none ∧
   let t := does (.hankLend (.peer l k d)) s
   Store.get? t.tier.borrowed (512 * l + k) = some ⟨l, k, [], none⟩ ∧ t.tier.near = s.tier.near ∧ t.tier.tt = s.tier.tt) := by
  refine ⟨?_, ?_⟩ <;> ((try unfold State.Taken); decide +kernel)

/-- R357: a recall on both sides, and its deadline. -/
theorem test_hankRecall :
  (let s : State := lender
   let h : Mail := letter 0 (leBytes 1 4 ++ leBytes 0 4 ++ leBytes 1000 4)
   let x : LentHank := ⟨3, 0, [], none⟩
   s.Taken h 0x020C 0 20 ∧ h.u 8 4 = 1 ∧ h.fn = 0 ∧ h.u 16 4 = 1000 ∧ Store.get? s.tier.lent (h.u 12 2) = some x ∧
   let a : State := { s with tier := { s.tier with lent := Store.put s.tier.lent (h.u 12 2) { x with recallAt := some 1000 } } }
   does (.hankRecall (.message h)) s = ((a.send x.link (.hankRecall (h.u 12 2) 1000)).replied h 0x020C [])) ∧
  (let s : State := { neighbour with tier := { neighbour.tier with borrowed := [(512 * 3 + 511, ⟨3, 511, [], none⟩)] } }
   let l : Nat := 3
   let k : Nat := 511
   let d : Nat := 1000
   let x : BorrowedHank := ⟨3, 511, [], none⟩
   Store.get? s.tier.borrowed (512 * l + k) = some x ∧ (∀ t ∈ s.tier.tt, t.2.tier ≠ .borrowed) ∧
   Store.get? (s.hankRecalled l k d).tier.borrowed (512 * l + k) = some { x with recallAt := some d } ∧
   (s.hankRecalled l k d).reg Reg.MOV_INT_RECALLED = 1) ∧
  (let s : State := { neighbour with tier := { neighbour.tier with lent := [(0, ⟨3, 0, [], some 1000⟩)] } }
   let k : Nat := 0
   let x : LentHank := ⟨3, 0, [], some 1000⟩
   Store.get? s.tier.lent k = some x ∧ x.recallAt.isSome = true) ∧
  (let s : State := { neighbour with tier := { neighbour.tier with borrowed := [(512 * 3 + 511, ⟨3, 511, [], some 9⟩)] } }
   let l : Nat := 3
   let k : Nat := 511
   let x : BorrowedHank := ⟨3, 511, [], some 9⟩
   Store.get? s.tier.borrowed (512 * l + k) = some x ∧ x.recallAt.isSome = true ∧
   does (.hankRecallDeadline (some l) k) s = (s.loseHanks (fun a b => a == l && b == k))) := by
  refine ⟨?_, ?_, ?_, ?_⟩ <;> ((try unfold State.Taken); decide +kernel)

/-! ### Tier events, models, motifs and swatches -/

/-- A move that copies the two lines of tensor 3 from the near to the deep tier. -/
def copying (cause : MoveCause) (src : Tier) : Move :=
  { (Move.new 1 cause { MoveDesc.empty with src := ⟨1, 1, 3⟩, relocate := true, dstTier := .deep } [⟨src, 0x1000, .deep, 0, 2⟩] [0] false) with id := 4, running := true }

/-- R338, R340, R349, R353, R459: write-back, granules, host reads, zero-fill and wear. -/
theorem test_tierEvents :
  (let s : State := sets [(Reg.MOV_CTRL_WB_EN, 1)] (holding [{ (tensor 1 3 .near .data 0 2 0x1000) with dirty := true, homeSet := true }] tenant)
   let o : WritebackOp := ⟨true⟩
   let x : Tensor := { (tensor 1 3 .near .data 0 2 0x1000) with dirty := true, homeSet := true }
   let rest : List Tensor := []
   s.flag Reg.MOV_CTRL_WB_EN = true ∧ o.delayed = true ∧ s.dirtyOf (fun _ => true) = x :: rest ∧
   does (.writebackStart o) s = (s.writeBack x)) ∧
  (let s : State := { owner with tier := { owner.tier with moves := [copying .other .near] } }
   let o : MoveGranuleOp := ⟨[], 0⟩
   let m : Move := copying .other .near
   s.nextServed = some m ∧
   does (.moveGranuleDone o) s = ({ s with tier := { s.tier with served := m.fn } }.landGranule m o.lines o.fail).settle.bindAdvance) ∧
  (let s : State := { owner with host := { owner.host with squashReads := [9] } }
   let o : HostReadOp := ⟨9, [], false⟩
   o.move ∈ s.host.squashReads ∧
   let t := does (.hostReadCompletion o) s
   t.host.squashReads = s.host.squashReads.erase o.move ∧ t.tier = s.tier ∧ t.regs = s.regs) ∧
  (let s : State := { owner with tier := { owner.tier with moves := [copying .other .host] } }
   let o : HostReadOp := ⟨4, [0, 0], false⟩
   let m : Move := copying .other .host
   o.move ∉ s.host.squashReads ∧ s.flag Reg.MOV_CTRL_PAUSE = false ∧
   s.tier.moves.find? (fun m => m.id == o.move && m.running && !m.stopped && m.segs.any (fun g => g.srcTier == .host)) = some m ∧
   does (.hostReadCompletion o) s = ({ s with tier := { s.tier with served := m.fn } }.landGranule m o.lines (if o.failed then 2 else 0)).settle) ∧
  (let s : State := { owner with tier := { owner.tier with regions := [(0, ⟨5, 1, 2, false⟩)], zeroPend := [(0, 256, 5)], near := [(65535, 1), (65536, 2)] } }
   let f : Nat := 0
   let r : Region := ⟨5, 1, 2, false⟩
   Store.get? s.tier.regions f = some r ∧ r.state = 2 ∧ r.hold = false ∧ s.tier.zeroPend = [(256 * f, 256, r.owner)] ∧
   s.tier.parks = [] ∧ s.tier.ended = [] ∧
   let t := does (.zeroFillDone f) s
   Store.get? t.tier.regions f = none ∧ t.tier.zeroPend = [] ∧
   t.tier.near = [(65536, 2)]) ∧
  (let s : State := owner
   let o : WearOp := ⟨0, 3, 4, 200, 50, 2⟩
   o.kind = 0 ∧ o.spareLeft ≠ 0 ∧
   let t := does (.flashWearOp o) s
   t.reg Reg.FTL_GC_BLOCKS_BLOCKS = (s.reg Reg.FTL_GC_BLOCKS_BLOCKS + 1) % 2 ^ 32 ∧
   t.reg Reg.FTL_LIFE_SPARE_LEFT = min 100 o.spareLeft ∧
   t.reg Reg.FTL_PARITY_FIX_COUNT = (s.reg Reg.FTL_PARITY_FIX_COUNT + o.parityFixes) % 2 ^ 32 ∧ t.tier = s.tier) ∧
  (let s : State := owner
   s.flag Reg.FTL_STATUS_READ_ONLY = false) := by
  refine ⟨?_, ?_, ?_, ?_, ?_, ?_, ?_⟩ <;> (decide +kernel)

/-- The page of a base model of one shard of 65,536 elements: the host tensor that holds the shard, its conversion and format, and the links. -/
def modelPage (src : Handle) (qfmt linkA : Nat) : List Byte :=
  leBytes 0 4 ++ leBytes 2 4 ++ leBytes 2 4 ++ leBytes 0 4 ++ leBytes 4 4 ++ leBytes 0xFFFF 4 ++ leBytes 0 8 ++ leBytes 0 4 ++ leBytes 1 4 ++
    leBytes 0 16 ++ (leBytes 0 8 ++ leBytes src.toNat 6 ++ leBytes 0 8 ++ leBytes qfmt 1 ++ leBytes 0 9 ++ leBytes 255 4 ++ leBytes 255 4 ++ leBytes 0 24) ++
    leBytes 0 32 ++ leBytes linkA 2 ++ leBytes 0xFFFF 2

/-- The PF holds HOST tensor 3 of the lines of such a shard in BF16, and may allot. -/
def source : State :=
  let s := awake (holding [tensor 0 3 .host .data 1 512 0] State.reset)
  s.setQuota 0 { s.quota 0 with nearLimit := 65536, tensorLimit := 16, motifLimit := 4 }

/-- R358, R359: a load is admitted and its shards allotted. -/
theorem test_modelLoad :
  (let s : State := source
   let h : Mail := letter 0 (modelPage ⟨0, 1, 3⟩ 0 0xFFFF).dropLast.dropLast
   let s1 : State := (match s.hostShards (modelAsk h).shards with | .ok l => (match s.allotShards 0 false l with | .ok r => r.2 | .error _ => s) | .error _ => s)
   let shards : List Shard := (match s.hostShards (modelAsk h).shards with | .ok l => l | .error _ => [])
   let keys : List Nat := [1]
   let a := modelAsk h
   s.Taken h 0x0301 0 (a.size - 2) ∧ a.slot < 8 ∧ h.u 10 2 = 0 ∧ h.fn = 0 ∧ a.params.secret = false ∧
   s.slotConflict a.slot = none ∧ a.good = true ∧ a.linkA = 0xFFFF ∧ s.hostShards a.shards = .ok shards ∧
   s.allotShards a.slot false shards = .ok (keys, s1) ∧
   let s2 := s1.setModel a.slot ⟨1, a.params, 0, keys, some (h.ticket 0x0301), none⟩
   let s3 := (shards.zip keys).foldl (fun (s : State) (x : Shard × Nat) =>
     match s.entry x.2, s.tensor? x.1.desc.src with
     | some d, some hst =>
       s.beginMove (Move.new 0 (.model a.slot) { x.1.desc with dst := d.handle } [⟨.host, hst.loc, .near, d.loc, hst.size⟩] [] false)
     | _, _ => s) s2
   does (.modelLoad h) s = (s3.waiting h 0x0301).settle) := by
  unfold State.Taken; decide +kernel

/-- R418: a relay is admitted. -/
theorem test_modelRelay :
  (let s : State := source
   let h : Mail := letter 0 (modelPage Handle.none 1 3)
   let s1 : State := (match s.allotShards 0 false [⟨((modelAsk h).shards.headD MoveDesc.empty), 1, 512, 0⟩] with | .ok r => r.2 | .error _ => s)
   let keys : List Nat := [1]
   let a := modelAsk h
   s.Taken h 0x0302 0 a.size ∧ a.slot < 8 ∧ h.u 10 2 = 0 ∧ h.fn = 0 ∧ a.params.secret = false ∧ s.slotConflict a.slot = none ∧
   a.good = true ∧ a.linkA < 16 ∧ a.linkB = 0xFFFF ∧
   (∀ d ∈ a.shards, (Fmt.ofCode d.qfmt).isSome = true ∧ d.src = Handle.none) ∧
   let shards := a.shards.map (fun d =>
     let f := (Fmt.ofCode d.qfmt).getD .bf16
     let k := d.shardDims f (linesFor ((d.rows + 1) * (d.cols + 1)) f.width)
     (⟨d, d.qfmt, k.1, k.2⟩ : Shard))
   s.allotShards a.slot false shards = .ok (keys, s1) ∧
   let s2 := s1.setModel a.slot ⟨1, a.params, 0, keys, some (h.ticket 0x0302), none⟩
   let sizes := shards.map (fun x => (x.data, x.scale))
   let r : Relay := ⟨0, a.slot, some a.linkA, none, streamGranules sizes, sizes, 0, a.params.digest, false, .ok, false, none⟩
   let s3 : State := { s2 with fab := { s2.fab with relays := s2.fab.relays ++ [r] } }
   does (.modelRelay h) s = (s3.waiting h 0x0302)) := by
  unfold State.Taken; decide +kernel

/-- R360, R363: a model is released, and its slot answered. -/
theorem test_modelUnload :
  (let s : State := awake { serving with seq := SeqState.reset, serve := ServeState.reset }
   let h : Mail := letter 0 (leBytes 0 2)
   s.Taken h 0x0303 0 10 ∧ h.u 8 2 < 8 ∧ h.fn = 0 ∧ s.unloadConflict (h.u 8 2) = none ∧ (s.model (h.u 8 2)).tensors = [] ∧
   (s.model (h.u 8 2)).params.secret = false ∧
   let a : State := { s with fab := { s.fab with relays := s.fab.relays.filter (fun r => r.slot != h.u 8 2) } }
   does (.modelUnload h) s = ((a.setModel (h.u 8 2) ModelSlot.empty).replied h 0x0303 []) ∧
   ((a.setModel (h.u 8 2) ModelSlot.empty).model (h.u 8 2)).state = 0) ∧
  (let s : State := awake serving
   let h : Mail := letter 1 (leBytes 7 2)
   s.Taken h 0x0304 0 10 ∧ h.u 8 2 < 8) := by
  refine ⟨?_, ?_⟩ <;> ((try unfold State.Taken); decide +kernel)

/-- The head of a motif image of rank 4 with one target of one tile each way, in BF16. -/
def motifBytes : List Byte :=
  leBytes 1 2 ++ leBytes 4 2 ++ leBytes 0 252 ++ (leBytes 0 1 ++ leBytes 1 1 ++ leBytes 1 2 ++ leBytes 1 2 ++ leBytes 0 2 ++ leBytes 17 4 ++ leBytes 16 4)

/-- `source` with such a model RESIDENT in slot 7. -/
def fitted : State :=
  let p : ModelParams := { ModelParams.empty with layers := 2, kvLpt := 2, targets := [(256, 256)], rankLimit := 256 }
  { source with tier := { source.tier with models := [(7, ⟨2, p, 0, [], none, none⟩)] } }

/-- R226 to R229: an image becomes a motif. -/
theorem test_motifLoad :
  (let s : State := fitted
   let h : Mail := letter 0 (leBytes 7 2 ++ leBytes 0 6 ++ leBytes (Handle.toNat ⟨0, 1, 3⟩) 8 ++ leBytes 0x3F800000 4 ++ leBytes 0 4) motifBytes
   let src : Tensor := tensor 0 3 .host .data 1 512 0
   let f : Fmt := .bf16
   let x0 := s.blankTensor 0 .motif 1 (17 + (MotifTarget.mk 0 1 1 0 0).lines 4)
   let loc : Nat := (match s.allocNear 0 x0.keyIndex x0.units with | .good n _ => n | _ => 0)
   let s1 : State := (match s.allocNear 0 x0.keyIndex x0.units with | .good _ t => t | _ => s)
   let slot := h.u 8 2
   let i := MotifImage.ofBytes h.buffer
   s.Taken h 0x0310 0 32 ∧ slot < 8 ∧ h.u 10 6 = 0 ∧ h.handleOk 16 = true ∧ h.handle 16 ≠ Handle.none ∧ h.u 28 4 = 0 ∧
   (h.handle 16).fn = h.fn ∧ (s.model slot).state = 2 ∧ s.ownTensor (h.handle 16) = .ok src ∧ Fmt.ofCode src.format = some f ∧
   src.tier = .host ∧ src.format ≤ 2 ∧ i.version = 1 ∧ i.rsvd = 0 ∧ i.fits (s.model slot) = true ∧
   (∀ t ∈ i.targets, t.length = t.lines i.rank * f.width / 16 ∧ t.offset + t.length ≤ src.size ∧ 17 ≤ t.offset) ∧
   s.tableFull h.fn 1 = none ∧ (s.quota h.fn).motifUsed + 1 ≤ (s.quota h.fn).motifLimit ∧
   (s.tier.tt.filter (fun c => c.2.kind == .motif && c.2.tier == .near)).length < 4096 ∧
   let ts := layTargets i.rank 17 i.targets
   let x := s.blankTensor h.fn .motif 1 (17 + (ts.map (·.length)).foldl (· + ·) 0)
   s.allocNear h.fn x.keyIndex x.units = .good loc s1 ∧
   let x := { x with loc := loc, kspec := slot }
   let lines := motifHead i (s.model slot).params.rhtBlock.isSome (h.u 24 4) ts ++
     i.targets.flatMap (fun t => t.data f none (BitVec.ofNat 32 (h.u 24 4)) i.rank h.buffer)
   (s1.model slot).params = (s.model slot).params) := by
  unfold State.Taken; decide +kernel

/-- `owner` with the near motif 4 in a state, its bytes not yet written. -/
def withMotif (st : MotifState) : State :=
  let s := holding [{ (tensor 1 4 .near .motif 1 33 0x2000) with kspec := 7 }] owner
  { s with tier := { s.tier with motifs := [(ttKey 1 4, ⟨st, 7, 4, 3⟩)] } }

/-- R230 to R234: a motif is bound, drained and answered. -/
theorem test_motifMessages :
  (let s : State := withMotif .resident
   let h : Mail := letter 1 (leBytes (Handle.toNat ⟨1, 1, 4⟩) 8 ++ leBytes 1 2)
   let x : Tensor := { (tensor 1 4 .near .motif 1 33 0x2000) with kspec := 7 }
   let mo : Motif := ⟨.resident, 7, 4, 3⟩
   let c : CtxBlock := ((Store.get? s.tier.ctx 1).getD (CtxBlock.init 1 1))
   let e : Nat := 0
   let slot : Nat := 1
   s.Taken h 0x0311 0 18 ∧ h.handleOk 8 = true ∧ h.handle 8 ≠ Handle.none ∧ (h.handle 8).fn = h.fn ∧
   (h.u 16 2 = 1 ∨ h.u 16 2 = 2) ∧ s.ownTensor (h.handle 8) = .ok x ∧
   Store.get? s.tier.motifs (ttKey h.fn (h.handle 8).idx) = some mo ∧ Store.get? s.tier.ctx h.fn = some c ∧
   mo.state = .resident ∧ x.moving = false ∧ x.incomplete = false ∧ (h.u 16 2 = 1 → s.trainNames (h.handle 8) = false) ∧
   c.bindings.findIdx? (fun b => b.mode == 0) = some e ∧ (∀ t ∈ (s.motifImage x).targets, t.lines mo.rank ≤ s.area) ∧
   s.freeSlot = some slot) ∧
  (let s : State := withMotif .serving
   let h : Mail := letter 1 (leBytes (Handle.toNat ⟨1, 1, 4⟩) 8)
   let x : Tensor := { (tensor 1 4 .near .motif 1 33 0x2000) with kspec := 7 }
   let mo : Motif := ⟨.serving, 7, 4, 3⟩
   s.Taken h 0x0312 0 16 ∧ h.handleOk 8 = true ∧ h.handle 8 ≠ Handle.none ∧ (h.handle 8).fn = h.fn ∧
   s.tensor? (h.handle 8) = some x ∧ Store.get? s.tier.motifs (ttKey h.fn (h.handle 8).idx) = some mo ∧ mo.state = .serving ∧
   does (.motifUnbind h) s = (((s.drainMotif x.key).mirrorCtx h.fn).replied h 0x0312 []).settleMotifs) ∧
  (let s : State := withMotif .serving
   let h : Mail := letter 0 (leBytes (Handle.toNat ⟨1, 1, 4⟩) 8)
   let x : Tensor := { (tensor 1 4 .near .motif 1 33 0x2000) with kspec := 7 }
   let mo : Motif := ⟨.serving, 7, 4, 3⟩
   s.Taken h 0x0313 0 16 ∧ h.handleOk 8 = true ∧ h.handle 8 ≠ Handle.none ∧ ((h.handle 8).fn = h.fn ∨ h.fn = 0) ∧
   s.tensor? (h.handle 8) = some x ∧ Store.get? s.tier.motifs (ttKey (h.handle 8).fn (h.handle 8).idx) = some mo) := by
  refine ⟨?_, ?_, ?_⟩ <;> ((try unfold State.Taken); decide +kernel)

/-- The record of a SEALED swatch of 256 tokens. -/
def sealedSwatch : Swatch := ⟨1, 0, false, 256, 0, 0, 0, 0, 256, none⟩

/-- `serving` with function 0 free to allot, the SWATCH tensor 6 beside the token tensor. -/
def weaving : State :=
  let s := awake (holding [{ (tensor 0 6 .near .swatch 3 1024 0xA000) with kspec := 0 }] { serving with serve := ServeState.reset })
  let s : State := { s with tier := { s.tier with swatches := [(6, sealedSwatch)] } }
  s.setQuota 0 { s.quota 0 with nearLimit := 65536, tensorLimit := 16 }

/-- R247 to R250: a build begins. -/
theorem test_swatchBuild :
  (let s : State := weaving
   let s1 : State := (match s.allocNear 0 0 64 with | .good _ t => t | _ => s)
   let h : Mail := letter 0 (leBytes (Handle.toNat ⟨0, 1, 5⟩) 8 ++ leBytes 0 20 ++ leBytes 1 4 ++ leBytes 0 2)
   let tk : Tensor := tensor 0 5 .near .data 8 2 0x9000
   let loc : Nat := (match s.allocNear 0 0 64 with | .good n _ => n | _ => 0)
   s.Taken h 0x0320 0 42 ∧ h.handleOk 8 = true ∧ h.handle 8 ≠ Handle.none ∧ (h.handle 8).fn = h.fn ∧ h.u 16 8 = 0 ∧
   h.u 24 8 = 0 ∧ h.u 32 4 = 0 ∧ h.u 40 2 < 8 ∧
   let cap := ceilDiv (h.u 36 4) 256
   let slot := h.u 40 2
   1 ≤ cap ∧ cap ≤ 4096 ∧ (s.model slot).state = 2 ∧ s.getF h.fn Reg.GLB_FN_STATE_STATE = 1 ∧
   s.ownTensor (h.handle 8) = .ok tk ∧ tk.format = 8 ∧ 64 * tk.size ≤ 1048576 ∧ 64 * tk.size ≤ 256 * cap ∧
   tk.incomplete = false ∧ s.tableFull h.fn 1 = none ∧ s.serve.seqs.length < 16384 ∧
   s.classServed slot (64 * tk.size) = true ∧
   let p := (s.model slot).params
   let x := s.blankTensor h.fn .swatch 3 (p.layers * (256 * cap) * p.kvLpt)
   s.allocNear h.fn x.keyIndex x.units = .good loc s1 ∧
   (does (.swatchBuild h) s).serve.seqs.length = 1) := by
  unfold State.Taken; decide +kernel

/-- R253, R363: a swatch is released, and its record answered. -/
theorem test_swatchMessages :
  (let s : State := weaving
   let h : Mail := letter 0 (leBytes (Handle.toNat ⟨0, 1, 6⟩) 8)
   let x : Tensor := { (tensor 0 6 .near .swatch 3 1024 0xA000) with kspec := 0 }
   let w : Swatch := sealedSwatch
   s.Taken h 0x0321 0 16 ∧ h.handleOk 8 = true ∧ h.handle 8 ≠ Handle.none ∧ (h.handle 8).fn = h.fn ∧
   s.tensor? (h.handle 8) = some x ∧ Store.get? s.tier.swatches (ttKey h.fn (h.handle 8).idx) = some w ∧ w.pins = 0 ∧
   w.state ≠ 0 ∧ x.moving = false ∧ s.named (ttKey h.fn (h.handle 8).idx) = false ∧
   s.inStep (ttKey h.fn (h.handle 8).idx) = false ∧ does (.swatchRelease h) s = ((s.dropPair x).replied h 0x0321 [])) ∧
  (let s : State := weaving
   let h : Mail := letter 0 (leBytes (Handle.toNat ⟨0, 1, 6⟩) 8)
   let x : Tensor := { (tensor 0 6 .near .swatch 3 1024 0xA000) with kspec := 0 }
   let w : Swatch := sealedSwatch
   s.Taken h 0x0323 0 16 ∧ h.handleOk 8 = true ∧ h.handle 8 ≠ Handle.none ∧ ((h.handle 8).fn = h.fn ∨ h.fn = 0) ∧
   s.tensor? (h.handle 8) = some x ∧ Store.get? s.tier.swatches (ttKey (h.handle 8).fn (h.handle 8).idx) = some w ∧
   does (.swatchQuery h) s = (s.replied h 0x0323 (w.bytes x (h.fn != 0)))) := by
  refine ⟨?_, ?_⟩ <;> ((try unfold State.Taken); decide +kernel)

/-! ### Graphs, templates and scheduling -/

/-- The 256 bytes of a descriptor of function 0: it reads tensor 5 and its code is tensor 6. -/
def descBytes : List Byte :=
  leBytes 1 2 ++ leBytes 3 1 ++ leBytes 1 1 ++ leBytes 0 12 ++ leBytes (Handle.toNat ⟨0, 1, 6⟩) 8 ++ leBytes 0 8 ++
    leBytes (Handle.toNat ⟨0, 1, 5⟩ + 2 ^ 48) 8 ++ leBytes 0 216

/-- A graph of function 0 on model 0 of that one task. -/
def graphBytes : List Byte :=
  leBytes 0x47374E44 4 ++ leBytes 1 2 ++ leBytes 0 10 ++ leBytes 0 8 ++ leBytes 320 4 ++ leBytes 0 36 ++ descBytes

/-- `serving` with tensor 6 an empty code object. -/
def coded : State := awake (holding [tensor 0 6 .near .code 0 1 0x9100] serving)

/-- R49, R520: a graph is handed to the control cores. -/
theorem test_graphSubmit :
  (let s : State := coded
   let h : Mail := letter 0 (leBytes 0 8 ++ leBytes 320 4) graphBytes
   let g : GraphBuf := ((graphBuf graphBytes 320).getD ⟨0, 0, 0, [], []⟩)
   s.Taken h 0x0401 0 20 ∧ h.u 8 8 % 64 = 0 ∧ graphBuf h.buffer (h.u 16 4) = some g ∧ s.graphRefusal h.fn g = none ∧
   g.descs.length = 1) := by
  unfold State.Taken; decide +kernel

/-- R628, R629: so is a graph to build a template from. -/
theorem test_templateBuild :
  (let s : State := coded
   let h : Mail := letter 0 (leBytes 0 8 ++ leBytes 320 4 ++ leBytes 0 2 ++ leBytes 0 1 ++ leBytes 0 1 ++ leBytes 8 4 ++ leBytes 64 4) graphBytes
   let g : GraphBuf := ((graphBuf graphBytes 320).getD ⟨0, 0, 0, [], []⟩)
   s.Taken h 0x0403 0 32 ∧ h.u 8 8 % 64 = 0 ∧ h.fn = 0 ∧
   let b := h.u 22 1
   let tpl := Template.ask (h.u 20 2) (bits b 0 3) (bits b 3 4) (h.u 23 1) (h.u 24 4) (h.u 28 4)
   tpl.bucketOk = true ∧ graphBuf h.buffer (h.u 16 4) = some g ∧ g.fn = 0 ∧ (∀ d ∈ g.descs, d.fn = 0) ∧ g.model = tpl.model ∧
   (∀ d ∈ g.descs, d.badVersion = false ∧ d.badArg = false) ∧ s.unordered g = false ∧
   s.templateConflict tpl.id tpl.model = none ∧ (s.otherTemplates tpl.id).length < 1024) := by
  unfold State.Taken; decide +kernel

/-- R71: a template that nothing uses is retired; the progress is answered. -/
theorem test_templateRetire :
  (let s : State := coded
   let h : Mail := letter 0 (leBytes 3 2)
   s.Taken h 0x0404 0 10 ∧ h.fn = 0 ∧ (∃ t ∈ s.seq.templates, t.id = h.u 8 2) ∧ s.templateUsed (h.u 8 2) = false) ∧
  (let s : State := coded
   let h : Mail := letter 0 []
   s.Taken h 0x0405 0 8 ∧ does (.patternQuery h) s = (s.replied h 0x0405 (s.progress h.fn))) := by
  refine ⟨?_, ?_⟩ <;> ((try unfold State.Taken); decide +kernel)

/-- R292: a window is granted. -/
theorem test_trainWindow :
  (let s : State := coded
   let h : Mail := letter 0 (leBytes 1 8 ++ leBytes 4096 4 ++ leBytes 1024 2)
   s.Taken h 0x0406 1 22 ∧ 1 ≤ h.u 16 4 ∧ h.u 16 4 ≤ 4096 ∧ h.u 20 2 ≤ 1024 ∧ h.fn = 0 ∧ s.stepNo < h.u 8 8 ∧
   let w : Window := ⟨h.u 8 8, h.u 16 4, h.u 16 4, h.u 20 2⟩
   does (.trainWindow h) s = (State.replied { s with seq := { s.seq with windows := s.seq.windows.filter (fun x => x.step != h.u 8 8) ++ [w] } } h 0x0406 [])) := by
  unfold State.Taken; decide +kernel

/-- R52: a build ends. -/
theorem test_buildDone :
  (let s : State := { coded with seq := { coded.seq with builds := [.graph ⟨0, 0x0401, 7, 1, false⟩ ⟨1, 0, 0, 0, false, []⟩] } }
   let o : BuildDoneOp := ⟨0, 0, 5, [], []⟩
   let j : BuildJob := .graph ⟨0, 0x0401, 7, 1, false⟩ ⟨1, 0, 0, 0, false, []⟩
   let rest : List BuildJob := []
   s.seq.builds = j :: rest ∧ s.builderUp = true ∧
   does (.buildDone o) s = (({ s with seq := { s.seq with builds := rest } }.set Reg.SEQ_BUILD_STATUS_BUSY (b2n !rest.isEmpty)).endBuild o j) ∧
   (does (.buildDone o) s).seq.graphs.length = 1) := by
  decide +kernel

/-- R377, R381: shares and a model's parameters are set and answered. -/
theorem test_schedSet :
  (let s : State := owner
   let h : Mail := letter 0 (leBytes 1 2 ++ leBytes 1024 2 ++ leBytes 7 2 ++ [0, 0] ++ leBytes 65536 4 ++ leBytes 4096 2)
   let x : Sched := ⟨h.u 10 2, h.u 12 2, h.u 16 4, h.u 20 2⟩
   s.Taken h 0x0410 0 22 ∧ h.fn = 0 ∧ h.u 8 2 ≤ 1024 ∧ h.u 14 2 = 0 ∧ x.share ≤ 1024 ∧ x.priority ≤ 7 ∧ 64 ≤ x.slice ∧
   x.slice ≤ 65536 ∧ x.slice % 64 = 0 ∧ x.maxSeq ≤ 4096 ∧
   ((s.serve.sched.filter (fun p => p.1 != h.u 8 2)).map (fun p => p.2.share)).foldl (· + ·) 0 + x.share ≤ 1024 ∧
   let a : State := { s with serve := { s.serve with sched := Store.put s.serve.sched (h.u 8 2) x } }
   does (.schedSet h) s = (a.replied h 0x0410 []) ∧ a.sched (h.u 8 2) = x) ∧
  (let s : State := owner
   let h : Mail := letter 1 (leBytes 1 2)
   s.Taken h 0x0411 0 10 ∧ h.u 8 2 ≤ 1024 ∧ (h.u 8 2 = h.fn ∨ h.fn = 0)) ∧
  (let s : State := owner
   let h : Mail := letter 0 (leBytes 7 2 ++ leBytes 8 2 ++ leBytes 11 2 ++ leBytes 64 2 ++ leBytes 1 2)
   let x : ModelSched := ⟨h.u 10 2, h.u 12 2, h.u 14 2, h.u 16 2⟩
   s.Taken h 0x0412 0 18 ∧ h.fn = 0 ∧ h.u 8 2 < 8 ∧ 1 ≤ x.weight ∧ x.weight ≤ 8 ∧ 1 ≤ x.longClass ∧ x.longClass ≤ 11 ∧
   1 ≤ x.longPeriod ∧ x.longPeriod ≤ 64 ∧ 1 ≤ x.longRows ∧
   does (.modelSchedSet h) s = (State.replied { s with serve := { s.serve with models := Store.put s.serve.models (h.u 8 2) x } } h 0x0412 [])) := by
  refine ⟨?_, ?_, ?_⟩ <;> ((try unfold State.Taken); decide +kernel)

/-- R386 to R388: a pre-emption, a resumption, and a sequence's state. -/
theorem test_schedMessages :
  (let s : State := owner
   let h : Mail := letter 0 (leBytes 1 2)
   s.Taken h 0x0413 0 10 ∧ h.fn = 0 ∧ h.u 8 2 ≤ 1024 ∧ s.getF (h.u 8 2) Reg.GLB_FN_STATE_STATE = 1 ∧
   (∀ p ∈ s.serve.preempts, p.fn ≠ h.u 8 2) ∧
   let a := s.returnFetched (h.u 8 2)
   does (.funcPreempt h) s = (State.waiting { a with serve := { a.serve with preempts := a.serve.preempts ++ [⟨h.u 8 2, h.ticket 0x0413⟩] } } h 0x0413)) ∧
  (let s : State := owner.setF 1 Reg.GLB_FN_STATE_STATE 2
   let h : Mail := letter 0 (leBytes 1 2)
   s.Taken h 0x0414 0 10 ∧ h.fn = 0 ∧ h.u 8 2 ≤ 1024 ∧ s.resumeConflict (h.u 8 2) = none ∧
   (∀ q ∈ s.serve.seqs, q.2.fn ≠ h.u 8 2) ∧ s.tier.moves = [] ∧
   (does (.funcResume h) s).getF 1 Reg.GLB_FN_STATE_STATE = 1) ∧
  (let s : State := awake serving
   let h : Mail := letter 0 (leBytes 5 4)
   let q : SeqRec := chat
   s.Taken h 0x0415 0 12 ∧ Store.get? s.serve.seqs (h.u 8 4) = some q ∧ (h.fn = 0 ∨ q.fn = h.fn) ∧
   does (.seqQuery h) s = (s.replied h 0x0415 (leBytes q.phase.code 2 ++ leBytes 0 2 ++ leBytes q.pos 4 ++ leBytes q.lastStep 8))) := by
  refine ⟨?_, ?_, ?_⟩ <;> ((try unfold State.Taken); decide +kernel)

/-! ### Power, thermal control and gauge -/

/-- At rest: nothing runs, nothing sleeps. -/
def resting : State := awake State.reset

/-- Asleep in state `st`. -/
def sleeping (st : Nat) : State := resting.set Reg.PWR_STATE_STATE st

/-- A transition between two states under way, asked for by the PF. -/
def moving (src dst : Nat) (exits : Bool) : State :=
  { (sleeping src) with pwr := { resting.pwr with transition := some ⟨src, dst, some ⟨0, 0x0103, 7, 1, false⟩, exits⟩ } }

/-- R564 to R567, R580: entries to IDLE, REST and STORE, and a wake. -/
theorem test_powerState :
  (let s : State := resting
   let h : Mail := letter 0 (leBytes 1 2)
   s.Taken h 0x0103 0 10 ∧ s.powerManagerUp = true ∧ h.fn = 0 ∧ s.asleep = false ∧ s.pwr.transition = none ∧ h.u 8 2 = 1 ∧
   does (.powerState h) s = (s.replied h 0x0103 (stateReply (s.reg Reg.PWR_STATE_STATE) 0))) ∧
  (let s : State := resting
   let h : Mail := letter 0 (leBytes 2 2)
   s.Taken h 0x0103 0 10 ∧ s.powerManagerUp = true ∧ h.fn = 0 ∧ s.asleep = false ∧ s.pwr.transition = none ∧ 2 ≤ h.u 8 2 ∧
   h.u 8 2 ≤ 4 ∧ s.powerConflict (h.u 8 2) = none ∧ h.u 8 2 ≠ 4 ∧
   does (.powerState h) s = ((s.beginEntry (h.u 8 2) (h.ticket 0x0103)).waiting h 0x0103)) ∧
  (let s : State := resting
   let h : Mail := letter 0 (leBytes 4 2)
   s.Taken h 0x0103 0 10 ∧ s.powerManagerUp = true ∧ h.fn = 0 ∧ s.asleep = false ∧ s.pwr.transition = none ∧ 2 ≤ h.u 8 2 ∧
   h.u 8 2 ≤ 4 ∧ s.powerConflict (h.u 8 2) = none ∧ h.u 8 2 = 4 ∧
   does (.powerState h) s = ((s.beginEntry 4 (h.ticket 0x0103)).waiting h 0x0103).advanceStore) ∧
  (let s : State := sleeping 4
   let h : Mail := letter 0 (leBytes 1 2)
   s.Taken h 0x0103 0 10 ∧ s.powerManagerUp = true ∧ h.fn = 0 ∧ h.u 8 2 = 1 ∧ 2 ≤ s.reg Reg.PWR_STATE_STATE ∧
   s.flag Reg.PWR_STATE_ENTERING = false ∧ s.flag Reg.PWR_STATE_EXITING = false ∧
   let a := s.wake
   does (.powerState h) s = (State.waiting { a with pwr := { a.pwr with wakeTickets := s.pwr.wakeTickets ++ [h.ticket 0x0103] } } h 0x0103)) := by
  refine ⟨?_, ?_, ?_, ?_⟩ <;> ((try unfold State.Taken); decide +kernel)

/-- R556: the slowest level is requested. -/
theorem test_perfLevel :
  (let s : State := resting
   let h : Mail := letter 0 (leBytes 7 2)
   s.Taken h 0x0104 0 10 ∧ s.powerManagerUp = true ∧ h.fn = 0 ∧ h.u 8 2 ≤ 7 ∧
   let a := (s.set Reg.PWR_LEVEL_REQUESTED (h.u 8 2)).levelChanged
   does (.perfLevel h) s = (a.replied h 0x0104 (leBytes (s.reg Reg.PWR_LEVEL_IN_FORCE) 2 ++ leBytes a.capBits 2)) ∧
   a.reg Reg.PWR_LEVEL_REQUESTED = h.u 8 2 ∧ a.reg Reg.PWR_LEVEL_IN_FORCE = s.reg Reg.PWR_LEVEL_IN_FORCE) := by
  unfold State.Taken; decide +kernel

/-- R564, R568: an entry and exits end. -/
theorem test_powerDone :
  (let s : State := moving 0 2 false
   let us : Nat := 9
   let t : Transition := ⟨0, 2, some ⟨0, 0x0103, 7, 1, false⟩, false⟩
   s.pwr.transition = some t ∧ t.exits = false ∧ (s.reg Reg.SEQ_STATUS_STATE = 0 ∨ s.reg Reg.SEQ_STATUS_STATE = 2) ∧
   (t.dst = 4 → s.mod.storeImage.isSome = true ∧ ∀ d ∈ s.sec.defers, d.store = false) ∧
   let a := if t.dst = 4 then s.powerDown else s
   let a := ({ a with pwr := { a.pwr with transition := none } }.set Reg.PWR_STATE_STATE t.dst).set Reg.PWR_STATE_ENTERING 0
   let a := t.ticket.elim a (fun k => a.reply k .ok (stateReply t.dst us))
   does (.powerStateEntryDone us) s = (a.stateDone t.src t.dst a.pwr.wake).bounce) ∧
  (let s : State := { (moving 0 4 false) with mod := { resting.mod with storeImage := some ⟨[], [], [], []⟩ } }
   let us : Nat := 9
   let t : Transition := ⟨0, 4, some ⟨0, 0x0103, 7, 1, false⟩, false⟩
   s.pwr.transition = some t ∧ t.exits = false ∧ (s.reg Reg.SEQ_STATUS_STATE = 0 ∨ s.reg Reg.SEQ_STATUS_STATE = 2) ∧
   (t.dst = 4 → s.mod.storeImage.isSome = true ∧ ∀ d ∈ s.sec.defers, d.store = false) ∧
   let a := if t.dst = 4 then s.powerDown else s
   let a := ({ a with pwr := { a.pwr with transition := none } }.set Reg.PWR_STATE_STATE t.dst).set Reg.PWR_STATE_ENTERING 0
   let a := t.ticket.elim a (fun k => a.reply k .ok (stateReply t.dst us))
   does (.powerStateEntryDone us) s = (a.stateDone t.src t.dst a.pwr.wake).bounce) ∧
  (let s : State := moving 2 1 true
   let us : Nat := 9
   let t : Transition := ⟨2, 1, some ⟨0, 0x0103, 7, 1, false⟩, true⟩
   s.pwr.transition = some t ∧ t.exits = true ∧
   let a := (({ s with pwr := { s.pwr with transition := none, wakeTickets := [] } }).set Reg.PWR_STATE_STATE 1).set
     Reg.PWR_STATE_EXITING 0
   let done (b : State) : State :=
     s.pwr.wakeTickets.foldl (fun (s : State) k => s.reply k .ok (stateReply 1 us)) (b.stateDone t.src 1 false)
   t.src ≠ 3 ∧ t.src ≠ 4 ∧ does (.powerStateExitDone us) s = (done a)) ∧
  (let s : State := moving 4 1 true
   let us : Nat := 9
   let t : Transition := ⟨4, 1, some ⟨0, 0x0103, 7, 1, false⟩, true⟩
   s.pwr.transition = some t ∧ t.exits = true ∧
   let a := (({ s with pwr := { s.pwr with transition := none, wakeTickets := [] } }).set Reg.PWR_STATE_STATE 1).set
     Reg.PWR_STATE_EXITING 0
   let done (b : State) : State :=
     s.pwr.wakeTickets.foldl (fun (s : State) k => s.reply k .ok (stateReply 1 us)) (b.stateDone t.src 1 false)
   t.src = 4 ∧ does (.powerStateExitDone us) s = (done a.storeExit)) ∧
  (let s : State := up [3] (moving 3 1 true)
   let us : Nat := 9
   let t : Transition := ⟨3, 1, some ⟨0, 0x0103, 7, 1, false⟩, true⟩
   s.pwr.transition = some t ∧ t.exits = true ∧
   let a := (({ s with pwr := { s.pwr with transition := none, wakeTickets := [] } }).set Reg.PWR_STATE_STATE 1).set
     Reg.PWR_STATE_EXITING 0
   let done (b : State) : State :=
     s.pwr.wakeTickets.foldl (fun (s : State) k => s.reply k .ok (stateReply 1 us)) (b.stateDone t.src 1 false)
   t.src = 3 ∧ s.pwr.wakeTickets = [] ∧
   let u := does (.powerStateExitDone us) s
   u.reg Reg.PWR_STATE_STATE = 1 ∧ u.reg Reg.PWR_STATE_EXITING = 0 ∧
   (∀ l ∈ List.range 16, s.linkUp l = true → u.linkSt l = 4) ∧
   (∀ l ∈ List.range 16, s.linkUp l = false → u.linkSt l = s.linkSt l) ∧ u.tier = s.tier ∧ u.data = s.data ∧
   u.linkSt 3 = 4) := by
  refine ⟨?_, ?_, ?_, ?_, ?_⟩ <;> (decide +kernel)

/-- R567: frames wake from REST, the bank and throttling from PARK. -/
theorem test_wake :
  (let s : State := up [15] (sleeping 2)
   let l : Nat := 15
   s.linkUp l = true ∧ does (.wakeEvent (.frame l)) s = (s.wakeFrom 2)) ∧
  (let s : State := sleeping 3
   let deepest : Nat := 3
   s.pwr.transition = none ∧ 2 ≤ s.reg Reg.PWR_STATE_STATE ∧ s.reg Reg.PWR_STATE_STATE ≤ deepest ∧
   s.flag Reg.PWR_STATE_ENTERING = false ∧ s.flag Reg.PWR_STATE_EXITING = false ∧
   (s.wakeFrom deepest).pwr.transition = some ⟨s.reg Reg.PWR_STATE_STATE, 1, none, true⟩ ∧
   (s.wakeFrom deepest).reg Reg.PWR_STATE_EXITING = 1) := by
  refine ⟨?_, ?_⟩ <;> (decide +kernel)

/-- R558, R559, R582: the limit's demand, and the skip cap. -/
theorem test_skipping :
  (let s : State := { resting with pwr := { resting.pwr with limit := 8 } }
   let w : Nat := resting.reg Reg.PWR_LIMIT_LIMIT_W + 1
   s.reg Reg.PWR_LIMIT_LIMIT_W < w ∧
   let t := does (.powerLimitAverage w) s
   t.pwr = { s.pwr with limit := min 8 (s.pwr.limit + 1) } ∧
   (s.pwr.limit = 0 → t.reg Reg.PWR_SKIP_EVENTS_LIMIT = min (s.reg Reg.PWR_SKIP_EVENTS_LIMIT + 1) 65535 ∧ t.reg Reg.PWR_ERR_LIMIT_SKIP = 1) ∧
   (s.pwr.limit ≠ 0 → t.regs = s.regs)) ∧
  (let s : State := resting
   let w : Nat := resting.reg Reg.PWR_LIMIT_LIMIT_W + 1
   s.reg Reg.PWR_LIMIT_LIMIT_W < w ∧
   let t := does (.powerLimitAverage w) s
   t.pwr = { s.pwr with limit := min 8 (s.pwr.limit + 1) } ∧
   (s.pwr.limit = 0 → t.reg Reg.PWR_SKIP_EVENTS_LIMIT = min (s.reg Reg.PWR_SKIP_EVENTS_LIMIT + 1) 65535 ∧ t.reg Reg.PWR_ERR_LIMIT_SKIP = 1) ∧
   (s.pwr.limit ≠ 0 → t.regs = s.regs)) ∧
  (let s : State := { resting with pwr := { resting.pwr with limit := 8 } }
   let w : Nat := resting.reg Reg.PWR_LIMIT_LIMIT_W
   w ≤ s.reg Reg.PWR_LIMIT_LIMIT_W ∧
   does (.powerLimitAverage w) s = (if 100 * w < 97 * s.reg Reg.PWR_LIMIT_LIMIT_W then { s with pwr := { s.pwr with limit := s.pwr.limit - 1 } } else s)) ∧
  (let s : State := resting
   let skipped : Nat := 100
   let pulses : Nat := 100
   s.reg Reg.SEQ_ROW_CFG_MARGIN * pulses < 256 * skipped ∧
   let t := does (.sustainedSkipCheck skipped pulses) s
   t.pwr.skipCap = min 7 ((if s.pwr.skipCap = 0 then s.reg Reg.PWR_LEVEL_IN_FORCE else s.pwr.skipCap) + 1) ∧
   t.reg Reg.PWR_ERR_SUSTAINED_SKIP = 1) ∧
  (let s : State := { resting with pwr := { resting.pwr with skipCap := 3 } }
   let skipped : Nat := 0
   let pulses : Nat := 1000
   512 * skipped < s.reg Reg.SEQ_ROW_CFG_MARGIN * pulses ∧
   let t := does (.skipCapLift skipped pulses) s
   t.pwr.skipCap = s.pwr.skipCap - 1) := by
  refine ⟨?_, ?_, ?_, ?_, ?_⟩ <;> (decide +kernel)

/-- R571 to R573, R581: throttling of each group, the caps, critical action, a trip and a failed sensor. -/
theorem test_thermal :
  (let s : State := resting
   let sensor : Nat := 47
   let temp : Nat := 2047
   sensor < 57 ∧ sensor ∉ s.pwr.excluded ∧
   let a := s.readTemps [(sensor, temp)]
   let f := if sensor < 48 then Reg.THM_STATUS_DIE_THROTTLE
     else if sensor < 56 then Reg.THM_STATUS_HBM_THROTTLE else Reg.THM_STATUS_FLASH_THROTTLE
   a.throttleLimit sensor < a.heat sensor ∧ a.flag f = false ∧
   let t := does (.thermalThrottle sensor temp) s
   t.reg f = 1 ∧ t.reg Reg.THM_ERR_THROTTLE = 1) ∧
  (let s : State := resting
   let sensor : Nat := 48
   let temp : Nat := 2047
   sensor < 57 ∧ sensor ∉ s.pwr.excluded ∧
   let a := s.readTemps [(sensor, temp)]
   let f := if sensor < 48 then Reg.THM_STATUS_DIE_THROTTLE
     else if sensor < 56 then Reg.THM_STATUS_HBM_THROTTLE else Reg.THM_STATUS_FLASH_THROTTLE
   a.throttleLimit sensor < a.heat sensor ∧ a.flag f = false ∧
   let t := does (.thermalThrottle sensor temp) s
   t.reg f = 1 ∧ t.reg Reg.THM_ERR_THROTTLE = 1) ∧
  (let s : State := resting
   let sensor : Nat := 56
   let temp : Nat := 2047
   sensor < 57 ∧ sensor ∉ s.pwr.excluded ∧
   let a := s.readTemps [(sensor, temp)]
   let f := if sensor < 48 then Reg.THM_STATUS_DIE_THROTTLE
     else if sensor < 56 then Reg.THM_STATUS_HBM_THROTTLE else Reg.THM_STATUS_FLASH_THROTTLE
   a.throttleLimit sensor < a.heat sensor ∧ a.flag f = false ∧
   let t := does (.thermalThrottle sensor temp) s
   t.reg f = 1 ∧ t.reg Reg.THM_ERR_THROTTLE = 1) ∧
  (let s : State := { resting with pwr := { resting.pwr with thermalCap := 7, temps := [(0, 2047)] } }
   s.showThermal.pwr.thermalCap ≠ 0 ∧
   let a := s.showThermal
   let l := a.sensors 0 56
   (∃ n ∈ l, a.throttleLimit n < a.heat n) ∧
   let t := does .thermalCapStep s
   t.pwr.thermalCap = min 7 (a.pwr.thermalCap + 1)) ∧
  (let s : State := { resting with pwr := { resting.pwr with thermalCap := 7, temps := [(0, 1)] } }
   s.showThermal.pwr.thermalCap ≠ 0 ∧
   let a := s.showThermal
   let l := a.sensors 0 56
   (∀ n ∈ l, a.heat n + 40 ≤ a.throttleLimit n) ∧
   let t := does .thermalCapStep s
   t.pwr.thermalCap = a.pwr.thermalCap - 1) ∧
  (let s : State := resting
   let sensor : Nat := 47
   let temp : Nat := 840
   sensor < 48 ∧ sensor ∉ s.pwr.excluded ∧
   let a := s.readTemps [(sensor, temp)]
   840 ≤ a.heat sensor ∧ a.pwr.critical = false ∧
   let t := does (.thermalCritical sensor temp) s
   t.pwr.critical = true ∧ t.reg Reg.THM_STATUS_CRITICAL = 1 ∧ t.reg Reg.THM_ERR_CRITICAL = 1) ∧
  (let s : State := resting
   let sensor : Nat := 57
   let temp : Nat := 880
   sensor < 58 ∧ sensor ∉ s.pwr.excluded ∧ s.mod.off = false ∧
   let a := s.readTemps [(sensor, temp)]
   tripLimit sensor ≤ a.heat sensor ∧
   let t := does (.thermalTrip sensor temp) s
   t.reg Reg.THM_STATUS_TRIPPED = 1 ∧ t.mod.lockedOff = true) ∧
  (let s : State := resting
   let sensor : Nat := 59
   sensor < 60 ∧ sensor ∉ s.pwr.excluded ∧
   let t := does (.sensorFail sensor) s
   t.pwr.excluded = sensor :: s.pwr.excluded ∧ t.reg Reg.THM_ERR_SENSOR_FAIL = 1) := by
  refine ⟨?_, ?_, ?_, ?_, ?_, ?_, ?_, ?_⟩ <;> (decide +kernel)

/-- R574 to R577, R582: records in and out of range, the end of a re-gauge, and the energy of a sample. -/
theorem test_gauge :
  (let s : State := resting
   let o : RegaugeOp := ⟨⟨3, 7, 3, 0, 0, 5⟩, true⟩
   o.rcd.kind < 4 ∧ o.rcd.cls < 4 ∧ o.inRange = true ∧
   let t := does (.regaugeOp o) s
   t.mod = { s.mod with gaugeChanged := true } ∧ o.rcd ∈ t.pwr.gauge ∧
   (∀ g ∈ t.pwr.gauge, g.kind = o.rcd.kind → g.obj = o.rcd.obj → g.cls = o.rcd.cls → g = o.rcd) ∧ t.data = s.data ∧
   t.tier = s.tier) ∧
  (let s : State := resting
   let o : RegaugeOp := ⟨⟨3, 7, 3, 0, 0, 5⟩, false⟩
   o.rcd.kind < 4 ∧ o.rcd.cls < 4 ∧ o.inRange = false ∧
   let t := does (.regaugeOp o) s
   t.pwr.gauge = s.pwr.gauge ∧ t.reg Reg.PWR_ERR_GAUGE_FAIL = 1) ∧
  (let s : State := { resting with pwr := { resting.pwr with regauge := some 2, gaugeCap := 5, gauge := [⟨1, 0, 2, 0, 0, 5⟩, ⟨2, 0, 2, 0, 0, 5⟩, ⟨3, 0, 2, 0, 0, 5⟩] } }
   let ms : Nat := 3
   let c : Nat := 2
   s.pwr.regauge = some c ∧ s.gaugeStale c true = [] ∧
   let t := does (.gaugeDone ms) s
   t.pwr.gaugeCap = 0 ∧ t.pwr.regauge = none ∧ t.reg Reg.PWR_LEVEL_GAUGE_CAP = 0 ∧ t.reg Reg.PWR_GAUGE_REGAUGING = 0 ∧
   t.pwr.gauge = s.pwr.gauge) ∧
  (let s : State := sets [(Reg.PWR_ENERGY_LO_MJ_LO, 2 ^ 32 - 1)] resting
   let o : SampleOp := ⟨700, [], [], 5, 1, 0⟩
   let t := does (.stitchMarkerSample o) s
   t.reg Reg.PWR_DRAW_INPUT_W = o.draw % 2 ^ 11 ∧
   t.reg Reg.PWR_ENERGY_LO_MJ_LO + 2 ^ 32 * t.reg Reg.PWR_ENERGY_HI_MJ_HI = (s.reg Reg.PWR_ENERGY_LO_MJ_LO + 2 ^ 32 * s.reg Reg.PWR_ENERGY_HI_MJ_HI + o.energy) % 2 ^ 64) := by
  refine ⟨?_, ?_, ?_, ?_⟩ <;> (decide +kernel)

/-! ### Cast-on, bind-off, the host link and the module -/

/-- OFF, the module ready to be cast on. -/
def dark : State := { State.reset with mod := { State.reset.mod with off := true } }

/-- In cast-on with some steps done. -/
def casting (l : List Nat) : State := (sets [(Reg.GLB_STATUS_READY, 0)] { State.reset with mod := { State.reset.mod with steps := l } })

/-- R584, R594: cast-on starts, and its steps end in their turn. -/
theorem test_castOn :
  (let s : State := dark
   let o : CastOp := ⟨[true, true, true, true], [], 5⟩
   s.mod.off = true ∧ s.mod.lockedOff = false ∧ (∀ k, k < 4 → Store.getD s.fw.banks k 2 ≠ 4) ∧
   (∀ k, k < 4 → o.activeOk.getD k false = true) ∧
   let t := does (.castOn o) s
   t.mod.off = false ∧ t.mod.steps = [1, 2, 3] ∧ t.mod.straps = o.straps % 8 ∧ t.reg Reg.GLB_STATUS_READY = 0 ∧
   t.reg Reg.GLB_CASTON_STEP = 4 ∧ t.reg Reg.SEC_STATUS_BOOT_OK = 1 ∧ t.data = DataPath.reset ∧ t.seq = SeqState.reset ∧
   t.serve = ServeState.reset ∧ t.fab = FabState.reset ∧ t.tier.near = []) ∧
  (let s : State := casting [1, 2, 3]
   let gauge : List GaugeRec := []
   s.casting [3] 5 = true) ∧
  (let s : State := casting [1, 2, 3]
   s.casting [3] 6 = true) ∧
  (let s : State := casting [1, 2, 3, 5, 6]
   let o : SelftestOp := ⟨0, []⟩
   s.casting [5, 6] 7 = true ∧ o.bits % 2 ^ 29 = 0 ∧
   let t := does (.selftestDone o) s
   t.reg Reg.GLB_CASTON_SELFTEST_PASS = 1 ∧ t.reg Reg.RNG_KAT_PASS = 1 ∧ t.mod.steps = s.mod.steps ++ [7] ∧ t.tier = s.tier ∧
   t.data = s.data) ∧
  (let s : State := casting [1, 2, 3, 5, 6]
   let o : SelftestOp := ⟨2 ^ 28, []⟩
   s.casting [5, 6] 7 = true ∧ o.bits % 2 ^ 29 ≠ 0 ∧
   let t := does (.selftestDone o) s
   t.reg Reg.GLB_STATUS_RECOVERY = 1 ∧ t.reg Reg.GLB_STATUS_READY = 1 ∧ t.reg Reg.GLB_CASTON_STEP = 7 ∧ t.mod.steps = [] ∧
   t.tier = s.tier) ∧
  (let s : State := casting [1, 2, 3, 5, 6]
   s.casting [6] 8 = true ∧
   let t := does .directoryRebuilt s
   t.mod.steps = s.mod.steps ++ [8] ∧ Store.get? t.mod.heldExt 0 = none ∧ t.tier.near = s.tier.near ∧
   t.tier.deep = s.tier.deep ∧ t.data = s.data) ∧
  (let s : State := { (casting [1, 2, 3, 5, 6, 7, 8]) with mod := { (casting [1, 2, 3, 5, 6, 7, 8]).mod with storeImage := some ⟨[], [], [], []⟩ } }
   let i : StoreImage := ⟨[], [], [], []⟩
   s.mod.storeImage = some i ∧ s.casting [7, 8] 9 = true ∧
   let new := i.tensors.filter (fun (t : Tensor) => (s.entry t.key).isNone)
   let q := s.quota 0
   let a := new.foldl State.putTensor (s.setQuota 0 { q with tensorUsed := q.tensorUsed + new.length })
   does .storeImageReload s = ((a.set Reg.GLB_CASTON_STORE_IMAGE 1).storeExit.showSpace.stepEnds 9)) ∧
  (let s : State := casting [1, 2, 3, 5, 6, 7, 8]
   let ms : Nat := 65535
   s.casting [5, 6, 7, 8] 15 = true ∧ (s.mod.storeImage.isSome = true → 9 ∈ s.mod.steps) ∧ ms < 65536 ∧
   let t := does (.castonDone ms) s
   t.reg Reg.GLB_STATUS_READY = 1 ∧ t.reg Reg.GLB_CASTON_STEP = 15 ∧ t.reg Reg.GLB_CASTON_MS_MS = ms ∧
   t.mod = { s.mod with steps := [] } ∧ t.tier = s.tier ∧ t.data = s.data) ∧
  (let s : State := casting [1, 2, 3]
   let step : Nat := 15
   step < 16 ∧ (s.castFail step).reg Reg.GLB_STATUS_READY = 1 ∧ (s.castFail step).reg Reg.GLB_STATUS_RECOVERY = 1 ∧
   (s.castFail step).reg Reg.GLB_CASTON_STEP = step) := by
  refine ⟨?_, ?_, ?_, ?_, ?_, ?_, ?_, ?_, ?_⟩ <;> (decide +kernel)

/-- R589 to R591, R601: the settings applied, and the copy that a write replaces (R590's example: A 41, B 40). -/
theorem test_retained :
  (let s : State := { State.reset with mod := { State.reset.mod with copyA := some ⟨41, [(0x10003C, 9)], []⟩, winner := 0 } }
   s.mod.off = false ∧ s.reg Reg.GLB_STATUS_READY ≠ 0 ∧ s.reg Reg.GLB_STATUS_RECOVERY ≠ 1 ∧ s.reg Reg.GLB_CASTON_APPLIED ≠ 1 ∧
   let a := (s.chosen.elim [] (·.regs)).foldl (fun (s : State) (r : Nat × Nat) => s.applyOne r.1 r.2) s
   let a : State := { a with mod := { a.mod with writeDue := s.mod.writeDue, hostWrote := s.mod.hostWrote } }
   does .retainedApply s = ((a.set Reg.GLB_CASTON_APPLIED 1).logRetained 1)) ∧
  (let s : State := State.reset
   s.mod.off = false ∧ s.reg Reg.GLB_STATUS_READY ≠ 0 ∧ s.reg Reg.GLB_STATUS_RECOVERY ≠ 1 ∧ s.reg Reg.GLB_CASTON_APPLIED ≠ 1 ∧
   s.chosen = none ∧
   let t := does .retainedApply s
   t.reg Reg.GLB_CASTON_APPLIED = 1 ∧ t.pwr = s.pwr ∧ t.out = s.out) ∧
  (let s : State := { State.reset with mod := { State.reset.mod with writeDue := true } }
   let failed : Bool := false
   s.mod.off = false ∧ (s.mod.writeDue = true ∨ s.mod.gaugeChanged = true) ∧
   does (.retainedWrite failed) s = (s.writeRetained failed).bindAdvance) ∧
  (let s : State := State.reset
   s.mod.bindOff = none ∧ (s.writeRetained false).bindAdvance = s.writeRetained false) ∧
  (let s : State := { State.reset with mod := { State.reset.mod with copyA := some ⟨41, [], []⟩, copyB := some ⟨40, [], []⟩, winner := 0 } }
   let c : RetCopy := ⟨s.nextRetSeq, s.retainedRegs, s.pwr.gauge⟩
   let t := s.writeRetained false
   (s.nextCopy = true → t.mod.copyB = some c ∧ t.mod.copyA = s.mod.copyA) ∧
   (s.nextCopy = false → t.mod.copyA = some c ∧ t.mod.copyB = s.mod.copyB) ∧ t.mod.writeDue = false ∧
   t.reg Reg.GLB_RETAIN_CTL_WRITE_DONE = 1 ∧
   (t.mod.copyB.map (·.seq)) = some 42 ∧ s.nextCopy = true) := by
  refine ⟨?_, ?_, ?_, ?_, ?_⟩ <;> (decide +kernel)

/-- R525, R526, R598: a bind-off begins, and one that is done answers again. -/
theorem test_bindOff :
  (let s : State := resting.set Reg.GLB_CASTON_MODE 2
   let h : Mail := letter 0 (leBytes 1 4)
   s.Taken h 0x0105 0 12 ∧ h.u 8 4 < 2 ∧ h.fn = 0 ∧ s.reg Reg.GLB_CASTON_MODE = 2 ∧ s.mod.bindOff = none ∧
   does (.bindOff h) s = (s.replied h 0x0105 (leBytes 0 8))) ∧
  (let s : State := resting
   let h : Mail := letter 0 (leBytes 1 4)
   s.Taken h 0x0105 0 12 ∧ h.u 8 4 < 2 ∧ h.fn = 0 ∧ s.reg Reg.GLB_CASTON_MODE = 0 ∧ s.pwr.transition = none ∧
   s.bindConflict = none ∧
   does (.bindOff h) s = ((s.bindBegin (h.ticket 0x0105) (bit (h.u 8 4) 0)).waiting h 0x0105).bindAdvance) := by
  refine ⟨?_, ?_⟩ <;> ((try unfold State.Taken); decide +kernel)

/-- R451, R597, R609: the bank's state, and the loss of input power. -/
theorem test_holdup :
  (let s : State := resting
   s.flag Reg.GLB_HOLDUP_BANK_FAULT = false ∧
   does .holdupReadySet s = ((s.set Reg.GLB_STATUS_HOLDUP_READY 1).set Reg.MOV_STATUS_HOLDUP_READY 1)) ∧
  (let s : State := sets [(Reg.GLB_STATUS_HOLDUP_READY, 1)] resting
   s.reg Reg.GLB_STATUS_HOLDUP_READY ≠ 0 ∧ (∀ x ∈ s.tier.tt, x.2.dirty = false) ∧
   s.holdupLost.reg Reg.GLB_STATUS_HOLDUP_READY = 0 ∧ s.holdupLost.reg Reg.MOV_STATUS_HOLDUP_READY = 0 ∧
   s.holdupLost.reg Reg.GLB_HOST_ERR_HOLDUP_LOST = 1) ∧
  (let s : State := resting
   let mj : Nat := 1499
   let a := s.set Reg.GLB_HOLDUP_ENERGY_MJ (mj % 65536)
   mj < 1500 ∧ does (.bankCheck mj) s = (a.set Reg.GLB_HOLDUP_BANK_FAULT 1).holdupLost) ∧
  (let s : State := resting
   let mj : Nat := 1500
   let a := s.set Reg.GLB_HOLDUP_ENERGY_MJ (mj % 65536)
   1500 ≤ mj ∧ does (.bankCheck mj) s = (if s.mod.steps = [] then a else a.set Reg.GLB_HOLDUP_BANK_FAULT 0)) ∧
  (let s : State := dark
   s.mod.off = true ∧ does .powerFail s = { s with mod := { s.mod with lockedOff := false } }) ∧
  (let s : State := resting
   s.mod.off = false ∧ does .powerFail s = (s.powerOff true true)) := by
  refine ⟨?_, ?_, ?_, ?_, ?_, ?_⟩ <;> (decide +kernel)

/-- The first 64 KiB of the near tier from the staging base on are open to the host. -/
def staging : State := { resting with tier := { resting.tier with regions := [(0, ⟨0, 0, 1, false⟩)], near := [(7, 5)] } }

/-- R7, R488, R524: resets and the link. -/
theorem test_hostLink :
  (let s : State := resting
   let fn : Nat := 1024
   fn ≤ 1024 ∧ Store.get? s.sec.resets fn = none ∧ does (.flr fn) s = (s.resetFn fn 1 none)) ∧
  (let s : State := resting
   let fn : Nat := 0
   let st : Nat := 3
   st < 4 ∧
   let t := s.resetWindow fn st
   t.getF fn Reg.GLB_FN_STATE_STATE = st ∧ t.tier = s.tier ∧ t.data = s.data ∧ t.serve = s.serve) ∧
  (let s : State := resting
   let gen : Nat := 6
   let width : Nat := 16
   let flit : Bool := true
   s.mod.refclkOk = true ∧ 4 ≤ gen ∧ gen ≤ 6 ∧ (width = 4 ∨ width = 8 ∨ width = 16) ∧
   let t := does (.hostLinkUp gen width flit) s
   t.reg Reg.GLB_STATUS_LINK_GEN = gen ∧ t.reg Reg.GLB_STATUS_LINK_WIDTH = width ∧ t.reg Reg.GLB_STATUS_FLIT = b2n flit ∧
   t.pwr = s.pwr ∧ t.out = s.out) := by
  refine ⟨?_, ?_, ?_⟩ <;> (decide +kernel)

/-- R461, R500: a read and a write at the edge of the window. -/
theorem test_bar4 :
  (let s : State := staging
   let o : BarOp := ⟨false, 4, [], 8⟩
   let a := s.reg Reg.GLB_STAGE_BASE_LO_BASE_LO * 2 ^ 20 + s.reg Reg.GLB_STAGE_BASE_HI_BASE_HI * 2 ^ 32 + o.off
   o.isWrite = false ∧ o.off + o.count ≤ 2 ^ 20 ∧
   let t := does (.bar4Access o) s
   t.out.bar = s.out.bar ++ [(List.range o.count).map (fun i => if s.openFrame ((a + i) / 65536) then Memory.read s.tier.near (a + i) else 0)] ∧
   t.tier = s.tier ∧ t.data = s.data ∧
   ((∀ i, i < o.count → s.openFrame ((a + i) / 65536) = true) → t.regs = s.regs ∧ t.tink = s.tink) ∧
   t.out.bar = [[0, 0, 0, 5, 0, 0, 0, 0]]) ∧
  (let s : State := staging
   let o : BarOp := ⟨true, 65535, [1, 2], 0⟩
   let a := s.reg Reg.GLB_STAGE_BASE_LO_BASE_LO * 2 ^ 20 + s.reg Reg.GLB_STAGE_BASE_HI_BASE_HI * 2 ^ 32 + o.off
   o.isWrite = true ∧ o.off + o.data.length ≤ 2 ^ 20 ∧
   let t := does (.bar4Access o) s
   t.data = s.data ∧ t.tier.tt = s.tier.tt ∧
   ((∀ i, i < o.data.length → s.openFrame ((a + i) / 65536) = true) → t.regs = s.regs ∧ t.tink = s.tink)) := by
  refine ⟨?_, ?_⟩ <;> (decide +kernel)

/-- R511, R515: a SEND while BUSY, an unlisted type, and a wait that times out. -/
theorem test_doorbell :
  (let s : State := resting.set Reg.MBX_STATUS_BUSY 1
   let h : Mail := letter 0 []
   let type : Nat := 0x0101
   s.getF h.fn Reg.MBX_STATUS_BUSY = 1 ∧ does (.mbxDoorbell h type) s = (s.fnErr h.fn Reg.GLB_FN_ERR_MBX_DOORBELL)) ∧
  (let s : State := resting
   let h : Mail := letter 0 []
   let type : Nat := 0xFFFF
   s.Taken h type 0 h.payload.length ∧ listedTypes.contains type = false ∧
   does (.mbxDoorbell h type) s = (s.pageReply (h.ticket type) .badArg false [])) ∧
  (let s : State := resting
   let h : Mail := letter 0 []
   let type : Nat := 0x0401
   s.Taken h type 0 h.payload.length ∧ does (.queueWaitTimeout h type) s = (s.pageReply (h.ticket type) .busyRetry false [])) ∧
  (let s : State := resting
   let h : Mail := letter 0 []
   s.Taken h 0x0101 0 8) ∧
  (let s : State := resting
   let h : Mail := letter 0 (leBytes 0x02082801 4)
   s.Taken h 0x0102 0 12 ∧ h.fn = 0 ∧ rowCfgOk (h.u 8 4) = true ∧ bits (h.u 8 4) 5 3 = 0 ∧ bits (h.u 8 4) 28 4 = 0 ∧
   s.seqAtRest = true ∧ does (.rowConfig h) s = ((s.setRowCfg (h.u 8 4)).replied h 0x0102 [])) := by
  refine ⟨?_, ?_, ?_, ?_, ?_⟩ <;> ((try unfold State.Taken); decide +kernel)

/-- R607 to R621: rails, the clock, a stack, the couplings and alerts. -/
theorem test_module :
  (let s : State := resting
   let rail : Nat := 8
   s.mod.off = false ∧ 8 ≤ rail ∧ rail < 20 ∧
   let a := ((s.set Reg.TEL_STATUS_RAILS_OK 0).moduleFault 0xFF).powerOff (railFlush rail) (railWrite rail)
   does (.railFault rail) s = { a with mod := { a.mod with lockedOff := true } }) ∧
  (let s : State := resting
   s.mod.off = false ∧ s.mod.refclkOk = true) ∧
  (let s : State := resting
   let stack : Nat := 7
   s.mod.off = false ∧ stack < 8 ∧ does (.failedHbmStack stack) s = (s.moduleFault 0xFF)) ∧
  (let s : State := resting
   s.mod.off = false ∧
   let t := does .couplingOpen s
   t.reg Reg.TEL_STATUS_COUPLED = 0 ∧ t.reg Reg.TEL_ALERT_COUPLING_OPEN = 1 ∧ t.pwr.openCap = true ∧ 7 ≤ t.thermalCap ∧
   t.out = s.out) ∧
  (let s : State := resting
   let below : Bool := true
   let vin : Nat := 65535
   vin < 65536 ∧
   let t := does (.underV below vin) s
   t.reg Reg.TEL_INPUT_VIN = vin ∧ t.reg Reg.TEL_STATUS_UNDER_V = b2n below ∧
   (below = true → t.reg Reg.TEL_ALERT_UNDER_V = 1)) ∧
  (let s : State := resting
   let vin : Nat := 5401
   vin < 65536 ∧
   let t := does (.overV vin) s
   t.reg Reg.TEL_INPUT_VIN = vin ∧ (5400 < vin → t.reg Reg.TEL_ALERT_OVER_V = 1)) := by
  refine ⟨?_, ?_, ?_, ?_, ?_, ?_⟩ <;> (decide +kernel)

/-! ### The fabric and the seam links -/

/-- Link 15 is UP. -/
def wired : State := up [15] resting

/-- That state after a frame of `n` payload lines has arrived on link 15. -/
def heard (n : Nat) (s : State) (degraded : Bool := false) : State := (s.arriveFrame 15 n degraded).getD s

/-- Link 15 in a state of its own. -/
def linkIn (st : Nat) : State := resting.setF (linkFn 15) Reg.LNK_STATE_STATE st

/-- R399, R401, R403, R413, R422: roles and the messages of a link. -/
theorem test_fabric :
  (let s : State := resting
   let h : Mail := letter 0 (leBytes 5 2 ++ leBytes 2047 2 ++ leBytes 2 2 ++ leBytes 8 2 ++ leBytes 15 2 ++ leBytes 1000 2)
   s.Taken h 0x0501 0 20 ∧ h.fn = 0 ∧ h.u 10 2 < 2048 ∧ (∀ l, l < 16 → s.linkUp l = false) ∧
   let role := h.u 12 2
   let rin := h.u 14 2
   let rout := h.u 16 2
   let floor := h.u 18 2
   ((role = 0 ∧ rin = 0xFFFF ∧ rout = 0xFFFF) ∨ (role = 1 ∧ rin = 0xFFFF ∧ (rout < 16 ∨ rout = 0xFFFF) ∧ 50 ≤ floor ∧ floor ≤ 1000) ∨ (role = 2 ∧ rin < 16 ∧ (rout = 0xFFFF ∨ (rout < 16 ∧ rin / 8 = rout / 8 ∧ rin ≠ rout)) ∧ 50 ≤ floor ∧ floor ≤ 1000)) ∧
   let a := ((s.set Reg.LNK_FABRIC_FABRIC_ID (h.u 8 2)).set Reg.LNK_FABRIC_MODULE_ID (h.u 10 2)).set Reg.LNK_FABRIC_ROLE role
   let a : State := { a with fab := { a.fab with rosterIn := linkField rin, rosterOut := linkField rout, floorW := if role = 0 then a.fab.floorW else floor } }
   does (.fabricJoin h) s = (a.replied h 0x0501 []) ∧ a.reg Reg.LNK_FABRIC_ROLE = role ∧
   a.reg Reg.LNK_FABRIC_MODULE_ID = h.u 10 2) ∧
  (let s : State := resting.set Reg.LNK_FABRIC_ROLE 1
   let h : Mail := letter 0 []
   s.Taken h 0x0502 0 8 ∧ h.fn = 0 ∧ (∀ t ∈ s.seq.templates, ∀ l, l < 16 → t.namesLink l = false) ∧
   let a : State := { s.set Reg.LNK_FABRIC_ROLE 0 with fab := { s.fab with rosterIn := none, rosterOut := none } }
   does (.fabricLeave h) s = (a.replied h 0x0502 [])) ∧
  (let s : State := linkIn 5
   let h : Mail := letter 0 (leBytes 15 2 ++ leBytes 2047 2 ++ leBytes 0 20 ++ leBytes 77 32)
   s.Taken h 0x0503 0 64 ∧ h.fn = 0 ∧ h.u 8 2 < 16 ∧ h.u 10 2 < 2048 ∧ h.u 12 20 = 0 ∧
   (s.linkSt (h.u 8 2) = 0 ∨ s.linkSt (h.u 8 2) = 5) ∧
   (does (.linkAttach h) s).linkSt 15 = 1) ∧
  (let s : State := wired
   let h : Mail := letter 0 (leBytes 15 2)
   s.Taken h 0x0504 0 10 ∧ h.fn = 0 ∧ h.u 8 2 < 16 ∧ s.linkInUse (h.u 8 2) = false ∧
   does (.linkDetach h) s = ((s.detach (h.u 8 2)).replied h 0x0504 [])) ∧
  (let s : State := wired
   let h : Mail := letter 0 (leBytes 15 2)
   s.Taken h 0x0505 0 10 ∧ h.fn = 0 ∧ h.u 8 2 < 16) ∧
  (let s : State := wired
   let h : Mail := letter 0 (leBytes 15 2)
   s.Taken h 0x0506 0 10 ∧ h.fn = 0 ∧ h.u 8 2 < 16 ∧ s.linkUp (h.u 8 2) = true ∧
   does (.linkRekey h) s = ((s.rekey (h.u 8 2)).replied h 0x0506 [])) ∧
  (let s : State := wired
   let h : Mail := letter 0 (leBytes 1 4 ++ leBytes 15 2)
   s.Taken h 0x0507 0 (12 + 2 * h.u 8 4) ∧ h.fn = 0 ∧ 1 ≤ h.u 8 4 ∧ h.u 8 4 ≤ 16 ∧ s.reg Reg.SEQ_STATUS_STATE ≠ 1 ∧
   let links := (List.range (h.u 8 4)).map (fun i => h.u (12 + 2 * i) 2)
   (∀ l ∈ links, l < 16) ∧
   (does (.fabricResync h) s).link 15 = LinkCtl.empty) := by
  refine ⟨?_, ?_, ?_, ?_, ?_, ?_, ?_⟩ <;> ((try unfold State.Taken); decide +kernel)

/-- R415: a map is written and deleted. -/
theorem test_fabricSeqMap :
  (let s : State := { (resting.set Reg.LNK_FABRIC_ROLE 2) with fab := { resting.fab with maps := [⟨0, 5, ⟨0, 1, 4⟩, Handle.none, []⟩] } }
   let h : Mail := letter 0 (leBytes 0 4 ++ leBytes 5 4 ++ leBytes (Handle.toNat ⟨0, 1, 4⟩) 8 ++ leBytes 0 8 ++ leBytes 0 4 ++ leBytes 1 4)
   let n := h.u 32 4
   let sw := (List.range n).map (fun i => h.handle (40 + 8 * i))
   let p := if n = 0 then 36 else 40 + 8 * n
   let x : StageMap := ⟨h.fn, h.u 12 4, h.handle 16, h.handle 24, sw⟩
   let rest := s.fab.maps.filter (fun y => y.fn != h.fn || y.seqId != h.u 12 4)
   s.Taken h 0x0508 0 (p + 4) ∧ h.u 8 2 = h.fn ∧ h.fn ≤ 1024 ∧ h.u 10 2 = 0 ∧ n ≤ 8 ∧ h.handleOk 16 = true ∧
   h.handleOk 24 = true ∧ (∀ i, i < n → h.handleOk (40 + 8 * i) = true) ∧ s.reg Reg.LNK_FABRIC_ROLE = 2 ∧ h.u p 4 = 1 ∧
   does (.fabricSeqMap h) s = (State.replied { s with fab := { s.fab with maps := rest } } h 0x0508 [])) ∧
  (let s : State := awake ((holding [{ (tensor 0 4 .near .kv 3 2048 0x2000) with kspec := 16 }] resting).set Reg.LNK_FABRIC_ROLE 2)
   let h : Mail := letter 0 (leBytes 0 4 ++ leBytes 5 4 ++ leBytes (Handle.toNat ⟨0, 1, 4⟩) 8 ++ leBytes 0 8 ++ leBytes 0 4 ++ leBytes 0 4)
   let n := h.u 32 4
   let sw := (List.range n).map (fun i => h.handle (40 + 8 * i))
   let p := if n = 0 then 36 else 40 + 8 * n
   let x : StageMap := ⟨h.fn, h.u 12 4, h.handle 16, h.handle 24, sw⟩
   let rest := s.fab.maps.filter (fun y => y.fn != h.fn || y.seqId != h.u 12 4)
   s.Taken h 0x0508 0 (p + 4) ∧ h.u 8 2 = h.fn ∧ h.fn ≤ 1024 ∧ h.u 10 2 = 0 ∧ n ≤ 8 ∧ h.handleOk 16 = true ∧
   h.handleOk 24 = true ∧ (∀ i, i < n → h.handleOk (40 + 8 * i) = true) ∧ s.reg Reg.LNK_FABRIC_ROLE = 2 ∧ h.u p 4 = 0 ∧
   s.mapRefusal h.fn .kv x.kv = none ∧ (x.motif ≠ Handle.none → s.mapRefusal h.fn .motif x.motif = none) ∧
   (∀ w ∈ sw, s.mapRefusal h.fn .swatch w = none) ∧
   does (.fabricSeqMap h) s = (State.replied { s with fab := { s.fab with maps := rest ++ [x] } } h 0x0508 [])) := by
  refine ⟨?_, ?_⟩ <;> ((try unfold State.Taken); decide +kernel)

/-- R391, R424: a frame on an UP link, and on one that is not. -/
theorem test_arrive :
  (let s : State := wired
   let l : Nat := 15
   let n : Nat := 8
   let onDegraded : Bool := false
   s.linkUp l = true ∧ (onDegraded = true ∨ s.getF (linkFn l) Reg.LNK_STATE_FULL = 1) ∧ s.reg Reg.PWR_STATE_STATE ≠ 2 ∧
   (s.arriveFrame 15 8 false).isSome = true) ∧
  (let s : State := resting
   let l : Nat := 15
   let n : Nat := 8
   let onDegraded : Bool := false
   s.linkUp l = false ∧ s.arriveFrame l n onDegraded = none) := by
  refine ⟨?_, ?_⟩ <;> (decide +kernel)

/-- R100, R102, R394, R409: items, a commit, a discard and tokens. -/
theorem test_items :
  (let s : State := wired
   let a : State := heard 8 wired
   let o : ItemOp := ⟨15, 9, 1, 0, 0, 8, [1, 2, 3, 4, 5, 6, 7, 8]⟩
   s.arriveFrame o.link o.lines.length false = some a ∧ 1 ≤ o.lines.length ∧ o.lines.length ≤ 8 ∧
   o.first + o.lines.length ≤ o.total ∧ o.first = 0 ∧
   (∀ i ∈ a.data.staging, ¬(i.link = o.link ∧ i.ctag = o.ctag ∧ i.seq = o.seq)) ∧
   does (.itemFrame o) s = (State.showStaging { a with data := { a.data with staging := a.data.staging ++ [Staged.mk o.link o.ctag o.seq o.cls o.total o.lines false 0] } } o.link)) ∧
  (let s : State := { wired with data := { wired.data with staging := [⟨15, 9, 1, 0, 3, [1, 2], false, 0⟩] } }
   let a : State := heard 1 { wired with data := { wired.data with staging := [⟨15, 9, 1, 0, 3, [1, 2], false, 0⟩] } }
   let o : ItemOp := ⟨15, 9, 1, 0, 2, 3, [7]⟩
   let i := ⟨15, 9, 1, 0, 3, [1, 2], false, 0⟩
   s.arriveFrame o.link o.lines.length false = some a ∧ 1 ≤ o.lines.length ∧ o.lines.length ≤ 8 ∧
   o.first + o.lines.length ≤ o.total ∧
   a.data.staging.find? (fun i => i.link == o.link && i.ctag == o.ctag && i.seq == o.seq) = some i ∧ i.total = o.total ∧
   i.cls = o.cls ∧ o.first = i.lines.length ∧
   does (.itemFrame o) s = (State.showStaging { a with data := { a.data with staging := a.data.staging.map (fun (x : Staged) => if x.link == o.link && x.ctag == o.ctag && x.seq == o.seq then { x with lines := x.lines ++ o.lines } else x) } } o.link)) ∧
  (let s : State := wired
   let a : State := heard 0 wired
   let o : TagOp := ⟨15, 9⟩
   s.arriveFrame o.link 0 false = some a ∧
   does (.commitFrame o) s = { a with data := { a.data with staging := a.data.staging.map (fun (x : Staged) => if x.link = o.link ∧ x.ctag = o.ctag then { x with committed := true } else x) } }) ∧
  (let s : State := { wired with data := { wired.data with staging := [⟨15, 9, 1, 0, 1, [1], false, 0⟩] } }
   let a : State := heard 0 { wired with data := { wired.data with staging := [⟨15, 9, 1, 0, 1, [1], false, 0⟩] } }
   let o : TagOp := ⟨15, 9⟩
   s.arriveFrame o.link 0 false = some a ∧
   let t := does (.discard o) s
   t.data.staging = a.data.staging.filter (fun i => i.link != o.link || i.ctag != o.ctag) ∧ t.tier = s.tier ∧ t.seq = s.seq) ∧
  (let s : State := wired
   let a : State := heard 0 wired
   let o : TokenOp := ⟨15, 0, 3⟩
   s.arriveFrame o.link 0 false = some a ∧ o.ordinal = (a.link o.link).ordRx ∧
   let c := a.link o.link
   let b := a.setLink o.link { c with ordRx := (c.ordRx + 1) % 2 ^ 48, tokens := c.tokens + 1 }
   does (.rowDone o) s = b ∧ does (.rowFault o) s = (b.faultResponse 0 2)) := by
  refine ⟨?_, ?_, ?_, ?_, ?_⟩ <;> (decide +kernel)

/-- A STAGE whose rosters come in on link 15, serving as `serving` does. -/
def stage : State :=
  let s := up [15] (awake (serving.set Reg.LNK_FABRIC_ROLE 2))
  { s with fab := { s.fab with rosterIn := some 15 } }

/-- R414, R415: a roster fills its buffer. -/
theorem test_rosterFrame :
  (let s : State := stage
   let a : State := heard 1 stage
   let o : RosterFrameOp := ⟨15, 8, 64, 0, chatRoster.bytes⟩
   s.arriveFrame o.link (ceilDiv (32 + o.bytes.length) 256) false = some a ∧ a.reg Reg.LNK_FABRIC_ROLE = 2 ∧
   a.fab.rosterIn = some o.link ∧ a.fab.rosterOut = none ∧
   let r := Roster.ofBytes o.bytes
   let busy := a.reg Reg.SEQ_ROSTER_READY_READY ||| a.reg Reg.SEQ_ROSTER_LOCK_LOCK
   let k := if bit busy (2 * r.model) then 2 * r.model + 1 else 2 * r.model
   let mapped := (a.stageTemplate r.model o.seqCap o.tokCap o.ctxClass).bind (a.mapRoster r)
   let bytes := mapped.elim o.bytes Roster.bytes
   r.model < 8 ∧
   (does (.rosterFrame o) s).reg Reg.SEQ_ROSTER_READY_READY = 1) := by
  decide +kernel

/-- A lent hank on link 15 with the two lines of a tensor of the neighbour. -/
def lending : State :=
  { wired with tier := { wired.tier with near := [(0x100000, 5)], lent := [(0, ⟨15, 0x1000, [(63, ⟨0, 2, 3, 4, 5⟩)], none⟩)] } }

/-- R140, R355, R356: reads of a lent hank and of a borrowed tensor, and the directory. -/
theorem test_bread :
  (let s : State := lending
   let a : State := heard 0 lending
   let o : BreadReqOp := ⟨15, 8, 3, 4, 5, 0, 0, 2⟩
   let x : LentHank := ⟨15, 0x1000, [(63, ⟨0, 2, 3, 4, 5⟩)], none⟩
   s.arriveFrame o.link 0 false = some a ∧ Store.get? a.tier.lent o.hank = some x ∧ x.link = o.link ∧
   (∃ e ∈ x.extents, e.2.fn = o.fn ∧ e.2.idx = o.idx ∧ e.2.gen = o.gen ∧ e.2.first ≤ o.first ∧ o.first + o.count ≤ e.2.first + e.2.count) ∧
   does (.breadReq o) s = (a.send o.link (.breadCpl o.tag false ((range (x.base + o.first) o.count).map a.nearLine)))) ∧
  (let s : State := { lending with tier := { lending.tier with lent := [(0, ⟨15, 0x1000, [], none⟩)] } }
   let a : State := heard 0 { lending with tier := { lending.tier with lent := [(0, ⟨15, 0x1000, [], none⟩)] } }
   let o : BreadReqOp := ⟨15, 8, 3, 4, 5, 0, 0, 2⟩
   let x : LentHank := ⟨15, 0x1000, [], none⟩
   s.arriveFrame o.link 0 false = some a ∧ Store.get? a.tier.lent o.hank = some x ∧ x.link = o.link ∧ x.extents = [] ∧
   does (.breadReq o) s = ((a.inc Reg.MOV_STALE_SERVED_SERVED 1).send o.link (.breadCpl o.tag true []))) ∧
  (let s : State := { busy with data := { busy.data with fetches := [⟨1, 7, 0, 1, 8, ⟨0, 1, 3⟩, 0, 2, 0, 0, 0⟩], pendLines := [(8, 1), (9, 1)] } }
   let o : BreadCplOp := ⟨1, false, [5, 6], 0, false⟩
   let r : FetchReq := ⟨1, 7, 0, 1, 8, ⟨0, 1, 3⟩, 0, 2, 0, 0, 0⟩
   s.data.fetches.find? (fun q => q.id == o.tag) = some r ∧ o.ecc = false ∧ o.stale = false ∧
   (does (.breadCpl o) s).line 9 = 6) ∧
  (let s : State := lending
   let a : State := heard 1 lending
   let o : HankDirOp := ⟨15, 0, 0, true, ⟨4, 2, 3, 4, 5⟩⟩
   let x : LentHank := ⟨15, 0x1000, [(63, ⟨0, 2, 3, 4, 5⟩)], none⟩
   s.arriveFrame o.link 1 false = some a ∧ Store.get? a.tier.lent o.hank = some x ∧ x.link = o.link ∧ o.extent < 64 ∧
   o.entry.first + o.entry.count ≤ 2 ^ 22 ∧ o.valid = true ∧
   let t := does (.hankDir (.arrives o)) s
   Store.get? t.tier.lent o.hank = some { x with extents := Store.put x.extents o.extent o.entry } ∧
   t.tier.near = s.tier.near ∧ t.tier.tt = s.tier.tt) ∧
  (let s : State := lending
   let a : State := heard 1 lending
   let o : HankDirOp := ⟨15, 0, 63, false, ⟨0, 0, 0, 0, 0⟩⟩
   let x : LentHank := ⟨15, 0x1000, [(63, ⟨0, 2, 3, 4, 5⟩)], none⟩
   let e := ⟨0, 2, 3, 4, 5⟩
   s.arriveFrame o.link 1 false = some a ∧ Store.get? a.tier.lent o.hank = some x ∧ x.link = o.link ∧ o.extent < 64 ∧
   o.entry.first + o.entry.count ≤ 2 ^ 22 ∧ o.valid = false ∧ Store.get? x.extents o.extent = some e ∧
   let t := does (.hankDir (.arrives o)) s
   Store.get? t.tier.lent o.hank = some { x with extents := Store.erase x.extents o.extent } ∧
   t.tier.near = []) := by
  refine ⟨?_, ?_, ?_, ?_, ?_⟩ <;> (decide +kernel)

/-- R355: the Tier Manager places a tensor in a borrowed hank. -/
theorem test_hankPlaces :
  (let t : Tensor := { (tensor 0 3 .near .data 0 2 0x1000) with readOnly := true }
   let s0 := up [3] (lifed.putTensor t)
   let s : State := { s0 with tier := { s0.tier with borrowed := [(512 * 3 + 5, ⟨3, 5, [], none⟩)] } }
   let s1 : State := ((s.takeExtent 3 5 t).map (·.2)).getD s
   let h : Handle := ⟨0, 1, 3⟩
   let x : BorrowedHank := ⟨3, 5, [], none⟩
   let link : Nat := 3
   let hank : Nat := 5
   let e : Nat := ((s.takeExtent 3 5 t).map (·.1)).getD 0
   s.tensor? h = some t ∧ Store.get? s.tier.borrowed (512 * link + hank) = some x ∧ s.linkUp link = true ∧ x.recallAt = none ∧
   s.moveRefusal t.fn true (MoveDesc.reloc t .borrowed) = none ∧ s.pair t = [t] ∧ t.dirty = false ∧
   (s.quota t.fn).borrowUsed + t.units ≤ (s.quota t.fn).borrowLimit ∧ s.takeExtent link hank t = some (e, s1) ∧
   let q := s.quota t.fn
   does (.hankDir (.places h link hank)) s = ((s1.setQuota t.fn { q with borrowUsed := q.borrowUsed + t.units }).beginMove (Move.new t.fn .evict (MoveDesc.reloc t .borrowed) [⟨if t.tier = .near then .near else .deep, t.loc, .borrowed, e, t.size⟩] [e] false))) := by
  decide +kernel

/-- Slot 7 of `source` is LOADING from a stream of one shard of 16 lines that comes in on link 15. -/
def relayed (opened : Bool) (r : Relay → Relay) : State :=
  let p : ModelParams := { ModelParams.empty with layers := 2, kvLpt := 2, rankLimit := 256, shards := 1 }
  let s := up [15, 14] (holding [{ (tensor 0 6 .near .base 1 16 0x9100) with incomplete := true }] source)
  { s with
    tier := { s.tier with models := [(7, ⟨1, p, 0, [6], some ⟨0, 0x0302, 7, 1, false⟩, none⟩)] }
    fab := { s.fab with relays := [r ⟨4, 7, some 15, none, 1, [(16, 0)], 0, 0, false, .ok, opened, none⟩] } }

/-- R418: a stream that a load expects is accepted and passed on. -/
theorem test_bulkOpen :
  (let s : State := relayed false (fun r => { r with linkOut := some 14 })
   let a : State := heard 1 s true
   let o : BulkOpenOp := ⟨15, 4, 7, [(16, 0)], 9⟩
   let r : Relay := ⟨4, 7, some 15, some 14, 1, [(16, 0)], 0, 0, false, .ok, false, none⟩
   s.arriveFrame o.link 1 true = some a ∧
   a.fab.relays.find? (fun r => r.linkIn == some o.link && r.slot == o.slot && !r.opened) = some r ∧ r.sizes = o.sizes ∧
   let b := (a.setRelay r { r with stream := o.stream, opened := true, expected := o.digest }).send o.link (.bulkAccept o.stream)
   does (.bulkOpen o) s = (r.linkOut.elim b (fun l => b.send l (.bulkOpen o.stream o.slot o.sizes o.digest)))) := by
  decide +kernel

/-- R420: what a sender hears. -/
theorem test_bulkOut :
  (let s : State := relayed true (fun r => { r with linkIn := some 14, linkOut := some 15 })
   let a : State := heard 0 s true
   let o : BulkCtlOp := ⟨15, 4, 0, .denied, 0⟩
   let r : Relay := ⟨4, 7, some 14, some 15, 1, [(16, 0)], 0, 0, false, .ok, true, none⟩
   s.arriveFrame o.link 0 true = some a ∧ a.relayOut o.link o.stream = some r ∧
   does (.bulkRefuse o) s = (a.setRelay r { r with accepted := false, outStatus := o.status })) ∧
  (let s : State := relayed true (fun r => { r with linkIn := some 14, linkOut := some 15 })
   let a : State := heard 0 s true
   let o : BulkCtlOp := ⟨15, 4, 0, .ok, 0⟩
   let r : Relay := ⟨4, 7, some 14, some 15, 1, [(16, 0)], 0, 0, false, .ok, true, none⟩
   s.arriveFrame o.link 0 true = some a ∧ a.relayOut o.link o.stream = some r) ∧
  (let s : State := relayed true (fun r => { r with linkIn := some 14, linkOut := some 15 })
   let a : State := heard 0 s true
   let o : BulkCtlOp := ⟨15, 4, 0, .ok, 0⟩
   let r : Relay := ⟨4, 7, some 14, some 15, 1, [(16, 0)], 0, 0, false, .ok, true, none⟩
   s.arriveFrame o.link 0 true = some a ∧ a.relayOut o.link o.stream = some r) := by
  refine ⟨?_, ?_, ?_⟩ <;> (decide +kernel)

/-- R109, R418, R419, R421: granules, the close, and a stream that stops. -/
theorem test_bulkIn :
  (let s : State := relayed true id
   let a : State := heard 1 s true
   let o : BulkCtlOp := ⟨15, 4, 0, .ok, 9⟩
   let r : Relay := ⟨4, 7, some 15, none, 1, [(16, 0)], 0, 0, false, .ok, true, none⟩
   s.arriveFrame o.link 1 true = some a ∧ a.relayIn o.link o.stream = some r ∧ (a.model r.slot).state = 1) ∧
  (let s : State := relayed true id
   let a : State := heard 8 s true
   let o : BulkOp := ⟨15, 4, 0, 0, [1, 2, 3, 4, 5, 6, 7, 8]⟩
   let r : Relay := ⟨4, 7, some 15, none, 1, [(16, 0)], 0, 0, false, .ok, true, none⟩
   s.arriveFrame o.link o.lines.length true = some a ∧ a.relayIn o.link o.stream = some r ∧ r.linkOut = none ∧
   (a.model r.slot).state = 1 ∧ o.granule = r.granules ∧
   let places := a.relayPlaces (a.model r.slot)
   let lines := (places.map (·.2)).foldl (· + ·) 0
   4096 * o.granule + o.first + o.lines.length ≤ lines ∧
   let b := o.lines.zipIdx.foldl (fun (s : State) (p : LineData × Nat) =>
     (placeOf places (4096 * o.granule + o.first + p.2)).elim s (fun x => s.writeNear x [p.1])) a
   o.first + o.lines.length < min 4096 (lines - 4096 * o.granule)) ∧
  (let s : State := relayed true id
   let a : State := heard 8 s true
   let o : BulkOp := ⟨15, 4, 0, 8, [1, 2, 3, 4, 5, 6, 7, 8]⟩
   let r : Relay := ⟨4, 7, some 15, none, 1, [(16, 0)], 0, 0, false, .ok, true, none⟩
   s.arriveFrame o.link o.lines.length true = some a ∧ a.relayIn o.link o.stream = some r ∧ r.linkOut = none ∧
   (a.model r.slot).state = 1 ∧ o.granule = r.granules ∧
   let places := a.relayPlaces (a.model r.slot)
   let lines := (places.map (·.2)).foldl (· + ·) 0
   4096 * o.granule + o.first + o.lines.length ≤ lines ∧
   let b := o.lines.zipIdx.foldl (fun (s : State) (p : LineData × Nat) =>
     (placeOf places (4096 * o.granule + o.first + p.2)).elim s (fun x => s.writeNear x [p.1])) a
   min 4096 (lines - 4096 * o.granule) ≤ o.first + o.lines.length) ∧
  (let s : State := { wired with fab := { wired.fab with longs := [⟨15, none, ⟨0, 1, 3⟩, Handle.none, 0, 1⟩] } }
   let a : State := heard 1 s true
   let o : BulkOp := ⟨15, 0, 0, 0, [5]⟩
   let r : LongRecv := ⟨15, none, ⟨0, 1, 3⟩, Handle.none, 0, 1⟩
   s.arriveFrame o.link o.lines.length true = some a ∧ a.relayIn o.link o.stream = none ∧
   a.fab.longs.find? (fun r => r.link == o.link) = some r ∧ does (.bulkFrame o) s = (a.landLong r o)) ∧
  (let s : State := relayed true id
   let slot : Nat := 7
   let r : Relay := ⟨4, 7, some 15, none, 1, [(16, 0)], 0, 0, false, .ok, true, none⟩
   s.fab.relays.find? (fun r => r.slot == slot && r.linkIn.isSome && r.opened) = some r ∧ (s.model slot).state = 1 ∧
   does (.relayTimeout slot) s = (s.failRelay r .faulted)) := by
  refine ⟨?_, ?_, ?_, ?_, ?_⟩ <;> (decide +kernel)

/-- R396, R399, R400: keys flip, failed tags and replays are counted, a re-key runs or is late. -/
theorem test_keys :
  (let s : State := wired.setLink 15 { LinkCtl.empty with ownReady := true, newKeys := true }
   let a : State := heard 0 s true
   let l : Nat := 15
   s.arriveFrame l 0 true = some a ∧ (a.link l).ownReady = true ∧ does (.keyReady l) s = (a.flipKeys l)) ∧
  (let s : State := wired
   let a : State := heard 0 s true
   let l : Nat := 15
   s.arriveFrame l 0 true = some a ∧ (a.link l).ownReady = false ∧
   let c := a.link l
   does (.keyReady l) s = (a.setLink l { c with peerReady := true })) ∧
  (let s : State := wired.setF (linkFn 15) Reg.LNK_STATE_KEY_PHASE 1
   let l : Nat := 15
   s.getF (linkFn l) Reg.LNK_STATE_KEY_PHASE < 2 ∧
   let t := s.flipKeys l
   t.getF (linkFn l) Reg.LNK_STATE_KEY_PHASE = 1 - s.getF (linkFn l) Reg.LNK_STATE_KEY_PHASE ∧ (t.link l).frames = 0 ∧
   (t.link l).oldKeys = true ∧
   t.getF (linkFn l) Reg.LNK_REKEYS_REKEYS = (s.getF (linkFn l) Reg.LNK_REKEYS_REKEYS + 1) % 2 ^ 32 ∧ t.data = s.data) ∧
  (let s : State := wired
   let o : ChannelErrOp := ⟨15, 3, 2⟩
   s.linkUp o.link = true ∧
   let t := does (.channelError o) s
   t.getF (linkFn o.link) Reg.LNK_REPLAY_REPLAYS = (s.getF (linkFn o.link) Reg.LNK_REPLAY_REPLAYS + o.replays) % 2 ^ 32 ∧
   t.getF (linkFn o.link) Reg.LNK_FEC_CE_CE = (s.getF (linkFn o.link) Reg.LNK_FEC_CE_CE + o.corrected) % 2 ^ 32 ∧
   (t.link o.link).frames = (s.link o.link).frames + o.replays ∧ t.data = s.data ∧ t.tier = s.tier ∧ t.seq = s.seq) ∧
  (let s : State := wired
   let o : AuthFailOp := ⟨15, 7, 15⟩
   s.linkUp o.link = true ∧
   let a := s.setF (linkFn o.link) Reg.LNK_AUTH_FAIL_FAILS (s.getF (linkFn o.link) Reg.LNK_AUTH_FAIL_FAILS + 1)
   o.recent < 16 ∧ does (.authFail o) s = a) ∧
  (let s : State := wired
   let o : AuthFailOp := ⟨15, 7, 16⟩
   s.linkUp o.link = true ∧
   let a := s.setF (linkFn o.link) Reg.LNK_AUTH_FAIL_FAILS (s.getF (linkFn o.link) Reg.LNK_AUTH_FAIL_FAILS + 1)
   16 ≤ o.recent ∧
   does (.authFail o) s = (((a.linkErr o.link Reg.LNK_ERR_AUTH_BURST).tinkLog 0x0703 noFn (leBytes o.link 1 ++ leBytes 0 7 ++ leBytes o.counter 8)).goDown o.link 3 true)) ∧
  (let s : State := wired.setLink 15 { LinkCtl.empty with frames := 2 ^ 41 - 1 }
   let o : RekeyOp := ⟨15, false⟩
   s.linkUp o.link = true ∧ o.late = false ∧ (s.link o.link).frames < 2 ^ 41 ∧ does (.rekeyDue o) s = (s.rekey o.link)) ∧
  (let s : State := wired.setLink 15 { LinkCtl.empty with frames := 2 ^ 41 }
   let o : RekeyOp := ⟨15, false⟩
   s.linkUp o.link = true ∧ (o.late = true ∨ 2 ^ 41 ≤ (s.link o.link).frames) ∧
   does (.rekeyDue o) s = ((s.linkErr o.link Reg.LNK_ERR_REKEY_LATE).goDown o.link 4 false)) := by
  refine ⟨?_, ?_, ?_, ?_, ?_, ?_, ?_, ?_⟩ <;> (decide +kernel)

/-- R401, R402, R404: a link through its states. -/
theorem test_links_states :
  (let s : State := wired
   let l : Nat := 15
   s.linkUp l = true ∧
   let a := (s.setF (linkFn l) Reg.LNK_STATE_STATE 4).showUp
   let a := a.setF (linkFn l) Reg.LNK_RETRAINS_RETRAINS (a.getF (linkFn l) Reg.LNK_RETRAINS_RETRAINS + 1)
   let c := a.link l
   does (.linkRetrain l) s = ((a.setLink l { c with retrains := 0 }).loseLink l) ∧
   does (.lossOfSignal l) s = (s.goDown l 0 false)) ∧
  (let s : State := linkIn 4
   let o : TrainOp := ⟨15, true, false, true⟩
   s.linkSt o.link = 4 ∧
   let c := s.link o.link
   o.good = true ∧
   does (.linkRetrainDone o) s = ((((s.setF (linkFn o.link) Reg.LNK_STATE_STATE 3).setLink o.link { c with retrains := 0 }).showWidth o.link o.twoLane o.halfRate).checkWidth o.link)) ∧
  (let s : State := (linkIn 4).setLink 15 { LinkCtl.empty with retrains := 2 }
   let o : TrainOp := ⟨15, false, false, false⟩
   s.linkSt o.link = 4 ∧
   let c := s.link o.link
   o.good = false ∧
   does (.linkRetrainDone o) s = (if 2 ≤ c.retrains then s.goDown o.link 1 false else s.setLink o.link { c with retrains := c.retrains + 1 })) ∧
  (let s : State := linkIn 1
   let o : TrainOp := ⟨15, true, true, false⟩
   s.linkSt o.link = 1 ∧
   let c := s.link o.link
   o.good = true ∧
   let t := does (.linkTrained o) s
   t.linkSt o.link = 2 ∧ t.getF (linkFn o.link) Reg.LNK_STATE_FULL = b2n (!o.twoLane && !o.halfRate) ∧
   t.getF (linkFn o.link) Reg.LNK_STATE_TWO_LANE = b2n o.twoLane ∧
   t.getF (linkFn o.link) Reg.LNK_STATE_HALF_RATE = b2n o.halfRate ∧ t.out = s.out) ∧
  (let s : State := (linkIn 1).setLink 15 { LinkCtl.empty with trainFails := 1 }
   let o : TrainOp := ⟨15, false, false, false⟩
   s.linkSt o.link = 1 ∧
   let c := s.link o.link
   o.good = false ∧ c.trainFails < 2 ∧
   does (.linkTrained o) s = (s.setLink o.link { c with trainFails := c.trainFails + 1 })) ∧
  (let s : State := (linkIn 2).setF (linkFn 15) Reg.LNK_STATE_FULL 1
   let o : PairOp := ⟨15, true, 0, 0, 0⟩
   s.linkSt o.link = 2 ∧ o.moduleId < 2048 ∧ o.chains = true ∧ o.keyHash = (s.link o.link).keyHash ∧
   o.fabricId = s.reg Reg.LNK_FABRIC_FABRIC_ID ∧ o.moduleId = s.getF (linkFn o.link) Reg.LNK_CFG_PEER_EXPECT ∧
   s.getF (linkFn o.link) Reg.LNK_STATE_FULL = 1 ∧ s.fab.relays = [] ∧ s.fab.longs = [] ∧
   let t := does (.linkSecured o) s
   t.linkSt o.link = 3 ∧ t.getF (linkFn o.link) Reg.LNK_STATE_PEER_MODULE = o.moduleId ∧ (t.link o.link).gens = 1 ∧
   (t.link o.link).ordTx = 0 ∧ (t.link o.link).ordRx = 0 ∧ t.data = s.data ∧ t.tier = s.tier ∧ t.seq = s.seq) ∧
  (let s : State := linkIn 2
   let o : PairOp := ⟨15, false, 0, 0, 2047⟩
   s.linkSt o.link = 2 ∧ o.moduleId < 2048 ∧ o.chains = false ∧
   does (.linkSecured o) s = (((s.linkErr o.link Reg.LNK_ERR_PEER_MISMATCH).tinkLog 0x0707 noFn (leBytes o.link 1 ++ leBytes 0 1 ++ leBytes o.moduleId 2 ++ leBytes o.fabricId 2)).goDown o.link 5 true)) ∧
  (let s : State := (linkIn 5).setLink 15 { LinkCtl.empty with retries := 2 }
   let l : Nat := 15
   s.linkSt l = 5 ∧ (s.link l).noRetry = false ∧ (s.link l).retries < 3 ∧
   let c := s.link l
   does (.linkRetry l) s = ((s.setF (linkFn l) Reg.LNK_STATE_STATE 1).setLink l { c with retries := c.retries + 1, trainFails := 0 })) := by
  refine ⟨?_, ?_, ?_, ?_, ?_, ?_, ?_, ?_⟩ <;> (decide +kernel)

/-- R411, R412: the Row Beacon locks at its fourth pulse, and is lost. -/
theorem test_beacon :
  (let s : State := { (resting.set Reg.LNK_CTRL_BEACON_IN_EN 1) with fab := { resting.fab with pulses := 3 } }
   let periodNs : Nat := 1000 * (resting.reg Reg.SEQ_ROW_CFG_ROW_LEN + 1) * 201 / 200
   s.flag Reg.LNK_CTRL_BEACON_IN_EN = true ∧
   let nominal := 1000 * (s.reg Reg.SEQ_ROW_CFG_ROW_LEN + 1)
   let near := 200 * (max periodNs nominal - min periodNs nominal) ≤ nominal
   let t := does (.beaconPulse periodNs) s
   (near → t.fab.pulses = s.fab.pulses + 1) ∧ (¬near → t.fab.pulses = 0) ∧
   (near → 3 ≤ s.fab.pulses → t.reg Reg.LNK_BEACON_LOCKED = 1) ∧
   t.reg Reg.LNK_BEACON_CNT_LO_CNT_LO = (s.reg Reg.LNK_BEACON_CNT_LO_CNT_LO + 1) % 2 ^ 32 ∧ t.data = s.data ∧
   t.tier = s.tier ∧
   t.reg Reg.LNK_BEACON_LOCKED = 1) ∧
  (let s : State := resting.set Reg.LNK_BEACON_LOCKED 1
   s.flag Reg.LNK_BEACON_LOCKED = true ∧
   let t := does .beaconLost s
   t.reg Reg.LNK_BEACON_LOCKED = 0 ∧ t.reg Reg.LNK_ERR_BEACON_LOST = 1 ∧ t.fab = { s.fab with pulses := 0 } ∧
   t.data = s.data ∧ t.tier = s.tier) := by
  refine ⟨?_, ?_⟩ <;> (decide +kernel)

/-! ### Twin sets and lifelines -/

/-- Links 0 and 1 UP at full width and rate, the set in a state and role. -/
def twin (st role : Nat) : State :=
  sets [(Reg.TWN_STATE_STATE, st), (Reg.TWN_STATE_ROLE, role), (Reg.TWN_LINKS_TWIN, if st = 0 then 0 else 3)] (up [0, 1] resting)

/-- A TWIN frame of `n` payload lines arrives on link `l` and leaves `b`. -/
def twinHears (s : State) (l n : Nat) (b : State) : Bool :=
  bit (s.reg Reg.TWN_LINKS_TWIN) l && (match s.arriveFrame l n false with
    | some a => b == { a.set Reg.TWN_LINKS_LIVE (setBit (a.reg Reg.TWN_LINKS_LIVE) l) with twin := { a.twin with silent := false } }
    | none => false)

/-- What a TWIN frame of `n` lines on link 1 leaves. -/
def hears (n : Nat) (s : State) : State :=
  match s.arriveFrame 1 n false with
  | some a => { a.set Reg.TWN_LINKS_LIVE (setBit (a.reg Reg.TWN_LINKS_LIVE) 1) with twin := { a.twin with silent := false } }
  | none => s

/-- R425: a set starts to synchronise in the role declared. -/
theorem test_twinDeclare :
  (let s : State := twin 0 0
   let h : Mail := letter 0 (leBytes 2 2 ++ leBytes 2047 2 ++ leBytes 2 4 ++ leBytes 0 2 ++ leBytes 1 2 ++ leBytes 65536 4 ++ leBytes 65535 4 ++ leBytes 1 4)
   let o : PeerOp := ⟨true, true, true, true⟩
   let role := h.u 8 2
   let n := h.u 12 4
   let links := (List.range n).map (fun i => h.u (16 + 2 * i) 2)
   let p := ceilDiv (16 + 2 * n) 4 * 4
   let rows := h.u p 4
   let mib := h.u (p + 4) 4
   s.Taken h 0x0520 0 (p + 12) ∧ h.fn = 0 ∧ (role = 1 ∨ role = 2) ∧ h.u 10 2 < 2048 ∧ 2 ≤ n ∧ n ≤ 8 ∧ (∀ l ∈ links, l < 16) ∧
   links.dedup.length = n ∧ 256 ≤ rows ∧ rows ≤ 65536 ∧ rows % 256 = 0 ∧ 1 ≤ mib ∧ mib < 65536 ∧ h.u (p + 8) 4 ≤ 1 ∧
   h.u (16 + 2 * n) (p - 16 - 2 * n) = 0 ∧ (∀ l ∈ links, s.linkFull l = true ∧ ∀ t ∈ s.seq.templates, t.namesLink l = false) ∧
   s.twn = 0 ∧ s.reg Reg.LNK_FABRIC_ROLE = 0 ∧ o.free = true ∧ o.came = true ∧ o.same = true ∧ o.agrees = true ∧
   s.tenantsKeyed = true ∧ (∀ t ∈ s.seq.templates, s.tooWide t n = false) ∧
   let a := (s.set Reg.TWN_DIGEST_CFG_INTERVAL (rows / 256 - 1)).set Reg.TWN_DIGEST_CFG_SWEEP mib
   does (.twinDeclare h o) s = ((a.startTwin role (h.u 10 2) ((links.map (2 ^ ·)).foldl (· + ·) 0) (bit (h.u (p + 8) 4) 0)).replied h 0x0520 [])) ∧
  (let s : State := { (twin 0 0) with tier := { TierState.reset with ctx := [] } }
   let role : Nat := 1
   let peer : Nat := 2047
   let links : Nat := 3
   let auto : Bool := true
   (role = 1 ∨ role = 2) ∧ peer < 2048 ∧ s.tier.tt = [] ∧ s.tier.ctx = [] ∧
   let t := s.startTwin role peer links auto
   t.reg Reg.TWN_STATE_STATE = 1 ∧ t.reg Reg.TWN_STATE_ROLE = role ∧ t.reg Reg.TWN_STATE_PEER = peer ∧
   t.reg Reg.TWN_MSEQ_SENT_MSEQ = 0 ∧ t.twin = { TwinState.reset with lifelines := s.twin.lifelines }) ∧
  (let s : State := twin 4 1
   let h : Mail := letter 0 []
   s.Taken h 0x0521 0 8 ∧ h.fn = 0 ∧ s.twn ≠ 0 ∧ does (.twinDissolve h) s = (s.dissolve.replied h 0x0521 [])) ∧
  (let s : State := twin 2 2
   s.twin.waiting = [] ∧ s.twin.resync = none ∧ s.dissolve.reg Reg.TWN_STATE_STATE = 0 ∧
   s.dissolve.reg Reg.TWN_STATE_ROLE = 0 ∧ s.dissolve.reg Reg.TWN_LINKS_TWIN = 0 ∧ s.dissolve.tier = s.tier ∧
   s.dissolve.serve = s.serve ∧ s.dissolve.data = s.data) := by
  refine ⟨?_, ?_, ?_, ?_⟩ <;> ((try unfold State.Taken); decide +kernel)

/-- R438, R441: a query, a takeover and a resynchronisation. -/
theorem test_twinTakeover :
  (let s : State := twin 2 1
   let h : Mail := letter 0 []
   s.Taken h 0x0522 0 8 ∧ h.fn = 0) ∧
  (let s : State := { (twin 2 2) with twin := { TwinState.reset with lost := true, silent := true } }
   let h : Mail := letter 0 []
   s.Taken h 0x0523 0 8 ∧ h.fn = 0 ∧ s.twn = 2 ∧ s.isMirror = true ∧ s.twin.lost = true ∧ s.twin.silent = true ∧
   does (.twinTakeover h) s = (s.takeOver.replied h 0x0523 [])) ∧
  (let s : State := twin 2 2
   s.takeOver.reg Reg.SEQ_CTRL_RUN = 1 ∧ (s.tier.ctx = [] → s.takeOver.reg Reg.TWN_STATE_STATE = 3)) ∧
  (let s : State := twin 4 1
   let h : Mail := letter 0 (leBytes 2 2 ++ leBytes 2047 2)
   let o : PeerOp := ⟨true, true, true, true⟩
   s.Taken h 0x0524 0 12 ∧ h.fn = 0 ∧ (h.u 8 2 = 1 ∨ h.u 8 2 = 2) ∧ h.u 10 2 < 2048 ∧
   (s.twn = 3 ∨ (s.twn = 4 ∧ h.u 8 2 = 2) ∨ (s.twn = 5 ∧ s.twin.restored = true)) ∧ o.came = true ∧ o.agrees = true ∧
   o.free = true ∧ (∀ l ∈ setBits s.twinLinks 16, s.linkFull l = true) ∧
   let a := s.startTwin (h.u 8 2) (h.u 10 2) s.twinLinks (s.flag Reg.TWN_STATE_AUTO_TAKEOVER)
   does (.twinResync h o) s = (State.waiting { a with twin := { a.twin with resync := some (h.ticket 0x0524) } } h 0x0524)) := by
  refine ⟨?_, ?_, ?_, ?_⟩ <;> ((try unfold State.Taken); decide +kernel)

/-- The mirror of a set, with tensor 3 in the near tier. -/
def mirror (st : Nat) : State := holding [tensor 0 3 .near .data 0 2 0x1000] (twin st 2)

/-- R428: lines land on the mirror. -/
theorem test_twinWrite :
  (let s : State := mirror 2
   let b : State := hears 2 (mirror 2)
   let o : TwinWriteOp := ⟨1, 9, ⟨0, 1, 3⟩, 0, [5, 6]⟩
   let t : Tensor := tensor 0 3 .near .data 0 2 0x1000
   twinHears s o.link o.lines.length b = true ∧ b.isMirror = true ∧ b.entry (ttKey o.handle.fn o.handle.idx) = some t ∧
   t.tier = .near ∧ o.first + o.lines.length ≤ t.size ∧
   let u := does (.twinWrite o) s
   (range (t.loc + o.first) o.lines.length).map u.nearLine = o.lines ∧
   Store.get? u.tier.tt t.key = some { t with incomplete := true, lastUse := b.row } ∧
   t.key ∈ Store.getD u.twin.staged o.ctag [] ∧ u.data = s.data ∧ u.serve = s.serve) ∧
  (let s : State := mirror 2
   let b : State := hears 0 (mirror 2)
   let o : TwinRecOp := ⟨1, 1, .commit 9 true⟩
   let tag := 9
   let ends := true
   twinHears s o.link 0 b = true ∧ b.isMirror = true ∧ o.body = .commit tag ends) := by
  refine ⟨?_, ?_⟩ <;> (decide +kernel)

/-- R429 to R431: records in their order. -/
theorem test_twinRecords :
  (let s : State := mirror 2
   let b : State := hears 1 (mirror 2)
   let o : TwinRecOp := ⟨1, 1, .ctx 0 [] [] []⟩
   let fn := 0
   let st : List Stream := []
   let l : List (Handle × Nat × Nat) := []
   let hs : List Nat := []
   twinHears s o.link 1 b = true ∧ b.isMirror = true ∧ o.body = .ctx fn st l hs) ∧
  (let s : State := mirror 2
   let b : State := hears 1 (mirror 2)
   let o : TwinRecOp := ⟨1, 1, .table 0 3 none⟩
   let fn := 0
   let idx := 3
   let e : Option Tensor := none
   twinHears s o.link 1 b = true ∧ b.isMirror = true ∧ o.body = .table fn idx e) ∧
  (let s : State := mirror 2
   let b : State := hears 1 (mirror 2)
   let o : TwinRecOp := ⟨1, 1, .roster 0 0 roster []⟩
   let m := 0
   let k := 0
   let r := roster
   let q : List (Nat × SeqRec) := []
   twinHears s o.link 1 b = true ∧ b.isMirror = true ∧ o.body = .roster m k r q) ∧
  (let s : State := mirror 2
   let b : State := hears 1 (mirror 2)
   let o : TwinRecOp := ⟨1, 1, .tokens 5 [1]⟩
   let id := 5
   let l : List Word := [1]
   twinHears s o.link 1 b = true ∧ b.isMirror = true ∧ o.body = .tokens id l) ∧
  (let s : State := mirror 2
   let m : Nat := 1
   let r : TwinRec := .table 0 3 none
   m = (s.reg Reg.TWN_MSEQ_SENT_MSEQ + 1) % 2 ^ 32 ∧ s.twin.later = [] ∧ s.holdsRec r = false ∧
   s.takeRec m r = ((s.applyRec r).set Reg.TWN_MSEQ_SENT_MSEQ m).takePoint) ∧
  (let s : State := mirror 2
   let b : State := hears 0 (mirror 2)
   let o : TwinTagOp := ⟨1, 9, 1⟩
   twinHears s o.link 0 b = true ∧
   does (.twinDiscard o) s = { b with twin := { b.twin with staged := Store.erase b.twin.staged o.ctag } }) := by
  refine ⟨?_, ?_, ?_, ?_, ?_, ?_⟩ <;> (decide +kernel)

/-- R430, R436, R426: an acknowledgement, a heartbeat and a granule of the synchronisation. -/
theorem test_twinAck :
  (let s : State := twin 2 1
   let b : State := hears 0 (twin 2 1)
   let o : TwinAckOp := ⟨1, 1, 65535⟩
   twinHears s o.link 0 b = true ∧ b.isMirror = false ∧ (b.twn = 1 ∨ b.twn = 2) ∧
   let late := decide (b.reg Reg.TWN_ACK_MARK_THRESH < o.waitUs)
   let c := (b.set Reg.TWN_MSEQ_ACK_MSEQ o.mseq).peak Reg.TWN_ACK_PEAK_PEAK_US o.waitUs
   let c := c.sample 0 Reg.TWN_ACK_MARK_STATUS Reg.TWN_ACK_MARK_INT_EN Reg.TWN_ACK_CROSS_CROSSINGS late
   let c := if late then c.tinkLog 0x0802 noFn (leBytes o.mseq 4 ++ leBytes o.waitUs 4) else c
   does (.twinAck o) s = (c.releaseUpTo o.mseq)) ∧
  (let s : State := twin 2 1
   let b : State := hears 0 (twin 2 1)
   let l : Nat := 1
   twinHears s l 0 b = true ∧ does (.twinHeartbeat l) s = b) ∧
  (let s : State := mirror 1
   let b : State := hears 2 (mirror 1)
   let o : TwinSyncOp := ⟨1, 0, ⟨0, 1, 3⟩, [5, 6], true⟩
   let t : Tensor := tensor 0 3 .near .data 0 2 0x1000
   twinHears s o.link o.lines.length b = true ∧ b.isMirror = true ∧ b.twn = 1 ∧
   b.entry (ttKey o.handle.fn o.handle.idx) = some t ∧ b.twin.repair = [] ∧ 4096 * o.granule + o.lines.length ≤ t.size ∧
   let c := b.putCells t.fn t.tier t.loc (256 * (4096 * o.granule)) (256 * o.lines.length) (cellsOf o.lines)
   does (.twinSync o) s = { c with twin := { c.twin with synced := c.twin.synced || o.last, copied := c.twin.copied + 256 * o.lines.length, repair := [] } }) := by
  refine ⟨?_, ?_, ?_⟩ <;> (decide +kernel)

/-- R433 to R435: acknowledgements, heartbeats, digest points and their comparison. -/
theorem test_digests :
  (let s : State := (mirror 2).set Reg.TWN_MSEQ_SENT_MSEQ 1
   s.isMirror = true ∧ (s.twn = 1 ∨ s.twn = 2) ∧ s.heldRecs = [] ∧
   s.reg Reg.TWN_MSEQ_ACK_MSEQ ≠ s.reg Reg.TWN_MSEQ_SENT_MSEQ ∧
   let m := s.reg Reg.TWN_MSEQ_SENT_MSEQ
   does .twinAckSend s = ((s.sendTwin (.twinAck m)).set Reg.TWN_MSEQ_ACK_MSEQ m)) ∧
  (let s : State := twin 1 1
   let live : Nat := 1
   s.twn ≠ 0 ∧
   does (.twinHeartbeatSend live) s = ((s.sendAll s.twinLinks (.twinHeartbeat (s.reg Reg.TWN_MSEQ_SENT_MSEQ) s.row)).set Reg.TWN_LINKS_LIVE (live &&& s.twinLinks))) ∧
  (let s : State := { (twin 2 1) with twin := { TwinState.reset with rows := 65536 } }
   s.isMirror = false ∧ (s.twn = 1 ∨ s.twn = 2) ∧ s.seq.active = false ∧
   256 * (s.reg Reg.TWN_DIGEST_CFG_INTERVAL + 1) ≤ s.twin.rows ∧ s.twin.point = none) ∧
  (let s : State := { (twin 2 1) with twin := { TwinState.reset with rows := 65536, point := some ⟨0, 0, 0, none⟩ } }
   s.isMirror = false ∧ (s.twn = 1 ∨ s.twn = 2) ∧ s.seq.active = false ∧
   256 * (s.reg Reg.TWN_DIGEST_CFG_INTERVAL + 1) ≤ s.twin.rows ∧ s.twin.point.isSome = true ∧ s.twin.late = false ∧
   let t := does .digestPoint s
   t.twin = { s.twin with late := true } ∧ t.reg Reg.TWN_DIGEST_LATE_LATE = (s.reg Reg.TWN_DIGEST_LATE_LATE + 1) % 2 ^ 32 ∧
   t.out = s.out) ∧
  (let s : State := { (twin 2 1) with twin := { TwinState.reset with point := some ⟨0, 0, 0, some 9⟩ } }
   let p : DigestPoint := ⟨0, 0, 0, some 9⟩
   let d : BitVec 256 := 9
   s.twin.point = some p ∧ p.value = some d ∧ s.twin.own = none) ∧
  (let s : State := mirror 2
   let b : State := hears 1 (mirror 2)
   let o : TwinDigestOp := ⟨1, 1, 0, 0, none⟩
   twinHears s o.link 1 b = true ∧ b.twin.point = none ∧ b.isMirror = true ∧ (b.twn = 1 ∨ b.twn = 2)) ∧
  (let s : State := { (mirror 2) with twin := { TwinState.reset with point := some ⟨0, 0, 0, some 9⟩ } }
   let b : State := hears 1 { (mirror 2) with twin := { TwinState.reset with point := some ⟨0, 0, 0, some 9⟩ } }
   let o : TwinDigestOp := ⟨1, 0, 0, 9, none⟩
   let p := ⟨0, 0, 0, some 9⟩
   twinHears s o.link 1 b = true ∧ b.twin.point = some p ∧ p.num = o.point ∧ o.digest ≠ 0) ∧
  (let s : State := { (twin 2 1) with twin := { TwinState.reset with point := some ⟨0, 0, 77, some 9⟩, own := some 9, peer := some 9 } }
   let p : DigestPoint := ⟨0, 0, 77, some 9⟩
   let d : BitVec 256 := 9
   let err : Option (Nat × Nat × Nat) := none
   s.twin.point = some p ∧ s.twin.own = some d ∧ s.twin.peer = some d ∧ s.twin.lifelines = [] ∧ s.twn ≠ 1 ∧
   let t := s.comparePoint err
   t.twin.point = none ∧ t.reg Reg.TWN_POINTS_POINTS = (s.reg Reg.TWN_POINTS_POINTS + 1) % 2 ^ 32 ∧
   t.reg Reg.TWN_LAST_MATCH_LO_ROW_LO = p.row % 2 ^ 32 ∧ t.reg Reg.TWN_STATE_STATE = s.twn ∧ t.tier = s.tier) := by
  refine ⟨?_, ?_, ?_, ?_, ?_, ?_, ?_, ?_⟩ <;> (decide +kernel)

/-- R436 to R439: faults, drops, loss, fencing and time-outs. -/
theorem test_failover :
  (let s : State := mirror 2
   let b : State := hears 0 (mirror 2)
   let o : TwinTagOp := ⟨1, 0, 0⟩
   twinHears s o.link 0 b = true ∧ b.isMirror = true ∧ b.twn = 2 ∧
   does (.twinFault o) s = (if (b.declareLoss true).flag Reg.TWN_STATE_AUTO_TAKEOVER then (b.declareLoss true).takeOver else b.declareLoss true)) ∧
  (let s : State := mirror 1
   let b : State := hears 0 (mirror 1)
   let o : TwinTagOp := ⟨1, 0, 0⟩
   twinHears s o.link 0 b = true ∧ b.isMirror = true ∧ (b.twn = 1 ∨ b.twn = 2) ∧ does (.twinDrop o) s = b.fence) ∧
  (let s : State := mirror 2
   let fault : Bool := true
   s.twn = 2 ∧ s.isMirror = true ∧ s.twin.lost = false ∧ does .twinLoss s = (s.declareLoss false) ∧
   (s.declareLoss fault).twin.lost = true ∧ (s.declareLoss fault).twin.staged = [] ∧ (s.declareLoss fault).tier = s.tier) ∧
  (let s : State := { (twin 3 1) with twin := { TwinState.reset with dropping := true } }
   s.twin.dropping = true ∧ does .twinDropRepeat s = (s.sendAll s.twinLinks (.twinDrop (s.reg Reg.TWN_MSEQ_ACK_MSEQ)))) ∧
  (let s : State := twin 2 1
   s.twn = 2 ∧ s.isMirror = false ∧ does .twinFence s = s.fence) ∧
  (let s : State := ({ (twin 2 1) with seq := { (twin 2 1).seq with active := true } }).set Reg.SEQ_STATUS_STATE 1
   s.seq.active = true ∧ s.reg Reg.SEQ_STATUS_STATE = 1 ∧ s.fence.reg Reg.TWN_STATE_STATE = 4 ∧
   s.fence.reg Reg.TWN_ERR_FENCED = 1 ∧ s.fence.twin.waiting = [] ∧ s.fence.out.completions = s.out.completions) ∧
  (let s : State := { (twin 2 1) with twin := { TwinState.reset with waiting := [(3, ⟨0, .reply, .ok, 0, false, []⟩)] } }
   let w : Nat × HeldEntry := (3, ⟨0, .reply, .ok, 0, false, []⟩)
   let rest : List (Nat × HeldEntry) := []
   s.twn = 2 ∧ s.isMirror = false ∧ s.twin.waiting = w :: rest ∧
   let acked := s.reg Reg.TWN_MSEQ_ACK_MSEQ
   let a := ((s.sendAll s.twinLinks (.twinDrop acked)).set Reg.TWN_STATE_STATE 3).tinkLog 0x080B noFn (leBytes w.1 4 ++ leBytes acked 4)
   let a := a.twinErr Reg.TWN_ERR_ACK_TIMEOUT
   let a : State := { a with twin := { a.twin with dropping := true, waiting := [], point := none, own := none, peer := none } }
   does .ackTimeout s = ((w :: rest).foldl (fun (s : State) p => s.post p.2.fn p.2.kind p.2.status p.2.sq p.2.counted p.2.body) a)) ∧
  (let s : State := { (mirror 2) with twin := { TwinState.reset with lost := true } }
   s.twn = 2 ∧ s.isMirror = true ∧ s.twin.lost = true ∧
   let a : State := { s with twin := { s.twin with silent := true } }
   does .twinAutoTakeover s = (if s.flag Reg.TWN_STATE_AUTO_TAKEOVER then a.takeOver else a)) := by
  refine ⟨?_, ?_, ?_, ?_, ?_, ?_, ?_, ?_⟩ <;> (decide +kernel)

/-- A VERIFIED lifeline of the PF. -/
def kept (st : Nat) : Lifeline :=
  { fn := 0, label := 77, target := 0, state := st, mask := 0, streams := [], bindings := [], entries := [], row := 5, mseq := 0, manifest := ⟨0, 1, 9⟩, digest := 0, peerDigest := none, ticket := none }

/-- R442, R443: a lifeline starts. -/
theorem test_lifelineWrite :
  (let s : State := lifed
   let h : Mail := letter 0 (leBytes 1 4 ++ leBytes 0 4 ++ leBytes (Handle.toNat ⟨0, 1, 3⟩) 8 ++ leBytes 0 2 ++ leBytes 0 2 ++ leBytes 0 4 ++ leBytes 77 8)
   let l : List Tensor := [tensor 0 3 .near .data 0 2 0x1000]
   let hs := lifeHandles h
   let p := hs.2
   let target := h.u (p + 2) 2
   let label := h.u (p + 8) 8
   let q := s.quota h.fn
   s.Taken h 0x0530 1 (p + 16) ∧ 1 ≤ hs.1.length ∧ hs.1.length ≤ 256 ∧ h.u 12 4 = 0 ∧ target ≤ 1 ∧ h.u (p + 4) 4 = 0 ∧
   (∀ i, i < hs.1.length → h.handleOk (16 + 8 * i) = true) ∧ (∀ x ∈ hs.1, x ≠ Handle.none ∧ x.fn = h.fn) ∧
   hs.1.dedup.length = hs.1.length ∧ s.lifeTensors hs.1 = .ok l ∧ (∀ x ∈ s.twin.lifelines, ¬(x.fn = h.fn ∧ x.label = label)) ∧
   (target = 1 → s.twn = 2) ∧ (∀ x ∈ l, x.moving = false) ∧
   s.tableFull h.fn (1 + (l.filter (fun x => target = 0 && x.homeClean.isNone)).length) = none ∧
   s.deepKey h.fn (classOf h.fn) = true ∧ (target = 0 → ∀ x ∈ l, s.deepKey x.fn x.keyIndex = true) ∧
   q.deepUsed + 64 * copyUnits target l ≤ q.deepLimit ∧ copyUnits target l ≤ s.tier.deepFree ∧
   s.flag Reg.FTL_STATUS_READ_ONLY = false ∧
   (does (.lifelineWrite h) s).twin.lifelines.map (fun (x : Lifeline) => x.label) = [77]) := by
  unfold State.Taken; decide +kernel

/-- R443 to R446: a capture's end, a restore, a list and a drop. -/
theorem test_lifelines :
  (let s : State := { lifed with twin := { TwinState.reset with lifelines := [kept 0] } }
   let o : CaptureOp := ⟨0, 77, none, none⟩
   let l : Lifeline := kept 0
   o.mirrored = none ∧ s.twin.lifelines.find? (fun x => x.fn == o.fn && x.label == o.label && x.state == 0) = some l) ∧
  (let s : State := { (twin 2 2) with twin := TwinState.reset }
   let o : CaptureOp := ⟨0, 77, none, some ⟨[], ⟨0, 1, 9⟩, 0, 0, 5, 0⟩⟩
   let m : MirroredLife := ⟨[], ⟨0, 1, 9⟩, 0, 0, 5, 0⟩
   let l : Lifeline := ((s.mirrorLifeline 0 77 m).twin.lifelines.headD (kept 0))
   o.mirrored = some m ∧ s.isMirror = true ∧ (∀ x ∈ s.twin.lifelines, ¬(x.fn = o.fn ∧ x.label = o.label)) ∧
   (s.mirrorLifeline o.fn o.label m).twin.lifelines = s.twin.lifelines ++ [l] ∧ l.fn = o.fn ∧ l.label = o.label ∧
   l.state = 0 ∧ l.ticket = none) ∧
  (let s : State := { lifed with twin := { TwinState.reset with lifelines := [kept 2] } }
let h : Mail := letter 0 (leBytes 77 8)
let l : Lifeline := kept 2
s.Taken h 0x0531 1 16 ∧ s.twin.lifelines.find? (fun x => x.fn == h.fn && x.label == h.u 8 8) = some l ∧
s.restoreConflict l = none ∧ l.entries = []) ∧
  (let s : State := { lifed with twin := { TwinState.reset with lifelines := [kept 2] } }
   let h : Mail := letter 0 []
   s.Taken h 0x0532 1 8 ∧
   let l := s.twin.lifelines.filter (fun x => x.fn == h.fn)
   does (.lifelineList h) s = (s.replied h 0x0532 (leBytes l.length 4 ++ leBytes 0 4 ++ l.flatMap (fun x => leBytes x.label 8 ++ leBytes x.state 2 ++ leBytes x.target 2 ++ leBytes 0 4)))) ∧
  (let s : State := { lifed with twin := { TwinState.reset with lifelines := [kept 2] } }
   let h : Mail := letter 0 (leBytes 77 8)
   let l : Lifeline := kept 2
   s.Taken h 0x0533 1 16 ∧ s.twin.lifelines.find? (fun x => x.fn == h.fn && x.label == h.u 8 8) = some l ∧ l.state ≠ 0 ∧
   does (.lifelineDrop h) s = ((s.dropLifeline l).replied h 0x0533 [])) := by
  refine ⟨?_, ?_, ?_, ?_, ?_⟩ <;> ((try unfold State.Taken); decide +kernel)

/-! ### Tenancy, attestation, deferral and the Tink log -/

/-- A session of number 1 for a function or a base model. -/
def session (base : Bool) (target : Nat) : State :=
  { tenant with sec := { tenant.sec with sessions := [⟨1, base, target⟩] } }

/-- A policy that asks for nothing. -/
def policy : Policy := ⟨[], [], [], 0, 0, 5⟩

/-- Function 1 holds its key. -/
def keyed : State := { (session false 1) with sec := { (session false 1).sec with keys := [(1, policy)] } }

/-- R457, R467, R488, R517: functions enabled and disabled, and the security messages. -/
theorem test_tenancy :
  (let s : State := resting
   let h : Mail := letter 0 (leBytes 1024 2)
   let fn := h.u 8 2
   s.Taken h 0x0601 0 10 ∧ h.fn = 0 ∧ 1 ≤ fn ∧ fn ≤ 1024 ∧ s.getF fn Reg.GLB_FN_STATE_STATE = 0 ∧
   Store.get? s.sec.resets fn = none ∧
   (does (.funcEnable h) s).getF 1024 Reg.GLB_FN_STATE_STATE = 1) ∧
  (let s : State := awake tenant
   let h : Mail := letter 0 (leBytes 1 2)
   s.Taken h 0x0602 0 10 ∧ h.fn = 0 ∧ 1 ≤ h.u 8 2 ∧ h.u 8 2 ≤ 1024 ∧ Store.get? s.sec.resets (h.u 8 2) = none ∧
   does (.funcDisable h) s = ((s.startReset (h.u 8 2) 2 (some (h.ticket 0x0602))).waiting h 0x0602).settleResets) ∧
  (let s : State := resting
   let h : Mail := letter 0 []
   let l : List Byte := [1, 2]
   s.Taken h 0x0603 0 (max 8 h.payload.length) ∧ does (.spdmTunnel h l) s = (s.replied h 0x0603 l)) ∧
  (let s : State := awake keyed
   let h : Mail := letter 1 (leBytes 1 2)
   s.Taken h 0x0604 0 10 ∧ h.u 8 2 ≤ 1024 ∧ (h.fn = 0 ∨ h.fn = h.u 8 2) ∧
   does (.secQuery h) s = (s.replied h 0x0604 (leBytes (b2n (Store.get? s.sec.keys (h.u 8 2)).isSome) 2 ++ leBytes (Store.getD s.sec.tdi (h.u 8 2) 0) 2 ++ leBytes (Store.getD s.sec.touch (h.u 8 2) []).length 4))) ∧
  (let s : State := resting
   let h : Mail := letter 0 (leBytes 3 2)
   s.Taken h 0x0609 0 10 ∧ h.fn = 0 ∧ h.u 8 2 < 4) := by
  refine ⟨?_, ?_, ?_, ?_, ?_⟩ <;> ((try unfold State.Taken); decide +kernel)

/-- R468 to R477, R486: measurements, sessions, a key released to a session and its end. -/
theorem test_attestation :
  (let s : State := resting
   let o : SessionOp := ⟨1, true, 7⟩
   s.mod.off = false ∧ s.flag Reg.GLB_STATUS_RECOVERY = false ∧ (∀ x ∈ s.sec.sessions, x.id ≠ o.id) ∧
   (if o.base then o.target < 8 else o.target ≤ 1024) ∧ s.sec.sessions.length < 1056 ∧
   does (.keyExchange o) s = (State.spdm { s with sec := { s.sec with sessions := s.sec.sessions ++ [Session.mk o.id o.base o.target] } } .ok [])) ∧
  (let s : State := keyed
   let n : Nat := 1
   let x : Session := ⟨1, false, 1⟩
   s.mod.off = false ∧ s.flag Reg.GLB_STATUS_RECOVERY = false ∧ s.sec.sessions.find? (fun x => x.id == n) = some x ∧
   does (.keyDestroy n) s = ((if x.base then s.destroyBase x.target 0 else s.destroyKey x.target 0).spdm .ok [])) ∧
  (let s : State := keyed
   let n : Nat := 1
   let x : Session := ⟨1, false, 1⟩
   s.mod.off = false ∧ s.flag Reg.GLB_STATUS_RECOVERY = false ∧ s.sec.sessions.find? (fun x => x.id == n) = some x ∧
   x.base = false) ∧
  (let s : State := keyed
   let n : Nat := 1
   let x : Session := ⟨1, false, 1⟩
   let p := policy
   s.mod.off = false ∧ s.flag Reg.GLB_STATUS_RECOVERY = false ∧ s.sec.sessions.find? (fun x => x.id == n) = some x ∧
   Store.get? (if x.base then s.sec.baseKeys else s.sec.keys) x.target = some p) := by
  refine ⟨?_, ?_, ?_, ?_⟩ <;> (decide +kernel)

/-- R469, R470: a measurement of the PF. Its bytes rest on the opaque digest, so only that there is one is said. -/
theorem test_measurement : ∃ m, resting.mod.off = false ∧ resting.measurement 0 4 = some m := ⟨_, by decide +kernel, rfl⟩

/-- R471: a policy and key released under the report that the module would give, to a tenant's and to a model's session. -/
theorem test_keyRelease :
    (∃ o : KeyReleaseOp, let s := session false 1
      s.mod.off = false ∧ s.flag Reg.GLB_STATUS_RECOVERY = false ∧
      s.sec.sessions.find? (fun x => x.id == o.session) = some ⟨1, false, 1⟩ ∧ o.policy.wf false = true ∧
      o.report = Config.sha384 s.reportBytes ∧ s.requireMet o.policy ⟨1, false, 1⟩ = true ∧
      s.getF 1 Reg.GLB_FN_STATE_STATE = 1 ∧ Store.get? s.sec.keys 1 = none) ∧
    (∃ o : KeyReleaseOp, let s := session true 7
      s.mod.off = false ∧ s.flag Reg.GLB_STATUS_RECOVERY = false ∧
      s.sec.sessions.find? (fun x => x.id == o.session) = some ⟨1, true, 7⟩ ∧ o.policy.wf true = true ∧
      o.report = Config.sha384 s.reportBytes ∧ s.requireMet o.policy ⟨1, true, 7⟩ = true ∧
      (s.model 7).state = 0 ∧ Store.get? s.sec.baseKeys 7 = none) :=
  ⟨⟨⟨1, policy, Config.sha384 (session false 1).reportBytes⟩, by decide +kernel, by decide +kernel, by decide +kernel,
      by decide +kernel, rfl, by decide +kernel, by decide +kernel, by decide +kernel⟩,
    ⟨⟨1, policy, Config.sha384 (session true 7).reportBytes⟩, by decide +kernel, by decide +kernel, by decide +kernel,
      by decide +kernel, rfl, by decide +kernel, by decide +kernel, by decide +kernel⟩⟩

/-- R486, R487: streams and interfaces. -/
theorem test_tdisp :
  (let s : State := resting
   let n : Nat := 255
   let vfs : List Nat := [1]
   n < 256 ∧ s.mod.off = false ∧
   let was := Store.getD s.sec.ide n ⟨[], false, false⟩
   does (.keyProg n vfs) s = (s.setIde n { was with vfs := vfs, keyed := true })) ∧
  (let s : State := resting.setIde 255 ⟨[1], true, false⟩
   let n : Nat := 255
   let x : IdeStream := ⟨[1], true, false⟩
   Store.get? s.sec.ide n = some x ∧ x.keyed = true ∧ does (.kSetGo n) s = (s.setIde n { x with secure := true })) ∧
  (let s : State := resting.setIde 255 ⟨[1], true, true⟩
   let n : Nat := 255
   let x : IdeStream := ⟨[1], true, true⟩
   Store.get? s.sec.ide n = some x ∧ x.secure = true ∧
   does (.ideIntegrityFail n) s = ((s.ideFail n x).secErr Reg.SEC_ERR_TDISP_ERROR)) ∧
  (let s : State := resting
   let vf : Nat := 1024
   1 ≤ vf ∧ vf ≤ 1024 ∧ Store.getD s.sec.tdi vf 0 = 0 ∧
   does (.lockInterfaceRequest vf) s = { s with sec := { s.sec with tdi := Store.put s.sec.tdi vf 1 } }) ∧
  (let s : State := { resting with sec := { resting.sec with tdi := [(1024, 1)] } }
   let vf : Nat := 1024
   1 ≤ vf ∧ vf ≤ 1024 ∧ Store.getD s.sec.tdi vf 0 = 1 ∧
   does (.startInterfaceRequest vf) s = { s with sec := { s.sec with tdi := Store.put s.sec.tdi vf 2 } }) ∧
  (let s : State := { tenant with sec := { resting.sec with tdi := [(1, 2)] } }
   let vf : Nat := 1
   1 ≤ vf ∧ vf ≤ 1024 ∧ (Store.getD s.sec.tdi vf 0 = 1 ∨ Store.getD s.sec.tdi vf 0 = 2) ∧
   let t := does (.tdiConfigChange vf) s
   Store.get? t.sec.tdi vf = some 3 ∧ t.reg Reg.SEC_ERR_TDISP_ERROR = 1 ∧ t.tier = s.tier ∧ t.data = s.data) := by
  refine ⟨?_, ?_, ?_, ?_, ?_, ?_⟩ <;> (decide +kernel)

/-- A guarded frame. -/
def guarded : State := { resting with tier := { resting.tier with regions := [(3, ⟨1, 1, 1, false⟩)] } }

/-- R493, R485: zeroisation on request; a block's power request deferred or not. -/
theorem test_zeroise :
  (let s : State := resting
   let h : Mail := letter 0 []
   h.fn = 0 ∧ s.Taken h 0x0607 0 8) ∧
  (let s : State := resting
   let h : Mail := letter 0 []
   h.fn = 0 ∧ s.Taken h 0x060B 0 8) ∧
  (let s : State := inRow
   s.seq.active = true ∧ s.reg Reg.SEQ_STATUS_STATE = 1 ∧ s.zeroise.reg Reg.SEC_STATUS_ZEROISING = 1 ∧
   s.zeroise.sec.keys = [] ∧ s.zeroise.sec.baseKeys = [] ∧ s.zeroise.sec.wraps = [] ∧ s.zeroise.zeroAdvance = s.zeroise) ∧
  (let s : State := guarded
   let o : PowerReqOp := ⟨2, 0, [(0, 3), (4, 9)], false, false⟩
   s.mod.off = false ∧
   let d : Defer := ⟨o.block, o.kind, o.frames, o.rtp, false⟩
   (o.keeps = true ∨ s.blocks d = false) ∧
   does (.powerClockRequest o) s = (s.say powerPort (leBytes o.block 1 ++ leBytes Status.ok.code 1))) ∧
  (let s : State := guarded
   let o : PowerReqOp := ⟨2, 0, [(3, 1)], false, false⟩
   s.mod.off = false ∧
   let d : Defer := ⟨o.block, o.kind, o.frames, o.rtp, false⟩
   o.keeps = false ∧ s.blocks d = true ∧
   does (.powerClockRequest o) s = ((s.deferAsk d).say powerPort (leBytes o.block 1 ++ leBytes Status.deferred.code 1))) := by
  refine ⟨?_, ?_, ?_, ?_, ?_⟩ <;> ((try unfold State.Taken); decide +kernel)

/-- R484, R485: a deferred request granted, forced and withdrawn. -/
theorem test_deferral :
  (let s : State := guarded
   let d : Defer := ⟨2, 0, [(3, 1)], false, false⟩
   (∀ x ∈ s.sec.defers, x.block ≠ d.block) ∧ d ∈ (s.deferAsk d).sec.defers ∧
   (s.deferAsk d).reg Reg.SEC_STATUS_DEFER_PENDING = 1 ∧
   ((Store.get? (s.deferAsk d).tier.regions 3).map (fun (r : Region) => r.hold)) = some true) ∧
  (let s : State := resting.deferAsk ⟨2, 0, [(3, 1)], false, false⟩
   let block : Nat := 2
   let d : Defer := ⟨2, 0, [(3, 1)], false, false⟩
   s.sec.defers.find? (fun d => d.block == block) = some d ∧ s.blocks d = false ∧
   does (.deferredRequestProceed block) s = (s.grant d)) ∧
  (let s : State := guarded.deferAsk ⟨2, 0, [(3, 1)], false, false⟩
   let block : Nat := 2
   let d : Defer := ⟨2, 0, [(3, 1)], false, false⟩
   s.sec.defers.find? (fun d => d.block == block) = some d) ∧
  (let s : State := guarded.deferAsk ⟨2, 0, [(3, 1)], false, false⟩
   let h : Mail := letter 0 (leBytes 2 2)
   let d : Defer := ⟨2, 0, [(3, 1)], false, false⟩
   s.Taken h 0x060A 0 10 ∧ h.fn = 0 ∧ s.sec.defers.find? (fun d => d.block == h.u 8 2) = some d ∧
   let a := s.undefer (h.u 8 2)
   d.store = false ∧ does (.deferCancel h) s = (a.replied h 0x060A [])) ∧
  (let s : State := resting.deferAsk ⟨16, 0, [], false, true⟩
   let h : Mail := letter 0 (leBytes 16 2)
   let d : Defer := ⟨16, 0, [], false, true⟩
   s.Taken h 0x060A 0 10 ∧ h.fn = 0 ∧ s.sec.defers.find? (fun d => d.block == h.u 8 2) = some d ∧
   let a := s.undefer (h.u 8 2)
   d.store = true ∧
   does (.deferCancel h) s = (((({ a with pwr := { a.pwr with transition := none } } : State).set Reg.PWR_STATE_ENTERING 0).storeExit).replied h 0x060A [])) := by
  refine ⟨?_, ?_, ?_, ?_, ?_⟩ <;> ((try unfold State.Taken); decide +kernel)

/-- A state with one entry in the Tink ring. -/
def logged : State := resting.tinkLog 0x0902 noFn [1, 2]

/-- R448, R451, R452: reads, freezes and releases of the log. -/
theorem test_tink :
  (let s : State := logged
   let h : Mail := letter 0 (leBytes 0 4 ++ leBytes 0 4 ++ leBytes 127 4)
   let log : List TinkEntry := ((logged.tinkSource 0).getD [])
   s.Taken h 0x0701 0 20 ∧ h.fn = 0 ∧ h.u 8 2 ≤ 20 ∧ h.u 10 2 = 0 ∧ 1 ≤ h.u 16 4 ∧ h.u 16 4 ≤ 127 ∧
   s.tinkSource (h.u 8 2) = some log ∧
   let l := (log.drop (h.u 12 4)).take (h.u 16 4)
   does (.tinkRead h) s = (s.replied h 0x0701 (leBytes l.length 4 ++ l.flatMap TinkEntry.bytes)) ∧
   log.length = 1) ∧
  (let s : State := logged
   let h : Mail := letter 0 []
   s.Taken h 0x0702 0 8 ∧ h.fn = 0 ∧ s.tink.frozen.length < 4 ∧ does (.tinkFreeze h) s = (s.freeze.replied h 0x0702 [])) ∧
  (let s : State := logged
   does .tnkFreeze s = s.freeze ∧ s.freeze.tink.ring = s.tink.ring ∧ s.freeze.reg Reg.TNK_CTRL_FREEZE = 1) ∧
  (let s : State := { (logged.set Reg.TNK_STATUS_FROZEN 8) with tink := { logged.tink with frozen := [(3, [])] } }
   let h : Mail := letter 0 (leBytes 3 2)
   s.Taken h 0x0703 0 10 ∧ h.fn = 0 ∧ h.u 8 2 < 4 ∧ (Store.get? s.tink.frozen (h.u 8 2)).isSome = true ∧
   s.tink.freezing ≠ some (h.u 8 2) ∧
   let a : State := { s with tink := { s.tink with frozen := Store.erase s.tink.frozen (h.u 8 2) } }
   does (.tinkRelease h) s = ((a.set Reg.TNK_STATUS_FROZEN (clearBit (s.reg Reg.TNK_STATUS_FROZEN) (h.u 8 2))).replied h 0x0703 [])) := by
  refine ⟨?_, ?_, ?_, ?_⟩ <;> ((try unfold State.Taken); decide +kernel)

/-- R451, R452, R544, R553: the end of a flush and of a freeze, an entry and a fault record shown. -/
theorem test_tinkFlush :
  (let s : State := { logged with tink := { logged.tink with flushing := true } }
   s.mod.bindOff = none ∧ s.tink.flushing = true ∧ s.tink.freezing = none ∧
   let t := does .tinkFlushDone s
   t.tink.flushing = false ∧ t.tink.flushes.getLast? = some s.tink.ring ∧ t.tink.flushes.length ≤ 16 ∧
   t.tink.ring = s.tink.ring ∧ t.reg Reg.TNK_STATUS_FLUSHING = 0 ∧
   t.reg Reg.TNK_FLUSHES_FLUSHES = (s.reg Reg.TNK_FLUSHES_FLUSHES + 1) % 2 ^ Reg.TNK_FLUSHES_FLUSHES.width ∧
   t.out.msix = s.out.msix ++ [(0, 12)]) ∧
  (let s : State := { logged with tink := { logged.tink with freezing := some 2 } }
   let i : Nat := 2
   s.mod.bindOff = none ∧ s.tink.flushing = false ∧ s.tink.freezing = some i ∧
   let t := does .tinkFlushDone s
   t.tink = { s.tink with freezing := none } ∧ t.reg Reg.TNK_CTRL_FREEZE = 0 ∧ t.out.msix = s.out.msix ++ [(0, 12)]) ∧
  (let s : State := logged.set Reg.TNK_SEL_ENTRY_SEQ ((logged.tink.ring.map (fun (e : TinkEntry) => e.seq)).headD 0)
   let e : TinkEntry := (logged.tink.ring.headD ⟨0, 0, 0, 0, 0, []⟩)
   s.tink.ring.find? (fun e => e.seq == s.reg Reg.TNK_SEL_ENTRY_SEQ) = some e ∧
   let t := does .tnkEntryRead s
   t.reg Reg.TNK_CMD_DONE = 1 ∧ t = { s with regs := t.regs }) ∧
  (let s : State := { resting with fw := { resting.fw with ring := [(0, [1, 2])] } }
   let l : List Byte := [1, 2]
   Store.get? s.fw.ring (s.reg Reg.GLB_FW_FAULT_SEL_INDEX) = some l ∧
   let t := does .fwFaultRead s
   (∀ i ∈ List.range 16, t.reg (Reg.GLB_FW_FAULT_DATA0_WORD.at (4 * i)) = leField l (4 * i) 4 % 2 ^ 32) ∧
   t.reg Reg.GLB_FW_FAULT_CMD_DONE = 1 ∧ t = { s with regs := t.regs }) := by
  refine ⟨?_, ?_, ?_, ?_⟩ <;> (decide +kernel)

/-! ### Blobs and images, whose digests and seals are opaque -/

/-- The number that the bytes of a number spell. -/
theorem leNat_leBytes (k : Nat) : ∀ n, leNat (leBytes n k) = n % 256 ^ k := by
  induction k with
  | zero => intro n; simp [leBytes, leNat, Nat.mod_one]
  | succ k ih =>
    intro n
    simp only [leBytes, leNat, ih, BitVec.toNat_ofNat]
    rw [show 256 ^ (k + 1) = 256 * 256 ^ k from Nat.pow_succ', Nat.mod_mul]

/-- The body of a template of one row record and one command, of function 0 in slot 0 on die 0. -/
def bodyBytes : List Byte := leBytes 0 256 ++ (leBytes 0 7 ++ leBytes 1 1 ++ leBytes 0 24) ++ descBytes

/-- Its image: template 5 of model 0, for contexts of the lowest class, one sequence and 64 tokens. -/
def imageBytes : List Byte :=
  leBytes 0x54374E44 4 ++ [1, 0] ++ leBytes 0 2 ++ leBytes 5 2 ++ [0, 0] ++ leBytes 0 2 ++ leBytes 63 4 ++ leBytes 1 4 ++ leBytes 0 2 ++
    leBytes 1 4 ++ leBytes 0 4 ++ leBytes 544 8 ++ leBytes 0 24 ++ leBytes (Config.sha256 bodyBytes).toNat 32 ++ leBytes 0 32 ++ bodyBytes

/-- The template of that image. -/
def imageTpl : Template := (Template.ask 5 0 0 0 1 64).withBody bodyBytes 1 1

/-- R628: the image spells its template. -/
theorem imageTemplate_imageBytes : imageTemplate imageBytes = some (imageTpl, bodyBytes) := by
  have hd : BitVec.ofNat 256 (leField imageBytes 64 32) = Config.sha256 bodyBytes := by
    have : leField imageBytes 64 32 = leNat (leBytes (Config.sha256 bodyBytes).toNat 32) := rfl
    rw [this, leNat_leBytes, show (256 : Nat) ^ 32 = 2 ^ 256 by norm_num, Nat.mod_eq_of_lt (BitVec.isLt _), BitVec.ofNat_toNat, BitVec.setWidth_eq]
  have hb : imageBytes.drop 128 = bodyBytes := by decide +kernel
  have h0 : leField imageBytes 0 4 = 0x54374E44 ∧ leField imageBytes 4 1 = 1 ∧ leField imageBytes 5 1 = 0 ∧
      leField imageBytes 6 2 = 0 ∧ leField imageBytes 22 2 = 0 ∧ leField imageBytes 28 4 = 0 ∧ leField imageBytes 40 24 = 0 ∧
      leField imageBytes 96 32 = 0 ∧ leField imageBytes 24 4 = 1 ∧ leField imageBytes 18 4 = 1 ∧
      leField imageBytes 32 8 = 544 ∧ imageBytes.length = 672 ∧ bodyBytes.length = 544 := by decide +kernel
  have h1 : leField imageBytes 8 2 = 5 ∧ leField imageBytes 10 1 = 0 ∧ leField imageBytes 11 1 = 0 ∧
      leField imageBytes 12 2 = 0 ∧ leField imageBytes 14 4 = 63 := by decide +kernel
  have ht : imageTpl.rsvd = 0 ∧ imageTpl.bucketOk = true ∧ imageTpl.cmds.any (fun c => c.dies.isEmpty) = false := by decide +kernel
  have he : Template.withBody (Template.ask 5 (bits 0 0 3) (bits 0 3 4) 0 (0 + 1) (63 + 1)) bodyBytes 1 1 = imageTpl := rfl
  obtain ⟨a, b, c, d, e, f, g, h, i, j, k, l, m⟩ := h0
  obtain ⟨p, q, r, u, v⟩ := h1
  simp [imageTemplate, hb, hd, a, b, c, d, e, f, g, h, i, j, k, l, m, p, q, r, u, v, he, ht]

/-- R52, R628: the image is handed to the Builder to check. -/
theorem test_templateLoad :
    ∃ tpl body, let s := coded
      let h := letter 0 (leBytes 0 16 ++ leBytes 672 4) imageBytes
      s.Taken h 0x0402 0 28 ∧ h.u 8 4 = 0 ∧ h.u 12 4 = 0 ∧ h.u 16 8 % 64 = 0 ∧ h.fn = 0 ∧ h.buffer.length = h.u 24 4 ∧
      imageTemplate h.buffer = some (tpl, body) ∧ s.templateConflict tpl.id tpl.model = none ∧
      (∀ k ∈ s.tier.lent, tpl.sendsOn k.2.link = false) ∧ s.pmRoom tpl.id body.length = true :=
  ⟨imageTpl, bodyBytes, by unfold State.Taken; decide +kernel, by decide +kernel, by decide +kernel, by decide +kernel, by decide +kernel,
    by decide +kernel, imageTemplate_imageBytes, by decide +kernel, by decide +kernel, by decide +kernel⟩

/-- Function 1 holds its key; its DATA tensor 3 of one line and its HOST tensor 4 of 64 KiB at physical address 2^32. -/
def exporting : State :=
  let s := holding [tensor 1 3 .near .data 0 1 0x1000, { (tensor 1 4 .host .data 0 256 9) with loc := 9 }] { owner with sec := keyed.sec }
  { s with tier := { s.tier with hostRegs := [(9, (1, 2 ^ 32, 65536))] } }

/-- R478: a tensor is exported. -/
theorem test_tensorExport :
    ∃ k, let s := exporting
      let h := letter 1 (leBytes (Handle.toNat ⟨1, 1, 3⟩) 8 ++ leBytes (Handle.toNat ⟨1, 1, 4⟩) 8)
      let t := tensor 1 3 .near .data 0 1 0x1000
      let u := { (tensor 1 4 .host .data 0 256 9) with loc := 9 }
      let r := s.draw
      s.Taken h 0x0605 0 24 ∧ h.handleOk 8 = true ∧ h.handleOk 16 = true ∧ h.handle 8 ≠ Handle.none ∧ h.handle 16 ≠ Handle.none ∧
      (h.handle 8).fn = h.fn ∧ (h.handle 16).fn = h.fn ∧ (Store.get? s.sec.keys h.fn).isSome = true ∧ s.entry (ttKey 1 3) = some t ∧
      s.entry (ttKey 1 4) = some u ∧ t.exports = true ∧ u.tier = .host ∧ s.blobSize t ≤ 256 * u.size ∧ t.poisoned = false ∧
      u.poisoned = false ∧ t.moving = false ∧ u.moving = false ∧ t.tier ≠ .borrowed ∧ t.gen = (h.handle 8).gen ∧
      u.gen = (h.handle 16).gen ∧ t.incomplete = false ∧ r.2.blobKey h.fn (r.1 % 2 ^ 64) = some k ∧
      Store.get? r.2.tier.hostRegs u.loc = some (1, 2 ^ 32, 65536) := by
  have hk : exporting.draw.2.blobKey 1 (exporting.draw.1 % 2 ^ 64) = some (Config.hkdf 5 (exporting.draw.1 % 2 ^ 64) blobInfo) := by
    simp only [State.blobKey]
    rfl
  refine ⟨_, ?_, ?_, ?_, ?_, ?_, ?_, ?_, ?_, ?_, ?_, ?_, ?_, ?_, ?_, ?_, ?_, ?_, ?_, ?_, ?_, ?_, hk, ?_⟩
  all_goals first | decide +kernel | (unfold State.Taken; decide +kernel)

/-- The header of a DATA blob of one line, its digest 7 and its NONCE 9. -/
def dataHead : BlobHead := ⟨blobMagic, 1, 0, 0, 1, 0, 7, 9, 0, 0, 0, 0, 0⟩

/-- The header of a SWATCH blob of 256 positions of model 0, with the same digest and NONCE. -/
def swatchHead : BlobHead := ⟨blobMagic, 1, 4, 3, 256, 8, 7, 9, 0, 0, 0, 0, 0⟩

/-- The bytes of a blob whose sealed chunk is all zero. -/
def blobBytes (h : BlobHead) : List Byte := h.bytes ++ leBytes 0 (256 * h.size + 16)

/-- Function 1 holds its key and the HOST tensor 4 of 512 lines; model 0 is RESIDENT with one layer of one line a token. -/
def importing : State :=
  let s := holding [tensor 1 4 .host .data 0 512 9] { owner with sec := keyed.sec }
  { s with tier := { s.tier with models := [(0, { (s.model 0) with state := 2, params := { (s.model 0).params with layers := 1, kvLpt := 1 } })] } }

/-- R478: the bytes of a blob spell its header. -/
theorem test_blobHead : BlobHead.ofBytes (blobBytes dataHead) = dataHead ∧ BlobHead.ofBytes swatchHead.bytes = swatchHead := by
  decide +kernel

/-- R479: a blob is imported. The seal and the digest are opaque, so that the blob opens, to whatever payload, is a premise; its header
is sound, its key there and its length that of the format. -/
theorem test_tensorImport (payload : List Byte) (live : Nat)
    (opens : importing.openBlob 1 (tensor 1 4 .host .data 0 512 9) (blobBytes dataHead) = .ok (dataHead, payload, live)) :
    ∃ b t u s1, let s := importing
      let h := letter 1 (leBytes (Handle.toNat ⟨1, 1, 4⟩) 8) (blobBytes dataHead)
      s.Taken h 0x0606 0 16 ∧ h.handleOk 8 = true ∧ h.handle 8 ≠ Handle.none ∧ h.fn ≠ 0 ∧ (h.handle 8).fn = h.fn ∧
      (Store.get? s.sec.keys h.fn).isSome = true ∧ s.ownTensor (h.handle 8) = .ok (tensor 1 4 .host .data 0 512 9) ∧
      s.openBlob h.fn (tensor 1 4 .host .data 0 512 9) h.buffer = .ok (b, payload, live) ∧ s.blobFits b payload = true ∧
      s.placeBlob h.fn b payload = .ok (t, u, s1) := by
  refine ⟨_, _, _, _, ?_, ?_, ?_, ?_, ?_, ?_, ?_, opens, rfl, rfl⟩
  all_goals first | decide +kernel | (unfold State.Taken; decide +kernel)

/-- R251, R479: so is a swatch's blob, at one live position. -/
theorem test_swatchImport (payload : List Byte)
    (opens : importing.openBlob 1 (tensor 1 4 .host .data 0 512 9) swatchHead.bytes = .ok (swatchHead, payload, 1)) :
    ∃ b x sc s1, let s := importing
      let h := letter 1 (leBytes (Handle.toNat ⟨1, 1, 4⟩) 8 ++ leBytes 1 4 ++ leBytes 0 44) swatchHead.bytes
      s.Taken h 0x0322 0 64 ∧ h.handleOk 8 = true ∧ h.handle 8 ≠ Handle.none ∧ (h.handle 8).fn = h.fn ∧ h.u 24 2 = 0 ∧ h.u 26 6 = 0 ∧
      1 ≤ h.u 16 4 ∧ h.u 16 4 ≤ 1048576 ∧ (Store.get? s.sec.keys h.fn).isSome = true ∧
      s.ownTensor (h.handle 8) = .ok (tensor 1 4 .host .data 0 512 9) ∧
      s.openBlob h.fn (tensor 1 4 .host .data 0 512 9) h.buffer = .ok (b, payload, h.u 16 4) ∧ b.kind = 4 ∧
      (s.model (bits b.kspec 0 3)).state = 2 ∧ b.weights = (s.model (bits b.kspec 0 3)).digest ∧ b.size = s.kvLines b.kspec ∧
      s.placeBlob h.fn b payload = .ok (x, sc, s1) := by
  refine ⟨_, _, _, _, ?_, ?_, ?_, ?_, ?_, ?_, ?_, ?_, ?_, ?_, opens, ?_, ?_, ?_, ?_, rfl⟩
  all_goals first | decide +kernel | (unfold State.Taken; decide +kernel)

/-! ### Register accesses -/

/-- R6, R494: a plain write, writes that leave everything, and a refused one. -/
theorem test_registerWrite :
  (let s : State := resting
   let fn : Nat := 1024
   let off : Nat := 0xFFFC
   let v : Nat := 0xFFFFFFFF
   mapped fn off = true ∧ ¬ (0x11000 ≤ off ∧ off < 0x11200) ∧ s.secRefusal (s.home fn off).2 v = 0 ∧
   does (.registerWrite fn off v) s = ((s.writeWord (s.home fn off).1 (s.home fn off).2 v (fun f => !f.own)).afterWrite (s.home fn off).2)) ∧
  (let s : State := resting
   let fn : Nat := 1
   let off : Nat := 0x8000
   let v : Nat := 1
   (mapped fn off = false ∨ (0x11000 ≤ off ∧ off < 0x11200) ∨ s.secRefusal (s.home fn off).2 v = 1) ∧
   does (.registerWrite fn off v) s = s) ∧
  (let s : State := resting.setF 1 Reg.SEC_DPL_CTL_EN 1
   let fn : Nat := 0
   let off : Nat := 0x110050
   let v : Nat := 9
   (mapped fn off = false ∨ (0x11000 ≤ off ∧ off < 0x11200) ∨ s.secRefusal (s.home fn off).2 v = 1) ∧
   does (.registerWrite fn off v) s = s) ∧
  (let s : State := resting
   let fn : Nat := 0
   let off : Nat := 0x110050
   let v : Nat := 21
   mapped fn off = true ∧ ¬ (0x11000 ≤ off ∧ off < 0x11200) ∧ s.secRefusal (s.home fn off).2 v = 2 ∧
   does (.registerWrite fn off v) s = (s.secErr Reg.SEC_ERR_CFG_REJECT)) := by
  refine ⟨?_, ?_, ?_, ?_⟩ <;> (decide +kernel)

/-- R6, R623: an RC field is cleared, and a HI half latched and used. -/
theorem test_registerReads :
  (let s : State := resting.set Reg.HQ_FETCHED_COUNT 7
   let fn : Nat := 0
   let off : Nat := 0x1000C
   mapped fn off = true ∧
   let t := does (.rcRead fn off) s
   t.out.reads = s.out.reads ++ [(fn, off, s.readWord fn off)] ∧ t = { s with regs := t.regs, out := t.out } ∧
   t.reg Reg.HQ_FETCHED_COUNT = 0 ∧ s.reg Reg.HQ_FETCHED_COUNT = 7) ∧
  (let s : State := resting
   let fn : Nat := 1
   let off : Nat := 0x10000
   mapped fn off = false ∧ does (.rcRead fn off) s = (s.shown fn off 0) ∧ does (.loReadLatch fn off) s = (s.shown fn off 0)) ∧
  (let s : State := resting
   let fn : Nat := 0
   let off : Nat := 0xE028
   let lo : Nat := 0xE028
   let hi : Nat := 0xE02C
   mapped fn off = true ∧ latchPairs.find? (fun p => p.1 == (s.home fn off).2) = some (lo, hi) ∧
   let t := does (.loReadLatch fn off) s
   t.out.reads = s.out.reads ++ [(fn, off, s.readWord fn off)] ∧
   Store.get? t.host.latches ((s.home fn off).1 * 0x200000 + hi) = some (s.readWord fn (off + (hi - lo))) ∧
   t = { s with host := t.host, out := t.out }) ∧
  (let s : State := { resting with host := { resting.host with latches := [(0xE02C, 5)] } }
   let fn : Nat := 0
   let off : Nat := 0xE02C
   let x := 5
   mapped fn off = true ∧ latchPairs.find? (fun p => p.1 == (s.home fn off).2) = none ∧
   let k := (s.home fn off).1 * 0x200000 + (s.home fn off).2
   Store.get? s.host.latches k = some x ∧
   let t := does (.loReadLatch fn off) s
   t.out.reads = s.out.reads ++ [(fn, off, x)] ∧
   t = { s with host := { s.host with latches := Store.erase s.host.latches k }, out := t.out }) ∧
  (let s : State := resting
   let fn : Nat := 0
   let off : Nat := 0xE02C
   mapped fn off = true ∧ latchPairs.find? (fun p => p.1 == (s.home fn off).2) = none ∧
   let k := (s.home fn off).1 * 0x200000 + (s.home fn off).2
   Store.get? s.host.latches k = none ∧ does (.loReadLatch fn off) s = (s.shown fn off (s.readWord fn off))) := by
  refine ⟨?_, ?_, ?_, ?_, ?_⟩ <;> (decide +kernel)

/-- R219, R474, R235: the zero gate, its lock, and the hot region. -/
theorem test_arrayConfig :
  (let s : State := resting
   let v : Nat := 1
   (bits v 0 1 = 0 ∨ s.gateLocked = false) ∧
   does (.mxaCtrlWrite v) s = ((s.set Reg.MXA_CTRL_ZERO_GATE_EN (bits v 0 1)).retain 0x50000)) ∧
  (let s : State := { keyed with sec := { keyed.sec with keys := [(1, { policy with require := 1 })] } }
   let v : Nat := 1
   bits v 0 1 = 1 ∧ s.gateLocked = true ∧ does (.mxaCtrlWrite v) s = (s.secErr Reg.SEC_ERR_POLICY_LOCK)) ∧
  (let s : State := resting
   let v : Nat := 2
   s.seqAtRest = true ∧ s.data.hotSlots = [] ∧ bits v 0 2 ≠ 3 ∧
   does (.mtfHotCfgWrite v) s = (((s.set Reg.MTF_HOT_CFG_AREA (bits v 0 2)).retain 0x70000).recheck)) ∧
  (let s : State := resting
   let v : Nat := 3
   (s.seqAtRest = false ∨ s.data.hotSlots ≠ [] ∨ bits v 0 2 = 3) ∧
   does (.mtfHotCfgWrite v) s = (s.set Reg.MTF_ERR_CFG_REJECT 1)) := by
  refine ⟨?_, ?_, ?_, ?_⟩ <;> (decide +kernel)

/-- R364, R365, R255: pausing, the dirty limits, lending and wear. -/
theorem test_moveConfig :
  (let s : State := resting
   let v : Nat := 2
   let a := (s.set Reg.MOV_CTRL_PAUSE (bits v 0 1)).set Reg.MOV_CTRL_WB_EN (bits v 1 1)
   let live := s.tier.moves.filter (fun m => m.running && !m.stopped)
   s.reg Reg.MOV_CTRL_PAUSE = bits v 0 1 ∧ does (.movPause v) s = a) ∧
  (let s : State := resting
   let v : Nat := 1
   let a := (s.set Reg.MOV_CTRL_PAUSE (bits v 0 1)).set Reg.MOV_CTRL_WB_EN (bits v 1 1)
   let live := s.tier.moves.filter (fun m => m.running && !m.stopped)
   s.reg Reg.MOV_CTRL_PAUSE = 0 ∧ bits v 0 1 = 1 ∧
   does (.movPause v) s = ((live.foldl (fun (t : State) m => t.writeProgress m 2 .ok) a).set Reg.MOV_STATUS_PAUSED 1)) ∧
  (let s : State := resting.set Reg.MOV_CTRL_PAUSE 1
   let v : Nat := 0
   let a := (s.set Reg.MOV_CTRL_PAUSE (bits v 0 1)).set Reg.MOV_CTRL_WB_EN (bits v 1 1)
   let live := s.tier.moves.filter (fun m => m.running && !m.stopped)
   s.reg Reg.MOV_CTRL_PAUSE = 1 ∧ bits v 0 1 = 0 ∧
   does (.movPause v) s = ((live.foldl (fun (t : State) m => t.writeProgress m 1 .ok) a).set Reg.MOV_STATUS_PAUSED 0)) ∧
  (let s : State := resting
   let v : Nat := 256 + 65536 * 60000
   let l := bits v 0 16
   let d := bits v 16 16
   16 ≤ l ∧ l ≤ 256 ∧ 10 ≤ d ∧ d ≤ 60000 ∧
   does (.movDirtyCfgWrite v) s = (((s.set Reg.MOV_DIRTY_CFG_DIRTY_LIMIT l).set Reg.MOV_DIRTY_CFG_WB_DELAY d).retain 0x80004)) ∧
  (let s : State := resting
   let v : Nat := 257 + 65536 * 60000
   let l := bits v 0 16
   let d := bits v 16 16
   ¬ (16 ≤ l ∧ l ≤ 256 ∧ 10 ≤ d ∧ d ≤ 60000) ∧ does (.movDirtyCfgWrite v) s = s.movReject) ∧
  (let s : State := resting
   let v : Nat := 192
   bits v 0 9 ≤ 192 ∧ does (.movLendCfgWrite v) s = ((s.set Reg.MOV_LEND_CFG_LEND_MAX (bits v 0 9)).retain 0x80020)) ∧
  (let s : State := resting
   let v : Nat := 193
   192 < bits v 0 9 ∧ does (.movLendCfgWrite v) s = s.movReject) ∧
  (let s : State := resting
   let v : Nat := 50 + 256 * 2
   let w := bits v 0 6
   let l := bits v 8 4
   5 ≤ w ∧ w ≤ 50 ∧ 2 ≤ l ∧ l ≤ 10 ∧
   does (.ftlCfgWrite v) s = (((s.set Reg.FTL_CFG_WEAR_SHARE w).set Reg.FTL_CFG_LOW_MARK l).retain 0x90004)) ∧
  (let s : State := resting
   let v : Nat := 51 + 256 * 2
   let w := bits v 0 6
   let l := bits v 8 4
   ¬ (5 ≤ w ∧ w ≤ 50 ∧ 2 ≤ l ∧ l ≤ 10) ∧ does (.ftlCfgWrite v) s = (s.set Reg.FTL_ERR_CFG_REJECT 1)) := by
  refine ⟨?_, ?_, ?_, ?_, ?_, ?_, ?_, ?_, ?_⟩ <;> (decide +kernel)

/-- R406, R560, R571, R582, R583: staging, the limit, the slope and the throttle temperatures. -/
theorem test_powerConfig :
  (let s : State := resting
   let v : Nat := 2
   s.seqAtRest = true ∧ bits v 0 2 ≠ 3 ∧
   does (.lnkStageCfgWrite v) s = ((s.set Reg.LNK_STAGE_CFG_SIZE (bits v 0 2)).retain 0xA0010)) ∧
  (let s : State := resting
   let v : Nat := 3
   (s.seqAtRest = false ∨ bits v 0 2 = 3) ∧
   does (.lnkStageCfgWrite v) s = (s.err Reg.LNK_ERR_CFG_REJECT Reg.LNK_INT_EN_EN 7 6)) ∧
  (let s : State := resting
   let v : Nat := 1600
   let w := bits v 0 11
   800 ≤ w ∧ w ≤ 1600 ∧ does (.pwrLimitWrite v) s = ((s.set Reg.PWR_LIMIT_LIMIT_W w).retain 0xC0008)) ∧
  (let s : State := resting
   let v : Nat := 1601
   let w := bits v 0 11
   ¬ (800 ≤ w ∧ w ≤ 1600) ∧ does (.pwrLimitWrite v) s = (s.pwrErr Reg.PWR_ERR_CFG_REJECT)) ∧
  (let s : State := resting
   let v : Nat := 5
   let w := bits v 0 7
   let t := (s.set Reg.PWR_RAMP_SLOPE w).retain 0xC000C
   s.seqAtRest = true ∧ 5 ≤ w ∧ w ≤ 100 ∧ s.reg Reg.PWR_RAMP_SLOPE ≠ w ∧ does (.pwrRampWrite v) s = t.recheck) ∧
  (let s : State := resting
   let v : Nat := resting.reg Reg.PWR_RAMP_SLOPE
   let w := bits v 0 7
   let t := (s.set Reg.PWR_RAMP_SLOPE w).retain 0xC000C
   s.seqAtRest = true ∧ 5 ≤ w ∧ w ≤ 100 ∧ s.reg Reg.PWR_RAMP_SLOPE = w ∧ does (.pwrRampWrite v) s = t) ∧
  (let s : State := resting
   let v : Nat := 101
   let w := bits v 0 7
   let t := (s.set Reg.PWR_RAMP_SLOPE w).retain 0xC000C
   (s.seqAtRest = false ∨ w < 5 ∨ 100 < w) ∧ does (.pwrRampWrite v) s = (s.pwrErr Reg.PWR_ERR_CFG_REJECT)) ∧
  (let s : State := resting
   let v : Nat := 80 + 256 * 85
   let d := bits v 0 8
   let h := bits v 8 8
   80 ≤ d ∧ d ≤ 100 ∧ 75 ≤ h ∧ h ≤ 85 ∧
   does (.thmLimitsWrite v) s = (((s.set Reg.THM_LIMITS_DIE_THROTTLE d).set Reg.THM_LIMITS_HBM_THROTTLE h).retain 0xD0010)) ∧
  (let s : State := resting
   let v : Nat := 101 + 256 * 75
   let d := bits v 0 8
   let h := bits v 8 8
   ¬ (80 ≤ d ∧ d ≤ 100 ∧ 75 ≤ h ∧ h ≤ 85) ∧ does (.thmLimitsWrite v) s = (s.thmErr Reg.THM_ERR_CFG_REJECT)) := by
  refine ⟨?_, ?_, ?_, ?_, ?_, ?_, ?_, ?_, ?_⟩ <;> (decide +kernel)

/-- R578, R579: a marker's threshold is written; another register is not. -/
theorem test_markThresh :
  (let s : State := resting
   let off : Nat := 0xD0018
   let v : Nat := 0xFFFFFFFF
   off ∈ markRegs ∧
   let a := s.writeWord (s.home 0 off).1 off v (fun _ => true)
   let keys := ((Reg.fieldsAt off).filter (fun f => f.acc == .rw1c)).map (regKey (s.home 0 off).1)
   does (.markThreshWrite off v) s = (State.retain { a with pwr := { a.pwr with beyond := a.pwr.beyond.filter (fun k => !keys.contains k) } } off)) ∧
  (let s : State := resting
   let off : Nat := 0
   let v : Nat := 1
   off ∉ markRegs ∧ does (.markThreshWrite off v) s = s) := by
  refine ⟨?_, ?_⟩ <;> (decide +kernel)

/-- R501: a queue is enabled, one too small is not, and an enabled one keeps its base. -/
theorem test_queueConfig :
  (let s := resting
queueAt 0x1008 = some (sqReg Reg.HQ_SQ0_CFG_EN 0, sqReg Reg.HQ_SQ0_CFG_SIZE 0, 15) ∧
(sqReg Reg.HQ_SQ0_CFG_SIZE 0).off = 0x1008 ∧ s.getF 1 (sqReg Reg.HQ_SQ0_CFG_EN 0) = 0 ∧
(does (.queueConfigWrite 1 0x1008 (15 + 65536)) s).getF 1 (sqReg Reg.HQ_SQ0_CFG_EN 0) = 1 ∧
(does (.queueConfigWrite 1 0x1008 (14 + 65536)) s).getF 1 (sqReg Reg.HQ_SQ0_CFG_EN 0) = 0) ∧
  (let s := does (.queueConfigWrite 1 0x1008 (15 + 65536)) resting
queueAt 0x1004 = some (sqReg Reg.HQ_SQ0_CFG_EN 0, sqReg Reg.HQ_SQ0_CFG_SIZE 0, 15) ∧
s.getF 1 (sqReg Reg.HQ_SQ0_CFG_EN 0) = 1 ∧ (sqReg Reg.HQ_SQ0_CFG_SIZE 0).off ≠ 0x1004 ∧
does (.queueConfigWrite 1 0x1004 4096) s = s.fnErr 1 Reg.GLB_FN_ERR_CFG_REJECT) ∧
  (let s : State := resting
   let fn : Nat := 1
   let off : Nat := 0x110C
   let v : Nat := 1
   queueAt off = none ∧ does (.queueConfigWrite fn off v) s = s) := by
  refine ⟨?_, ?_, ?_⟩ <;> (decide +kernel)

/-! ### Requests to blocks -/

/-- The context block of a function. -/
def block (s : State) (fn : Nat) : CtxBlock := (Store.get? s.tier.ctx fn).getD (CtxBlock.init fn 1)

/-- R320: a stream is read, and loaded. -/
theorem test_rngRead :
  (let s : State := resting.set Reg.RNG_SEL_STREAM 15
   let fn : Nat := 0
   let v : Nat := 1
   let c : CtxBlock := block resting 0
   fn ≤ 1024 ∧ v % 16 = 1 ∧ Store.get? s.tier.ctx fn = some c ∧
   let w := s.writeWord fn 0xE024 v (fun f => !f.own)
   let st := c.stream fn (w.getF fn Reg.RNG_SEL_STREAM)
   let t := does (.rngRead fn v) s
   t.getF fn Reg.RNG_KEY0_KEY0 = st.key0.toNat ∧ t.getF fn Reg.RNG_KEY1_KEY1 = st.key1.toNat ∧
   t.getF fn Reg.RNG_CTR0_CTR0 = st.counter.toNat % 2 ^ 32 ∧
   t.getF fn Reg.RNG_CTR1_CTR1 = st.counter.toNat / 2 ^ 32 % 2 ^ 32 ∧
   t.getF fn Reg.RNG_CTR2_CTR2 = st.counter.toNat / 2 ^ 64 % 2 ^ 32 ∧
   t.getF fn Reg.RNG_CTR3_CTR3 = st.counter.toNat / 2 ^ 96 ∧
   t.getF fn Reg.RNG_CTL_WORD = st.word % 2 ^ Reg.RNG_CTL_WORD.width ∧
   t.getF fn Reg.RNG_CTL_USE = st.use % 2 ^ Reg.RNG_CTL_USE.width ∧ t.getF fn Reg.RNG_COMMITS_COMMITS = st.commits % 2 ^ 32 ∧
   t.getF fn Reg.RNG_CMD_DONE = 1 ∧ t.getF fn Reg.RNG_SEL_STREAM = s.getF fn Reg.RNG_SEL_STREAM ∧
   t = { s with regs := t.regs }) ∧
  (let s : State := sets [(Reg.RNG_CTR3_CTR3, 0xFFFFFFFF), (Reg.RNG_KEY0_KEY0, 5)] resting
   let fn : Nat := 0
   let v : Nat := 2
   let c : CtxBlock := block resting 0
   fn ≤ 1024 ∧ v % 16 = 2 ∧ Store.get? s.tier.ctx fn = some c ∧ s.rngBusy fn = false ∧ s.getF fn Reg.RNG_CTL_USE ≠ 3 ∧
   (∀ f ∈ [Reg.RNG_CTR0_CTR0, Reg.RNG_CTR1_CTR1, Reg.RNG_CTR2_CTR2, Reg.RNG_CTR3_CTR3], s.getF fn f < 2 ^ 32)) := by
  refine ⟨?_, ?_⟩ <;> (decide +kernel)

/-- R320: a key is asked for and a stream reset, unless the function has work. -/
theorem test_rngRequests :
  (let s : State := resting
   let fn : Nat := 0
   let v : Nat := 4
   let c : CtxBlock := block resting 0
   fn ≤ 1024 ∧ Store.get? s.tier.ctx fn = some c ∧ s.rngBusy fn = false ∧
   let w := s.writeWord fn 0xE024 v (fun f => !f.own)
   let k := s.getF fn Reg.RNG_SEL_STREAM
   v % 16 = 4 ∧ does (.rngDerive fn v) s = { w with host := { w.host with derives := s.host.derives ++ [(fn, k)] } }) ∧
  (let s : State := resting
   let fn : Nat := 0
   let v : Nat := 8
   let c : CtxBlock := block resting 0
   fn ≤ 1024 ∧ Store.get? s.tier.ctx fn = some c ∧ s.rngBusy fn = false ∧
   let w := s.writeWord fn 0xE024 v (fun f => !f.own)
   let k := s.getF fn Reg.RNG_SEL_STREAM
   v % 16 = 8 ∧ does (.rngReset fn v) s = (w.putStream fn k c (Stream.default fn k))) ∧
  (let s : State := busy
   let fn : Nat := 0
   let v : Nat := 2
   let c : CtxBlock := block busy 0
   fn ≤ 1024 ∧ Store.get? s.tier.ctx fn = some c ∧ s.rngBusy fn = true ∧
   let w := s.writeWord fn 0xE024 v (fun f => !f.own)
   v % 16 = 2 ∧ s.getF fn Reg.RNG_CTL_USE ≠ 3 ∧ does (.rngLoad fn v) s = (w.setF fn Reg.RNG_CMD_BUSY_ERR 1)) ∧
  (let s : State := busy.set Reg.RNG_CTL_USE 3
   let fn : Nat := 0
   let v : Nat := 2
   let c : CtxBlock := block busy 0
   fn ≤ 1024 ∧ Store.get? s.tier.ctx fn = some c ∧ s.rngBusy fn = true ∧
   let w := s.writeWord fn 0xE024 v (fun f => !f.own)
   v % 16 = 2 ∧ s.getF fn Reg.RNG_CTL_USE = 3 ∧ does (.rngLoad fn v) s = (w.setF fn Reg.RNG_CMD_ARG_ERR 1)) ∧
  (let s : State := busy
   let fn : Nat := 0
   let v : Nat := 4
   let c : CtxBlock := block busy 0
   fn ≤ 1024 ∧ Store.get? s.tier.ctx fn = some c ∧ s.rngBusy fn = true ∧
   let w := s.writeWord fn 0xE024 v (fun f => !f.own)
   v % 16 = 4 ∧ does (.rngDerive fn v) s = (w.setF fn Reg.RNG_CMD_BUSY_ERR 1)) ∧
  (let s : State := busy
   let fn : Nat := 0
   let v : Nat := 8
   let c : CtxBlock := block busy 0
   fn ≤ 1024 ∧ Store.get? s.tier.ctx fn = some c ∧ s.rngBusy fn = true ∧
   let w := s.writeWord fn 0xE024 v (fun f => !f.own)
   v % 16 = 8 ∧ does (.rngReset fn v) s = (w.setF fn Reg.RNG_CMD_BUSY_ERR 1)) ∧
  (let s : State := resting
   let fn : Nat := 0
   let v : Nat := 9
   let i : Nat := 3
   let c : Instr := .rngReset 0 9
   (i, c) ∈ [(0, Instr.rngRead fn v), (1, .rngLoad fn v), (2, .rngDerive fn v), (3, .rngReset fn v)] ∧ bit v i = true ∧
   v % 16 ≠ 2 ^ i ∧ does c s = ((s.writeWord fn 0xE024 v (fun f => !f.own)).setF fn Reg.RNG_CMD_ARG_ERR 1)) := by
  refine ⟨?_, ?_, ?_, ?_, ?_, ?_, ?_⟩ <;> (decide +kernel)

/-- R311, R320: the oldest request of a function completes. -/
theorem test_deriveDone :
  (let s : State := { resting with host := { resting.host with derives := [(1, 0), (0, 15)] } }
   let fn : Nat := 0
   let k : Nat := 15
   let c : CtxBlock := block resting 0
   let l : List (Nat × Nat) := [(1, 0)]
   let m : List (Nat × Nat) := []
   fn ≤ 1024 ∧ (∀ d ∈ l, d.1 ≠ fn) ∧ s.host.derives = l ++ (fn, k) :: m ∧ Store.get? s.tier.ctx fn = some c ∧
   k < c.streams.length) := by
  decide +kernel

/-- R330: an entry is shown, one that is not there, and a context block's. -/
theorem test_ttRead :
  (let s : State := sets [(Reg.MOV_TT_SEL_FN_FUNCTION, 1), (Reg.MOV_TT_SEL_IDX_INDEX, 3)] owner
   let e := tensor 1 3 .near .data 0 2 0x1000
   let k := ttKey (s.reg Reg.MOV_TT_SEL_FN_FUNCTION) (s.reg Reg.MOV_TT_SEL_IDX_INDEX)
   s.reg Reg.MOV_TT_SEL_IDX_INDEX ≠ 0xFFFFFF ∧ s.entry k = some e ∧
   let t := does .movTtRead s
   (∀ i ∈ List.range 16, t.reg (Reg.MOV_TT_DATA0_WORD.at (4 * i)) = leField e.bytes (4 * i) 4 % 2 ^ 32) ∧
   t.reg Reg.MOV_TT_CMD_DONE = 1 ∧ t = { s with regs := t.regs }) ∧
  (let s : State := sets [(Reg.MOV_TT_SEL_FN_FUNCTION, 1), (Reg.MOV_TT_SEL_IDX_INDEX, 0xFFFFFE)] owner
   let k := ttKey (s.reg Reg.MOV_TT_SEL_FN_FUNCTION) (s.reg Reg.MOV_TT_SEL_IDX_INDEX)
   s.reg Reg.MOV_TT_SEL_IDX_INDEX ≠ 0xFFFFFF ∧ s.entry k = none ∧
   let t := does .movTtRead s
   (∀ i ∈ List.range 16, t.reg (Reg.MOV_TT_DATA0_WORD.at (4 * i)) = 0) ∧ t.reg Reg.MOV_TT_CMD_ABSENT = 1 ∧
   t = { s with regs := t.regs }) ∧
  (let s : State := sets [(Reg.MOV_TT_SEL_FN_FUNCTION, 1), (Reg.MOV_TT_SEL_IDX_INDEX, 0xFFFFFF)] owner
   let e := s.ctxEntry (s.reg Reg.MOV_TT_SEL_FN_FUNCTION)
   s.reg Reg.MOV_TT_SEL_IDX_INDEX = 0xFFFFFF ∧ (Store.get? s.tier.ctx (s.reg Reg.MOV_TT_SEL_FN_FUNCTION)).isSome = true) := by
  refine ⟨?_, ?_, ?_⟩ <;> (decide +kernel)

/-- R489, R490: the log of a VF enabled, stopped and started. -/
theorem test_dirtyPages :
  (let s : State := sets [(Reg.SEC_DPL_SEL_VF, 1024)] tenant
   let vf := s.reg Reg.SEC_DPL_SEL_VF
   s.getF vf Reg.SEC_DPL_CTL_EN = 0 ∧ does (.dplEnable true) s = ((s.setF vf Reg.SEC_DPL_CTL_EN 1).tdiError vf 2)) ∧
  (let s : State := (sets [(Reg.SEC_DPL_SEL_VF, 1024)] tenant).setF 1024 Reg.SEC_DPL_CTL_EN 1
   let vf := s.reg Reg.SEC_DPL_SEL_VF
   s.getF vf Reg.SEC_DPL_CTL_EN ≠ 0 ∧ does (.dplEnable true) s = (s.setF vf Reg.SEC_DPL_CTL_EN 1)) ∧
  (let s : State := { (sets [(Reg.SEC_DPL_SEL_VF, 1)] tenant) with sec := { tenant.sec with tdi := [(1, 2)] } }
   let vf := s.reg Reg.SEC_DPL_SEL_VF
   (Store.getD s.sec.tdi vf 0 = 1 ∨ Store.getD s.sec.tdi vf 0 = 2) ∧ Store.getD (s.tdiError vf 2).sec.tdi vf 0 = 3) := by
  refine ⟨?_, ?_, ?_⟩ <;> (decide +kernel)

/-! ### The Firmware Complex -/

/-- A trap of component 2 on core 3, from an illegal instruction. -/
def trap (comp cause : Nat) (mmode emergency : Bool) : TrapOp := ⟨3, comp, cause, mmode, emergency, 0x8000, 0x4000, 0x8000, 0x100, 0, 0x104, 2, 1000⟩

/-- R534 to R536: an interrupt, a fault of the kernel and of another component, and a nested one. -/
theorem test_trapEntry :
  (let s : State := resting
   let o : TrapOp := trap 2 0 false false
   s.coresRun = true ∧ o.core < 4 ∧ o.comp < 7 ∧ o.cause ≤ 0x0A ∧ o.emergency = false ∧
   let cause := if o.badStack then 1 else o.cause
   let ctx : TrapCtx := ⟨o.badStack, o.sp, o.ra, o.mepc, o.mtval, o.mcause⟩
   let flags := b2n o.badStack + 2 * b2n o.mmode
   let a : State := { s with fw := { s.fw with saved := Store.put s.fw.saved o.core ctx } }
   cause = 0 ∧ does (.trapEntry o) s = a) ∧
  (let s : State := resting
   let o : TrapOp := trap 1 0x0A false false
   s.coresRun = true ∧ o.core < 4 ∧ o.comp < 7 ∧ o.cause ≤ 0x0A ∧ o.emergency = false ∧
   let cause := if o.badStack then 1 else o.cause
   let ctx : TrapCtx := ⟨o.badStack, o.sp, o.ra, o.mepc, o.mtval, o.mcause⟩
   let flags := b2n o.badStack + 2 * b2n o.mmode
   let a : State := { s with fw := { s.fw with saved := Store.put s.fw.saved o.core ctx } }
   cause ≠ 0 ∧ (o.mmode = true ∨ o.comp ≤ 1)) ∧
  (let s : State := resting
   let o : TrapOp := trap 6 2 false false
   s.coresRun = true ∧ o.core < 4 ∧ o.comp < 7 ∧ o.cause ≤ 0x0A ∧ o.emergency = false ∧
   let cause := if o.badStack then 1 else o.cause
   let ctx : TrapCtx := ⟨o.badStack, o.sp, o.ra, o.mepc, o.mtval, o.mcause⟩
   let flags := b2n o.badStack + 2 * b2n o.mmode
   let a : State := { s with fw := { s.fw with saved := Store.put s.fw.saved o.core ctx } }
   cause ≠ 0 ∧ o.mmode = false ∧ 2 ≤ o.comp ∧
   does (.trapEntry o) s = ((a.faultRecord o cause flags).failComponent o.comp o.now)) ∧
  (let s : State := resting
   let o : TrapOp := trap 0 0 true true
   s.coresRun = true ∧ o.core < 4 ∧ o.comp < 7 ∧ o.cause ≤ 0x0A ∧ o.emergency = true) := by
  refine ⟨?_, ?_, ?_, ?_⟩ <;> (decide +kernel)

/-- R537, R541: components restart three times in a while, the fourth resets the complex. -/
theorem test_restarts :
  (let s : State := resting
   let comp : Nat := 6
   let now : Nat := 0
   comp < 7 ∧ s.recentRestarts comp now < 3 ∧
   let t := s.failComponent comp now
   (t.reg Reg.GLB_FW_STATUS_FAILED).testBit comp = true ∧ t.reg Reg.GLB_FW_STATUS_COMPLEX_UP = 0 ∧
   Store.get? t.fw.missed comp = none ∧ t.recentRestarts comp now = s.recentRestarts comp now + 1) ∧
  (let s : State := ((resting.failComponent 2 0).failComponent 2 1).failComponent 2 2
   let comp : Nat := 2
   let now : Nat := 3
   3 ≤ s.recentRestarts comp now) := by
  refine ⟨?_, ?_⟩ <;> (decide +kernel)

/-- R538: every component answers, or one misses its second time. -/
theorem test_heartbeat :
  (let s : State := { resting with fw := { resting.fw with missed := [(2, 1)] } }
   let answered : List Nat := [2, 3, 4, 5, 6]
   let now : Nat := 0
   s.coresRun = true ∧ bit (s.reg Reg.GLB_FW_STATUS_HALTED) 0 = false ∧ (∀ c ∈ [2, 3, 4, 5, 6], c ∈ answered) ∧
   does (.supervisorHeartbeat answered now) s = { s with fw := { s.fw with missed := s.fw.missed.filter (fun m => !answered.contains m.1) } }) ∧
  (let s : State := { resting with fw := { resting.fw with missed := [(6, 1)] } }
   let c : Nat := 6
   let now : Nat := 0
   s.coresRun = true ∧ s.reg Reg.GLB_FW_STATUS_HALTED = 0 ∧ s.reg Reg.GLB_FW_STATUS_FAILED = 0 ∧ c ∈ [2, 3, 4, 5, 6] ∧
   let others := ([2, 3, 4, 5, 6] : List Nat).erase c
   let missed := s.fw.missed.filter (fun m => !others.contains m.1)
   Store.getD missed c 0 < 2 ∧
   does (.supervisorHeartbeat others now) s = { s with fw := { s.fw with missed := Store.put missed c (Store.getD missed c 0 + 1) } }) := by
  refine ⟨?_, ?_⟩ <;> (decide +kernel)

/-- R537, R540: restarts end. -/
theorem test_restarted :
  (let s : State := resting.failComponent 2 0
   let comp : Nat := 2
   let us : Nat := 9
   s.coresRun = true ∧ comp < 7 ∧ comp ≠ 3 ∧ comp ≠ 6 ∧ (s.reg Reg.GLB_FW_STATUS_FAILED).testBit comp = true ∧
   s.reg Reg.GLB_FW_STATUS_FAILED < 2 ^ Reg.GLB_FW_STATUS_FAILED.width ∧
   let t := does (.componentRestarted comp us) s
   (t.reg Reg.GLB_FW_STATUS_FAILED).testBit comp = false ∧
   (t.reg Reg.GLB_FW_STATUS_COMPLEX_UP = 1 ↔ t.reg Reg.GLB_FW_STATUS_FAILED = 0) ∧
   t.reg Reg.GLB_FW_RESTARTS_COUNT = (s.reg Reg.GLB_FW_RESTARTS_COUNT + 1) % 2 ^ Reg.GLB_FW_RESTARTS_COUNT.width ∧
   t.reg Reg.GLB_FW_ERR_RESTART = 1 ∧ t.fw = s.fw) ∧
  (let s : State := resting.failComponent 6 0
   let us : Nat := 9
   s.coresRun = true ∧ (s.reg Reg.GLB_FW_STATUS_FAILED).testBit 6 = true ∧ s.fw.update = none ∧
   let t := does (.componentRestarted 6 us) s
   t.reg Reg.GLB_FW_ERR_RESTART = 1 ∧ t.fw = s.fw) ∧
  (let s : State := resting.failComponent 3 0
   let us : Nat := 9
   s.coresRun = true ∧ (s.reg Reg.GLB_FW_STATUS_FAILED).testBit 3 = true ∧ s.seq.builds = [] ∧
   let t := does (.componentRestarted 3 us) s
   t.reg Reg.GLB_FW_ERR_RESTART = 1 ∧ t.fw = s.fw ∧ t.seq = s.seq ∧ t.tier = s.tier ∧ t.data = s.data) := by
  refine ⟨?_, ?_, ?_⟩ <;> (decide +kernel)

/-- R538, R539, R541, R545: the watchdog, an SRAM error, a reset with a step running, and its end. -/
theorem test_complexReset :
  (let s : State := resting
   let now : Nat := 0
   s.mod.off = false ∧ s.reg Reg.GLB_FW_STATUS_HALTED = 0) ∧
  (let s : State := resting
   let core : Nat := 4
   let now : Nat := 0
   s.mod.off = false ∧ core ≤ 4) ∧
  (let s : State := { stepping with seq := { stepping.seq with active := true } }
   let cause : Nat := 8
   let comp : Nat := 1
   let flags : Nat := 0
   let now : Nat := 5
   s.reg Reg.GLB_FW_STATUS_RESETTING ≠ 1 ∧ s.fw.held = false ∧ s.reg Reg.GLB_FW_BANKS_TRIAL = 0 ∧
   (s.fw.resets.filter (fun t => now < t + 600000)).length < 3 ∧ s.seq.active = true ∧
   let t := s.complexReset cause comp flags now
   t.reg Reg.GLB_STATUS_READY = 0 ∧ t.reg Reg.GLB_FW_STATUS_RESETTING = 1 ∧ t.reg Reg.GLB_FW_STATUS_COMPLEX_UP = 0 ∧
   t.reg Reg.GLB_FW_STATUS_FAILED = 0 ∧ t.reg Reg.GLB_FW_ERR_COMPLEX_RESET = 1 ∧
   t.reg Reg.GLB_FW_RESETS_COUNT = (s.reg Reg.GLB_FW_RESETS_COUNT + 1) % 2 ^ Reg.GLB_FW_RESETS_COUNT.width ∧
   t.fw.update = none ∧ t.fw.resets = s.fw.resets.filter (fun t => now < t + 600000) ++ [now] ∧ t.host.fetched = [] ∧
   t.tier.near = s.tier.near ∧ t.tier.tt = s.tier.tt ∧ t.data = s.data ∧ t.serve = s.serve) ∧
  (let s : State := resting.complexReset 8 1 0 5
   let ms : Nat := 0
   s.reg Reg.GLB_FW_STATUS_RESETTING = 1 ∧ s.fw.held = false ∧ s.mod.off = false ∧ s.seq.active = false) := by
  refine ⟨?_, ?_, ?_, ?_⟩ <;> (decide +kernel)

/-- The Debug Module is active; core 3 is halted where `h`. -/
def debugging (h : Bool) : State := (resting.set Reg.GLB_FW_STATUS_DEBUG_ACTIVE 1).setHalted 3 h

/-- R550, R552: the Debug Module switched, and a core halted, resumed and stepped. -/
theorem test_debug :
  (let s : State := resting
   let on : Bool := true
   s.mod.off = false ∧ s.reg Reg.GLB_FW_STATUS_DEBUG_ACTIVE = b2n (!on) ∧
   let t := does (.debugActivate on) s
   t.reg Reg.GLB_FW_STATUS_DEBUG_ACTIVE = b2n on ∧ (on = true → t.reg Reg.GLB_FW_ERR_DEBUG_ATTACH = 1) ∧ t.fw = s.fw ∧
   t.reg Reg.GLB_FW_STATUS_DEBUG_ACTIVE = 1) ∧
  (let s : State := debugging false
   let core : Nat := 3
   s.debugs core = true ∧ s.isHalted core = false ∧ does (.debugHalt core) s = (s.setHalted core true) ∧
   does (.debugResume core) s = s ∧ does (.debugStep core) s = s) ∧
  (let s : State := debugging true
   let core : Nat := 3
   s.debugs core = true ∧ s.isHalted core = true ∧ does (.debugHalt core) s = s ∧
   does (.debugResume core) s = (s.setHalted core false) ∧
   does (.debugStep core) s = ((s.setHalted core false).setHalted core true)) ∧
  (let s : State := debugging true
   let core : Nat := 2
   let on : Bool := true
   core < 4 ∧
   let t := s.setHalted core on
   t.isHalted core = on ∧ (∀ c ∈ List.range 4, c ≠ core → t.isHalted c = s.isHalted c)) := by
  refine ⟨?_, ?_, ?_, ?_⟩ <;> (decide +kernel)

/-- R550: a register of a halted core is written, and read. -/
theorem test_abstract :
  (let s : State := debugging true
   let o : AbstractOp := ⟨3, 65535, true, 7⟩
   s.debugs o.core = true ∧ s.isHalted o.core = true ∧ o.reg < 65536 ∧ o.isWrite = true ∧
   let t := does (.debugAbstractCommand o) s
   Store.get? t.fw.coreRegs (65536 * o.core + o.reg) = some (o.value % 2 ^ 64) ∧
   t = { s with fw := { s.fw with coreRegs := t.fw.coreRegs } }) ∧
  (let s : State := debugging true
   let o : AbstractOp := ⟨3, 0x1000, false, 0⟩
   s.debugs o.core = true ∧ s.isHalted o.core = true ∧ o.reg < 65536 ∧ o.isWrite = false) := by
  refine ⟨?_, ?_⟩ <;> (decide +kernel)

/-- R551: an access to the near tier, a unit's storage, elsewhere, and the SRAMs. -/
theorem test_sysbus :
  (let s : State := debugging false
   let o : BusOp := ⟨.near, 0x100000, true, [1, 2], 0⟩
   s.mod.off = false ∧ s.reg Reg.GLB_FW_STATUS_DEBUG_ACTIVE ≠ 0 ∧ o.space = .near ∧ o.isWrite = true ∧
   does (.debugSysbusAccess o) s = ((s.openWrite o.addr o.data).denyFrames .dbg true o.addr o.data.length)) ∧
  (let s : State := debugging false
   let o : BusOp := ⟨.near, 0x100000, false, [], 4⟩
   s.mod.off = false ∧ s.reg Reg.GLB_FW_STATUS_DEBUG_ACTIVE ≠ 0 ∧ o.space = .near ∧ o.isWrite = false ∧
   does (.debugSysbusAccess o) s = ((s.denyFrames .dbg false o.addr o.count).say jtagPort (s.openRead o.addr o.count))) ∧
  (let s : State := debugging false
   let o : BusOp := ⟨.unit 3, 0, false, [], 4⟩
   let k := 3
   s.mod.off = false ∧ s.reg Reg.GLB_FW_STATUS_DEBUG_ACTIVE ≠ 0 ∧ o.space = .unit k) ∧
  (let s : State := debugging false
   let o : BusOp := ⟨.elsewhere, 0, true, [1], 0⟩
   s.mod.off = false ∧ s.reg Reg.GLB_FW_STATUS_DEBUG_ACTIVE ≠ 0 ∧ o.space = .elsewhere) ∧
  (let s : State := debugging false
   let o : BusOp := ⟨.sram 4, 65534, true, [1, 2], 0⟩
   let k := 4
   s.mod.off = false ∧ s.reg Reg.GLB_FW_STATUS_DEBUG_ACTIVE ≠ 0 ∧ o.space = .sram k ∧ o.isWrite = true ∧
   (∀ i, i < o.data.length → inSram k (o.addr + i) = true) ∧
   let t := does (.debugSysbusAccess o) s
   t = { s with fw := { s.fw with sram := t.fw.sram } } ∧
   Store.get? t.fw.sram (4 * 2 ^ 20 + 65535) = some 2) ∧
  (let s : State := debugging false
   let o : BusOp := ⟨.sram 0, 262142, false, [], 4⟩
   let k := 0
   s.mod.off = false ∧ s.reg Reg.GLB_FW_STATUS_DEBUG_ACTIVE ≠ 0 ∧ o.space = .sram k ∧ o.isWrite = false) := by
  refine ⟨?_, ?_, ?_, ?_, ?_, ?_⟩ <;> (decide +kernel)

/-- R469, R616: the TAP's instructions, EXTEST in PRODUCTION with a tenant among them. -/
theorem test_tap :
  (let s : State := resting
   let ir : TapInstr := .idcode
   let production := s.reg Reg.SEC_STATUS_LIFECYCLE = 1
   let idle := (∀ c ∈ s.tier.ctx, c.1 = 0 ∨ s.getF c.1 Reg.GLB_FN_STATE_STATE = 0) ∧ s.sec.baseKeys = []
   let tapAt := fun (n : Nat) => ({ s with fw := { s.fw with tap := n } } : State)
   ir = .idcode ∧ does (.jtagInstructionLoad ir) s = ((tapAt 0).say jtagPort (leBytes idcode 4))) ∧
  (let s : State := resting
   let ir : TapInstr := .bypass
   let production := s.reg Reg.SEC_STATUS_LIFECYCLE = 1
   let idle := (∀ c ∈ s.tier.ctx, c.1 = 0 ∨ s.getF c.1 Reg.GLB_FN_STATE_STATE = 0) ∧ s.sec.baseKeys = []
   let tapAt := fun (n : Nat) => ({ s with fw := { s.fw with tap := n } } : State)
   ir = .bypass ∧ does (.jtagInstructionLoad ir) s = (tapAt 1)) ∧
  (let s : State := resting
   let ir : TapInstr := .sample
   let production := s.reg Reg.SEC_STATUS_LIFECYCLE = 1
   let idle := (∀ c ∈ s.tier.ctx, c.1 = 0 ∨ s.getF c.1 Reg.GLB_FN_STATE_STATE = 0) ∧ s.sec.baseKeys = []
   let tapAt := fun (n : Nat) => ({ s with fw := { s.fw with tap := n } } : State)
   ir = .sample ∧ does (.jtagInstructionLoad ir) s = (tapAt 2)) ∧
  (let s : State := resting
   let ir : TapInstr := .debug
   let production := s.reg Reg.SEC_STATUS_LIFECYCLE = 1
   let idle := (∀ c ∈ s.tier.ctx, c.1 = 0 ∨ s.getF c.1 Reg.GLB_FN_STATE_STATE = 0) ∧ s.sec.baseKeys = []
   let tapAt := fun (n : Nat) => ({ s with fw := { s.fw with tap := n } } : State)
   ir = .debug ∧ does (.jtagInstructionLoad ir) s = (tapAt 4)) ∧
  (let s := tenant
s.reg Reg.SEC_STATUS_LIFECYCLE = 1 ∧ ¬ (∀ c ∈ s.tier.ctx, c.1 = 0 ∨ s.getF c.1 Reg.GLB_FN_STATE_STATE = 0) ∧
does (.jtagInstructionLoad .extest) s = ({ s with fw := { s.fw with tap := 1 } } : State).secErr Reg.SEC_ERR_JTAG_REFUSED ∧
does (.jtagInstructionLoad .other) s = { s with fw := { s.fw with tap := 1 } }) ∧
  (let s := resting.set Reg.SEC_STATUS_LIFECYCLE 0
s.reg Reg.SEC_STATUS_LIFECYCLE ≠ 1 ∧ does (.jtagInstructionLoad .extest) s = { s with fw := { s.fw with tap := 3 } } ∧
does (.jtagInstructionLoad .other) s = { s with fw := { s.fw with tap := 5 } }) := by
  refine ⟨?_, ?_, ?_, ?_, ?_, ?_⟩ <;> (decide +kernel)

/-- An update session with a table of classes, what it has verified, and a component under way. -/
def updating (table verified : List Nat) (current : Option Nat) (size received : Nat) : State :=
  { resting with fw := { resting.fw with update := some ⟨table, current, size, received, verified, []⟩ } }

/-- R545 to R547: an update from its request to its activation. -/
theorem test_update :
  (resting.telemetryUp = true ∧ resting.fw.update = none ∧ (resting.set Reg.GLB_FW_STATUS_FAILED 64).telemetryUp = false ∧
(does .requestUpdate resting).fw.update = some ⟨[], none, 0, 0, [], []⟩) ∧
  (let s := updating [] [] none 0 0
s.telemetryUp = true ∧ (does (.passComponentTable [3, 0, 3]) s).fw.update = some ⟨[0, 3], none, 0, 0, [], []⟩) ∧
  (let s := updating [0, 3] [] none 0 0
bit (s.reg Reg.GLB_FW_BANKS_TRIAL) 3 = false ∧ (does (.updateComponent 3 4096) s).fw.update = some ⟨[0, 3], some 3, 4096, 0, [], []⟩) ∧
  (let s := updating [0, 3] [] (some 3) 4096 4095
(does (.requestFirmwareData 4096) s).fw.update = some ⟨[0, 3], some 3, 4096, 4096, [], []⟩ ∧
(does .cancelUpdateComponent s).fw.update = some ⟨[0, 3], none, 4096, 4095, [], []⟩) ∧
  (let s := updating [0] [0] none 0 0
(∀ c ∈ [0], c ∈ [0]) ∧ (does .activateFirmware s).fw.update = none ∧ Store.get? (does .activateFirmware s).fw.banks 0 = some 4) := by
  refine ⟨?_, ?_, ?_, ?_, ?_⟩ <;> (decide +kernel)

/-- R547: an image of the fused security version or later can be verified. -/
theorem test_verify :
    ∃ svn, let s := updating [0, 3] [] (some 3) 4096 4096
      s.telemetryUp = true ∧ s.fw.update = some ⟨[0, 3], some 3, 4096, 4096, [], []⟩ ∧ s.fusedSvn 3 ≤ svn :=
  ⟨_, by decide +kernel, rfl, Nat.le_refl _⟩

/-- R548, R549, R614, R615: a trial confirmed, thresholds and an endpoint id. -/
theorem test_platform :
  (let s := resting.set Reg.GLB_FW_BANKS_TRIAL 15
   s.reg Reg.GLB_FW_BANKS_TRIAL ≠ 0 ∧ s.reg Reg.GLB_FW_BANKS_TRIAL < 16 ∧ s.reg Reg.GLB_STATUS_READY ≠ 0) ∧
  (let s : State := resting
   let n : Nat := 35
   let lo : Nat := 1
   let hi : Nat := 2
   s.telemetryUp = true ∧ telSensor n = true ∧
   does (.setSensorThresholds n lo hi) s = (State.pldm { s with fw := { s.fw with thresholds := Store.put s.fw.thresholds n (lo, hi) } } 0 [])) ∧
  (let s : State := resting
   let bus : Nat := 1
   let eid : Nat := 256
   s.telemetryUp = true ∧ bus < 2 ∧
   does (.setEndpointId bus eid) s = { s with fw := { s.fw with eids := Store.put s.fw.eids bus (eid % 256) } }) := by
  refine ⟨?_, ?_, ?_⟩ <;> (decide +kernel)

/-! ### The machine as a whole -/

/-- The queue holds two commands. -/
def waiting : State := { resting with pending := [.quotaSnapshot, .digestPoint] }

/-- R9: the front of the queue runs, and the rest waits; an empty queue idles. -/
theorem test_step : (after (step waiting)).pending = [.digestPoint] ∧ State.reset.pending = [] ∧ after (step State.reset) = State.reset := by
  decide +kernel

/-- R7: some Reset values: READY, the pulse-skip and queue fields. -/
theorem test_resetValues :
    State.reset.reg Reg.GLB_STATUS_READY = 1 ∧ State.reset.reg Reg.GLB_CASTON_STEP = 15 ∧ State.reset.getF 1 (sqReg Reg.HQ_SQ0_CFG_SIZE 7) = 15 ∧
    State.reset.reg Reg.GLB_FN_STATE_STATE = 1 ∧ State.reset.getF 1024 Reg.GLB_FN_STATE_STATE = 0 := by
  decide +kernel

/-- The forms that every step keeps hold with bytes in memory and fields in the register file. -/
theorem test_forms :
    let s := { (resting.set Reg.PWR_LIMIT_LIMIT_W 1600) with tier := { resting.tier with near := [(5, 1), (65536, 255)], deep := [(0, 7)] } }
    s.MemWf ∧ s.RegsWf ∧ s.regs.length = 3 := by
  unfold State.MemWf State.RegsWf
  decide +kernel

/-- R474: a key with REQUIRE bit 0 locks the zero gate. -/
theorem test_policyLock :
    let s := { keyed with sec := { keyed.sec with baseKeys := [(7, { policy with require := 7 })] } }
    (7, { policy with require := 7 }) ∈ s.sec.keys ++ s.sec.baseKeys ∧ bit 7 0 = true ∧ (does (.mxaCtrlWrite 1) s).reg Reg.SEC_ERR_POLICY_LOCK = 1 ∧
    (does (.mxaCtrlWrite 1) s).reg Reg.MXA_CTRL_ZERO_GATE_EN = s.reg Reg.MXA_CTRL_ZERO_GATE_EN := by
  decide +kernel

/-- R499: the two addresses of one block. -/
theorem test_rngAlias : (does (.registerWrite 0 0xE0008 77) resting).readWord 0 0xE008 = 77 := by decide +kernel

/-- R579: a marker re-arms. -/
theorem test_markerRearms :
    0xD0018 ∈ markRegs ∧ (Reg.fieldsAt 0xD0018).any (fun f => f.acc == .rw1c) = true ∧ (Reg.fieldsAt 0xD0018).any (fun f => f.own) = true := by
  decide +kernel

/-- Premises of one line each: a roomy state mirrors nothing, an acknowledgement arrives, an inlet above 36.0 degrees, and a record without
swatches. -/
theorem test_smallPremises :
    State.reset.mirrors = false ∧ (neighbour.arriveFrame 3 0 true).isSome = true ∧ 360 < temp12 (361 % 4096) ∧ chat.swatches = [] ∧
    State.reset.mod.off = false ∧ (Store.get? tenant.tier.ctx 1).isSome = true ∧ (owner.allot 1 small).toOption.isSome = true ∧
    State.reset.tier.moves = [] := by
  decide +kernel

/-! ### Words and ill-formed terms -/

/-- A 128-bit word put together from values and their lowest bits, as a table of chapter 04 lays them out. -/
def word (l : List (Nat × Nat)) : TWord := BitVec.ofNat 128 ((l.map (fun (f : Nat × Nat) => f.1 * 2 ^ f.2)).foldl (· + ·) 0)

/-- The common fields: opcode, stage, unit, start and slot. -/
def common (op stage unit start cslot : Nat) : List (Nat × Nat) := [(op, 120), (stage, 117), (unit, 112), (start, 96), (cslot, 92)]

/-- What a word shows that issues in stage, unit, slot and start cycle of die 1's stream, at index 7. -/
def seen (stage unit start cslot : Nat) : Issue := ⟨1, stage, unit, cslot, start, 7, start, [], false, false, none, 0⟩

/-- R85, R139: FETCH.S, and its source as the roster of the step. -/
theorem test_word_fetch :
    decodeTrolum 1 7 (word (common 0x01 0 3 258 5 ++ [(9, 88), (0x1ABCDE, 67), (0x1234, 51), (0xABCDEF1, 23), (0x11, 18), (1, 16), (6, 13)])) =
      some (.fetchS (seen 0 3 258 5) ⟨9, 0x1ABCDE, 0x1234, 0xABCDEF1, 0x11, 1, 6⟩) := by decide +kernel

/-- R147: MX.RUNT. -/
theorem test_word_matrix :
    decodeTrolum 1 7 (word (common 0x42 2 31 65535 15 ++
      [(0x1FFFFF, 71), (2047, 55), (1025, 44), (0x10, 39), (0x09, 34), (0x100001, 13), (1, 12), (0, 11), (0x81, 3), (2, 1)])) =
      some (.mxRunt (seen 2 31 65535 15) ⟨0x1FFFFF, 2047, 1025, 0x10, 0x09, 0x100001, 1, 0, 0x81, 2⟩) := by decide +kernel

/-- R156: VC.RED. -/
theorem test_word_chain :
    decodeTrolum 1 7 (word (common 0x90 4 12 1 2 ++ [(0x200001, 70), (0x3FFFFE, 48), (0x8001, 32), (0xABC, 20), (5, 17), (3, 15)])) =
      some (.vcRed (seen 4 12 1 2) ⟨0x200001, 0x3FFFFE, 0x8001, 0xABC, 5, 3⟩) := by decide +kernel

/-- R160: PK.Q, whose word carries no stream. -/
theorem test_word_pack :
    decodeTrolum 1 7 (word (common 0xC0 5 2 9 1 ++ [(0x10001, 71), (0x10002, 50), (127, 34), (0x0C, 29), (1, 27), (1, 26), (0x11, 21)])) =
      some (.pkQ (seen 5 2 9 1) ⟨0x10001, 0x10002, 127, 0x0C, 1, 1, 0x11, 0⟩) := by decide +kernel

/-- R162, R165: CM.TENS and CM.MARK COMMIT with DSCHK. -/
theorem test_word_commit :
    decodeTrolum 1 7 (word (common 0xD0 6 0 77 3 ++ [(15, 88), (5, 67), (6, 51), (7, 23), (2, 18)])) =
      some (.cmTens (seen 6 0 77 3) ⟨15, 5, 6, 7, 2⟩) ∧
    decodeTrolum 1 7 (word (common 0xD3 6 0 77 3 ++ [(0, 88), (1, 87)])) = some (.cmMark (seen 6 0 77 3) ⟨0, 1⟩) := by decide +kernel

/-- R167, R168: LK.RECV, a long receive with the operands 9 and 10, one whose skein bits are not zero, and LK.RED. -/
theorem test_word_link :
    decodeTrolum 1 7 (word (common 0xE1 7 4 0 1 ++ [(0, 91), (33, 70), (3, 54), (0xBEEF, 38), (200, 30), (1, 29), (7, 26)])) =
      some (.lkRecv (seen 7 4 0 1) ⟨0, 33, 3, 0xBEEF, 200, 1, 7⟩) ∧
    decodeTrolum 1 7 (word (common 0xE1 7 4 0 1 ++ [(1, 91), (9, 87), (10, 83), (0xBEEF, 38)])) =
      some (.lkRecv (seen 7 4 0 1) ⟨1, 9 * 2 ^ 17 + 10 * 2 ^ 13, 0, 0xBEEF, 0, 0, 0⟩) ∧
    decodeTrolum 1 7 (word (common 0xE1 7 4 0 1 ++ [(1, 91), (1, 70), (0xBEEF, 38)])) = none ∧
    decodeTrolum 1 7 (word (common 0xE2 7 4 0 1 ++ [(1, 71), (2, 50), (3, 34), (4, 18), (5, 10), (2, 8), (6, 5)])) =
      some (.lkRed (seen 7 4 0 1) ⟨1, 2, 3, 4, 5, 2, 6⟩) := by decide +kernel

/-- R169 to R171: X.BAR and X.PROG; R127: a reserved opcode; R10: a reserved bit of X.PROG. -/
theorem test_word_control :
    decodeTrolum 1 7 (word (common 0xF0 7 0 4 0 ++ [(0x155555, 71), (12, 55)])) = some (.xBar (seen 7 0 4 0) ⟨0x155555, 12⟩) ∧
    decodeTrolum 1 7 (word (common 0xF2 7 0 4 0 ++ [(0xFEDC, 76)])) = some (.xProg (seen 7 0 4 0) ⟨0xFEDC⟩) ∧
    decodeTrolum 1 7 (word (common 0xF4 7 0 4 0)) = none ∧
    decodeTrolum 1 7 (word (common 0xF2 7 0 4 0 ++ [(1, 75)])) = none := by decide +kernel

/-- Function numbers end at 1,024. -/
theorem test_fnWf : (Instr.flr 1024).wf = true ∧ (Instr.flr 1025).wf = false := by decide +kernel

/-- There are sixteen links. -/
theorem test_linkWf : (Instr.keyReady 15).wf = true ∧ (Instr.keyReady 16).wf = false := by decide +kernel

/-- There are four control cores. -/
theorem test_coreWf : (Instr.debugHalt 3).wf = true ∧ (Instr.debugHalt 4).wf = false := by decide +kernel

/-- Registers lie on word addresses in 2 MiB, and take words. -/
theorem test_offWf :
    (Instr.registerWrite 0 0x1FFFFC 0xFFFFFFFF).wf = true ∧ (Instr.registerWrite 0 0x1FFFFE 0).wf = false ∧
    (Instr.registerWrite 0 0x200000 0).wf = false ∧ (Instr.registerWrite 0 0 0x100000000).wf = false := by decide +kernel

/-- A message has at most 4,080 bytes of payload, and header fields of their widths. -/
theorem test_mailWf :
    (Instr.tensorFree (letter 0 (leBytes 0 4072))).wf = true ∧ (Instr.tensorFree (letter 0 (leBytes 0 4073))).wf = false ∧
    (Instr.tensorFree { letter 0 [] with minor := 256 }).wf = false ∧ (Instr.tensorFree (letter 1025 [])).wf = false := by decide +kernel

/-- Stages, starts and values of an instruction fit their fields, and PK.Q carries no stream. -/
theorem test_wordWf :
    (Instr.xProg (seen 7 31 65535 15) ⟨65535⟩).wf = true ∧ (Instr.xProg (seen 7 31 65535 15) ⟨65536⟩).wf = false ∧
    (Instr.xProg (seen 8 0 0 0) ⟨0⟩).wf = false ∧ (Instr.xProg (seen 7 0 65536 0) ⟨0⟩).wf = false ∧
    (Instr.pkQ (seen 5 2 9 1) ⟨0, 0, 0, 0, 0, 0, 0, 1⟩).wf = false ∧
    (Instr.lkRecv (seen 7 4 0 1) ⟨1, 1, 0, 0, 0, 0, 0⟩).wf = false := by decide +kernel

/-- A neighbour's word of a hank comes on a link. -/
theorem test_hankOpWf : (Instr.hankLend (.peer 15 0 0)).wf = true ∧ (Instr.hankLend (.peer 16 0 0)).wf = false := by decide +kernel

/-- So does a directory entry. -/
theorem test_dirOpWf :
    (Instr.hankDir (.places Handle.none 15 0)).wf = true ∧ (Instr.hankDir (.places Handle.none 16 0)).wf = false := by decide +kernel

/-- Queues, dies, slots and stacks are in range. -/
theorem test_rangesWf :
    (Instr.sqTailDoorbell 0 7 0 true).wf = true ∧ (Instr.sqTailDoorbell 0 8 0 true).wf = false ∧ (Instr.failedHbmStack 7).wf = true ∧
    (Instr.failedHbmStack 8).wf = false := by decide +kernel

end Sys2Proof.Tests
end

