-- ==== Sys2Proof/Proofs/Reset.lean ====
section
/-! The state right after cast-on. -/
namespace Sys2Proof.Machine

/-- Only the PF's state (FN_STATE, offset 4, bit 0) has key 128, the one key that is set at reset. -/
theorem regKey_ne_fnState_of_ne {fn : Nat} {f : Fld} (hl : f.lo < 32) (h : (fn, f.off, f.lo) ≠ (0, 4, 0)) :
    128 ≠ regKey fn f := by
  simp only [ne_eq, Prod.mk.injEq] at h
  unfold regKey
  omega

/-- Settles O54: reading a field of the reset state finds no entry of its own, but for the PF's state. -/
theorem resetState : Obligations.ResetState := by
  unfold Obligations.ResetState
  refine ⟨fun fn f _ hl hk => ?_, by decide, rfl, rfl, rfl, rfl, rfl, rfl, rfl, rfl, ?_, ?_⟩
  · simp [State.getF, State.reset, Store.getD, Store.get?, regKey_ne_fnState_of_ne hl hk]
  · exact ⟨Memory.nil_wf, Memory.nil_wf⟩
  · simp [State.RegsWf, State.reset, Store.wf]

end Sys2Proof.Machine
end

