-- ==== Sys2Proof/Proofs/Keeps.lean ====
section
/-!
What every step keeps. `s.Keeps t` says that `t` comes from `s` without a change of the queue of waiting commands, and that the
register file and the bytes of the tiers are in canonical form in `t` if they are in `s`. Each operation of the model has one
lemma here, named after it: a state that `s₀` keeps up to (`hs : s₀.Keeps s`) stays one after the operation. The lemmas follow
the model's definitions, file by file, so that each proof is read along the body of its definition: `hs.a.b` is the state after
`a` and then `b`, `.ite` a conditional, `.foldl` a loop, and `.frame` an update of fields outside of the queue, the registers
and the tiers' bytes. The instructions come last: each answers a next state (`State.Answers`).
-/

namespace Sys2Proof.Machine

/-! ### The relation -/

/-- What no command touches, and the forms that every command keeps. -/
structure State.Keeps (s t : State) : Prop where
  queue : t.pending = s.pending
  regs : s.RegsWf → t.RegsWf
  mem : s.MemWf → t.MemWf

/-- The answer is a next state, and it keeps the forms. -/
def State.Answers (s : State) (r : Result) : Prop := ∃ t, r = .next t ∧ s.Keeps t

/-- `p` holds of the state that a message's handling ends in, if it names one. -/
def MailRes.Each (p : State → Prop) : MailRes → Prop
  | .done s _ | .fail s _ _ | .later s => p s
  | .conflict _ => True

/-- `p` holds of the state that an allotment ends in. -/
def AllocRes.Each (p : State → Prop) : AllocRes → Prop
  | .good _ s | .refused _ s _ => p s

/-- `p` holds of the state that the mailbox waits in. -/
def Gate.Each (p : State → Prop) : Gate → Prop
  | .wait s => p s
  | _ => True

/-- `p` holds of the error, `q` of the result. -/
def Answer.Each {ε α : Type} (p : ε → Prop) (q : α → Prop) : Except ε α → Prop
  | .error e => p e
  | .ok a => q a

/-- `p` holds of the result, where there is one. -/
def Found.Each {α : Type} (p : α → Prop) : Option α → Prop
  | none => True
  | some a => p a

theorem MailRes.Each.of_eq {p : State → Prop} {r r' : MailRes} (h : r.Each p) (e : r = r') : r'.Each p := e ▸ h

theorem AllocRes.Each.of_eq {p : State → Prop} {r r' : AllocRes} (h : r.Each p) (e : r = r') : r'.Each p := e ▸ h

theorem Gate.Each.of_eq {p : State → Prop} {g g' : Gate} (h : g.Each p) (e : g = g') : g'.Each p := e ▸ h

theorem Answer.Each.of_ok {ε α : Type} {p : ε → Prop} {q : α → Prop} {r : Except ε α} {a : α} (h : Answer.Each p q r)
    (e : r = .ok a) : q a := by
  subst e
  exact h

theorem Answer.Each.of_error {ε α : Type} {p : ε → Prop} {q : α → Prop} {r : Except ε α} {a : ε} (h : Answer.Each p q r)
    (e : r = .error a) : p a := by
  subst e
  exact h

theorem Found.Each.of_some {α : Type} {p : α → Prop} {o : Option α} {a : α} (h : Found.Each p o) (e : o = some a) : p a := by
  subst e
  exact h

theorem Memory.foldl_wf {α : Type} {l : List α} {f : List Host.Cell → α → List Host.Cell} {m : List Host.Cell}
    (h : Memory.wf m) (hf : ∀ {n} a, Memory.wf n → Memory.wf (f n a)) : Memory.wf (l.foldl f m) :=
  List.foldlRecOn l f h fun _ hn a _ => hf a hn

theorem Memory.paste_wf {m : List Host.Cell} (h : Memory.wf m) (a n : Nat) (cells : List Host.Cell) :
    Memory.wf (Memory.paste m a n cells) :=
  Memory.foldl_wf (Memory.zero_wf h a n) fun _ h => Memory.write_wf h _ _

theorem Memory.filter_wf {m : List Host.Cell} (h : Memory.wf m) (p : Host.Cell → Bool) : Memory.wf (m.filter p) :=
  ⟨List.Pairwise.filter _ h.1, fun c hc => h.2 c (List.mem_filter.mp hc).1⟩

/- One proof at a time: hundreds of them in flight need more threads than the memory limit has stacks for. -/
set_option Elab.async false

variable {s₀ s : State}

namespace State.Keeps

theorem refl (s : State) : s.Keeps s := ⟨rfl, id, id⟩

section
variable {data : DataPath} {seq : SeqState} {tier : TierState} {serve : ServeState} {sec : SecState} {fab : FabState}
  {twin : TwinState} {pwr : PwrState} {fw : FwState} {mod : ModState} {host : HostState} {tink : TinkState} {out : Outbox}
  {fresh : Nat}

/-- An update of other fields. -/
theorem frame (hs : s₀.Keeps s) (e : (tier.near, tier.deep) = (s.tier.near, s.tier.deep) := by dsimp only) :
    s₀.Keeps ⟨s.regs, data, seq, tier, serve, sec, fab, twin, pwr, fw, mod, host, tink, out, fresh, s.pending⟩ := by
  simp only [Prod.mk.injEq] at e
  obtain ⟨hn, hd⟩ := e
  exact ⟨hs.queue, hs.regs, fun h => ⟨hn ▸ (hs.mem h).1, hd ▸ (hs.mem h).2⟩⟩

/-- An update of the near tier's bytes. -/
theorem near (hs : s₀.Keeps s) (hw : Memory.wf s.tier.near → Memory.wf tier.near)
    (e : tier.deep = s.tier.deep := by dsimp only) :
    s₀.Keeps ⟨s.regs, data, seq, tier, serve, sec, fab, twin, pwr, fw, mod, host, tink, out, fresh, s.pending⟩ :=
  ⟨hs.queue, hs.regs, fun h => ⟨hw (hs.mem h).1, e ▸ (hs.mem h).2⟩⟩

/-- An update of the deep tier's bytes. -/
theorem deep (hs : s₀.Keeps s) (hw : Memory.wf s.tier.deep → Memory.wf tier.deep)
    (e : tier.near = s.tier.near := by dsimp only) :
    s₀.Keeps ⟨s.regs, data, seq, tier, serve, sec, fab, twin, pwr, fw, mod, host, tink, out, fresh, s.pending⟩ :=
  ⟨hs.queue, hs.regs, fun h => ⟨e ▸ (hs.mem h).1, hw (hs.mem h).2⟩⟩

end

theorem ite {c : Prop} [Decidable c] {t u : State} (ht : s₀.Keeps t) (hu : s₀.Keeps u) :
    s₀.Keeps (if c then t else u) := by
  split
  · exact ht
  · exact hu

theorem foldl {α : Type} (hs : s₀.Keeps s) {l : List α} {f : State → α → State}
    (hf : ∀ {t} a, s₀.Keeps t → s₀.Keeps (f t a)) : s₀.Keeps (l.foldl f s) :=
  List.foldlRecOn l f hs fun _ ht a _ => hf a ht

/-- A loop over more than a state: `g` is the state in it. -/
theorem foldlBy {α β : Type} {l : List α} {f : β → α → β} {b : β} (g : β → State) (hs : s₀.Keeps (g b))
    (hf : ∀ {b} a, s₀.Keeps (g b) → s₀.Keeps (g (f b a))) : s₀.Keeps (g (l.foldl f b)) :=
  List.foldlRecOn l f (motive := fun b => s₀.Keeps (g b)) hs fun _ hb a _ => hf a hb

/-- A state that is named once and used more than once. -/
theorem via {t : State} (hs : s₀.Keeps s) (k : s₀.Keeps s → s₀.Keeps t) : s₀.Keeps t := k hs

theorem elim {α : Type} {o : Option α} {f : α → State} (hs : s₀.Keeps s) (hf : ∀ a, s₀.Keeps (f a)) :
    s₀.Keeps (o.elim s f) := by
  cases o with
  | none => exact hs
  | some a => exact hf a

theorem done (hs : s₀.Keeps s) {p : List Byte} : (MailRes.done s p).Each s₀.Keeps := hs

theorem fail (hs : s₀.Keeps s) {st : Status} {p : List Byte} : (MailRes.fail s st p).Each s₀.Keeps := hs

theorem later (hs : s₀.Keeps s) : (MailRes.later s).Each s₀.Keeps := hs

theorem ok (hs : s₀.Keeps s) : s₀.Answers (ok s) := ⟨s, rfl, hs⟩

end State.Keeps

theorem State.Answers.via {r : Result} (hs : s₀.Keeps s) (k : s₀.Keeps s → s₀.Answers r) : s₀.Answers r := k hs

theorem State.Answers.ite {c : Prop} [Decidable c] {t u : Result} (ht : s₀.Answers t) (hu : s₀.Answers u) :
    s₀.Answers (if c then t else u) := by
  split
  · exact ht
  · exact hu

theorem State.Answers.ok (hs : s₀.Keeps s) : s₀.Answers (ok s) := hs.ok

theorem MailRes.Each.done {p : State → Prop} {l : List Byte} (h : p s) : (MailRes.done s l).Each p := h

theorem MailRes.Each.fail {p : State → Prop} {st : Status} {l : List Byte} (h : p s) : (MailRes.fail s st l).Each p := h

theorem MailRes.Each.later {p : State → Prop} (h : p s) : (MailRes.later s).Each p := h

theorem MailRes.Each.ite {c : Prop} [Decidable c] {t u : MailRes} {p : State → Prop} (ht : t.Each p) (hu : u.Each p) :
    (if c then t else u).Each p := by
  split
  · exact ht
  · exact hu

theorem AllocRes.Each.ite {c : Prop} [Decidable c] {t u : AllocRes} {p : State → Prop} (ht : t.Each p) (hu : u.Each p) :
    (if c then t else u).Each p := by
  split
  · exact ht
  · exact hu

theorem Gate.Each.ite {c : Prop} [Decidable c] {t u : Gate} {p : State → Prop} (ht : t.Each p) (hu : u.Each p) :
    (if c then t else u).Each p := by
  split
  · exact ht
  · exact hu

theorem Answer.Each.ite {ε α : Type} {c : Prop} [Decidable c] {t u : Except ε α} {p : ε → Prop} {q : α → Prop}
    (ht : Answer.Each p q t) (hu : Answer.Each p q u) : Answer.Each p q (if c then t else u) := by
  split
  · exact ht
  · exact hu

/-! ### Registers -/

theorem State.Keeps.setF (hs : s₀.Keeps s) {fn : Nat} {f : Fld} {v : Nat} : s₀.Keeps (s.setF fn f v) :=
  ⟨hs.queue, fun h => Store.put_wf (hs.regs h) _ _, hs.mem⟩

/-! ### Of Ops.lean -/

theorem State.Keeps.set (hs : s₀.Keeps s) {f : Fld} {v : Nat} : s₀.Keeps (s.set f v) := hs.setF

theorem State.Keeps.inc (hs : s₀.Keeps s) {f : Fld} {n : Nat} : s₀.Keeps (s.inc f n) := hs.set

theorem State.Keeps.incHold (hs : s₀.Keeps s) {f : Fld} {n : Nat} : s₀.Keeps (s.incHold f n) := hs.set

theorem State.Keeps.inc2 (hs : s₀.Keeps s) {lo hi : Fld} {n : Nat} : s₀.Keeps (s.inc2 lo hi n) := hs.set.set

theorem State.Keeps.peak (hs : s₀.Keeps s) {f : Fld} {v : Nat} : s₀.Keeps (s.peak f v) := .ite hs.set hs

theorem State.Keeps.orBits (hs : s₀.Keeps s) {f : Fld} {v : Nat} : s₀.Keeps (s.orBits f v) := hs.set

theorem State.Keeps.clrBits (hs : s₀.Keeps s) {f : Fld} {v : Nat} : s₀.Keeps (s.clrBits f v) := hs.set

theorem State.Keeps.draw (hs : s₀.Keeps s) : s₀.Keeps s.draw.2 := hs.frame

theorem State.Keeps.msix (hs : s₀.Keeps s) {fn v : Nat} : s₀.Keeps (s.msix fn v) := hs.frame

theorem State.Keeps.err (hs : s₀.Keeps s) {f en : Fld} {i v : Nat} : s₀.Keeps (s.err f en i v) :=
  .ite hs.set.msix hs.set

theorem State.Keeps.fnErr (hs : s₀.Keeps s) {fn : Nat} {f : Fld} : s₀.Keeps (s.fnErr fn f) := .ite hs.setF.msix hs.setF

theorem State.Keeps.dmaFail (hs : s₀.Keeps s) {fn : Nat} : s₀.Keeps (s.dmaFail fn) := hs.fnErr.err

theorem State.Keeps.sample (hs : s₀.Keeps s) {fn : Nat} {status inten count : Fld} {isBeyond : Bool} :
    s₀.Keeps (s.sample fn status inten count isBeyond) :=
  .ite (.ite hs (.ite hs.frame.setF.setF.msix hs.frame.setF.setF)) (.ite hs.frame hs)

theorem State.Keeps.tinkAt (hs : s₀.Keeps s) {cycle code fn : Nat} {args : List Byte} :
    s₀.Keeps (s.tinkAt cycle code fn args) :=
  hs.frame.set

theorem State.Keeps.tinkLog (hs : s₀.Keeps s) {code fn : Nat} {args : List Byte} : s₀.Keeps (s.tinkLog code fn args) :=
  hs.draw.tinkAt

theorem State.Keeps.tinkOpen (hs : s₀.Keeps s) {block fn : Nat} {args : List Byte} :
    s₀.Keeps (s.tinkOpen block fn args) :=
  hs.draw.tinkLog

theorem State.Keeps.startFlush (hs : s₀.Keeps s) : s₀.Keeps s.startFlush := hs.frame.set

theorem State.Keeps.freeze (hs : s₀.Keeps s) : s₀.Keeps s.freeze := by
  unfold State.freeze
  split
  · exact hs.frame.set
  · exact hs.set.inc

theorem State.Keeps.coalesce (hs : s₀.Keeps s) {fn : Nat} : s₀.Keeps (s.coalesce fn) := .ite hs.frame.msix hs.frame

theorem State.Keeps.secErr (hs : s₀.Keeps s) {f : Fld} : s₀.Keeps (s.secErr f) := hs.err

theorem State.Keeps.logPage (hs : s₀.Keeps s) {fn addr : Nat} : s₀.Keeps (s.logPage fn addr) :=
  .ite hs (.ite hs.setF.secErr.tinkLog hs.frame.setF.setF)

theorem State.Keeps.hostWrite (hs : s₀.Keeps s) {fn addr : Nat} {l : List Byte} : s₀.Keeps (s.hostWrite fn addr l) :=
  .frame (hs.foldl fun _ hs => hs.logPage)

theorem State.Keeps.putEntry (hs : s₀.Keeps s) {fn : Nat} {kind : CKind} {status : Status} {sq : Nat} {counted : Bool}
    {body : List Byte} : s₀.Keeps (s.putEntry fn kind status sq counted body) :=
  .ite hs.logPage.frame.setF.setF.coalesce hs.logPage.frame.setF.setF

theorem State.Keeps.post (hs : s₀.Keeps s) {fn : Nat} {kind : CKind} {status : Status} {sq : Nat} {counted : Bool}
    {body : List Byte} : s₀.Keeps (s.post fn kind status sq counted body) :=
  .ite hs (.ite hs.frame hs.putEntry)

theorem State.Keeps.postCommand (hs : s₀.Keeps s) {d : Descriptor} {sq : Nat} {status : Status} {report : List Byte}
    {cause : Nat} : s₀.Keeps (s.postCommand d sq status report cause) :=
  hs.post

theorem State.Keeps.showNotes (hs : s₀.Keeps s) {fn : Nat} : s₀.Keeps (s.showNotes fn) := hs.setF

theorem State.Keeps.note (hs : s₀.Keeps s) {fn type : Nat} {payload : List Byte} : s₀.Keeps (s.note fn type payload) :=
  .ite hs.post (.ite hs.frame.showNotes hs.inc.fnErr)

theorem State.Keeps.reply (hs : s₀.Keeps s) {t : Ticket} {status : Status} {payload : List Byte} :
    s₀.Keeps (s.reply t status payload) :=
  .ite hs (.ite (.post (.setF (.frame (.ite hs.inc hs.inc.inc))))
    (.msix (.setF (.setF (.frame (.frame (.ite hs.inc hs.inc.inc)))))))

theorem State.Keeps.pageReply (hs : s₀.Keeps s) {t : Ticket} {status : Status} {isPending : Bool}
    {payload : List Byte} : s₀.Keeps (s.pageReply t status isPending payload) :=
  .msix (.setF (.setF (.frame (.ite hs (.ite hs.inc hs.inc.inc)))))

theorem State.Keeps.wake (hs : s₀.Keeps s) : s₀.Keeps s.wake := .ite hs.frame.set (.ite hs.frame.set hs)

theorem State.Keeps.wakeBy (hs : s₀.Keeps s) {fn : Nat} {mailbox : Bool} : s₀.Keeps (s.wakeBy fn mailbox) :=
  .ite hs.wake hs

theorem State.Keeps.mailGate (hs : s₀.Keeps s) {fn type : Nat} : (s.mailGate fn type).Each s₀.Keeps := by
  unfold State.mailGate
  refine .ite hs (.ite trivial (.ite (.ite trivial hs) (.ite (.ite trivial hs) (.ite trivial (.ite hs (.ite hs (.ite trivial
    (.ite hs.wakeBy ?_))))))))
  split
  · exact .ite trivial trivial
  · trivial

/-- A message: `hb` is its handler. -/
theorem State.Keeps.mail (hs : s₀.Keeps s) {h : Mail} {type minMinor size : Nat} {longReply : Bool}
    {args sender : State → Bool} {body : Ticket → State → MailRes}
    (hb : ∀ {u} t, s₀.Keeps u → (body t u).Each s₀.Keeps) :
    s₀.Keeps (s.mail h ⟨type, minMinor, longReply, size, args, sender, body⟩) := by
  unfold State.mail
  refine .ite hs.fnErr ?_
  split
  · rename_i e
    exact hs.mailGate.of_eq e
  · exact hs.pageReply
  · exact hs.pageReply
  · refine .ite hs ?_
    have hr := hb ⟨h.fn, type, h.seq, replyMinor h, bit h.flags 1⟩ hs
    split
    · rename_i e
      have h₁ : s₀.Keeps _ := hr.of_eq e
      exact .ite h₁.setF.pageReply.frame.reply h₁.pageReply
    · rename_i e
      have h₁ : s₀.Keeps _ := hr.of_eq e
      exact h₁.pageReply
    · exact hs.pageReply
    · rename_i e
      have h₁ : s₀.Keeps _ := hr.of_eq e
      exact .ite h₁.frame.setF.pageReply h₁.frame.setF

theorem State.Keeps.setLink (hs : s₀.Keeps s) {l : Nat} {c : LinkCtl} : s₀.Keeps (s.setLink l c) := hs.frame

theorem State.Keeps.send (hs : s₀.Keeps s) {link : Nat} {f : Frame} : s₀.Keeps (s.send link f) :=
  .ite hs (.frame (.setF (.setF (.setF (.setLink (.ite hs.draw hs))))))

theorem State.Keeps.sendAll (hs : s₀.Keeps s) {mask : Nat} {f : Frame} : s₀.Keeps (s.sendAll mask f) :=
  hs.foldl fun _ hs => hs.send

theorem State.Keeps.sendTokens (hs : s₀.Keeps s) {mask : Nat} {cause : Option Nat} :
    s₀.Keeps (s.sendTokens mask cause) :=
  hs.foldl fun _ hs => hs.send.setLink.setF

theorem State.Keeps.sendTwin (hs : s₀.Keeps s) {f : Frame} : s₀.Keeps (s.sendTwin f) := by
  unfold State.sendTwin
  split
  · exact hs.send
  · exact hs

theorem State.Keeps.mirror (hs : s₀.Keeps s) {f : Nat → Frame} : s₀.Keeps (s.mirror f) := .ite hs.sendTwin.set hs

theorem State.Keeps.mirrorEntry (hs : s₀.Keeps s) {k : Nat} {t : Option Tensor} : s₀.Keeps (s.mirrorEntry k t) :=
  .ite hs.mirror hs

theorem State.Keeps.postAt (hs : s₀.Keeps s) {m fn : Nat} {kind : CKind} {status : Status} {sq : Nat} {counted : Bool}
    {body : List Byte} : s₀.Keeps (s.postAt m fn kind status sq counted body) :=
  .ite hs.frame hs.post

/-! ### Of TierOps.lean -/

theorem State.Keeps.writeNear (hs : s₀.Keeps s) {a : Nat} {l : List LineData} : s₀.Keeps (s.writeNear a l) :=
  hs.near fun w => Memory.writeBytes_wf w _ _

theorem State.Keeps.putTensor (hs : s₀.Keeps s) {t : Tensor} : s₀.Keeps (s.putTensor t) := hs.frame

theorem State.Keeps.setTensor (hs : s₀.Keeps s) {t : Tensor} : s₀.Keeps (s.setTensor t) := hs.mirrorEntry.putTensor

theorem State.Keeps.mapTensor (hs : s₀.Keeps s) {k : Nat} {f : Tensor → Tensor} : s₀.Keeps (s.mapTensor k f) := by
  unfold State.mapTensor
  split
  · exact hs.setTensor
  · exact hs

theorem State.Keeps.touch (hs : s₀.Keeps s) {t : Tensor} : s₀.Keeps (s.touch t) := hs.setTensor

theorem State.Keeps.setQuota (hs : s₀.Keeps s) {fn : Nat} {q : Quota} : s₀.Keeps (s.setQuota fn q) := hs.frame

theorem State.Keeps.assignFrames (hs : s₀.Keeps s) {owner cls loc n : Nat} :
    s₀.Keeps (s.assignFrames owner cls loc n) :=
  hs.frame

theorem State.Keeps.showSpace (hs : s₀.Keeps s) : s₀.Keeps s.showSpace :=
  .sample (.ite hs.set.set.set.set.set.set.set.set.set.set.set hs.set.set.set.set.set.set.set.set.set.set)

theorem State.Keeps.releaseNear (hs : s₀.Keeps s) {key loc units : Nat} : s₀.Keeps (s.releaseNear key loc units) :=
  hs.frame

theorem State.Keeps.releaseDeep (hs : s₀.Keeps s) {loc units : Nat} : s₀.Keeps (s.releaseDeep loc units) :=
  .ite hs (hs.deep fun w => Memory.zero_wf w _ _)

theorem State.Keeps.takeDeep (hs : s₀.Keeps s) {units : Nat} : s₀.Keeps (s.takeDeep units).2 := hs.frame

theorem State.Keeps.noteMoved (hs : s₀.Keeps s) {old new : Handle} : s₀.Keeps (s.noteMoved old new) := hs.note

theorem State.Keeps.freeBorrowed (hs : s₀.Keeps s) {t : Tensor} : s₀.Keeps (s.freeBorrowed t) := by
  unfold State.freeBorrowed
  dsimp only
  split
  · exact hs
  · exact hs.frame.foldl fun _ hs => hs.send

theorem State.Keeps.dropTensor (hs : s₀.Keeps s) {t : Tensor} : s₀.Keeps (s.dropTensor t) :=
  .via (.ite hs.setQuota.mirrorEntry.frame.releaseNear (.ite hs.setQuota.mirrorEntry.frame.freeBorrowed
    hs.setQuota.mirrorEntry.frame)) fun h₁ => .ite h₁.releaseDeep h₁

theorem State.Keeps.dropPair (hs : s₀.Keeps s) {t : Tensor} : s₀.Keeps (s.dropPair t) :=
  .showSpace (hs.foldl fun _ hs => hs.dropTensor)

/-! ### Of MoveOps.lean -/

theorem State.Keeps.putCells (hs : s₀.Keeps s) {fn : Nat} {t : Tier} {loc off n : Nat} {cells : List Host.Cell} :
    s₀.Keeps (s.putCells fn t loc off n cells) := by
  unfold State.putCells
  split
  · exact hs.near fun w => Memory.paste_wf w _ _ _
  · exact hs.deep fun w => Memory.paste_wf w _ _ _
  · split
    · exact hs.hostWrite
    · exact hs
  · exact hs.frame

theorem State.Keeps.writeProgress (hs : s₀.Keeps s) {m : Move} {state : Nat} {status : Status} :
    s₀.Keeps (s.writeProgress m state status) := by
  unfold State.writeProgress
  split
  · exact .ite (hs.near fun w => Memory.writeBytes_wf w _ _) hs
  · exact hs

theorem State.Keeps.promote (hs : s₀.Keeps s) : s₀.Keeps s.promote := by
  unfold State.promote
  split
  · exact hs
  · split
    · exact hs
    · exact hs.frame

theorem State.Keeps.closeMove (hs : s₀.Keeps s) {m : Move} {st : Status} : s₀.Keeps (s.closeMove m st) := by
  unfold State.closeMove
  refine .via ?_ fun h₁ => .showSpace (.promote (.ite h₁ h₁.inc.err))
  split
  · exact .ite (.post (.frame (.writeProgress (hs.foldl fun _ hs => hs.mapTensor))))
      (.frame (.writeProgress (hs.foldl fun _ hs => hs.mapTensor)))
  · exact .frame (.writeProgress (hs.foldl fun _ hs => hs.mapTensor))

theorem State.Keeps.wroteFlash (hs : s₀.Keeps s) {lines : Nat} : s₀.Keeps (s.wroteFlash lines) := hs.frame.inc2

theorem State.Keeps.arrive (hs : s₀.Keeps s) {m : Move} {t : Tensor} {loc : Nat} : s₀.Keeps (s.arrive m t loc) := by
  unfold State.arrive
  extract_lets -underBinder _ _ _ _ s₁ _ _ s₂ s₃ s₄
  have h₁ : s₀.Keeps s₁ := .ite hs.releaseNear (.ite hs.freeBorrowed hs)
  have h₂ : s₀.Keeps s₂ := by
    dsimp only [s₂]
    split
    · exact .setQuota (.setTensor (.ite h₁.releaseDeep h₁))
    · exact .setQuota (.setTensor (.ite h₁.releaseDeep h₁))
    · exact h₁.setTensor.setQuota
  have h₃ : s₀.Keeps s₃ := by
    refine .ite ?_ h₂
    split
    · exact h₂.frame
    · exact h₂
  have h₄ : s₀.Keeps s₄ := by
    dsimp only [s₄]
    split
    · exact h₃.mapTensor
    · exact h₃
  exact .ite h₄.noteMoved h₄

theorem State.Keeps.wroteBack (hs : s₀.Keeps s) {m : Move} {t : Tensor} {loc : Nat} : s₀.Keeps (s.wroteBack m t loc) :=
  .ite (.setQuota (.setTensor (.ite hs.releaseDeep hs))) hs.releaseDeep.setTensor.setQuota

theorem State.Keeps.finishMove (hs : s₀.Keeps s) {m : Move} : s₀.Keeps (s.finishMove m) := by
  unfold State.finishMove
  refine .closeMove ?_
  split
  · exact hs.foldl fun _ hs => hs.wroteBack
  · exact .ite (hs.foldl fun _ hs => hs.arrive) (hs.foldl fun _ hs => hs.setTensor.setQuota)

theorem State.Keeps.unallot (hs : s₀.Keeps s) {m : Move} : s₀.Keeps (s.unallot m) :=
  .ite hs (hs.foldl fun _ hs => .ite hs (.ite hs.releaseNear.setQuota hs.releaseDeep.setQuota))

theorem State.Keeps.failMove (hs : s₀.Keeps s) {m : Move} {st : Status} : s₀.Keeps (s.failMove m st) :=
  hs.unallot.closeMove

theorem State.Keeps.dropMove (hs : s₀.Keeps s) {m : Move} : s₀.Keeps (s.dropMove m) := by
  unfold State.dropMove
  exact .showSpace (.promote (.frame (hs.unallot.foldl fun _ hs => hs.mapTensor)))

theorem State.Keeps.beginMove (hs : s₀.Keeps s) {m : Move} : s₀.Keeps (s.beginMove m) :=
  .via (.foldl (hs.foldl fun _ hs => hs.mapTensor) fun _ hs => hs.mapTensor) fun h₁ => .ite
    h₁.frame.writeProgress.finishMove h₁.frame.writeProgress.showSpace

theorem State.Keeps.toDeep (hs : s₀.Keeps s) {m : MoveDesc} {fn : Nat} {cause : MoveCause} {t : Tensor} :
    Answer.Each (fun _ => True) (fun r : Move × State => s₀.Keeps r.2) (s.toDeep m fn cause t) := by
  unfold State.toDeep
  refine .ite trivial (.ite trivial (.ite trivial (State.Keeps.setQuota ?_)))
  refine .foldlBy (fun a : List MoveSeg × List Nat × State => a.2.2) hs fun u ha => ?_
  dsimp only
  split
  · exact ha
  · exact ha.takeDeep

theorem State.Keeps.evict (hs : s₀.Keeps s) {need : Nat} : s₀.Keeps (s.evict need).2 := by
  unfold State.evict
  refine .foldlBy Prod.snd hs fun t ha => ?_
  split
  · exact ha
  · rename_i e
    exact .beginMove (.inc (ha.toDeep.of_ok e))

theorem State.Keeps.allocNear (hs : s₀.Keeps s) {fn cls units : Nat} : (s.allocNear fn cls units).Each s₀.Keeps := by
  unfold State.allocNear
  refine .ite hs ?_
  split
  · exact hs.assignFrames.setQuota
  · exact .ite hs (.ite hs.evict hs)

theorem State.Keeps.allocNears (hs : s₀.Keeps s) {fn cls : Nat} {us : List Nat} :
    (s.allocNears fn cls us).1.Each s₀.Keeps := by
  induction us generalizing s with
  | nil => exact hs
  | cons u us ih =>
    unfold State.allocNears
    split
    · rename_i e
      exact hs.allocNear.of_eq e
    · rename_i e
      have h₁ : (State.allocNears _ fn cls us).1.Each s₀.Keeps := ih (hs.allocNear.of_eq e)
      split
      · rename_i e
        exact (show AllocRes.Each _ (_, _).1 from e ▸ h₁ :)
      · exact h₁

theorem State.Keeps.toNear (hs : s₀.Keeps s) {m : MoveDesc} {fn : Nat} {cause : MoveCause} {t : Tensor} :
    Answer.Each (fun e => s₀.Keeps e.2.1) (fun r => s₀.Keeps r.2) (s.toNear m fn cause t) := by
  unfold State.toNear
  refine .ite hs (.ite hs ?_)
  split
  · rename_i e
    exact State.Keeps.ite (hs.allocNears.of_eq (congrArg Prod.fst e)) hs
  · rename_i e
    exact hs.allocNears.of_eq (congrArg Prod.fst e)

theorem State.Keeps.startMove (hs : s₀.Keeps s) {fn : Nat} {cause : MoveCause} {d : MoveDesc} {table : Handle}
    {tindex : Nat} : Answer.Each (fun e => s₀.Keeps e.2.1) s₀.Keeps (s.startMove fn cause d table tindex) := by
  unfold State.startMove
  split
  · exact hs
  · refine .ite ?_ ?_
    · split
      · split
        · exact hs
        · rename_i e
          exact State.Keeps.beginMove (hs.toDeep.of_ok e)
      · split
        · rename_i e
          exact hs.toNear.of_error e
        · rename_i e
          exact State.Keeps.beginMove (hs.toNear.of_ok e)
      · exact hs
    · split
      · exact hs
      · exact hs.beginMove

theorem State.Keeps.writeBack (hs : s₀.Keeps s) {t : Tensor} : s₀.Keeps (s.writeBack t) :=
  .ite hs hs.takeDeep.setQuota.beginMove

theorem State.Keeps.stopMoves (hs : s₀.Keeps s) {p : Move → Bool} : s₀.Keeps (s.stopMoves p) :=
  .frame (hs.foldl fun _ hs => hs.writeProgress)

theorem State.Keeps.resumeMoves (hs : s₀.Keeps s) {p : Move → Bool} : s₀.Keeps (s.resumeMoves p) :=
  .frame (hs.foldl fun _ hs => hs.writeProgress)

theorem State.Keeps.handMove (hs : s₀.Keeps s) {fn commandId queue : Nat} {r : MoveRef} :
    s₀.Keeps (s.handMove fn commandId queue r) := by
  unfold State.handMove
  split
  · exact hs
  · refine .ite (.ite hs.post hs) (.ite (.err (.inc (.ite hs.post hs))) (.ite hs.resumeMoves (.ite ?_ ?_)))
    · exact .via hs.writeProgress fun h₁ => .err (.inc (.ite h₁.post h₁))
    · split
      · exact .via hs.writeProgress fun h₁ => .err (.inc (.ite h₁.post h₁))
      · split
        · rename_i e
          exact .via (.writeProgress (hs.startMove.of_error e)) fun h₁ => .err (.inc (.ite h₁.post h₁))
        · rename_i e
          exact .frame (hs.startMove.of_ok e)

/-! ### Of CmdOps.lean -/

theorem State.Keeps.showSlots (hs : s₀.Keeps s) : s₀.Keeps s.showSlots := hs.set.set

theorem State.Keeps.setCmd (hs : s₀.Keeps s) {cid : Nat} {c : Cmd} : s₀.Keeps (s.setCmd cid c) := hs.frame

theorem State.Keeps.dropCmd (hs : s₀.Keeps s) {cid : Nat} : s₀.Keeps (s.dropCmd cid) := hs.frame

theorem State.Keeps.freeSlots (hs : s₀.Keeps s) {cid : Nat} : s₀.Keeps (s.freeSlots cid) := hs.frame.showSlots

theorem State.Keeps.sqDone (hs : s₀.Keeps s) {fn q idx : Nat} : s₀.Keeps (s.sqDone fn q idx) := hs.frame.setF

theorem State.Keeps.completeCmd (hs : s₀.Keeps s) {c : Cmd} {status : Status} {cause : Nat} :
    s₀.Keeps (s.completeCmd c status cause) :=
  .ite hs (.postCommand (.ite hs.sqDone hs))

theorem State.Keeps.unpin (hs : s₀.Keeps s) {l : List Handle} : s₀.Keeps (s.unpin l) := by
  unfold State.unpin
  refine hs.foldl fun _ hs => ?_
  dsimp only
  split
  · exact hs
  · exact hs.frame.mapTensor

theorem State.Keeps.commitDest (hs : s₀.Keeps s) {k : Nat} : s₀.Keeps (s.commitDest k) := by
  unfold State.commitDest
  split
  · exact hs
  · exact hs.setTensor.setQuota

theorem State.Keeps.countWords (hs : s₀.Keeps s) {k : Nat} {st : Machine.Stream} : s₀.Keeps (s.countWords k st) := by
  unfold State.countWords
  split
  · exact hs
  · split
    · exact hs
    · exact hs.setF.setF

theorem State.Keeps.commitStream (hs : s₀.Keeps s) {k : Nat} {st : Machine.Stream} :
    s₀.Keeps (s.commitStream k st) := by
  unfold State.commitStream
  split
  · exact hs
  · split
    · exact hs
    · exact hs.frame

theorem State.Keeps.mirrorCtx (hs : s₀.Keeps s) {fn : Nat} : s₀.Keeps (s.mirrorCtx fn) := by
  unfold State.mirrorCtx
  split
  · exact hs
  · exact hs.mirror

theorem State.Keeps.release (hs : s₀.Keeps s) {m : Nat} {r : Record} : s₀.Keeps (s.release m r) :=
  .ite (.postAt (.ite hs.frame.mirror hs)) hs

theorem State.Keeps.commitEntry (hs : s₀.Keeps s) {m : Nat} {c : Cmd} : s₀.Keeps (s.commitEntry m c) :=
  .ite hs (.via (.ite hs.sqDone.mirrorCtx hs) fun h₁ => .ite h₁.postAt h₁)

theorem State.Keeps.commitTask (hs : s₀.Keeps s) {cid : Nat} : s₀.Keeps (s.commitTask cid) := hs.frame

theorem State.Keeps.showStaging (hs : s₀.Keeps s) {l : Nat} : s₀.Keeps (s.showStaging l) :=
  .sample (.ite hs.setF.setF hs.setF)

theorem State.Keeps.releaseItems (hs : s₀.Keeps s) {cid : Nat} : s₀.Keeps (s.releaseItems cid) :=
  hs.frame.foldl fun _ hs => hs.showStaging

theorem State.Keeps.commit (hs : s₀.Keeps s) {cid : Nat} : s₀.Keeps (s.commit cid) := by
  unfold State.commit
  exact .via (.freeSlots
    (.releaseItems
    (.foldl (.foldl
    (.commitEntry
    (.foldl (.foldl (.foldl (.foldl (hs.mirror.foldl fun _ hs => hs.commitDest) fun _ hs => hs.countWords) fun _ hs =>
    hs.commitStream) fun _ hs => hs.mirrorCtx) fun _ hs => hs.release)) fun _ hs => hs.send) fun _ hs => hs.handMove)))
    fun h₁ => .showSpace (.ite h₁.commitTask.frame.setCmd h₁.commitTask.frame.dropCmd)

/-! ### Of SwatchOps.lean -/

theorem State.Keeps.showSeqs (hs : s₀.Keeps s) : s₀.Keeps s.showSeqs := hs.set

theorem State.Keeps.endSeq (hs : s₀.Keeps s) {id reason : Nat} {status : Status} :
    s₀.Keeps (s.endSeq id reason status) := by
  unfold State.endSeq
  split
  · exact hs
  · exact .showSeqs (.post (.frame (.ite hs hs.unpin)))

theorem State.Keeps.setSwatch (hs : s₀.Keeps s) {k : Nat} {w : Swatch} : s₀.Keeps (s.setSwatch k w) := hs.frame

theorem State.Keeps.sealSwatch (hs : s₀.Keeps s) {k : Nat} : s₀.Keeps (s.sealSwatch k) := by
  unfold State.sealSwatch
  split
  · extract_lets -underBinder _ _ _ _ s₁ _ s₂
    have h₁ : s₀.Keeps s₁ := hs.near fun w => Memory.foldl_wf w fun _ w => Memory.zero_wf w _ _
    have h₂ : s₀.Keeps s₂ := h₁.setSwatch
    split
    · exact h₂.reply
    · exact h₂
  · exact hs

theorem State.Keeps.failSwatch (hs : s₀.Keeps s) {k : Nat} : s₀.Keeps (s.failSwatch k) := by
  unfold State.failSwatch
  split
  · refine .dropPair (.setSwatch ?_)
    split
    · exact hs.reply
    · exact hs
  · exact hs

theorem State.Keeps.finishSeq (hs : s₀.Keeps s) {id reason : Nat} {status : Status} :
    s₀.Keeps (s.finishSeq id reason status) := by
  unfold State.finishSeq
  split
  · exact hs.endSeq
  · exact .ite hs.unpin.frame.showSeqs.sealSwatch hs.unpin.frame.showSeqs.failSwatch

/-! ### Of FaultOps.lean -/

theorem State.Keeps.endFrog (hs : s₀.Keeps s) {cid : Nat} : s₀.Keeps (s.endFrog cid) :=
  .via (hs.foldl fun _ hs => hs.send) fun h₁ => .inc (.freeSlots (.setCmd (.frame (.ite h₁.sendTwin h₁))))

theorem State.Keeps.frog (hs : s₀.Keeps s) {cid : Nat} : s₀.Keeps (s.frog cid) :=
  .ite hs.commit (.ite hs.frame.endFrog hs.frame.setCmd.frame)

theorem State.Keeps.setSeqFault (hs : s₀.Keeps s) {cycle i : Nat} : s₀.Keeps (s.setSeqFault cycle i) :=
  .tinkAt (.ite (.msix (.set (.ite hs.set.set hs))) (.set (.ite hs.set.set hs)))

theorem State.Keeps.forget (hs : s₀.Keeps s) {cid : Nat} : s₀.Keeps (s.forget cid) := .ite hs.frame hs.dropCmd

theorem State.Keeps.untask (hs : s₀.Keeps s) {cid : Nat} : s₀.Keeps (s.untask cid) := hs.frame

theorem State.Keeps.faultTasks (hs : s₀.Keeps s) {gs : List Nat} : s₀.Keeps (s.faultTasks gs) :=
  hs.foldl fun _ h₁ => h₁.foldl fun _ hs => hs.postCommand

theorem State.Keeps.faultCommands (hs : s₀.Keeps s) {cids : List Nat} : s₀.Keeps (s.faultCommands cids) :=
  .frame (.foldl (.faultTasks (hs.foldl fun _ hs => hs.completeCmd)) fun _ hs => hs.forget)

theorem State.Keeps.unlockRoster (hs : s₀.Keeps s) : s₀.Keeps s.unlockRoster := by
  unfold State.unlockRoster
  split
  · exact hs
  · exact hs.clrBits.clrBits.frame

theorem State.Keeps.faultStep (hs : s₀.Keeps s) : s₀.Keeps s.faultStep := by
  unfold State.faultStep
  split
  · exact hs
  · exact .set (.frame (.foldl (hs.unlockRoster.foldl fun _ hs => hs.finishSeq) fun _ hs => hs.forget))

theorem State.Keeps.showActive (hs : s₀.Keeps s) {isActive : Bool} : s₀.Keeps (s.showActive isActive) := .ite hs.set hs

theorem State.Keeps.enterFaulted (hs : s₀.Keeps s) : s₀.Keeps s.enterFaulted :=
  hs.set.set.set.set.set.set.showActive.set.frame

theorem State.Keeps.needResync (hs : s₀.Keeps s) : s₀.Keeps s.needResync := hs.frame

theorem State.Keeps.faultResponse (hs : s₀.Keeps s) {cycle i : Nat} : s₀.Keeps (s.faultResponse cycle i) :=
  .via (.needResync (.sendTokens (hs.setSeqFault.foldl fun _ hs => hs.frog))) fun h₁ => .startFlush
    (.enterFaulted (.ite (.sendTwin (.ite h₁.faultCommands.faultStep h₁.faultCommands))
    (.ite h₁.faultCommands.faultStep h₁.faultCommands)))

theorem State.Keeps.recordIfault (hs : s₀.Keeps s) {h : Issue} {op cause : Nat} :
    s₀.Keeps (s.recordIfault h op cause) :=
  .ite hs hs.set.set.set.set.set.set.set

theorem State.Keeps.patternErr (hs : s₀.Keeps s) {h : Issue} {op cause : Nat} : s₀.Keeps (s.patternErr h op cause) :=
  hs.recordIfault.faultResponse

/-! ### Of SkeinOps.lean -/

theorem State.Keeps.writeLine (hs : s₀.Keeps s) {a : Nat} {d : LineData} : s₀.Keeps (s.writeLine a d) := hs.frame

theorem State.Keeps.writeLines (hs : s₀.Keeps s) {a : Nat} {l : List LineData} : s₀.Keeps (s.writeLines a l) := by
  induction l generalizing s a with
  | nil => exact hs
  | cons d l ih => exact ih hs.writeLine

theorem State.Keeps.spoil (hs : s₀.Keeps s) {l : List Nat} : s₀.Keeps (s.spoil l) := .ite hs hs.frame

theorem State.Keeps.unitCorrected (hs : s₀.Keeps s) {h : Issue} : s₀.Keeps (s.unitCorrected h) :=
  .ite hs (.ite hs.inc (.ite hs.inc hs))

theorem State.Keeps.unitError (hs : s₀.Keeps s) {h : Issue} : s₀.Keeps (s.unitError h) := by
  unfold State.unitError
  split
  · exact hs
  · exact .ite hs.inc.set.set.set hs.inc.set.set.set.set

/-- An instruction's issue: `hk` is its effect. -/
theorem State.Keeps.issue (hs : s₀.Keeps s) {h : Issue} {op : Nat} {reads writes : List Nat} {k : Nat → State → State}
    (hk : ∀ {u} cid, s₀.Keeps u → s₀.Keeps (k cid u)) : s₀.Keeps (s.issue h op reads writes k) := by
  unfold State.issue
  refine .ite hs.spoil (.ite hs.spoil (.ite hs.spoil.inc.patternErr (.ite hs.spoil.patternErr
    (.ite hs.spoil.unitCorrected.unitError.patternErr ?_))))
  split
  · exact hs.spoil.unitCorrected
  · exact hk _ hs.spoil.unitCorrected.inc

theorem State.Keeps.counts (hs : s₀.Keeps s) {h : Issue} {stage sat nf : Nat} : s₀.Keeps (s.counts h stage sat nf) :=
  .ite (.ite hs.incHold.incHold hs.incHold.incHold.orBits) (.orBits (.ite hs.incHold.incHold hs.incHold.incHold.orBits))

/-! ### Of AccessOps.lean -/

theorem State.Keeps.denyLog (hs : s₀.Keeps s) {a : Agent} {isWrite : Bool} {cls owner frame : Nat} :
    s₀.Keeps (s.denyLog a isWrite cls owner frame) := by
  unfold State.denyLog
  extract_lets
  split
  · exact hs.frame.tinkLog
  · exact .ite hs.draw.frame.tinkLog hs.draw.frame

theorem State.Keeps.deny (hs : s₀.Keeps s) {a : Agent} {isWrite : Bool} {cls owner frame : Nat} :
    s₀.Keeps (s.deny a isWrite cls owner frame) :=
  .denyLog (.secErr (.ite hs.inc hs.inc.set.set.set.set.set))

theorem State.Keeps.dpDeny (hs : s₀.Keeps s) {h : Issue} {op : Nat} {t : Tensor} {isWrite : Bool} :
    s₀.Keeps (s.dpDeny h op t isWrite) :=
  hs.deny.patternErr

/-! ### Of LandOps.lean -/

theorem State.Keeps.enter (hs : s₀.Keeps s) {t : Tensor} : s₀.Keeps (s.enter t) := hs.setTensor.setQuota

theorem State.Keeps.copyGranule (hs : s₀.Keeps s) {m : Move} {g : Nat} {ext : List LineData} :
    s₀.Keeps (s.copyGranule m g ext) :=
  .foldlBy Prod.fst hs fun _ ha => ha.putCells

theorem State.Keeps.writeConverted (hs : s₀.Keeps s) {m : Move} : s₀.Keeps (s.writeConverted m) := by
  unfold State.writeConverted
  split
  · split
    · split
      · exact hs.writeNear.writeNear
      · exact hs.writeNear
    · exact hs
  · exact hs

/-- `delta` under `conv` replaces the function, not its value: to compare the values the kernel would run the lookup of the
tensor. -/
theorem State.Keeps.lostRead (hs : s₀.Keeps s) {m : Move} : s₀.Keeps (s.lostRead m) := by
  conv => arg 2; fun; fun; delta State.lostRead
  extract_lets s₁ s₂ s₃
  have h₃ : s₀.Keeps s₃ := hs.inc.err.tinkOpen.failMove
  clear_value s₃
  split
  · exact .ite h₃.releaseDeep.setQuota.setTensor.writeBack h₃.setTensor
  · exact h₃

theorem State.Keeps.countGranule (hs : s₀.Keeps s) {m : Move} {g : Nat} : s₀.Keeps (s.countGranule m g) :=
  hs.inc2.wroteFlash

theorem State.Keeps.denyMove (hs : s₀.Keeps s) {m : Move} {f : Nat × Bool} : s₀.Keeps (s.denyMove m f) :=
  hs.deny.failMove

theorem State.Keeps.landGranule (hs : s₀.Keeps s) {m : Move} {lines : List LineData} {fail : Nat} :
    s₀.Keeps (s.landGranule m lines fail) := by
  unfold State.landGranule
  refine .ite hs.failMove (.ite hs.lostRead (.ite hs.dmaFail.failMove (.ite hs.failMove ?_)))
  split
  · exact hs.denyMove
  · extract_lets -underBinder s₁ _ _ s₂ _ s₃
    have h₂ : s₀.Keeps s₂ := .via hs.countGranule.mapTensor fun h₁ => .ite h₁.copyGranule h₁
    have h₃ : s₀.Keeps s₃ := h₂.frame
    exact .ite h₃.writeProgress (.finishMove (.ite h₃ h₃.writeConverted))

theorem State.Keeps.setModel (hs : s₀.Keeps s) {m : Nat} {x : ModelSlot} : s₀.Keeps (s.setModel m x) := hs.frame

theorem State.Keeps.sendGranules (hs : s₀.Keeps s) {r : Relay} {x : ModelSlot} {first upto : Nat} :
    s₀.Keeps (s.sendGranules r x first upto) := by
  unfold State.sendGranules
  split
  · exact hs
  · exact hs.foldl fun _ hs => hs.send

theorem State.Keeps.sendStream (hs : s₀.Keeps s) {r : Relay} {x : ModelSlot} {d : BitVec 256} {first : Nat} :
    s₀.Keeps (s.sendStream r x d first) :=
  hs.sendGranules.elim fun _ => hs.sendGranules.send

theorem State.Keeps.failModel (hs : s₀.Keeps s) {m : Nat} {st : Status} : s₀.Keeps (s.failModel m st) := by
  unfold State.failModel
  dsimp only
  split
  · refine .reply (.setModel ?_)
    refine hs.frame.foldl fun _ hs => ?_
    split
    · exact hs.dropPair
    · exact hs
  · refine .setModel ?_
    refine hs.frame.foldl fun _ hs => ?_
    split
    · exact hs.dropPair
    · exact hs

theorem State.Keeps.finishModel (hs : s₀.Keeps s) {m : Nat} : s₀.Keeps (s.finishModel m) := by
  unfold State.finishModel
  extract_lets -underBinder _ _ _ _ s₂ s₃
  refine .ite hs.failModel ?_
  have h₂ : s₀.Keeps s₂ := by
    refine .foldl (State.Keeps.setModel hs) fun k ht => ?_
    split
    · exact ht.foldl fun _ hu => hu.setTensor
    · exact ht
  have h₃ : s₀.Keeps s₃ := by
    dsimp only [s₃]
    split
    · exact h₂.sendStream
    · exact h₂
  split
  · exact h₃.reply
  · exact h₃

theorem State.Keeps.pumpPark (hs : s₀.Keeps s) {fn : Nat} : s₀.Keeps (s.pumpPark fn) := by
  unfold State.pumpPark
  refine hs.foldl fun _ ht => ?_
  split
  · rename_i e
    exact .beginMove (ht.toDeep.of_ok e)
  · exact ht.frame

theorem State.Keeps.endPark (hs : s₀.Keeps s) {fn : Nat} {st : Status} : s₀.Keeps (s.endPark fn st) := by
  unfold State.endPark
  split
  · exact hs.frame.reply
  · exact hs

theorem State.Keeps.endRestore (hs : s₀.Keeps s) {fn : Nat} {st : Status} : s₀.Keeps (s.endRestore fn st) := by
  unfold State.endRestore
  split
  · exact hs.frame.reply
  · exact hs

theorem State.Keeps.settleOne (hs : s₀.Keeps s) {e : MoveCause × Status} : s₀.Keeps (s.settleOne e) := by
  unfold State.settleOne
  split
  · exact hs.reply
  · exact .ite hs hs.endPark
  · exact .ite hs.endRestore (.ite hs hs.endRestore)
  · exact .ite hs (.ite hs.failModel (.ite hs hs.finishModel))
  · exact hs

theorem State.Keeps.settle (hs : s₀.Keeps s) : s₀.Keeps s.settle :=
  .foldl (.foldl (.frame (hs.foldl fun _ hs => hs.pumpPark)) fun _ hs => hs.settleOne) fun _ hs => .ite hs.endPark hs

/-! ### Of Fetch.lean -/

theorem State.Keeps.askBorrowed (hs : s₀.Keeps s) {tag : Nat} {t : Tensor} {offset count : Nat} :
    s₀.Keeps (s.askBorrowed tag t offset count) :=
  hs.send

theorem State.Keeps.pendFetch (hs : s₀.Keeps s) {h : Issue} {op cid dst : Nat} {t : Tensor} {offset count : Nat} :
    s₀.Keeps (s.pendFetch h op cid dst t offset count) :=
  .ite hs.frame.askBorrowed hs.frame

theorem State.Keeps.bring (hs : s₀.Keeps s) {h : Issue} {op cid dst : Nat} {t : Tensor} {offset count : Nat} :
    s₀.Keeps (s.bring h op cid dst t offset count) :=
  .ite hs.touch.pendFetch hs.touch.writeLines

theorem State.Keeps.fetchFrom (hs : s₀.Keeps s) {h : Issue} {op cid : Nat} {x : Handle} {fmt : Option Nat}
    {dst offset count : Nat} : s₀.Keeps (s.fetchFrom h op cid x fmt dst offset count) := by
  unfold State.fetchFrom
  split
  · exact hs.patternErr
  · exact hs.dpDeny
  · exact hs.bring

theorem State.Keeps.noteEcc (hs : s₀.Keeps s) {x : Handle} {first count : Nat} : s₀.Keeps (s.noteEcc x first count) :=
  .ite hs hs.frame

theorem State.Keeps.fetch (hs : s₀.Keeps s) {op : Nat} {h : Issue} {o : FetchOp} : s₀.Keeps (s.fetch op h o) := by
  unfold State.fetch
  refine hs.issue fun _ hs => ?_
  split
  · refine .patternErr ?_
    split
    · exact hs.noteEcc
    · exact hs.noteEcc
    · exact hs
  · split
    · exact hs.fetchFrom
    · split
      · exact hs.patternErr
      · exact .ite hs.patternErr hs.writeLines
    · exact hs.fetchFrom
    · exact hs

theorem State.Keeps.execFetchT (hs : s₀.Keeps s) {h : Issue} {o : FetchOp} : s₀.Answers (execFetchT h o s) :=
  hs.fetch.ok

theorem State.Keeps.execFetchS (hs : s₀.Keeps s) {h : Issue} {o : FetchOp} : s₀.Answers (execFetchS h o s) :=
  hs.fetch.ok

theorem State.Keeps.bringSegs (hs : s₀.Keeps s) {h : Issue} {cid fn layer lpt dst : Nat}
    {l : List (Handle × Nat × Nat × Nat)} : s₀.Keeps (s.bringSegs h cid fn layer lpt dst l) := by
  induction l generalizing s with
  | nil => exact hs
  | cons e l ih =>
    unfold State.bringSegs
    split
    · exact hs.patternErr
    · refine .ite hs.dpDeny ?_
      split
      · exact hs.patternErr
      · exact hs.dpDeny
      · exact ih hs.bring

theorem State.Keeps.execFetchKv (hs : s₀.Keeps s) {h : Issue} {o : FetchKvOp} : s₀.Answers (execFetchKv h o s) := by
  unfold Machine.execFetchKv
  refine .ok (hs.issue fun _ hs => ?_)
  split
  · exact .patternErr (hs.elim fun _ => hs.noteEcc)
  · dsimp only
    split
    · exact hs.writeLines
    · exact hs.writeLines.bringSegs

theorem State.Keeps.execMoveT (hs : s₀.Keeps s) {h : Issue} {o : MoveOp} : s₀.Answers (execMoveT h o s) :=
  .ok (hs.issue fun _ hs => hs.setCmd)

theorem State.Keeps.dropFetch (hs : s₀.Keeps s) {id : Nat} : s₀.Keeps (s.dropFetch id) := hs.frame

theorem State.Keeps.land (hs : s₀.Keeps s) {r : FetchReq} {l : List LineData} : s₀.Keeps (s.land r l) :=
  hs.writeLines.dropFetch

theorem State.Keeps.reread (hs : s₀.Keeps s) {r : FetchReq} {cycle : Nat} : s₀.Keeps (s.reread r cycle) := by
  unfold State.reread
  split
  · exact .ite hs.land (.ite hs.askBorrowed hs.dropFetch.patternErr)
  · exact .ite hs.land (.ite hs.askBorrowed hs.dropFetch.patternErr)
  · exact hs.dropFetch.patternErr

theorem State.Keeps.execTierReadComplete (hs : s₀.Keeps s) {o : TierReadOp} :
    s₀.Answers (execTierReadComplete o s) := by
  unfold Machine.execTierReadComplete
  split
  · exact hs.ok
  · exact .ok (.ite hs.noteEcc.dropFetch.patternErr hs.reread)

theorem State.Keeps.staleFetch (hs : s₀.Keeps s) {r : FetchReq} {cycle : Nat} : s₀.Keeps (s.staleFetch r cycle) :=
  .ite hs.inc.dropFetch.patternErr hs.inc.frame.reread

theorem State.Keeps.execBreadCpl (hs : s₀.Keeps s) {o : BreadCplOp} : s₀.Answers (execBreadCpl o s) := by
  unfold Machine.execBreadCpl
  split
  · exact hs.ok
  · exact .ite hs.dropFetch.patternErr.ok (.ite hs.staleFetch.ok hs.land.ok)

/-! ### Of ServeOps.lean -/

theorem State.Keeps.showSlotsBound (hs : s₀.Keeps s) : s₀.Keeps s.showSlotsBound := hs.set

theorem State.Keeps.settleMotifs (hs : s₀.Keeps s) : s₀.Keeps s.settleMotifs :=
  hs.foldl fun _ hs => hs.frame.frame.showSlotsBound

theorem State.Keeps.drainMotif (hs : s₀.Keeps s) {k : Nat} : s₀.Keeps (s.drainMotif k) := by
  unfold State.drainMotif
  split
  · split
    · dsimp only
      split
      · exact hs.frame.frame
      · exact hs.frame
    · exact hs
  · exact hs

theorem State.Keeps.tokenGap (hs : s₀.Keeps s) {us : Nat} : s₀.Keeps (s.tokenGap us) := hs.peak.sample

theorem State.Keeps.advanceSeq (hs : s₀.Keeps s) {now : Nat} {e : RosterEntry} :
    s₀.Keeps (State.advanceSeq now s e) := by
  unfold State.advanceSeq
  split
  · exact hs
  · refine .ite hs ?_
    extract_lets -underBinder _ s₁ _ s₂ _ _ _ s₃
    have h₁ : s₀.Keeps s₁ := .ite hs.tokenGap hs
    have h₂ : s₀.Keeps s₂ := .ite h₁.frame h₁
    have h₃ : s₀.Keeps s₃ := h₂.frame
    split
    · extract_lets -underBinder s₄
      have h₄ : s₀.Keeps s₄ := by
        dsimp only [s₄]
        split
        · exact h₃.setSwatch
        · exact h₃
      exact .ite h₄.finishSeq h₄
    · exact .ite h₃.finishSeq (.ite h₃.finishSeq h₃)

theorem State.Keeps.closeSeqs (hs : s₀.Keeps s) : s₀.Keeps s.closeSeqs := hs.foldl fun _ hs => hs.finishSeq

theorem State.Keeps.touchLog (hs : s₀.Keeps s) {fn : Nat} {i : TouchItem} : s₀.Keeps (s.touchLog fn i) :=
  .ite hs (.ite hs.frame hs.frame)

theorem State.Keeps.destroyKey (hs : s₀.Keeps s) {fn cause : Nat} : s₀.Keeps (s.destroyKey fn cause) :=
  .ite hs hs.frame.tinkLog

theorem State.Keeps.destroyBase (hs : s₀.Keeps s) {slot cause : Nat} : s₀.Keeps (s.destroyBase slot cause) :=
  .ite hs hs.frame.tinkLog

theorem State.Keeps.charge (hs : s₀.Keeps s) {fn n : Nat} : s₀.Keeps (s.charge fn n) := hs.frame

theorem State.Keeps.chargeStep (hs : s₀.Keeps s) {r : Roster} {rows : Nat} : s₀.Keeps (s.chargeStep r rows) :=
  hs.foldl fun _ hs => hs.charge

theorem State.Keeps.saveQueues (hs : s₀.Keeps s) {fn : Nat} : s₀.Keeps (s.saveQueues fn) := by
  unfold State.saveQueues
  split
  · exact hs
  · exact hs.frame

theorem State.Keeps.preempted (hs : s₀.Keeps s) {p : Preempt} : s₀.Keeps (s.preempted p) :=
  .reply (.frame (.setF (.saveQueues (hs.foldl fun _ hs => .ite (.frame (.ite hs hs.unpin)) hs))))

theorem State.Keeps.frogFn (hs : s₀.Keeps s) {fn : Nat} : s₀.Keeps (s.frogFn fn) :=
  .stopMoves (hs.foldl fun _ hs => .forget (.untask (.ite hs hs.frog)))

theorem State.Keeps.settlePreempts (hs : s₀.Keeps s) : s₀.Keeps s.settlePreempts :=
  hs.foldl fun _ hs => .ite hs hs.frogFn.preempted

theorem State.Keeps.commitStep (hs : s₀.Keeps s) {now : Nat} : s₀.Keeps (s.commitStep now) := by
  unfold State.commitStep
  split
  · exact hs
  · exact .showSpace (.inc2 (.frame (hs.unlockRoster.frame.chargeStep.foldl fun _ hs => hs.advanceSeq)))

/-! ### Of RosterOps.lean -/

theorem State.Keeps.showCaps (hs : s₀.Keeps s) : s₀.Keeps s.showCaps := hs.set.set.set.set.set

theorem State.Keeps.applyLevel (hs : s₀.Keeps s) : s₀.Keeps s.applyLevel := .ite hs hs.set.set.tinkLog

theorem State.Keeps.showGauge (hs : s₀.Keeps s) : s₀.Keeps s.showGauge := hs.set.set

theorem State.Keeps.pwrErr (hs : s₀.Keeps s) {f : Fld} : s₀.Keeps (s.pwrErr f) := hs.err

theorem State.Keeps.gaugeFor (hs : s₀.Keeps s) {cls l : Nat} : s₀.Keeps (s.gaugeFor cls l) :=
  .ite hs (.ite (.ite hs hs.frame.showGauge) hs.frame.showCaps.showGauge.pwrErr.tinkLog)

theorem State.Keeps.markReady (hs : s₀.Keeps s) {k : Nat} : s₀.Keeps (s.markReady k) := hs.frame.orBits

theorem State.Keeps.writeRoster (hs : s₀.Keeps s) {k : Nat} {t : Template} {r : Roster} :
    s₀.Keeps (s.writeRoster k t r) := by
  unfold State.writeRoster
  extract_lets -underBinder _ s₁ s₂ s₃
  have h₁ : s₀.Keeps s₁ := by
    refine hs.near fun w => ?_
    dsimp only
    exact Memory.writeBytes_wf w _ _
  have h₃ : s₀.Keeps s₃ := by
    dsimp only [s₃]
    split
    · exact .ite h₁.markReady.send h₁.markReady
    · exact h₁.markReady
  exact h₃.mirror

/-! ### Of LinkOps.lean -/

theorem State.Keeps.linkErr (hs : s₀.Keeps s) {l : Nat} {f : Fld} : s₀.Keeps (s.linkErr l f) := hs.set.err

theorem State.Keeps.showUp (hs : s₀.Keeps s) : s₀.Keeps s.showUp := hs.set

theorem State.Keeps.quiet (hs : s₀.Keeps s) {l st : Nat} : s₀.Keeps (s.quiet l st) :=
  hs.setF.setF.setF.setF.setF.setF.showUp

theorem State.Keeps.showWidth (hs : s₀.Keeps s) {l : Nat} {twoLane halfRate : Bool} :
    s₀.Keeps (s.showWidth l twoLane halfRate) :=
  hs.setF.setF.setF

theorem State.Keeps.takeBack (hs : s₀.Keeps s) {h : Nat} : s₀.Keeps (s.takeBack h) := by
  unfold State.takeBack
  split
  · exact hs.frame.releaseNear.showSpace
  · exact hs

theorem State.Keeps.loseHanks (hs : s₀.Keeps s) {p : Nat → Nat → Bool} : s₀.Keeps (s.loseHanks p) := by
  unfold State.loseHanks
  exact .showSpace (.foldl (hs.frame.foldl fun _ hs => .ite hs.setTensor hs.setTensor.setQuota.noteMoved) fun _ hs =>
    hs.staleFetch)

theorem State.Keeps.loseBorrowed (hs : s₀.Keeps s) {l : Nat} : s₀.Keeps (s.loseBorrowed l) := hs.loseHanks

theorem State.Keeps.dropStaged (hs : s₀.Keeps s) {l : Nat} {mine : Staged → Bool} : s₀.Keeps (s.dropStaged l mine) :=
  hs.frame.showStaging

theorem State.Keeps.loseJob (hs : s₀.Keeps s) {l : Nat} : s₀.Keeps (s.loseJob l) := .ite hs.frame.faultResponse hs

theorem State.Keeps.loseLink (hs : s₀.Keeps s) {l : Nat} : s₀.Keeps (s.loseLink l) := by
  unfold State.loseLink
  exact .loseJob (.dropStaged (hs.linkErr.loseBorrowed.foldl fun _ hs => hs.takeBack))

theorem State.Keeps.goDown (hs : s₀.Keeps s) {l cause : Nat} {noRetry : Bool} : s₀.Keeps (s.goDown l cause noRetry) :=
  hs.setLink.quiet.setF.tinkLog.loseLink

theorem State.Keeps.detach (hs : s₀.Keeps s) {l : Nat} : s₀.Keeps (s.detach l) :=
  .ite hs.setLink.quiet.setF.setF.setF.dropStaged.tinkLog hs.setLink.quiet.setF.setF.setF.dropStaged

theorem State.Keeps.flipKeys (hs : s₀.Keeps s) {l : Nat} : s₀.Keeps (s.flipKeys l) := hs.setLink.setF.setF.setF.tinkLog

theorem State.Keeps.rekey (hs : s₀.Keeps s) {l : Nat} : s₀.Keeps (s.rekey l) :=
  .ite hs (.ite hs.setLink.send.flipKeys hs.setLink.send)

theorem State.Keeps.arriveFrame (hs : s₀.Keeps s) {l n : Nat} {onDegraded : Bool} :
    Found.Each s₀.Keeps (s.arriveFrame l n onDegraded) := by
  unfold State.arriveFrame
  split
  · trivial
  · exact State.Keeps.ite hs.setF.setF.wake hs.setF.setF

theorem State.Keeps.protocolErr (hs : s₀.Keeps s) {l type tag seq : Nat} : s₀.Keeps (s.protocolErr l type tag seq) :=
  hs.linkErr.tinkLog

theorem State.Keeps.tokenIn (hs : s₀.Keeps s) {l ordinal : Nat} {k : State → State}
    (hk : ∀ {u}, s₀.Keeps u → s₀.Keeps (k u)) : s₀.Keeps (s.tokenIn l ordinal k) :=
  .ite (hk hs.setLink) hs.linkErr.tinkLog.faultResponse

/-! ### Of RegOps.lean -/

theorem State.Keeps.writeField (hs : s₀.Keeps s) {fn v : Nat} {f : Fld} : s₀.Keeps (State.writeField fn v s f) := by
  unfold State.writeField
  split
  · exact hs.setF
  · exact .ite hs hs.setF
  · exact .ite hs hs.setF
  · exact hs

theorem State.Keeps.writeWord (hs : s₀.Keeps s) {fn off v : Nat} {p : Fld → Bool} : s₀.Keeps (s.writeWord fn off v p) :=
  hs.foldl fun _ hs => hs.writeField

theorem State.Keeps.retain (hs : s₀.Keeps s) {off : Nat} : s₀.Keeps (s.retain off) := .ite hs hs.frame

/-! ### Of FlrOps.lean -/

theorem State.Keeps.dropLifeline (hs : s₀.Keeps s) {l : Lifeline} : s₀.Keeps (s.dropLifeline l) := by
  unfold State.dropLifeline
  refine .showSpace (.foldl (.foldl hs.frame fun _ ht => ht.elim fun _ => ht.dropTensor) fun e ht => ?_)
  extract_lets -underBinder s₁
  have h₁ : s₀.Keeps s₁ := by
    dsimp only [s₁]
    split
    · exact .ite ht ht.releaseDeep
    · exact ht
  split
  · exact h₁.releaseNear.setQuota
  · exact h₁

theorem State.Keeps.releaseTold (hs : s₀.Keeps s) {t : Tensor} : s₀.Keeps (s.releaseTold t) :=
  .dropTensor (.ite hs hs.noteMoved)

theorem State.Keeps.releaseDoomed (hs : s₀.Keeps s) : s₀.Keeps s.releaseDoomed :=
  .ite hs (.showSpace (hs.frame.foldl fun _ hs => hs.elim fun _ => hs.releaseTold))

theorem State.Keeps.dropHost (hs : s₀.Keeps s) {fn : Nat} : s₀.Keeps (s.dropHost fn) := hs.frame.setF.setF.showNotes

theorem State.Keeps.dropMoves (hs : s₀.Keeps s) {fn : Nat} : s₀.Keeps (s.dropMoves fn) :=
  .frame (hs.foldl fun _ hs => hs.dropMove)

theorem State.Keeps.dropHeld (hs : s₀.Keeps s) {fn : Nat} : s₀.Keeps (s.dropHeld fn) :=
  .ite hs (.frame (.setQuota (hs.foldl fun _ hs => hs.releaseDeep)))

theorem State.Keeps.startReset (hs : s₀.Keeps s) {fn cause : Nat} {t : Option Ticket} :
    s₀.Keeps (s.startReset fn cause t) :=
  hs.dropHost.dropMoves.destroyKey.dropHeld.frame

theorem State.Keeps.resetWindow (hs : s₀.Keeps s) {fn state : Nat} : s₀.Keeps (s.resetWindow fn state) := by
  unfold State.resetWindow
  refine .setF ?_
  exact ⟨hs.queue, fun h => List.Pairwise.filter _ (hs.regs h), hs.mem⟩

theorem State.Keeps.dropWork (hs : s₀.Keeps s) {fn : Nat} : s₀.Keeps (s.dropWork fn) :=
  .showSeqs (.foldl (.foldl (.frame (hs.frogFn.foldl fun _ hs => .ite hs hs.unpin)) fun _ hs => hs.reply) fun _ hs =>
    hs.dropLifeline)

theorem State.Keeps.resetCtx (hs : s₀.Keeps s) {fn : Nat} : s₀.Keeps (s.resetCtx fn) := hs.frame

theorem State.Keeps.endReset (hs : s₀.Keeps s) {fn cause : Nat} {t : Option Ticket} :
    s₀.Keeps (s.endReset fn cause t) :=
  .via (.ite hs.dropWork.resetCtx (hs.dropWork.resetCtx.foldl fun _ hs => hs.drainMotif)) fun h₁ => .via
    (.settlePreempts
    (.releaseDoomed (.settleMotifs (.ite h₁.resetWindow.frame.mirrorCtx.frame h₁.resetWindow.frame.mirrorCtx))))
    fun h₂ => h₂.elim fun _ => h₂.reply

theorem State.Keeps.settleResets (hs : s₀.Keeps s) : s₀.Keeps s.settleResets := hs.foldl fun _ hs => hs.endReset

theorem State.Keeps.resetFn (hs : s₀.Keeps s) {fn cause : Nat} {t : Option Ticket} : s₀.Keeps (s.resetFn fn cause t) :=
  hs.startReset.settleResets

/-! ### Of Unpack.lean -/

theorem State.Keeps.putCodes (hs : s₀.Keeps s) {h : Issue} {stage dst width : Nat} {c : Codes} :
    s₀.Keeps (s.putCodes h stage dst width c) :=
  hs.writeLines.counts

theorem State.Keeps.execUnpCvt (hs : s₀.Keeps s) {h : Issue} {o : UnpCvtOp} : s₀.Answers (execUnpCvt h o s) := by
  unfold Machine.execUnpCvt
  split
  · exact .ok (hs.issue fun _ hs => hs.putCodes)
  · exact hs.ok

theorem State.Keeps.execUnpDq (hs : s₀.Keeps s) {h : Issue} {o : UnpDqOp} : s₀.Answers (execUnpDq h o s) := by
  unfold Machine.execUnpDq
  split
  · exact .ok (hs.issue fun _ hs => hs.putCodes)
  · exact hs.ok

theorem State.Keeps.execUnpRht (hs : s₀.Keeps s) {h : Issue} {o : UnpRhtOp} : s₀.Answers (execUnpRht h o s) := by
  unfold Machine.execUnpRht
  split
  · exact .ok (hs.issue fun _ hs => hs.putCodes)
  · exact hs.ok

theorem State.Keeps.execUnpLay (hs : s₀.Keeps s) {h : Issue} {o : UnpLayOp} : s₀.Answers (execUnpLay h o s) := by
  unfold Machine.execUnpLay
  split
  · exact .ok (hs.issue fun _ hs => hs.putCodes)
  · exact hs.ok

/-! ### Of Pack.lean -/

theorem State.Keeps.keepStream (hs : s₀.Keeps s) {cid k : Nat} {st : Machine.Stream} :
    s₀.Keeps (s.keepStream cid k st) :=
  hs.setCmd

theorem State.Keeps.pack (hs : s₀.Keeps s) {h : Issue} {o : PkOp} {f sc : Fmt} {rm : Nat → RMode} :
    s₀.Keeps (s.pack h o f sc rm) :=
  hs.writeLines.counts

theorem State.Keeps.execPkQ (hs : s₀.Keeps s) {h : Issue} {o : PkOp} : s₀.Answers (execPkQ h o s) := by
  unfold Machine.execPkQ
  split
  · exact .ok (hs.issue fun _ hs => hs.pack)
  · exact hs.ok

theorem State.Keeps.execPkSr (hs : s₀.Keeps s) {h : Issue} {o : PkOp} : s₀.Answers (execPkSr h o s) := by
  unfold Machine.execPkSr
  split
  · exact .ok (hs.issue fun _ hs => hs.pack.keepStream)
  · exact hs.ok

/-! ### Of Commit.lean -/

theorem State.Keeps.tierWrite (hs : s₀.Keeps s) {h : Issue} {op cid : Nat} {t : Tensor} {offset : Nat}
    {l : List LineData} : s₀.Keeps (s.tierWrite h op cid t offset l) :=
  .ite hs.setTensor.writeNear.setCmd.sendTwin.frame hs.setTensor.writeNear.setCmd

theorem State.Keeps.execCmTens (hs : s₀.Keeps s) {h : Issue} {o : CmTensOp} : s₀.Answers (execCmTens h o s) := by
  unfold Machine.execCmTens
  refine .ok (hs.issue fun _ hs => ?_)
  split
  · exact hs.patternErr
  · exact hs.dpDeny
  · exact hs.tierWrite

theorem State.Keeps.kvEntry {h : Issue} {o : CmKvOp} {r : Roster} {cid lpt : Nat} {a : State × Bool} {e : RosterEntry}
    (hs : s₀.Keeps a.1) : s₀.Keeps (State.kvEntry h o r cid lpt a e).1 := by
  unfold State.kvEntry
  dsimp only
  split
  · exact hs
  · split
    · exact hs.patternErr
    · split
      · exact hs.dpDeny
      · split
        · exact hs.patternErr
        · split
          · exact hs.patternErr
          · exact hs.dpDeny
          · exact hs.tierWrite

theorem State.Keeps.execCmKv (hs : s₀.Keeps s) {h : Issue} {o : CmKvOp} : s₀.Answers (execCmKv h o s) :=
  .ok (hs.issue fun _ hs => .foldlBy Prod.fst hs fun _ ha => ha.kvEntry)

theorem State.Keeps.stageStream (hs : s₀.Keeps s) {cid k : Nat} : s₀.Keeps (State.stageStream cid s k) := hs.setCmd

theorem State.Keeps.execCmCtx (hs : s₀.Keeps s) {h : Issue} {o : CmCtxOp} : s₀.Answers (execCmCtx h o s) :=
  .ok (hs.issue fun _ h₁ => .ite h₁.setCmd (.ite (h₁.foldl fun _ hs => hs.stageStream)
    (.ite (h₁.foldl fun _ hs => hs.stageStream) (.ite h₁.setCmd h₁))))

theorem State.Keeps.faultPeers (hs : s₀.Keeps s) : s₀.Keeps s.faultPeers := .ite hs hs.draw.sendTokens.needResync

theorem State.Keeps.frogGraph (hs : s₀.Keeps s) {g : Nat} : s₀.Keeps (s.frogGraph g) :=
  hs.foldl fun _ hs => .forget (.completeCmd (.ite hs hs.frog))

theorem State.Keeps.dropStitch (hs : s₀.Keeps s) {h : Issue} {cid : Nat} : s₀.Keeps (s.dropStitch h cid) :=
  .via (.ite hs.frog.tinkAt.inc.set.set.set.set.set.completeCmd.forget.faultPeers.frogGraph
    hs.frog.tinkAt.inc.set.set.set.set.set.completeCmd.forget) fun h₁ => .frame (.faultTasks (.ite h₁.frame h₁))

theorem State.Keeps.execCmMark (hs : s₀.Keeps s) {h : Issue} {o : CmMarkOp} : s₀.Answers (execCmMark h o s) :=
  .ok (hs.issue fun _ hs => .ite hs (.ite hs.dropStitch hs.setCmd))

theorem State.Keeps.execTierWriteAck (hs : s₀.Keeps s) {o : SlotOp} : s₀.Answers (execTierWriteAck o s) := by
  unfold Machine.execTierWriteAck
  split
  · exact hs.ok
  · exact hs.setCmd.ok

theorem State.Keeps.execTierWriteFail (hs : s₀.Keeps s) {o : SlotOp} : s₀.Answers (execTierWriteFail o s) := by
  unfold Machine.execTierWriteFail
  split
  · exact hs.ok
  · dsimp only
    split
    · exact hs.ok
    · exact .ite hs.setCmd.ok hs.setCmd.patternErr.ok

theorem State.Keeps.execCommitPoint (hs : s₀.Keeps s) {o : SlotOp} : s₀.Answers (execCommitPoint o s) := by
  unfold Machine.execCommitPoint
  split
  · exact hs.ok
  · exact .ok (.ite hs.commit.releaseDoomed hs)

theorem State.Keeps.leaveFaulted (hs : s₀.Keeps s) : s₀.Keeps s.leaveFaulted := .ite hs.set hs

theorem State.Keeps.execFrogComplete (hs : s₀.Keeps s) {o : SlotOp} : s₀.Answers (execFrogComplete o s) := by
  unfold Machine.execFrogComplete
  split
  · exact hs.ok
  · exact .ite (.ok (.leaveFaulted (.frame (.ite hs.endFrog.dropCmd hs.endFrog)))) hs.ok

/-! ### Of RowOps.lean -/

theorem State.Keeps.rest (hs : s₀.Keeps s) {n : Nat} : s₀.Keeps (s.rest n) := hs.set.showActive

theorem State.Keeps.haltDone (hs : s₀.Keeps s) : s₀.Keeps s.haltDone := hs.set.set.set.set.set.rest

theorem State.Keeps.placeOne (hs : s₀.Keeps s) {fn most : Nat} {fabric : Bool} {p : Placement} :
    s₀.Keeps (State.placeOne fn most fabric s p) := by
  unfold State.placeOne
  refine .ite hs ?_
  split
  · exact hs
  · exact .ite hs.setCmd hs.frame.frame.setCmd

theorem State.Keeps.frogGap (hs : s₀.Keeps s) : s₀.Keeps s.frogGap := .frame (hs.foldl fun _ hs => hs.frog)

theorem State.Keeps.consumeToken (hs : s₀.Keeps s) {l : Nat} : s₀.Keeps (s.consumeToken l) := hs.setLink.setF

theorem State.Keeps.beginRow (hs : s₀.Keeps s) {kind : RowKind} {r : RowRecord} : s₀.Keeps (s.beginRow kind r) :=
  .via (.foldl (.ite hs hs.inc2) fun _ hs => hs.consumeToken) fun h₁ => .ite
    (.frame (.showActive (.ite h₁.frame.set.set.set.set.inc h₁.frame.set.set.set.set)))
    (.showActive (.ite h₁.frame.set.set.set.set.inc h₁.frame.set.set.set.set))

theorem State.Keeps.gated (hs : s₀.Keeps s) {r : RowRecord} {k : State → State}
    (hk : ∀ {u}, s₀.Keeps u → s₀.Keeps (k u)) : s₀.Keeps (s.gated r k) :=
  .ite hs (.ite (hk hs) hs.set)

theorem State.Keeps.rosterInvalid (hs : s₀.Keeps s) : s₀.Keeps s.rosterInvalid :=
  hs.setSeqFault.sendTokens.needResync.enterFaulted.startFlush

theorem State.Keeps.showTemplate (hs : s₀.Keeps s) {t : Template} : s₀.Keeps (s.showTemplate t) :=
  .ite hs.set.set.set.tinkLog hs.set.set.set

theorem State.Keeps.startStep (hs : s₀.Keeps s) {k : Nat} {r : Roster} {t : Template} : s₀.Keeps (s.startStep k r t) :=
  .showTemplate (.orBits (.foldl (.frame (hs.frogGap.foldl fun _ hs => hs.setCmd)) fun _ hs => hs.touchLog.touchLog))

theorem State.Keeps.tryStart (hs : s₀.Keeps s) {k : Nat} : s₀.Keeps (s.tryStart k) := by
  unfold State.tryStart
  dsimp only
  split
  · exact hs.rosterInvalid
  · exact .ite hs.secErr.tinkLog.rosterInvalid (.ite hs.rosterInvalid
      (.ite (hs.gated fun hs => hs.startStep.beginRow) hs.frame.beginRow))

theorem State.Keeps.gapRow (hs : s₀.Keeps s) {fn : Nat} {o : RowStartOp} : s₀.Keeps (s.gapRow fn o) := by
  unfold State.gapRow
  dsimp only
  split
  · exact .frame (hs.frame.beginRow.foldl fun _ hs => hs.placeOne)
  · exact .ite (hs.frame.beginRow.foldl fun _ hs => hs.placeOne) hs

theorem State.Keeps.windowRow (hs : s₀.Keeps s) {w : Window} {o : RowStartOp} : s₀.Keeps (s.windowRow w o) :=
  hs.gated fun h₁ => h₁.frogGap.frame.beginRow.foldl fun _ hs => hs.placeOne

theorem State.Keeps.countStall (hs : s₀.Keeps s) : s₀.Keeps s.countStall := .ite hs hs.frame.inc

theorem State.Keeps.boundary (hs : s₀.Keeps s) {o : RowStartOp} : s₀.Keeps (s.boundary o) := by
  unfold State.boundary
  extract_lets -underBinder s₁ s₂
  have h₁ : s₀.Keeps s₁ := .ite hs hs.settleResets
  refine .ite h₁ ?_
  have h₂ : s₀.Keeps s₂ := h₁.applyLevel.countStall
  split
  · exact h₂.gated fun hs => hs.frame.beginRow
  · exact h₂
  · exact .ite h₂.gapRow.frame h₂.gapRow
  · exact h₂.windowRow
  · exact h₂.tryStart
  · exact h₂.gapRow
  · exact .ite h₂ h₂.rest

theorem State.Keeps.endWindow (hs : s₀.Keeps s) {w : Window} : s₀.Keeps (s.endWindow w) :=
  .frame (hs.foldl fun _ h₁ => .frame (.foldl (h₁.foldl fun _ hs => hs.elim fun _ => .ite hs hs.postCommand) fun _ hs =>
    hs.elim fun _ => .ite hs hs.postCommand))

theorem State.Keeps.endKind (hs : s₀.Keeps s) : s₀.Keeps s.endKind := by
  unfold State.endKind
  split
  · split
    · exact hs.frame
    · exact hs
  · split
    · exact hs.charge
    · exact hs
  · split
    · exact hs
    · exact .ite hs.charge.endWindow hs.charge.frame
  · split
    · exact hs
    · exact .ite (.set (.frame (hs.foldl fun _ hs => hs.dropCmd))) hs.frame

theorem State.Keeps.faultJob (hs : s₀.Keeps s) {cids : List Nat} : s₀.Keeps (s.faultJob cids) :=
  .ite hs.faultCommands.faultStep hs.faultCommands

theorem State.Keeps.haltRow (hs : s₀.Keeps s) : s₀.Keeps s.haltRow :=
  .via (hs.foldl fun _ hs => hs.frog) fun h₁ => .haltDone (.ite h₁.frame.faultPeers.faultJob.frame h₁.frame)

theorem State.Keeps.afterRow (hs : s₀.Keeps s) : s₀.Keeps s.afterRow :=
  .ite hs.haltRow (.ite hs.haltDone (.ite hs.rest hs))

theorem State.Keeps.endRow (hs : s₀.Keeps s) {o : RowCompleteOp} : s₀.Keeps (s.endRow o) :=
  hs.peak.peak.sample.inc.sendTokens.frame.set.set.endKind.settleResets.settlePreempts.settleMotifs.closeSeqs.releaseDoomed.settle.afterRow

/-! ### Of BindOps.lean -/

theorem State.Keeps.setTwinLinks (hs : s₀.Keeps s) {mask : Nat} : s₀.Keeps (s.setTwinLinks mask) :=
  .set (hs.foldl fun _ hs => hs.setF)

theorem State.Keeps.dissolve (hs : s₀.Keeps s) : s₀.Keeps s.dissolve :=
  .via (hs.set.set.set.set.setTwinLinks.set.frame.foldl fun _ hs => hs.post) fun h₁ => h₁.elim fun _ => h₁.reply

theorem State.Keeps.writeRetained (hs : s₀.Keeps s) {failed : Bool} : s₀.Keeps (s.writeRetained failed) :=
  hs.frame.set.tinkLog

theorem State.Keeps.bindDrain (hs : s₀.Keeps s) {b : BindOff} : s₀.Keeps (s.bindDrain b) :=
  .ite hs (.via (hs.foldl fun _ hs => hs.frogFn) fun h₁ => .ite h₁.frame
    (.frame (.foldl (h₁.frame.foldl fun _ hs => hs.finishSeq) fun _ hs => hs.writeBack)))

theorem State.Keeps.zeroClosed (hs : s₀.Keeps s) : s₀.Keeps s.zeroClosed :=
  hs.near fun w => Memory.filter_wf w _

theorem State.Keeps.bindLinks (hs : s₀.Keeps s) {b : BindOff} : s₀.Keeps (s.bindLinks b) :=
  .via (hs.foldl fun _ hs => hs.detach) fun h₁ => .frame
    (.startFlush (.ite (.zeroClosed (.ite h₁.dissolve h₁)) (.ite h₁.dissolve h₁)))

theorem State.Keeps.bindDone (hs : s₀.Keeps s) {b : BindOff} : s₀.Keeps (s.bindDone b) :=
  hs.draw.frame.set.tinkLog.reply

/-- The end of a binding's next stage. -/
theorem State.Keeps.bindAdvance (hs : s₀.Keeps s) : s₀.Keeps s.bindAdvance := by
  unfold State.bindAdvance
  extract_lets one
  have h₁ {t} (ht : s₀.Keeps t) : s₀.Keeps (one t) := by
    simp only [one]
    split
    · exact ht
    · split
      · exact ht.bindDrain
      · exact .ite ht ht.frame
      · exact .ite ht ht.bindLinks
      · exact .ite ht ht.bindDone
  exact h₁ (h₁ hs)

/-! ### Of ModuleOps.lean -/

theorem State.Keeps.stopJobs (hs : s₀.Keeps s) : s₀.Keeps s.stopJobs :=
  .ite hs.startFlush (.startFlush (.enterFaulted (hs.foldl fun _ hs => hs.frog)))

theorem State.Keeps.faultAll (hs : s₀.Keeps s) : s₀.Keeps s.faultAll :=
  .ite hs (.frame (.foldl (hs.faultCommands.faultTasks.frame.faultStep.foldl fun _ hs => hs.finishSeq) fun _ hs =>
    hs.clrBits))

theorem State.Keeps.moduleFault (hs : s₀.Keeps s) {cause : Nat} : s₀.Keeps (s.moduleFault cause) :=
  .settleResets (.faultAll (.stopJobs (.ite hs.sendTwin hs)))

theorem State.Keeps.showBanks (hs : s₀.Keeps s) : s₀.Keeps s.showBanks := hs.set.set

theorem State.Keeps.endUpdate (hs : s₀.Keeps s) : s₀.Keeps s.endUpdate := by
  unfold State.endUpdate
  split
  · exact hs
  · exact hs.frame.set.showBanks.elim fun _ => hs.frame.set.showBanks.tinkLog

theorem State.Keeps.rewindQueues (hs : s₀.Keeps s) : s₀.Keeps s.rewindQueues := hs.frame

theorem State.Keeps.resetAdvance (hs : s₀.Keeps s) : s₀.Keeps s.resetAdvance := .ite hs.stopJobs hs

theorem State.Keeps.failTrial (hs : s₀.Keeps s) : s₀.Keeps s.failTrial := .ite hs hs.frame

theorem State.Keeps.complexReset (hs : s₀.Keeps s) {cause comp flags now : Nat} :
    s₀.Keeps (s.complexReset cause comp flags now) :=
  .ite hs (.via
    (.endUpdate (.rewindQueues (.set (.set (.set (.set (.ite hs.inc.set.tinkLog.sendTwin hs.inc.set.tinkLog)))))))
    fun h₁ => .failTrial (.resetAdvance (.ite h₁.frame.set.set h₁.frame)))

theorem State.Keeps.lastFlush (hs : s₀.Keeps s) {can : Bool} : s₀.Keeps (s.lastFlush can) := hs.frame.set

theorem State.Keeps.saveDirty (hs : s₀.Keeps s) {t : Tensor} : s₀.Keeps (s.saveDirty t) :=
  .ite hs.draw (.putTensor (.wroteFlash (.ite hs.draw.takeDeep.putCells.releaseDeep hs.draw.takeDeep.putCells)))

theorem State.Keeps.powerOff (hs : s₀.Keeps s) {canFlush canWrite : Bool} : s₀.Keeps (s.powerOff canFlush canWrite) :=
  .via (hs.frame.endUpdate.lastFlush.foldl fun _ hs => hs.dropMove) fun h₁ => .ite h₁
    (h₁.foldl fun _ hs => hs.saveDirty)

/-! ### Of PowerOps.lean -/

theorem State.Keeps.levelChanged (hs : s₀.Keeps s) : s₀.Keeps s.levelChanged := hs.showCaps.frame

theorem State.Keeps.holdFrames (hs : s₀.Keeps s) {l : List (Nat × Nat)} {on : Bool} : s₀.Keeps (s.holdFrames l on) :=
  hs.frame

theorem State.Keeps.showDefers (hs : s₀.Keeps s) : s₀.Keeps s.showDefers := hs.set.set

theorem State.Keeps.deferAsk (hs : s₀.Keeps s) {d : Defer} : s₀.Keeps (s.deferAsk d) :=
  .ite hs hs.frame.holdFrames.showDefers.tinkLog

theorem State.Keeps.undefer (hs : s₀.Keeps s) {block : Nat} : s₀.Keeps (s.undefer block) :=
  .showDefers (.foldl (.frame (hs.foldl fun _ hs => hs.holdFrames)) fun _ hs => hs.holdFrames)

theorem State.Keeps.storeImageStep (hs : s₀.Keeps s) : s₀.Keeps s.storeImageStep := by
  unfold State.storeImageStep
  exact .showSpace
    (.frame (.foldl (.foldl (hs.foldl fun _ hs => hs.arrive) fun _ h₁ => .setModel
    (h₁.foldl fun _ hs => hs.elim fun _ => hs.dropPair)) fun _ hs => hs.elim fun _ => hs.dropTensor))

theorem State.Keeps.advanceStore (hs : s₀.Keeps s) : s₀.Keeps s.advanceStore :=
  .ite hs (.ite (hs.storeImageStep.deferAsk.elim fun _ => hs.storeImageStep.deferAsk.reply) hs.storeImageStep)

theorem State.Keeps.powerDown (hs : s₀.Keeps s) : s₀.Keeps s.powerDown :=
  .near (hs.foldl fun _ ht => ht.detach) fun _ => Memory.nil_wf

theorem State.Keeps.storeExit (hs : s₀.Keeps s) : s₀.Keeps s.storeExit := by
  unfold State.storeExit
  split
  · exact hs
  · refine .settle (.foldl (hs.near fun w => Memory.paste_wf w _ _ _) fun _ h₁ => h₁.setModel.foldl fun _ h₂ => ?_)
    split
    · exact h₂
    · split
      · rename_i e
        exact h₂.startMove.of_ok e
      · exact h₂.frame

theorem State.Keeps.wakeFrom (hs : s₀.Keeps s) {deepest : Nat} : s₀.Keeps (s.wakeFrom deepest) := .ite hs.wake hs

theorem State.Keeps.stateDone (hs : s₀.Keeps s) {src dst : Nat} {bounce : Bool} :
    s₀.Keeps (s.stateDone src dst bounce) :=
  hs.pwrErr.tinkLog

theorem State.Keeps.bounce (hs : s₀.Keeps s) : s₀.Keeps s.bounce := .ite hs hs.inc.pwrErr.frame.set.wake

theorem State.Keeps.beginEntry (hs : s₀.Keeps s) {target : Nat} {t : Ticket} : s₀.Keeps (s.beginEntry target t) :=
  .ite hs.frame.set (hs.frame.set.frame.foldl fun _ hs => hs.writeBack)

/-! ### Of ZeroOps.lean -/

theorem State.Keeps.zeroFrames (hs : s₀.Keeps s) {fs : List Nat} : s₀.Keeps (s.zeroFrames fs) :=
  hs.near fun w => Memory.filter_wf w _

theorem State.Keeps.loseNear (hs : s₀.Keeps s) {t : Tensor} : s₀.Keeps (s.loseNear t) := by
  unfold State.loseNear
  split
  · refine .noteMoved ?_
    split
    · exact hs.setTensor.setQuota.frame
    · exact hs.setTensor.setQuota
  · exact hs.setTensor

theorem State.Keeps.forceZero (hs : s₀.Keeps s) {fs : List Nat} : s₀.Keeps (s.forceZero fs) := by
  unfold State.forceZero
  exact .showSpace
    (.foldl (.foldl (.foldl (.zeroFrames (hs.foldl fun _ hs => hs.failMove)) fun _ hs => hs.elim fun _ => hs.loseNear)
    fun _ hs => hs.setF) fun _ hs => hs.finishSeq)

theorem State.Keeps.zeroiseJobs (hs : s₀.Keeps s) : s₀.Keeps s.zeroiseJobs :=
  .frame (.foldl (hs.faultCommands.faultTasks.frame.faultStep.foldl fun _ hs => hs.finishSeq) fun _ hs => hs.clrBits)

theorem State.Keeps.zeroiseNear (hs : s₀.Keeps s) : s₀.Keeps s.zeroiseNear :=
  hs.zeroFrames.near fun w => Memory.filter_wf w _

theorem State.Keeps.loseHome (hs : s₀.Keeps s) {t : Tensor} : s₀.Keeps (s.loseHome t) :=
  .ite hs hs.releaseDeep.setTensor.setQuota

theorem State.Keeps.zeroiseTensor (hs : s₀.Keeps s) {t : Tensor} : s₀.Keeps (s.zeroiseTensor t) :=
  .ite hs (.mapTensor (.ite (hs.loseHome.deep fun w => Memory.zero_wf w _ _) hs.loseHome))

theorem State.Keeps.eraseDeep (hs : s₀.Keeps s) : s₀.Keeps s.eraseDeep :=
  .foldl (hs.deep fun _ => Memory.nil_wf) fun _ ht => .ite ht.setTensor ht.loseHome

theorem State.Keeps.zeroiseEnd (hs : s₀.Keeps s) : s₀.Keeps s.zeroiseEnd :=
  .foldl (.ite hs.set.secErr.draw.tinkLog hs.set.secErr.draw.tinkLog.eraseDeep.set) fun _ hs => hs.reply

theorem State.Keeps.zeroAdvance (hs : s₀.Keeps s) : s₀.Keeps s.zeroAdvance :=
  .ite hs (.showSpace
    (.zeroiseEnd (.foldl (.zeroiseNear (hs.zeroiseJobs.foldl fun _ hs => hs.failMove)) fun _ hs => hs.zeroiseTensor)))

/-! ### Of Sequencer.lean -/

theorem State.Keeps.execRowRecordFetch (hs : s₀.Keeps s) {o : RowFetchOp} : s₀.Answers (execRowRecordFetch o s) :=
  .ite hs.ok (.ite hs.patternErr.ok hs.frame.ok)

theorem State.Keeps.execRowStart (hs : s₀.Keeps s) {o : RowStartOp} : s₀.Answers (execRowStart o s) :=
  hs.bindAdvance.zeroAdvance.boundary.ok

theorem State.Keeps.execRowComplete (hs : s₀.Keeps s) {o : RowCompleteOp} : s₀.Answers (execRowComplete o s) :=
  .ite hs.endRow.bindAdvance.resetAdvance.zeroAdvance.ok hs.ok

theorem State.Keeps.execActivityLimiterBin (hs : s₀.Keeps s) {want holds : Nat} :
    s₀.Answers (execActivityLimiterBin want holds s) :=
  .ok (.set (.frame (.ite hs.inc hs)))

theorem State.Keeps.execTickOverrun (hs : s₀.Keeps s) {cycle : Nat} : s₀.Answers (execTickOverrun cycle s) :=
  .ite hs.faultResponse.ok hs.ok

theorem State.Keeps.execBarrierTimeout (hs : s₀.Keeps s) : s₀.Answers (execBarrierTimeout s) :=
  .ite hs.faultResponse.ok hs.ok

theorem State.Keeps.execRosterBuild (hs : s₀.Keeps s) : s₀.Answers (execRosterBuild s) := by
  unfold Machine.execRosterBuild
  split
  · exact hs.ok
  · dsimp only
    split
    · refine .ok ?_
      split
      · exact hs.gaugeFor
      · exact hs
    · refine .ok (.writeRoster (.frame ?_))
      split
      · exact hs.gaugeFor
      · exact hs

theorem State.Keeps.execTokenCopy (hs : s₀.Keeps s) {o : TokenCopyOp} : s₀.Answers (execTokenCopy o s) := by
  unfold Machine.execTokenCopy
  split
  · exact hs.ok
  · split
    · exact hs.ok
    · exact .ite hs.ok hs.frame.mirror.ok

theorem State.Keeps.execSchedWindowBoundary (hs : s₀.Keeps s) : s₀.Answers (execSchedWindowBoundary s) :=
  .ite hs.ok hs.frame.ok

theorem State.Keeps.execQuotaSnapshot (hs : s₀.Keeps s) : s₀.Answers (execQuotaSnapshot s) := hs.frame.ok

theorem State.Keeps.execSeqRun (hs : s₀.Keeps s) {run : Bool} : s₀.Answers (execSeqRun run s) :=
  .ite hs.ok (.ite hs.set.rest.ok hs.set.ok)

theorem State.Keeps.requestHalt (hs : s₀.Keeps s) {f : Fld} : s₀.Keeps (s.requestHalt f) := by
  unfold State.requestHalt
  split
  · exact hs.set
  · exact hs
  · exact hs.haltDone

theorem State.Keeps.execHaltStep (hs : s₀.Keeps s) : s₀.Answers (execHaltStep s) := hs.requestHalt.ok

theorem State.Keeps.askHaltRow (hs : s₀.Keeps s) : s₀.Keeps s.askHaltRow := .ite hs.requestHalt.haltRow hs.requestHalt

theorem State.Keeps.execHaltRow (hs : s₀.Keeps s) : s₀.Answers (execHaltRow s) := hs.askHaltRow.ok

theorem State.Keeps.execSeqFaultClear (hs : s₀.Keeps s) {mask : Nat} : s₀.Answers (execSeqFaultClear mask s) :=
  .via (hs.foldl fun _ hs => hs.set) fun h₁ => .ok (.leaveFaulted (.ite (h₁.foldl fun _ hs => hs.set) h₁))

theorem State.Keeps.seqReject (hs : s₀.Keeps s) : s₀.Keeps s.seqReject := hs.setSeqFault

theorem State.Keeps.recheck (hs : s₀.Keeps s) : s₀.Keeps s.recheck := hs.frame.set

theorem State.Keeps.setRowCfg (hs : s₀.Keeps s) {v : Nat} : s₀.Keeps (s.setRowCfg v) :=
  .via (hs.foldl fun _ hs => hs.set) fun h₁ => .ite h₁.retain h₁.retain.recheck

theorem State.Keeps.execSeqRowCfgWrite (hs : s₀.Keeps s) {v : Nat} : s₀.Answers (execSeqRowCfgWrite v s) :=
  .ite hs.setRowCfg.ok hs.seqReject.ok

theorem State.Keeps.execPmBaseWrite (hs : s₀.Keeps s) {off v : Nat} : s₀.Answers (execPmBaseWrite off v s) :=
  .ite hs.ok (.ite (.ok (.showSpace (hs.foldl fun _ hs => hs.set))) hs.seqReject.ok)

theorem State.Keeps.execRosterReadySet (hs : s₀.Keeps s) {mask : Nat} : s₀.Answers (execRosterReadySet mask s) :=
  .ok (hs.foldl fun _ hs => hs.markReady)

theorem State.Keeps.execSeqSchedCfgWrite (hs : s₀.Keeps s) {v : Nat} : s₀.Answers (execSeqSchedCfgWrite v s) :=
  hs.set.retain.ok

/-! ### Of RegCmds.lean -/

theorem State.Keeps.shown (hs : s₀.Keeps s) {fn off v : Nat} : s₀.Keeps (s.shown fn off v) := hs.frame

theorem State.Keeps.afterWrite (hs : s₀.Keeps s) {off : Nat} : s₀.Keeps (s.afterWrite off) :=
  .ite (hs.foldl fun _ hs => hs.set) (.ite (.retain (.ite hs hs.set.frame)) hs)

theorem State.Keeps.execRegisterWrite (hs : s₀.Keeps s) {fn off v : Nat} :
    s₀.Answers (execRegisterWrite fn off v s) := by
  unfold Machine.execRegisterWrite
  split
  · exact hs.ok
  · dsimp only
    split
    · exact hs.writeWord.afterWrite.ok
    · exact hs.ok
    · exact hs.secErr.ok

theorem State.Keeps.execRcRead (hs : s₀.Keeps s) {fn off : Nat} : s₀.Answers (execRcRead fn off s) :=
  .ite hs.shown.ok (.ok (hs.shown.foldl fun _ hs => hs.setF))

theorem State.Keeps.execLoReadLatch (hs : s₀.Keeps s) {fn off : Nat} : s₀.Answers (execLoReadLatch fn off s) := by
  unfold Machine.execLoReadLatch
  split
  · exact hs.shown.ok
  · dsimp only
    split
    · exact hs.frame.shown.ok
    · split
      · exact hs.frame.shown.ok
      · exact hs.shown.ok

theorem State.Keeps.execMxaCtrlWrite (hs : s₀.Keeps s) {v : Nat} : s₀.Answers (execMxaCtrlWrite v s) :=
  .ite hs.secErr.ok hs.set.retain.ok

theorem State.Keeps.execMtfHotCfgWrite (hs : s₀.Keeps s) {v : Nat} : s₀.Answers (execMtfHotCfgWrite v s) :=
  .ite hs.set.retain.recheck.ok hs.set.ok

theorem State.Keeps.execMovPause (hs : s₀.Keeps s) {v : Nat} : s₀.Answers (execMovPause v s) :=
  .ite (.ok (.set (hs.set.set.foldl fun _ hs => hs.writeProgress)))
    (.ite (.ok (.set (hs.set.set.foldl fun _ hs => hs.writeProgress))) hs.set.set.ok)

theorem State.Keeps.movReject (hs : s₀.Keeps s) : s₀.Keeps s.movReject := hs.err

theorem State.Keeps.execMovDirtyCfgWrite (hs : s₀.Keeps s) {v : Nat} : s₀.Answers (execMovDirtyCfgWrite v s) :=
  .ite hs.set.set.retain.ok hs.movReject.ok

theorem State.Keeps.execMovLendCfgWrite (hs : s₀.Keeps s) {v : Nat} : s₀.Answers (execMovLendCfgWrite v s) :=
  .ite hs.set.retain.ok hs.movReject.ok

theorem State.Keeps.execFtlCfgWrite (hs : s₀.Keeps s) {v : Nat} : s₀.Answers (execFtlCfgWrite v s) :=
  .ite hs.set.set.retain.ok hs.set.ok

theorem State.Keeps.execLnkStageCfgWrite (hs : s₀.Keeps s) {v : Nat} : s₀.Answers (execLnkStageCfgWrite v s) :=
  .ite hs.set.retain.ok hs.err.ok

theorem State.Keeps.execPwrLimitWrite (hs : s₀.Keeps s) {v : Nat} : s₀.Answers (execPwrLimitWrite v s) :=
  .ite hs.set.retain.ok hs.pwrErr.ok

theorem State.Keeps.execPwrRampWrite (hs : s₀.Keeps s) {v : Nat} : s₀.Answers (execPwrRampWrite v s) :=
  .ite (.ok (.ite hs.set.retain hs.set.retain.recheck)) hs.pwrErr.ok

theorem State.Keeps.thmErr (hs : s₀.Keeps s) {f : Fld} : s₀.Keeps (s.thmErr f) := hs.err

theorem State.Keeps.execThmLimitsWrite (hs : s₀.Keeps s) {v : Nat} : s₀.Answers (execThmLimitsWrite v s) :=
  .ite hs.set.set.retain.ok hs.thmErr.ok

theorem State.Keeps.execMarkThreshWrite (hs : s₀.Keeps s) {off v : Nat} : s₀.Answers (execMarkThreshWrite off v s) :=
  .ite hs.ok hs.writeWord.frame.retain.ok

theorem State.Keeps.execQueueConfigWrite (hs : s₀.Keeps s) {fn off v : Nat} :
    s₀.Answers (execQueueConfigWrite fn off v s) := by
  unfold Machine.execQueueConfigWrite
  split
  · exact hs.ok
  · exact .ite hs.fnErr.ok hs.writeWord.ok

theorem State.Keeps.rngCmd (hs : s₀.Keeps s) {fn v i : Nat} {act : Nat → CtxBlock → State → State}
    (ha : ∀ {u} n c, s₀.Keeps u → s₀.Keeps (act n c u)) : s₀.Keeps (s.rngCmd fn v i act) := by
  unfold State.rngCmd
  refine .ite hs.writeWord (.ite hs.writeWord.setF ?_)
  split
  · exact hs.writeWord
  · exact ha _ _ hs.writeWord

theorem State.Keeps.putStream (hs : s₀.Keeps s) {fn k : Nat} {c : CtxBlock} {st : Machine.Stream} :
    s₀.Keeps (s.putStream fn k c st) :=
  hs.frame.mirrorCtx.setF

theorem State.Keeps.execRngRead (hs : s₀.Keeps s) {fn v : Nat} : s₀.Answers (execRngRead fn v s) :=
  .ok (hs.rngCmd fun _ _ hs => hs.setF.setF.setF.setF.setF.setF.setF.setF.setF.setF)

theorem State.Keeps.execRngLoad (hs : s₀.Keeps s) {fn v : Nat} : s₀.Answers (execRngLoad fn v s) :=
  .ok (hs.rngCmd fun _ _ hs => .ite hs.setF (.ite hs.setF hs.putStream))

theorem State.Keeps.execRngDerive (hs : s₀.Keeps s) {fn v : Nat} : s₀.Answers (execRngDerive fn v s) :=
  .ok (hs.rngCmd fun _ _ hs => .ite hs.setF hs.frame)

theorem State.Keeps.execDeriveDone (hs : s₀.Keeps s) {fn : Nat} : s₀.Answers (execDeriveDone fn s) := by
  unfold Machine.execDeriveDone
  split
  · exact hs.draw.frame.putStream.setF.setF.ok
  · exact hs.ok

theorem State.Keeps.execRngReset (hs : s₀.Keeps s) {fn v : Nat} : s₀.Answers (execRngReset fn v s) :=
  .ok (hs.rngCmd fun _ _ hs => .ite hs.setF hs.putStream)

theorem State.Keeps.ctxEntry (hs : s₀.Keeps s) {fn : Nat} : s₀.Keeps (s.ctxEntry fn).2 := hs.draw

theorem State.Keeps.execMovTtRead (hs : s₀.Keeps s) : s₀.Answers (execMovTtRead s) := by
  unfold Machine.execMovTtRead
  extract_lets -underBinder fn idx r
  have h₁ : s₀.Keeps r.2 := by
    dsimp only [r]
    split
    · dsimp only
      exact hs.ctxEntry
    · exact hs
  exact .ok (.set (.foldl h₁ fun _ ht => ht.set))

theorem State.Keeps.tdiError (hs : s₀.Keeps s) {vf cause : Nat} : s₀.Keeps (s.tdiError vf cause) :=
  .ite hs hs.frame.secErr.tinkLog

theorem State.Keeps.execDplEnable (hs : s₀.Keeps s) {on : Bool} : s₀.Answers (execDplEnable on s) :=
  .ok (.ite hs.setF.tdiError hs.setF)

theorem State.Keeps.execDplStop (hs : s₀.Keeps s) {on : Bool} : s₀.Answers (execDplStop on s) :=
  .ite hs.setF.setF.ok (.ok (hs.setF.setF.frame.foldl fun _ hs => hs.post))

theorem State.Keeps.execDplEpoch (hs : s₀.Keeps s) : s₀.Answers (execDplEpoch s) := hs.frame.ok

theorem State.Keeps.execDplHeadWrite (hs : s₀.Keeps s) {v : Nat} : s₀.Answers (execDplHeadWrite v s) := hs.setF.ok

/-! ### Of Power.lean -/

theorem State.Keeps.execPowerState (hs : s₀.Keeps s) {m : Mail} : s₀.Answers (execPowerState m s) := by
  unfold Machine.execPowerState
  refine .ite hs.ok (.ite hs.wakeBy.ok (.ok (.advanceStore (hs.mail fun _ hs => ?_))))
  refine .ite (.ite hs.wake.frame.later hs.done) (.ite hs.fail ?_)
  split
  · trivial
  · exact hs.beginEntry.later

theorem State.Keeps.execPerfLevel (hs : s₀.Keeps s) {m : Mail} : s₀.Answers (execPerfLevel m s) :=
  .ite hs.ok (.ok (hs.mail fun _ hs => hs.set.levelChanged.done))

theorem State.Keeps.countTrigger (hs : s₀.Keeps s) {f : Fld} : s₀.Keeps (s.countTrigger f) := hs.set

theorem State.Keeps.execSupplyDroop (hs : s₀.Keeps s) : s₀.Answers (execSupplyDroop s) := hs.frame.countTrigger.ok

theorem State.Keeps.execInputOvercurrent (hs : s₀.Keeps s) : s₀.Answers (execInputOvercurrent s) :=
  hs.frame.countTrigger.ok

theorem State.Keeps.execPowerLimitAverage (hs : s₀.Keeps s) {w : Nat} : s₀.Answers (execPowerLimitAverage w s) :=
  .ite (.ok (.ite hs.frame.countTrigger.pwrErr hs.frame)) (.ite hs.frame.ok hs.ok)

theorem State.Keeps.execSkipRelease (hs : s₀.Keeps s) {current : Bool} : s₀.Answers (execSkipRelease current s) :=
  .ok (.ite hs.frame hs.frame)

theorem State.Keeps.setSkipCap (hs : s₀.Keeps s) {cap : Nat} {isSet : Bool} : s₀.Keeps (s.setSkipCap cap isSet) :=
  .ite hs hs.frame.levelChanged.tinkLog

theorem State.Keeps.execSustainedSkipCheck (hs : s₀.Keeps s) {skipped pulses : Nat} :
    s₀.Answers (execSustainedSkipCheck skipped pulses s) :=
  .ite hs.ok hs.pwrErr.setSkipCap.ok

theorem State.Keeps.execSkipCapLift (hs : s₀.Keeps s) {skipped pulses : Nat} :
    s₀.Answers (execSkipCapLift skipped pulses s) :=
  .ite hs.setSkipCap.ok hs.ok

theorem State.Keeps.execVoltageSettled (hs : s₀.Keeps s) : s₀.Answers (execVoltageSettled s) := hs.frame.ok

theorem State.Keeps.execPowerStateEntryDone (hs : s₀.Keeps s) {us : Nat} :
    s₀.Answers (execPowerStateEntryDone us s) := by
  unfold Machine.execPowerStateEntryDone
  split
  · exact hs.ok
  · exact .ite hs.ok
      (.ite hs.advanceStore.ok
      (.ok (.bounce
      (.stateDone (.elim (.set (.set (.frame (.ite hs.advanceStore.powerDown hs.advanceStore)))) fun _ => .reply
      (.set (.set (.frame (.ite hs.advanceStore.powerDown hs.advanceStore)))))))))

theorem State.Keeps.execPowerStateExitDone (hs : s₀.Keeps s) {us : Nat} : s₀.Answers (execPowerStateExitDone us s) := by
  unfold Machine.execPowerStateExitDone
  split
  · exact hs.ok
  · exact .ite hs.ok
      (.ok (.foldl (.stateDone (.ite (.showUp (hs.frame.set.set.foldl fun _ hs => hs.setF.setF.setLink))
      (.ite hs.frame.set.set.storeExit hs.frame.set.set))) fun _ hs => hs.reply))

theorem State.Keeps.execWakeEvent (hs : s₀.Keeps s) {kind : WakeKind} : s₀.Answers (execWakeEvent kind s) := by
  unfold Machine.execWakeEvent
  split
  · exact .ok (.ite hs.wakeFrom hs)
  · exact hs.wakeFrom.ok
  · exact hs.wakeFrom.ok

theorem State.Keeps.showThermal (hs : s₀.Keeps s) : s₀.Keeps s.showThermal :=
  .ite (.levelChanged
    (.set (.frame
    (.ite (.set (.ite (.ite hs.set.set.set hs.set.set.set.set) (.set (.ite hs.set.set.set hs.set.set.set.set))))
    (.ite (.ite hs.set.set.set hs.set.set.set.set) (.set (.ite hs.set.set.set hs.set.set.set.set)))))))
    (.ite (.set (.ite (.ite hs.set.set.set hs.set.set.set.set) (.set (.ite hs.set.set.set hs.set.set.set.set))))
    (.ite (.ite hs.set.set.set hs.set.set.set.set) (.set (.ite hs.set.set.set hs.set.set.set.set))))

theorem State.Keeps.readTemps (hs : s₀.Keeps s) {l : List (Nat × Nat)} : s₀.Keeps (s.readTemps l) :=
  hs.frame.showThermal

theorem State.Keeps.execThermalThrottle (hs : s₀.Keeps s) {sensor temp : Nat} :
    s₀.Answers (execThermalThrottle sensor temp s) :=
  .ite hs.readTemps.ok
    (.ite hs.readTemps.ok
    (.ok (.wakeFrom (.tinkLog (.thmErr (.ite hs.readTemps.set.frame.levelChanged hs.readTemps.set))))))

theorem State.Keeps.execThermalCapStep (hs : s₀.Keeps s) : s₀.Answers (execThermalCapStep s) :=
  .ite hs.showThermal.ok (.ite hs.showThermal.frame.levelChanged.ok
    (.ite hs.showThermal.frame.levelChanged.ok hs.showThermal.ok))

theorem State.Keeps.execThermalCritical (hs : s₀.Keeps s) {sensor temp : Nat} :
    s₀.Answers (execThermalCritical sensor temp s) :=
  .ite hs.readTemps.ok hs.readTemps.frame.set.levelChanged.thmErr.tinkLog.ok

theorem State.Keeps.execThermalTrip (hs : s₀.Keeps s) {sensor temp : Nat} :
    s₀.Answers (execThermalTrip sensor temp s) :=
  .ite hs.readTemps.ok hs.readTemps.tinkLog.moduleFault.powerOff.set.frame.ok

theorem State.Keeps.execSensorFail (hs : s₀.Keeps s) {sensor : Nat} : s₀.Answers (execSensorFail sensor s) :=
  .ite hs.ok hs.frame.showThermal.levelChanged.thmErr.tinkLog.ok

theorem State.Keeps.execRegaugeOp (hs : s₀.Keeps s) {o : RegaugeOp} : s₀.Answers (execRegaugeOp o s) :=
  .ite hs.ok (.ite hs.frame.showGauge.ok hs.frame.showGauge.pwrErr.tinkLog.ok)

theorem State.Keeps.execGaugeDone (hs : s₀.Keeps s) {ms : Nat} : s₀.Answers (execGaugeDone ms s) := by
  unfold Machine.execGaugeDone
  split
  · exact hs.ok
  · exact .ite hs.ok hs.frame.levelChanged.showGauge.tinkLog.ok

theorem State.Keeps.execGaugeRetry (hs : s₀.Keeps s) : s₀.Answers (execGaugeRetry s) := hs.frame.showGauge.ok

theorem State.Keeps.reside (hs : s₀.Keeps s) {ms : Nat} : s₀.Keeps (s.reside ms) := hs.frame

theorem State.Keeps.execStitchMarkerSample (hs : s₀.Keeps s) {o : SampleOp} : s₀.Answers (execStitchMarkerSample o s) :=
  .ite (.ok (.sample (.ite hs.set.set.inc2.inc2.reside.peak.sample.readTemps.set
    hs.set.set.inc2.inc2.reside.peak.sample.readTemps)))
    (.ok (.set (.set
    (.frame (.sample (.ite hs.set.set.inc2.inc2.reside.peak.sample.readTemps.set
    hs.set.set.inc2.inc2.reside.peak.sample.readTemps))))))

/-! ### Of HostLink.lean -/

theorem State.Keeps.execFlr (hs : s₀.Keeps s) {fn : Nat} : s₀.Answers (execFlr fn s) := .ite hs.ok hs.resetFn.ok

theorem State.Keeps.execVfEnableClear (hs : s₀.Keeps s) {enabled : Bool} {numVfs : Nat} :
    s₀.Answers (execVfEnableClear enabled numVfs s) :=
  .ok (hs.frame.foldl fun _ hs => hs.resetFn)

theorem State.Keeps.linkLoss (hs : s₀.Keeps s) {ltssm : Nat} : s₀.Keeps (s.linkLoss ltssm) :=
  .tinkLog (.err (.set (.set (.set (.resetWindow (.dropHost (hs.foldl fun _ hs => hs.resetFn)))))))

theorem State.Keeps.execHostLinkDown (hs : s₀.Keeps s) {ltssm : Nat} : s₀.Answers (execHostLinkDown ltssm s) :=
  hs.linkLoss.ok

theorem State.Keeps.execHostLinkUp (hs : s₀.Keeps s) {gen width : Nat} {flit : Bool} :
    s₀.Answers (execHostLinkUp gen width flit s) :=
  .ite hs.ok hs.set.set.set.ok

theorem State.Keeps.execConfigSpaceReady (hs : s₀.Keeps s) : s₀.Answers (execConfigSpaceReady s) := hs.frame.ok

theorem State.Keeps.denyFrames (hs : s₀.Keeps s) {g : Agent} {isWrite : Bool} {a n : Nat} :
    s₀.Keeps (s.denyFrames g isWrite a n) :=
  .ite hs (hs.foldl fun _ hs => .ite hs.deny hs.deny)

theorem State.Keeps.openWrite (hs : s₀.Keeps s) {a : Nat} {l : List Byte} : s₀.Keeps (s.openWrite a l) := by
  refine hs.near fun w => Memory.foldl_wf w fun _ w => ?_
  split
  · exact Memory.write_wf w _ _
  · exact w

theorem State.Keeps.execBar4Access (hs : s₀.Keeps s) {o : BarOp} : s₀.Answers (execBar4Access o s) :=
  .ite hs.ok (.ite hs.openWrite.denyFrames.ok hs.denyFrames.frame.ok)

theorem State.Keeps.execMbxDoorbell (hs : s₀.Keeps s) {h : Mail} {type : Nat} : s₀.Answers (execMbxDoorbell h type s) :=
  .ite hs.ok (.ok (hs.mail fun _ hs => hs.fail))

theorem State.Keeps.execQueueWaitTimeout (hs : s₀.Keeps s) {h : Mail} {type : Nat} :
    s₀.Answers (execQueueWaitTimeout h type s) :=
  .ok (hs.mail fun _ hs => hs.fail)

theorem State.Keeps.execDeviceQuery (hs : s₀.Keeps s) {m : Mail} : s₀.Answers (execDeviceQuery m s) :=
  .ok (hs.mail fun _ hs => hs.done)

theorem State.Keeps.execRowConfig (hs : s₀.Keeps s) {m : Mail} : s₀.Answers (execRowConfig m s) :=
  .ok (hs.mail fun _ hs => .ite hs.setRowCfg.done trivial)

/-! ### Of Tiers.lean -/

theorem State.Keeps.allot (hs : s₀.Keeps s) {fn : Nat} {a : AllocAsk} :
    Answer.Each (fun e : Status × State × List Byte => s₀.Keeps e.2.1) (fun r : Tensor × State => s₀.Keeps r.2)
      (s.allot fn a) := by
  unfold State.allot
  extract_lets -underBinder
  split
  · exact hs
  · refine .ite hs (.ite hs (.ite hs ?_))
    extract_lets -underBinder near
    have hn : Answer.Each (fun e : Status × State × List Byte => s₀.Keeps e.2.1) (fun r : Nat × State => s₀.Keeps r.2)
        near := by
      refine .ite hs ?_
      split
      · rename_i e
        exact hs.allocNear.of_eq e
      · rename_i e
        exact hs.allocNear.of_eq e
    clear_value near
    split
    · exact hn
    · have h₁ : s₀.Keeps _ := hn
      extract_lets d s₁ s₂
      have h₂ : s₀.Keeps s₁ := by
        dsimp only [s₁, d]
        split
        · exact h₁.takeDeep
        · exact h₁
      exact State.Keeps.enter (.ite h₂.setQuota h₂)

theorem State.Keeps.execTensorAlloc (hs : s₀.Keeps s) {m : Mail} : s₀.Answers (execTensorAlloc m s) := by
  unfold Machine.execTensorAlloc
  refine .ok (hs.mail fun _ hs => ?_)
  dsimp only
  split
  · exact hs.fail
  · split
    · exact hs.fail
    · refine .ite hs.fail ?_
      split
      · rename_i e
        exact .fail (hs.allot.of_error e)
      · rename_i e
        have h₁ : s₀.Keeps _ := hs.allot.of_ok e
        refine .done (.showSpace ?_)
        split
        · exact h₁.mapTensor
        · exact h₁

theorem State.Keeps.execTensorFree (hs : s₀.Keeps s) {m : Mail} : s₀.Answers (execTensorFree m s) := by
  unfold Machine.execTensorFree
  refine .ok (hs.mail fun _ hs => ?_)
  dsimp only
  split
  · exact hs.fail
  · split
    · exact trivial
    · exact .done (.dropPair (.ite hs.frame hs))

theorem State.Keeps.execTensorQuery (hs : s₀.Keeps s) {m : Mail} : s₀.Answers (execTensorQuery m s) := by
  unfold Machine.execTensorQuery
  refine .ok (hs.mail fun _ hs => ?_)
  split
  · exact hs.fail
  · exact hs.done

theorem State.Keeps.execTensorPlace (hs : s₀.Keeps s) {m : Mail} : s₀.Answers (execTensorPlace m s) := by
  unfold Machine.execTensorPlace
  refine .ok (hs.mail fun _ hs => ?_)
  split
  · exact .ite trivial hs.fail
  · split
    · rename_i e
      exact .fail (hs.startMove.of_error e)
    · rename_i e
      have h₁ := hs.startMove.of_ok e
      clear e
      split
      · exact .ite h₁.frame.done h₁.frame.fail
      · exact h₁.later

theorem State.Keeps.execHostRegister (hs : s₀.Keeps s) {m : Mail} : s₀.Answers (execHostRegister m s) := by
  unfold Machine.execHostRegister
  refine .ok (hs.mail fun _ hs => ?_)
  dsimp only
  split
  · exact hs.fail
  · exact .ite hs.fail hs.frame.enter.done

theorem State.Keeps.execHostUnregister (hs : s₀.Keeps s) {m : Mail} : s₀.Answers (execHostUnregister m s) := by
  unfold Machine.execHostUnregister
  refine .ok (hs.mail fun _ hs => ?_)
  dsimp only
  split
  · exact hs.fail
  · exact .ite hs.fail (.ite trivial hs.frame.dropPair.done)

theorem State.Keeps.execQuotaSet (hs : s₀.Keeps s) {m : Mail} : s₀.Answers (execQuotaSet m s) :=
  .ok (hs.mail fun _ hs => .ite trivial (.ite hs.fail hs.setQuota.done))

theorem State.Keeps.execQuotaQuery (hs : s₀.Keeps s) {m : Mail} : s₀.Answers (execQuotaQuery m s) := by
  unfold Machine.execQuotaQuery
  refine .ok (hs.mail fun _ hs => ?_)
  split
  · exact hs.done
  · exact trivial

theorem State.Keeps.execTenantPark (hs : s₀.Keeps s) {m : Mail} : s₀.Answers (execTenantPark m s) :=
  .ok (.settle (.settleMotifs (hs.mail fun _ h₁ => .ite trivial
    (.later (.frame (.foldl (.mirrorCtx (h₁.foldl fun _ hs => hs.drainMotif)) fun _ hs => hs.mapTensor))))))

theorem State.Keeps.restoreAll (hs : s₀.Keeps s) {fn : Nat} {l : List Tensor} :
    Answer.Each (fun e => s₀.Keeps e.2.1) s₀.Keeps (s.restoreAll fn l) := by
  induction l generalizing s with
  | nil => exact hs
  | cons t l ih =>
    unfold State.restoreAll
    split
    · rename_i e
      exact hs.toNear.of_error e
    · rename_i e
      exact ih (.beginMove (hs.toNear.of_ok e))

theorem State.Keeps.execTenantRestore (hs : s₀.Keeps s) {m : Mail} : s₀.Answers (execTenantRestore m s) := by
  unfold Machine.execTenantRestore
  refine .ok (hs.mail fun _ hs => ?_)
  extract_lets -underBinder _ _ s₁ _
  have h₁ : s₀.Keeps s₁ := hs.foldl fun _ h₁ => h₁.foldl fun _ h₂ => h₂.mapTensor
  refine .ite trivial (.ite h₁.fail ?_)
  split
  · rename_i e
    exact .fail (h₁.restoreAll.of_error e)
  · rename_i e
    have h₂ := h₁.restoreAll.of_ok e
    exact .ite h₂.done h₂.frame.later

theorem State.Keeps.hankLend (hs : s₀.Keeps s) {m : Mail} : s₀.Answers (s.hankLend m) := by
  unfold State.hankLend
  refine .ok (hs.mail fun {u} _ hs => .ite trivial (.ite hs.fail ?_))
  extract_lets one
  have h₁ : Found.Each s₀.Keeps ((List.range (m.u 12 4)).foldl one (some u)) := by
    refine List.foldlRecOn _ one hs fun a ha n _ => ?_
    cases a with
    | none => trivial
    | some t =>
      simp only [one, Option.bind_some]
      cases t.nearFit 0 0x10 (2 ^ 18) with
      | none => trivial
      | some loc => exact State.Keeps.frame (State.Keeps.assignFrames ha)
  split
  · rename_i e
    exact State.Keeps.done (.showSpace (h₁.of_some e))
  · exact hs.fail

theorem State.Keeps.hankOffered (hs : s₀.Keeps s) {link hank : Nat} : s₀.Keeps (s.hankOffered link hank) :=
  .ite hs hs.frame.showSpace

theorem State.Keeps.execHankLend (hs : s₀.Keeps s) {o : HankOp} : s₀.Answers (execHankLend o s) := by
  unfold Machine.execHankLend
  split
  · exact hs.hankLend
  · exact hs.hankOffered.ok

theorem State.Keeps.hankRecall (hs : s₀.Keeps s) {m : Mail} : s₀.Answers (s.hankRecall m) := by
  unfold State.hankRecall
  refine .ok (hs.mail fun _ h₁ => ?_)
  refine .done ?_
  refine h₁.foldl fun _ hs => ?_
  split
  · exact hs.frame.send
  · exact hs

theorem State.Keeps.hankRecalled (hs : s₀.Keeps s) {link hank dl : Nat} : s₀.Keeps (s.hankRecalled link hank dl) := by
  unfold State.hankRecalled
  dsimp only
  split
  · exact hs
  · refine hs.frame.err.note.foldl fun _ ht => .ite ht ?_
    split
    · rename_i e
      exact ht.startMove.of_ok e
    · rename_i e
      exact ht.startMove.of_error e

theorem State.Keeps.execHankRecall (hs : s₀.Keeps s) {o : HankOp} : s₀.Answers (execHankRecall o s) := by
  unfold Machine.execHankRecall
  split
  · exact hs.hankRecall
  · exact hs.hankRecalled.ok

theorem State.Keeps.execHankRecallDeadline (hs : s₀.Keeps s) {lender : Option Nat} {h : Nat} :
    s₀.Answers (execHankRecallDeadline lender h s) := by
  unfold Machine.execHankRecallDeadline
  split
  · exact .ok (.ite hs.takeBack hs)
  · exact .ok (.ite hs.loseHanks hs)

theorem State.Keeps.execWriteback (hs : s₀.Keeps s) {m : Mail} : s₀.Answers (execWriteback m s) :=
  .ok (hs.mail fun _ h₁ => .ite trivial (.done (h₁.foldl fun _ hs => hs.writeBack)))

theorem State.Keeps.execWritebackStart (hs : s₀.Keeps s) {o : WritebackOp} : s₀.Answers (execWritebackStart o s) := by
  unfold Machine.execWritebackStart
  refine .ite hs.ok ?_
  split
  · exact hs.writeBack.ok
  · exact hs.ok

theorem State.Keeps.execMoveGranuleDone (hs : s₀.Keeps s) {o : MoveGranuleOp} :
    s₀.Answers (execMoveGranuleDone o s) := by
  unfold Machine.execMoveGranuleDone
  split
  · exact hs.ok
  · exact hs.frame.landGranule.settle.bindAdvance.ok

theorem State.Keeps.execHostReadCompletion (hs : s₀.Keeps s) {o : HostReadOp} :
    s₀.Answers (execHostReadCompletion o s) := by
  unfold Machine.execHostReadCompletion
  split
  · exact hs.frame.ok
  · split
    · exact hs.ok
    · exact .ite hs.ok hs.frame.landGranule.settle.ok

theorem State.Keeps.execZeroFillDone (hs : s₀.Keeps s) {f : Nat} : s₀.Answers (execZeroFillDone f s) :=
  .ok (.settle (.showSpace (hs.near fun w => Memory.foldl_wf w fun _ w => Memory.zero_wf w _ _)))

theorem State.Keeps.deepReadOnly (hs : s₀.Keeps s) : s₀.Keeps s.deepReadOnly := .ite hs hs.set.set.set.tinkOpen

theorem State.Keeps.showFlashFree (hs : s₀.Keeps s) {pct : Nat} : s₀.Keeps (s.showFlashFree pct) :=
  .sample (.ite hs.set.set hs.set)

theorem State.Keeps.execFlashWearOp (hs : s₀.Keeps s) {o : WearOp} : s₀.Answers (execFlashWearOp o s) := by
  unfold Machine.execFlashWearOp
  refine .via ?_ fun h₁ => .ok (.ite h₁.set.set.showFlashFree.inc.deepReadOnly h₁.set.set.showFlashFree.inc)
  split
  · exact hs.inc2.inc
  · exact hs.inc2.inc
  · exact hs.inc2.inc

theorem State.Keeps.execFlashChannelFail (hs : s₀.Keeps s) {exhausted : Bool} :
    s₀.Answers (execFlashChannelFail exhausted s) :=
  .ok (.ite hs.set.set.set.deepReadOnly hs.set.set)

/-! ### Of Models.lean -/

theorem State.Keeps.allotShards (hs : s₀.Keeps s) {slot : Nat} {isSecret : Bool} {l : List Shard} :
    Answer.Each (fun e : Status × State × List Byte => s₀.Keeps e.2.1) (fun r : List Nat × State => s₀.Keeps r.2)
      (s.allotShards slot isSecret l) := by
  unfold State.allotShards
  extract_lets -underBinder
  split
  · exact hs
  · split
    · rename_i e
      exact State.Keeps.ite (hs.allocNears.of_eq (congrArg Prod.fst e)) hs
    · rename_i e
      have h₁ : s₀.Keeps _ := hs.allocNears.of_eq (congrArg Prod.fst e)
      extract_lets -underBinder r
      have h₂ : s₀.Keeps r.2.2 := by
        refine State.Keeps.foldlBy (fun a : List Nat × List Nat × State => a.2.2) h₁ fun x ha => ?_
        dsimp only
        split
        · exact ha.enter
        · exact ha.enter.enter.mapTensor
      dsimp only [Answer.Each]
      exact h₂.showSpace

theorem State.Keeps.execModelLoad (hs : s₀.Keeps s) {m : Mail} : s₀.Answers (execModelLoad m s) := by
  unfold Machine.execModelLoad
  refine .ok (.settle (hs.mail fun _ hs => ?_))
  dsimp only
  split
  · trivial
  · refine .ite hs.fail (.ite trivial ?_)
    split
    · exact hs.fail
    · split
      · rename_i e
        exact .fail (hs.allotShards.of_error e)
      · rename_i e
        have h₁ : s₀.Keeps _ := hs.allotShards.of_ok e
        refine .later (.foldl ?_ fun _ ht => ?_)
        · split
          · exact h₁.setModel
          · exact h₁.setModel.frame.send
        · split
          · exact ht.beginMove
          · exact ht

theorem State.Keeps.execModelRelay (hs : s₀.Keeps s) {m : Mail} : s₀.Answers (execModelRelay m s) := by
  unfold Machine.execModelRelay
  refine .ok (hs.mail fun _ hs => ?_)
  dsimp only
  split
  · trivial
  · refine .ite hs.fail ?_
    split
    · rename_i e
      exact .fail (hs.allotShards.of_error e)
    · rename_i e
      have h₁ : s₀.Keeps _ := hs.allotShards.of_ok e
      exact h₁.setModel.frame.later

theorem State.Keeps.execModelUnload (hs : s₀.Keeps s) {m : Mail} : s₀.Answers (execModelUnload m s) := by
  unfold Machine.execModelUnload
  refine .ok (hs.mail fun _ hs => ?_)
  split
  · trivial
  · extract_lets -underBinder s₁ _ s₂ _
    have h₁ : s₀.Keeps s₁ := by
      refine hs.foldl fun k ht => ?_
      split
      · exact ht.dropPair
      · exact ht
    have h₂ : s₀.Keeps s₂ := h₁.frame
    exact .done (.setModel (.ite h₂.destroyBase h₂))

theorem State.Keeps.execModelQuery (hs : s₀.Keeps s) {m : Mail} : s₀.Answers (execModelQuery m s) :=
  .ok (hs.mail fun _ hs => hs.done)

/-! ### Of Chain.lean -/

theorem State.Keeps.writeBuf (hs : s₀.Keeps s) {h : Issue} {ks : List Nat} {ds : List LineData} :
    s₀.Keeps (s.writeBuf h ks ds) := by
  induction ks generalizing s ds with
  | nil => exact hs
  | cons k ks ih =>
    cases ds with
    | nil => exact hs
    | cons d ds => exact ih hs.frame

theorem State.Keeps.writeLoc (hs : s₀.Keeps s) {h : Issue} {loc : Nat} {l : List LineData} :
    s₀.Keeps (s.writeLoc h loc l) :=
  .ite hs.writeBuf hs.writeLines

theorem State.Keeps.issueChain (hs : s₀.Keeps s) {h : Issue} {op : Nat} {reads writes bufs : List Nat}
    {k : Nat → State → State} (hk : ∀ {u} cid, s₀.Keeps u → s₀.Keeps (k cid u)) :
    s₀.Keeps (s.issueChain h op reads writes bufs k) :=
  hs.issue fun cid hs => .ite hs.patternErr (hk cid hs)

theorem State.Keeps.execVcLdp (hs : s₀.Keeps s) {h : Issue} {o : VcLdpOp} : s₀.Answers (execVcLdp h o s) :=
  .ok (hs.issue fun _ hs => hs.frame)

theorem State.Keeps.execVcLd (hs : s₀.Keeps s) {h : Issue} {o : VcBufOp} : s₀.Answers (execVcLd h o s) :=
  .ok (hs.issue fun _ hs => hs.writeBuf)

theorem State.Keeps.execVcSt (hs : s₀.Keeps s) {h : Issue} {o : VcBufOp} : s₀.Answers (execVcSt h o s) :=
  .ok (hs.issueChain fun _ hs => hs.writeLines)

theorem State.Keeps.execVcProg (hs : s₀.Keeps s) {h : Issue} {o : VcProgOp} : s₀.Answers (execVcProg h o s) :=
  .ok (hs.issueChain fun _ hs => .ite hs.patternErr hs.writeLoc.counts)

theorem State.Keeps.lossWrite (hs : s₀.Keeps s) {h : Issue} {cid : Nat} {x : Word} : s₀.Keeps (s.lossWrite h cid x) :=
  .ite hs.orBits.inc hs

theorem State.Keeps.execVcRed (hs : s₀.Keeps s) {h : Issue} {o : VcRedOp} : s₀.Answers (execVcRed h o s) :=
  .ok (hs.issueChain fun _ hs => .ite hs.writeLoc.counts.lossWrite hs.writeLoc.counts)

theorem State.Keeps.execVcSmax (hs : s₀.Keeps s) {h : Issue} {o : VcSmaxOp} : s₀.Answers (execVcSmax h o s) :=
  .ok (hs.issue fun _ hs => .ite (.ite hs.writeLines.counts hs.writeLines.counts.writeLines)
    (.inc (.inc (.inc (.ite hs.writeLines.counts hs.writeLines.counts.writeLines)))))

theorem State.Keeps.execVcCmp (hs : s₀.Keeps s) {h : Issue} {o : VcCmpOp} : s₀.Answers (execVcCmp h o s) :=
  .ok (hs.issue fun _ hs => hs.writeLines.counts)

theorem State.Keeps.execVcExp (hs : s₀.Keeps s) {h : Issue} {o : VcCmpOp} : s₀.Answers (execVcExp h o s) :=
  .ok (hs.issue fun _ hs => .ite hs.patternErr hs.writeLines.counts)

theorem State.Keeps.drawEntries (hs : s₀.Keeps s) {cid base dist k : Nat} {l : List RosterEntry} :
    s₀.Keeps (State.drawEntries cid base dist k l s).2 := by
  induction l generalizing s with
  | nil => exact hs
  | cons e l ih =>
    refine ih ?_
    split
    · exact hs.keepStream
    · exact hs

theorem State.Keeps.execVcRng (hs : s₀.Keeps s) {h : Issue} {o : VcRngOp} : s₀.Answers (execVcRng h o s) :=
  .ite (.ok (hs.issueChain fun _ hs => hs.keepStream.writeLoc.counts))
    (.ok (hs.issueChain fun _ hs => hs.drawEntries.writeLoc.counts))

/-! ### Of Matrix.lean -/

theorem State.Keeps.setArray (hs : s₀.Keeps s) {h : Issue} {a : ArrayUnit} : s₀.Keeps (s.setArray h a) := hs.frame

theorem State.Keeps.execMxLdw (hs : s₀.Keeps s) {h : Issue} {o : MxLdwOp} : s₀.Answers (execMxLdw h o s) := by
  unfold Machine.execMxLdw
  split
  · exact .ok (hs.issue fun _ hs => hs.setArray)
  · exact hs.ok

theorem State.Keeps.gate (hs : s₀.Keeps s) {n : Nat} : s₀.Keeps (s.gate n) := .ite hs hs.frame.set.set

theorem State.Keeps.run (hs : s₀.Keeps s) {tr : Bool} {op : Nat} {h : Issue} {o : MxRunOp} :
    s₀.Keeps (s.run tr op h o) := by
  unfold State.run
  split
  · refine hs.issue fun _ hs => .ite hs.patternErr (.ite hs.patternErr ?_)
    split
    · exact hs.patternErr
    · refine .ite hs (.ite hs.patternErr (.setArray ?_))
      exact .via hs.inc2.inc.inc.inc fun h₁ => .ite h₁.gate h₁
  · exact hs

theorem State.Keeps.execMxRun (hs : s₀.Keeps s) {h : Issue} {o : MxRunOp} : s₀.Answers (execMxRun h o s) := hs.run.ok

theorem State.Keeps.execMxRunt (hs : s₀.Keeps s) {h : Issue} {o : MxRunOp} : s₀.Answers (execMxRunt h o s) := hs.run.ok

theorem State.Keeps.execMxWgrad (hs : s₀.Keeps s) {h : Issue} {o : MxWgradOp} : s₀.Answers (execMxWgrad h o s) :=
  .ok (hs.issue fun _ hs => .ite hs.patternErr (.ite hs.setArray.inc2.writeLines.counts hs.setArray.inc2))

theorem State.Keeps.execMxDrain (hs : s₀.Keeps s) {h : Issue} {o : MxDrainOp} : s₀.Answers (execMxDrain h o s) := by
  unfold Machine.execMxDrain
  refine .ok (hs.issue fun _ hs => .ite hs.patternErr ?_)
  split
  · exact hs.patternErr
  · exact .ite hs (.ite hs.patternErr hs.inc.writeLines.counts)

theorem State.Keeps.streamTable (hs : s₀.Keeps s) {r : StreamReq} : s₀.Keeps (s.streamTable r) := by
  unfold State.streamTable
  refine hs.foldl fun _ hs => ?_
  split
  · exact hs
  · exact .ite hs hs.frame.inc2

theorem State.Keeps.execSlotStream (hs : s₀.Keeps s) {o : StreamOp} : s₀.Answers (execSlotStream o s) := by
  unfold Machine.execSlotStream
  split
  · exact hs.streamTable.ok
  · split
    · exact hs.ok
    · exact hs.frame.streamTable.ok

/-! ### Of Admit.lean -/

theorem State.Keeps.claim (hs : s₀.Keeps s) {fn use : Nat} {ks : List Nat} : s₀.Keeps (s.claim fn use ks) := by
  unfold State.claim
  split
  · exact hs
  · exact hs.frame

theorem State.Keeps.claimCode (hs : s₀.Keeps s) {d : Descriptor} : s₀.Keeps (s.claimCode d) := hs.claim

/-! ### Of Queues.lean -/

theorem State.Keeps.execSqTailDoorbell (hs : s₀.Keeps s) {fn n v : Nat} {word : Bool} :
    s₀.Answers (execSqTailDoorbell fn n v word s) :=
  .ite hs.setF.wakeBy.ok hs.fnErr.ok

theorem State.Keeps.drainNotes (hs : s₀.Keeps s) {fn k : Nat} : s₀.Keeps (s.drainNotes fn k) := by
  induction k generalizing s with
  | zero => exact hs.showNotes
  | succ k ih =>
    unfold State.drainNotes
    split
    · exact hs.showNotes
    · exact .ite (ih hs.frame.post) hs.showNotes

theorem State.Keeps.execCqHeadDoorbell (hs : s₀.Keeps s) {fn v : Nat} {word : Bool} :
    s₀.Answers (execCqHeadDoorbell fn v word s) :=
  .ite hs.fnErr.ok (.ite hs.setF.drainNotes.ok hs.fnErr.ok)

theorem State.Keeps.execCqCoalesceTimer (hs : s₀.Keeps s) {fn : Nat} : s₀.Answers (execCqCoalesceTimer fn s) :=
  .ite hs.ok hs.frame.msix.ok

theorem State.Keeps.refuseEntry (hs : s₀.Keeps s) {f : Fetched} {st : Status} {report : List Byte} :
    s₀.Keeps (s.refuseEntry f st report) :=
  .ite hs.sqDone.post hs.sqDone.postCommand

theorem State.Keeps.execSqFetch (hs : s₀.Keeps s) {o : SqFetchOp} : s₀.Answers (execSqFetch o s) :=
  .ite hs.ok (.ite hs.frame.inc.ok (.ite hs.frame.inc.dmaFail.refuseEntry.ok
    (.ite hs.frame.inc.refuseEntry.ok (.ite hs.frame.inc.refuseEntry.ok hs.frame.inc.frame.ok))))

theorem State.Keeps.take (hs : s₀.Keeps s) {f : Fetched} : s₀.Keeps (s.take f) := hs.frame

theorem State.Keeps.execCommand (hs : s₀.Keeps s) {o : QueueOp} : s₀.Answers (execCommand o s) := by
  unfold Machine.execCommand
  split
  · exact hs.ok
  · split
    · exact hs.take.refuseEntry.ok
    · dsimp only
      split
      · exact hs.take.refuseEntry.ok
      · split
        · exact hs.take.refuseEntry.ok
        · exact hs.take.claimCode.setCmd.frame.ok

theorem State.Keeps.pin (hs : s₀.Keeps s) {l : List Handle} : s₀.Keeps (s.pin l) := by
  unfold State.pin
  refine hs.foldl fun _ hs => ?_
  dsimp only
  split
  · exact hs
  · exact hs.setSwatch.mapTensor

theorem State.Keeps.openSeq (hs : s₀.Keeps s) {id : Nat} {q : SeqRec} : s₀.Keeps (s.openSeq id q) :=
  hs.pin.claim.frame.showSeqs

theorem State.Keeps.execSeqOpen (hs : s₀.Keeps s) {o : QueueOp} : s₀.Answers (execSeqOpen o s) := by
  unfold Machine.execSeqOpen
  split
  · exact hs.ok
  · extract_lets -underBinder s₁
    have h₁ : s₀.Keeps s₁ := hs.take
    refine .ite h₁.refuseEntry.ok (.ite h₁.refuseEntry.ok ?_)
    split
    · exact h₁.refuseEntry.ok
    · exact h₁.openSeq.sqDone.post.ok

theorem State.Keeps.execSeqAppend (hs : s₀.Keeps s) {o : QueueOp} : s₀.Answers (execSeqAppend o s) := by
  unfold Machine.execSeqAppend
  split
  · exact hs.ok
  · dsimp only
    split
    · exact hs.take.refuseEntry.ok
    · split
      · exact hs.take.refuseEntry.ok
      · split
        · exact hs.take.refuseEntry.ok
        · split
          · exact hs.take.refuseEntry.ok
          · exact hs.take.frame.sqDone.post.ok

theorem State.Keeps.execSeqClose (hs : s₀.Keeps s) {o : QueueOp} : s₀.Answers (execSeqClose o s) := by
  unfold Machine.execSeqClose
  split
  · exact hs.ok
  · dsimp only
    split
    · exact hs.take.refuseEntry.ok
    · split
      · exact hs.take.refuseEntry.ok
      · split
        · exact hs.take.refuseEntry.ok
        · exact hs.take.frame.sqDone.post.closeSeqs.ok

/-! ### Of Motifs.lean -/

theorem State.Keeps.execMotifLoad (hs : s₀.Keeps s) {m : Mail} : s₀.Answers (execMotifLoad m s) := by
  unfold Machine.execMotifLoad
  refine .ok (hs.mail fun _ hs => .ite trivial ?_)
  split
  · exact hs.fail
  · split
    · exact hs.fail
    · refine .ite hs.fail ?_
      dsimp only
      split
      · exact hs.fail
      · split
        · rename_i e
          exact State.Keeps.fail (hs.allocNear.of_eq e)
        · rename_i e
          have h₁ : s₀.Keeps _ := hs.allocNear.of_eq e
          exact h₁.enter.writeNear.setQuota.frame.showSpace.done

theorem State.Keeps.bindMotif (hs : s₀.Keeps s) {t : Tensor} {mo : Motif} {c : CtxBlock} {entry slot mode : Nat} :
    s₀.Keeps (s.bindMotif t mo c entry slot mode) :=
  hs.frame.mirrorCtx.showSlotsBound

theorem State.Keeps.execMotifBind (hs : s₀.Keeps s) {m : Mail} : s₀.Answers (execMotifBind m s) := by
  unfold Machine.execMotifBind
  refine .ok (hs.mail fun _ hs => ?_)
  split
  · exact hs.fail
  · split
    · exact trivial
    · split
      · exact hs.fail
      · split
        · exact hs.fail
        · split
          · exact hs.fail
          · split
            · exact hs.fail
            · exact hs.bindMotif.done
  · exact hs.fail

theorem State.Keeps.execMotifUnbind (hs : s₀.Keeps s) {m : Mail} : s₀.Answers (execMotifUnbind m s) := by
  unfold Machine.execMotifUnbind
  refine .ok (.settleMotifs (hs.mail fun _ hs => ?_))
  split
  · exact hs.fail
  · exact hs.fail
  · exact .ite hs.drainMotif.mirrorCtx.done trivial

theorem State.Keeps.execMotifQuery (hs : s₀.Keeps s) {m : Mail} : s₀.Answers (execMotifQuery m s) := by
  unfold Machine.execMotifQuery
  refine .ok (hs.mail fun _ hs => ?_)
  dsimp only
  split
  · exact hs.fail
  · exact hs.fail
  · exact hs.done

/-! ### Of TwinOps.lean -/

theorem State.Keeps.twinErr (hs : s₀.Keeps s) {f : Fld} : s₀.Keeps (s.twinErr f) := hs.err

theorem State.Keeps.onTwin (hs : s₀.Keeps s) {l n : Nat} {k : State → State} (hk : ∀ {u}, s₀.Keeps u → s₀.Keeps (k u)) :
    s₀.Answers (s.onTwin l n k) := by
  unfold State.onTwin
  refine .ite hs.ok ?_
  split
  · exact hs.ok
  · rename_i e
    have h₁ : s₀.Keeps _ := hs.arriveFrame.of_some e
    exact .ok (hk h₁.set.frame)

theorem State.Keeps.takePoint (hs : s₀.Keeps s) : s₀.Keeps s.takePoint := by
  unfold State.takePoint
  split
  · exact .ite hs (.frame (.ite hs.inc hs))
  · exact hs

theorem State.Keeps.setLifeline (hs : s₀.Keeps s) {l : Lifeline} : s₀.Keeps (s.setLifeline l) := hs.frame

theorem State.Keeps.writeManifest (hs : s₀.Keeps s) {l : Lifeline} : s₀.Keeps (s.writeManifest l) := by
  unfold State.writeManifest
  split
  · refine .ite (hs.deep fun w => ?_) (hs.near fun w => ?_)
    · dsimp only
      exact Memory.writeBytes_wf w _ _
    · dsimp only
      exact Memory.writeBytes_wf w _ _
  · exact hs

theorem State.Keeps.markLifeline (hs : s₀.Keeps s) {l : Lifeline} {st : Nat} : s₀.Keeps (s.markLifeline l st) :=
  hs.setLifeline.writeManifest.tinkLog

theorem State.Keeps.verifyLifelines (hs : s₀.Keeps s) {m : Nat} : s₀.Keeps (s.verifyLifelines m) :=
  hs.foldl fun _ hs => hs.markLifeline

theorem State.Keeps.twinHalt (hs : s₀.Keeps s) : s₀.Keeps s.twinHalt := hs.askHaltRow

theorem State.Keeps.diverge (hs : s₀.Keeps s) {p : DigestPoint} : s₀.Keeps (s.diverge p) :=
  .via (hs.foldl fun _ hs => hs.frog) fun h₁ => .startFlush
    (.freeze (.frame
    (.tinkLog (.twinHalt
    (.twinErr (.set (.foldl (.ite h₁.faultCommands.faultStep h₁.faultCommands) fun _ hs => hs.finishSeq)))))))

theorem State.Keeps.sendRepair (hs : s₀.Keeps s) {r : Nat × Nat × Nat} : s₀.Keeps (s.sendRepair r) := by
  unfold State.sendRepair
  split
  · exact hs.foldl fun _ hs => hs.sendTwin
  · exact hs

theorem State.Keeps.repairRange (hs : s₀.Keeps s) {mine : Bool} {r : Nat × Nat × Nat} :
    s₀.Keeps (s.repairRange mine r) :=
  .ite (.ite hs.tinkLog.frame.frame hs.tinkLog.frame.frame.mapTensor) hs.tinkLog.frame.sendRepair

theorem State.Keeps.nowTwinned (hs : s₀.Keeps s) : s₀.Keeps s.nowTwinned := by
  unfold State.nowTwinned
  split
  · exact hs
  · dsimp only
    split
    · exact hs.set.twinErr.tinkLog.tinkLog.frame.reply
    · exact hs.set.twinErr.tinkLog

theorem State.Keeps.comparePoint (hs : s₀.Keeps s) {err : Option (Nat × Nat × Nat)} :
    s₀.Keeps (s.comparePoint err) := by
  unfold State.comparePoint
  split
  · exact .ite hs.frame.inc.frame.set.set.verifyLifelines.nowTwinned
      (.ite (.via (hs.frame.inc.frame.twinErr.foldl fun _ hs => hs.repairRange) fun h₁ => h₁.elim fun _ => .ite
      h₁.repairRange h₁) hs.frame.inc.frame.diverge)
  · exact hs

theorem State.Keeps.placeMirrored (hs : s₀.Keeps s) {t : Tensor} : s₀.Keeps (s.placeMirrored t).2 := by
  unfold State.placeMirrored
  split
  · split
    · exact hs.assignFrames
    · exact hs
  · exact hs.takeDeep
  · exact hs

theorem State.Keeps.applyEntry (hs : s₀.Keeps s) {k : Nat} {entry : Option Tensor} : s₀.Keeps (s.applyEntry k entry) := by
  unfold State.applyEntry
  split
  · split
    · exact hs.dropLifeline
    · exact hs.dropTensor
  · exact hs
  · extract_lets -underBinder _ _ r s₁ s₂ s₃
    have h₁ : s₀.Keeps s₁ := hs.placeMirrored.putCells
    have h₂ : s₀.Keeps s₂ := .ite h₁.releaseNear h₁
    have h₃ : s₀.Keeps s₃ := .ite h₂.releaseDeep h₂
    exact .ite hs.putTensor h₃.putTensor
  · exact hs.placeMirrored.putTensor.setQuota

theorem State.Keeps.applyCtx (hs : s₀.Keeps s) {fn : Nat} {streams : List Machine.Stream}
    {bindings : List (Handle × Nat × Nat)} {heads : List Nat} : s₀.Keeps (s.applyCtx fn streams bindings heads) := by
  unfold State.applyCtx
  split
  · exact hs
  · refine hs.frame.foldl fun _ ht => .ite ht (.ite ?_ ?_)
    · split
      · exact ht.frame.frame.showSlotsBound
      · exact ht.frame
    · split
      · exact ht.frame.bindMotif
      · exact ht.frame

theorem State.Keeps.applyCommit (hs : s₀.Keeps s) {ctag : Nat} : s₀.Keeps (s.applyCommit ctag) := by
  unfold State.applyCommit
  refine .frame ?_
  refine hs.foldl fun _ hs => ?_
  split
  · exact hs.putTensor.setQuota
  · exact hs

theorem State.Keeps.applyStepEnd (hs : s₀.Keeps s) : s₀.Keeps s.applyStepEnd := by
  unfold State.applyStepEnd
  split
  · exact hs
  · refine .showSeqs ?_
    refine hs.frame.clrBits.inc2.foldl fun _ hs => ?_
    split
    · exact hs.frame
    · exact hs

theorem State.Keeps.applyRec (hs : s₀.Keeps s) {r : TwinRec} : s₀.Keeps (s.applyRec r) := by
  unfold State.applyRec
  split
  · exact .ite hs.applyCommit.applyStepEnd hs.applyCommit
  · exact hs.applyCtx
  · exact hs.applyEntry.showSpace
  · exact .showSeqs (.markReady (.foldl (hs.near fun w => Memory.writeBytes_wf w _ _) fun _ ht => .ite ht ht.frame))
  · exact hs.frame

theorem State.Keeps.applyAll (hs : s₀.Keeps s) {n : Nat} : s₀.Keeps (s.applyAll n) := by
  induction n generalizing s with
  | zero => exact hs
  | succ n ih =>
    unfold State.applyAll
    dsimp only
    split
    · exact hs
    · exact ih (.takePoint (.set (.ite hs hs.frame.applyRec)))

theorem State.Keeps.releaseRecs (hs : s₀.Keeps s) : s₀.Keeps s.releaseRecs := hs.foldl fun _ hs => hs.frame.applyRec

theorem State.Keeps.takeRec (hs : s₀.Keeps s) {mseq : Nat} {r : TwinRec} : s₀.Keeps (s.takeRec mseq r) :=
  hs.frame.applyAll

theorem State.Keeps.fence (hs : s₀.Keeps s) : s₀.Keeps s.fence := hs.set.twinErr.tinkLog.frame.twinHalt

theorem State.Keeps.declareLoss (hs : s₀.Keeps s) {fault : Bool} : s₀.Keeps (s.declareLoss fault) :=
  .ite hs hs.twinErr.tinkLog.frame.note

theorem State.Keeps.resumeFn (hs : s₀.Keeps s) {fn : Nat} : s₀.Keeps (s.resumeFn fn) :=
  .ite hs (hs.setF.foldl fun _ hs => hs.setF.frame)

theorem State.Keeps.takeOver (hs : s₀.Keeps s) : s₀.Keeps s.takeOver :=
  .set (.tinkLog
    (.twinErr (.note (.showSeqs (.frame (.foldl (hs.set.foldl fun _ hs => hs.resumeFn) fun _ hs => hs.frame))))))

theorem State.Keeps.sendSync (hs : s₀.Keeps s) : s₀.Keeps s.sendSync :=
  .foldl (.foldl (hs.foldl fun _ hs => .ite hs.mirror hs) fun _ hs => hs.mirrorCtx) fun _ h₁ => h₁.foldl fun _ hs =>
    hs.sendTwin.frame

theorem State.Keeps.discardMirrored (hs : s₀.Keeps s) : s₀.Keeps s.discardMirrored := by
  unfold State.discardMirrored
  exact .showSpace
    (.showSlotsBound
    (.showSeqs (.foldl (.frame (.foldl (hs.foldl fun _ hs => hs.frame) fun _ hs => hs.clrBits)) fun _ hs =>
    hs.dropTensor)))

theorem State.Keeps.startTwin (hs : s₀.Keeps s) {role peer links : Nat} {auto : Bool} :
    s₀.Keeps (s.startTwin role peer links auto) :=
  .ite hs.set.set.set.set.setTwinLinks.set.set.set.frame.sendSync
    hs.set.set.set.set.setTwinLinks.set.set.set.frame.discardMirrored

/-! ### Of Firmware.lean -/

theorem State.Keeps.say (hs : s₀.Keeps s) {port : Nat} {l : List Byte} : s₀.Keeps (s.say port l) := hs.frame

theorem State.Keeps.faultRecord (hs : s₀.Keeps s) {o : TrapOp} {cause flags : Nat} :
    s₀.Keeps (s.faultRecord o cause flags) :=
  .set (.ite hs.tinkLog.frame.set hs.tinkLog.frame)

theorem State.Keeps.failComponent (hs : s₀.Keeps s) {comp now : Nat} : s₀.Keeps (s.failComponent comp now) :=
  .ite hs.complexReset hs.frame.set.set

theorem State.Keeps.execTrapEntry (hs : s₀.Keeps s) {o : TrapOp} : s₀.Answers (execTrapEntry o s) :=
  .ite hs.ok (.ite hs.complexReset.ok (.ite hs.frame.ok
    (.ite hs.frame.faultRecord.complexReset.ok hs.frame.faultRecord.failComponent.ok)))

theorem State.Keeps.missBeat (hs : s₀.Keeps s) {now comp : Nat} : s₀.Keeps (State.missBeat now s comp) :=
  .ite hs (.ite hs.frame hs.draw.draw.draw.draw.draw.faultRecord.failComponent)

theorem State.Keeps.execSupervisorHeartbeat (hs : s₀.Keeps s) {answered : List Nat} {now : Nat} :
    s₀.Answers (execSupervisorHeartbeat answered now s) :=
  .ite hs.ok (.ok (hs.frame.foldl fun _ hs => hs.missBeat))

theorem State.Keeps.dropBuilds (hs : s₀.Keeps s) {st : Status} : s₀.Keeps (s.dropBuilds st) :=
  hs.frame.set.foldl fun _ hs => hs.reply

theorem State.Keeps.execComponentRestarted (hs : s₀.Keeps s) {comp us : Nat} :
    s₀.Answers (execComponentRestarted comp us s) :=
  .ite hs.ok (.ok (.ite hs.set.set.inc.set.tinkLog.dropBuilds
    (.ite hs.set.set.inc.set.tinkLog.endUpdate hs.set.set.inc.set.tinkLog)))

theorem State.Keeps.execComplexWatchdogExpiry (hs : s₀.Keeps s) {now : Nat} :
    s₀.Answers (execComplexWatchdogExpiry now s) :=
  .ite hs.ok hs.complexReset.ok

theorem State.Keeps.execCoreSramEcc (hs : s₀.Keeps s) {core now : Nat} : s₀.Answers (execCoreSramEcc core now s) :=
  .ite hs.ok hs.draw.complexReset.ok

theorem State.Keeps.restartWork (hs : s₀.Keeps s) : s₀.Keeps s.restartWork :=
  .via (.resumeMoves (.stopMoves (.frame (hs.foldl fun _ hs => hs.failModel)))) fun h₁ => .foldl
    (.ite h₁.frame.dropBuilds.frame.set h₁.frame.dropBuilds) fun _ hs => hs.reply

theorem State.Keeps.execComplexReady (hs : s₀.Keeps s) {ms : Nat} : s₀.Answers (execComplexReady ms s) :=
  .ite hs.ok hs.resetAdvance.set.releaseRecs.faultAll.restartWork.settleResets.tinkLog.set.set.ok

theorem State.Keeps.execDebugActivate (hs : s₀.Keeps s) {on : Bool} : s₀.Answers (execDebugActivate on s) :=
  .ite hs.ok (.ok (.ite hs.set.tinkLog.set hs.set.tinkLog))

theorem State.Keeps.setHalted (hs : s₀.Keeps s) {c : Nat} {on : Bool} : s₀.Keeps (s.setHalted c on) :=
  .tinkLog (.ite hs.set hs.set.frame)

theorem State.Keeps.execDebugHalt (hs : s₀.Keeps s) {core : Nat} : s₀.Answers (execDebugHalt core s) :=
  .ok (.ite hs.setHalted hs)

theorem State.Keeps.execDebugResume (hs : s₀.Keeps s) {core : Nat} : s₀.Answers (execDebugResume core s) :=
  .ok (.ite hs.setHalted hs)

theorem State.Keeps.execDebugStep (hs : s₀.Keeps s) {core : Nat} : s₀.Answers (execDebugStep core s) :=
  .ok (.ite hs.setHalted.setHalted hs)

theorem State.Keeps.execDebugAbstractCommand (hs : s₀.Keeps s) {o : AbstractOp} :
    s₀.Answers (execDebugAbstractCommand o s) := by
  unfold Machine.execDebugAbstractCommand
  split
  · exact hs.ok
  · split
    · exact hs.frame.ok
    · dsimp only
      split
      · exact hs.say.ok
      · exact hs.draw.frame.say.ok

theorem State.Keeps.sramByte (hs : s₀.Keeps s) {k a : Nat} : s₀.Keeps (s.sramByte k a).2 := by
  unfold State.sramByte
  split
  · exact hs
  · split
    · exact hs
    · exact hs.draw

theorem State.Keeps.denyUnit (hs : s₀.Keeps s) {isWrite : Bool} {cls : Nat} : s₀.Keeps (s.denyUnit isWrite cls) :=
  hs.draw.draw.deny

theorem State.Keeps.countUnit (hs : s₀.Keeps s) {isWrite : Bool} {k : Nat} : s₀.Keeps (s.countUnit isWrite k) := by
  unfold State.countUnit
  split
  · exact .ite hs hs.inc
  · exact hs.inc
  · exact .ite hs hs.inc
  · exact hs.inc

theorem State.Keeps.execDebugSysbusAccess (hs : s₀.Keeps s) {o : BusOp} : s₀.Answers (execDebugSysbusAccess o s) := by
  unfold Machine.execDebugSysbusAccess
  refine .ite hs.ok ?_
  split
  · exact .ite hs.openWrite.denyFrames.ok hs.denyFrames.say.ok
  · refine .ite hs.frame.ok (.ok (.say ?_))
    exact .foldlBy (fun a : List Byte × State => a.2) hs fun _ ha => ha.sramByte
  · exact .ok (.ite hs.denyUnit.countUnit hs.denyUnit.countUnit.say)
  · exact .ok (.ite hs.draw.denyUnit hs.draw.denyUnit.say)

theorem State.Keeps.execJtagInstructionLoad (hs : s₀.Keeps s) {ir : TapInstr} :
    s₀.Answers (execJtagInstructionLoad ir s) := by
  unfold Machine.execJtagInstructionLoad
  split
  · exact hs.frame.say.ok
  · exact hs.frame.ok
  · exact hs.frame.ok
  · exact .ite hs.frame.secErr.ok hs.frame.ok
  · exact hs.frame.ok
  · exact hs.frame.ok

theorem State.Keeps.pldm (hs : s₀.Keeps s) {cc : Nat} {l : List Byte} : s₀.Keeps (s.pldm cc l) := hs.say

theorem State.Keeps.pldmCmd (hs : s₀.Keeps s) {f : State → State} (hf : ∀ {u}, s₀.Keeps u → s₀.Keeps (f u)) :
    s₀.Answers (s.pldmCmd f) :=
  .ok (.ite (hf hs) hs)

theorem State.Keeps.fwStage (hs : s₀.Keeps s) {cls stage : Nat} : s₀.Keeps (s.fwStage cls stage) := hs.tinkLog

theorem State.Keeps.setUpdate (hs : s₀.Keeps s) {u : UpdateSession} {banks : List (Nat × Nat)} :
    s₀.Keeps (s.setUpdate u banks) :=
  hs.frame.showBanks

theorem State.Keeps.execQueryDeviceIdentifiers (hs : s₀.Keeps s) : s₀.Answers (execQueryDeviceIdentifiers s) :=
  hs.pldmCmd fun hs => hs.pldm

theorem State.Keeps.execGetFirmwareParameters (hs : s₀.Keeps s) : s₀.Answers (execGetFirmwareParameters s) :=
  hs.pldmCmd fun hs => hs.pldm

theorem State.Keeps.execRequestUpdate (hs : s₀.Keeps s) : s₀.Answers (execRequestUpdate s) :=
  hs.pldmCmd fun hs => .ite hs.pldm hs.setUpdate.set.pldm

theorem State.Keeps.execPassComponentTable (hs : s₀.Keeps s) {classes : List Nat} :
    s₀.Answers (execPassComponentTable classes s) := by
  unfold Machine.execPassComponentTable
  refine hs.pldmCmd fun hs => ?_
  split
  · exact hs.pldm
  · exact .ite hs.pldm hs.setUpdate.pldm

theorem State.Keeps.execUpdateComponent (hs : s₀.Keeps s) {cls size : Nat} :
    s₀.Answers (execUpdateComponent cls size s) := by
  unfold Machine.execUpdateComponent
  refine hs.pldmCmd fun hs => ?_
  split
  · exact hs.pldm
  · exact .ite hs.pldm hs.setUpdate.fwStage.pldm

theorem State.Keeps.execRequestFirmwareData (hs : s₀.Keeps s) {n : Nat} : s₀.Answers (execRequestFirmwareData n s) := by
  unfold Machine.execRequestFirmwareData
  refine hs.pldmCmd fun hs => ?_
  split
  · exact hs
  · exact .ite hs hs.setUpdate

theorem State.Keeps.execVerifyComplete (hs : s₀.Keeps s) {good : Bool} {svn : Nat} :
    s₀.Answers (execVerifyComplete good svn s) := by
  unfold Machine.execVerifyComplete
  refine hs.pldmCmd fun hs => ?_
  split
  · exact hs
  · split
    · exact hs
    · exact .ite hs (.ite hs.frame.setUpdate.fwStage.pldm hs.setUpdate.fwStage.pldm)

theorem State.Keeps.execActivateFirmware (hs : s₀.Keeps s) : s₀.Answers (execActivateFirmware s) := by
  unfold Machine.execActivateFirmware
  refine hs.pldmCmd fun h₁ => ?_
  split
  · exact h₁.pldm
  · exact .ite h₁.pldm (.pldm (h₁.frame.set.showBanks.foldl fun _ hs => hs.fwStage))

theorem State.Keeps.execGetStatus (hs : s₀.Keeps s) : s₀.Answers (execGetStatus s) := by
  unfold Machine.execGetStatus
  refine hs.pldmCmd fun hs => ?_
  split
  · exact hs.pldm
  · exact hs.pldm

theorem State.Keeps.execCancelUpdateComponent (hs : s₀.Keeps s) : s₀.Answers (execCancelUpdateComponent s) := by
  unfold Machine.execCancelUpdateComponent
  refine hs.pldmCmd fun hs => ?_
  split
  · exact hs.pldm
  · split
    · exact hs.pldm
    · exact hs.setUpdate.fwStage.pldm

theorem State.Keeps.execCancelUpdate (hs : s₀.Keeps s) : s₀.Answers (execCancelUpdate s) :=
  hs.pldmCmd fun hs => .ite hs.endUpdate.pldm hs.pldm

theorem State.Keeps.execTrialConfirm (hs : s₀.Keeps s) : s₀.Answers (execTrialConfirm s) :=
  .ite hs.ok hs.frame.set.showBanks.tinkLog.ok

theorem State.Keeps.execSetSensorThresholds (hs : s₀.Keeps s) {sensor lower upper : Nat} :
    s₀.Answers (execSetSensorThresholds sensor lower upper s) :=
  hs.pldmCmd fun hs => .ite hs.pldm hs.frame.pldm

theorem State.Keeps.execSetEndpointId (hs : s₀.Keeps s) {bus eid : Nat} : s₀.Answers (execSetEndpointId bus eid s) :=
  hs.pldmCmd fun hs => .ite hs hs.frame

/-! ### Of PatternOps.lean -/

theorem State.Keeps.writePm (hs : s₀.Keeps s) {off : Nat} {l : List Byte} : s₀.Keeps (s.writePm off l) :=
  hs.near fun w => Memory.writeBytes_wf w _ _

theorem State.Keeps.setTemplates (hs : s₀.Keeps s) {l : List Template} : s₀.Keeps (s.setTemplates l) :=
  hs.frame.writePm.writePm.set

theorem State.Keeps.storeTemplate (hs : s₀.Keeps s) {t : Template} {body : List Byte} :
    Found.Each s₀.Keeps (s.storeTemplate t body) := by
  unfold State.storeTemplate
  dsimp only
  split
  · exact hs.writePm.setTemplates
  · trivial

/-! ### Of Swatches.lean -/

theorem State.Keeps.placeBlob (hs : s₀.Keeps s) {fn : Nat} {h : BlobHead} {payload : List Byte} :
    Answer.Each (fun e : Status × State × List Byte => s₀.Keeps e.2.1)
      (fun r : Tensor × Option Tensor × State => s₀.Keeps r.2.2) (s.placeBlob fn h payload) := by
  unfold State.placeBlob
  extract_lets -underBinder
  split
  · exact hs
  · refine .ite hs ?_
    extract_lets -underBinder sizes
    split
    · rename_i e
      exact State.Keeps.ite (hs.allocNears.of_eq (congrArg Prod.fst e)) hs
    · rename_i e
      have h₁ : s₀.Keeps _ := hs.allocNears.of_eq (congrArg Prod.fst e)
      extract_lets -underBinder _ _ s₁ _ s₂
      have h₂ : s₀.Keeps s₁ := h₁.enter.writeNear
      have h₃ : s₀.Keeps s₂ := .ite h₂.setQuota h₂
      refine .ite ?_ ?_
      · dsimp only [Answer.Each]
        exact h₃.enter.writeNear.setTensor.showSpace
      · dsimp only [Answer.Each]
        exact h₃.showSpace

theorem State.Keeps.execSwatchBuild (hs : s₀.Keeps s) {m : Mail} : s₀.Answers (execSwatchBuild m s) := by
  unfold Machine.execSwatchBuild
  refine .ok (hs.mail fun _ hs => .ite trivial (.ite trivial (.ite trivial ?_)))
  split
  · exact hs.fail
  · exact hs.fail
  · refine .ite hs.fail (.ite hs.fail ?_)
    split
    · exact hs.fail
    · refine .ite hs.fail ?_
      dsimp only
      split
      · rename_i e
        exact .fail (hs.allocNear.of_eq e)
      · rename_i e
        have h₁ : s₀.Keeps _ := hs.allocNear.of_eq e
        exact h₁.enter.setSwatch.pin.frame.showSeqs.showSpace.later

theorem State.Keeps.abandonBuild (hs : s₀.Keeps s) {k : Nat} : s₀.Keeps (s.abandonBuild k) := by
  unfold State.abandonBuild
  split
  · exact hs.finishSeq
  · exact hs.failSwatch

theorem State.Keeps.execSwatchRelease (hs : s₀.Keeps s) {m : Mail} : s₀.Answers (execSwatchRelease m s) := by
  unfold Machine.execSwatchRelease
  refine .ok (hs.mail fun _ hs => ?_)
  dsimp only
  split
  · exact hs.fail
  · exact hs.fail
  · exact .ite trivial (.ite hs.abandonBuild.done (.ite trivial hs.dropPair.done))

theorem State.Keeps.execSwatchImport (hs : s₀.Keeps s) {m : Mail} : s₀.Answers (execSwatchImport m s) := by
  unfold Machine.execSwatchImport
  refine .ok (hs.mail fun _ hs => ?_)
  dsimp only
  split
  · exact hs.fail
  · split
    · exact hs.fail
    · refine .ite hs.fail (.ite hs.fail ?_)
      split
      · rename_i e
        exact .fail (hs.placeBlob.of_error e)
      · rename_i e
        exact .done (.setSwatch (hs.placeBlob.of_ok e))

theorem State.Keeps.execSwatchQuery (hs : s₀.Keeps s) {m : Mail} : s₀.Answers (execSwatchQuery m s) := by
  unfold Machine.execSwatchQuery
  refine .ok (hs.mail fun _ hs => ?_)
  split
  · exact hs.fail
  · exact hs.fail
  · exact hs.done

/-! ### Of Security.lean -/

theorem State.Keeps.execFuncEnable (hs : s₀.Keeps s) {m : Mail} : s₀.Answers (execFuncEnable m s) :=
  .ok (hs.mail fun _ hs => .ite trivial hs.setQuota.frame.setF.mirrorCtx.done)

theorem State.Keeps.execFuncDisable (hs : s₀.Keeps s) {m : Mail} : s₀.Answers (execFuncDisable m s) :=
  .ok (.settleResets (hs.mail fun _ hs => .ite hs.fail hs.startReset.later))

theorem State.Keeps.execSpdmTunnel (hs : s₀.Keeps s) {m : Mail} {reply : List Byte} :
    s₀.Answers (execSpdmTunnel m reply s) :=
  .ok (hs.mail fun _ hs => hs.done)

theorem State.Keeps.execSecQuery (hs : s₀.Keeps s) {m : Mail} : s₀.Answers (execSecQuery m s) :=
  .ok (hs.mail fun _ hs => hs.done)

theorem State.Keeps.execSvnCommit (hs : s₀.Keeps s) {m : Mail} : s₀.Answers (execSvnCommit m s) :=
  .ok (hs.mail fun _ hs => hs.frame.done)

theorem State.Keeps.execTensorExport (hs : s₀.Keeps s) {m : Mail} : s₀.Answers (execTensorExport m s) := by
  unfold Machine.execTensorExport
  refine .ok (hs.mail fun _ hs => ?_)
  dsimp only
  split
  · split
    · exact hs.fail
    · split
      · exact trivial
      · split
        · exact hs.fail
        · split
          · exact hs.fail
          · split
            · exact hs.draw.hostWrite.done
            · exact hs.draw.fail
  · exact hs.fail

theorem State.Keeps.keepBlob (hs : s₀.Keeps s) {t : Tensor} {b : BlobHead} {payload : List Byte} {live : Nat} :
    s₀.Keeps (s.keepBlob t b payload live) :=
  .ite hs.frame (.ite hs.draw.draw.draw.setSwatch hs)

theorem State.Keeps.execTensorImport (hs : s₀.Keeps s) {m : Mail} : s₀.Answers (execTensorImport m s) := by
  unfold Machine.execTensorImport
  refine .ok (hs.mail fun _ hs => ?_)
  split
  · exact hs.fail
  · split
    · exact hs.fail
    · refine .ite hs.fail ?_
      split
      · rename_i e
        exact .fail (hs.placeBlob.of_error e)
      · rename_i e
        exact .done (.keepBlob (hs.placeBlob.of_ok e))

theorem State.Keeps.spdm (hs : s₀.Keeps s) {st : Status} {l : List Byte} : s₀.Keeps (s.spdm st l) := hs.say

theorem State.Keeps.execGetMeasurements (hs : s₀.Keeps s) {fn index : Nat} :
    s₀.Answers (execGetMeasurements fn index s) :=
  .ite hs.ok hs.draw.draw.draw.spdm.ok

theorem State.Keeps.execGetCertificate (hs : s₀.Keeps s) {slot first count : Nat} :
    s₀.Answers (execGetCertificate slot first count s) :=
  .ite hs.ok (.ite hs.spdm.ok hs.spdm.ok)

theorem State.Keeps.execKeyExchange (hs : s₀.Keeps s) {o : SessionOp} : s₀.Answers (execKeyExchange o s) :=
  .ite hs.ok (.ite hs.spdm.ok (.ite hs.spdm.ok hs.frame.spdm.ok))

theorem State.Keeps.execEndOfSession (hs : s₀.Keeps s) {session : Nat} : s₀.Answers (execEndOfSession session s) :=
  hs.frame.ok

theorem State.Keeps.takeHeld (hs : s₀.Keeps s) {fn : Nat} {key : BitVec 256} : s₀.Keeps (s.takeHeld fn key) := by
  unfold State.takeHeld
  exact .showSpace (hs.frame.foldl fun _ hs => .ite hs.setTensor hs.setTensor.noteMoved)

theorem State.Keeps.holdExtents (hs : s₀.Keeps s) {fn : Nat} {key : BitVec 256} : s₀.Keeps (s.holdExtents fn key) := by
  unfold State.holdExtents
  split
  · exact hs
  · exact .ite hs (.frame (hs.foldl fun _ hs => hs.loseHome))

theorem State.Keeps.execKeyRelease (hs : s₀.Keeps s) {o : KeyReleaseOp} : s₀.Answers (execKeyRelease o s) := by
  unfold Machine.execKeyRelease
  split
  · exact hs.ok
  · split
    · exact hs.spdm.ok
    · exact .ite hs.spdm.ok
        (.ite hs.spdm.ok
        (.ite hs.spdm.ok (.ite hs.frame.tinkLog.spdm.ok hs.frame.tinkLog.holdExtents.frame.takeHeld.spdm.ok)))

theorem State.Keeps.inSession (hs : s₀.Keeps s) {session : Nat} {f : Session → State} (hf : ∀ x, s₀.Keeps (f x)) :
    s₀.Answers (s.inSession session f) := by
  unfold State.inSession
  refine .ite hs.ok ?_
  split
  · exact hs.spdm.ok
  · exact .ok (hf _)

theorem State.Keeps.execKeyDestroy (hs : s₀.Keeps s) {session : Nat} : s₀.Answers (execKeyDestroy session s) :=
  hs.inSession fun _ => .spdm (.ite hs.destroyBase hs.destroyKey)

theorem State.Keeps.execTouchLogRead (hs : s₀.Keeps s) {session : Nat} : s₀.Answers (execTouchLogRead session s) :=
  hs.inSession fun _ => .ite hs.spdm hs.spdm

theorem State.Keeps.execPolicyQuery (hs : s₀.Keeps s) {session : Nat} : s₀.Answers (execPolicyQuery session s) := by
  unfold Machine.execPolicyQuery
  refine hs.inSession fun _ => ?_
  split
  · exact hs.spdm
  · exact hs.spdm

theorem State.Keeps.setIde (hs : s₀.Keeps s) {n : Nat} {x : IdeStream} : s₀.Keeps (s.setIde n x) := hs.frame

theorem State.Keeps.execKeyProg (hs : s₀.Keeps s) {stream : Nat} {vfs : List Nat} :
    s₀.Answers (execKeyProg stream vfs s) :=
  .ite hs.ok hs.setIde.ok

theorem State.Keeps.execKSetGo (hs : s₀.Keeps s) {stream : Nat} : s₀.Answers (execKSetGo stream s) := by
  unfold Machine.execKSetGo
  split
  · exact hs.ok
  · exact .ok (.ite hs.setIde hs)

theorem State.Keeps.ideFail (hs : s₀.Keeps s) {n : Nat} {x : IdeStream} : s₀.Keeps (s.ideFail n x) :=
  hs.setIde.foldl fun _ hs => hs.tdiError

theorem State.Keeps.execKSetStop (hs : s₀.Keeps s) {stream : Nat} : s₀.Answers (execKSetStop stream s) := by
  unfold Machine.execKSetStop
  split
  · exact hs.ok
  · exact hs.setIde.ok

theorem State.Keeps.execIdeIntegrityFail (hs : s₀.Keeps s) {stream : Nat} :
    s₀.Answers (execIdeIntegrityFail stream s) := by
  unfold Machine.execIdeIntegrityFail
  split
  · exact hs.ok
  · exact .ite hs.ideFail.secErr.ok hs.ok

theorem State.Keeps.tdiMove (hs : s₀.Keeps s) {vf src dst : Nat} : s₀.Keeps (s.tdiMove vf src dst) := .ite hs.frame hs

theorem State.Keeps.execLockInterfaceRequest (hs : s₀.Keeps s) {vf : Nat} :
    s₀.Answers (execLockInterfaceRequest vf s) :=
  hs.tdiMove.ok

theorem State.Keeps.execStartInterfaceRequest (hs : s₀.Keeps s) {vf : Nat} :
    s₀.Answers (execStartInterfaceRequest vf s) :=
  hs.tdiMove.ok

theorem State.Keeps.execTdiConfigChange (hs : s₀.Keeps s) {vf : Nat} : s₀.Answers (execTdiConfigChange vf s) :=
  hs.tdiError.ok

/-! ### Of CastOn.lean -/

theorem State.Keeps.losesLifelines (hs : s₀.Keeps s) : s₀.Keeps s.losesLifelines := hs.foldl fun _ hs => hs.dropLifeline

theorem State.Keeps.restart (hs : s₀.Keeps s) : s₀.Keeps s.restart := by
  unfold State.restart
  extract_lets -underBinder s₁ _ s₂ _ _ _ _ _ _ _ _ _ _ clean
  have h₁ : s₀.Keeps s₂ := hs.losesLifelines.foldl fun _ ht => ht.releaseDeep
  have h₂ : s₀.Keeps clean :=
    ⟨h₁.queue, fun _ => List.pairwise_singleton _ _, fun h => ⟨Memory.nil_wf, (h₁.mem h).2⟩⟩
  exact h₂.foldl fun _ ht => ht.set

theorem State.Keeps.castFail (hs : s₀.Keeps s) {step : Nat} : s₀.Keeps (s.castFail step) :=
  hs.draw.frame.set.set.set.set.tinkLog

theorem State.Keeps.rolledBack (hs : s₀.Keeps s) {mask cause : Nat} : s₀.Keeps (s.rolledBack mask cause) :=
  .ite hs hs.set.tinkLog

theorem State.Keeps.bootImages (hs : s₀.Keeps s) {o : CastOp} {lastTrial : Nat} :
    s₀.Keeps (s.bootImages o lastTrial) := by
  unfold State.bootImages
  dsimp only
  split
  · exact .castFail (.tinkLog (.showBanks (.set (.frame (.ite hs.rolledBack hs.rolledBack.rolledBack)))))
  · exact .tinkLog (.frame (.set (.showBanks (.set (.frame (.ite hs.rolledBack hs.rolledBack.rolledBack))))))

theorem State.Keeps.showStep (hs : s₀.Keeps s) : s₀.Keeps s.showStep := hs.set

theorem State.Keeps.stepEnds (hs : s₀.Keeps s) {n : Nat} : s₀.Keeps (s.stepEnds n) := hs.frame.showStep

theorem State.Keeps.execCastOn (hs : s₀.Keeps s) {o : CastOp} : s₀.Answers (execCastOn o s) :=
  .ite hs.ok hs.restart.frame.set.set.set.set.set.set.bootImages.ok

theorem State.Keeps.execHbmTrainingDone (hs : s₀.Keeps s) {good : Bool} {gauge : List GaugeRec} :
    s₀.Answers (execHbmTrainingDone good gauge s) :=
  .ite hs.ok (.ite hs.castFail.ok (.ok (.stepEnds (hs.near fun _ => Memory.nil_wf))))

theorem State.Keeps.logRetained (hs : s₀.Keeps s) {applied : Nat} : s₀.Keeps (s.logRetained applied) := hs.tinkLog

theorem State.Keeps.execTranslationLayerReady (hs : s₀.Keeps s) {good : Bool} :
    s₀.Answers (execTranslationLayerReady good s) :=
  .ite hs.ok (.ite hs.castFail.ok hs.frame.frame.set.set.set.set.set.logRetained.stepEnds.ok)

theorem State.Keeps.execSelftestDone (hs : s₀.Keeps s) {o : SelftestOp} : s₀.Answers (execSelftestDone o s) :=
  .ite hs.ok (.via (hs.foldl fun _ hs => hs.set) fun h₁ => .ite h₁.tinkLog.set.set.castFail.ok
    h₁.tinkLog.set.set.frame.set.showGauge.stepEnds.ok)

theorem State.Keeps.execDirectoryRebuilt (hs : s₀.Keeps s) : s₀.Answers (execDirectoryRebuilt s) :=
  .ite hs.ok (.ok (.stepEnds (.showSpace (hs.frame.foldl fun _ hs => hs.putTensor))))

theorem State.Keeps.execStoreImageReload (hs : s₀.Keeps s) : s₀.Answers (execStoreImageReload s) := by
  unfold Machine.execStoreImageReload
  split
  · exact hs.ok
  · exact .ite hs.ok (.ok (.stepEnds (.showSpace (.storeExit (.set (hs.setQuota.foldl fun _ hs => hs.putTensor))))))

theorem State.Keeps.execCastonDone (hs : s₀.Keeps s) {ms : Nat} : s₀.Answers (execCastonDone ms s) :=
  .ite hs.ok hs.frame.set.set.set.tinkLog.ok

theorem State.Answers.stateOf {r : Result} (h : s₀.Answers r) : s₀.Keeps (stateOf r s) := by
  obtain ⟨t, rfl, ht⟩ := h
  exact ht

theorem State.Keeps.applyOne (hs : s₀.Keeps s) {off v : Nat} : s₀.Keeps (s.applyOne off v) := by
  unfold State.applyOne
  split
  · exact hs.execSeqRowCfgWrite.stateOf
  · exact hs.execSeqSchedCfgWrite.stateOf
  · exact hs.execMtfHotCfgWrite.stateOf
  · exact hs.execMxaCtrlWrite.stateOf
  · exact hs.execMovDirtyCfgWrite.stateOf
  · exact hs.execMovLendCfgWrite.stateOf
  · exact hs.execFtlCfgWrite.stateOf
  · exact hs.execRegisterWrite.stateOf
  · exact hs.execLnkStageCfgWrite.stateOf
  · exact hs.execPwrLimitWrite.stateOf
  · exact hs.execPwrRampWrite.stateOf
  · exact hs.execThmLimitsWrite.stateOf
  · exact hs.execMarkThreshWrite.stateOf

theorem State.Keeps.execRetainedApply (hs : s₀.Keeps s) : s₀.Answers (execRetainedApply s) :=
  .ite hs.ok (.ok (.logRetained (.set (.frame (hs.foldl fun _ hs => hs.applyOne)))))

theorem State.Keeps.execWriteNow (hs : s₀.Keeps s) : s₀.Answers (execWriteNow s) := hs.frame.ok

theorem State.Keeps.execRetainedWrite (hs : s₀.Keeps s) {failed : Bool} : s₀.Answers (execRetainedWrite failed s) :=
  .ite hs.ok hs.writeRetained.bindAdvance.ok

theorem State.Keeps.bindBegin (hs : s₀.Keeps s) {t : Ticket} {zeroNear : Bool} : s₀.Keeps (s.bindBegin t zeroNear) :=
  hs.set.tinkLog.stopMoves.frame

theorem State.Keeps.execBindOff (hs : s₀.Keeps s) {m : Mail} : s₀.Answers (execBindOff m s) := by
  unfold Machine.execBindOff
  refine .ok (.bindAdvance (hs.mail fun _ hs => ?_))
  split
  · exact hs.done
  · split
    · exact hs.fail
    · split
      · exact trivial
      · exact hs.bindBegin.later

theorem State.Keeps.execFlushReadySet (hs : s₀.Keeps s) : s₀.Answers (execFlushReadySet s) := hs.set.set.ok

theorem State.Keeps.execHoldupReadySet (hs : s₀.Keeps s) : s₀.Answers (execHoldupReadySet s) := .ite hs.ok hs.set.set.ok

theorem State.Keeps.holdupLost (hs : s₀.Keeps s) : s₀.Keeps s.holdupLost :=
  .ite hs (hs.set.set.err.wakeFrom.foldl fun _ hs => hs.writeBack)

theorem State.Keeps.execHoldupLost (hs : s₀.Keeps s) : s₀.Answers (execHoldupLost s) := hs.holdupLost.ok

theorem State.Keeps.execBankCheck (hs : s₀.Keeps s) {mj : Nat} : s₀.Answers (execBankCheck mj s) :=
  .ite hs.set.set.holdupLost.ok (.ite hs.set.ok hs.set.set.ok)

theorem State.Keeps.execPowerFail (hs : s₀.Keeps s) : s₀.Answers (execPowerFail s) := .ite hs.frame.ok hs.powerOff.ok

/-! ### Of Merge.lean -/

theorem State.Keeps.mergeOut (hs : s₀.Keeps s) {h : Issue} {dst : Nat} {ws : List Word} :
    s₀.Keeps (s.mergeOut h dst ws) :=
  hs.writeLines.counts

theorem State.Keeps.execMgAcc (hs : s₀.Keeps s) {h : Issue} {o : MgAccOp} : s₀.Answers (execMgAcc h o s) :=
  .ok (hs.issue fun _ hs => hs.mergeOut)

theorem State.Keeps.execMgScale (hs : s₀.Keeps s) {h : Issue} {o : MgScaleOp} : s₀.Answers (execMgScale h o s) :=
  .ok (hs.issue fun _ hs => hs.mergeOut)

theorem State.Keeps.execMgMotif (hs : s₀.Keeps s) {h : Issue} {o : MgMotifOp} : s₀.Answers (execMgMotif h o s) :=
  .ok (hs.issue fun _ hs => hs.mergeOut)

theorem State.Keeps.execMgSegt (hs : s₀.Keeps s) {h : Issue} {o : MgSegtOp} : s₀.Answers (execMgSegt h o s) :=
  .ok (hs.issue fun _ hs => hs.writeLines.frame)

/-! ### Of Link.lean -/

theorem State.Keeps.sendItem (hs : s₀.Keeps s) {cid link ctag seq cls : Nat} {l : List LineData} :
    s₀.Keeps (s.sendItem cid link ctag seq cls l) :=
  hs.setCmd.send

theorem State.Keeps.execLkSend (hs : s₀.Keeps s) {h : Issue} {o : LkSendOp} : s₀.Answers (execLkSend h o s) :=
  .ok (hs.issue fun _ hs => hs.sendItem)

theorem State.Keeps.consume (hs : s₀.Keeps s) {cid : Nat} {i : Staged} : s₀.Keeps (s.consume cid i) := hs.frame

theorem State.Keeps.longProgress (hs : s₀.Keeps s) {r : LongRecv} {state : Nat} {status : Status} :
    s₀.Keeps (s.longProgress r state status) := by
  unfold State.longProgress
  split
  · exact .ite (hs.near fun w => Memory.writeBytes_wf w _ _) hs
  · exact hs

theorem State.Keeps.longRecv (hs : s₀.Keeps s) {h : Issue} {o : LkRecvOp} {cid : Nat} :
    s₀.Keeps (s.longRecv h o cid) := by
  unfold State.longRecv
  extract_lets -underBinder
  split
  · exact hs.patternErr
  · exact hs.patternErr
  · exact hs.patternErr
  · exact hs.dpDeny
  · exact hs.dpDeny
  · refine .ite hs ?_
    extract_lets -underBinder _ _ s₁ s₂ s₃
    have h₁ : s₀.Keeps s₃ := hs.frame.setTensor.longProgress
    exact .ite h₁ h₁.send

theorem State.Keeps.execLkRecv (hs : s₀.Keeps s) {h : Issue} {o : LkRecvOp} : s₀.Answers (execLkRecv h o s) := by
  unfold Machine.execLkRecv
  refine .ite (.ok (hs.issue fun _ hs => hs.longRecv)) (.ite hs.ok ?_)
  split
  · exact hs.ok
  · exact .ok (hs.issue fun _ hs => .ite hs.patternErr (.ite hs.writeLines.consume.send.send hs.writeLines.consume))

theorem State.Keeps.execLkRed (hs : s₀.Keeps s) {h : Issue} {o : LkRedOp} : s₀.Answers (execLkRed h o s) := by
  unfold Machine.execLkRed
  refine .ite (.ok (hs.issue fun _ hs => hs.sendItem)) (.ite hs.ok ?_)
  split
  · exact hs.ok
  · exact .ok (hs.issue fun _ hs => .ite hs.patternErr
      (.via (.ite hs.consume hs.consume.writeLines) fun h₁ => .ite h₁ h₁.sendItem))

/-! ### Of Control.lean -/

theorem State.Keeps.execXBar (hs : s₀.Keeps s) {h : Issue} {o : XBarOp} : s₀.Answers (execXBar h o s) :=
  .ite hs.spoil.ok (.ite hs.spoil.ok hs.spoil.ok)

theorem State.Keeps.startCmd (hs : s₀.Keeps s) {h : Issue} {o : CmdStartOp} {cid : Nat} :
    s₀.Keeps (s.startCmd h o cid) :=
  .foldl (.showSlots (.inc (.setCmd (.ite hs.frame.clrBits.clrBits.clrBits hs.frame.clrBits.clrBits.clrBits))))
    fun _ hs => .ite hs.touchLog hs

theorem State.Keeps.execCmdStart (hs : s₀.Keeps s) {h : Issue} {o : CmdStartOp} : s₀.Answers (execCmdStart h o s) := by
  unfold Machine.execCmdStart
  split
  · exact hs.startCmd.ok
  · exact .ite hs.ok hs.frame.setCmd.startCmd.ok

theorem State.Keeps.execTraceMark (hs : s₀.Keeps s) {h : Issue} {o : TraceOp} : s₀.Answers (execTraceMark h o s) :=
  .ite hs.ok hs.frame.ok

theorem State.Keeps.execXProg (hs : s₀.Keeps s) {h : Issue} {o : XProgOp} : s₀.Answers (execXProg h o s) :=
  .ok (hs.issue fun _ hs => hs.setCmd)

theorem State.Keeps.execXEnd (hs : s₀.Keeps s) (h : Issue) {now : Nat} : s₀.Answers (execXEnd h now s) := by
  unfold Machine.execXEnd
  split
  · exact hs.ok
  · exact .ite hs.ok hs.commitStep.closeSeqs.settleMotifs.releaseDoomed.settlePreempts.ok

/-! ### Of Defer.lean -/

theorem State.Keeps.zeroise (hs : s₀.Keeps s) : s₀.Keeps s.zeroise :=
  .via (.foldl (.set
    (.frame (.foldl (.foldl (hs.foldl fun _ hs => hs.destroyKey) fun _ hs => hs.destroyBase) fun _ hs => hs.dropHeld)))
    fun _ hs => hs.setF) fun h₁ => .ite h₁ h₁.askHaltRow

theorem State.Keeps.execZeroise (hs : s₀.Keeps s) {m : Mail} : s₀.Answers (execZeroise m s) :=
  .ok (.zeroAdvance (hs.mail fun _ hs => hs.zeroise.later))

theorem State.Keeps.execLifecycleRma (hs : s₀.Keeps s) {m : Mail} {good : Bool} :
    s₀.Answers (execLifecycleRma m good s) :=
  .ok (.zeroAdvance (hs.mail fun _ hs => hs.zeroise.later))

theorem State.Keeps.execPowerClockRequest (hs : s₀.Keeps s) {o : PowerReqOp} : s₀.Answers (execPowerClockRequest o s) :=
  .ite hs.ok (.ite hs.say.ok hs.deferAsk.say.ok)

theorem State.Keeps.grant (hs : s₀.Keeps s) {d : Defer} : s₀.Keeps (s.grant d) := .ite hs.undefer hs.undefer.say

theorem State.Keeps.execDeferredRequestProceed (hs : s₀.Keeps s) {block : Nat} :
    s₀.Answers (execDeferredRequestProceed block s) := by
  unfold Machine.execDeferredRequestProceed
  split
  · exact hs.ok
  · exact .ok (.ite hs hs.grant)

theorem State.Keeps.execDeferDeadline (hs : s₀.Keeps s) {block : Nat} : s₀.Answers (execDeferDeadline block s) := by
  unfold Machine.execDeferDeadline
  split
  · exact hs.ok
  · exact .via (.ite (hs.forceZero.secErr.tinkLog.foldl fun _ hs => hs.resetFn) hs.forceZero.secErr.tinkLog) fun h₁ =>
      .ok (.grant (.ite h₁.zeroise.zeroAdvance h₁))

theorem State.Keeps.execDeferCancel (hs : s₀.Keeps s) {m : Mail} : s₀.Answers (execDeferCancel m s) := by
  unfold Machine.execDeferCancel
  refine .ok (hs.mail fun _ hs => ?_)
  dsimp only
  split
  · exact trivial
  · exact .ite hs.undefer.frame.set.storeExit.done hs.undefer.done

/-! ### Of Fabric.lean -/

theorem State.Keeps.execFabricJoin (hs : s₀.Keeps s) {m : Mail} : s₀.Answers (execFabricJoin m s) := by
  unfold Machine.execFabricJoin
  refine .ok (hs.mail fun _ hs => ?_)
  dsimp only
  split
  · trivial
  · exact hs.set.set.set.frame.done

theorem State.Keeps.execFabricLeave (hs : s₀.Keeps s) {m : Mail} : s₀.Answers (execFabricLeave m s) := by
  unfold Machine.execFabricLeave
  refine .ok (hs.mail fun _ hs => ?_)
  dsimp only
  split
  · exact trivial
  · exact hs.set.frame.done

theorem State.Keeps.execLinkAttach (hs : s₀.Keeps s) {m : Mail} : s₀.Answers (execLinkAttach m s) :=
  .ok (hs.mail fun _ hs => .ite trivial hs.setLink.quiet.setF.setF.done)

theorem State.Keeps.execLinkDetach (hs : s₀.Keeps s) {m : Mail} : s₀.Answers (execLinkDetach m s) :=
  .ok (hs.mail fun _ hs => .ite trivial hs.detach.done)

theorem State.Keeps.execLinkQuery (hs : s₀.Keeps s) {m : Mail} : s₀.Answers (execLinkQuery m s) :=
  .ok (hs.mail fun _ hs => hs.done)

theorem State.Keeps.execLinkRekey (hs : s₀.Keeps s) {m : Mail} : s₀.Answers (execLinkRekey m s) :=
  .ok (hs.mail fun _ hs => .ite hs.rekey.done trivial)

theorem State.Keeps.execFabricResync (hs : s₀.Keeps s) {m : Mail} : s₀.Answers (execFabricResync m s) :=
  .ok (hs.mail fun _ h₁ => .ite trivial (.done (h₁.foldl fun _ hs => hs.setLink.frame)))

theorem State.Keeps.execFabricSeqMap (hs : s₀.Keeps s) {m : Mail} : s₀.Answers (execFabricSeqMap m s) := by
  unfold Machine.execFabricSeqMap
  refine .ok (hs.mail fun _ hs => .ite trivial (.ite hs.frame.done ?_))
  dsimp only
  split
  · exact hs.fail
  · exact hs.frame.done

/-! ### Of Lifelines.lean -/

theorem State.Keeps.deepCopy (hs : s₀.Keeps s) {fn key format size : Nat} : s₀.Keeps (s.deepCopy fn key format size).2 :=
  hs.takeDeep.setQuota.enter

theorem State.Keeps.capture {target : Nat} {a : List LifeEntry × State} {t : Tensor} (hs : s₀.Keeps a.2) :
    s₀.Keeps (State.capture target a t).2 := by
  unfold State.capture
  extract_lets -underBinder
  split
  · exact hs
  · dsimp only
    exact hs.deepCopy.putCells

theorem State.Keeps.startLifeline (hs : s₀.Keeps s) {fn label target mask : Nat} {l : List Tensor} {t : Option Ticket} :
    s₀.Keeps (s.startLifeline fn label target mask l t) :=
  .frame (.deepCopy (.foldlBy Prod.snd hs fun _ ha => ha.capture))

theorem State.Keeps.execLifelineWrite (hs : s₀.Keeps s) {m : Mail} : s₀.Answers (execLifelineWrite m s) := by
  unfold Machine.execLifelineWrite
  refine .ok (hs.mail fun _ hs => ?_)
  dsimp only
  split
  · exact hs.fail
  · split
    · exact trivial
    · split
      · exact trivial
      · split
        · exact trivial
        · exact hs.fail
        · exact .ite hs.fail (.ite hs.fail (.ite hs.fail hs.startLifeline.showSpace.later))

theorem State.Keeps.nearCopy (hs : s₀.Keeps s) {t : Tensor} {e : LifeEntry} : s₀.Keeps (s.nearCopy t e).2 := by
  unfold State.nearCopy
  split
  · extract_lets _ _ s₁
    have h₁ : s₀.Keeps s₁ := hs.assignFrames.setQuota
    dsimp only
    exact h₁.putCells
  · exact hs

theorem State.Keeps.mirrorCapture {target : Nat} {a : List LifeEntry × State} {p : Handle × Handle}
    (hs : s₀.Keeps a.2) : s₀.Keeps (State.mirrorCapture target a p).2 := by
  unfold State.mirrorCapture
  dsimp only
  split
  · exact hs
  · split
    · exact hs.nearCopy
    · split
      · exact hs.putCells
      · exact hs

theorem State.Keeps.mirrorLifeline (hs : s₀.Keeps s) {fn label : Nat} {o : MirroredLife} :
    s₀.Keeps (s.mirrorLifeline fn label o) :=
  .frame (.foldlBy Prod.snd hs fun _ ha => ha.mirrorCapture)

theorem State.Keeps.countCapture (hs : s₀.Keeps s) {l : Lifeline} : s₀.Keeps (s.countCapture l) := hs.wroteFlash

theorem State.Keeps.endCapture (hs : s₀.Keeps s) {l : Lifeline} {peer : Option (BitVec 256)} :
    s₀.Keeps (s.endCapture l peer) :=
  .via (.countCapture (.writeManifest (.setLifeline (hs.foldl fun _ hs => hs.mapTensor)))) fun h₁ => .ite
    h₁.markLifeline (.ite h₁.markLifeline h₁)

theorem State.Keeps.execLifelineCaptureDone (hs : s₀.Keeps s) {o : CaptureOp} :
    s₀.Answers (execLifelineCaptureDone o s) := by
  unfold Machine.execLifelineCaptureDone
  extract_lets -underBinder s₁
  have h₁ : s₀.Keeps s₁ := by
    dsimp only [s₁]
    split
    · exact .ite hs.mirrorLifeline hs
    · exact hs
  split
  · exact h₁.ok
  · exact .ok (h₁.endCapture.elim fun _ => h₁.endCapture.reply)

theorem State.Keeps.restoreEntry (hs : s₀.Keeps s) {e : LifeEntry} : s₀.Keeps (s.restoreEntry e) := by
  unfold State.restoreEntry
  split
  · exact hs.putCells.setTensor.setQuota.noteMoved
  · exact hs

theorem State.Keeps.restoreBinding (hs : s₀.Keeps s) {b : Handle × Nat} : s₀.Keeps (s.restoreBinding b) := by
  unfold State.restoreBinding
  dsimp only
  split
  · split
    · exact .ite hs.drainMotif.settleMotifs hs.drainMotif.settleMotifs.bindMotif
    · exact hs.drainMotif.settleMotifs
  · exact hs.drainMotif.settleMotifs

theorem State.Keeps.restoreStreams (hs : s₀.Keeps s) {l : Lifeline} : s₀.Keeps (s.restoreStreams l) := by
  unfold State.restoreStreams
  split
  · exact hs
  · exact hs.frame

theorem State.Keeps.execLifelineRestore (hs : s₀.Keeps s) {m : Mail} : s₀.Answers (execLifelineRestore m s) := by
  unfold Machine.execLifelineRestore
  refine .ok (hs.mail fun _ h₁ => ?_)
  dsimp only
  split
  · exact h₁.fail
  · split
    · exact trivial
    · split
      · exact h₁.fail
      · split
        · exact trivial
        · exact .ite h₁.fail
            (.done (.showSpace
            (.frame (.mirrorCtx (.foldl (.restoreStreams (h₁.foldl fun _ hs => hs.restoreEntry)) fun _ hs =>
            hs.restoreBinding)))))

theorem State.Keeps.execLifelineList (hs : s₀.Keeps s) {m : Mail} : s₀.Answers (execLifelineList m s) :=
  .ok (hs.mail fun _ hs => hs.done)

theorem State.Keeps.execLifelineDrop (hs : s₀.Keeps s) {m : Mail} : s₀.Answers (execLifelineDrop m s) := by
  unfold Machine.execLifelineDrop
  refine .ok (hs.mail fun _ hs => ?_)
  split
  · exact hs.fail
  · exact .ite trivial hs.dropLifeline.done

/-! ### Of Links.lean -/

theorem State.Keeps.onFrame (hs : s₀.Keeps s) {l n : Nat} {onDegraded : Bool} {k : State → State}
    (hk : ∀ {u}, s₀.Keeps u → s₀.Keeps (k u)) : s₀.Answers (s.onFrame l n onDegraded k) := by
  unfold State.onFrame
  split
  · exact hs.ok
  · rename_i e
    exact .ok (hk (hs.arriveFrame.of_some e))

theorem State.Keeps.execItemFrame (hs : s₀.Keeps s) {o : ItemOp} : s₀.Answers (execItemFrame o s) := by
  unfold Machine.execItemFrame
  refine hs.onFrame fun hs => .ite hs.protocolErr ?_
  split
  · exact .ite hs.protocolErr hs.frame.showStaging
  · exact .ite hs.protocolErr hs.frame.showStaging

theorem State.Keeps.execCommitFrame (hs : s₀.Keeps s) {o : TagOp} : s₀.Answers (execCommitFrame o s) :=
  hs.onFrame fun hs => hs.frame

theorem State.Keeps.execDiscard (hs : s₀.Keeps s) {o : TagOp} : s₀.Answers (execDiscard o s) :=
  hs.onFrame fun hs => hs.dropStaged

theorem State.Keeps.execRowDone (hs : s₀.Keeps s) {o : TokenOp} : s₀.Answers (execRowDone o s) :=
  hs.onFrame fun h₁ => h₁.tokenIn fun hs => hs

theorem State.Keeps.execRowFault (hs : s₀.Keeps s) {o : TokenOp} : s₀.Answers (execRowFault o s) :=
  hs.onFrame fun h₁ => h₁.tokenIn fun hs => hs.faultResponse

theorem State.Keeps.execRosterFrame (hs : s₀.Keeps s) {o : RosterFrameOp} : s₀.Answers (execRosterFrame o s) :=
  hs.onFrame fun hs => .ite hs
    (.markReady (.near (hs.elim fun _ => hs.send) fun w => Memory.writeBytes_wf w _ _))

theorem State.Keeps.setRelay (hs : s₀.Keeps s) {r new : Relay} : s₀.Keeps (s.setRelay r new) := hs.frame

theorem State.Keeps.relayEnd (hs : s₀.Keeps s) {r : Relay} {st : Status} : s₀.Keeps (s.relayEnd r st) := hs.tinkLog

theorem State.Keeps.failRelay (hs : s₀.Keeps s) {r : Relay} {st : Status} : s₀.Keeps (s.failRelay r st) :=
  .failModel (hs.relayEnd.elim fun _ => hs.relayEnd.send)

theorem State.Keeps.endRelay (hs : s₀.Keeps s) {r : Relay} : s₀.Keeps (s.endRelay r) := by
  unfold State.endRelay
  split
  · exact hs
  · split
    · exact hs
    · refine .via ?_ fun h₁ => .ite h₁.failRelay h₁.relayEnd.finishModel
      split
      · exact .ite hs.send hs
      · exact hs

theorem State.Keeps.execBulkOpen (hs : s₀.Keeps s) {o : BulkOpenOp} : s₀.Answers (execBulkOpen o s) := by
  unfold Machine.execBulkOpen
  refine hs.onFrame fun hs => ?_
  split
  · exact hs.send
  · exact .ite hs.send (hs.setRelay.send.elim fun _ => hs.setRelay.send.send)

theorem State.Keeps.execBulkAccept (hs : s₀.Keeps s) {o : BulkCtlOp} : s₀.Answers (execBulkAccept o s) := by
  unfold Machine.execBulkAccept
  refine hs.onFrame fun hs => ?_
  split
  · exact hs
  · exact .ite hs.setRelay.sendStream (.ite hs.setRelay.sendGranules hs.setRelay)

theorem State.Keeps.execBulkRefuse (hs : s₀.Keeps s) {o : BulkCtlOp} : s₀.Answers (execBulkRefuse o s) := by
  unfold Machine.execBulkRefuse
  refine hs.onFrame fun hs => ?_
  split
  · exact hs
  · exact hs.setRelay

theorem State.Keeps.landLong (hs : s₀.Keeps s) {r : LongRecv} {o : BulkOp} : s₀.Keeps (s.landLong r o) := by
  unfold State.landLong
  split
  · exact hs
  · exact .ite hs (.via (hs.writeNear.elim fun _ => hs.writeNear.send) fun h₁ => .ite h₁
      (.ite h₁.send.frame.longProgress h₁.send.setTensor.longProgress.frame))

theorem State.Keeps.execBulkFrame (hs : s₀.Keeps s) {o : BulkOp} : s₀.Answers (execBulkFrame o s) := by
  unfold Machine.execBulkFrame
  refine hs.onFrame fun hs => ?_
  split
  · exact hs.elim fun _ => hs.landLong
  · extract_lets -underBinder _ _ _ _ _ s₁ s₂
    have h₁ : s₀.Keeps s₁ := hs.foldl fun _ ht => ht.elim fun _ => ht.writeNear
    have h₂ : s₀.Keeps s₂ := by
      dsimp only [s₂]
      split
      · exact .ite h₁.send h₁
      · exact h₁
    exact .ite hs (.ite h₂ h₂.setRelay.send.endRelay)

theorem State.Keeps.execBulkAck (hs : s₀.Keeps s) {o : BulkCtlOp} : s₀.Answers (execBulkAck o s) :=
  hs.onFrame fun hs => hs

theorem State.Keeps.execBulkResume (hs : s₀.Keeps s) {o : BulkCtlOp} : s₀.Answers (execBulkResume o s) := by
  unfold Machine.execBulkResume
  refine hs.onFrame fun hs => ?_
  split
  · exact hs
  · exact .ite hs.sendStream (.ite hs.sendGranules hs)

theorem State.Keeps.execBulkClose (hs : s₀.Keeps s) {o : BulkCtlOp} : s₀.Answers (execBulkClose o s) := by
  unfold Machine.execBulkClose
  refine hs.onFrame fun hs => ?_
  split
  · exact hs
  · exact .ite hs hs.setRelay.endRelay

theorem State.Keeps.execRelayTimeout (hs : s₀.Keeps s) {slot : Nat} : s₀.Answers (execRelayTimeout slot s) := by
  unfold Machine.execRelayTimeout
  split
  · exact .ok (.ite hs.failRelay hs)
  · exact hs.ok

theorem State.Keeps.execBreadReq (hs : s₀.Keeps s) {o : BreadReqOp} : s₀.Answers (execBreadReq o s) := by
  unfold Machine.execBreadReq
  refine hs.onFrame fun hs => ?_
  split
  · exact .ite hs.send hs.inc.send
  · exact hs.inc.send

theorem State.Keeps.dirArrives (hs : s₀.Keeps s) {o : HankDirOp} : s₀.Answers (s.dirArrives o) := by
  unfold State.dirArrives
  refine hs.onFrame fun hs => ?_
  split
  · refine .ite hs (hs.near fun w => ?_)
    dsimp only
    split
    · exact Memory.zero_wf w _ _
    · exact w
  · exact hs

theorem State.Keeps.takeExtent (hs : s₀.Keeps s) {link hank : Nat} {t : Tensor} :
    Found.Each (fun r : Nat × State => s₀.Keeps r.2) (s.takeExtent link hank t) := by
  unfold State.takeExtent
  dsimp only
  cases Store.get? s.tier.borrowed (512 * link + hank) with
  | none => exact trivial
  | some x =>
    simp only [Option.bind_some]
    split
    · exact hs.frame.send
    · exact trivial

theorem State.Keeps.placeBorrowed (hs : s₀.Keeps s) {h : Handle} {link hank : Nat} :
    s₀.Keeps (s.placeBorrowed h link hank) := by
  unfold State.placeBorrowed
  split
  · refine .ite hs ?_
    extract_lets -underBinder r
    have hr : Found.Each (fun r : List MoveSeg × List Nat × State => s₀.Keeps r.2.2) r := by
      refine List.foldlRecOn (motive := Found.Each fun r : List MoveSeg × List Nat × State => s₀.Keeps r.2.2) _ _ hs
        fun a ha u _ => ?_
      cases a with
      | none => exact trivial
      | some b =>
        have h₁ : s₀.Keeps b.2.2 := ha
        rw [Option.bind_some]
        cases e : b.2.2.takeExtent link hank u with
        | none => exact trivial
        | some x => exact h₁.takeExtent.of_some e
    clear_value r
    split
    · exact hs
    · exact State.Keeps.beginMove (State.Keeps.setQuota hr)
  · exact hs

theorem State.Keeps.execHankDir (hs : s₀.Keeps s) {o : DirOp} : s₀.Answers (execHankDir o s) := by
  unfold Machine.execHankDir
  split
  · exact hs.dirArrives
  · exact hs.placeBorrowed.ok

theorem State.Keeps.execKeyReady (hs : s₀.Keeps s) {l : Nat} : s₀.Answers (execKeyReady l s) :=
  hs.onFrame fun hs => .ite hs.flipKeys hs.setLink

theorem State.Keeps.execChannelError (hs : s₀.Keeps s) {o : ChannelErrOp} : s₀.Answers (execChannelError o s) :=
  .ite hs.ok hs.setLink.setF.setF.setF.ok

theorem State.Keeps.execAuthFail (hs : s₀.Keeps s) {o : AuthFailOp} : s₀.Answers (execAuthFail o s) :=
  .ite hs.ok (.ite hs.setF.ok hs.setF.linkErr.tinkLog.goDown.ok)

theorem State.Keeps.execLinkRetrain (hs : s₀.Keeps s) {l : Nat} : s₀.Answers (execLinkRetrain l s) :=
  .ite hs.ok hs.setF.showUp.setF.setLink.loseLink.ok

theorem State.Keeps.resumeStreams (hs : s₀.Keeps s) {l : Nat} : s₀.Keeps (s.resumeStreams l) :=
  .foldl (hs.foldl fun _ hs => hs.send) fun _ hs => hs.send

theorem State.Keeps.checkWidth (hs : s₀.Keeps s) {l : Nat} : s₀.Keeps (s.checkWidth l) :=
  .resumeStreams (.ite hs.showUp hs.showUp.linkErr.loseLink)

theorem State.Keeps.execLinkRetrainDone (hs : s₀.Keeps s) {o : TrainOp} : s₀.Answers (execLinkRetrainDone o s) :=
  .ite hs.ok (.ite hs.setF.setLink.showWidth.checkWidth.ok (.ok (.ite hs.goDown hs.setLink)))

theorem State.Keeps.execLinkTrained (hs : s₀.Keeps s) {o : TrainOp} : s₀.Answers (execLinkTrained o s) :=
  .ite hs.ok (.ite hs.setF.showWidth.ok (.ok (.ite hs.draw.goDown hs.setLink)))

theorem State.Keeps.execLinkSecured (hs : s₀.Keeps s) {o : PairOp} : s₀.Answers (execLinkSecured o s) :=
  .ite hs.ok (.ite hs.linkErr.tinkLog.goDown.ok hs.setLink.setF.setF.setF.setF.tinkLog.checkWidth.ok)

theorem State.Keeps.execLossOfSignal (hs : s₀.Keeps s) {l : Nat} : s₀.Answers (execLossOfSignal l s) :=
  .ite hs.goDown.ok hs.ok

theorem State.Keeps.execLinkRetry (hs : s₀.Keeps s) {l : Nat} : s₀.Answers (execLinkRetry l s) :=
  .ite hs.ok hs.setF.setLink.ok

theorem State.Keeps.execRekeyDue (hs : s₀.Keeps s) {o : RekeyOp} : s₀.Answers (execRekeyDue o s) :=
  .ite hs.ok (.ite hs.linkErr.goDown.ok hs.rekey.ok)

theorem State.Keeps.execOldKeyExpiry (hs : s₀.Keeps s) {l : Nat} : s₀.Answers (execOldKeyExpiry l s) := hs.setLink.ok

theorem State.Keeps.execBeaconPulse (hs : s₀.Keeps s) {periodNs : Nat} : s₀.Answers (execBeaconPulse periodNs s) :=
  .ite hs.inc2.frame.ok (.ok (.ite hs.inc2.frame.set hs.inc2.frame))

theorem State.Keeps.execBeaconLost (hs : s₀.Keeps s) : s₀.Answers (execBeaconLost s) :=
  .ite hs.ok hs.frame.set.err.tinkLog.ok

/-! ### Of ModuleCmds.lean -/

theorem State.Keeps.execRailFault (hs : s₀.Keeps s) {rail : Nat} : s₀.Answers (execRailFault rail s) :=
  .ite hs.ok hs.set.moduleFault.powerOff.frame.ok

theorem State.Keeps.execRefclkFault (hs : s₀.Keeps s) : s₀.Answers (execRefclkFault s) :=
  .ite hs.ok hs.moduleFault.draw.frame.linkLoss.ok

theorem State.Keeps.execRefclkRecovered (hs : s₀.Keeps s) : s₀.Answers (execRefclkRecovered s) := hs.frame.ok

theorem State.Keeps.execFailedHbmStack (hs : s₀.Keeps s) {stack : Nat} : s₀.Answers (execFailedHbmStack stack s) :=
  .ite hs.ok hs.moduleFault.ok

theorem State.Keeps.execCouplingOpen (hs : s₀.Keeps s) : s₀.Answers (execCouplingOpen s) :=
  .ite hs.ok hs.set.set.frame.levelChanged.ok

theorem State.Keeps.execCouplingClosed (hs : s₀.Keeps s) : s₀.Answers (execCouplingClosed s) :=
  hs.set.frame.levelChanged.ok

theorem State.Keeps.vin (hs : s₀.Keeps s) {v : Nat} : s₀.Keeps (s.vin v) := hs.frame.set

theorem State.Keeps.execUnderV (hs : s₀.Keeps s) {below : Bool} {vin : Nat} : s₀.Answers (execUnderV below vin s) :=
  .ite hs.vin.set.set.ok hs.vin.set.ok

theorem State.Keeps.execOverV (hs : s₀.Keeps s) {vin : Nat} : s₀.Answers (execOverV vin s) :=
  .ok (.ite hs.vin.set hs.vin)

theorem State.Keeps.execInletHigh (hs : s₀.Keeps s) {temp : Nat} : s₀.Answers (execInletHigh temp s) :=
  .ok (.ite hs.readTemps.frame.set hs.readTemps.frame)

/-! ### Of Patterns.lean -/

theorem State.Keeps.addBuild (hs : s₀.Keeps s) {j : BuildJob} : s₀.Keeps (s.addBuild j) := hs.frame.set

theorem State.Keeps.execGraphSubmit (hs : s₀.Keeps s) {m : Mail} : s₀.Answers (execGraphSubmit m s) := by
  unfold Machine.execGraphSubmit
  refine .ok (hs.mail fun _ h₁ => ?_)
  split
  · exact h₁.fail
  · dsimp only
    split
    · exact h₁.fail
    · exact .later (.addBuild (h₁.foldl fun _ hs => hs.claimCode))

theorem State.Keeps.execTemplateLoad (hs : s₀.Keeps s) {m : Mail} : s₀.Answers (execTemplateLoad m s) := by
  unfold Machine.execTemplateLoad
  refine .ok (hs.mail fun _ hs => ?_)
  split
  · exact hs.fail
  · split
    · exact trivial
    · split
      · exact trivial
      · exact .ite hs.fail hs.addBuild.later

theorem State.Keeps.execTemplateBuild (hs : s₀.Keeps s) {m : Mail} : s₀.Answers (execTemplateBuild m s) := by
  unfold Machine.execTemplateBuild
  refine .ok (hs.mail fun _ hs => ?_)
  split
  · exact hs.fail
  · split
    · exact hs.fail
    · split
      · exact hs.fail
      · split
        · exact trivial
        · exact .ite hs.fail hs.addBuild.later

theorem State.Keeps.execTemplateRetire (hs : s₀.Keeps s) {m : Mail} : s₀.Answers (execTemplateRetire m s) :=
  .ok (hs.mail fun _ hs => .ite hs.fail (.ite trivial hs.setTemplates.done))

theorem State.Keeps.execPatternQuery (hs : s₀.Keeps s) {m : Mail} : s₀.Answers (execPatternQuery m s) :=
  .ok (hs.mail fun _ hs => hs.done)

theorem State.Keeps.execTrainWindow (hs : s₀.Keeps s) {m : Mail} : s₀.Answers (execTrainWindow m s) :=
  .ok (hs.mail fun _ hs => .ite trivial hs.frame.done)

theorem State.Keeps.buildErr (hs : s₀.Keeps s) {code : Nat} : s₀.Keeps (s.buildErr code) := hs.set

theorem State.Keeps.endTemplate (hs : s₀.Keeps s) {t : Ticket} {tpl : Template} {body : List Byte} {verify : Bool}
    {payload : Nat → Nat → Nat → Nat → List Byte} : s₀.Keeps (s.endTemplate t tpl body verify payload) := by
  unfold State.endTemplate
  split
  · exact hs.reply
  · exact .ite hs.buildErr.reply hs.buildErr.reply
  · refine .ite hs.reply ?_
    split
    · rename_i e
      have h₁ : s₀.Keeps _ := hs.storeTemplate.of_some e
      exact h₁.gaugeFor.reply
    · exact hs.buildErr.reply

theorem State.Keeps.recheckAll (hs : s₀.Keeps s) : s₀.Keeps s.recheckAll := by
  unfold State.recheckAll
  dsimp only
  split
  · exact hs.setTemplates.buildErr
  · exact hs.setTemplates

theorem State.Keeps.endBuild (hs : s₀.Keeps s) {o : BuildDoneOp} {j : BuildJob} : s₀.Keeps (s.endBuild o j) := by
  unfold State.endBuild
  split
  · exact hs.recheckAll
  · exact .ite hs.buildErr.reply (.ite hs.reply hs.frame.reply)
  · exact .ite hs.buildErr.reply hs.endTemplate
  · exact hs.endTemplate

theorem State.Keeps.execBuildDone (hs : s₀.Keeps s) {o : BuildDoneOp} : s₀.Answers (execBuildDone o s) := by
  unfold Machine.execBuildDone
  split
  · exact hs.ok
  · exact .ite hs.ok hs.frame.set.endBuild.ok

/-! ### Of Sched.lean -/

theorem State.Keeps.execSchedSet (hs : s₀.Keeps s) {m : Mail} : s₀.Answers (execSchedSet m s) :=
  .ok (hs.mail fun _ hs => .ite hs.fail hs.frame.done)

theorem State.Keeps.execSchedQuery (hs : s₀.Keeps s) {m : Mail} : s₀.Answers (execSchedQuery m s) :=
  .ok (hs.mail fun _ hs => hs.done)

theorem State.Keeps.execModelSchedSet (hs : s₀.Keeps s) {m : Mail} : s₀.Answers (execModelSchedSet m s) :=
  .ok (hs.mail fun _ hs => hs.frame.done)

theorem State.Keeps.returnFetched (hs : s₀.Keeps s) {fn : Nat} : s₀.Keeps (s.returnFetched fn) :=
  .frame (hs.foldl fun _ hs => .ite hs.post hs.postCommand)

theorem State.Keeps.execFuncPreempt (hs : s₀.Keeps s) {m : Mail} : s₀.Answers (execFuncPreempt m s) :=
  .ok (hs.mail fun _ hs => .ite trivial hs.returnFetched.frame.later)

theorem State.Keeps.resumeSeq (hs : s₀.Keeps s) {id : Nat} : s₀.Keeps (s.resumeSeq id) := by
  unfold State.resumeSeq
  split
  · exact hs
  · refine .ite hs.pin.frame ?_
    split
    · exact hs.frame.openSeq
    · exact hs.frame.endSeq

theorem State.Keeps.execFuncResume (hs : s₀.Keeps s) {m : Mail} : s₀.Answers (execFuncResume m s) := by
  unfold Machine.execFuncResume
  refine .ok (hs.mail fun _ h₁ => ?_)
  dsimp only
  split
  · exact trivial
  · exact .done (.resumeMoves (h₁.setF.frame.foldl fun _ hs => hs.resumeSeq))

theorem State.Keeps.execSeqQuery (hs : s₀.Keeps s) {m : Mail} : s₀.Answers (execSeqQuery m s) := by
  unfold Machine.execSeqQuery
  refine .ok (hs.mail fun _ hs => ?_)
  split
  · exact hs.done
  · exact hs.fail

/-! ### Of Tink.lean -/

theorem State.Keeps.execTinkRead (hs : s₀.Keeps s) {m : Mail} : s₀.Answers (execTinkRead m s) :=
  .ok (hs.mail fun _ hs => hs.done)

theorem State.Keeps.execTinkFreeze (hs : s₀.Keeps s) {m : Mail} : s₀.Answers (execTinkFreeze m s) :=
  .ok (hs.mail fun _ hs => .ite hs.freeze.done hs.freeze.fail)

theorem State.Keeps.showFrozen (hs : s₀.Keeps s) : s₀.Keeps s.showFrozen := hs.set

theorem State.Keeps.execTinkRelease (hs : s₀.Keeps s) {m : Mail} : s₀.Answers (execTinkRelease m s) :=
  .ok (hs.mail fun _ hs => .ite trivial hs.frame.set.done)

theorem State.Keeps.execTnkFreeze (hs : s₀.Keeps s) : s₀.Answers (execTnkFreeze s) := hs.freeze.ok

theorem State.Keeps.execTinkFlushDone (hs : s₀.Keeps s) : s₀.Answers (execTinkFlushDone s) :=
  .ite hs.ok (.via (.ite hs.frame.set.inc.set hs) fun h₁ => .ok
    (.bindAdvance (.msix (.ite h₁.frame.set.showFrozen h₁))))

theorem State.Keeps.showWords (hs : s₀.Keeps s) {f : Fld} {n : Nat} {l : List Byte} : s₀.Keeps (s.showWords f n l) :=
  hs.foldl fun _ hs => hs.set

theorem State.Keeps.execTnkEntryRead (hs : s₀.Keeps s) : s₀.Answers (execTnkEntryRead s) := by
  unfold Machine.execTnkEntryRead
  dsimp only
  split
  · exact hs.showWords.set.ok
  · exact hs.showWords.set.ok

theorem State.Keeps.execFwFaultRead (hs : s₀.Keeps s) : s₀.Answers (execFwFaultRead s) := by
  unfold Machine.execFwFaultRead
  split
  · exact hs.showWords.set.ok
  · exact hs.showWords.set.ok

/-! ### Of Twins.lean -/

theorem State.Keeps.execTwinDeclare (hs : s₀.Keeps s) {m : Mail} {o : PeerOp} : s₀.Answers (execTwinDeclare m o s) := by
  unfold Machine.execTwinDeclare
  refine .ok (hs.mail fun _ hs => ?_)
  dsimp only
  split
  · trivial
  · exact .ite trivial (.ite hs.fail (.ite hs.fail hs.set.set.startTwin.done))

theorem State.Keeps.execTwinDissolve (hs : s₀.Keeps s) {m : Mail} : s₀.Answers (execTwinDissolve m s) :=
  .ok (hs.mail fun _ hs => .ite trivial hs.dissolve.done)

theorem State.Keeps.execTwinQuery (hs : s₀.Keeps s) {m : Mail} : s₀.Answers (execTwinQuery m s) :=
  .ok (hs.mail fun _ hs => hs.done)

theorem State.Keeps.execTwinTakeover (hs : s₀.Keeps s) {m : Mail} : s₀.Answers (execTwinTakeover m s) :=
  .ok (hs.mail fun _ hs => .ite trivial hs.takeOver.done)

theorem State.Keeps.execTwinResync (hs : s₀.Keeps s) {m : Mail} {o : PeerOp} : s₀.Answers (execTwinResync m o s) :=
  .ok (hs.mail fun _ hs => .ite trivial hs.startTwin.frame.later)

theorem State.Keeps.execTwinWrite (hs : s₀.Keeps s) {o : TwinWriteOp} : s₀.Answers (execTwinWrite o s) := by
  unfold Machine.execTwinWrite
  refine hs.onTwin fun hs => ?_
  split
  · exact hs
  · exact .ite hs hs.putTensor.writeNear.frame

theorem State.Keeps.execTwinCommit (hs : s₀.Keeps s) {o : TwinRecOp} : s₀.Answers (execTwinCommit o s) := by
  unfold Machine.execTwinCommit
  refine hs.onTwin fun hs => ?_
  split
  · exact hs.takeRec
  · exact hs

theorem State.Keeps.execTwinDiscard (hs : s₀.Keeps s) {o : TwinTagOp} : s₀.Answers (execTwinDiscard o s) :=
  hs.onTwin fun hs => hs.frame

theorem State.Keeps.execTwinCtx (hs : s₀.Keeps s) {o : TwinRecOp} : s₀.Answers (execTwinCtx o s) := by
  unfold Machine.execTwinCtx
  refine hs.onTwin fun hs => ?_
  split
  · exact hs.takeRec
  · exact hs

theorem State.Keeps.execTwinTable (hs : s₀.Keeps s) {o : TwinRecOp} : s₀.Answers (execTwinTable o s) := by
  unfold Machine.execTwinTable
  refine hs.onTwin fun hs => ?_
  split
  · exact hs.takeRec
  · exact hs

theorem State.Keeps.execTwinRoster (hs : s₀.Keeps s) {o : TwinRecOp} : s₀.Answers (execTwinRoster o s) := by
  unfold Machine.execTwinRoster
  refine hs.onTwin fun hs => ?_
  split
  · exact hs.takeRec
  · exact hs.takeRec
  · exact hs

theorem State.Keeps.releaseUpTo (hs : s₀.Keeps s) {m : Nat} : s₀.Keeps (s.releaseUpTo m) :=
  hs.frame.foldl fun _ hs => hs.post

theorem State.Keeps.execTwinAck (hs : s₀.Keeps s) {o : TwinAckOp} : s₀.Answers (execTwinAck o s) :=
  hs.onTwin fun hs => .ite hs (.releaseUpTo (.ite hs.set.peak.sample.tinkLog hs.set.peak.sample))

theorem State.Keeps.execTwinAckSend (hs : s₀.Keeps s) : s₀.Answers (execTwinAckSend s) := .ite hs.ok hs.sendTwin.set.ok

theorem State.Keeps.execTwinHeartbeat (hs : s₀.Keeps s) {l : Nat} : s₀.Answers (execTwinHeartbeat l s) :=
  hs.onTwin fun hs => hs

theorem State.Keeps.execTwinHeartbeatSend (hs : s₀.Keeps s) {live : Nat} : s₀.Answers (execTwinHeartbeatSend live s) :=
  .ite hs.ok hs.sendAll.set.ok

theorem State.Keeps.execDigestPoint (hs : s₀.Keeps s) : s₀.Answers (execDigestPoint s) :=
  .ite hs.ok (.ite (.ite hs.ok hs.frame.inc.ok) hs.frame.sendTwin.takePoint.ok)

theorem State.Keeps.execDigestComputed (hs : s₀.Keeps s) : s₀.Answers (execDigestComputed s) := by
  unfold Machine.execDigestComputed
  split
  · split
    · exact hs.frame.sendTwin.comparePoint.ok
    · exact hs.ok
  · exact hs.ok

theorem State.Keeps.execTwinDigest (hs : s₀.Keeps s) {o : TwinDigestOp} : s₀.Answers (execTwinDigest o s) := by
  unfold Machine.execTwinDigest
  refine hs.onTwin fun hs => ?_
  split
  · exact .ite hs.frame.takePoint hs
  · exact .ite hs hs.frame.comparePoint

theorem State.Keeps.execTwinFault (hs : s₀.Keeps s) {o : TwinTagOp} : s₀.Answers (execTwinFault o s) :=
  hs.onTwin fun hs => .ite hs (.ite hs.declareLoss.takeOver hs.declareLoss)

theorem State.Keeps.execTwinSync (hs : s₀.Keeps s) {o : TwinSyncOp} : s₀.Answers (execTwinSync o s) := by
  unfold Machine.execTwinSync
  refine hs.onTwin fun hs => ?_
  split
  · exact hs.frame
  · exact .ite hs (.ite hs.putCells.frame.mapTensor hs.putCells.frame)

theorem State.Keeps.execTwinDrop (hs : s₀.Keeps s) {o : TwinTagOp} : s₀.Answers (execTwinDrop o s) :=
  hs.onTwin fun hs => .ite hs.fence hs

theorem State.Keeps.execTwinDropRepeat (hs : s₀.Keeps s) : s₀.Answers (execTwinDropRepeat s) := .ok (.ite hs.sendAll hs)

theorem State.Keeps.execTwinFence (hs : s₀.Keeps s) : s₀.Answers (execTwinFence s) := .ok (.ite hs.fence hs)

theorem State.Keeps.execAckTimeout (hs : s₀.Keeps s) : s₀.Answers (execAckTimeout s) := by
  unfold Machine.execAckTimeout
  split
  · exact .ok (hs.sendAll.set.tinkLog.twinErr.frame.foldl fun _ hs => hs.post)
  · exact hs.ok

theorem State.Keeps.execTwinLoss (hs : s₀.Keeps s) : s₀.Answers (execTwinLoss s) := hs.declareLoss.ok

theorem State.Keeps.execTwinAutoTakeover (hs : s₀.Keeps s) : s₀.Answers (execTwinAutoTakeover s) :=
  .ite hs.ok (.ok (.ite hs.frame.takeOver hs.frame))

/-! ### Every command -/

/-- Every command answers a next state and keeps the forms. -/
theorem State.Keeps.exec (hs : s₀.Keeps s) (c : Instr) : s₀.Answers (exec c s) := by
  cases c with
  | fetchT _ _ => exact hs.execFetchT
  | fetchS _ _ => exact hs.execFetchS
  | fetchKv _ _ => exact hs.execFetchKv
  | moveT _ _ => exact hs.execMoveT
  | unpCvt _ _ => exact hs.execUnpCvt
  | unpDq _ _ => exact hs.execUnpDq
  | unpRht _ _ => exact hs.execUnpRht
  | unpLay _ _ => exact hs.execUnpLay
  | mxLdw _ _ => exact hs.execMxLdw
  | mxRun _ _ => exact hs.execMxRun
  | mxRunt _ _ => exact hs.execMxRunt
  | mxWgrad _ _ => exact hs.execMxWgrad
  | mxDrain _ _ => exact hs.execMxDrain
  | mgAcc _ _ => exact hs.execMgAcc
  | mgScale _ _ => exact hs.execMgScale
  | mgMotif _ _ => exact hs.execMgMotif
  | mgSegt _ _ => exact hs.execMgSegt
  | vcLdp _ _ => exact hs.execVcLdp
  | vcLd _ _ => exact hs.execVcLd
  | vcSt _ _ => exact hs.execVcSt
  | vcProg _ _ => exact hs.execVcProg
  | vcRed _ _ => exact hs.execVcRed
  | vcSmax _ _ => exact hs.execVcSmax
  | vcCmp _ _ => exact hs.execVcCmp
  | vcExp _ _ => exact hs.execVcExp
  | vcRng _ _ => exact hs.execVcRng
  | pkQ _ _ => exact hs.execPkQ
  | pkSr _ _ => exact hs.execPkSr
  | cmTens _ _ => exact hs.execCmTens
  | cmKv _ _ => exact hs.execCmKv
  | cmCtx _ _ => exact hs.execCmCtx
  | cmMark _ _ => exact hs.execCmMark
  | lkSend _ _ => exact hs.execLkSend
  | lkRecv _ _ => exact hs.execLkRecv
  | lkRed _ _ => exact hs.execLkRed
  | xBar _ _ => exact hs.execXBar
  | cmdStart _ _ => exact hs.execCmdStart
  | traceMark _ _ => exact hs.execTraceMark
  | xProg _ _ => exact hs.execXProg
  | xNop _ => exact hs.ok
  | xEnd h _ => exact hs.execXEnd h
  | rowRecordFetch _ => exact hs.execRowRecordFetch
  | rowStart _ => exact hs.execRowStart
  | rowComplete _ => exact hs.execRowComplete
  | activityLimiterBin _ _ => exact hs.execActivityLimiterBin
  | tickOverrun _ => exact hs.execTickOverrun
  | barrierTimeout => exact hs.execBarrierTimeout
  | frogComplete _ => exact hs.execFrogComplete
  | tierWriteAck _ => exact hs.execTierWriteAck
  | tierWriteFail _ => exact hs.execTierWriteFail
  | commitPoint _ => exact hs.execCommitPoint
  | slotStream _ => exact hs.execSlotStream
  | tierReadComplete _ => exact hs.execTierReadComplete
  | rosterBuild => exact hs.execRosterBuild
  | tokenCopy _ => exact hs.execTokenCopy
  | schedWindowBoundary => exact hs.execSchedWindowBoundary
  | quotaSnapshot => exact hs.execQuotaSnapshot
  | sqTailDoorbell _ _ _ _ => exact hs.execSqTailDoorbell
  | cqHeadDoorbell _ _ _ => exact hs.execCqHeadDoorbell
  | sqFetch _ => exact hs.execSqFetch
  | command _ => exact hs.execCommand
  | seqOpen _ => exact hs.execSeqOpen
  | seqAppend _ => exact hs.execSeqAppend
  | seqClose _ => exact hs.execSeqClose
  | hostReadCompletion _ => exact hs.execHostReadCompletion
  | cqCoalesceTimer _ => exact hs.execCqCoalesceTimer
  | deviceQuery _ => exact hs.execDeviceQuery
  | rowConfig _ => exact hs.execRowConfig
  | powerState _ => exact hs.execPowerState
  | perfLevel _ => exact hs.execPerfLevel
  | bindOff _ => exact hs.execBindOff
  | tensorAlloc _ => exact hs.execTensorAlloc
  | tensorFree _ => exact hs.execTensorFree
  | tensorQuery _ => exact hs.execTensorQuery
  | tensorPlace _ => exact hs.execTensorPlace
  | hostRegister _ => exact hs.execHostRegister
  | hostUnregister _ => exact hs.execHostUnregister
  | quotaSet _ => exact hs.execQuotaSet
  | quotaQuery _ => exact hs.execQuotaQuery
  | tenantPark _ => exact hs.execTenantPark
  | tenantRestore _ => exact hs.execTenantRestore
  | hankLend _ => exact hs.execHankLend
  | hankRecall _ => exact hs.execHankRecall
  | hankRecallDeadline _ _ => exact hs.execHankRecallDeadline
  | writeback _ => exact hs.execWriteback
  | writebackStart _ => exact hs.execWritebackStart
  | moveGranuleDone _ => exact hs.execMoveGranuleDone
  | zeroFillDone _ => exact hs.execZeroFillDone
  | flashWearOp _ => exact hs.execFlashWearOp
  | flashChannelFail _ => exact hs.execFlashChannelFail
  | modelLoad _ => exact hs.execModelLoad
  | modelRelay _ => exact hs.execModelRelay
  | modelUnload _ => exact hs.execModelUnload
  | modelQuery _ => exact hs.execModelQuery
  | motifLoad _ => exact hs.execMotifLoad
  | motifBind _ => exact hs.execMotifBind
  | motifUnbind _ => exact hs.execMotifUnbind
  | motifQuery _ => exact hs.execMotifQuery
  | swatchBuild _ => exact hs.execSwatchBuild
  | swatchRelease _ => exact hs.execSwatchRelease
  | swatchImport _ => exact hs.execSwatchImport
  | swatchQuery _ => exact hs.execSwatchQuery
  | graphSubmit _ => exact hs.execGraphSubmit
  | templateLoad _ => exact hs.execTemplateLoad
  | templateBuild _ => exact hs.execTemplateBuild
  | templateRetire _ => exact hs.execTemplateRetire
  | patternQuery _ => exact hs.execPatternQuery
  | trainWindow _ => exact hs.execTrainWindow
  | schedSet _ => exact hs.execSchedSet
  | schedQuery _ => exact hs.execSchedQuery
  | modelSchedSet _ => exact hs.execModelSchedSet
  | funcPreempt _ => exact hs.execFuncPreempt
  | funcResume _ => exact hs.execFuncResume
  | seqQuery _ => exact hs.execSeqQuery
  | fabricJoin _ => exact hs.execFabricJoin
  | fabricLeave _ => exact hs.execFabricLeave
  | linkAttach _ => exact hs.execLinkAttach
  | linkDetach _ => exact hs.execLinkDetach
  | linkQuery _ => exact hs.execLinkQuery
  | linkRekey _ => exact hs.execLinkRekey
  | fabricResync _ => exact hs.execFabricResync
  | fabricSeqMap _ => exact hs.execFabricSeqMap
  | twinDeclare _ _ => exact hs.execTwinDeclare
  | twinDissolve _ => exact hs.execTwinDissolve
  | twinQuery _ => exact hs.execTwinQuery
  | twinTakeover _ => exact hs.execTwinTakeover
  | twinResync _ _ => exact hs.execTwinResync
  | lifelineWrite _ => exact hs.execLifelineWrite
  | lifelineCaptureDone _ => exact hs.execLifelineCaptureDone
  | lifelineRestore _ => exact hs.execLifelineRestore
  | lifelineList _ => exact hs.execLifelineList
  | lifelineDrop _ => exact hs.execLifelineDrop
  | funcEnable _ => exact hs.execFuncEnable
  | funcDisable _ => exact hs.execFuncDisable
  | spdmTunnel _ _ => exact hs.execSpdmTunnel
  | secQuery _ => exact hs.execSecQuery
  | tensorExport _ => exact hs.execTensorExport
  | tensorImport _ => exact hs.execTensorImport
  | zeroise _ => exact hs.execZeroise
  | svnCommit _ => exact hs.execSvnCommit
  | deferCancel _ => exact hs.execDeferCancel
  | lifecycleRma _ _ => exact hs.execLifecycleRma
  | tinkRead _ => exact hs.execTinkRead
  | tinkFreeze _ => exact hs.execTinkFreeze
  | tinkRelease _ => exact hs.execTinkRelease
  | keyRelease _ => exact hs.execKeyRelease
  | keyDestroy _ => exact hs.execKeyDestroy
  | touchLogRead _ => exact hs.execTouchLogRead
  | policyQuery _ => exact hs.execPolicyQuery
  | getMeasurements _ _ => exact hs.execGetMeasurements
  | getCertificate _ _ _ => exact hs.execGetCertificate
  | keyExchange _ => exact hs.execKeyExchange
  | keyProg _ _ => exact hs.execKeyProg
  | kSetGo _ => exact hs.execKSetGo
  | kSetStop _ => exact hs.execKSetStop
  | lockInterfaceRequest _ => exact hs.execLockInterfaceRequest
  | startInterfaceRequest _ => exact hs.execStartInterfaceRequest
  | tdiConfigChange _ => exact hs.execTdiConfigChange
  | ideIntegrityFail _ => exact hs.execIdeIntegrityFail
  | flr _ => exact hs.execFlr
  | vfEnableClear _ _ => exact hs.execVfEnableClear
  | hostLinkDown _ => exact hs.execHostLinkDown
  | configSpaceReady => exact hs.execConfigSpaceReady
  | bar4Access _ => exact hs.execBar4Access
  | registerWrite _ _ _ => exact hs.execRegisterWrite
  | rcRead _ _ => exact hs.execRcRead
  | loReadLatch _ _ => exact hs.execLoReadLatch
  | seqRun _ => exact hs.execSeqRun
  | haltStep => exact hs.execHaltStep
  | haltRow => exact hs.execHaltRow
  | seqFaultClear _ => exact hs.execSeqFaultClear
  | seqRowCfgWrite _ => exact hs.execSeqRowCfgWrite
  | pmBaseWrite _ _ => exact hs.execPmBaseWrite
  | rosterReadySet _ => exact hs.execRosterReadySet
  | seqSchedCfgWrite _ => exact hs.execSeqSchedCfgWrite
  | mxaCtrlWrite _ => exact hs.execMxaCtrlWrite
  | mtfHotCfgWrite _ => exact hs.execMtfHotCfgWrite
  | rngRead _ _ => exact hs.execRngRead
  | rngLoad _ _ => exact hs.execRngLoad
  | rngDerive _ _ => exact hs.execRngDerive
  | rngReset _ _ => exact hs.execRngReset
  | deriveDone _ => exact hs.execDeriveDone
  | movPause _ => exact hs.execMovPause
  | movDirtyCfgWrite _ => exact hs.execMovDirtyCfgWrite
  | movLendCfgWrite _ => exact hs.execMovLendCfgWrite
  | movTtRead => exact hs.execMovTtRead
  | ftlCfgWrite _ => exact hs.execFtlCfgWrite
  | lnkStageCfgWrite _ => exact hs.execLnkStageCfgWrite
  | tnkFreeze => exact hs.execTnkFreeze
  | tnkEntryRead => exact hs.execTnkEntryRead
  | dplEnable _ => exact hs.execDplEnable
  | dplStop _ => exact hs.execDplStop
  | dplEpoch => exact hs.execDplEpoch
  | dplHeadWrite _ => exact hs.execDplHeadWrite
  | fwFaultRead => exact hs.execFwFaultRead
  | writeNow => exact hs.execWriteNow
  | retainedWrite _ => exact hs.execRetainedWrite
  | pwrLimitWrite _ => exact hs.execPwrLimitWrite
  | pwrRampWrite _ => exact hs.execPwrRampWrite
  | thmLimitsWrite _ => exact hs.execThmLimitsWrite
  | markThreshWrite _ _ => exact hs.execMarkThreshWrite
  | queueConfigWrite _ _ _ => exact hs.execQueueConfigWrite
  | itemFrame _ => exact hs.execItemFrame
  | commitFrame _ => exact hs.execCommitFrame
  | discard _ => exact hs.execDiscard
  | rowDone _ => exact hs.execRowDone
  | rowFault _ => exact hs.execRowFault
  | rosterFrame _ => exact hs.execRosterFrame
  | bulkFrame _ => exact hs.execBulkFrame
  | bulkOpen _ => exact hs.execBulkOpen
  | bulkAccept _ => exact hs.execBulkAccept
  | bulkRefuse _ => exact hs.execBulkRefuse
  | bulkAck _ => exact hs.execBulkAck
  | bulkResume _ => exact hs.execBulkResume
  | bulkClose _ => exact hs.execBulkClose
  | relayTimeout _ => exact hs.execRelayTimeout
  | breadReq _ => exact hs.execBreadReq
  | breadCpl _ => exact hs.execBreadCpl
  | hankDir _ => exact hs.execHankDir
  | keyReady _ => exact hs.execKeyReady
  | channelError _ => exact hs.execChannelError
  | authFail _ => exact hs.execAuthFail
  | linkRetrain _ => exact hs.execLinkRetrain
  | linkRetrainDone _ => exact hs.execLinkRetrainDone
  | linkTrained _ => exact hs.execLinkTrained
  | linkSecured _ => exact hs.execLinkSecured
  | lossOfSignal _ => exact hs.execLossOfSignal
  | linkRetry _ => exact hs.execLinkRetry
  | rekeyDue _ => exact hs.execRekeyDue
  | oldKeyExpiry _ => exact hs.execOldKeyExpiry
  | beaconPulse _ => exact hs.execBeaconPulse
  | beaconLost => exact hs.execBeaconLost
  | twinWrite _ => exact hs.execTwinWrite
  | twinCommit _ => exact hs.execTwinCommit
  | twinDiscard _ => exact hs.execTwinDiscard
  | twinCtx _ => exact hs.execTwinCtx
  | twinTable _ => exact hs.execTwinTable
  | twinRoster _ => exact hs.execTwinRoster
  | twinAck _ => exact hs.execTwinAck
  | twinAckSend => exact hs.execTwinAckSend
  | twinHeartbeat _ => exact hs.execTwinHeartbeat
  | twinHeartbeatSend _ => exact hs.execTwinHeartbeatSend
  | digestPoint => exact hs.execDigestPoint
  | digestComputed => exact hs.execDigestComputed
  | twinDigest _ => exact hs.execTwinDigest
  | twinFault _ => exact hs.execTwinFault
  | twinSync _ => exact hs.execTwinSync
  | twinDrop _ => exact hs.execTwinDrop
  | twinDropRepeat => exact hs.execTwinDropRepeat
  | twinFence => exact hs.execTwinFence
  | ackTimeout => exact hs.execAckTimeout
  | twinLoss => exact hs.execTwinLoss
  | twinAutoTakeover => exact hs.execTwinAutoTakeover
  | tinkFlushDone => exact hs.execTinkFlushDone
  | trapEntry _ => exact hs.execTrapEntry
  | supervisorHeartbeat _ _ => exact hs.execSupervisorHeartbeat
  | componentRestarted _ _ => exact hs.execComponentRestarted
  | queueWaitTimeout _ _ => exact hs.execQueueWaitTimeout
  | complexWatchdogExpiry _ => exact hs.execComplexWatchdogExpiry
  | complexReady _ => exact hs.execComplexReady
  | debugActivate _ => exact hs.execDebugActivate
  | debugHalt _ => exact hs.execDebugHalt
  | debugResume _ => exact hs.execDebugResume
  | debugStep _ => exact hs.execDebugStep
  | debugAbstractCommand _ => exact hs.execDebugAbstractCommand
  | debugSysbusAccess _ => exact hs.execDebugSysbusAccess
  | jtagInstructionLoad _ => exact hs.execJtagInstructionLoad
  | queryDeviceIdentifiers => exact hs.execQueryDeviceIdentifiers
  | getFirmwareParameters => exact hs.execGetFirmwareParameters
  | requestUpdate => exact hs.execRequestUpdate
  | passComponentTable _ => exact hs.execPassComponentTable
  | updateComponent _ _ => exact hs.execUpdateComponent
  | requestFirmwareData _ => exact hs.execRequestFirmwareData
  | verifyComplete _ _ => exact hs.execVerifyComplete
  | activateFirmware => exact hs.execActivateFirmware
  | getStatus => exact hs.execGetStatus
  | cancelUpdateComponent => exact hs.execCancelUpdateComponent
  | cancelUpdate => exact hs.execCancelUpdate
  | trialConfirm => exact hs.execTrialConfirm
  | setSensorThresholds _ _ _ => exact hs.execSetSensorThresholds
  | setEndpointId _ _ => exact hs.execSetEndpointId
  | supplyDroop => exact hs.execSupplyDroop
  | inputOvercurrent => exact hs.execInputOvercurrent
  | powerLimitAverage _ => exact hs.execPowerLimitAverage
  | skipRelease _ => exact hs.execSkipRelease
  | sustainedSkipCheck _ _ => exact hs.execSustainedSkipCheck
  | skipCapLift _ _ => exact hs.execSkipCapLift
  | voltageSettled => exact hs.execVoltageSettled
  | powerStateEntryDone _ => exact hs.execPowerStateEntryDone
  | powerStateExitDone _ => exact hs.execPowerStateExitDone
  | wakeEvent _ => exact hs.execWakeEvent
  | powerClockRequest _ => exact hs.execPowerClockRequest
  | deferredRequestProceed _ => exact hs.execDeferredRequestProceed
  | deferDeadline _ => exact hs.execDeferDeadline
  | thermalThrottle _ _ => exact hs.execThermalThrottle
  | thermalCapStep => exact hs.execThermalCapStep
  | thermalCritical _ _ => exact hs.execThermalCritical
  | thermalTrip _ _ => exact hs.execThermalTrip
  | sensorFail _ => exact hs.execSensorFail
  | regaugeOp _ => exact hs.execRegaugeOp
  | gaugeDone _ => exact hs.execGaugeDone
  | gaugeRetry => exact hs.execGaugeRetry
  | powerFail => exact hs.execPowerFail
  | castOn _ => exact hs.execCastOn
  | hbmTrainingDone _ _ => exact hs.execHbmTrainingDone
  | translationLayerReady _ => exact hs.execTranslationLayerReady
  | selftestDone _ => exact hs.execSelftestDone
  | directoryRebuilt => exact hs.execDirectoryRebuilt
  | storeImageReload => exact hs.execStoreImageReload
  | castonDone _ => exact hs.execCastonDone
  | retainedApply => exact hs.execRetainedApply
  | flushReadySet => exact hs.execFlushReadySet
  | holdupReadySet => exact hs.execHoldupReadySet
  | holdupLost => exact hs.execHoldupLost
  | bankCheck _ => exact hs.execBankCheck
  | railFault _ => exact hs.execRailFault
  | refclkFault => exact hs.execRefclkFault
  | refclkRecovered => exact hs.execRefclkRecovered
  | couplingOpen => exact hs.execCouplingOpen
  | couplingClosed => exact hs.execCouplingClosed
  | buildDone _ => exact hs.execBuildDone
  | hostLinkUp _ _ _ => exact hs.execHostLinkUp
  | underV _ _ => exact hs.execUnderV
  | overV _ => exact hs.execOverV
  | inletHigh _ => exact hs.execInletHigh
  | stitchMarkerSample _ => exact hs.execStitchMarkerSample
  | mbxDoorbell _ _ => exact hs.execMbxDoorbell
  | coreSramEcc _ _ => exact hs.execCoreSramEcc
  | endOfSession _ => exact hs.execEndOfSession
  | failedHbmStack _ => exact hs.execFailedHbmStack

end Sys2Proof.Machine
end

