-- ==== Sys2Proof/Proofs/Scope.lean ====
section
/-! The obligations on every command and every step. -/

namespace Sys2Proof.Machine

/-- An answer is one state, so what holds of an answered state holds of the next one. -/
theorem State.Answers.keeps {s t : State} {r : Result} (h : s.Answers r) (e : r = .next t) : s.Keeps t := by
  obtain ⟨u, hu, hk⟩ := h
  obtain rfl : t = u := by
    rw [hu] at e
    exact (Host.Outcome.next.inj e).symm
  exact hk

/-- A step keeps the forms: it is a command's effect on the machine with the rest of the queue. -/
theorem step_keeps_forms {s t : State} (e : step s = .next t) : (s.RegsWf → t.RegsWf) ∧ (s.MemWf → t.MemWf) := by
  unfold step at e
  split at e
  · obtain rfl := Host.Outcome.next.inj e
    exact ⟨id, id⟩
  · have hk := ((State.Keeps.refl _).exec _).keeps e
    exact ⟨hk.regs, hk.mem⟩

/-- Settles O52: every command answers a state, by the one lemma for each of them. -/
theorem everyCommandAnswers : Obligations.EveryCommandAnswers := by
  intro c s
  obtain ⟨t, ht, _⟩ := (State.Keeps.refl s).exec c
  exact ⟨t, ht⟩

/-- Settles O55: the command at the front of the queue keeps the forms. -/
theorem stepKeepsForms : Obligations.StepKeepsForms := by
  intro s t hm hr e
  obtain ⟨hregs, hmem⟩ := step_keeps_forms e
  exact ⟨hmem hm, hregs hr⟩

end Sys2Proof.Machine
end

section
/-!
The events of a row (O11): its end, the fetch of the next record, the limiter's bin, and the two timeouts that give the fault
response. On a module with no command in flight, no step and no peer, the fault response is its first and last parts alone:
the SEQ_FAULT bit, FAULTED, and the flush of the Tink ring.
-/

namespace Sys2Proof.Machine

/-- A write of a field leaves the fields of every other register. -/
theorem State.reg_set_of_off_ne (s : State) {f g : Fld} (v : Nat) (hf : f.lo < 32) (hg : g.lo < 32)
    (h : f.off ≠ g.off) : (s.set g v).reg f = s.reg f :=
  State.reg_set_ne _ _ _ _ (by omega)

/-! ### The running row -/

/-- R37. No row that does not run is complete. -/
theorem State.rowComplete_eq_false {s : State} (h : s.seq.active = false) : s.rowComplete = false := by
  simp [State.rowComplete, h]

/-- R37, R39. A complete row ends, and with it what waited for the boundary advances. -/
theorem exec_rowComplete_ends {s : State} {o : RowCompleteOp} (h : s.rowComplete = true) :
    exec (.rowComplete o) s = .next (s.endRow o).bindAdvance.resetAdvance.zeroAdvance :=
  if_pos h

theorem exec_rowComplete_idle {s : State} {o : RowCompleteOp} (h : s.seq.active = false) :
    exec (.rowComplete o) s = .next s := by
  have hn : ¬(s.rowComplete = true) := by simp [State.rowComplete_eq_false h]
  exact if_neg hn

/-- R73. The record that follows the running step's row is fetched. -/
theorem exec_rowRecordFetch_fetches {s : State} {o : RowFetchOp} (ha : s.seq.active = true) (he : o.ecc = false) :
    ∃ t, exec (.rowRecordFetch o) s = .next t ∧ t.seq.fetched = s.seq.step.map (fun st => st.row + 1) ∧
      t.regs = s.regs ∧ t.data = s.data ∧ t.tier = s.tier := by
  have hrun : ¬((!s.seq.active) = true) := by simp [ha]
  have hclean : ¬(o.ecc = true) := by simp [he]
  exact ⟨_, (if_neg hrun).trans (if_neg hclean), rfl, rfl, rfl, rfl⟩

/-- R88. An uncorrectable error in the record is PATTERN_ERR with cause PM. -/
theorem exec_rowRecordFetch_ecc {s : State} {o : RowFetchOp} (ha : s.seq.active = true) (he : o.ecc = true) :
    exec (.rowRecordFetch o) s =
      .next (s.patternErr ⟨0, 0, 0, 0, 0, 0, o.cycle, [], false, false, none, 0⟩ 0 0x0A) := by
  have hrun : ¬((!s.seq.active) = true) := by simp [ha]
  exact (if_neg hrun).trans (if_pos he)

/-- R42, R44. The hard ceiling raises bit 0 of SEQ_FAULT. -/
theorem exec_tickOverrun_faults {s : State} {cycle : Nat} (ha : s.seq.active = true) :
    exec (.tickOverrun cycle) s = .next (s.faultResponse cycle 0) :=
  if_pos ha

/-- R43, R44. Tokens that do not come between two rows raise bit 1 of SEQ_FAULT. -/
theorem exec_barrierTimeout_faults {s : State} (ha : s.seq.active = false) (hr : s.reg Reg.SEQ_STATUS_STATE = 1) :
    exec .barrierTimeout s = .next (s.faultResponse 0 1) := by
  have hwait : (!s.seq.active) = true ∧ s.reg Reg.SEQ_STATUS_STATE = 1 := ⟨by simp [ha], hr⟩
  exact if_pos hwait

/-! ### The limiter -/

/-- R57. Between rows on a module without a pipeline, the load goes towards the one scheduled by at most the slope, and the
delayed enables are counted where the slope holds it back. -/
theorem exec_activityLimiterBin_limits {s : State} {want holds : Nat} (ha : s.seq.active = false)
    (hrole : s.reg Reg.LNK_FABRIC_ROLE = 0) :
    let slope := s.reg Reg.PWR_RAMP_SLOPE
    let m := max (min want (s.seq.eff + slope)) (s.seq.eff - slope)
    ∃ t, exec (.activityLimiterBin want holds) s = .next t ∧ t.seq.eff = m ∧ t.seq.load = m ∧
      t.reg Reg.PWR_DRAW_SWITCH_W = m % 2 ^ Reg.PWR_DRAW_SWITCH_W.width ∧
      t.reg Reg.MXA_LIMIT_HOLD_HOLDS = (if s.seq.eff + slope < want then
        (s.reg Reg.MXA_LIMIT_HOLD_HOLDS + holds) % 2 ^ 32 else s.reg Reg.MXA_LIMIT_HOLD_HOLDS) := by
  intro slope m
  show ∃ t, execActivityLimiterBin want holds s = .next t ∧ _
  simp only [execActivityLimiterBin, ha, hrole, Bool.false_eq_true, false_and, if_false, ne_eq, not_true, and_false]
  refine ⟨_, rfl, rfl, rfl, State.reg_set_same _ _ _, ?_⟩
  rw [State.reg_set_ne _ _ _ _ (by decide), State.reg_seq]
  split
  · rw [State.inc, State.reg_set_same]
    rfl
  · rfl

/-! ### A SEQ_FAULT bit -/

/-- Writing a Tink entry changes no register but TNK_SEQ. -/
theorem State.reg_tinkAt_of_ne (s : State) (cycle code fn : Nat) (args : List Byte) {f : Fld}
    (h : f.off * 32 + f.lo ≠ Reg.TNK_SEQ_ENTRY_SEQ.off * 32 + Reg.TNK_SEQ_ENTRY_SEQ.lo) :
    (s.tinkAt cycle code fn args).reg f = s.reg f := by
  rw [State.tinkAt, State.reg_set_ne _ _ _ _ h, State.reg_tink]

@[simp] theorem State.tinkAt_data (s : State) (cycle code fn : Nat) (args : List Byte) :
    (s.tinkAt cycle code fn args).data = s.data := rfl
@[simp] theorem State.tinkAt_seq (s : State) (cycle code fn : Nat) (args : List Byte) :
    (s.tinkAt cycle code fn args).seq = s.seq := rfl
@[simp] theorem State.tinkAt_tier (s : State) (cycle code fn : Nat) (args : List Byte) :
    (s.tinkAt cycle code fn args).tier = s.tier := rfl

/-- R44. The registers of the row of the first fault. -/
def State.markFaultRow (s : State) : State :=
  if s.seqFault = 0 then
    (s.set Reg.SEQ_FAULT_ROW_LO_FROW_LO s.row).set Reg.SEQ_FAULT_ROW_HI_FROW_HI (s.row / 2 ^ 32)
  else s

/-- R44, R81. What setting a SEQ_FAULT bit does: the row of the first fault, the bit, its vector where that is enabled, and
the Tink entry. -/
theorem State.setSeqFault_cases (s : State) (cycle i : Nat) :
    ∃ v args, s.setSeqFault cycle i = v.tinkAt cycle (0x0101 + i) noFn args ∧
      (v = (s.markFaultRow.set (seqFaultFld i) 1).msix 0 3 ∨ v = s.markFaultRow.set (seqFaultFld i) 1) :=
  ⟨_, _, rfl, ite_eq_or_eq _ _ _⟩

theorem State.markFaultRow_keeps (s : State) :
    s.markFaultRow.data = s.data ∧ s.markFaultRow.seq = s.seq ∧ s.markFaultRow.tier = s.tier := by
  unfold State.markFaultRow
  split <;> exact ⟨rfl, rfl, rfl⟩

/-- The row of the first fault is recorded, and a later fault leaves it. -/
theorem State.reg_markFaultRow (s : State) : s.markFaultRow.reg Reg.SEQ_FAULT_ROW_LO_FROW_LO =
    if s.seqFault = 0 then s.row % 2 ^ 32 else s.reg Reg.SEQ_FAULT_ROW_LO_FROW_LO := by
  unfold State.markFaultRow
  split
  · rw [State.reg_set_ne _ _ _ _ (by decide), State.reg_set_same]
    rfl
  · rfl

theorem State.reg_markFaultRow_of_ne (s : State) {f : Fld} (hl : f.lo < 32)
    (hlo : f.off ≠ Reg.SEQ_FAULT_ROW_LO_FROW_LO.off) (hhi : f.off ≠ Reg.SEQ_FAULT_ROW_HI_FROW_HI.off) :
    s.markFaultRow.reg f = s.reg f := by
  unfold State.markFaultRow
  split
  · rw [State.reg_set_of_off_ne _ _ hl (by decide) hhi, State.reg_set_of_off_ne _ _ hl (by decide) hlo]
  · rfl

/-- Setting a SEQ_FAULT bit leaves these parts of the machine alone. -/
theorem State.setSeqFault_keeps (s : State) (cycle i : Nat) :
    (s.setSeqFault cycle i).data = s.data ∧ (s.setSeqFault cycle i).seq = s.seq ∧
      (s.setSeqFault cycle i).tier = s.tier := by
  obtain ⟨v, args, e, rfl | rfl⟩ := s.setSeqFault_cases cycle i <;> rw [e] <;> exact s.markFaultRow_keeps

/-- Of the registers, it writes those of the first fault's row, the bit, and the number of the Tink entry. -/
theorem State.reg_setSeqFault (s : State) (cycle i : Nat) {f : Fld}
    (h : f.off * 32 + f.lo ≠ Reg.TNK_SEQ_ENTRY_SEQ.off * 32 + Reg.TNK_SEQ_ENTRY_SEQ.lo) :
    (s.setSeqFault cycle i).reg f = (s.markFaultRow.set (seqFaultFld i) 1).reg f := by
  obtain ⟨v, args, e, rfl | rfl⟩ := s.setSeqFault_cases cycle i
  · rw [e, State.reg_tinkAt_of_ne _ _ _ _ _ h, State.reg_msix]
  · rw [e, State.reg_tinkAt_of_ne _ _ _ _ _ h]

theorem State.reg_setSeqFault_of_ne (s : State) (cycle : Nat) {i : Nat} (hi : i < 7) {f : Fld} (hl : f.lo < 32)
    (hf : f.off ∉ [Reg.SEQ_FAULT_TICK_OVERRUN.off, Reg.SEQ_FAULT_ROW_LO_FROW_LO.off, Reg.SEQ_FAULT_ROW_HI_FROW_HI.off,
      Reg.TNK_SEQ_ENTRY_SEQ.off]) : (s.setSeqFault cycle i).reg f = s.reg f := by
  simp only [List.mem_cons, List.not_mem_nil, or_false, not_or] at hf
  obtain ⟨hfault, hlo, hhi, htink⟩ := hf
  have hbit : (seqFaultFld i).lo < 32 := Nat.lt_trans hi (by decide)
  have hentry : Reg.TNK_SEQ_ENTRY_SEQ.lo < 32 := by decide
  rw [State.reg_setSeqFault _ _ _ (by omega), State.reg_set_of_off_ne _ _ hl hbit hfault,
    State.reg_markFaultRow_of_ne _ hl hlo hhi]

/-! ### FAULTED -/

/-- R564. Whether rows run shows in PWR_STATE alone. -/
theorem State.showActive_cases (s : State) (isActive : Bool) :
    s.showActive isActive = s.set Reg.PWR_STATE_STATE (if isActive then 0 else 1) ∨ s.showActive isActive = s :=
  ite_eq_or_eq _ _ _

theorem State.reg_showActive_of_ne (s : State) (isActive : Bool) {f : Fld}
    (h : f.off * 32 + f.lo ≠ Reg.PWR_STATE_STATE.off * 32 + Reg.PWR_STATE_STATE.lo) :
    (s.showActive isActive).reg f = s.reg f := by
  rcases s.showActive_cases isActive with e | e <;> rw [e]
  exact State.reg_set_ne _ _ _ _ h

/-- R45, R59. Entering FAULTED leaves the data path and the tiers alone, and no row runs. -/
theorem State.enterFaulted_keeps (s : State) : s.enterFaulted.data = s.data ∧ s.enterFaulted.tier = s.tier ∧
    s.enterFaulted.seq.active = false := by
  have hshow : ∀ u : State, (u.showActive false).data = u.data ∧ (u.showActive false).tier = u.tier := fun u => by
    rcases u.showActive_cases false with e | e <;> rw [e] <;> exact ⟨rfl, rfl⟩
  exact ⟨(hshow _).1, (hshow _).2, rfl⟩

/-- The registers of entering FAULTED are SEQ_CTRL, SEQ_STATUS, SEQ_TOKEN_WAIT and PWR_STATE. -/
theorem State.reg_enterFaulted_of_ne (s : State) {f : Fld} (hl : f.lo < 32) (hf : f.off ∉
    [Reg.SEQ_CTRL_RUN.off, Reg.SEQ_STATUS_STATE.off, Reg.SEQ_TOKEN_WAIT_WAIT.off, Reg.PWR_STATE_STATE.off]) :
    s.enterFaulted.reg f = s.reg f := by
  have hset : ∀ (u : State) (g : Fld) (v : Nat), g.lo < 32 → g.off ∈
      [Reg.SEQ_CTRL_RUN.off, Reg.SEQ_STATUS_STATE.off, Reg.SEQ_TOKEN_WAIT_WAIT.off, Reg.PWR_STATE_STATE.off] →
      (u.set g v).reg f = u.reg f := fun u g v hg hmem =>
    State.reg_set_of_off_ne u v hl hg fun e => hf (e ▸ hmem)
  have hshow : ∀ u : State, (u.showActive false).reg f = u.reg f := fun u => by
    rcases u.showActive_cases false with e | e <;> rw [e]
    exact hset _ _ _ (by decide) (by decide)
  simp (disch := decide) only [State.enterFaulted, State.reg_seq, hset, hshow]

/-- R45. RUN is cleared and FAULTED shows. -/
theorem State.reg_enterFaulted (s : State) : s.enterFaulted.reg Reg.SEQ_STATUS_STATE = 3 ∧
    s.enterFaulted.reg Reg.SEQ_CTRL_RUN = 0 := by
  constructor <;>
    simp (disch := decide) only [State.enterFaulted, State.reg_seq, State.reg_set_ne, State.reg_showActive_of_ne,
      State.reg_set_same] <;> rfl

/-! ### The fault response of a module at rest -/

theorem State.faultTasks_nil (s : State) : s.faultTasks [] = s := by
  simp [State.faultTasks]

/-- With no command to frog, no command and no graph faults. -/
theorem State.faultCommands_nil (s : State) : s.faultCommands [] = s := by
  simp [State.faultCommands, State.faultTasks_nil]

theorem State.sendTokens_zero (s : State) (cause : Option Nat) : s.sendTokens 0 cause = s := by
  have hnone : setBits 0 16 = [] := by decide
  rw [State.sendTokens, hnone]
  rfl

/-- R44. With no command in flight, no step, no link to tell and no mirror, the fault response is its bit, FAULTED and the
flush. -/
theorem State.faultResponse_quiet {s : State} {cycle i : Nat} (hi : i < 7) (hc : s.data.cmds = []) (hs : s.seq.step = none)
    (hd : s.seq.record.downstream = 0) (hm : s.waitsForMirror = false) :
    s.faultResponse cycle i = (s.setSeqFault cycle i).needResync.enterFaulted.startFlush := by
  obtain ⟨hdata, hseq, -⟩ := s.setSeqFault_keeps cycle i
  have hcids : (s.setSeqFault cycle i).uncommitted = [] := by
    simp [State.uncommitted, hdata, hc]
  have hstep : (s.setSeqFault cycle i).seq.step.isSome = false := by rw [hseq, hs]; rfl
  have hdown : (s.setSeqFault cycle i).seq.record.downstream = 0 := by rw [hseq, hd]
  have hmirror : (s.setSeqFault cycle i).needResync.waitsForMirror = false := by
    have hrole := s.reg_setSeqFault_of_ne cycle hi (f := Reg.TWN_STATE_ROLE) (by decide) (by decide)
    have hstate := s.reg_setSeqFault_of_ne cycle hi (f := Reg.TWN_STATE_STATE) (by decide) (by decide)
    simpa only [State.waitsForMirror, State.needResync, State.reg_seq, hrole, hstate] using hm
  simp [State.faultResponse, hcids, hstep, hdown, hmirror, State.sendTokens_zero, State.faultCommands_nil]

@[simp] theorem State.needResync_data (s : State) : s.needResync.data = s.data := rfl
@[simp] theorem State.needResync_tier (s : State) : s.needResync.tier = s.tier := rfl
@[simp] theorem State.startFlush_data (s : State) : s.startFlush.data = s.data := rfl
@[simp] theorem State.startFlush_seq (s : State) : s.startFlush.seq = s.seq := rfl
@[simp] theorem State.startFlush_tier (s : State) : s.startFlush.tier = s.tier := rfl

/-- R451. The flush shows itself in TNK_STATUS only. -/
theorem State.reg_startFlush_of_ne (s : State) {f : Fld}
    (h : f.off * 32 + f.lo ≠ Reg.TNK_STATUS_FLUSHING.off * 32 + Reg.TNK_STATUS_FLUSHING.lo) :
    s.startFlush.reg f = s.reg f :=
  State.reg_set_ne _ _ _ _ h

/-- The registers of SEQ_FAULT read in the end as setting the bit left them. -/
theorem State.reg_faulted_of_fault (s : State) (cycle i : Nat) {f : Fld} (hl : f.lo < 32)
    (hf : f.off = Reg.SEQ_FAULT_TICK_OVERRUN.off ∨ f.off = Reg.SEQ_FAULT_ROW_LO_FROW_LO.off) :
    (s.setSeqFault cycle i).needResync.enterFaulted.startFlush.reg f =
      (s.markFaultRow.set (seqFaultFld i) 1).reg f := by
  have hflush : Reg.TNK_STATUS_FLUSHING.off = 0xF0004 ∧ Reg.TNK_STATUS_FLUSHING.lo = 1 := by decide
  have hentry : Reg.TNK_SEQ_ENTRY_SEQ.off = 0xF0008 ∧ Reg.TNK_SEQ_ENTRY_SEQ.lo = 0 := by decide
  have hoff : f.off = 0x10001C ∨ f.off = 0x100024 := hf
  have henter : f.off ∉
      [Reg.SEQ_CTRL_RUN.off, Reg.SEQ_STATUS_STATE.off, Reg.SEQ_TOKEN_WAIT_WAIT.off, Reg.PWR_STATE_STATE.off] := by
    rcases hoff with e | e <;> rw [e] <;> decide
  rw [State.reg_startFlush_of_ne _ (by omega), State.reg_enterFaulted_of_ne _ hl henter, State.needResync, State.reg_seq,
    State.reg_setSeqFault _ _ _ (by omega)]

/-- R44, R47, R81. The fault response of a module with no command in flight, no step running and nobody to tell. -/
theorem State.faultResponse_shows {s : State} {cycle i : Nat} (hi : i < 7) (hc : s.data.cmds = [])
    (hs : s.seq.step = none) (hd : s.seq.record.downstream = 0) (hm : s.waitsForMirror = false) :
    let t := s.faultResponse cycle i
    t.reg (seqFaultFld i) = 1 ∧ t.reg Reg.SEQ_STATUS_STATE = 3 ∧ t.reg Reg.SEQ_CTRL_RUN = 0 ∧
      t.reg Reg.TNK_STATUS_FLUSHING = 1 ∧ t.tink.flushing = true ∧ t.seq.active = false ∧
      (s.seqFault = 0 → t.reg Reg.SEQ_FAULT_ROW_LO_FROW_LO = s.row % 2 ^ 32) ∧
      (s.seqFault ≠ 0 → t.reg Reg.SEQ_FAULT_ROW_LO_FROW_LO = s.reg Reg.SEQ_FAULT_ROW_LO_FROW_LO) ∧ t.data = s.data ∧
      t.tier = s.tier := by
  intro t
  have ht : t = (s.setSeqFault cycle i).needResync.enterFaulted.startFlush := State.faultResponse_quiet hi hc hs hd hm
  have hbit : (seqFaultFld i).lo < 32 := Nat.lt_trans hi (by decide)
  have hoff : Reg.SEQ_FAULT_ROW_LO_FROW_LO.off ≠ Reg.SEQ_FAULT_TICK_OVERRUN.off := by decide
  obtain ⟨hdata, -, htier⟩ := s.setSeqFault_keeps cycle i
  obtain ⟨hfdata, hftier, hidle⟩ := (s.setSeqFault cycle i).needResync.enterFaulted_keeps
  obtain ⟨hstate, hrun⟩ := (s.setSeqFault cycle i).needResync.reg_enterFaulted
  have hrow : t.reg Reg.SEQ_FAULT_ROW_LO_FROW_LO =
      if s.seqFault = 0 then s.row % 2 ^ 32 else s.reg Reg.SEQ_FAULT_ROW_LO_FROW_LO := by
    rw [ht, State.reg_faulted_of_fault _ _ _ (by decide) (.inr rfl), State.reg_set_of_off_ne _ _ (by decide) hbit hoff,
      State.reg_markFaultRow]
  refine ⟨?_, ?_, ?_, ?_, ?_, ?_, fun h => ?_, fun h => ?_, ?_, ?_⟩
  · rw [ht, State.reg_faulted_of_fault _ _ _ hbit (.inl rfl), State.reg_set_same]
    rfl
  · rw [ht, State.reg_startFlush_of_ne _ (by decide), hstate]
  · rw [ht, State.reg_startFlush_of_ne _ (by decide), hrun]
  · rw [ht, State.startFlush, State.reg_set_same]
    rfl
  · rw [ht]
    rfl
  · rw [ht, State.startFlush_seq, hidle]
  · rw [hrow, if_pos h]
  · rw [hrow, if_neg h]
  · rw [ht, State.startFlush_data, hfdata, State.needResync_data, hdata]
  · rw [ht, State.startFlush_tier, hftier, State.needResync_tier, htier]

/-- Settles O11: each event is one branch of its command, and the fault response of a quiet module is followed through its
three parts. -/
theorem rowEventsComplete : Obligations.RowEventsComplete :=
  ⟨fun _ _ => exec_rowComplete_ends, fun _ _ => exec_rowComplete_idle, fun _ _ => exec_rowRecordFetch_fetches,
    fun _ _ => exec_rowRecordFetch_ecc, fun _ _ _ => exec_activityLimiterBin_limits, fun _ _ => exec_tickOverrun_faults,
    fun _ => exec_barrierTimeout_faults, fun _ _ _ hi hc hs _ => State.faultResponse_shows hi hc hs⟩

end Sys2Proof.Machine
end

section
/-!
The pattern messages and the end of a build (O23). A message that is taken meets only its own rules, so each clause names
what they answer: a job that joins those on the control cores, or a reply at once.
-/

namespace Sys2Proof.Machine

/-- R520, R521. A graph that no check refuses is handed to the graph sequencer. -/
theorem exec_graphSubmit_joins {s : State} {h : Mail} {g : GraphBuf} (ht : s.Taken h 0x0401 0 20)
    (hal : h.u 8 8 % 64 = 0) (hg : graphBuf h.buffer (h.u 16 4) = some g) (hr : s.graphRefusal h.fn g = none) :
    let a := g.descs.foldl State.claimCode s
    exec (.graphSubmit h) s = .next ((a.addBuild (.graph (h.ticket 0x0401) (a.newGraph g))).waiting h 0x0401) := by
  refine congrArg ok (State.mail_later ht ?_ rfl ?_)
  · simp [hal]
  · simp only [hg, hr]

/-- R74, R629. A template image that may be loaded is handed to the Builder. -/
theorem exec_templateLoad_joins {s : State} {h : Mail} {tpl : Template} {body : List Byte} (ht : s.Taken h 0x0402 0 28)
    (hv : h.u 8 4 = 0) (hz : h.u 12 4 = 0) (hal : h.u 16 8 % 64 = 0) (hfn : h.fn = 0)
    (hlen : h.buffer.length = h.u 24 4) (hi : imageTemplate h.buffer = some (tpl, body))
    (hc : s.templateConflict tpl.id tpl.model = none) (hl : ∀ k ∈ s.tier.lent, tpl.sendsOn k.2.link = false)
    (hroom : s.pmRoom tpl.id body.length = true) :
    exec (.templateLoad h) s = .next ((s.addBuild (.load (h.ticket 0x0402) tpl body false)).waiting h 0x0402) := by
  have hlent : s.tier.lent.find? (fun k => tpl.sendsOn k.2.link) = none := by
    simpa [List.find?_eq_none] using hl
  have hverify : bit 0 0 = false := by decide
  refine congrArg ok (State.mail_later ht ?_ ?_ ?_)
  · simp [hv, hz, hal]
  · simp [hfn]
  · simp [hlen, hi, hc, hlent, hroom, hv, hverify]

/-- R54, R74. A graph that suits the bucket asked for is handed to the Builder. -/
theorem exec_templateBuild_joins {s : State} {h : Mail} {g : GraphBuf} (ht : s.Taken h 0x0403 0 32)
    (hal : h.u 8 8 % 64 = 0) (hfn : h.fn = 0) :
    let b := h.u 22 1
    let tpl := Template.ask (h.u 20 2) (bits b 0 3) (bits b 3 4) (h.u 23 1) (h.u 24 4) (h.u 28 4)
    tpl.bucketOk = true → graphBuf h.buffer (h.u 16 4) = some g → g.fn = 0 → (∀ d ∈ g.descs, d.fn = 0) →
    g.model = tpl.model → (∀ d ∈ g.descs, d.badVersion = false ∧ d.badArg = false) → s.unordered g = false →
    s.templateConflict tpl.id tpl.model = none → (s.otherTemplates tpl.id).length < 1024 →
    exec (.templateBuild h) s =
      .next ((s.addBuild (.build (h.ticket 0x0403) (s.newGraph g) tpl (bit b 7))).waiting h 0x0403) := by
  intro b tpl hok hg hgfn hdfn hmodel hgood hord hc hfew
  have hown : ¬(g.fn ≠ 0 ∨ g.descs.any (fun d => d.fn != 0) = true) := by
    simpa [hgfn] using hdfn
  have hargs : ¬(g.model ≠ tpl.model ∨ g.descs.any (fun d => d.badVersion || d.badArg) = true ∨ s.unordered g = true) := by
    simpa [hmodel, hord] using hgood
  have hroom : ¬((!bit b 7) = true ∧ 1024 ≤ (s.otherTemplates tpl.id).length) := fun hb => absurd hb.2 (by omega)
  refine congrArg ok (State.mail_later ht ?_ ?_ ?_)
  · simpa [hal] using hok
  · simp [hfn]
  · simp only [hg]
    rw [if_neg hown, if_neg hargs]
    split
    · rename_i c he
      exact absurd (hc.symm.trans he) nofun
    · exact if_neg hroom

/-- R74. A template that is held and that no roster or window uses leaves Pattern Memory. -/
theorem exec_templateRetire_done {s : State} {h : Mail} (ht : s.Taken h 0x0404 0 10) (hfn : h.fn = 0)
    (hheld : ∃ t ∈ s.seq.templates, t.id = h.u 8 2) (hfree : s.templateUsed (h.u 8 2) = false) :
    exec (.templateRetire h) s = .next ((s.setTemplates (s.otherTemplates (h.u 8 2))).replied h 0x0404 []) := by
  have hany : s.seq.templates.any (fun t => t.id == h.u 8 2) = true := by simpa using hheld
  refine congrArg ok (State.mail_done ht rfl ?_ ?_)
  · simp [hfn]
  · simp [hany, hfree]

/-- R171. A query answers the progress marks that its sender may see. -/
theorem exec_patternQuery_done {s : State} {h : Mail} (ht : s.Taken h 0x0405 0 8) :
    exec (.patternQuery h) s = .next (s.replied h 0x0405 (s.progress h.fn)) :=
  congrArg ok (State.mail_done ht rfl rfl rfl)

/-- R292, R522. A window of a step to come is granted, in place of an earlier one of that step. -/
theorem exec_trainWindow_done {s : State} {h : Mail} (ht : s.Taken h 0x0406 1 22) (hlo : 1 ≤ h.u 16 4)
    (hhi : h.u 16 4 ≤ 4096) (hvf : h.u 20 2 ≤ 1024) (hfn : h.fn = 0) (hstep : s.stepNo < h.u 8 8) :
    let w : Window := ⟨h.u 8 8, h.u 16 4, h.u 16 4, h.u 20 2⟩
    exec (.trainWindow h) s = .next (State.replied { s with seq := { s.seq with
      windows := s.seq.windows.filter (fun x => x.step != h.u 8 8) ++ [w] } } h 0x0406 []) := by
  have hahead : ¬(h.u 8 8 < s.stepNo ∨ (h.u 8 8 = s.stepNo ∧ s.seq.step.isSome = true)) := by omega
  refine congrArg ok (State.mail_done ht ?_ ?_ ?_)
  · simp [hlo, hhi, hvf]
  · simp [hfn]
  · exact if_neg hahead

/-- R52. The oldest job leaves the control cores, and BUSY shows whether another one waits there. -/
theorem exec_buildDone_ends {s : State} {o : BuildDoneOp} {j : BuildJob} {rest : List BuildJob}
    (hj : s.seq.builds = j :: rest) (hup : s.builderUp = true) :
    exec (.buildDone o) s = .next (({ s with seq := { s.seq with builds := rest } }.set Reg.SEQ_BUILD_STATUS_BUSY
      (b2n !rest.isEmpty)).endBuild o j) := by
  show execBuildDone o s = _
  simp [execBuildDone, hj, hup]

/-- Settles O23: each message that is taken meets its own rules only, and they hand a job on or answer at once. -/
theorem patternMessagesComplete : Obligations.PatternMessagesComplete :=
  ⟨fun _ _ _ => exec_graphSubmit_joins, fun _ _ _ _ => exec_templateLoad_joins,
    fun _ _ _ => exec_templateBuild_joins, fun _ _ => exec_templateRetire_done, fun _ _ => exec_patternQuery_done,
    fun _ _ => exec_trainWindow_done, fun _ _ _ _ => exec_buildDone_ends⟩

end Sys2Proof.Machine
end

section
/-!
The module's commands and its pins (O31): what the mailbox answers without a row of its own, the row settings, faults of the
module, and the couplings, alerts and readings, which leave the work of the machine alone.
-/

namespace Sys2Proof.Machine

/-! ### The mailbox -/

/-- R511. A SEND while the page is BUSY is ignored and flagged. -/
theorem State.mail_busy {s : State} {h : Mail} {m : MailSpec} (hb : s.getF h.fn Reg.MBX_STATUS_BUSY = 1) :
    s.mail h m = s.fnErr h.fn Reg.GLB_FN_ERR_MBX_DOORBELL := by
  unfold State.mail
  exact if_pos hb

/-- A message that its own rules refuse is answered with their status. -/
theorem State.mail_fail {s s' : State} {h : Mail} {m : MailSpec} {st : Status} {p : List Byte}
    (ht : s.Taken h m.type m.minMinor m.size) (ha : m.args s = true) (hs : m.sender s = true)
    (hd : m.body (h.ticket m.type) s = .fail s' st p) : s.mail h m = s'.pageReply (h.ticket m.type) st false p := by
  rw [State.mail_taken ht ha hs, hd]

/-- R121. A message that would be taken but for its arguments is answered BAD_ARG. -/
theorem State.mail_badArg {s : State} {h : Mail} {m : MailSpec} (ht : s.Taken h m.type m.minMinor m.size)
    (ha : m.args s = false) : s.mail h m = s.pageReply (h.ticket m.type) .badArg false [] := by
  obtain ⟨hb, hg, hmaj, hmin, hlen, hex, hst, hfl, hwf, hpre⟩ := ht
  have hr : m.refusal h s = some (.badArg, []) := by
    have hminor : ¬(h.minor < m.minMinor) := by omega
    have hexcess : ∀ b ∈ h.payload.drop m.size, ¬b = 0 → h.minor ≤ 1 := fun b hb hne => absurd (hex b hb) hne
    simpa [MailSpec.refusal, hmaj, hminor, ha] using hexcess
  have hreply : replyMinor h = min h.minor 1 := by simp [replyMinor, hmaj]
  have hasync : bit h.flags 1 = false := by simp [hfl, bit]
  unfold State.mail
  rw [if_neg hb]
  simp only [hg, hr, hreply, hasync]
  rfl

/-- R515. A SEND of a type that the catalogue does not list. -/
theorem exec_mbxDoorbell_unlisted {s : State} {h : Mail} {type : Nat} (ht : s.Taken h type 0 h.payload.length)
    (hl : listedTypes.contains type = false) :
    exec (.mbxDoorbell h type) s = .next (s.pageReply (h.ticket type) .badArg false []) := by
  have hn : ¬(s.getF h.fn Reg.MBX_STATUS_BUSY = 0 ∧ listedTypes.contains type = true) :=
    fun hand => Bool.false_ne_true (hl.symm.trans hand.2)
  exact (if_neg hn).trans (congrArg ok (State.mail_badArg ht rfl))

theorem exec_mbxDoorbell_busy {s : State} {h : Mail} {type : Nat} (hb : s.getF h.fn Reg.MBX_STATUS_BUSY = 1) :
    exec (.mbxDoorbell h type) s = .next (s.fnErr h.fn Reg.GLB_FN_ERR_MBX_DOORBELL) := by
  have hn : ¬(s.getF h.fn Reg.MBX_STATUS_BUSY = 0 ∧ listedTypes.contains type = true) := by simp [hb]
  exact (if_neg hn).trans (congrArg ok (State.mail_busy hb))

/-- R533. A wait that times out is answered BUSY_RETRY. -/
theorem exec_queueWaitTimeout_busyRetry {s : State} {h : Mail} {type : Nat}
    (ht : s.Taken h type 0 h.payload.length) :
    exec (.queueWaitTimeout h type) s = .next (s.pageReply (h.ticket type) .busyRetry false []) :=
  congrArg ok (State.mail_fail ht rfl rfl rfl)

/-- R519. The five registers are read as the PF reads them. -/
theorem exec_deviceQuery_done {s : State} {h : Mail} (ht : s.Taken h 0x0101 0 8) :
    exec (.deviceQuery h) s = .next (s.replied h 0x0101 ([0x8000, 0x800C, 0x8010, 0x80010, 0x8001C].flatMap (fun o =>
      leBytes (s.readWord 0 o) 4))) :=
  congrArg ok (State.mail_done ht rfl rfl rfl)

/-! ### The row settings -/

/-- R79. ROW_CONFIG of the PF, with legal settings and clear reserved bits, sets them while the sequencer is at rest. -/
theorem exec_rowConfig_done {s : State} {h : Mail} (ht : s.Taken h 0x0102 0 12) (hfn : h.fn = 0)
    (hok : rowCfgOk (h.u 8 4) = true) (hlo : bits (h.u 8 4) 5 3 = 0) (hhi : bits (h.u 8 4) 28 4 = 0)
    (hrest : s.seqAtRest = true) :
    exec (.rowConfig h) s = .next ((s.setRowCfg (h.u 8 4)).replied h 0x0102 []) := by
  refine congrArg ok (State.mail_done ht ?_ ?_ ?_)
  · simp [hok, hlo, hhi]
  · simp [hfn]
  · exact if_pos hrest

theorem fieldsAt_rowCfg : Reg.fieldsAt Reg.SEQ_ROW_CFG_ROW_LEN.off =
    [Reg.SEQ_ROW_CFG_ROW_LEN, Reg.SEQ_ROW_CFG_SELVAGE, Reg.SEQ_ROW_CFG_CEILING, Reg.SEQ_ROW_CFG_MARGIN,
      Reg.SEQ_ROW_CFG_BARRIER_TO] := by decide

/-- Keeping a written register for the retained copies changes no register, and nothing of the tiers or the data path. -/
theorem State.retain_keeps (s : State) (off : Nat) :
    (s.retain off).regs = s.regs ∧ (s.retain off).tier = s.tier ∧ (s.retain off).data = s.data := by
  dsimp only [State.retain]
  split <;> exact ⟨rfl, rfl, rfl⟩

@[simp] theorem State.retain_tier (s : State) (off : Nat) : (s.retain off).tier = s.tier := (s.retain_keeps off).2.1
@[simp] theorem State.retain_data (s : State) (off : Nat) : (s.retain off).data = s.data := (s.retain_keeps off).2.2

@[simp] theorem State.reg_retain (s : State) (off : Nat) (f : Fld) : (s.retain off).reg f = s.reg f := by
  simp [State.reg, State.getF, (s.retain_keeps off).1]

@[simp] theorem State.recheck_tier (s : State) : s.recheck.tier = s.tier := rfl
@[simp] theorem State.recheck_data (s : State) : s.recheck.data = s.data := rfl

/-- A recheck shows itself in SEQ_BUILD_STATUS.BUSY only. -/
theorem State.reg_recheck_of_ne (s : State) {f : Fld}
    (h : f.off * 32 + f.lo ≠ Reg.SEQ_BUILD_STATUS_BUSY.off * 32 + Reg.SEQ_BUILD_STATUS_BUSY.lo) :
    s.recheck.reg f = s.reg f :=
  State.reg_set_ne _ _ _ _ h

theorem bits_mod_self (v lo w : Nat) : bits v lo w % 2 ^ w = bits v lo w := by
  simp [bits]

/-- The settings that R79 names read as written. -/
theorem State.reg_setRowCfg (s : State) (v : Nat) : (s.setRowCfg v).reg Reg.SEQ_ROW_CFG_ROW_LEN = bits v 0 5 ∧
    (s.setRowCfg v).reg Reg.SEQ_ROW_CFG_SELVAGE = bits v 8 4 ∧
    (s.setRowCfg v).reg Reg.SEQ_ROW_CFG_MARGIN = bits v 16 8 := by
  have hlen : bits v Reg.SEQ_ROW_CFG_ROW_LEN.lo Reg.SEQ_ROW_CFG_ROW_LEN.width % 2 ^ Reg.SEQ_ROW_CFG_ROW_LEN.width =
    bits v 0 5 := bits_mod_self v 0 5
  have hsel : bits v Reg.SEQ_ROW_CFG_SELVAGE.lo Reg.SEQ_ROW_CFG_SELVAGE.width % 2 ^ Reg.SEQ_ROW_CFG_SELVAGE.width =
    bits v 8 4 := bits_mod_self v 8 4
  have hmargin : bits v Reg.SEQ_ROW_CFG_MARGIN.lo Reg.SEQ_ROW_CFG_MARGIN.width % 2 ^ Reg.SEQ_ROW_CFG_MARGIN.width =
    bits v 16 8 := bits_mod_self v 16 8
  simp only [State.setRowCfg, fieldsAt_rowCfg, List.foldl]
  split <;> simp (disch := decide) [State.reg_recheck_of_ne, State.reg_set_ne, hlen, hsel, hmargin]

theorem State.setRowCfg_tier (s : State) (v : Nat) : (s.setRowCfg v).tier = s.tier := by
  simp only [State.setRowCfg, fieldsAt_rowCfg, List.foldl]
  split <;> simp

theorem State.setRowCfg_data (s : State) (v : Nat) : (s.setRowCfg v).data = s.data := by
  simp only [State.setRowCfg, fieldsAt_rowCfg, List.foldl]
  split <;> simp

/-- R79, R80. The row settings after an accepted change. -/
theorem State.setRowCfg_shows (s : State) (v : Nat) : (s.setRowCfg v).reg Reg.SEQ_ROW_CFG_ROW_LEN = bits v 0 5 ∧
    (s.setRowCfg v).reg Reg.SEQ_ROW_CFG_SELVAGE = bits v 8 4 ∧ (s.setRowCfg v).reg Reg.SEQ_ROW_CFG_MARGIN = bits v 16 8 ∧
    (s.setRowCfg v).tier = s.tier ∧ (s.setRowCfg v).data = s.data := by
  obtain ⟨hlen, hsel, hmargin⟩ := s.reg_setRowCfg v
  exact ⟨hlen, hsel, hmargin, s.setRowCfg_tier v, s.setRowCfg_data v⟩

/-! ### Faults of the module -/

/-- R610, R447. A rail that TEL watches leaves its window: the module powers off until input power returns. -/
theorem exec_railFault_fault {s : State} {rail : Nat} (hon : s.mod.off = false) (hlo : 8 ≤ rail) (hhi : rail < 20) :
    let a := ((s.set Reg.TEL_STATUS_RAILS_OK 0).moduleFault 0xFF).powerOff (railFlush rail) (railWrite rail)
    exec (.railFault rail) s = .next { a with mod := { a.mod with lockedOff := true } } := by
  have hn : ¬(s.mod.off = true ∨ rail < 8 ∨ 20 ≤ rail) := by simp [hon]; omega
  exact if_neg hn

/-- R611, R447. A lost clock is a Module fault and takes the host link down. -/
theorem exec_refclkFault_fault {s : State} (hon : s.mod.off = false) (hclk : s.mod.refclkOk = true) :
    let r := (s.moduleFault 0xFF).draw
    exec .refclkFault s = .next (State.linkLoss { r.2 with mod := { r.2.mod with refclkOk := false } } (r.1 % 256)) := by
  have hn : ¬(s.mod.off = true ∨ (!s.mod.refclkOk) = true) := by simp [hon, hclk]
  exact if_neg hn

/-- R447. A failed stack is a Module fault. -/
theorem exec_failedHbmStack_fault {s : State} {stack : Nat} (hon : s.mod.off = false) (hst : stack < 8) :
    exec (.failedHbmStack stack) s = .next (s.moduleFault 0xFF) := by
  have hn : ¬(s.mod.off = true ∨ 8 ≤ stack) := by simp [hon]; omega
  exact if_neg hn

/-! ### The work of the machine is left alone -/

theorem State.KeepsWork.refl (s : State) : s.KeepsWork s := ⟨rfl, rfl, rfl, rfl, rfl, rfl, rfl, rfl, rfl⟩

/-- The work of the machine is left alone, and the sensors' readings too. -/
def State.KeepsTemps (s t : State) : Prop := s.KeepsWork t ∧ t.pwr.temps = s.pwr.temps

theorem State.KeepsTemps.refl (s : State) : s.KeepsTemps s := ⟨.refl s, rfl⟩

theorem State.KeepsTemps.set {s t : State} (h : s.KeepsTemps t) (f : Fld) (v : Nat) : s.KeepsTemps (t.set f v) := h

theorem State.KeepsTemps.ite {s t u : State} {c : Prop} [Decidable c] (ht : s.KeepsTemps t) (hu : s.KeepsTemps u) :
    s.KeepsTemps (if c then t else u) := by
  split
  · exact ht
  · exact hu

theorem State.KeepsTemps.pwr {s t : State} (h : s.KeepsTemps t) (p : PwrState) (hp : p.temps = t.pwr.temps) :
    s.KeepsTemps { t with pwr := p } :=
  ⟨h.1, hp.trans h.2⟩

theorem State.KeepsTemps.levelChanged {s t : State} (h : s.KeepsTemps t) : s.KeepsTemps t.levelChanged := h

/-- R572, R583. What the readings show changes registers and the critical action only. -/
theorem State.showThermal_keepsTemps (s : State) : s.KeepsTemps s.showThermal := by
  unfold State.showThermal
  extract_lets maxima above die hbm flash
  have hmax : s.KeepsTemps maxima := (((State.KeepsTemps.refl s).set _ _).set _ _).set _ _
  have hdie : s.KeepsTemps die := hmax.ite (hmax.set _ _)
  have hhbm : s.KeepsTemps hbm := hdie.ite (hdie.set _ _)
  have hflash : s.KeepsTemps flash := .ite (hhbm.set _ _) hhbm
  have hcool := (hflash.pwr { flash.pwr with critical := false } rfl).set Reg.THM_STATUS_CRITICAL 0
  exact .ite hcool.levelChanged hflash

theorem State.readTemps_keepsWork (s : State) (l : List (Nat × Nat)) : s.KeepsWork (s.readTemps l) :=
  (State.showThermal_keepsTemps _).1

/-- A reading is recorded, in 12 bits. -/
theorem State.readTemps_one (s : State) (sensor temp : Nat) (h : sensor < 60) :
    Store.get? (s.readTemps [(sensor, temp)]).pwr.temps sensor = some (temp % 4096) := by
  rw [State.readTemps, (State.showThermal_keepsTemps _).2]
  simp [h, Store.get?_put_same]

/-! ### Levels -/

/-- Showing the caps changes no register but PWR_LEVEL and THM_STATUS. -/
theorem State.reg_levelChanged_of_ne (s : State) {f : Fld} (hl : f.lo < 32) (hp : f.off ≠ Reg.PWR_LEVEL_CAP.off)
    (ht : f.off ≠ Reg.THM_STATUS_CAP.off) : s.levelChanged.reg f = s.reg f := by
  show State.reg s.showCaps f = s.reg f
  unfold State.showCaps
  rw [State.reg_set_of_off_ne _ _ hl (by decide) ht, State.reg_set_of_off_ne (g := Reg.PWR_LEVEL_CAP) _ _ hl (by decide) hp,
    State.reg_set_of_off_ne (g := Reg.PWR_LEVEL_SKIP_CAP) _ _ hl (by decide) hp,
    State.reg_set_of_off_ne (g := Reg.PWR_LEVEL_THERMAL_CAP) _ _ hl (by decide) hp,
    State.reg_set_of_off_ne (g := Reg.PWR_LEVEL_GAUGE_CAP) _ _ hl (by decide) hp]

/-- R621. An open coupling caps the level at P7. -/
theorem State.thermalCap_of_openCap {s : State} (h : s.pwr.openCap = true) : 7 ≤ s.thermalCap := by
  simp [State.thermalCap, h]

/-! ### Couplings, alerts and readings -/

/-- R621. An open coupling is flagged and sets the thermal cap of P7. -/
theorem exec_couplingOpen_caps {s : State} (hon : s.mod.off = false) :
    ∃ t, exec .couplingOpen s = .next t ∧ t.reg Reg.TEL_STATUS_COUPLED = 0 ∧
      t.reg Reg.TEL_ALERT_COUPLING_OPEN = 1 ∧ t.pwr.openCap = true ∧ 7 ≤ t.thermalCap ∧ s.KeepsWork t ∧
      t.out = s.out := by
  have hn : ¬(s.mod.off = true) := by simp [hon]
  refine ⟨_, if_neg hn, ?_, ?_, rfl, State.thermalCap_of_openCap rfl, .refl s, rfl⟩
  · rw [State.reg_levelChanged_of_ne _ (by decide) (by decide) (by decide), State.reg_pwr,
      State.reg_set_ne _ _ _ _ (by decide), State.reg_set_same]
    rfl
  · rw [State.reg_levelChanged_of_ne _ (by decide) (by decide) (by decide), State.reg_pwr, State.reg_set_same]
    rfl

/-- R621. A closed coupling lifts its cap; the alert stays until it is cleared. -/
theorem exec_couplingClosed_lifts (s : State) :
    ∃ t, exec .couplingClosed s = .next t ∧ t.reg Reg.TEL_STATUS_COUPLED = 1 ∧ t.pwr.openCap = false ∧
      t.reg Reg.TEL_ALERT_COUPLING_OPEN = s.reg Reg.TEL_ALERT_COUPLING_OPEN ∧ s.KeepsWork t ∧ t.out = s.out := by
  refine ⟨_, rfl, ?_, rfl, ?_, .refl s, rfl⟩
  · rw [State.reg_levelChanged_of_ne _ (by decide) (by decide) (by decide), State.reg_pwr, State.reg_set_same]
    rfl
  · rw [State.reg_levelChanged_of_ne _ (by decide) (by decide) (by decide), State.reg_pwr,
      State.reg_set_ne _ _ _ _ (by decide)]

/-- R624. The input voltage that is recorded is shown. -/
theorem State.reg_vin (s : State) {v : Nat} (hv : v < 65536) : (s.vin v).reg Reg.TEL_INPUT_VIN = v := by
  rw [State.vin, State.reg_set_same, Nat.mod_eq_of_lt hv]
  exact Nat.mod_eq_of_lt hv

theorem State.vin_keepsWork (s : State) (v : Nat) : s.KeepsWork (s.vin v) := .refl s

theorem State.vin_regsKept (s : State) (v : Nat) {p : Nat → Bool} (hp : p Reg.TEL_INPUT_VIN.off = true) :
    s.RegsKept p (s.vin v) :=
  .trans (.of_regs rfl) (State.regsKept_set _ _ _ (by decide) (by decide) hp)

/-- R607, R624. The alert of an input below the limit stays when the status ends. -/
theorem exec_underV_shows (s : State) (below : Bool) {vin : Nat} (hv : vin < 65536) :
    ∃ t, exec (.underV below vin) s = .next t ∧ t.reg Reg.TEL_INPUT_VIN = vin ∧
      t.reg Reg.TEL_STATUS_UNDER_V = b2n below ∧ (below = true → t.reg Reg.TEL_ALERT_UNDER_V = 1) ∧
      s.RegsKept (fun o => o == 0x120008 || o == 0x12000C || o == 0x120010) t ∧ s.KeepsWork t := by
  have hvin := s.reg_vin hv
  have hkept := s.vin_regsKept vin (p := fun o => o == 0x120008 || o == 0x12000C || o == 0x120010) rfl
  cases below with
  | true =>
    refine ⟨_, rfl, ?_, ?_, fun _ => State.reg_set_same _ _ _, ?_, s.vin_keepsWork vin⟩
    · rw [State.reg_set_ne _ _ _ _ (by decide), State.reg_set_ne _ _ _ _ (by decide), hvin]
    · exact (State.reg_set_ne _ _ _ _ (by decide)).trans (State.reg_set_same _ _ _)
    · exact (hkept.trans (State.regsKept_set _ _ _ (by decide) (by decide) rfl)).trans
        (State.regsKept_set _ _ _ (by decide) (by decide) rfl)
  | false =>
    refine ⟨_, rfl, ?_, State.reg_set_same _ _ _, nofun, ?_, s.vin_keepsWork vin⟩
    · exact (State.reg_set_ne _ _ _ _ (by decide)).trans hvin
    · exact hkept.trans (State.regsKept_set _ _ _ (by decide) (by decide) rfl)

/-- R624. A reading above 54 V, in 10 mV, sets the alert. -/
theorem exec_overV_shows (s : State) {vin : Nat} (hv : vin < 65536) :
    ∃ t, exec (.overV vin) s = .next t ∧ t.reg Reg.TEL_INPUT_VIN = vin ∧
      (5400 < vin → t.reg Reg.TEL_ALERT_OVER_V = 1) ∧
      s.RegsKept (fun o => o == 0x120008 || o == 0x120010) t ∧ s.KeepsWork t := by
  have hvin := s.reg_vin hv
  have hkept := s.vin_regsKept vin (p := fun o => o == 0x120008 || o == 0x120010) rfl
  have hmod : vin % 65536 = vin := Nat.mod_eq_of_lt hv
  refine ⟨_, rfl, ?_⟩
  by_cases hover : 5400 < vin
  · rw [hmod, if_pos hover]
    exact ⟨(State.reg_set_ne _ _ _ _ (by decide)).trans hvin, fun _ => State.reg_set_same _ _ _,
      hkept.trans (State.regsKept_set _ _ _ (by decide) (by decide) rfl), s.vin_keepsWork vin⟩
  · rw [hmod, if_neg hover]
    exact ⟨hvin, fun h => absurd h hover, hkept, s.vin_keepsWork vin⟩

/-- R619. A coolant inlet above 45 °C, in 0.125 °C, sets the alert. -/
theorem exec_inletHigh_shows (s : State) (temp : Nat) :
    ∃ t, exec (.inletHigh temp) s = .next t ∧ Store.get? t.pwr.temps 58 = some (temp % 4096) ∧
      (360 < temp12 (temp % 4096) → t.reg Reg.TEL_ALERT_INLET_HIGH = 1) ∧ s.KeepsWork t := by
  have htemp := s.readTemps_one 58 temp (by decide)
  have hwork := s.readTemps_keepsWork [(58, temp)]
  show ∃ t, execInletHigh temp s = .next t ∧ _
  unfold execInletHigh
  generalize s.readTemps [(58, temp)] = u at htemp hwork ⊢
  refine ⟨_, rfl, ?_⟩
  by_cases hhot : 360 < temp12 (temp % 4096)
  · rw [if_pos hhot]
    exact ⟨htemp, fun _ => State.reg_set_same _ _ _, hwork⟩
  · rw [if_neg hhot]
    exact ⟨htemp, fun h => absurd h hhot, hwork⟩

/-- Settles O31: a clause for each command, from what the mailbox answers and which registers each command writes. -/
theorem moduleCommandsComplete : Obligations.ModuleCommandsComplete :=
  ⟨fun _ _ _ => exec_mbxDoorbell_busy, fun _ _ _ => exec_mbxDoorbell_unlisted,
    fun _ _ _ => exec_queueWaitTimeout_busyRetry, fun _ _ => exec_deviceQuery_done, fun _ _ => exec_rowConfig_done,
    State.setRowCfg_shows,
    fun _ _ => exec_railFault_fault, fun _ => exec_refclkFault_fault, fun _ => rfl,
    fun _ _ => exec_failedHbmStack_fault, fun _ => exec_couplingOpen_caps, exec_couplingClosed_lifts,
    fun s below _ => exec_underV_shows s below, fun s _ => exec_overV_shows s, exec_inletHigh_shows⟩

end Sys2Proof.Machine
end

section
/-!
The words of the Trolum instructions (O56). A word is one string of fields: opcode, STAGE, UNIT, START and CSLOT above the
operand fields of the opcode's layout. The places of a layout fall and do not overlap (`placesFall`), so that reading the
fields of a written number gives the values back (`fieldsRead_write`). The tables `trolumParts` and `trolumOf` are inverse to
each other up to what a word does not carry.
-/

namespace Sys2Proof.Machine

/-! ### Fields of a number -/

/-- Fields below bit `n`, in falling order and without an overlap. -/
def placesFall : Nat → List (Nat × Nat) → Bool
  | _, [] => true
  | n, f :: l => decide (f.1 + f.2 ≤ n) && placesFall f.1 l

theorem bits_lt (n lo w : Nat) : bits n lo w < 2 ^ w := Nat.mod_lt _ (Nat.two_pow_pos w)

/-- A field that lies above the rest of a number reads as its value. -/
theorem bits_of_top {v r lo w : Nat} (hv : v < 2 ^ w) (hr : r < 2 ^ lo) : bits (v * 2 ^ lo + r) lo w = v := by
  rw [bits, Nat.mul_comm, Nat.mul_add_div (Nat.two_pow_pos lo), Nat.div_eq_of_lt hr, Nat.add_zero, Nat.mod_eq_of_lt hv]

/-- A multiple of a power of 2 does not show in the bits below it. -/
theorem bits_add_mul {a r n lo w : Nat} (h : lo + w ≤ n) : bits (a * 2 ^ n + r) lo w = bits r lo w := by
  obtain ⟨k, rfl⟩ := Nat.exists_eq_add_of_le h
  have hsplit : a * 2 ^ (lo + w + k) + r = 2 ^ lo * (2 ^ w * (2 ^ k * a)) + r := by ring
  rw [bits, hsplit, Nat.mul_add_div (Nat.two_pow_pos lo), Nat.mul_add_mod]
  rfl

theorem bits_eq_mod {n w : Nat} : bits n 0 w = n % 2 ^ w := by simp [bits]

/-- The fields of a layout stay below its bound. -/
theorem fieldsWrite_lt {l : List (Nat × Nat)} {v : List Nat} {n : Nat} (hl : placesFall n l = true)
    (hv : fieldsFit l v = true) : fieldsWrite l v < 2 ^ n := by
  induction l generalizing v n with
  | nil => cases v <;> exact Nat.two_pow_pos n
  | cons f l ih =>
    cases v with
    | nil => exact Nat.two_pow_pos n
    | cons x v =>
      simp only [placesFall, fieldsFit, Bool.and_eq_true, decide_eq_true_eq] at hl hv
      obtain ⟨hf, hl⟩ := hl
      obtain ⟨hx, hv⟩ := hv
      calc x * 2 ^ f.1 + fieldsWrite l v < x * 2 ^ f.1 + 2 ^ f.1 := Nat.add_lt_add_left (ih hl hv) _
        _ = (x + 1) * 2 ^ f.1 := by ring
        _ ≤ 2 ^ f.2 * 2 ^ f.1 := Nat.mul_le_mul_right _ hx
        _ = 2 ^ (f.1 + f.2) := by rw [Nat.pow_add, Nat.mul_comm]
        _ ≤ 2 ^ n := Nat.pow_le_pow_right Nat.two_pos hf

/-- What lies above a layout's bound does not show in its fields. -/
theorem fieldsRead_add_mul {l : List (Nat × Nat)} {a r m n : Nat} (hl : placesFall m l = true) (hm : m ≤ n) :
    fieldsRead (a * 2 ^ n + r) l = fieldsRead r l := by
  induction l generalizing m with
  | nil => rfl
  | cons f l ih =>
    simp only [placesFall, Bool.and_eq_true, decide_eq_true_eq] at hl
    obtain ⟨hf, hl⟩ := hl
    have hhead : bits (a * 2 ^ n + r) f.1 f.2 = bits r f.1 f.2 := bits_add_mul (hf.trans hm)
    have hrest : fieldsRead (a * 2 ^ n + r) l = fieldsRead r l := ih hl (by omega)
    exact congrArg₂ List.cons hhead hrest

/-- The fields of a written number read as the values written. -/
theorem fieldsRead_write {l : List (Nat × Nat)} {v : List Nat} {n : Nat} (hl : placesFall n l = true)
    (hv : fieldsFit l v = true) : fieldsRead (fieldsWrite l v) l = v := by
  induction l generalizing v n with
  | nil => cases v with
    | nil => rfl
    | cons x v => exact absurd hv nofun
  | cons f l ih =>
    cases v with
    | nil => exact absurd hv nofun
    | cons x v =>
      simp only [placesFall, fieldsFit, Bool.and_eq_true, decide_eq_true_eq] at hl hv
      obtain ⟨-, hl⟩ := hl
      obtain ⟨hx, hv⟩ := hv
      have htop : bits (x * 2 ^ f.1 + fieldsWrite l v) f.1 f.2 = x := bits_of_top hx (fieldsWrite_lt hl hv)
      have hrest : fieldsRead (x * 2 ^ f.1 + fieldsWrite l v) l = v := (fieldsRead_add_mul hl le_rfl).trans (ih hl hv)
      exact congrArg₂ List.cons htop hrest

/-! ### The layouts -/

/-- The operand fields of every opcode lie in bits [91:0], falling and without an overlap. -/
theorem trolumFields_fall {op kind : Nat} {l : List (Nat × Nat)} (h : trolumFields op kind = some l) :
    placesFall 92 l = true := by
  have hall : (trolumFields op kind).all (placesFall 92) = true := by
    unfold trolumFields
    split <;> try split
    all_goals rfl
  simpa [h] using hall

/-- Only X.MARK has more than one layout (R170). -/
theorem trolumFields_kind {op : Nat} (h : op ≠ 0xF1) (k k' : Nat) : trolumFields op k = trolumFields op k' := by
  unfold trolumFields
  split
  case h_38 => exact absurd rfl h
  all_goals rfl

/-- R170. The layout of X.MARK names the kind that chooses it first. -/
theorem trolumFields_mark {k : Nat} {l : List (Nat × Nat)} (h : trolumFields 0xF1 k = some l) :
    ∃ t, l = (88, 4) :: t := by
  have hall : (trolumFields 0xF1 k).all (fun l => l.head? == some (88, 4)) = true := by
    show Option.all _ (match k with | 0 => _ | 1 => _ | _ => _) = true
    split <;> rfl
  simp only [h, Option.all_some, beq_iff_eq] at hall
  exact ⟨_, List.eq_cons_of_mem_head? hall⟩

/-- Every opcode with a layout has 8 bits. -/
theorem trolumFields_op_lt {op kind : Nat} {l : List (Nat × Nat)} (h : trolumFields op kind = some l) : op < 2 ^ 8 := by
  have hall : (trolumFields op kind).all (fun _ => op < 2 ^ 8) = true := by
    unfold trolumFields
    split <;> try split
    all_goals rfl
  simpa [h] using hall

/-! ### Instructions and their parts -/

/-- The operand values that a word of X.MARK shows under its layout are an instruction's. -/
theorem trolumOf_fieldsRead_mark {w : Nat} {l : List (Nat × Nat)} (hl : trolumFields 0xF1 (bits w 88 4) = some l)
    (h : Issue) : ∃ i, trolumOf h 0xF1 (fieldsRead w l) = some i ∧ trolumParts i = some (h, 0xF1, fieldsRead w l) := by
  simp only [trolumFields] at hl
  split at hl <;> cases hl
  case h_1 hkind =>
    refine ⟨.cmdStart h ⟨bits w 67 21, bits w 46 21, bits w 30 16⟩, ?_⟩
    simp only [fieldsRead, List.map, hkind]
    exact ⟨rfl, rfl⟩
  case h_2 hkind =>
    refine ⟨.traceMark h ⟨bits w 56 32⟩, ?_⟩
    simp only [fieldsRead, List.map, hkind]
    exact ⟨rfl, rfl⟩

/-- The operand values that a word shows under its layout are an instruction's, which has them as its parts again. -/
theorem trolumOf_fieldsRead {w op : Nat} {l : List (Nat × Nat)} (hl : trolumFields op (bits w 88 4) = some l) (h : Issue) :
    ∃ i, trolumOf h op (fieldsRead w l) = some i ∧ trolumParts i = some (h, op, fieldsRead w l) := by
  by_cases hmark : op = 0xF1
  · subst hmark
    exact trolumOf_fieldsRead_mark hl h
  · unfold trolumFields at hl
    split at hl
    case h_38 => exact absurd rfl hmark
    all_goals cases hl <;> exact ⟨_, rfl, rfl⟩

/-- What an instruction's well-formedness says of its parts. -/
theorem fieldsFit_of_wf {i : Instr} {h : Issue} {op : Nat} {v : List Nat} (e : trolumParts i = some (h, op, v))
    (hw : i.wf = true) : h.stage < 2 ^ 3 ∧ h.unit < 2 ^ 5 ∧ h.start < 2 ^ 16 ∧ h.cslot < 2 ^ 4 ∧ longOk op v = true ∧
      ∃ l, trolumFields op (v.headD 0) = some l ∧ fieldsFit l v = true := by
  have hword : wordWf i = true := by
    unfold trolumParts at e
    split at e
    all_goals cases e <;> exact hw
  simp only [wordWf, e, Bool.and_eq_true, decide_eq_true_eq] at hword
  obtain ⟨⟨⟨⟨⟨⟨⟨-, hstage⟩, hunit⟩, hstart⟩, hcslot⟩, hfit⟩, hlong⟩, -⟩ := hword
  split at hfit
  case h_1 => exact absurd hfit nofun
  case h_2 l hl => exact ⟨hstage, hunit, hstart, hcslot, hlong, l, hl, hfit⟩

/-! ### Words -/

/-- R85. The fields of a word: those common to all words above a layout's. -/
def wordFields (l : List (Nat × Nat)) : List (Nat × Nat) :=
  (120, 8) :: (117, 3) :: (112, 5) :: (96, 16) :: (92, 4) :: l

/-- The values of the common fields, and those of a layout. -/
def wordValues (h : Issue) (op : Nat) (v : List Nat) : List Nat := op :: h.stage :: h.unit :: h.start :: h.cslot :: v

theorem wordFields_fall {l : List (Nat × Nat)} (hl : placesFall 92 l = true) : placesFall 128 (wordFields l) = true := by
  simpa [wordFields, placesFall] using hl

/-- The word of an instruction is the number of its fields. -/
theorem encodeTrolum_of_parts {i : Instr} {h : Issue} {op : Nat} {v : List Nat} {l : List (Nat × Nat)}
    (e : trolumParts i = some (h, op, v)) (hl : trolumFields op (v.headD 0) = some l) :
    encodeTrolum i = some (BitVec.ofNat 128 (fieldsWrite (wordFields l) (wordValues h op v))) := by
  simp only [encodeTrolum, e, hl, wordFields, wordValues, fieldsWrite, Nat.add_assoc]

/-- A word is the number of its fields, where its layout leaves out no bit that is set. -/
theorem fieldsWrite_wordFields {w : Nat} {l : List (Nat × Nat)} (hw : w < 2 ^ 128)
    (hl : fieldsWrite l (fieldsRead w l) = bits w 0 92) (die index : Nat) :
    fieldsWrite (wordFields l) (wordValues (Issue.ofWord die index w) (bits w 120 8) (fieldsRead w l)) = w := by
  simp only [wordFields, wordValues, Issue.ofWord, fieldsWrite, hl, bits]
  omega

/-- The layout is the one that the kind in the word chooses, and the one that the first value names. -/
theorem trolumFields_headD {op w : Nat} {l : List (Nat × Nat)} :
    trolumFields op ((fieldsRead w l).headD 0) = some l ↔ trolumFields op (bits w 88 4) = some l := by
  by_cases hmark : op = 0xF1
  · subst hmark
    constructor <;> intro h <;> obtain ⟨t, rfl⟩ := trolumFields_mark h <;> exact h
  · rw [trolumFields_kind hmark]

/-- The words that decode: their layout leaves out no bit that is set, and they are right for a long receive. -/
theorem decodeTrolum_eq_some {die index : Nat} {w : TWord} {i : Instr} :
    decodeTrolum die index w = some i ↔ ∃ l, trolumFields (bits w.toNat 120 8) (bits w.toNat 88 4) = some l ∧
      fieldsWrite l (fieldsRead w.toNat l) = bits w.toNat 0 92 ∧
      longOk (bits w.toNat 120 8) (fieldsRead w.toNat l) = true ∧
      trolumOf (Issue.ofWord die index w.toNat) (bits w.toNat 120 8) (fieldsRead w.toNat l) = some i := by
  unfold decodeTrolum
  dsimp only
  split
  case h_1 hl => simp [hl]
  case h_2 l hl => simp [hl, and_assoc]

/-- A word that decodes is the word of what it decodes to. -/
theorem encodeTrolum_of_decodeTrolum {die index : Nat} {w : TWord} {i : Instr} (h : decodeTrolum die index w = some i) :
    encodeTrolum i = some w := by
  obtain ⟨l, hl, hbits, -, hi⟩ := decodeTrolum_eq_some.mp h
  obtain ⟨j, hj, hparts⟩ := trolumOf_fieldsRead hl (Issue.ofWord die index w.toNat)
  obtain rfl : j = i := Option.some.inj (hj.symm.trans hi)
  rw [encodeTrolum_of_parts hparts (trolumFields_headD.mpr hl), fieldsWrite_wordFields w.isLt hbits,
    BitVec.ofNat_toNat, BitVec.setWidth_eq]

/-- Values that fit a word's fields are read back from it, and those of the layout are all of its bits [91:0]. -/
theorem fieldsWrite_reads {h : Issue} {op : Nat} {v : List Nat} {l : List (Nat × Nat)} (hfall : placesFall 92 l = true)
    (hfit : fieldsFit l v = true) (hfits : fieldsFit (wordFields l) (wordValues h op v) = true) :
    ∃ n, fieldsWrite (wordFields l) (wordValues h op v) = n ∧ n < 2 ^ 128 ∧ bits n 0 92 = fieldsWrite l v ∧
      fieldsRead n (wordFields l) = wordValues h op v := by
  refine ⟨_, rfl, fieldsWrite_lt (wordFields_fall hfall) hfits, ?_, fieldsRead_write (wordFields_fall hfall) hfits⟩
  have hlow := fieldsWrite_lt hfall hfit
  simp only [bits, wordFields, wordValues, fieldsWrite]
  omega

/-- The word of a well-formed instruction decodes to one with its opcode, its operands and its common fields. -/
theorem decodeTrolum_of_encodeTrolum {i : Instr} {h : Issue} {op : Nat} {v : List Nat} (hw : i.wf = true)
    (e : trolumParts i = some (h, op, v)) : ∃ (w : TWord) (j : Instr), encodeTrolum i = some w ∧
      decodeTrolum h.die h.index w = some j ∧ trolumParts j =
        some (⟨h.die, h.stage, h.unit, h.cslot, h.start, h.index, h.start, [], false, false, none, 0⟩, op, v) := by
  obtain ⟨hstage, hunit, hstart, hcslot, hlong, l, hl, hfit⟩ := fieldsFit_of_wf e hw
  have hfits : fieldsFit (wordFields l) (wordValues h op v) = true := by
    simp only [wordFields, wordValues, fieldsFit, trolumFields_op_lt hl, hstage, hunit, hstart, hcslot, hfit, decide_true,
      Bool.and_true]
  obtain ⟨n, hn, hlt, hlow, hread⟩ := fieldsWrite_reads (trolumFields_fall hl) hfit hfits
  simp only [wordFields, wordValues, fieldsRead, List.map_cons, List.cons.injEq] at hread
  obtain ⟨rop, rstage, runit, rstart, rcslot, (rv : fieldsRead n l = v)⟩ := hread
  have hkind : trolumFields op (bits n 88 4) = some l := trolumFields_headD.mp (rv.symm ▸ hl)
  obtain ⟨j, hj, hparts⟩ := trolumOf_fieldsRead hkind (Issue.ofWord h.die h.index n)
  have hword : (BitVec.ofNat 128 n).toNat = n := by
    rw [BitVec.toNat_ofNat, Nat.mod_eq_of_lt hlt]
  refine ⟨BitVec.ofNat 128 n, j, hn ▸ encodeTrolum_of_parts e hl, decodeTrolum_eq_some.mpr ⟨l, ?_⟩, ?_⟩
  · rw [hword, rop, rv, hlow]
    exact ⟨hkind, rfl, hlong, rv ▸ hj⟩
  · rw [hparts, rv, Issue.ofWord, rstage, runit, rstart, rcslot]

/-- Settles O56: the fields of a word neither overlap nor leave out a bit that is set, and the two tables of instructions
agree. -/
theorem trolumRoundTrip : Obligations.TrolumRoundTrip :=
  ⟨fun _ _ _ _ => decodeTrolum_of_encodeTrolum, fun _ _ _ _ => encodeTrolum_of_decodeTrolum⟩

end Sys2Proof.Machine
end

section
/-!
The link and control instructions (O9). An instruction that nothing bars takes its effect (`State.issue_next`), so each of
the link's is followed from its issue; the two that take a staged item have one lemma each, over all roles. A command's
start is followed through what it clears and gives (`State.startCmd_data`).
-/

namespace Sys2Proof.Machine

/-! ### What a write of lines and an issue leave -/

theorem State.cmd_writeLines (s : State) (a : Nat) (l : List LineData) (cid : Nat) :
    (s.writeLines a l).cmd cid = s.cmd cid := by
  obtain ⟨sk, bd, e⟩ := s.writeLines_rest a l
  rw [e]
  rfl

theorem State.staging_writeLines (s : State) (a : Nat) (l : List LineData) :
    (s.writeLines a l).data.staging = s.data.staging := by
  obtain ⟨sk, bd, e⟩ := s.writeLines_rest a l
  rw [e]

theorem State.outside_writeLines (s : State) (a : Nat) (l : List LineData) : s.Outside (s.writeLines a l) := by
  obtain ⟨sk, bd, e⟩ := s.writeLines_rest a l
  rw [e]
  exact State.Outside.refl s

theorem State.outside_atIssue (s : State) (r : List Nat) : s.Outside (s.atIssue r) := s.outside_set _ _

/-- Lines written after an issue are the lines that the skein holds. -/
theorem State.linesAre_writeLines_atIssue (s : State) (r : List Nat) (a : Nat) (l : List LineData) :
    s.LinesAre ((s.atIssue r).writeLines a l) a l :=
  .from_kept (State.linesKept_data rfl) ((s.atIssue r).linesAre_writeLines a l)

theorem State.outside_writeLines_atIssue (s : State) (r : List Nat) (a : Nat) (l : List LineData) :
    s.Outside ((s.atIssue r).writeLines a l) :=
  .trans (s.outside_atIssue r) ((s.atIssue r).outside_writeLines a l)

/-- R101. A consumed item is its consumer's. -/
theorem State.consumer_of_mem_consume {s : State} {cid : Nat} {i x : Staged} (hx : x ∈ (s.consume cid i).data.staging)
    (hi : x.link = i.link ∧ x.ctag = i.ctag ∧ x.seq = i.seq) : x.consumer = cid := by
  obtain ⟨y, -, rfl⟩ := List.mem_map.mp hx
  by_cases hy : y.link = i.link ∧ y.ctag = i.ctag ∧ y.seq = i.seq
  · rw [if_pos hy]
  · rw [if_neg hy] at hi
    exact absurd hi hy

/-- A step's commands count from the template's row, the others from the row number; neither is a counter of the skein. -/
theorem State.rowOf_atIssue (s : State) (r : List Nat) (c : Cmd) : (s.atIssue r).rowOf c = s.rowOf c := by
  have hrow : (s.atIssue r).row = s.row := by
    simp (disch := decide) only [State.row, State.atIssue, State.inc, State.reg_set_ne]
  simp only [State.rowOf, hrow]
  rfl

/-! ### The link -/

theorem State.Issues.not_squashed {s : State} {h : Issue} {reads writes : List Nat} {cid : Nat} (hi : s.Issues h reads writes cid) :
    ¬(s.data.squash.contains (slotKey h.die h.cslot) = true) := by
  obtain ⟨-, -, hsquash, -⟩ := hi
  simpa using hsquash

/-- R166. Lines leave on the unit's link under the command's tag. -/
theorem exec_lkSend_sends {s : State} {h : Issue} {o : LkSendOp} {cid : Nat}
    (hi : s.Issues h (range o.src (o.lcnt + 1)) [] cid) :
    exec (.lkSend h o) s = .next ((s.atIssue (range o.src (o.lcnt + 1))).sendItem cid (8 * h.die + h.unit) (s.cmd cid).ctag
      o.seq o.cls ((range o.src (o.lcnt + 1)).map s.line)) :=
  congrArg ok (State.issue_next hi _ _)

/-- R100, R101, R167. A staged item whose marker has come is written and consumed, and forwarded where FWD is set. -/
theorem exec_lkRecv_staged {s : State} {h : Issue} {o : LkRecvOp} {cid : Nat} {i : Staged} (hshort : o.long = 0)
    (hst : s.stagedItem (8 * h.die + h.unit) o.ctag o.seq = some i) (hlen : i.lines.length = o.lcnt + 1)
    (hi : s.Issues h [] (range o.dst (o.lcnt + 1)) cid) :
    let t := ((s.atIssue []).writeLines o.dst i.lines).consume cid i
    exec (.lkRecv h o) s = .next (if o.fwd = 1 then (t.send (8 * h.die + o.flink)
      (.item i.ctag i.seq i.cls i.lines)).send (8 * h.die + o.flink) (.commit i.ctag) else t) := by
  have hlong : ¬(o.long = 1) := by omega
  show execLkRecv h o s = _
  simp only [execLkRecv, linkOf, hst, if_neg hlong, if_neg hi.not_squashed, State.issue_next hi, hlen, ne_eq, not_true, if_false,
    ok]

/-- R100, R101. The item is in the skein, and only there. -/
theorem exec_lkRecv_writes {s : State} {h : Issue} {o : LkRecvOp} {cid : Nat} {i : Staged} (hshort : o.long = 0)
    (hfwd : o.fwd = 0) (hst : s.stagedItem (8 * h.die + h.unit) o.ctag o.seq = some i)
    (hlen : i.lines.length = o.lcnt + 1) (hi : s.Issues h [] (range o.dst (o.lcnt + 1)) cid) :
    ∃ t, exec (.lkRecv h o) s = .next t ∧ s.LinesAre t o.dst i.lines ∧ s.Outside t ∧
      (∀ x ∈ t.data.staging, x.link = i.link ∧ x.ctag = i.ctag ∧ x.seq = i.seq → x.consumer = cid) := by
  have hkeep : ¬(o.fwd = 1) := by omega
  refine ⟨_, exec_lkRecv_staged hshort hst hlen hi, ?_⟩
  rw [if_neg hkeep]
  exact ⟨(s.linesAre_writeLines_atIssue _ _ _).kept fun _ => ⟨rfl, rfl⟩, s.outside_writeLines_atIssue _ _ _,
    fun x => State.consumer_of_mem_consume⟩

/-- R108, R167. A long receive is handed to the link's bulk engine. -/
theorem exec_lkRecv_long {s : State} {h : Issue} {o : LkRecvOp} {cid : Nat} (hlong : o.long = 1)
    (hi : s.Issues h [] [] cid) : exec (.lkRecv h o) s = .next ((s.atIssue []).longRecv h o cid) :=
  (if_pos hlong).trans (congrArg ok (State.issue_next hi _ _))

/-- R168. The first of a reduction sends its own lines. -/
theorem exec_lkRed_first {s : State} {h : Issue} {o : LkRedOp} {cid : Nat} (hrole : o.role = 0)
    (hi : s.Issues h (range o.loc (o.lcnt + 1)) [] cid) :
    exec (.lkRed h o) s = .next ((s.atIssue (range o.loc (o.lcnt + 1))).sendItem cid (8 * h.die + o.outl) (s.cmd cid).ctag
      o.seq 0 ((range o.loc (o.lcnt + 1)).map s.line)) :=
  (if_pos hrole).trans (congrArg ok (State.issue_next hi _ _))

/-- R168. The others consume a staged item: role 3 passes it on, the others add their own lines; role 1 does not write the
result, role 2 does not send it. -/
theorem exec_lkRed_staged {s : State} {h : Issue} {o : LkRedOp} {cid : Nat} {i : Staged} (hrole : o.role ≠ 0)
    (hst : s.stagedItem (8 * h.die + h.unit) o.ctag o.seq = some i) (hlen : i.lines.length = o.lcnt + 1)
    (hi : s.Issues h (if o.role = 3 then [] else range o.loc (o.lcnt + 1))
      (if o.role = 1 then [] else range o.dst (o.lcnt + 1)) cid) :
    let a := (s.atIssue (if o.role = 3 then [] else range o.loc (o.lcnt + 1))).consume cid i
    let l := if o.role = 3 then i.lines else redLines i.lines ((range o.loc (o.lcnt + 1)).map s.line)
    let t := if o.role = 1 then a else a.writeLines o.dst l
    exec (.lkRed h o) s =
      .next (if o.role = 2 then t else t.sendItem cid (8 * h.die + o.outl) (s.cmd cid).ctag o.seq 0 l) := by
  intro a l t
  have hctag : (t.cmd cid).ctag = (s.cmd cid).ctag := by
    show (State.cmd (if o.role = 1 then a else a.writeLines o.dst l) cid).ctag = (a.cmd cid).ctag
    split
    · rfl
    · rw [State.cmd_writeLines]
  rw [← hctag]
  show execLkRed h o s = _
  simp only [execLkRed, linkOf, hst, if_neg hrole, if_neg hi.not_squashed, State.issue_next hi, hlen, ne_eq, not_true, if_false]
  rfl

theorem exec_lkRed_passes {s : State} {h : Issue} {o : LkRedOp} {cid : Nat} {i : Staged} (hrole : o.role = 3)
    (hst : s.stagedItem (8 * h.die + h.unit) o.ctag o.seq = some i) (hlen : i.lines.length = o.lcnt + 1)
    (hi : s.Issues h [] (range o.dst (o.lcnt + 1)) cid) :
    exec (.lkRed h o) s = .next ((((s.atIssue []).consume cid i).writeLines o.dst i.lines).sendItem cid (8 * h.die + o.outl)
      (s.cmd cid).ctag o.seq 0 i.lines) := by
  have hexec := exec_lkRed_staged (o := o) (cid := cid) (by omega) hst hlen (by simpa [hrole] using hi)
  simpa [hrole] using hexec

theorem exec_lkRed_adds {s : State} {h : Issue} {o : LkRedOp} {cid : Nat} {i : Staged} (hrole : o.role = 1)
    (hst : s.stagedItem (8 * h.die + h.unit) o.ctag o.seq = some i) (hlen : i.lines.length = o.lcnt + 1)
    (hi : s.Issues h (range o.loc (o.lcnt + 1)) [] cid) :
    exec (.lkRed h o) s = .next (((s.atIssue (range o.loc (o.lcnt + 1))).consume cid i).sendItem cid (8 * h.die + o.outl)
      (s.cmd cid).ctag o.seq 0 (redLines i.lines ((range o.loc (o.lcnt + 1)).map s.line))) := by
  have hexec := exec_lkRed_staged (o := o) (cid := cid) (by omega) hst hlen (by simpa [hrole] using hi)
  simpa [hrole] using hexec

/-- R168. The last of a reduction delivers the sum to its own skein. -/
theorem exec_lkRed_delivers {s : State} {h : Issue} {o : LkRedOp} {cid : Nat} {i : Staged} (hrole : o.role = 2)
    (hst : s.stagedItem (8 * h.die + h.unit) o.ctag o.seq = some i) (hlen : i.lines.length = o.lcnt + 1)
    (hi : s.Issues h (range o.loc (o.lcnt + 1)) (range o.dst (o.lcnt + 1)) cid) :
    ∃ t, exec (.lkRed h o) s = .next t ∧
      s.LinesAre t o.dst (redLines i.lines ((range o.loc (o.lcnt + 1)).map s.line)) ∧ s.Outside t := by
  have hexec := exec_lkRed_staged (o := o) (cid := cid) (by omega) hst hlen (by simpa [hrole] using hi)
  have hlines : s.LinesKept ((s.atIssue (range o.loc (o.lcnt + 1))).consume cid i) := fun _ => ⟨rfl, rfl⟩
  have hout : s.Outside ((s.atIssue (range o.loc (o.lcnt + 1))).consume cid i) :=
    s.outside_atIssue (range o.loc (o.lcnt + 1))
  exact ⟨_, by simpa [hrole] using hexec, .from_kept hlines (State.linesAre_writeLines _ _ _),
    hout.trans (State.outside_writeLines _ _ _)⟩

/-! ### Control -/

/-- R464. The grants of a command rest on no part of the data path and on no register. -/
theorem State.Outside.grantsOf {s t : State} (h : s.Outside t) (c : Cmd) : t.grantsOf c = s.grantsOf c := by
  obtain ⟨⟩ := s
  obtain ⟨⟩ := t
  obtain ⟨rfl, rfl, rfl, rfl, rfl, rfl, rfl, rfl, rfl, rfl, rfl, rfl, rfl, rfl⟩ := h
  rfl

/-- R170. The command that is placed here and waits for its start on this die starts. -/
theorem exec_cmdStart_starts {s : State} {h : Issue} {o : CmdStartOp} {c : Nat × Cmd}
    (hc : s.data.cmds.find? (fun c => s.placedHere h c.2 && !c.2.committed && !c.2.frogged &&
      !c.2.started.contains h.die && !s.seq.dead.contains c.1) = some c) :
    exec (.cmdStart h o) s = .next (s.startCmd h o c.1) := by
  show execCmdStart h o s = _
  simp only [execCmdStart, hc, ok]

/-- R16, R84, R130. A start without grants clears the slot and gives it its allotment, and that is all. -/
theorem State.startCmd_data {s : State} {h : Issue} {o : CmdStartOp} {cid : Nat}
    (hg : s.grantsOf { s.cmd cid with started := (s.cmd cid).started ++ [h.die], ctag := o.ctag } = 0) :
    s.Outside (s.startCmd h o cid) ∧ (s.startCmd h o cid).data = { s.data.clearSlot h.die h.cslot with
      skein := Store.removeIf s.data.skein (fun a => o.first ≤ a && a < o.first + (o.count + 1))
      slots := Store.put s.data.slots (slotKey h.die h.cslot) ⟨cid, o.first, o.count + 1, 0⟩
      squash := s.data.squash.filter (· != slotKey h.die h.cslot)
      cmds := Store.put s.data.cmds cid
        { s.cmd cid with started := (s.cmd cid).started ++ [h.die], ctag := o.ctag } } := by
  unfold State.startCmd
  extract_lets old key n c d given m latched shown code
  have hlatched : latched.data = given.data ∧ given.Outside latched := by
    show State.data (ite _ _ _) = _ ∧ given.Outside (ite _ _ _)
    split <;> exact ⟨rfl, .refl _⟩
  have hshown : s.Outside shown := .trans (b := given) (.refl _) (.trans (b := latched) hlatched.2 (.refl _))
  have hnone : setBits (shown.grantsOf c) 8 = [] := by
    rw [hshown.grantsOf, hg]
    decide
  rw [hnone]
  refine ⟨hshown, ?_⟩
  show ({ latched.data with cmds := Store.put latched.data.cmds cid c } : DataPath) = _
  rw [hlatched.1, ← hg]
  rfl

/-- R16, R90, R130. The slot's entry, the lines of its allotment, and every other line after a start without grants. -/
theorem State.startCmd_shows {s : State} {h : Issue} {o : CmdStartOp} {cid : Nat}
    (hg : s.grantsOf { s.cmd cid with started := (s.cmd cid).started ++ [h.die], ctag := o.ctag } = 0) :
    let t := s.startCmd h o cid
    Store.get? t.data.slots (slotKey h.die h.cslot) = some ⟨cid, o.first, o.count + 1, 0⟩ ∧
      (∀ a, o.first ≤ a → a < o.first + (o.count + 1) → t.valid a = false ∧ t.line a = 0) ∧
      (∀ a, ¬(o.first ≤ a ∧ a < o.first + (o.count + 1)) → t.line a = s.line a ∧ t.valid a = s.valid a) ∧
      slotKey h.die h.cslot ∉ t.data.squash ∧ s.Outside t := by
  intro t
  obtain ⟨hout, hdata⟩ := State.startCmd_data hg
  have hline : ∀ a, Store.get? t.data.skein a =
      if o.first ≤ a ∧ a < o.first + (o.count + 1) then none else Store.get? s.data.skein a := fun a => by
    rw [hdata, Store.get?_removeIf]
    simp
  refine ⟨?_, fun a hlo hhi => ?_, fun a ha => ?_, ?_, hout⟩
  · rw [hdata, Store.get?_put_same]
  · simp [State.valid, State.line, Store.getD, hline, hlo, hhi]
  · simp only [State.valid, State.line, Store.getD, hline, if_neg ha, and_self]
  · simp [t, hdata]

/-- R170. A trace value goes to the trace buffer. -/
theorem exec_traceMark_traces {s : State} {h : Issue} {o : TraceOp} (hsq : slotKey h.die h.cslot ∉ s.data.squash) :
    exec (.traceMark h o) s = .next { s with data := { s.data with
      trace := s.data.trace ++ [⟨o.value, s.row, h.cycle, h.cslot⟩] } } := by
  have hn : ¬(s.data.squash.contains (slotKey h.die h.cslot) = true) := by simpa using hsq
  exact if_neg hn

/-- R169. A barrier on which no error appears has no effect, whether or not it holds. -/
theorem exec_xBar_idle {s : State} {h : Issue} {o : XBarOp} (hb : h.bad = []) : exec (.xBar h o) s = .next s := by
  show execXBar h o s = _
  have hspoil : s.spoil h.bad = s := by simp [State.spoil, hb]
  simp only [execXBar, hspoil, ite_self, ok]

/-- R171. Progress is kept with the command. -/
theorem exec_xProg_marks {s : State} {h : Issue} {o : XProgOp} {cid : Nat} (hi : s.Issues h [] [] cid) :
    ∃ t, exec (.xProg h o) s = .next t ∧ (t.cmd cid).mark = o.mark ∧
      (t.cmd cid).markRow = s.rowOf (s.cmd cid) - (s.cmd cid).firstRow ∧ s.Outside t ∧ s.LinesKept t := by
  refine ⟨_, congrArg ok (State.issue_next hi _ _), ?_, ?_, s.outside_atIssue [], fun _ => ⟨rfl, rfl⟩⟩
  · simp only [State.cmd, State.setCmd, Store.getD_put_same]
  · simp only [State.cmd, State.setCmd, Store.getD_put_same]
    exact congrArg (· - (s.cmd cid).firstRow) (s.rowOf_atIssue [] (s.cmd cid))

/-- R172. X.END commits the step once every command of it has committed. -/
theorem exec_xEnd_commits {s : State} {h : Issue} {now : Nat} {st : StepRun} (hst : s.seq.step = some st)
    (hend : st.ended = false) (hall : ∀ c ∈ st.cids, (s.cmd c).committed = true) :
    exec (.xEnd h now) s =
      .next (((((s.commitStep now).closeSeqs).settleMotifs).releaseDoomed).settlePreempts) := by
  have hgo : ¬(st.ended = true ∨ st.cids.any (fun c => !(s.cmd c).committed) = true) := by simpa [hend] using hall
  show execXEnd h now s = _
  simp only [execXEnd, hst, if_neg hgo, ok]

/-- R172. X.END holds while a command of the step has not committed. -/
theorem exec_xEnd_holds {s : State} {h : Issue} {now : Nat} {st : StepRun} {c : Nat} (hst : s.seq.step = some st)
    (hc : c ∈ st.cids) (hopen : (s.cmd c).committed = false) : exec (.xEnd h now) s = .next s := by
  have hwait : st.ended = true ∨ st.cids.any (fun c => !(s.cmd c).committed) = true :=
    .inr (List.any_eq_true.mpr ⟨c, hc, by simp [hopen]⟩)
  show execXEnd h now s = _
  simp only [execXEnd, hst, if_pos hwait, ok]

/-- Settles O9: the link's instructions from their issue, each role of a reduction from one lemma, and the control
instructions branch by branch. -/
theorem controlAndLinkComplete : Obligations.ControlAndLinkComplete :=
  ⟨fun _ _ _ _ => exec_lkSend_sends, fun _ _ _ _ _ => exec_lkRecv_writes,
    fun _ _ _ _ _ hshort hfwd hst hlen hi => (exec_lkRecv_staged hshort hst hlen hi).trans (by rw [if_pos hfwd]),
    fun _ _ _ _ => exec_lkRecv_long, fun _ _ _ _ => exec_lkRed_first, fun _ _ _ _ _ => exec_lkRed_passes,
    fun _ _ _ _ _ => exec_lkRed_adds, fun _ _ _ _ _ => exec_lkRed_delivers,
    fun _ _ _ _ _ => exec_cmdStart_starts, fun _ _ _ _ => State.startCmd_shows, fun _ _ _ => exec_traceMark_traces,
    fun _ _ _ => exec_xBar_idle, fun _ _ _ _ => exec_xProg_marks, fun _ _ => rfl, fun _ _ _ _ => exec_xEnd_commits,
    fun _ _ _ _ _ => exec_xEnd_holds⟩

end Sys2Proof.Machine
end

section
/-!
The events of the tiers (O19): write-backs, granules and host reads are one branch of their command each; a frame that was
released reads zero and is FREE again; the flash registers follow wear and failed channels, and leave the tiers alone.
-/

namespace Sys2Proof.Machine

/-! ### Moves -/

/-- R340. The tensor that has been dirty longest starts its write-back. -/
theorem exec_writebackStart_starts {s : State} {o : WritebackOp} {x : Tensor} {rest : List Tensor}
    (hen : s.flag Reg.MOV_CTRL_WB_EN = true) (hdelay : o.delayed = true) (hdirty : s.dirtyOf (fun _ => true) = x :: rest) :
    exec (.writebackStart o) s = .next (s.writeBack x) := by
  show execWritebackStart o s = _
  simp [execWritebackStart, hen, hdelay, hdirty]

/-- R109, R338. The move served next gains its granule. -/
theorem exec_moveGranuleDone_lands {s : State} {o : MoveGranuleOp} {m : Move} (hm : s.nextServed = some m) :
    exec (.moveGranuleDone o) s =
      .next ({ s with tier := { s.tier with served := m.fn } }.landGranule m o.lines o.fail).settle.bindAdvance := by
  show execMoveGranuleDone o s = _
  simp only [execMoveGranuleDone, hm, ok]

/-- R488. A squashed host read is discarded. -/
theorem exec_hostReadCompletion_squashed {s : State} {o : HostReadOp} (h : o.move ∈ s.host.squashReads) :
    ∃ t, exec (.hostReadCompletion o) s = .next t ∧ t.host.squashReads = s.host.squashReads.erase o.move ∧
      t.tier = s.tier ∧ t.regs = s.regs :=
  ⟨_, if_pos (List.contains_iff_mem.mpr h), rfl, rfl, rfl⟩

/-- R109. A host read lands in the move that waits for it. -/
theorem exec_hostReadCompletion_lands {s : State} {o : HostReadOp} {m : Move} (h : o.move ∉ s.host.squashReads)
    (hrun : s.flag Reg.MOV_CTRL_PAUSE = false)
    (hm : s.tier.moves.find? (fun m => m.id == o.move && m.running && !m.stopped &&
      m.segs.any (fun g => g.srcTier == .host)) = some m) :
    exec (.hostReadCompletion o) s = .next ({ s with tier := { s.tier with served := m.fn } }.landGranule m o.lines
      (if o.failed then 2 else 0)).settle := by
  show execHostReadCompletion o s = _
  simp [execHostReadCompletion, h, hm, hrun]

/-! ### Stitch markers and space -/

/-- R578. A sample of a marker changes its STATUS and its crossing counter only. -/
theorem State.reg_sample_of_ne (s : State) (status inten count : Fld) (isBeyond : Bool) {f : Fld}
    (hs : f.off * 32 + f.lo ≠ status.off * 32 + status.lo) (hc : f.off * 32 + f.lo ≠ count.off * 32 + count.lo) :
    (s.sample 0 status inten count isBeyond).reg f = s.reg f := by
  have hset : ∀ (u : State) (v w : Nat), ((u.setF 0 status v).setF 0 count w).reg f = u.reg f := fun u v w =>
    (State.reg_set_ne _ _ _ _ hc).trans (State.reg_set_ne _ _ _ _ hs)
  unfold State.sample
  dsimp only
  split
  · split
    · rfl
    · split <;> exact hset _ _ _
  · split <;> rfl

/-- The tiers are left alone. -/
def State.TierKept (s t : State) : Prop := t.tier = s.tier

namespace State.TierKept

variable {s₀ s : State}

theorem refl (s : State) : s.TierKept s := rfl

theorem set (h : s₀.TierKept s) {f : Fld} {v : Nat} : s₀.TierKept (s.set f v) := h

theorem ite {c : Prop} [Decidable c] {t u : State} (ht : s₀.TierKept t) (hu : s₀.TierKept u) :
    s₀.TierKept (if c then t else u) := by
  split
  · exact ht
  · exact hu

theorem sample (h : s₀.TierKept s) {fn : Nat} {status inten count : Fld} {isBeyond : Bool} :
    s₀.TierKept (s.sample fn status inten count isBeyond) :=
  .ite (.ite h (.ite h h)) (.ite h h)

/-- Showing the space in the tiers changes registers only. -/
theorem showSpace (h : s₀.TierKept s) : s₀.TierKept s.showSpace := by
  unfold State.showSpace
  extract_lets free near pend deep dirty active queued lent shown low thresh
  have hshown : s₀.TierKept shown := h.set.set.set.set.set.set.set.set.set.set
  exact .sample (.ite hshown.set hshown)

/-- Showing the free share of the deep tier changes registers only. -/
theorem showFlashFree (h : s₀.TierKept s) {pct : Nat} : s₀.TierKept (s.showFlashFree pct) :=
  .sample (.ite h.set.set h.set)

end State.TierKept

@[simp] theorem State.showSpace_tier (s : State) : s.showSpace.tier = s.tier := State.TierKept.refl s |>.showSpace

@[simp] theorem State.showFlashFree_tier (s : State) (pct : Nat) : (s.showFlashFree pct).tier = s.tier :=
  State.TierKept.refl s |>.showFlashFree


/-- With no park and no move that has ended, nothing settles. -/
theorem State.settle_tier_of_idle {s : State} (hp : s.tier.parks = []) (he : s.tier.ended = []) : s.settle.tier = s.tier := by
  simp only [State.settle, hp, he, List.foldl_nil]
  rw [← he, ← hp]

/-! ### Zeroed frames -/

/-- No part of a zeroed frame lies outside of it. -/
theorem outsideFrame_self (f owner : Nat) : outsideFrame f (256 * f, 256, owner) = [] := by
  simp [outsideFrame]

theorem overlaps_self (f : Nat) : overlaps (256 * f, 256) (256 * f, 256) = true := by
  simp [overlaps]

/-- R459. A frame whose zeros are written is FREE, reads zero, and the bytes of other frames are as before. -/
theorem exec_zeroFillDone_frees {s : State} {f : Nat} {r : Region} (hr : Store.get? s.tier.regions f = some r)
    (hstate : r.state = 2) (hhold : r.hold = false) (hz : s.tier.zeroPend = [(256 * f, 256, r.owner)])
    (hp : s.tier.parks = []) (he : s.tier.ended = []) :
    ∃ t, exec (.zeroFillDone f) s = .next t ∧ Store.get? t.tier.regions f = none ∧ t.tier.zeroPend = [] ∧
      (∀ a, 65536 * f ≤ a → a < 65536 * f + 65536 → Memory.read t.tier.near a = 0) ∧
      (∀ a, ¬(65536 * f ≤ a ∧ a < 65536 * f + 65536) → Memory.read t.tier.near a = Memory.read s.tier.near a) := by
  have hexec : ∃ t, exec (.zeroFillDone f) s = .next t ∧ t.tier = { s.tier with
      near := Memory.zero s.tier.near (65536 * f) 65536, regions := Store.erase s.tier.regions f, zeroPend := [] } := by
    refine ⟨_, rfl, (State.settle_tier_of_idle ?_ ?_).trans ?_⟩
    · simpa using hp
    · simpa using he
    · have hbytes : 256 * (256 * f) = 65536 * f := by omega
      simp [hr, hstate, hhold, hz, outsideFrame_self, overlaps_self, hbytes]
  obtain ⟨t, ht, htier⟩ := hexec
  refine ⟨t, ht, ?_, ?_, fun a hlo hhi => ?_, fun a ha => ?_⟩ <;> rw [htier]
  · exact Store.get?_erase_same _ _
  · exact (Memory.read_zero _ _ _ _).trans (if_pos ⟨hlo, hhi⟩)
  · exact (Memory.read_zero _ _ _ _).trans (if_neg ha)

/-! ### Flash -/

/-- R365. The free share shows in FTL_STATUS, in the low-water mark, and in its marker. -/
theorem State.reg_showFlashFree_of_ne (s : State) (pct : Nat) {f : Fld}
    (hst : f.off * 32 + f.lo ≠ Reg.FTL_STATUS_GC_URGENT.off * 32 + Reg.FTL_STATUS_GC_URGENT.lo)
    (hlow : f.off * 32 + f.lo ≠ Reg.FTL_MARK_LOW_LOW.off * 32 + Reg.FTL_MARK_LOW_LOW.lo)
    (hmark : f.off * 32 + f.lo ≠ Reg.FTL_MARK_STATUS.off * 32 + Reg.FTL_MARK_STATUS.lo)
    (hcross : f.off * 32 + f.lo ≠ Reg.FTL_MARK_CROSS_CROSSINGS.off * 32 + Reg.FTL_MARK_CROSS_CROSSINGS.lo) :
    (s.showFlashFree pct).reg f = s.reg f := by
  unfold State.showFlashFree
  dsimp only
  rw [State.reg_sample_of_ne _ _ _ _ _ hmark hcross]
  split
  · rw [State.reg_set_ne _ _ _ _ hlow, State.reg_set_ne _ _ _ _ hst]
  · exact State.reg_set_ne _ _ _ _ hst

/-- A count over two registers changes no other. -/
theorem State.reg_inc2_of_ne (s : State) (lo hi : Fld) (n : Nat) {f : Fld}
    (hlo : f.off * 32 + f.lo ≠ lo.off * 32 + lo.lo) (hhi : f.off * 32 + f.lo ≠ hi.off * 32 + hi.lo) :
    (s.inc2 lo hi n).reg f = s.reg f :=
  (State.reg_set_ne _ _ _ _ hhi).trans (State.reg_set_ne _ _ _ _ hlo)

@[simp] theorem State.reg_inc_same (s : State) (f : Fld) (n : Nat) : (s.inc f n).reg f = (s.reg f + n) % 2 ^ f.width :=
  State.reg_set_same _ _ _

theorem State.reg_inc_ne (s : State) (f g : Fld) (n : Nat) (h : g.off * 32 + g.lo ≠ f.off * 32 + f.lo) :
    (s.inc f n).reg g = s.reg g :=
  State.reg_set_ne _ _ _ _ h

/-- R353, R365. A collected block is counted, and the registers show the life that is left. -/
theorem exec_flashWearOp_counts {s : State} {o : WearOp} (hk : o.kind = 0) (hs : o.spareLeft ≠ 0) :
    ∃ t, exec (.flashWearOp o) s = .next t ∧
      t.reg Reg.FTL_GC_BLOCKS_BLOCKS = (s.reg Reg.FTL_GC_BLOCKS_BLOCKS + 1) % 2 ^ 32 ∧
      t.reg Reg.FTL_LIFE_SPARE_LEFT = min 100 o.spareLeft ∧
      t.reg Reg.FTL_PARITY_FIX_COUNT = (s.reg Reg.FTL_PARITY_FIX_COUNT + o.parityFixes) % 2 ^ 32 ∧ t.tier = s.tier := by
  have hfit : min 100 o.spareLeft % 2 ^ Reg.FTL_LIFE_SPARE_LEFT.width = min 100 o.spareLeft :=
    Nat.mod_eq_of_lt (Nat.lt_of_le_of_lt (Nat.min_le_left _ _) (by decide))
  show ∃ t, execFlashWearOp o s = .next t ∧ _
  simp only [execFlashWearOp, hk, if_neg hs]
  refine ⟨_, rfl, ?_, ?_, ?_, by simp [State.inc2]⟩ <;>
    simp (disch := decide) only [State.reg_inc_same, State.reg_inc_ne, State.reg_showFlashFree_of_ne, State.reg_set_same,
      State.reg_set_ne, State.reg_inc2_of_ne]
  · rfl
  · exact hfit
  · rfl

/-- Writing a Tink entry of a block changes no register but TNK_SEQ. -/
theorem State.reg_tinkOpen_of_ne (s : State) (block fn : Nat) (args : List Byte) {f : Fld}
    (h : f.off * 32 + f.lo ≠ Reg.TNK_SEQ_ENTRY_SEQ.off * 32 + Reg.TNK_SEQ_ENTRY_SEQ.lo) :
    (s.tinkOpen block fn args).reg f = s.reg f :=
  State.reg_tinkAt_of_ne _ _ _ _ _ h

/-- R354. The deep tier becomes read-only; its contents stay. -/
theorem State.deepReadOnly_shows {s : State} (h : s.flag Reg.FTL_STATUS_READ_ONLY = false) :
    s.deepReadOnly.reg Reg.FTL_STATUS_READ_ONLY = 1 ∧ s.deepReadOnly.tier = s.tier ∧
      s.deepReadOnly.reg Reg.FTL_ERR_CHANNEL_FAIL = s.reg Reg.FTL_ERR_CHANNEL_FAIL ∧
      s.deepReadOnly.reg Reg.FTL_LIFE_SPARE_LEFT = s.reg Reg.FTL_LIFE_SPARE_LEFT := by
  have hn : ¬(s.flag Reg.FTL_STATUS_READ_ONLY = true) := by simp [h]
  unfold State.deepReadOnly
  rw [if_neg hn]
  refine ⟨?_, rfl, ?_, ?_⟩ <;> simp (disch := decide) only [State.reg_tinkOpen_of_ne, State.reg_set_ne, State.reg_set_same]
  rfl

/-- R354. A failed channel is flagged, and one channel fewer is shown. -/
def State.channelFailed (s : State) : State :=
  (s.set Reg.FTL_STATUS_CHANNELS_OK (s.reg Reg.FTL_STATUS_CHANNELS_OK - 1)).set Reg.FTL_ERR_CHANNEL_FAIL 1

/-- R354. A failed channel is flagged and leaves the deep tier writable. -/
theorem exec_flashChannelFail_flags (s : State) :
    ∃ t, exec (.flashChannelFail false) s = .next t ∧ t.reg Reg.FTL_STATUS_READ_ONLY = s.reg Reg.FTL_STATUS_READ_ONLY ∧
      t.reg Reg.FTL_ERR_CHANNEL_FAIL = 1 ∧ t.tier = s.tier := by
  refine ⟨s.channelFailed, rfl, ?_, State.reg_set_same _ _ _, rfl⟩
  simp (disch := decide) only [State.channelFailed, State.reg_set_ne]

/-- R354. Where the failed channel takes the last spare block, the deep tier becomes read-only. -/
theorem exec_flashChannelFail_exhausted {s : State} (h : s.flag Reg.FTL_STATUS_READ_ONLY = false) :
    ∃ t, exec (.flashChannelFail true) s = .next t ∧ t.reg Reg.FTL_STATUS_READ_ONLY = 1 ∧
      t.reg Reg.FTL_ERR_CHANNEL_FAIL = 1 ∧ t.reg Reg.FTL_LIFE_SPARE_LEFT = 0 ∧ t.tier = s.tier := by
  have hro : (s.channelFailed.set Reg.FTL_LIFE_SPARE_LEFT 0).flag Reg.FTL_STATUS_READ_ONLY = false := by
    simpa (disch := decide) only [State.channelFailed, State.flag_set_ne] using h
  obtain ⟨hread, htier, herr, hspare⟩ := State.deepReadOnly_shows hro
  refine ⟨_, rfl, hread, herr.trans ?_, hspare.trans ?_, htier⟩
  · simp (disch := decide) only [State.channelFailed, State.reg_set_ne, State.reg_set_same]
    rfl
  · exact State.reg_set_same _ _ _

/-- Settles O19: each event is one branch of its command, and the registers that it shows are apart. -/
theorem tierEventsComplete : Obligations.TierEventsComplete :=
  ⟨fun _ _ _ _ => exec_writebackStart_starts, fun _ _ _ => exec_moveGranuleDone_lands,
    fun _ _ => exec_hostReadCompletion_squashed, fun _ _ _ => exec_hostReadCompletion_lands,
    fun _ _ _ => exec_zeroFillDone_frees, fun _ _ => exec_flashWearOp_counts,
    fun s h => ⟨exec_flashChannelFail_exhausted h, exec_flashChannelFail_flags s⟩⟩

end Sys2Proof.Machine
end

section
/-!
The frames of a bulk stream (O35). A frame that arrives takes its effect on the machine that its arrival leaves
(`State.onFrame_arrives`); what remains of each frame is which relay, long receive or model it finds there.
-/

namespace Sys2Proof.Machine

/-- A frame that arrives takes its effect. -/
theorem State.onFrame_arrives {s a : State} {l n : Nat} {onDegraded : Bool} (h : s.arriveFrame l n onDegraded = some a)
    (k : State → State) : s.onFrame l n onDegraded k = .next (k a) := by
  rw [State.onFrame, h, ok]

/-- R418. The stream of a relay that is waited for is accepted, and opened on the next link of a chain. -/
theorem exec_bulkOpen_accepts {s a : State} {o : BulkOpenOp} {r : Relay} (ha : s.arriveFrame o.link 1 true = some a)
    (hr : a.fab.relays.find? (fun r => r.linkIn == some o.link && r.slot == o.slot && !r.opened) = some r)
    (hsizes : r.sizes = o.sizes) :
    let b := (a.setRelay r { r with stream := o.stream, opened := true, expected := o.digest }).send o.link
      (.bulkAccept o.stream)
    exec (.bulkOpen o) s = .next (r.linkOut.elim b (fun l => b.send l (.bulkOpen o.stream o.slot o.sizes o.digest))) := by
  refine (State.onFrame_arrives ha _).trans ?_
  simp only [hr, hsizes, ne_eq, not_true, if_false]

/-- R418, R421. A refused stream keeps the status of its refusal. -/
theorem exec_bulkRefuse_refuses {s a : State} {o : BulkCtlOp} {r : Relay} (ha : s.arriveFrame o.link 0 true = some a)
    (hr : a.relayOut o.link o.stream = some r) :
    exec (.bulkRefuse o) s = .next (a.setRelay r { r with accepted := false, outStatus := o.status }) := by
  refine (State.onFrame_arrives ha _).trans ?_
  simp only [hr]

/-- R418, R419. An accepted stream is sent out of a landed copy, or as far as it has landed. -/
theorem exec_bulkAccept_sends {s a : State} {o : BulkCtlOp} {r : Relay} (ha : s.arriveFrame o.link 0 true = some a)
    (hr : a.relayOut o.link o.stream = some r) :
    let b := a.setRelay r { r with accepted := true }
    let x := b.model r.slot
    exec (.bulkAccept o) s = .next (if x.state = 2 then b.sendStream r x x.digest 0
      else if r.linkIn.isSome then b.sendGranules r x 0 r.granules else b) := by
  refine (State.onFrame_arrives ha _).trans ?_
  simp only [hr]

/-- R420. A stream that is resumed is sent from the granule that its receiver names. -/
theorem exec_bulkResume_sends {s a : State} {o : BulkCtlOp} {r : Relay} (ha : s.arriveFrame o.link 0 true = some a)
    (hr : a.relayOut o.link o.stream = some r) :
    let x := a.model r.slot
    exec (.bulkResume o) s = .next (if x.state = 2 then a.sendStream r x x.digest o.granule
      else if r.linkIn.isSome then a.sendGranules r x o.granule r.granules else a) := by
  refine (State.onFrame_arrives ha _).trans ?_
  simp only [hr]

/-- R421. CLOSE gives the digest of the stream, which ends where its last granule has come. -/
theorem exec_bulkClose_closes {s a : State} {o : BulkCtlOp} {r : Relay} (ha : s.arriveFrame o.link 1 true = some a)
    (hr : a.relayIn o.link o.stream = some r) (hload : (a.model r.slot).state = 1) :
    let r' := { r with closed := some o.digest }
    exec (.bulkClose o) s = .next ((a.setRelay r r').endRelay r') := by
  refine (State.onFrame_arrives ha _).trans ?_
  simp only [hr, hload, ne_eq, not_true, if_false]

/-- R419. The lines of a stream that ends here land in the shards, and the last line of a granule acknowledges it. -/
theorem exec_bulkFrame_lands {s a : State} {o : BulkOp} {r : Relay}
    (ha : s.arriveFrame o.link o.lines.length true = some a) (hr : a.relayIn o.link o.stream = some r)
    (hout : r.linkOut = none) (hload : (a.model r.slot).state = 1) (hnext : o.granule = r.granules) :
    let places := a.relayPlaces (a.model r.slot)
    let lines := (places.map (·.2)).foldl (· + ·) 0
    4096 * o.granule + o.first + o.lines.length ≤ lines →
    let b := o.lines.zipIdx.foldl (fun (s : State) (p : LineData × Nat) =>
      (placeOf places (4096 * o.granule + o.first + p.2)).elim s (fun x => s.writeNear x [p.1])) a
    let r' := { r with granules := r.granules + 1 }
    exec (.bulkFrame o) s = .next (if o.first + o.lines.length < min 4096 (lines - 4096 * o.granule) then b
      else ((b.setRelay r r').send o.link (.bulkAck o.stream o.granule)).endRelay r') := by
  intro places lines hin b r'
  have hplaced : ¬(o.granule ≠ r.granules ∨ lines < 4096 * o.granule + o.first + o.lines.length ∨
      (a.model r.slot).state ≠ 1) := by
    simp only [hnext, hload, ne_eq, not_true, or_false, false_or, Nat.not_lt]
    exact hnext ▸ hin
  refine (State.onFrame_arrives ha _).trans ?_
  simp only [hr, hout]
  rw [if_neg hplaced, ← hout]

/-- R109, R167. Lines that belong to no relay are those of the long receive on their link. -/
theorem exec_bulkFrame_long {s a : State} {o : BulkOp} {r : LongRecv}
    (ha : s.arriveFrame o.link o.lines.length true = some a) (hr : a.relayIn o.link o.stream = none)
    (hlong : a.fab.longs.find? (fun r => r.link == o.link) = some r) :
    exec (.bulkFrame o) s = .next (a.landLong r o) := by
  refine (State.onFrame_arrives ha _).trans ?_
  simp only [hr, hlong, Option.elim_some]

/-- R421. A receiver that waits too long fails its load. -/
theorem exec_relayTimeout_fails {s : State} {slot : Nat} {r : Relay}
    (hr : s.fab.relays.find? (fun r => r.slot == slot && r.linkIn.isSome && r.opened) = some r)
    (hload : (s.model slot).state = 1) : exec (.relayTimeout slot) s = .next (s.failRelay r .faulted) := by
  show execRelayTimeout slot s = _
  simp only [execRelayTimeout, hr, hload, if_true, ok]

/-- Settles O35: each frame's effect is one branch of its command, on the machine that the arrival leaves. -/
theorem bulkFramesComplete : Obligations.BulkFramesComplete :=
  ⟨fun _ _ _ _ => exec_bulkOpen_accepts,
    fun _ _ _ _ ha hr => ⟨exec_bulkRefuse_refuses ha hr, exec_bulkAccept_sends ha hr, exec_bulkResume_sends ha hr⟩,
    fun _ _ _ ha => State.onFrame_arrives ha id, fun _ _ _ _ => exec_bulkClose_closes,
    fun _ _ _ _ ha hr hout hload hnext hin =>
      have hland := exec_bulkFrame_lands ha hr hout hload hnext hin
      ⟨fun hmore => hland.trans (by rw [if_pos hmore]), fun hlast => hland.trans (by rw [if_neg (by omega)])⟩,
    fun _ _ _ _ => exec_bulkFrame_long, fun _ _ _ => exec_relayTimeout_fails⟩

end Sys2Proof.Machine
end

section
/-!
The words of the spec (O57), and the stages UNPACK (O1) and PACK (O3). An instruction with known formats that nothing bars takes its
effect (`State.issue_next`); what is then written and counted is `State.stage_write`.
-/

namespace Sys2Proof.Machine

/-- Settles O57: the words of the spec are closed, and the decoder evaluates on them. -/
theorem trolumWordsDecode : Obligations.TrolumWordsDecode := by
  unfold Obligations.TrolumWordsDecode
  decide

theorem State.Issues.die_lt {s : State} {h : Issue} {reads writes : List Nat} {cid : Nat}
    (hi : s.Issues h reads writes cid) : h.die < 2 := by
  obtain ⟨-, hdie, -⟩ := hi
  exact hdie

/-! ### UNPACK -/

/-- R143. Codes that an issued instruction of a stage writes: their lines, the stage's counts, and nothing else. -/
theorem State.Issues.putCodes {s : State} {h : Issue} {reads writes : List Nat} {cid stage : Nat}
    (hi : s.Issues h reads writes cid) (hst : stage < 5) (dst width : Nat) (c : Codes) :
    let t := (s.atIssue reads).putCodes h stage dst width c
    s.LinesAre t dst (codeLines width c.codes) ∧ State.Counted stage c.sat c.nf h s t ∧ State.StageOnly stage h s t :=
  s.stage_write h hi.die_lt hst reads dst c.sat c.nf (codeLines width c.codes)

/-- R143, R198. Elements of one format as codes of another. -/
theorem exec_unpCvt_puts {s : State} {h : Issue} {o : UnpCvtOp} {cid : Nat} {sf df : Fmt}
    (hsf : Fmt.ofCode o.sfmt = some sf) (hdf : Fmt.ofCode o.dfmt = some df)
    (hi : s.Issues h (range o.src (linesFor (o.ecnt + 1) sf.width)) (range o.dst (linesFor (o.ecnt + 1) df.width)) cid) :
    exec (.unpCvt h o) s = .next ((s.atIssue (range o.src (linesFor (o.ecnt + 1) sf.width))).putCodes h 0 o.dst df.width
      (unpCvt sf df (s.linesAt o.src (linesFor (o.ecnt + 1) sf.width)) (o.ecnt + 1))) := by
  show execUnpCvt h o s = _
  simp only [execUnpCvt, hsf, hdf, ok, State.issue_next hi, State.linesAt_atIssue]

/-- R143, R183. A scaled block as codes without scales. -/
theorem exec_unpDq_puts {s : State} {h : Issue} {o : UnpDqOp} {cid : Nat} {sf df sc : Fmt}
    (hsf : Fmt.ofCode o.sfmt = some sf) (hdf : Fmt.ofCode o.dfmt = some df) (hsc : Fmt.ofCode o.scfmt = some sc)
    (hi : s.Issues h (range o.src (blockDims sf sc (groupSize o.group) (o.ecnt + 1)).total)
      (range o.dst (linesFor (o.ecnt + 1) df.width)) cid) :
    exec (.unpDq h o) s = .next ((s.atIssue (range o.src (blockDims sf sc (groupSize o.group) (o.ecnt + 1)).total)).putCodes
      h 0 o.dst df.width (unpDq sf df sc (o.qmode == 1) (groupSize o.group) (o.ecnt + 1)
        (s.linesAt o.src (blockDims sf sc (groupSize o.group) (o.ecnt + 1)).total))) := by
  show execUnpDq h o s = _
  simp only [execUnpDq, hsf, hdf, hsc, ok, State.issue_next hi, State.linesAt_atIssue]

/-- R143, R202. Rotated blocks, with the signs of a line. -/
theorem exec_unpRht_puts {s : State} {h : Issue} {o : UnpRhtOp} {cid : Nat} {f : Fmt} (hf : Fmt.ofCode o.fmt = some f)
    (hi : s.Issues h (range o.src (linesFor (o.ecnt + 1) f.width) ++ [o.signs])
      (range o.dst (linesFor (o.ecnt + 1) f.width)) cid) :
    exec (.unpRht h o) s = .next ((s.atIssue (range o.src (linesFor (o.ecnt + 1) f.width) ++ [o.signs])).putCodes h 0
      o.dst f.width (unpRht f o.blk (s.line o.signs).toNat (o.inv == 1)
        (s.linesAt o.src (linesFor (o.ecnt + 1) f.width)) (o.ecnt + 1))) := by
  show execUnpRht h o s = _
  simp only [execUnpRht, hf, ok, State.issue_next hi, State.linesAt_atIssue, State.line_atIssue]

/-- R143. Elements in another layout. -/
theorem exec_unpLay_puts {s : State} {h : Issue} {o : UnpLayOp} {cid : Nat} {f : Fmt} (hf : Fmt.ofCode o.fmt = some f)
    (hi : s.Issues h (range o.src (linesFor (o.ecnt + 1) f.width))
      (range o.dst (linesFor (layMap o.op (o.rowlen + 1) (o.ecnt + 1)).length f.width)) cid) :
    exec (.unpLay h o) s = .next ((s.atIssue (range o.src (linesFor (o.ecnt + 1) f.width))).putCodes h 0 o.dst f.width
      (unpLay f o.op (o.rowlen + 1) (s.linesAt o.src (linesFor (o.ecnt + 1) f.width)) (o.ecnt + 1))) := by
  show execUnpLay h o s = _
  simp only [execUnpLay, hf, ok, State.issue_next hi, State.linesAt_atIssue]

/-- Settles O1: each of the four instructions puts the codes of its conversion. -/
theorem unpackCompletes : Obligations.UnpackCompletes :=
  ⟨fun _ _ _ _ _ _ hsf hdf hi => ⟨_, exec_unpCvt_puts hsf hdf hi, hi.putCodes (by decide) _ _ _⟩,
    fun _ _ _ _ _ _ _ hsf hdf hsc hi => ⟨_, exec_unpDq_puts hsf hdf hsc hi, hi.putCodes (by decide) _ _ _⟩,
    fun _ _ _ _ _ hf hi => ⟨_, exec_unpRht_puts hf hi, hi.putCodes (by decide) _ _ _⟩,
    fun _ _ _ _ _ hf hi => ⟨_, exec_unpLay_puts hf hi, hi.putCodes (by decide) _ _ _⟩⟩

/-! ### PACK -/

/-- R313. A kept stream is the one that the command draws from next. -/
theorem State.workStream_keepStream_same (s : State) (cid k : Nat) (st : Stream) :
    (s.keepStream cid k st).workStream cid k = st := by
  simp only [State.workStream, State.keepStream, State.cmd, State.setCmd, Store.getD_put_same, Store.get?_put_same]

/-- R160, R161. A scaled block that an issued instruction packs: its lines, the stage's counts, and nothing else. -/
theorem State.Issues.pack {s : State} {h : Issue} {reads writes : List Nat} {cid : Nat}
    (hi : s.Issues h reads writes cid) (o : PkOp) (f sc : Fmt) (rm : Nat → RMode) :
    let q := quantBlock f sc (o.qmode == 1) (groupSize o.group) (o.ecnt + 1) (s.linesAt o.src (linesFor (o.ecnt + 1) 32)) rm
    let t := (s.atIssue reads).pack h o f sc rm
    s.LinesAre t o.dst (q.lines f sc) ∧ State.Counted 4 q.elems.sat q.elems.nf h s t ∧ State.StageOnly 4 h s t :=
  s.stage_write h hi.die_lt (by decide) reads o.dst _ _ _

/-- R160. Ties away from zero. -/
theorem exec_pkQ_packs {s : State} {h : Issue} {o : PkOp} {cid : Nat} {f sc : Fmt}
    (hf : Fmt.ofCode o.fmt = some f) (hsc : Fmt.ofCode o.scfmt = some sc)
    (hi : s.Issues h (range o.src (linesFor (o.ecnt + 1) 32))
      (range o.dst (blockDims f sc (groupSize o.group) (o.ecnt + 1)).total) cid) :
    exec (.pkQ h o) s = .next ((s.atIssue (range o.src (linesFor (o.ecnt + 1) 32))).pack h o f sc (fun _ => .away)) := by
  show execPkQ h o s = _
  simp only [execPkQ, hf, hsc, ok, State.issue_next hi]

/-- R161, R193. One word of the command's stream for each element. -/
theorem exec_pkSr_packs {s : State} {h : Issue} {o : PkOp} {cid : Nat} {f sc : Fmt}
    (hf : Fmt.ofCode o.fmt = some f) (hsc : Fmt.ofCode o.scfmt = some sc)
    (hi : s.Issues h (range o.src (linesFor (o.ecnt + 1) 32))
      (range o.dst (blockDims f sc (groupSize o.group) (o.ecnt + 1)).total) cid) :
    let k := s.cmdFn cid * 16 + o.rsel % 16
    let d := Stream.draws (o.ecnt + 1) (s.workStream cid k)
    exec (.pkSr h o) s = .next (((s.atIssue (range o.src (linesFor (o.ecnt + 1) 32))).pack h o f sc
      (fun i => .stoch (d.1.getD i 0).toNat)).keepStream cid k d.2) := by
  show execPkSr h o s = _
  simp only [execPkSr, hf, hsc, ok, State.issue_next hi]
  rfl

/-- Settles O3: both pack a block; PK.SR also keeps its stream, which touches the command alone. -/
theorem packCompletes : Obligations.PackCompletes := by
  refine ⟨fun _ _ o _ f sc hf hsc hi => ⟨_, exec_pkQ_packs hf hsc hi, hi.pack o f sc _⟩, ?_⟩
  intro s h o cid f sc hf hsc hi k d q
  obtain ⟨hlines, hcounts, hout, -⟩ := hi.pack o f sc (fun i => .stoch (d.1.getD i 0).toNat)
  exact ⟨_, exec_pkSr_packs hf hsc hi, hlines.kept fun _ => ⟨rfl, rfl⟩, hcounts,
    State.workStream_keepStream_same _ _ _ _, hout⟩

end Sys2Proof.Machine
end

section
/-!
The stage CHAIN (O5). A chain instruction that nothing bars takes its effect (`State.issueChain_next`), and a locator's lines go to
the skein or to the tile buffers (`State.writeLoc_rest`). VC.SMAX writes twice and counts special rows between and after:
`State.smaxPut` names that effect, and its data path is that of the two writes alone.
-/

namespace Sys2Proof.Machine

/-! ### Locators -/

/-- R130, R153. A chain instruction that nothing bars, and that reads no other slot's tile-buffer lines, takes its effect. -/
theorem State.issueChain_next {s : State} {h : Issue} {reads writes bufs : List Nat} {cid : Nat}
    (hi : s.Issues h reads writes cid) (hown : s.bufForeign h bufs = false) (op : Nat) (k : Nat → State → State) :
    s.issueChain h op reads writes bufs k = k cid (s.atIssue reads) := by
  have hown' : ¬((s.atIssue reads).bufForeign h bufs = true) := by
    show ¬(s.bufForeign h bufs = true)
    simp [hown]
  rw [State.issueChain, State.issue_next hi, if_neg hown']

theorem State.writeBuf_rest (s : State) (h : Issue) (ks : List Nat) (ds : List LineData) :
    ∃ bufs, s.writeBuf h ks ds = { s with data := { s.data with tbufs := bufs } } := by
  induction ks generalizing s ds with
  | nil => exact ⟨s.data.tbufs, by simp [State.writeBuf]⟩
  | cons k ks ih =>
    cases ds with
    | nil => exact ⟨s.data.tbufs, by simp [State.writeBuf]⟩
    | cons d ds =>
      obtain ⟨bufs, e⟩ := ih { s with data := { s.data with tbufs := Store.put s.data.tbufs k (h.cslot, d) } } ds
      exact ⟨bufs, e⟩

/-- R128. Lines written from a locator on go to the skein or to the tile buffers. -/
theorem State.writeLoc_rest (s : State) (h : Issue) (loc : Nat) (l : List LineData) :
    ∃ sk bd bufs, s.writeLoc h loc l = { s with data := { s.data with skein := sk, bad := bd, tbufs := bufs } } := by
  unfold State.writeLoc
  split
  · obtain ⟨bufs, e⟩ := s.writeBuf_rest h (locKeys h loc l.length) l
    exact ⟨_, _, bufs, e⟩
  · obtain ⟨sk, bd, e⟩ := s.writeLines_rest (loc % 2 ^ 21) l
    exact ⟨sk, bd, _, e⟩

/-- R304. Whether a reduction is a loss write rests on the commands and the slots alone. -/
theorem State.isLoss_congr {s t : State} (hcmds : t.data.cmds = s.data.cmds) (hslots : t.data.slots = s.data.slots)
    (h : Issue) (cid : Nat) (o : VcRedOp) : t.isLoss h cid o = s.isLoss h cid o := by
  simp only [State.isLoss, State.cmd, hcmds, hslots]

theorem State.isLoss_written (s : State) (h : Issue) (cid : Nat) (o : VcRedOp) (reads : List Nat) (loc : Nat)
    (l : List LineData) (stage sat nf : Nat) :
    (((s.atIssue reads).writeLoc h loc l).counts h stage sat nf).isLoss h cid o = s.isLoss h cid o := by
  obtain ⟨sk, bd, bufs, e⟩ := (s.atIssue reads).writeLoc_rest h loc l
  exact State.isLoss_congr (by rw [State.counts_data, e]; rfl) (by rw [State.counts_data, e]; rfl) h cid o

/-! ### Programs and reductions -/

/-- R153, R155. A program runs from the text that its own command loaded. -/
theorem exec_vcProg_runs {s : State} {h : Issue} {o : VcProgOp} {cid : Nat} {text : LineData} :
    let p := Prog.ofLine text
    let la := linesFor (o.ecnt + 1) (chainWidth o.xin)
    let lb := if p.readsB then bLines p o.xin (o.ecnt + 1) else 0
    let lw := if p.bitout then linesFor (o.ecnt + 1) 1 else linesFor (o.ecnt + 1) (chainWidth o.xout)
    let reads := locLines o.srca la ++ locLines o.srcb lb
    Store.get? s.data.progs (progKey h.die h.unit o.pslot) = some (h.cslot, text) →
    s.Issues h reads (locLines o.dst lw) cid → s.bufForeign h (bufKeys h o.srca la ++ bufKeys h o.srcb lb) = false →
    let r := progRun p o.xin o.xout (o.ecnt + 1) (s.cmd cid).desc.scalars (s.locAt h o.srca la) (s.locAt h o.srcb lb)
    exec (.vcProg h o) s = .next (((s.atIssue reads).writeLoc h o.dst r.1).counts h 3 r.2.1 r.2.2) := by
  intro p la lb lw reads htext hi hown r
  show execVcProg h o s = _
  simp only [execVcProg, htext, Option.elim_some, bne_self_eq_false, Bool.false_eq_true, if_false, ok]
  exact congrArg ok (State.issueChain_next hi hown _ _)

/-- R156, R304. A reduction writes one value a row, and a loss write is checked against its limit. -/
theorem exec_vcRed_reduces {s : State} {h : Issue} {o : VcRedOp} {cid : Nat} :
    let w := chainWidth o.xin
    let k := linesFor (o.ecnt + 1) w
    let lr := k * (o.rows + 1)
    s.Issues h (locLines o.src lr) (locLines o.dst (linesFor (o.rows + 1) 32)) cid →
    s.bufForeign h (bufKeys h o.src lr) = false →
    let row (i : Nat) : Word := reduceRow o.op o.xin ((List.range (o.ecnt + 1)).map (fun j =>
      chainIn o.xin (elem (s.locAt h o.src lr / 2 ^ (2048 * k * i)) w j)))
    let rs := (List.range (o.rows + 1)).map row
    let t := ((s.atIssue (locLines o.src lr)).writeLoc h o.dst (codeLines 32 (rs.map (·.toNat)))).counts
      h 3 0 (if o.op ≥ 4 then 0 else (rs.filter isNonFinite).length)
    exec (.vcRed h o) s = .next (if s.isLoss h cid o then t.lossWrite h cid (rs.getD 0 0) else t) := by
  intro w k lr hi hown row rs t
  have hloss : t.isLoss h cid o = s.isLoss h cid o := s.isLoss_written h cid o _ _ _ _ _ _
  rw [← hloss]
  exact congrArg ok (State.issueChain_next hi hown _ _)

/-! ### The soft maximum -/

/-- R157. What VC.SMAX computes of each row. -/
def State.smaxRows (s : State) (o : VcSmaxOp) : List (List Word × SmState) :=
  let n := o.ecnt + 1
  let k := linesFor n 32
  let mk := if o.msk = 1 then linesFor n 1 else 0
  let stl := linesFor (o.rows + 1) 128
  (List.range (o.rows + 1)).map (fun i =>
    let st := SmState.ofRecord (bits (s.linesAt o.state stl) (128 * i) 128)
    let xs := smRow (s.linesAt o.src ((o.rows + 1) * k)) (s.linesAt (o.src + (o.rows + 1) * k) ((o.rows + 1) * mk)) n k mk
      (o.msk == 1) i
    if o.mode = 0 then smOneshot xs else if o.mode = 1 then smChunk xs st else (xs.map (fun e => smOut st e.1), st))

/-- R277 to R283. The rows' lines and non-finite counts, their records but for mode 2, and the counts of the rows that are empty,
infinite or NaN but for mode 1. -/
def State.smaxPut (s : State) (h : Issue) (o : VcSmaxOp) (rs : List (List Word × SmState)) : State :=
  let t := (s.writeLines o.dst (rs.flatMap (fun r => codeLines 32 (r.1.map (·.toNat))))).counts h 3 0
    ((rs.map (fun r => (r.1.filter isNonFinite).length)).foldl (· + ·) 0)
  let u := if o.mode = 2 then t else t.writeLines o.state (codeLines 128 (rs.map (fun r => r.2.record)))
  if o.mode = 1 then u
  else
    ((u.inc Reg.VCH_SMAX_EMPTY_EMPTY (rs.filter (fun r => r.2.empty)).length).inc Reg.VCH_SMAX_INF_ROWS_INF_ROWS
      (rs.filter (fun r => r.2.inf)).length).inc Reg.VCH_SMAX_NAN_ROWS_NAN_ROWS (rs.filter (fun r => r.2.nan)).length

/-- R157. The lines that VC.SMAX reads: its rows and masks, and the records that it goes on from. -/
def smaxReads (o : VcSmaxOp) : List Nat :=
  let mk := if o.msk = 1 then linesFor (o.ecnt + 1) 1 else 0
  range o.src ((o.rows + 1) * linesFor (o.ecnt + 1) 32 + (if o.mode = 2 then 0 else (o.rows + 1) * mk)) ++
    (if o.mode = 0 then [] else range o.state (linesFor (o.rows + 1) 128))

/-- R157. The lines that VC.SMAX writes: its rows, and their records. -/
def smaxWrites (o : VcSmaxOp) : List Nat :=
  range o.dst ((o.rows + 1) * linesFor (o.ecnt + 1) 32) ++
    (if o.mode = 2 then [] else range o.state (linesFor (o.rows + 1) 128))

/-- R157. VC.SMAX puts the rows that its mode computes: one shot, a chunk, or the output of kept records. -/
theorem exec_vcSmax_puts {s : State} {h : Issue} {o : VcSmaxOp} {cid : Nat} (hmode : o.mode < 3)
    (hi : s.Issues h (smaxReads o) (smaxWrites o) cid) :
    exec (.vcSmax h o) s = .next ((s.atIssue (smaxReads o)).smaxPut h o (s.smaxRows o)) := by
  refine Eq.trans ?_ (congrArg ok (State.issue_next hi 0x98 fun _ a => a.smaxPut h o (a.smaxRows o)))
  show execVcSmax h o s = _
  obtain hm | hm | hm : o.mode = 0 ∨ o.mode = 1 ∨ o.mode = 2 := by omega
  all_goals simp [execVcSmax, State.smaxRows, State.smaxPut, smaxReads, smaxWrites, hm]

/-- The data path that a write of lines leaves rests on the data path that it finds. -/
theorem State.writeLines_data {s t : State} (e : t.data = s.data) (a : Nat) (l : List LineData) :
    (t.writeLines a l).data = (s.writeLines a l).data := by
  induction l generalizing s t a with
  | nil => exact e
  | cons d l ih => exact ih (by simp only [State.writeLine, e]) (a + 1)

theorem State.smaxPut_data (s : State) (h : Issue) (o : VcSmaxOp) (rs : List (List Word × SmState)) (reads : List Nat) :
    let out := s.writeLines o.dst (rs.flatMap (fun r => codeLines 32 (r.1.map (·.toNat))))
    ((s.atIssue reads).smaxPut h o rs).data =
      (if o.mode = 2 then out else out.writeLines o.state (codeLines 128 (rs.map (fun r => r.2.record)))).data := by
  intro out
  have hwrite := State.writeLines_data (s.atIssue_data reads) o.dst (rs.flatMap (fun r => codeLines 32 (r.1.map (·.toNat))))
  have hput (nf : Nat) := (State.counts_data _ h 3 0 nf).trans hwrite
  by_cases hm2 : o.mode = 2
  · simp [State.smaxPut, hm2, hwrite, out]
  · by_cases hm1 : o.mode = 1 <;> simp [State.smaxPut, hm1, hm2, State.writeLines_data (hput _), out]

/-- R157, R277. Outside the skein only the stage's counts advance, and the counts of special rows. -/
theorem State.smaxPut_shows (s : State) {h : Issue} (hdie : h.die < 2) (o : VcSmaxOp) (rs : List (List Word × SmState))
    (reads : List Nat) :
    let t := (s.atIssue reads).smaxPut h o rs
    s.Outside t ∧ (o.mode ≠ 1 → t.reg Reg.VCH_SMAX_EMPTY_EMPTY =
      (s.reg Reg.VCH_SMAX_EMPTY_EMPTY + (rs.filter (fun r => r.2.empty)).length) % 2 ^ 32) := by
  unfold State.smaxPut
  extract_lets t u v
  obtain ⟨-, -, hout, hregs, -⟩ : _ ∧ _ ∧ State.StageOnly 3 h s t := s.stage_write h hdie (by decide) reads _ _ _ _
  have hu : s.Outside u ∧ u.regs = t.regs := by
    show s.Outside (ite _ _ _) ∧ State.regs (ite _ _ _) = _
    obtain ⟨sk, bd, e⟩ := t.writeLines_rest o.state (codeLines 128 (rs.map (fun r => r.2.record)))
    split
    · exact ⟨hout, rfl⟩
    · exact ⟨hout.trans (t.outside_writeLines _ _), by rw [e]⟩
  have hsmax : u.reg Reg.VCH_SMAX_EMPTY_EMPTY = s.reg Reg.VCH_SMAX_EMPTY_EMPTY := by
    have hnot : countRegs 3 h.die Reg.VCH_SMAX_EMPTY_EMPTY.off = false := by
      simp [countRegs, Reg.VCH_SMAX_EMPTY_EMPTY]
      omega
    exact (hregs.trans (.of_regs hu.2)) 0 _ (by decide) (by decide) (.inr hnot)
  by_cases hm : o.mode = 1
  · rw [show v = u from if_pos hm]
    exact ⟨hu.1, fun hne => absurd hm hne⟩
  · rw [show v = _ from if_neg hm]
    refine ⟨hu.1, fun _ => ?_⟩
    rw [State.reg_inc_ne _ _ _ _ (by decide), State.reg_inc_ne _ _ _ _ (by decide), State.reg_inc_same, hsmax]
    rfl

theorem exec_vcSmax_shows {s : State} {h : Issue} {o : VcSmaxOp} {cid : Nat} (hmode : o.mode < 3)
    (hi : s.Issues h (smaxReads o) (smaxWrites o) cid) :
    let rs := s.smaxRows o
    let out := rs.flatMap (fun r => codeLines 32 (r.1.map (·.toNat)))
    ∃ t, exec (.vcSmax h o) s = .next t ∧ s.Outside t ∧ (o.mode = 2 → s.LinesAre t o.dst out) ∧
      (o.mode ≠ 2 → (s.writeLines o.dst out).LinesAre t o.state (codeLines 128 (rs.map (fun r => r.2.record)))) ∧
      (o.mode ≠ 1 → t.reg Reg.VCH_SMAX_EMPTY_EMPTY =
        (s.reg Reg.VCH_SMAX_EMPTY_EMPTY + (rs.filter (fun r => r.2.empty)).length) % 2 ^ 32) := by
  intro rs out
  have hdata := s.smaxPut_data h o rs (smaxReads o)
  obtain ⟨hout, hempty⟩ := s.smaxPut_shows hi.die_lt o rs (smaxReads o)
  refine ⟨_, exec_vcSmax_puts hmode hi, hout, fun hm => ?_, fun hm => ?_, hempty⟩
  · exact (State.linesAre_writeLines _ _ _).kept (State.linesKept_data (hdata.trans (by rw [if_pos hm])))
  · exact (State.linesAre_writeLines _ _ _).kept (State.linesKept_data (hdata.trans (by rw [if_neg hm])))

/-! ### Compress and expand -/

/-- R158. The count line, the packed elements, and zeros to the end of the dense extent. -/
theorem exec_vcCmp_writes {s : State} {h : Issue} {o : VcCmpOp} {cid : Nat} {f : Fmt}
    (hf : Fmt.ofCode o.xfmt = some f) :
    let w := chainWidth o.xfmt
    let k := linesFor (o.ecnt + 1) w
    let mk := linesFor (o.ecnt + 1) 1
    s.Issues h (range o.src k ++ range o.mask mk) (range o.dst (1 + k)) cid →
    let mask := bits (s.linesAt o.mask mk) 0 (o.ecnt + 1)
    let xs := compressElems (elemsOf (s.linesAt o.src k) w (o.ecnt + 1)) mask
    ∃ t, exec (.vcCmp h o) s = .next t ∧
      s.LinesAre t o.dst (BitVec.ofNat 2048 (popCount mask (o.ecnt + 1)) :: natLines (packElems w xs) k) ∧
      State.Counted 3 0 (if o.xfmt = 3 then 0 else (xs.filter f.writesNonFinite).length) h s t ∧
      State.StageOnly 3 h s t := by
  intro w k mk hi mask xs
  refine ⟨_, ?_, s.stage_write h hi.die_lt (by decide) (range o.src k ++ range o.mask mk) _ _ _ _⟩
  show execVcCmp h o s = _
  simp only [execVcCmp, hf, Option.getD_some]
  exact congrArg ok (State.issue_next hi _ _)

/-- R158. Packed elements whose count line agrees with the mask take their places. -/
theorem exec_vcExp_writes {s : State} {h : Issue} {o : VcCmpOp} {cid : Nat} {f : Fmt}
    (hf : Fmt.ofCode o.xfmt = some f) :
    let w := chainWidth o.xfmt
    let mk := linesFor (o.ecnt + 1) 1
    let mask := bits (s.linesAt o.mask mk) 0 (o.ecnt + 1)
    let m := popCount mask (o.ecnt + 1)
    s.Issues h (range o.src (1 + linesFor m w) ++ range o.mask mk) (range o.dst (linesFor (o.ecnt + 1) w)) cid →
    bits (s.line o.src).toNat 0 32 = m →
    let xs := expandElems mask (o.ecnt + 1) 0 (elemsOf (s.linesAt (o.src + 1) (linesFor m w)) w m)
    ∃ t, exec (.vcExp h o) s = .next t ∧ s.LinesAre t o.dst (codeLines w xs) ∧
      State.Counted 3 0 (if o.xfmt = 3 then 0 else (xs.filter f.writesNonFinite).length) h s t ∧
      State.StageOnly 3 h s t := by
  intro w mk mask m hi hcount xs
  refine ⟨_, ?_, s.stage_write h hi.die_lt (by decide) (range o.src (1 + linesFor m w) ++ range o.mask mk) _ _ _ _⟩
  show execVcExp h o s = _
  simp only [execVcExp, hf, Option.getD_some]
  exact (congrArg ok (State.issue_next hi _ _)).trans (congrArg ok (if_neg (not_not_intro hcount)))

/-! ### Random numbers -/

/-- R159. Values drawn from a stream of the command's function, which keeps its place. -/
theorem exec_vcRng_draws {s : State} {h : Issue} {o : VcRngOp} {cid : Nat} (hsel : o.rsel < 16)
    (hi : s.Issues h [] (locLines o.dst (linesFor (o.ecnt + 1) 32)) cid) :
    let key := s.cmdFn cid * 16 + o.rsel
    let d := Stream.values o.dist (o.ecnt + 1) (s.workStream cid key)
    exec (.vcRng h o) s = .next ((((s.atIssue []).keepStream cid key d.2).writeLoc h o.dst
      (codeLines 32 (d.1.map (·.toNat)))).counts h 3 0 (distNf o.dist d.1)) := by
  have hcmd : o.rsel / 16 = 0 := by omega
  show execVcRng h o s = _
  simp only [execVcRng, if_pos hcmd, Nat.mod_eq_of_lt hsel]
  exact congrArg ok (State.issueChain_next hi rfl _ _)

/-- R159. Values drawn for each token slot from the streams of the roster's entries. -/
theorem exec_vcRng_drawsEntries {s : State} {h : Issue} {o : VcRngOp} {cid : Nat} (hlo : 16 ≤ o.rsel) (hhi : o.rsel < 32) :
    let r := s.rosterAt o.roster
    let total := s.tokCap r * (o.ecnt + 1)
    s.Issues h (s.rosterRange o.roster) (locLines o.dst (linesFor total 32)) cid →
    let d := State.drawEntries cid (o.rsel - 16) o.dist (o.ecnt + 1) r.entries (s.atIssue (s.rosterRange o.roster))
    let vs := (d.1 ++ List.replicate (total - d.1.length) 0).take total
    exec (.vcRng h o) s = .next ((d.2.writeLoc h o.dst (codeLines 32 (vs.map (·.toNat)))).counts h 3 0
      (distNf o.dist vs)) := by
  intro r total hi d vs
  have hentries : ¬(o.rsel / 16 = 0) := by omega
  have hbase : o.rsel % 16 = o.rsel - 16 := by omega
  show execVcRng h o s = _
  simp only [execVcRng, if_neg hentries, hbase]
  exact congrArg ok (State.issueChain_next hi rfl _ _)

/-- Settles O5: VC.SMAX by its two writes, the others by one effect each from their issue. -/
theorem chainCompletes : Obligations.ChainCompletes :=
  ⟨fun _ _ _ _ _ => exec_vcProg_runs, fun _ _ _ _ => exec_vcRed_reduces,
    fun _ _ _ _ hmode => exec_vcSmax_shows hmode, fun _ _ _ _ _ => exec_vcCmp_writes,
    fun _ _ _ _ _ => exec_vcExp_writes, fun _ _ _ _ => exec_vcRng_draws, fun _ _ _ _ => exec_vcRng_drawsEntries⟩

end Sys2Proof.Machine
end

section
/-!
The stage MATRIX (O6). What a run, a gradient run or a drain counts besides its array is a register or the count of gated products
(`State.CountsOnly`); no other effect rests on either, so each is read off the array that it sets and the lines that it writes.
-/

namespace Sys2Proof.Machine

/-! ### Counts -/

/-- Registers and the count of gated products may differ, and nothing else. -/
def State.CountsOnly (s t : State) : Prop :=
  ∃ regs gated, t = { s with regs := regs, data := { s.data with gated := gated } }

namespace State.CountsOnly

variable {s t : State}

theorem refl (s : State) : s.CountsOnly s := ⟨s.regs, s.data.gated, rfl⟩

theorem set (hc : s.CountsOnly t) {f : Fld} {v : Nat} : s.CountsOnly (t.set f v) := by
  obtain ⟨regs, gated, rfl⟩ := hc
  exact ⟨_, gated, rfl⟩

theorem inc (hc : s.CountsOnly t) {f : Fld} {n : Nat} : s.CountsOnly (t.inc f n) := hc.set

theorem inc2 (hc : s.CountsOnly t) {lo hi : Fld} {n : Nat} : s.CountsOnly (t.inc2 lo hi n) := hc.set.set

theorem gate (hc : s.CountsOnly t) {n : Nat} : s.CountsOnly (t.gate n) := by
  obtain ⟨regs, gated, rfl⟩ := hc
  unfold State.gate
  split
  · exact ⟨regs, gated, rfl⟩
  · exact ⟨_, _, rfl⟩

theorem outside (hc : s.CountsOnly t) : s.Outside t := by
  obtain ⟨regs, gated, rfl⟩ := hc
  exact State.Outside.refl s

theorem linesKept (hc : s.CountsOnly t) : s.LinesKept t := by
  obtain ⟨regs, gated, rfl⟩ := hc
  exact fun _ => ⟨rfl, rfl⟩

theorem arrays (hc : s.CountsOnly t) : t.data.arrays = s.data.arrays := by
  obtain ⟨regs, gated, rfl⟩ := hc
  rfl

/-- R244. The rank rows of a run rest on no count. -/
theorem runRank (hc : s.CountsOnly t) : t.runRank = s.runRank := by
  obtain ⟨regs, gated, rfl⟩ := hc
  rfl

end State.CountsOnly

theorem State.countsOnly_atIssue (s : State) (reads : List Nat) : s.CountsOnly (s.atIssue reads) := (CountsOnly.refl s).inc

/-! ### Arrays -/

theorem State.array_setArray_same (s : State) (h : Issue) (a : ArrayUnit) : (s.setArray h a).array h = a := by
  simp [State.array, State.setArray]

theorem State.array_congr {s t : State} (e : t.data.arrays = s.data.arrays) (h : Issue) : t.array h = s.array h := by
  rw [State.array, State.array, e]

theorem State.arrays_writeLines (s : State) (a : Nat) (l : List LineData) :
    (s.writeLines a l).data.arrays = s.data.arrays := by
  obtain ⟨sk, bd, e⟩ := s.writeLines_rest a l
  rw [e]

/-! ### After the issue -/

/-- A guard on a flag of an instruction that its hypotheses answer. -/
theorem flag_and_ne_true {m : Nat} {b : Bool} (hb : m = 1 → b = false) : ¬((m == 1 && b) = true) := by
  simpa using hb

theorem State.segments_atIssue (s : State) (r : List Nat) : (s.atIssue r).segments = s.segments := rfl

theorem State.segTable_atIssue (s : State) (r : List Nat) (a : Nat) : (s.atIssue r).segTable a = s.segTable a := rfl

/-! ### Loads -/

/-- R146. The tile and its parameters are in the shadow buffer; lines and counts are as they were. -/
theorem exec_mxLdw_loads {s : State} {h : Issue} {o : MxLdwOp} {cid : Nat} {wf sc asc : Fmt}
    (hwf : Fmt.ofCode o.wfmt = some wf) (hsc : Fmt.ofCode o.scfmt = some sc) (hasc : Fmt.ofCode o.ascfmt = some asc) :
    let n := (blockDims wf sc (groupSize o.group) 65536).total
    s.Issues h (range o.src n) [] cid →
    ∃ t, exec (.mxLdw h o) s = .next t ∧
      t.array h = { s.array h with shadow := some (h.cslot, ⟨wf, o.group, sc, asc, o.qmode == 1, s.linesAt o.src n⟩) } ∧
      s.LinesKept t ∧ s.Outside t ∧ s.RegsKept (countRegs 1 h.die) t := by
  intro n hi
  refine ⟨(s.atIssue (range o.src n)).setArray h _, ?_, State.array_setArray_same _ h _, fun _ => ⟨rfl, rfl⟩,
    s.outside_atIssue (range o.src n), s.atIssue_regs (range o.src n) 1 h.die⟩
  show execMxLdw h o s = _
  simp only [execMxLdw, hwf, hsc, hasc]
  exact congrArg ok (State.issue_next hi _ _)

/-! ### Runs -/

/-- R208. A run that uses the tile of a slot: afterwards the shadow is empty and the cells hold that tile. -/
theorem ArrayUnit.use_leaves {a : ArrayUnit} {f : Fmt} {c : Nat} (hc : c < 16) (hu : (a.use f).1 = c) :
    (if (a.use f).2.2 then some (c, (a.use f).2.1) else a.cells) = some (c, (a.use f).2.1) ∧
      (if (a.use f).2.2 then none else a.shadow) = none := by
  revert hu
  unfold ArrayUnit.use
  split
  · exact fun _ => ⟨rfl, rfl⟩
  next hshadow =>
    split
    next hcells =>
      rintro rfl
      exact ⟨hcells, hshadow⟩
    · intro hu
      omega

/-- R148, R208, R219, R242. What a run counts. -/
def State.runCounts (s : State) (o : MxRunOp) (u : Nat × Tile × Bool) (act : ActBlock) (segs : List Seg) : State :=
  let rates := segRates (pairRate u.2.1.wfmt act.fmt) o.pass segs
  let s := s.inc2 Reg.MXA_ACTIVE_LO_ACTIVE_LO Reg.MXA_ACTIVE_HI_ACTIVE_HI (runTime (b2n u.2.2) rates)
  let s := (s.inc Reg.MXA_BCAST_BCAST (b2n u.2.2)).inc Reg.MXA_SEG_SWITCH_SWITCHES (rates.length - 1)
  let s := s.inc Reg.MTF_NULL_SEG_NULLS (nullCount segs)
  if o.pass = 0 then s.gate (((List.range act.rows).map (gatedRow u.2.1 act)).foldl (· + ·) 0) else s

theorem State.runCounts_countsOnly (s : State) (r : List Nat) (o : MxRunOp) (u : Nat × Tile × Bool) (act : ActBlock)
    (segs : List Seg) : s.CountsOnly ((s.atIssue r).runCounts o u act segs) := by
  have hincs := (s.countsOnly_atIssue r).inc2 (lo := Reg.MXA_ACTIVE_LO_ACTIVE_LO) (hi := Reg.MXA_ACTIVE_HI_ACTIVE_HI)
    (n := runTime (b2n u.2.2) (segRates (pairRate u.2.1.wfmt act.fmt) o.pass segs))
  unfold State.runCounts
  split
  · exact hincs.inc.inc.inc.gate
  · exact hincs.inc.inc.inc

/-- R147. The activation rows of a run. -/
def State.runAct (s : State) (h : Issue) (o : MxRunOp) (af wf : Fmt) : ActBlock :=
  ⟨af, o.rows + 1, s.linesAt o.act (ActBlock.lines af (o.rows + 1) ((s.array h).use wf).2.1)⟩

/-- R147, R208, R216, R244. The array after a run. -/
def State.runArray (s : State) (tr : Bool) (h : Issue) (o : MxRunOp) (af wf : Fmt) (segs : List Seg) : ArrayUnit :=
  let a := s.array h
  let u := a.use wf
  { a with
    shadow := if u.2.2 then none else a.shadow
    cells := if u.2.2 then some (h.cslot, u.2.1) else a.cells
    acc := if o.pass = 0 then runAcc tr h u.2.1 (s.runAct h o af wf) (o.accIn == 1) o.accb (o.rows + 1) a.acc else a.acc
    rank := if o.motif = 1 then s.runRank tr h u.2.1 (s.runAct h o af wf) o segs a.rank else a.rank
    wgrad := if o.motif = 1 then none else a.wgrad
    ramp := false }

/-- R147, R149. The lines that a run reads. -/
def State.runReads (s : State) (h : Issue) (o : MxRunOp) (af wf : Fmt) : List Nat :=
  range o.act (ActBlock.lines af (o.rows + 1) ((s.array h).use wf).2.1) ++ (if o.motif = 1 then range o.segt 2 else [])

section

variable {s : State} {h : Issue} {o : MxRunOp} {cid : Nat} {af wf : Fmt} {segs : List Seg} (tr : Bool)
  (haf : Fmt.ofCode o.afmt = some af) (hwf : Fmt.ofCode o.wfmt = some wf) (hslot : ((s.array h).use wf).1 = h.cslot)
  (hfmt : ((s.array h).use wf).2.1.wfmt = wf)
  (hacc : o.accIn = 1 → o.pass = 0 → foreign h (s.array h).acc (range o.accb (o.rows + 1)) = false)
  (hsegs : (if o.motif = 1 then s.segments (s.segTable o.segt) (o.rows + 1) else some [⟨o.rows + 1, 0, 0, none⟩]) = some segs)
  (hmotif : o.motif = 1 → foreignRank h (s.array h).rank (range o.accb (o.rows + 1)) = false ∧ s.streamPending h = false ∧
    s.areasOk h segs = true)
  (hi : s.Issues h (s.runReads h o af wf) [] cid)

include haf hwf hslot hfmt hacc hsegs hmotif hi

/-- R147 to R149, R242. A run whose tile, rows and areas are its own slot's sets its array, and counts besides. -/
theorem State.run_next (op : Nat) :
    ∃ t, s.CountsOnly t ∧ s.run tr op h o = t.setArray h (s.runArray tr h o af wf segs) := by
  have hown : ((((s.array h).use wf).1 != 16 && ((s.array h).use wf).1 != h.cslot) ||
      (o.accIn == 1 && o.pass == 0 && foreign h (s.array h).acc (range o.accb (o.rows + 1))) ||
      (o.motif == 1 && foreignRank h (s.array h).rank (range o.accb (o.rows + 1)))) = false := by
    simp only [Bool.or_eq_false_iff, Bool.and_eq_false_imp, Bool.and_eq_true, beq_iff_eq, bne_eq_false_iff_eq]
    exact ⟨⟨fun _ => hslot, fun ⟨hin, hpass⟩ => hacc hin hpass⟩, fun hm => let ⟨hrank, _⟩ := hmotif hm; hrank⟩
  have hstream := flag_and_ne_true fun hm => let ⟨_, hnone, _⟩ := hmotif hm; hnone
  have hareas : ¬((o.motif == 1 && !s.areasOk h segs) = true) :=
    flag_and_ne_true fun hm => by
      obtain ⟨-, -, hok⟩ := hmotif hm
      rw [hok, Bool.not_true]
  have hcounts := s.runCounts_countsOnly (s.runReads h o af wf) o ((s.array h).use wf) (s.runAct h o af wf) segs
  refine ⟨_, hcounts, ?_⟩
  unfold State.run State.runArray
  rw [← hcounts.runRank]
  simp only [haf, hwf, beq_iff_eq]
  refine (State.issue_next hi _ _).trans ((if_neg (ne_true_of_eq_false hown)).trans ((if_neg fun ⟨_, hne⟩ => hne hfmt).trans ?_))
  rw [State.segments_atIssue, State.segTable_atIssue, hsegs]
  exact (if_neg hstream).trans (if_neg hareas)

/-- R147, R149, R208. The accumulators, the cells and the shadow after MX.RUN or MX.RUNT. -/
theorem exec_run_completes (hc : h.cslot < 16) :
    ∃ t, exec (if tr then .mxRunt h o else .mxRun h o) s = .next t ∧
      (t.array h).acc = (s.runArray tr h o af wf segs).acc ∧ (t.array h).rank = (s.runArray tr h o af wf segs).rank ∧
      (t.array h).cells = some (h.cslot, ((s.array h).use wf).2.1) ∧ (t.array h).shadow = none ∧ s.LinesKept t ∧
      s.Outside t := by
  obtain ⟨c, hcounts, hrun⟩ := State.run_next tr haf hwf hslot hfmt hacc hsegs hmotif hi (if tr then 0x42 else 0x41)
  obtain ⟨hcells, hshadow⟩ := ArrayUnit.use_leaves hc hslot
  have hexec : exec (if tr then .mxRunt h o else .mxRun h o) s = .next (c.setArray h (s.runArray tr h o af wf segs)) := by
    cases tr <;> exact congrArg ok hrun
  refine ⟨_, hexec, ?_⟩
  rw [State.array_setArray_same]
  exact ⟨rfl, rfl, hcells, hshadow, hcounts.linesKept, hcounts.outside⟩

end

/-! ### Gradient runs -/

/-- R130, R151. The gradient cells that an array holds of the instruction's own slot. -/
def State.wgradHeld (s : State) (h : Issue) : List (Nat × Word) :=
  match (s.array h).wgrad with
  | some (w, c) => if w = h.cslot then c else []
  | none => []

/-- R151. What a gradient cell starts from in an array whose cells are the instruction's own slot's. -/
def State.wgradOld (s : State) (h : Issue) (o : MxWgradOp) (j : Nat) : Word :=
  match (s.array h).wgrad with
  | some w => if o.accIn = 1 then Store.getD w.2 j 0 else 0
  | none => 0

theorem State.wgradOld_eq_held {s : State} {h : Issue} {o : MxWgradOp}
    (hown : o.accIn = 1 → ∀ w, (s.array h).wgrad = some w → w.1 = h.cslot) (j : Nat) :
    s.wgradOld h o j = if o.accIn = 1 then Store.getD (s.wgradHeld h) j 0 else 0 := by
  unfold State.wgradOld State.wgradHeld
  cases hw : (s.array h).wgrad with
  | none => exact (ite_self 0).symm
  | some w =>
    by_cases hacc : o.accIn = 1
    · simp [hacc, hown hacc w hw]
    · simp [hacc]

/-- R151, R217. The gradient cells after a run, whose cells start from `old`. -/
def State.wgradCells (s : State) (o : MxWgradOp) (old : Nat → Word) : List (Nat × Word) :=
  let n := o.rows + 1
  let k := o.rank + 1
  let l := wgradLines o.mode
  let dims : Nat × Nat := if o.mode = 0 then (256, k) else (k, 256)
  let toks := (List.range n).map (fun i => (bits (s.linesAt o.in1 (n * l.1)) (2048 * l.1 * i) (2048 * l.1),
    bits (s.linesAt o.in2 (n * l.2)) (2048 * l.2 * i) (2048 * l.2)))
  (List.range (dims.1 * dims.2)).map (fun j => (j, wgradCell toks (j / dims.2) (j % dims.2) (old j)))

/-- R151. The cells stay in the array, or are drained to lines. -/
def State.wgradDone (s : State) (h : Issue) (o : MxWgradOp) (cells : List (Nat × Word)) : State :=
  let t := (s.setArray h
    { s.array h with wgrad := if o.drain = 1 then none else some (h.cslot, cells), ramp := false }).inc2
      Reg.MXA_ACTIVE_LO_ACTIVE_LO Reg.MXA_ACTIVE_HI_ACTIVE_HI (o.rows + 1 + (if o.drain = 1 then o.rank + 1 else 0))
  if o.drain = 1 then
    (t.writeLines o.dst (codeLines 32 (cells.map (·.2.toNat)))).counts h 1 0 (cells.filter (fun c => isNonFinite c.2)).length
  else t

/-- R151. The lines that MX.WGRAD reads. -/
def wgradReads (o : MxWgradOp) : List Nat :=
  range o.in1 ((o.rows + 1) * (wgradLines o.mode).1) ++ range o.in2 ((o.rows + 1) * (wgradLines o.mode).2)

/-- R151. The lines that MX.WGRAD writes. -/
def wgradWrites (o : MxWgradOp) : List Nat :=
  let dims : Nat × Nat := if o.mode = 0 then (256, o.rank + 1) else (o.rank + 1, 256)
  if o.drain = 1 then range o.dst (linesFor (dims.1 * dims.2) 32) else []

/-- R130, R151. A gradient run that accumulates onto no other slot's cells takes its effect. -/
theorem exec_mxWgrad_done {s : State} {h : Issue} {o : MxWgradOp} {cid : Nat}
    (hi : s.Issues h (wgradReads o) (wgradWrites o) cid)
    (hown : o.accIn = 1 → ∀ w, (s.array h).wgrad = some w → w.1 = h.cslot) :
    exec (.mxWgrad h o) s =
      .next ((s.atIssue (wgradReads o)).wgradDone h o (s.wgradCells o (s.wgradOld h o))) := by
  have hforeign : ¬((o.accIn == 1 && (s.array h).wgrad.elim false (fun w => w.1 != h.cslot)) = true) := by
    cases hw : (s.array h).wgrad with
    | none => simp
    | some w => simpa using fun hacc => hown hacc w hw
  rw [show s.wgradOld h o = _ from funext (State.wgradOld_eq_held hown)]
  exact congrArg ok ((State.issue_next hi 0x43 _).trans (if_neg hforeign))

/-- Lines that are written and counted leave the arrays, and all that is not the data path or a counter. -/
theorem State.counted_writeLines (s : State) {h : Issue} (hdie : h.die < 2) {stage : Nat} (hst : stage < 5) (dst sat nf : Nat)
    (l : List LineData) :
    let t := (s.writeLines dst l).counts h stage sat nf
    s.LinesAre t dst l ∧ t.data.arrays = s.data.arrays ∧ s.Outside t := by
  obtain ⟨hout, -⟩ := (s.writeLines dst l).counts_stage h hdie stage sat nf hst
  refine ⟨(s.linesAre_writeLines dst l).kept (State.linesKept_data (State.counts_data _ _ _ _ _)), ?_,
    (s.outside_writeLines dst l).trans hout⟩
  rw [State.counts_data, State.arrays_writeLines]

/-- R151, R217. The cells are in the array, or drained to lines and gone from it. -/
theorem exec_mxWgrad_completes {s : State} {h : Issue} {o : MxWgradOp} {cid : Nat}
    (hi : s.Issues h (wgradReads o) (wgradWrites o) cid)
    (hown : o.accIn = 1 → ∀ w, (s.array h).wgrad = some w → w.1 = h.cslot) :
    let cells := s.wgradCells o (s.wgradOld h o)
    ∃ t, exec (.mxWgrad h o) s = .next t ∧ s.Outside t ∧
      (t.array h).wgrad = (if o.drain = 1 then none else some (h.cslot, cells)) ∧
      (o.drain = 1 → s.LinesAre t o.dst (codeLines 32 (cells.map (·.2.toNat)))) ∧ (o.drain ≠ 1 → s.LinesKept t) := by
  intro cells
  refine ⟨_, exec_mxWgrad_done hi hown, ?_⟩
  unfold State.wgradDone
  extract_lets a t
  have hkept : s.LinesKept t := fun _ => ⟨rfl, rfl⟩
  have hout : s.Outside t := s.outside_atIssue (wgradReads o)
  have harray : (t.array h).wgrad = if o.drain = 1 then none else some (h.cslot, cells) :=
    congrArg ArrayUnit.wgrad (State.array_setArray_same _ _ _)
  split
  next hd =>
    obtain ⟨hlines, harr, hout'⟩ := t.counted_writeLines hi.die_lt (stage := 1) (by decide) o.dst 0
      (cells.filter (fun c => isNonFinite c.2)).length (codeLines 32 (cells.map (·.2.toNat)))
    rw [if_pos hd] at harray
    exact ⟨hout.trans hout', by rw [State.array_congr harr, harray], fun _ => hlines.from_kept hkept, fun hn => absurd hd hn⟩
  next hd =>
    rw [if_neg hd] at harray
    exact ⟨hout, harray, fun hp => absurd hp hd, fun _ => hkept⟩

/-! ### Drains -/

/-- R150, R245. Base rows, then partial rows, then rank rows. -/
theorem exec_mxDrain_completes {s : State} {h : Issue} {o : MxDrainOp} {cid : Nat} {segs : List Seg} :
    let n := o.rows + 1
    let rows := range o.accb n
    let p := ceilDiv (s.rankLimit segs) 64
    let total := 4 * n + (if o.motif = 1 then 4 * n else 0) + (if o.rankout = 1 then n * p else 0)
    (if o.motif = 1 then s.segments (s.segTable o.segt) n else some [⟨n, 0, 0, none⟩]) = some segs →
    (o.motif = 1 → s.streamPending h = false ∧ s.areasOk h segs = true) →
    foreign h (s.array h).acc rows = false → (o.motif = 1 ∨ o.rankout = 1 → foreignRank h (s.array h).rank rows = false) →
    s.Issues h (if o.motif = 1 then range o.segt 2 else []) (range o.dst total) cid →
    let rk (r : Nat) : Nat × Bool × Nat := Store.getD (s.array h).rank r (h.cslot, false, 0)
    let base := rows.flatMap (fun r => natLines (Store.getD (s.array h).acc r (h.cslot, 0)).2 4)
    let parts := if o.motif = 1 then ((rowSegs segs).zip rows).flatMap (fun gr =>
        natLines (s.partialRow h (rk gr.2).2.1 o.nt gr.1 (rk gr.2).2.2) 4) else []
    let ranks := if o.rankout = 1 then rows.flatMap (fun r => natLines (rk r).2.2 p) else []
    ∃ t, exec (.mxDrain h o) s = .next t ∧ s.LinesAre t o.dst (base ++ parts ++ ranks) ∧
      t.data.arrays = s.data.arrays ∧ s.Outside t := by
  intro n rows p total hsegs hmotif hacc hrank hi rk base parts ranks
  have hown : (foreign h (s.array h).acc rows || ((o.motif == 1 || o.rankout == 1) && foreignRank h (s.array h).rank rows)) =
      false := by
    simp only [Bool.or_eq_false_iff, Bool.and_eq_false_imp, Bool.or_eq_true, beq_iff_eq]
    exact ⟨hacc, hrank⟩
  have hstream := flag_and_ne_true fun hm => let ⟨hnone, _⟩ := hmotif hm; hnone
  have hareas : ¬((o.motif == 1 && !s.areasOk h segs) = true) :=
    flag_and_ne_true fun hm => by
      obtain ⟨-, hok⟩ := hmotif hm
      rw [hok, Bool.not_true]
  let t := (s.atIssue (if o.motif = 1 then range o.segt 2 else [])).inc Reg.MTF_NULL_SEG_NULLS (nullCount segs)
  have ht : s.CountsOnly t := (s.countsOnly_atIssue _).inc
  obtain ⟨hlines, harr, hout⟩ := t.counted_writeLines hi.die_lt (stage := 1) (by decide) o.dst 0
    ((base ++ parts ++ ranks).map (fun d => nonFinites d.toNat 64)).sum (base ++ parts ++ ranks)
  refine ⟨_, ?_, hlines.from_kept ht.linesKept, harr.trans ht.arrays, ht.outside.trans hout⟩
  show execMxDrain h o s = _
  unfold execMxDrain
  dsimp only [n] at hsegs
  simp only [beq_iff_eq, hsegs, Option.getD_some]
  refine congrArg ok ((State.issue_next hi _ _).trans ((if_neg (ne_true_of_eq_false hown)).trans ?_))
  exact (if_neg hstream).trans (if_neg hareas)

/-- Settles O6: each instruction from the array that it sets, and the lines that it writes. -/
theorem matrixCompletes : Obligations.MatrixCompletes :=
  ⟨fun _ _ _ _ _ _ _ => exec_mxLdw_loads,
    fun _ _ _ _ _ _ _ tr haf hwf hc hslot hfmt hacc hsegs hmotif hi =>
      exec_run_completes tr haf hwf hslot hfmt hacc hsegs hmotif hi hc,
    fun _ _ _ _ _ hi hown => exec_mxWgrad_completes hi hown, fun _ _ _ _ _ => exec_mxDrain_completes⟩

end Sys2Proof.Machine
end

section
/-!
The stage FETCH (O7). A tensor that a fetch resolves is touched: its entry and, on a module that mirrors, its twin frames change, but neither
the data path nor the near tier does (`State.FetchKept`), so the lines that land are those of the near tier at issue.
-/

namespace Sys2Proof.Machine

/-! ### Touching a tensor -/

/-- The data path and the bytes of the near tier are as before. -/
structure State.FetchKept (s t : State) : Prop where
  data : t.data = s.data
  near : t.tier.near = s.tier.near

namespace State.FetchKept

variable {s₀ s : State}

theorem refl (s : State) : s.FetchKept s := ⟨rfl, rfl⟩

theorem set (hs : s₀.FetchKept s) {f : Fld} {v : Nat} : s₀.FetchKept (s.set f v) := ⟨hs.data, hs.near⟩

/-- R399, R424. A frame changes registers, its link and the outputs, and may draw a free value. -/
theorem send (hs : s₀.FetchKept s) {link : Nat} {f : Frame} : s₀.FetchKept (s.send link f) := by
  unfold State.send
  split
  · exact hs
  · by_cases hp : f.payload.isNone = true <;> simp only [hp] <;> exact ⟨hs.data, hs.near⟩

theorem mirror (hs : s₀.FetchKept s) {f : Nat → Frame} : s₀.FetchKept (s.mirror f) := by
  unfold State.mirror State.sendTwin
  split
  · split
    · exact hs.send.set
    · exact hs.set
  · exact hs

/-- R324, R428. A touch writes the tensor's entry and mirrors it. -/
theorem touch (hs : s₀.FetchKept s) {t : Tensor} : s₀.FetchKept (s.touch t) := by
  have hmirror : s₀.FetchKept (s.mirrorEntry t.key (some { t with lastUse := s.row })) := by
    unfold State.mirrorEntry
    split
    · exact hs.mirror
    · exact hs
  exact ⟨hmirror.data, hmirror.near⟩

theorem linesKept (hs : s₀.FetchKept s) : s₀.LinesKept s := State.linesKept_data hs.data

end State.FetchKept

/-- R139. The lines of a near tensor rest on the bytes of the near tier. -/
theorem State.tensorLines_congr {s t : State} (e : t.tier.near = s.tier.near) : t.tensorLines = s.tensorLines := by
  have hline : t.nearLine = s.nearLine := by
    funext a
    rw [State.nearLine, State.nearLine, e]
  funext x offset count
  rw [State.tensorLines, State.tensorLines, hline]

theorem State.tier_writeLines (s : State) (a : Nat) (l : List LineData) : (s.writeLines a l).tier = s.tier := by
  obtain ⟨sk, bd, e⟩ := s.writeLines_rest a l
  rw [e]

/-- R139. A near tensor's lines that are in time are in the skein at once. -/
theorem State.bring_near (s : State) {h : Issue} {t : Tensor} (hlate : h.late = false) (htier : t.tier = .near)
    (op cid dst offset count : Nat) :
    s.LinesAre (s.bring h op cid dst t offset count) dst (s.tensorLines t offset count) ∧
      (s.bring h op cid dst t offset count).tier.near = s.tier.near := by
  have hkept : s.FetchKept (s.touch t) := (State.FetchKept.refl s).touch
  have hnow : s.bring h op cid dst t offset count = (s.touch t).writeLines dst (s.tensorLines t offset count) := by
    rw [← State.tensorLines_congr hkept.near]
    exact if_neg (by simp [hlate, htier])
  rw [hnow, State.tier_writeLines]
  exact ⟨.from_kept hkept.linesKept (State.linesAre_writeLines _ _ _), hkept.near⟩

/-! ### Fetches of a tensor -/

theorem State.Issues.in_time {s : State} {h : Issue} {reads writes : List Nat} {cid : Nat}
    (hi : s.Issues h reads writes cid) : h.tierEcc = false ∧ h.late = false := by
  obtain ⟨⟨-, hecc, hlate, -⟩, -⟩ := hi
  exact ⟨hecc, hlate⟩

theorem State.resolve_atIssue (s : State) (r : List Nat) : (s.atIssue r).resolve = s.resolve := rfl

theorem State.cmdFn_atIssue (s : State) (r : List Nat) (cid : Nat) : (s.atIssue r).cmdFn cid = s.cmdFn cid := rfl

theorem State.operand_atIssue (s : State) (r : List Nat) (cid i : Nat) : (s.atIssue r).operand cid i = s.operand cid i := rfl

/-- R137, R139. A fetch from an operand that resolves brings its lines. -/
theorem exec_fetch_brings {s : State} {h : Issue} {o : FetchOp} {cid : Nat} {t' : Tensor} (sc : Bool) (hsrc : o.src = 0)
    (hi : s.Issues h [] (range o.dst (o.lcnt + 1)) cid)
    (hgood : s.resolve h cid (s.cmdFn cid) (s.operand cid o.opd).handle (some o.fmt) o.offset (o.lcnt + 1) false = .good t') :
    exec (if sc then .fetchS h o else .fetchT h o) s =
      .next ((s.atIssue []).bring h (if sc then 0x01 else 0x00) cid o.dst t' o.offset (o.lcnt + 1)) := by
  obtain ⟨hecc, -⟩ := hi.in_time
  have hfetch (op : Nat) : s.fetch op h o = (s.atIssue []).bring h op cid o.dst t' o.offset (o.lcnt + 1) := by
    simp only [State.fetch, State.issue_next hi, hecc, Bool.false_eq_true, if_false, hsrc, State.fetchFrom,
      State.resolve_atIssue, State.cmdFn_atIssue, State.operand_atIssue, hgood]
  cases sc <;> exact congrArg ok (hfetch _)

/-- R139. A near tensor of the command's operands is in the skein at once. -/
theorem exec_fetch_writes {s : State} {h : Issue} {o : FetchOp} {cid : Nat} {t' : Tensor} (sc : Bool) (hsrc : o.src = 0)
    (hi : s.Issues h [] (range o.dst (o.lcnt + 1)) cid)
    (hgood : s.resolve h cid (s.cmdFn cid) (s.operand cid o.opd).handle (some o.fmt) o.offset (o.lcnt + 1) false = .good t')
    (htier : t'.tier = .near) :
    ∃ t, exec (if sc then .fetchS h o else .fetchT h o) s = .next t ∧
      s.LinesAre t o.dst ((range (t'.loc + o.offset) (o.lcnt + 1)).map s.nearLine) ∧ t.tier.near = s.tier.near := by
  obtain ⟨-, hlate⟩ := hi.in_time
  obtain ⟨hlines, hnear⟩ := (s.atIssue []).bring_near hlate htier (if sc then 0x01 else 0x00) cid o.dst o.offset (o.lcnt + 1)
  exact ⟨_, exec_fetch_brings sc hsrc hi hgood, .from_kept (State.linesKept_data rfl) hlines, hnear⟩

/-! ### Fetches of a history -/

/-- R141. No stretch of a history lies in positions that it does not reach. -/
theorem histSegs_of_le (s : State) {lo top : Nat} (htop : top ≤ lo) (hi : Nat) (sw : List Handle) (own : Handle) (base : Nat) :
    histSegs s lo hi sw own base top = [] := by
  induction sw generalizing base with
  | nil =>
    have hnone : ¬(max lo base < min hi top) := by omega
    simp only [histSegs, if_neg hnone]
  | cons w sw ih =>
    have hnone (n : Nat) : ¬(max lo base < min (min hi top) (base + n)) := by omega
    simp only [histSegs, if_neg (hnone _), ih, List.append_nil]

/-- R141. Positions that a history without swatches reaches are one stretch of its own tensor. -/
theorem histSegs_own (s : State) {lo n top : Nat} (hn : 0 < n) (htop : lo + n ≤ top) (own : Handle) :
    histSegs s lo (lo + n) [] own 0 top = [(own, lo, n, 0)] := by
  have hlast : min (lo + n) top = lo + n := by omega
  have hlt : lo < lo + n := by omega
  simp [histSegs, hlast, hlt]

/-- R141. The zeros and the mask lines that a chunk is written with before its stretches. -/
def State.kvBlank (s : State) (o : FetchKvOp) (position : Nat) : List LineData :=
  let c := 256 * 2 ^ o.chlen
  List.replicate (c * (s.model (s.rosterAt o.roster).model).params.kvLpt) 0 ++
    natLines (packElems 1 ((List.range c).map (fun i => b2n (o.chunk * c + i < position)))) (ceilDiv c 2048)

/-- R141. A chunk of an entry's history. -/
theorem exec_fetchKv_brings {s : State} {h : Issue} {o : FetchKvOp} {cid : Nat} {e : RosterEntry} :
    let r := s.rosterAt o.roster
    let c := 256 * 2 ^ o.chlen
    let lpt := (s.model r.model).params.kvLpt
    let lo := o.chunk * c
    s.Issues h (s.rosterRange o.roster) (range o.dst (c * lpt + ceilDiv c 2048)) cid → r.entries[o.entry]? = some e →
    let t := (s.atIssue (s.rosterRange o.roster)).writeLines o.dst (s.kvBlank o e.position)
    exec (.fetchKv h o) s =
      .next (t.bringSegs h cid e.fn o.layer lpt o.dst (histSegs t lo (lo + c) (r.swatchesOf e) e.kv 0 e.position)) := by
  intro r c lpt lo hi he t
  obtain ⟨hecc, -⟩ := hi.in_time
  dsimp only [r] at he
  show execFetchKv h o s = _
  simp only [execFetchKv, he, hecc, Bool.false_eq_true, if_false]
  exact congrArg ok (State.issue_next hi _ _)

/-- R141. A chunk beyond the entry's history is zeros and its mask. -/
theorem exec_fetchKv_blank {s : State} {h : Issue} {o : FetchKvOp} {cid : Nat} :
    let r := s.rosterAt o.roster
    let c := 256 * 2 ^ o.chlen
    let lpt := (s.model r.model).params.kvLpt
    let lo := o.chunk * c
    s.Issues h (s.rosterRange o.roster) (range o.dst (c * lpt + ceilDiv c 2048)) cid →
    ∀ e, r.entries[o.entry]? = some e → e.position ≤ lo →
    ∃ t, exec (.fetchKv h o) s = .next t ∧ s.LinesAre t o.dst (s.kvBlank o e.position) := by
  intro r c lpt lo hi e he hpos
  refine ⟨_, exec_fetchKv_brings hi he, ?_⟩
  rw [histSegs_of_le _ hpos]
  exact s.linesAre_writeLines_atIssue _ _ _

theorem State.resolve_writeLines (s : State) (a : Nat) (l : List LineData) : (s.writeLines a l).resolve = s.resolve := by
  obtain ⟨sk, bd, e⟩ := s.writeLines_rest a l
  rw [e]
  rfl

/-- R141. A stretch whose tensor may be named and resolves is brought. -/
theorem State.bringSegs_one {s : State} {h : Issue} {cid fn layer lpt dst p n k : Nat} {x : Handle} {w : Tensor}
    (hfn : x.fn = fn) (hw : s.tensor? x = some w)
    (hgood : s.resolve h cid fn x none (kvLine w.capacity lpt layer p) (n * lpt) false = .good w) :
    s.bringSegs h cid fn layer lpt dst [(x, p, n, k)] =
      s.bring h 0x02 cid (dst + k * lpt) w (kvLine w.capacity lpt layer p) (n * lpt) := by
  simp [State.bringSegs, hw, hgood, rosterMay, hfn]

/-- R141. A chunk within a history without swatches is the own tensor's lines, then its mask. -/
theorem exec_fetchKv_writes {s : State} {h : Issue} {o : FetchKvOp} {cid : Nat} {e : RosterEntry} {w : Tensor} :
    let r := s.rosterAt o.roster
    let c := 256 * 2 ^ o.chlen
    let lpt := (s.model r.model).params.kvLpt
    let lo := o.chunk * c
    let first := kvLine w.capacity lpt o.layer lo
    s.Issues h (s.rosterRange o.roster) (range o.dst (c * lpt + ceilDiv c 2048)) cid →
    r.entries[o.entry]? = some e → r.swatchesOf e = [] → lo + c ≤ e.position → e.kv.fn = e.fn → s.tensor? e.kv = some w →
    w.tier = .near → s.resolve h cid e.fn e.kv none first (c * lpt) false = .good w →
    ∃ t, exec (.fetchKv h o) s = .next t ∧
      (s.writeLines o.dst (s.kvBlank o e.position)).LinesAre t o.dst ((range (w.loc + first) (c * lpt)).map s.nearLine) := by
  intro r c lpt lo first hi he hsw hpos hfn hw htier hgood
  obtain ⟨-, hlate⟩ := hi.in_time
  refine ⟨_, exec_fetchKv_brings hi he, ?_⟩
  generalize hblank : (s.atIssue (s.rosterRange o.roster)).writeLines o.dst (s.kvBlank o e.position) = b
  have hc : 0 < c := Nat.mul_pos (by decide) (Nat.two_pow_pos _)
  have hbtier : b.tier = s.tier := by
    rw [← hblank, State.tier_writeLines]
    rfl
  have hbw : b.tensor? e.kv = some w := by
    rw [State.tensor?, hbtier]
    exact hw
  have hbgood : b.resolve h cid e.fn e.kv none first (c * lpt) false = .good w := by
    rw [← hblank, State.resolve_writeLines, State.resolve_atIssue]
    exact hgood
  have hdata : b.data = (s.writeLines o.dst (s.kvBlank o e.position)).data := by
    rw [← hblank]
    exact State.writeLines_data (s.atIssue_data _) _ _
  obtain ⟨hlines, -⟩ := b.bring_near hlate htier 0x02 cid o.dst first (c * lpt)
  rw [State.tensorLines_congr (congrArg TierState.near hbtier)] at hlines
  rw [hsw, histSegs_own _ hc hpos, State.bringSegs_one hfn hbw hbgood, Nat.zero_mul, Nat.add_zero]
  exact .from_kept (State.linesKept_data hdata) hlines

/-! ### Moves, and reads that were late -/

/-- R142. The descriptor waits with the command. -/
theorem exec_moveT_keeps {s : State} {h : Issue} {o : MoveOp} {cid : Nat} (hi : s.Issues h [] [] cid) :
    ∃ t, exec (.moveT h o) s = .next t ∧
      (t.cmd cid).moves = (s.cmd cid).moves ++ [⟨(s.operand cid o.opd).handle, o.index⟩] ∧ s.Outside t ∧ s.LinesKept t := by
  refine ⟨_, congrArg ok (State.issue_next hi _ _), ?_, s.outside_atIssue [], fun _ => ⟨rfl, rfl⟩⟩
  simp only [State.cmd, State.setCmd, Store.getD_put_same]
  rfl

/-- R139. Once a fetch has landed, neither it nor a line of it is pending. -/
theorem State.land_shows (s : State) (r : FetchReq) (l : List LineData) :
    s.LinesAre (s.land r l) r.dst (l.take r.count) ∧ (∀ q ∈ (s.land r l).data.fetches, q.id ≠ r.id) ∧
      (∀ p ∈ (s.land r l).data.pendLines, p.2 ≠ r.id) ∧ s.Outside (s.land r l) := by
  refine ⟨(s.linesAre_writeLines r.dst (l.take r.count)).kept fun _ => ⟨rfl, rfl⟩, fun q hq => ?_, fun p hp => ?_,
    s.outside_writeLines r.dst (l.take r.count)⟩
  · obtain ⟨-, hne⟩ := List.mem_filter.mp hq
    simpa using hne
  · obtain ⟨-, hne⟩ := List.mem_filter.mp hp
    simpa using hne

/-- R139. A read that was late lands from the near tier as it then is. -/
theorem exec_tierReadComplete_lands {s : State} {o : TierReadOp} {r : FetchReq} {t' : Tensor}
    (hr : s.data.fetches.find? (fun q => q.id == o.id) = some r) (hecc : o.ecc = false)
    (ht : s.tensor? r.handle = some t') (htier : t'.tier = .near) :
    exec (.tierReadComplete o) s = .next (s.land r (s.tensorLines t' r.offset r.count)) := by
  show execTierReadComplete o s = _
  simp only [execTierReadComplete, hr, hecc, Bool.false_eq_true, if_false, State.reread, ht, if_pos htier, ok]

/-- Settles O7: a fetch brings its tensor's lines, a chunk is written blank before its stretches, and a late read lands. -/
theorem fetchCompletes : Obligations.FetchCompletes :=
  ⟨fun _ _ _ _ _ sc => exec_fetch_writes sc, fun _ _ _ _ => exec_fetchKv_blank, fun _ _ _ _ _ _ => exec_fetchKv_writes,
    fun _ _ _ _ => exec_moveT_keeps,
    fun s _ r _ hr hecc ht htier => ⟨_, exec_tierReadComplete_lands hr hecc ht htier, s.land_shows r _⟩⟩

end Sys2Proof.Machine
end

section
/-!
The configuration writes (O46). Each is one choice between a legal write and an ignored one, so there is one equation for each
branch; what needs an argument is how the choice reads a written bit (`bit_eq_true_iff`), and which register a marker's offset
means (`State.home_snd_of_mem_markRegs`).
-/

namespace Sys2Proof.Machine

/-! ### Fields of one bit -/

theorem bit_eq_true_iff {v i : Nat} : bit v i = true ↔ bits v i 1 = 1 := beq_iff_eq

theorem bit_eq_false_iff {v i : Nat} : bit v i = false ↔ bits v i 1 = 0 := by
  have hlt := bits_lt v i 1
  rw [← Bool.not_eq_true, bit_eq_true_iff]
  omega

/-! ### The arrays and the hot region -/

/-- R219. Gating is switched where that turns it off, or where no policy requires it to be off. -/
theorem exec_mxaCtrlWrite_sets {s : State} {v : Nat} (h : bits v 0 1 = 0 ∨ s.gateLocked = false) :
    exec (.mxaCtrlWrite v) s = .next ((s.set Reg.MXA_CTRL_ZERO_GATE_EN (bits v 0 1)).retain 0x50000) := by
  refine if_neg fun ⟨hbit, hlock⟩ => ?_
  rcases h with hzero | hfree
  · exact absurd (bit_eq_true_iff.mp hbit) (by omega)
  · exact absurd hlock (by simp [hfree])

/-- R474. Gating stays off while a loaded key's policy requires that. -/
theorem exec_mxaCtrlWrite_locked {s : State} {v : Nat} (hv : bits v 0 1 = 1) (hlock : s.gateLocked = true) :
    exec (.mxaCtrlWrite v) s = .next (s.secErr Reg.SEC_ERR_POLICY_LOCK) :=
  if_pos ⟨bit_eq_true_iff.mpr hv, hlock⟩

/-- R235, R255. The hot region moves while the sequencer rests and no slot is BOUND or DRAINING. -/
theorem exec_mtfHotCfgWrite_sets {s : State} {v : Nat} (h : s.seqAtRest = true ∧ s.data.hotSlots = [] ∧ bits v 0 2 ≠ 3) :
    exec (.mtfHotCfgWrite v) s = .next (((s.set Reg.MTF_HOT_CFG_AREA (bits v 0 2)).retain 0x70000).recheck) := by
  obtain ⟨hrest, hslots, harea⟩ := h
  exact if_pos ⟨hrest, List.isEmpty_iff.mpr hslots, harea⟩

theorem exec_mtfHotCfgWrite_rejects {s : State} {v : Nat} (h : s.seqAtRest = false ∨ s.data.hotSlots ≠ [] ∨ bits v 0 2 = 3) :
    exec (.mtfHotCfgWrite v) s = .next (s.set Reg.MTF_ERR_CFG_REJECT 1) := by
  refine if_neg fun ⟨hrest, hslots, harea⟩ => ?_
  rcases h with hbusy | hbound | hthree
  · exact absurd hrest (by simp [hbusy])
  · exact hbound (List.isEmpty_iff.mp hslots)
  · exact harea hthree

/-! ### The tiers and the links -/

section

variable (s : State) (v : Nat)

/-- R364. What a write of MOV_CTRL leaves in its two fields. -/
def State.movCtrl : State := (s.set Reg.MOV_CTRL_PAUSE (bits v 0 1)).set Reg.MOV_CTRL_WB_EN (bits v 1 1)

/-- R110. The progress of every move that runs, on a machine whose MOV_CTRL has been written. -/
def State.movProgress (t : State) (code : Nat) : State :=
  (s.tier.moves.filter (fun m => m.running && !m.stopped)).foldl (fun (t : State) m => t.writeProgress m code .ok) t

variable {s v}

/-- R364. MOV_CTRL.PAUSE reads as the write's bit, so no move stops and none goes on. -/
theorem exec_movPause_same (h : s.reg Reg.MOV_CTRL_PAUSE = bits v 0 1) : exec (.movPause v) s = .next (s.movCtrl v) := by
  have hflag : s.flag Reg.MOV_CTRL_PAUSE = bit v 0 := by
    rw [State.flag, h]
    rfl
  have hstop : ¬(bit v 0 = true ∧ (!s.flag Reg.MOV_CTRL_PAUSE) = true) := by simp [hflag]
  have hresume : ¬((!bit v 0) = true ∧ s.flag Reg.MOV_CTRL_PAUSE = true) := by simp [hflag]
  exact (if_neg hstop).trans (if_neg hresume)

theorem exec_movPause_stops (hrun : s.reg Reg.MOV_CTRL_PAUSE = 0) (hv : bits v 0 1 = 1) :
    exec (.movPause v) s = .next ((s.movProgress (s.movCtrl v) 2).set Reg.MOV_STATUS_PAUSED 1) :=
  if_pos ⟨bit_eq_true_iff.mpr hv, by rw [State.flag, hrun]; rfl⟩

theorem exec_movPause_resumes (hpaused : s.reg Reg.MOV_CTRL_PAUSE = 1) (hv : bits v 0 1 = 0) :
    exec (.movPause v) s = .next ((s.movProgress (s.movCtrl v) 1).set Reg.MOV_STATUS_PAUSED 0) := by
  have hbit := bit_eq_false_iff.mpr hv
  have hflag : s.flag Reg.MOV_CTRL_PAUSE = true := by rw [State.flag, hpaused]; rfl
  exact (if_neg fun ⟨hset, _⟩ => by simp [hbit] at hset).trans (if_pos ⟨by simp [hbit], hflag⟩)

/-- R355, R364. Lending beyond 192 hanks is rejected. -/
theorem exec_movLendCfgWrite_rejects (h : 192 < bits v 0 9) : exec (.movLendCfgWrite v) s = .next s.movReject :=
  if_neg (by omega)

/-- R406. Staging changes its size while the sequencer rests. -/
theorem exec_lnkStageCfgWrite_rejects (h : s.seqAtRest = false ∨ bits v 0 2 = 3) :
    exec (.lnkStageCfgWrite v) s = .next (s.err Reg.LNK_ERR_CFG_REJECT Reg.LNK_INT_EN_EN 7 6) := by
  refine if_neg fun ⟨hrest, hsize⟩ => ?_
  rcases h with hbusy | hthree
  · exact absurd hrest (by simp [hbusy])
  · exact hsize hthree

/-! ### Power -/

/-- R560, R79. A slope in range is taken at rest; templates are rechecked only when it differs from the slope before. -/
theorem exec_pwrRampWrite_sets (h : s.seqAtRest = true ∧ 5 ≤ bits v 0 7 ∧ bits v 0 7 ≤ 100) :
    let t := (s.set Reg.PWR_RAMP_SLOPE (bits v 0 7)).retain 0xC000C
    exec (.pwrRampWrite v) s = .next (if s.reg Reg.PWR_RAMP_SLOPE = bits v 0 7 then t else t.recheck) := by
  refine (if_pos h).trans ?_
  simp only [beq_iff_eq, ok]

theorem exec_pwrRampWrite_rejects (h : s.seqAtRest = false ∨ bits v 0 7 < 5 ∨ 100 < bits v 0 7) :
    exec (.pwrRampWrite v) s = .next (s.pwrErr Reg.PWR_ERR_CFG_REJECT) := by
  refine if_neg fun ⟨hrest, hlow, hhigh⟩ => ?_
  rcases h with hbusy | hbelow | habove
  · exact absurd hrest (by simp [hbusy])
  · omega
  · omega

end

/-! ### Stitch markers -/

/-- R499, R528. Outside the RNG alias and the queue mirror a register is kept under the offset that names it. -/
theorem State.home_snd_of_not_alias (s : State) (fn : Nat) {off : Nat} (halias : ¬(0xE0000 ≤ off ∧ off < 0xE1000))
    (hmirror : ¬(0x11000 ≤ off ∧ off < 0x11200)) : (s.home fn off).2 = off := by
  rw [State.home, if_neg halias, if_neg hmirror]
  split
  · rfl
  · split <;> rfl

/-- R578. No marker lies in an alias. -/
theorem State.home_snd_of_mem_markRegs (s : State) {off : Nat} (h : off ∈ markRegs) : (s.home 0 off).2 = off := by
  have houtside : ∀ k ∈ markRegs, ¬(0xE0000 ≤ k ∧ k < 0xE1000) ∧ ¬(0x11000 ≤ k ∧ k < 0x11200) := by decide
  obtain ⟨halias, hmirror⟩ := houtside off h
  exact s.home_snd_of_not_alias 0 halias hmirror

/-- R579. A marker that is written forgets which of its statistics were beyond the threshold. -/
theorem exec_markThreshWrite_rearms (s : State) {off : Nat} (v : Nat) (h : off ∈ markRegs) :
    let a := s.writeWord (s.home 0 off).1 off v (fun _ => true)
    let keys := ((Reg.fieldsAt off).filter (fun f => f.acc == .rw1c)).map (regKey (s.home 0 off).1)
    exec (.markThreshWrite off v) s = .next
      (State.retain { a with pwr := { a.pwr with beyond := a.pwr.beyond.filter (fun k => !keys.contains k) } } off) := by
  have hhome := s.home_snd_of_mem_markRegs h
  refine (if_neg (by simp [h])).trans ?_
  simp only [hhome, ok]

theorem exec_markThreshWrite_elsewhere (s : State) {off : Nat} (v : Nat) (h : off ∉ markRegs) :
    exec (.markThreshWrite off v) s = .next s :=
  if_pos (by simp [h])

/-! ### Queues -/

section

variable {s : State} {fn off v : Nat}

/-- R501. What a write of a queue's BASE or CFG may not do: change an enabled queue but for EN, or enable one too small. -/
def State.queueBars (s : State) (fn off v : Nat) (en size : Fld) (least : Nat) : Prop :=
  (s.getF fn en = 1 ∧ (off ≠ size.off ∨ bits v 0 16 ≠ s.getF fn size)) ∨
    (off = size.off ∧ bit v 16 = true ∧ bits v 0 16 < least)

theorem exec_queueConfigWrite_rejects {en size : Fld} {least : Nat} (hq : queueAt off = some (en, size, least))
    (h : s.queueBars fn off v en size least) :
    exec (.queueConfigWrite fn off v) s = .next (s.fnErr fn Reg.GLB_FN_ERR_CFG_REJECT) := by
  show execQueueConfigWrite fn off v s = _
  rw [execQueueConfigWrite, hq]
  exact if_pos (by simpa [State.queueBars, and_assoc] using h)

theorem exec_queueConfigWrite_writes {en size : Fld} {least : Nat} (hq : queueAt off = some (en, size, least))
    (h : ¬ s.queueBars fn off v en size least) :
    exec (.queueConfigWrite fn off v) s = .next (s.writeWord fn off v (fun _ => true)) := by
  show execQueueConfigWrite fn off v s = _
  rw [execQueueConfigWrite, hq]
  exact if_neg (by simpa [State.queueBars, and_assoc] using h)

theorem exec_queueConfigWrite_elsewhere (hq : queueAt off = none) : exec (.queueConfigWrite fn off v) s = .next s := by
  show execQueueConfigWrite fn off v s = _
  rw [execQueueConfigWrite, hq]

end

/-- Settles O46: each write takes the branch that its premise names. -/
theorem configurationWritesComplete : Obligations.ConfigurationWritesComplete := by
  unfold Obligations.ConfigurationWritesComplete
  refine ⟨fun _ _ => exec_mxaCtrlWrite_sets, fun _ _ => exec_mxaCtrlWrite_locked,
    fun _ _ => ⟨exec_mtfHotCfgWrite_sets, exec_mtfHotCfgWrite_rejects⟩,
    fun _ _ => ⟨exec_movPause_same, exec_movPause_stops, exec_movPause_resumes⟩,
    fun _ _ => ⟨fun h => if_pos h, fun h => if_neg h⟩,
    fun _ _ => ⟨fun h => if_pos h, exec_movLendCfgWrite_rejects⟩,
    fun _ _ => ⟨fun h => if_pos h, fun h => if_neg h⟩,
    fun _ _ => ⟨fun h => if_pos h, exec_lnkStageCfgWrite_rejects⟩,
    fun _ _ => ⟨fun h => if_pos h, fun h => if_neg h⟩, ?ramp,
    fun _ _ => ⟨fun h => if_pos h, fun h => if_neg h⟩,
    fun s _ v h => exec_markThreshWrite_rearms s v h, fun s _ v h => exec_markThreshWrite_elsewhere s v h,
    fun _ _ _ _ _ _ _ hq => ⟨exec_queueConfigWrite_rejects hq, exec_queueConfigWrite_writes hq⟩,
    fun _ _ _ _ => exec_queueConfigWrite_elsewhere⟩
  case ramp =>
    refine fun s v => ⟨fun ⟨hrest, hlow, hhigh, hnew⟩ => ?_, fun ⟨hrest, hlow, hhigh, hsame⟩ => ?_,
      exec_pwrRampWrite_rejects⟩
    · rw [exec_pwrRampWrite_sets ⟨hrest, hlow, hhigh⟩, if_neg hnew]
    · rw [exec_pwrRampWrite_sets ⟨hrest, hlow, hhigh⟩, if_pos hsame]

end Sys2Proof.Machine
end

section
/-!
The messages of motifs (O21). A message that is taken meets its own rules only, and what its premises say picks the branch
of them that is answered.
-/

namespace Sys2Proof.Machine

/-- R228, R229, R345. A well-formed image that fits its RESIDENT base model is stored as a RESIDENT motif. -/
theorem exec_motifLoad_done {s s1 : State} {h : Mail} {src : Tensor} {f : Fmt} {loc : Nat}
    (ht : s.Taken h 0x0310 0 32) (hslot : h.u 8 2 < 8) (hz : h.u 10 6 = 0) (hok : h.handleOk 16 = true)
    (hne : h.handle 16 ≠ Handle.none) (hflags : h.u 28 4 = 0) (hfn : (h.handle 16).fn = h.fn)
    (hmodel : (s.model (h.u 8 2)).state = 2) (hsrc : s.ownTensor (h.handle 16) = .ok src)
    (hf : Fmt.ofCode src.format = some f) (htier : src.tier = .host) (hformat : src.format ≤ 2) :
    let slot := h.u 8 2
    let i := MotifImage.ofBytes h.buffer
    i.version = 1 → i.rsvd = 0 → i.fits (s.model slot) = true →
    (∀ t ∈ i.targets, t.length = t.lines i.rank * f.width / 16 ∧ t.offset + t.length ≤ src.size ∧ 17 ≤ t.offset) →
    s.tableFull h.fn 1 = none → (s.quota h.fn).motifUsed + 1 ≤ (s.quota h.fn).motifLimit →
    (s.tier.tt.filter (fun c => c.2.kind == .motif && c.2.tier == .near)).length < 4096 →
    let ts := layTargets i.rank 17 i.targets
    let x := s.blankTensor h.fn .motif 1 (17 + (ts.map (·.length)).foldl (· + ·) 0)
    s.allocNear h.fn x.keyIndex x.units = .good loc s1 →
    let x := { x with loc := loc, kspec := slot }
    let lines := motifHead i (s.model slot).params.rhtBlock.isSome (h.u 24 4) ts ++
      i.targets.flatMap (fun t => t.data f none (BitVec.ofNat 32 (h.u 24 4)) i.rank h.buffer)
    let s2 := (s1.enter x).writeNear loc lines
    let s3 := s2.setQuota h.fn { s2.quota h.fn with motifUsed := (s2.quota h.fn).motifUsed + 1 }
    let s4 : State := { s3 with tier := { s3.tier with motifs := Store.put s3.tier.motifs x.key ⟨.resident, slot, i.rank, 0⟩ } }
    exec (.motifLoad h) s = .next (s4.showSpace.replied h 0x0310 (leBytes x.handle.toNat 8)) := by
  intro slot i hversion hrsvd hfits htargets htable hquota hroom ts x halloc
  have hwhole : ¬(src.tier ≠ .host ∨ 2 < src.format ∨ i.version ≠ 1 ∨ i.rsvd ≠ 0 ∨ (!i.fits (s.model slot)) = true ∨
      i.targets.any (fun t => t.length != t.lines i.rank * f.width / 16 || src.size < t.offset + t.length || t.offset < 17) =
        true) := by
    simpa [htier, hformat, hversion, hrsvd, hfits, and_assoc] using htargets
  have hfull : (s.tableFull h.fn 1).or (if (s.quota h.fn).motifLimit < (s.quota h.fn).motifUsed + 1 then some .quota
      else if 4096 ≤ (s.tier.tt.filter (fun c => c.2.kind == .motif && c.2.tier == .near)).length then some .noCapacity
      else none) = none := by
    rw [htable, if_neg (by omega), if_neg (by omega)]
    rfl
  have hrotate : bit (h.u 28 4) 0 = false := by rw [hflags]; rfl
  refine congrArg ok (State.mail_done ht ?_ ?_ ?_)
  · simp [hslot, hz, hok, hne, hflags]
  · simpa using hfn
  · dsimp only
    rw [if_neg (not_not.mpr hmodel)]
    simp only [hsrc, hf]
    rw [if_neg hwhole]
    simp only [hfull]
    rw [halloc]
    simp only [hrotate]
    rfl

/-- R231, R123, R230. A RESIDENT motif that fits is bound to the lowest free slot, under the first free binding. -/
theorem exec_motifBind_done {s : State} {h : Mail} {x : Tensor} {mo : Motif} {c : CtxBlock} {e slot : Nat}
    (ht : s.Taken h 0x0311 0 18) (hok : h.handleOk 8 = true) (hne : h.handle 8 ≠ Handle.none)
    (hfn : (h.handle 8).fn = h.fn) (hmode : h.u 16 2 = 1 ∨ h.u 16 2 = 2) (hx : s.ownTensor (h.handle 8) = .ok x)
    (hmo : Store.get? s.tier.motifs (ttKey h.fn (h.handle 8).idx) = some mo) (hc : Store.get? s.tier.ctx h.fn = some c)
    (hstate : mo.state = .resident) (hstill : x.moving = false) (hwhole : x.incomplete = false)
    (htrain : h.u 16 2 = 1 → s.trainNames (h.handle 8) = false)
    (he : c.bindings.findIdx? (fun b => b.mode == 0) = some e)
    (harea : ∀ t ∈ (s.motifImage x).targets, t.lines mo.rank ≤ s.area) (hslot : s.freeSlot = some slot) :
    exec (.motifBind h) s = .next ((s.bindMotif x mo c e slot (h.u 16 2)).replied h 0x0311 (leBytes slot 2)) := by
  have hfree : ¬(mo.state ≠ .resident ∨ x.moving = true ∨ (h.u 16 2 = 1 ∧ s.trainNames (h.handle 8) = true)) := by
    simpa [hstate, hstill] using htrain
  have hroom : ¬((s.motifImage x).targets.any (fun t => s.area < t.lines mo.rank) = true) := by
    simpa using harea
  refine congrArg ok (State.mail_done ht ?_ ?_ ?_)
  · rcases hmode with hmode | hmode <;> simp [hok, hne, hmode]
  · simpa using hfn
  · simp only [hfn, hx, hmo, hc]
    rw [if_neg hfree, if_neg (by simp [hwhole])]
    simp only [he]
    rw [if_neg hroom]
    simp only [hslot]

/-- R426. A module that does not mirror sends nothing of a context block. -/
theorem State.mirrorCtx_of_not_mirrors {s : State} (h : s.mirrors = false) (fn : Nat) : s.mirrorCtx fn = s := by
  unfold State.mirrorCtx State.mirror
  split
  · rfl
  · exact if_neg (by simp [h])

/-- R231, R234. What a binding shows: the motif's state, the slot's record, and the tensor itself as before. -/
theorem State.bindMotif_shows {s : State} (h : s.mirrors = false) (x : Tensor) (mo : Motif) (c : CtxBlock)
    (e slot mode : Nat) :
    let t := s.bindMotif x mo c e slot mode
    Store.get? t.tier.motifs x.key = some { mo with state := if mode = 2 then .training else .serving, slot := slot } ∧
      (Store.get? t.data.hotSlots slot).map (fun r => (r.handle, r.fn, r.state, r.model, r.rank, r.line)) =
        some (x.handle, x.fn, 1, mo.model, mo.rank, x.loc) ∧ t.tier.near = s.tier.near ∧ t.tier.tt = s.tier.tt := by
  unfold State.bindMotif
  dsimp only
  rw [State.mirrorCtx_of_not_mirrors]
  · refine ⟨Store.get?_put_same _ _ _, ?_, rfl, rfl⟩
    exact congrArg (Option.map _) (Store.get?_put_same _ _ _)
  · exact h

/-- R230, R232. A SERVING motif begins to drain. -/
theorem exec_motifUnbind_drains {s : State} {h : Mail} {x : Tensor} {mo : Motif} (ht : s.Taken h 0x0312 0 16)
    (hok : h.handleOk 8 = true) (hne : h.handle 8 ≠ Handle.none) (hfn : (h.handle 8).fn = h.fn)
    (hx : s.tensor? (h.handle 8) = some x)
    (hmo : Store.get? s.tier.motifs (ttKey h.fn (h.handle 8).idx) = some mo) (hstate : mo.state = .serving) :
    exec (.motifUnbind h) s = .next (((s.drainMotif x.key).mirrorCtx h.fn).replied h 0x0312 []).settleMotifs := by
  refine congrArg (fun t : State => ok t.settleMotifs) (State.mail_done ht ?_ ?_ ?_)
  · simp [hok, hne]
  · simpa using hfn
  · simp only [hfn, hx, hmo]
    exact if_pos (.inl hstate)

/-- R254. The record of a motif, without the digest of a tenant's motif where the PF asks. -/
theorem exec_motifQuery_done {s : State} {h : Mail} {x : Tensor} {mo : Motif} (ht : s.Taken h 0x0313 0 16)
    (hok : h.handleOk 8 = true) (hne : h.handle 8 ≠ Handle.none) (hfn : (h.handle 8).fn = h.fn ∨ h.fn = 0)
    (hx : s.tensor? (h.handle 8) = some x)
    (hmo : Store.get? s.tier.motifs (ttKey (h.handle 8).fn (h.handle 8).idx) = some mo) :
    exec (.motifQuery h) s = .next (s.replied h 0x0313 (leBytes mo.state.code 2 ++ leBytes mo.slot 2 ++ leBytes mo.rank 2 ++
      leBytes 0 26 ++ leBytes (if h.fn = 0 ∧ x.fn ≠ 0 then 0 else s.tensorDigest x).toNat 32)) := by
  refine congrArg ok (State.mail_done ht ?_ ?_ ?_)
  · simp [hok, hne]
  · simpa using hfn
  · simp only [hx, hmo]

/-- Settles O21: each message that is taken meets its own rules only, and its premises pick the branch that serves it. -/
theorem motifMessagesComplete : Obligations.MotifMessagesComplete := by
  refine ⟨?load, fun _ _ _ _ _ _ _ => exec_motifBind_done, fun _ x mo c e slot mode h => State.bindMotif_shows h x mo c e slot mode,
    fun _ _ _ _ => exec_motifUnbind_drains, fun _ _ _ _ => exec_motifQuery_done⟩
  intro s s1 h src f loc slot i ht hslot hz hok hne hflags hfn hmodel hsrc hf htier hformat hversion hrsvd hfits htargets
    htable hquota hroom ts x halloc y lines _
  exact exec_motifLoad_done ht hslot hz hok hne hflags hfn hmodel hsrc hf htier hformat hversion hrsvd hfits htargets
    htable hquota hroom halloc

end Sys2Proof.Machine
end

section
/-!
The messages of swatches (O22). Fields of the payload that are zero together are zero each; with those, the premises of a
message that is taken pick the branch that serves it.
-/

namespace Sys2Proof.Machine

/-! ### Fields of a payload that are zero -/

/-- Bytes spell zero when each of them is zero. -/
theorem leNat_eq_zero_iff {l : List Byte} : leNat l = 0 ↔ ∀ b ∈ l, b = 0 := by
  induction l with
  | nil => simp [leNat]
  | cons b l ih =>
    have hb : b.toNat = 0 ↔ b = 0 := (BitVec.toNat_eq (x := b) (y := 0)).symm
    simp [leNat, ih, hb]

/-- A field inside one that is zero is zero. -/
theorem Mail.u_eq_zero_of_within {h : Mail} {i k j n : Nat} (hz : h.u i k = 0) (hlo : i ≤ j) (hhi : j + n ≤ i + k) :
    h.u j n = 0 := by
  refine leNat_eq_zero_iff.mpr fun b hb => leNat_eq_zero_iff.mp hz b ?_
  obtain ⟨d, rfl⟩ := Nat.exists_eq_add_of_le hlo
  have hslice : slice h.payload (i + d) n = ((slice h.payload i k).drop d).take n := by
    simp only [slice, List.drop_take, List.drop_drop, List.take_take]
    rw [Nat.min_eq_left (by omega)]
  rw [hslice] at hb
  exact List.mem_of_mem_drop (List.mem_of_mem_take hb)

/-- R518. Eight zero bytes are the handle "none", and it is well formed. -/
theorem Mail.handle_of_zero {h : Mail} {i : Nat} (hz : h.u i 8 = 0) : h.handle i = Handle.none ∧ h.handleOk i = true := by
  have hnone : h.handle i = Handle.none := by
    rw [Mail.handle, Mail.u_eq_zero_of_within hz le_rfl (by omega)]
    rfl
  refine ⟨hnone, ?_⟩
  have hhigh : h.u (i + 6) 2 = 0 := Mail.u_eq_zero_of_within hz (by omega) (by omega)
  simp [Mail.handleOk, hnone, hhigh, Handle.malformed, Handle.none, Handle.toNat]

/-- R518. A list whose count is zero is empty. -/
theorem Mail.handles_of_zero {h : Mail} {i : Nat} (hz : h.u i 4 = 0) : h.handles i = [] := by
  simp [Mail.handles, hz]

/-! ### Swatches -/

/-- The record of a swatch whose build begins (R247, R248). -/
def buildRecord (h : Mail) (slot len : Nat) : Swatch :=
  { state := 0, model := slot, relocatable := false, length := len, basePos := 0, motifDigest := 0, digest := 0, pins := 0
    done := 0, ticket := some (h.ticket 0x0320) }

/-- The sequence that fills a swatch (R249). -/
def buildSeq (h : Mail) (slot len : Nat) (kv : Handle) : SeqRec :=
  { fn := h.fn, model := slot, kv := kv, tokens := h.handle 8, tokNext := 0, remain := len, copied := 0
    motif := Handle.none, swatches := [], allowBase := false, swLen := 0, rng := 0, maxNew := 0
    fixedSlices := false, tag := 0, phase := .prefill, pos := 0, sampled := 0, closing := false
    lastRow := 0, lastStep := 0, lastTime := 0, queue := 0 }

/-- R248, R249. A build enters its swatch and opens the sequence that fills it. -/
def State.beginBuild (s : State) (x : Tensor) (w : Swatch) (q : SeqRec) : State :=
  let a := (s.enter x).setSwatch x.key w
  let b : State := { a with serve := { a.serve with
    seqs := Store.put a.serve.seqs a.freshSeq q, builds := Store.put a.serve.builds a.freshSeq x.key } }
  b.showSeqs.showSpace

@[simp] theorem State.sample_serve (s : State) (fn : Nat) (status inten count : Fld) (isBeyond : Bool) :
    (s.sample fn status inten count isBeyond).serve = s.serve := by
  unfold State.sample
  dsimp only
  split_ifs <;> rfl

/-- Showing the space writes registers and samples a marker, so what both keep holds after it. -/
theorem State.showSpace_keeps {P : State → Prop} {s : State} (hset : ∀ t f v, P t → P (t.set f v))
    (hsample : ∀ t fn status inten count isBeyond, P t → P (t.sample fn status inten count isBeyond)) (hs : P s) :
    P s.showSpace := by
  unfold State.showSpace
  extract_lets free near pend deep dirty active queued lent shown low thresh
  have hshown : P shown := by
    iterate 10 apply hset
    exact hs
  refine hsample _ _ _ _ _ _ ?_
  show P (if _ then _ else _)
  split
  · exact hset _ _ _ hshown
  · exact hshown

@[simp] theorem State.showSpace_serve (s : State) : s.showSpace.serve = s.serve :=
  State.showSpace_keeps (P := fun t => t.serve = s.serve) (fun _ _ _ => id)
    (fun _ _ _ _ _ _ => (State.sample_serve ..).trans) rfl

theorem State.beginBuild_swatch (s : State) (x : Tensor) (w : Swatch) (q : SeqRec) :
    Store.get? (s.beginBuild x w q).tier.swatches x.key = some w := by
  simp [State.beginBuild, State.showSeqs, State.setSwatch, Store.get?_put_same]

/-- The sequence stands under a number of its own, by which the build finds its swatch. -/
theorem State.beginBuild_seq (s : State) (x : Tensor) (w : Swatch) (q : SeqRec) :
    ∃ id, Store.get? (s.beginBuild x w q).serve.builds id = some x.key ∧
      Store.get? (s.beginBuild x w q).serve.seqs id = some q := by
  refine ⟨((s.enter x).setSwatch x.key w).freshSeq, ?_⟩
  simp [State.beginBuild, State.showSeqs, Store.get?_put_same]

/-- R247 to R249. A build with all it asks for in range begins. -/
theorem exec_swatchBuild_begins {s s1 : State} {h : Mail} {tk x : Tensor} {loc cap slot len : Nat}
    (ht : s.Taken h 0x0320 0 42) (hok : h.handleOk 8 = true) (hne : h.handle 8 ≠ Handle.none)
    (hfn : (h.handle 8).fn = h.fn) (hmotif : h.u 16 8 = 0) (hon : h.u 24 8 = 0) (hmode : h.u 32 4 = 0)
    (hcap : ceilDiv (h.u 36 4) 256 = cap) (hslot : h.u 40 2 = slot) (hlen : 64 * tk.size = len) (hslotIn : slot < 8)
    (hcapLo : 1 ≤ cap) (hcapHi : cap ≤ 4096) (hmodel : (s.model slot).state = 2)
    (hactive : s.getF h.fn Reg.GLB_FN_STATE_STATE = 1) (htk : s.ownTensor (h.handle 8) = .ok tk) (hformat : tk.format = 8)
    (hlenIn : len ≤ 1048576) (hfits : len ≤ 256 * cap) (hwhole : tk.incomplete = false)
    (htable : s.tableFull h.fn 1 = none) (hseqs : s.serve.seqs.length < 16384) (hserved : s.classServed slot len = true)
    (hx : s.blankTensor h.fn .swatch 3 ((s.model slot).params.layers * (256 * cap) * (s.model slot).params.kvLpt) = x)
    (halloc : s.allocNear h.fn x.keyIndex x.units = .good loc s1) :
    let y := { x with loc := loc, kspec := slot + 8 * cap }
    exec (.swatchBuild h) s =
      .next ((s1.beginBuild y (buildRecord h slot len) (buildSeq h slot len y.handle)).waiting h 0x0320) := by
  obtain ⟨hnone, hnoneOk⟩ := Mail.handle_of_zero hmotif
  have hn : h.u 24 4 = 0 := Mail.u_eq_zero_of_within hon le_rfl (by omega)
  have hpad : h.u 28 4 = 0 := Mail.u_eq_zero_of_within hon (by omega) (by omega)
  have hfixed : h.u 32 2 = 0 := Mail.u_eq_zero_of_within hmode le_rfl (by omega)
  have hrest : h.u 34 2 = 0 := Mail.u_eq_zero_of_within hmode (by omega) (by omega)
  have hlist : h.handles 24 = [] := Mail.handles_of_zero hn
  have hshape : ¬(tk.format ≠ 8 ∨ 1048576 < len ∨ 256 * cap < len ∨ 4194304 < len) := by omega
  have hroom : ¬(16384 ≤ s.serve.seqs.length ∨ (!s.classServed slot len) = true) := by
    simpa [hserved] using hseqs
  have hempty : s.swatchLen [] = 0 := rfl
  have hmay : s.swatchRefusal h.fn slot Handle.none false 0 [] = none := rfl
  have hpin : ∀ a : State, a.pin [] = a := fun _ => rfl
  intro y
  show execSwatchBuild h s = _
  unfold execSwatchBuild
  simp only [hn, hnone, hlist, Nat.zero_min, Nat.mul_zero, Nat.add_zero, Nat.reduceAdd, hcap, hslot, hfixed, hrest]
  refine congrArg ok (State.mail_later ht ?_ ?_ ?_)
  · simp [hok, hnoneOk, hne, hpad, hslotIn, hcapLo, hcapHi]
  · simpa using hfn
  · dsimp only
    rw [if_neg (not_not.mpr hmodel), if_neg (not_not.mpr hactive), if_neg (fun hm => hm.1 rfl)]
    simp only [hmay, htk, hempty, hlen, Nat.zero_add, hx]
    rw [if_neg hshape, if_neg (by simp [hwhole])]
    simp only [htable]
    rw [if_neg hroom]
    simp only [halloc, hpin]
    rfl

/-- R247 to R249. What a build that begins shows: a BUILDING swatch, and the sequence that fills it. -/
theorem State.beginBuild_shows (s : State) (x : Tensor) (h : Mail) (slot len : Nat) :
    let t := s.beginBuild x (buildRecord h slot len) (buildSeq h slot len x.handle)
    (Store.get? t.tier.swatches x.key).map (fun (w : Swatch) => (w.state, w.model, w.length, w.basePos, w.pins)) =
        some (0, slot, len, 0, 0) ∧ (∃ id, Store.get? t.serve.builds id = some x.key ∧
          (Store.get? t.serve.seqs id).map (fun (q : SeqRec) => (q.fn, q.kv, q.tokens, q.remain)) =
            some (h.fn, x.handle, h.handle 8, len)) := by
  dsimp only
  obtain ⟨id, hkey, hseq⟩ := State.beginBuild_seq s x (buildRecord h slot len) (buildSeq h slot len x.handle)
  rw [State.beginBuild_swatch]
  refine ⟨rfl, id, hkey, ?_⟩
  rw [hseq]
  rfl

/-- R250, R252. A swatch that nothing pins, names or reads is released with its linked tensor. -/
theorem exec_swatchRelease_done {s : State} {h : Mail} {x : Tensor} {w : Swatch} (ht : s.Taken h 0x0321 0 16)
    (hok : h.handleOk 8 = true) (hne : h.handle 8 ≠ Handle.none) (hfn : (h.handle 8).fn = h.fn)
    (hx : s.tensor? (h.handle 8) = some x) (hw : Store.get? s.tier.swatches (ttKey h.fn (h.handle 8).idx) = some w)
    (hpins : w.pins = 0) (hbuilt : w.state ≠ 0) (hstill : x.moving = false)
    (hfree : s.named (ttKey h.fn (h.handle 8).idx) = false) (hout : s.inStep (ttKey h.fn (h.handle 8).idx) = false) :
    exec (.swatchRelease h) s = .next ((s.dropPair x).replied h 0x0321 []) := by
  refine congrArg ok (State.mail_done ht ?_ ?_ ?_)
  · simp [hok, hne]
  · simpa using hfn
  · simp only [hfn, hx, hw]
    rw [if_neg (by simp [hpins, hstill, hfree]), if_neg hbuilt, if_neg (by simp [hout])]

/-- R253, R479. A blob that opens, of KIND SWATCH and for the RESIDENT model, becomes a SEALED swatch. -/
theorem exec_swatchImport_done {s s1 : State} {h : Mail} {src : Tensor} {b : BlobHead} {payload : List Byte} {x : Tensor}
    {sc : Option Tensor} (ht : s.Taken h 0x0322 0 64) (hok : h.handleOk 8 = true) (hne : h.handle 8 ≠ Handle.none)
    (hfn : (h.handle 8).fn = h.fn) (hmode : h.u 24 2 = 0) (hz : h.u 26 6 = 0) (hlo : 1 ≤ h.u 16 4)
    (hhi : h.u 16 4 ≤ 1048576) (hkey : (Store.get? s.sec.keys h.fn).isSome = true)
    (hsrc : s.ownTensor (h.handle 8) = .ok src) (hopen : s.openBlob h.fn src h.buffer = .ok (b, payload, h.u 16 4))
    (hkind : b.kind = 4) (hmodel : (s.model (bits b.kspec 0 3)).state = 2)
    (hweights : b.weights = (s.model (bits b.kspec 0 3)).digest) (hsize : b.size = s.kvLines b.kspec)
    (hplace : s.placeBlob h.fn b payload = .ok (x, sc, s1)) :
    let w : Swatch := ⟨1, bits b.kspec 0 3, false, h.u 16 4, h.u 20 4, BitVec.ofNat 256 (h.u 32 32), b.digest, 0, h.u 16 4, none⟩
    exec (.swatchImport h) s = .next ((s1.setSwatch x.key w).replied h 0x0322 (leBytes x.handle.toNat 8)) := by
  refine congrArg ok (State.mail_done ht ?_ ?_ ?_)
  · simp [hok, hne, hmode, hz, hlo, hhi]
  · simp [hfn, hkey]
  · simp only [hsrc, hopen]
    rw [if_neg (by simp [hkind, hmode, hmodel, hweights, hsize]), if_neg (by simp)]
    simp only [hplace, hmode]
    rfl

/-- R248, R254. The record of a swatch, without digests where the PF asks. -/
theorem exec_swatchQuery_done {s : State} {h : Mail} {x : Tensor} {w : Swatch} (ht : s.Taken h 0x0323 0 16)
    (hok : h.handleOk 8 = true) (hne : h.handle 8 ≠ Handle.none) (hfn : (h.handle 8).fn = h.fn ∨ h.fn = 0)
    (hx : s.tensor? (h.handle 8) = some x)
    (hw : Store.get? s.tier.swatches (ttKey (h.handle 8).fn (h.handle 8).idx) = some w) :
    exec (.swatchQuery h) s = .next (s.replied h 0x0323 (w.bytes x (h.fn != 0))) := by
  refine congrArg ok (State.mail_done ht ?_ ?_ ?_)
  · simp [hok, hne]
  · simpa using hfn
  · simp only [hx, hw]

/-- Settles O22: a build is `beginBuild`, which shows its swatch and its sequence; the others are one branch each. -/
theorem swatchMessagesComplete : Obligations.SwatchMessagesComplete := by
  refine ⟨?build, fun _ _ _ _ => exec_swatchRelease_done, fun _ _ _ _ _ _ _ _ => exec_swatchImport_done,
    fun _ _ _ _ => exec_swatchQuery_done⟩
  intro s s1 h tk loc ht hok hne hfn hmotif hon hmode hslot cap slot hcapLo hcapHi hmodel hactive htk hformat hlen hfits
    hwhole htable hseqs hserved p x halloc
  have hbegins := exec_swatchBuild_begins (x := x) (cap := cap) (slot := slot) ht hok hne hfn hmotif hon hmode rfl rfl rfl
    hslot hcapLo hcapHi hmodel hactive htk hformat hlen hfits hwhole htable hseqs hserved rfl halloc
  exact ⟨_, hbegins, State.beginBuild_shows s1 { x with loc := loc, kspec := slot + 8 * cap } h slot (64 * tk.size)⟩

end Sys2Proof.Machine
end

section
/-!
The requests to blocks (O47). A write of RNG_CMD that asks for one thing performs it on the machine that the write leaves, whose other
registers read as before (`State.getF_rngWrite`); a stream that is written is mirrored, which changes registers, links, outputs and free
values alone (`State.mirrorCtx_rest`); the entry of a tensor shows itself in the words of consecutive registers (`State.reg_showWords`).
-/

namespace Sys2Proof.Machine

/-! ### Writes of a word -/

/-- R6. A host write of a field writes no other. -/
theorem State.getF_writeField_ne (s : State) (fn v : Nat) (f g : Fld) (h : g.off * 32 + g.lo ≠ f.off * 32 + f.lo) :
    (State.writeField fn v s f).getF fn g = s.getF fn g := by
  unfold State.writeField
  dsimp only
  split
  · exact State.getF_setF_ne _ _ _ _ _ h
  · split
    · rfl
    · exact State.getF_setF_ne _ _ _ _ _ h
  · split
    · rfl
    · exact State.getF_setF_ne _ _ _ _ _ h
  · rfl

theorem State.writeField_rest (s : State) (fn v : Nat) (f : Fld) : ∃ r, State.writeField fn v s f = { s with regs := r } := by
  unfold State.writeField
  dsimp only
  split
  · exact ⟨_, rfl⟩
  · split <;> exact ⟨_, rfl⟩
  · split <;> exact ⟨_, rfl⟩
  · exact ⟨_, rfl⟩

/-- R6. A host write of fields changes registers alone. -/
theorem State.writeFields_rest (l : List Fld) (s : State) (fn v : Nat) :
    ∃ r, l.foldl (State.writeField fn v) s = { s with regs := r } := by
  induction l generalizing s with
  | nil => exact ⟨_, rfl⟩
  | cons f l ih =>
    obtain ⟨r, hr⟩ := s.writeField_rest fn v f
    obtain ⟨r', hr'⟩ := ih (State.writeField fn v s f)
    exact ⟨r', by rw [List.foldl_cons, hr', hr]⟩

theorem State.writeWord_rest (s : State) (fn off v : Nat) (p : Fld → Bool) :
    ∃ r, s.writeWord fn off v p = { s with regs := r } :=
  State.writeFields_rest _ s fn v

/-- Of the fields of RNG_CMD, the flags take a write as their access code says. -/
theorem fieldsAt_rngCmd : (Reg.fieldsAt 0xE024).filter (fun f => !f.own) =
    [Reg.RNG_CMD_DONE, Reg.RNG_CMD_BUSY_ERR, Reg.RNG_CMD_ARG_ERR] := by decide

/-! ### RNG_CMD -/

section

variable (s : State) (fn v : Nat)

/-- R320. The machine after the flags that a write of RNG_CMD gives are cleared. -/
def State.rngWrite : State := s.writeWord fn 0xE024 v (fun f => !f.own)

theorem State.rngWrite_rest : ∃ r, s.rngWrite fn v = { s with regs := r } := s.writeWord_rest _ _ _ _

theorem State.getF_rngWrite {g : Fld} (hl : g.lo < 32) (h : g.off ≠ 0xE024) : (s.rngWrite fn v).getF fn g = s.getF fn g := by
  have hdone : Reg.RNG_CMD_DONE.off = 0xE024 ∧ Reg.RNG_CMD_DONE.lo = 8 := by decide
  have hbusy : Reg.RNG_CMD_BUSY_ERR.off = 0xE024 ∧ Reg.RNG_CMD_BUSY_ERR.lo = 9 := by decide
  have harg : Reg.RNG_CMD_ARG_ERR.off = 0xE024 ∧ Reg.RNG_CMD_ARG_ERR.lo = 10 := by decide
  rw [State.rngWrite, State.writeWord, fieldsAt_rngCmd, List.foldl_cons, List.foldl_cons, List.foldl_cons, List.foldl_nil,
    State.getF_writeField_ne _ _ _ _ _ (by omega), State.getF_writeField_ne _ _ _ _ _ (by omega),
    State.getF_writeField_ne _ _ _ _ _ (by omega)]

/-- Whether a function has work that may draw does not rest on a register. -/
theorem State.rngBusy_rngWrite : (s.rngWrite fn v).rngBusy fn = s.rngBusy fn := by
  obtain ⟨r, hr⟩ := s.rngWrite_rest fn v
  rw [hr]
  rfl

theorem State.ctx_rngWrite : (s.rngWrite fn v).tier.ctx = s.tier.ctx := by
  obtain ⟨r, hr⟩ := s.rngWrite_rest fn v
  rw [hr]

theorem State.host_rngWrite : (s.rngWrite fn v).host = s.host := by
  obtain ⟨r, hr⟩ := s.rngWrite_rest fn v
  rw [hr]

end

/-- The requests are the low four bits of the word. -/
theorem bit_mod_16 {v i : Nat} (hi : i < 4) : bit (v % 16) i = bit v i := by
  have hmod : v % 16 / 2 ^ i % 2 = v / 2 ^ i % 2 := by
    interval_cases i <;> omega
  rw [bit, bit, hmod]

/-- A request is the only one when its bit is the only one of four. -/
theorem setBits_length_eq_one_iff : ∀ n < 16, ∀ i < 4, bit n i = true → ((setBits n 4).length = 1 ↔ n = 2 ^ i) := by
  decide

theorem bit_two_pow : ∀ i < 4, bit (2 ^ i) i = true := by decide

section

variable {s : State} {fn v i : Nat} {c : CtxBlock}

/-- R320. A write that asks for one thing performs it on the selected stream. -/
theorem State.rngCmd_asked (hi : i < 4) (hv : v % 16 = 2 ^ i) (hc : Store.get? s.tier.ctx fn = some c)
    (act : Nat → CtxBlock → State → State) :
    s.rngCmd fn v i act = act (s.getF fn Reg.RNG_SEL_STREAM) c (s.rngWrite fn v) := by
  have hbit : bit v i = true := by rw [← bit_mod_16 hi, hv, bit_two_pow i hi]
  have hone : (setBits (v % 16) 4).length = 1 :=
    (setBits_length_eq_one_iff _ (Nat.mod_lt _ (by decide)) i hi (by rwa [bit_mod_16 hi])).mpr hv
  have hctx : Store.get? (s.rngWrite fn v).tier.ctx fn = some c := by rw [State.ctx_rngWrite, hc]
  have hsel := s.getF_rngWrite fn v (g := Reg.RNG_SEL_STREAM) (by decide) (by decide)
  unfold State.rngWrite at hctx hsel
  simp only [State.rngCmd, hbit, hone, hctx, hsel, State.rngWrite, Bool.not_true, Bool.false_eq_true, if_false, ne_eq,
    not_true]

/-- R320. A write that asks for several things is an error. -/
theorem State.rngCmd_several (hi : i < 4) (hbit : bit v i = true) (hv : v % 16 ≠ 2 ^ i)
    (act : Nat → CtxBlock → State → State) :
    s.rngCmd fn v i act = (s.rngWrite fn v).setF fn Reg.RNG_CMD_ARG_ERR 1 := by
  have hone : (setBits (v % 16) 4).length ≠ 1 := fun e =>
    hv ((setBits_length_eq_one_iff _ (Nat.mod_lt _ (by decide)) i hi (by rwa [bit_mod_16 hi])).mp e)
  refine (if_neg (by simp [hbit])).trans (if_pos hone)

/-! ### Streams -/

/-- R320. The holding registers show a stream. -/
def State.showStream (s : State) (fn : Nat) (st : Stream) : State :=
  let n := st.counter.toNat
  let s := (s.setF fn Reg.RNG_KEY0_KEY0 st.key0.toNat).setF fn Reg.RNG_KEY1_KEY1 st.key1.toNat
  let s := (((s.setF fn Reg.RNG_CTR0_CTR0 n).setF fn Reg.RNG_CTR1_CTR1 (n / 2 ^ 32)).setF fn Reg.RNG_CTR2_CTR2
    (n / 2 ^ 64)).setF fn Reg.RNG_CTR3_CTR3 (n / 2 ^ 96)
  let s := (s.setF fn Reg.RNG_CTL_WORD st.word).setF fn Reg.RNG_CTL_USE st.use
  (s.setF fn Reg.RNG_COMMITS_COMMITS st.commits).setF fn Reg.RNG_CMD_DONE 1

theorem exec_rngRead_shows (hv : v % 16 = 1) (hc : Store.get? s.tier.ctx fn = some c) :
    exec (.rngRead fn v) s = .next ((s.rngWrite fn v).showStream fn (c.stream fn (s.getF fn Reg.RNG_SEL_STREAM))) :=
  congrArg ok (State.rngCmd_asked (i := 0) (by decide) hv hc _)

/-- The registers that show a stream are apart, and each takes its part of the counter. -/
theorem State.getF_showStream (s : State) (fn : Nat) (st : Stream) :
    let t := s.showStream fn st
    t.getF fn Reg.RNG_KEY0_KEY0 = st.key0.toNat ∧ t.getF fn Reg.RNG_KEY1_KEY1 = st.key1.toNat ∧
      t.getF fn Reg.RNG_CTR0_CTR0 = st.counter.toNat % 2 ^ 32 ∧ t.getF fn Reg.RNG_CTR1_CTR1 = st.counter.toNat / 2 ^ 32 % 2 ^ 32 ∧
      t.getF fn Reg.RNG_CTR2_CTR2 = st.counter.toNat / 2 ^ 64 % 2 ^ 32 ∧ t.getF fn Reg.RNG_CTR3_CTR3 = st.counter.toNat / 2 ^ 96 ∧
      t.getF fn Reg.RNG_CTL_WORD = st.word % 2 ^ Reg.RNG_CTL_WORD.width ∧ t.getF fn Reg.RNG_CTL_USE = st.use % 2 ^ Reg.RNG_CTL_USE.width ∧
      t.getF fn Reg.RNG_COMMITS_COMMITS = st.commits % 2 ^ 32 ∧ t.getF fn Reg.RNG_CMD_DONE = 1 ∧
      t.getF fn Reg.RNG_SEL_STREAM = s.getF fn Reg.RNG_SEL_STREAM := by
  have hkey0 := Nat.mod_eq_of_lt st.key0.isLt
  have hkey1 := Nat.mod_eq_of_lt st.key1.isLt
  have hctr3 : st.counter.toNat / 2 ^ 96 % 2 ^ 32 = st.counter.toNat / 2 ^ 96 := by
    have := st.counter.isLt
    omega
  dsimp only [State.showStream]
  refine ⟨Eq.trans ?_ hkey0, Eq.trans ?_ hkey1, ?_, ?_, ?_, Eq.trans ?_ hctr3, ?_, ?_, ?_, ?_, ?_⟩ <;>
    simp (disch := decide) only [State.getF_setF_ne, State.getF_setF_same] <;> rfl

/-- R320. The stream that the holding registers spell; COMMITS is `n`. -/
def State.heldStream (s : State) (fn n : Nat) : Stream :=
  { key0 := BitVec.ofNat 32 (s.getF fn Reg.RNG_KEY0_KEY0), key1 := BitVec.ofNat 32 (s.getF fn Reg.RNG_KEY1_KEY1)
    counter := BitVec.ofNat 128 (s.getF fn Reg.RNG_CTR0_CTR0 + 2 ^ 32 * s.getF fn Reg.RNG_CTR1_CTR1 +
      2 ^ 64 * s.getF fn Reg.RNG_CTR2_CTR2 + 2 ^ 96 * s.getF fn Reg.RNG_CTR3_CTR3)
    word := s.getF fn Reg.RNG_CTL_WORD, use := s.getF fn Reg.RNG_CTL_USE, commits := n }

/-- Four words of 32 bits are those of their number of 128 bits. -/
theorem counter_words {a b c d : Nat} (ha : a < 2 ^ 32) (hb : b < 2 ^ 32) (hc : c < 2 ^ 32) (hd : d < 2 ^ 32) :
    let n := (BitVec.ofNat 128 (a + 2 ^ 32 * b + 2 ^ 64 * c + 2 ^ 96 * d)).toNat
    n % 2 ^ 32 = a ∧ n / 2 ^ 32 % 2 ^ 32 = b ∧ n / 2 ^ 64 % 2 ^ 32 = c ∧ n / 2 ^ 96 = d := by
  simp only [BitVec.toNat_ofNat]
  omega

theorem State.heldStream_rngWrite (n : Nat) : (s.rngWrite fn v).heldStream fn n = s.heldStream fn n := by
  simp (disch := decide) only [State.heldStream, State.getF_rngWrite]

theorem exec_rngLoad_asked (hv : v % 16 = 2) (hc : Store.get? s.tier.ctx fn = some c) :
    let w := s.rngWrite fn v
    let k := s.getF fn Reg.RNG_SEL_STREAM
    exec (.rngLoad fn v) s = .next (if s.getF fn Reg.RNG_CTL_USE = 3 then w.setF fn Reg.RNG_CMD_ARG_ERR 1
      else if s.rngBusy fn then w.setF fn Reg.RNG_CMD_BUSY_ERR 1
      else w.putStream fn k c (s.heldStream fn (c.stream fn k).commits)) := by
  intro w k
  have huse := s.getF_rngWrite fn v (g := Reg.RNG_CTL_USE) (by decide) (by decide)
  rw [← huse, ← s.rngBusy_rngWrite fn v, ← State.heldStream_rngWrite (v := v)]
  exact congrArg ok (State.rngCmd_asked (i := 1) (by decide) hv hc _)

theorem exec_rngDerive_asked (hv : v % 16 = 4) (hc : Store.get? s.tier.ctx fn = some c) :
    let w := s.rngWrite fn v
    exec (.rngDerive fn v) s = .next (if s.rngBusy fn then w.setF fn Reg.RNG_CMD_BUSY_ERR 1
      else { w with host := { w.host with derives := s.host.derives ++ [(fn, s.getF fn Reg.RNG_SEL_STREAM)] } }) := by
  intro w
  rw [← s.rngBusy_rngWrite fn v, ← s.host_rngWrite fn v]
  exact congrArg ok (State.rngCmd_asked (i := 2) (by decide) hv hc _)

theorem exec_rngReset_asked (hv : v % 16 = 8) (hc : Store.get? s.tier.ctx fn = some c) :
    let w := s.rngWrite fn v
    let k := s.getF fn Reg.RNG_SEL_STREAM
    exec (.rngReset fn v) s = .next (if s.rngBusy fn then w.setF fn Reg.RNG_CMD_BUSY_ERR 1
      else w.putStream fn k c (Stream.default fn k)) := by
  intro w k
  rw [← s.rngBusy_rngWrite fn v]
  exact congrArg ok (State.rngCmd_asked (i := 3) (by decide) hv hc _)

/-- R320. A request beside another is an error, whichever it is. -/
theorem exec_rngCmd_several {c : Instr}
    (hc : (i, c) ∈ [(0, Instr.rngRead fn v), (1, .rngLoad fn v), (2, .rngDerive fn v), (3, .rngReset fn v)])
    (hbit : bit v i = true) (hv : v % 16 ≠ 2 ^ i) :
    exec c s = .next ((s.rngWrite fn v).setF fn Reg.RNG_CMD_ARG_ERR 1) := by
  simp only [List.mem_cons, List.not_mem_nil, or_false, Prod.mk.injEq] at hc
  obtain ⟨rfl, rfl⟩ | ⟨rfl, rfl⟩ | ⟨rfl, rfl⟩ | ⟨rfl, rfl⟩ := hc <;>
    exact congrArg ok (State.rngCmd_several (by decide) hbit hv _)

/-! ### Mirroring -/

/-- R399, R424. A frame changes registers, its link and the outputs, and may draw a free value. -/
theorem State.send_rest (s : State) (link : Nat) (f : Frame) :
    ∃ r fab out k, s.send link f = { s with regs := r, fab := fab, out := out, fresh := k } := by
  unfold State.send
  split
  · exact ⟨_, _, _, _, rfl⟩
  · cases f.payload <;> exact ⟨_, _, _, _, rfl⟩

theorem State.sendTwin_rest (s : State) (f : Frame) :
    ∃ r fab out k, s.sendTwin f = { s with regs := r, fab := fab, out := out, fresh := k } := by
  unfold State.sendTwin
  split
  · exact s.send_rest _ _
  · exact ⟨_, _, _, _, rfl⟩

/-- R429. Mirroring a change takes its frame and the next MSEQ. -/
theorem State.mirror_rest (s : State) (f : Nat → Frame) :
    ∃ r fab out k, s.mirror f = { s with regs := r, fab := fab, out := out, fresh := k } := by
  unfold State.mirror
  split
  · obtain ⟨r, fab, out, k, e⟩ := s.sendTwin_rest (f ((s.reg Reg.TWN_MSEQ_SENT_MSEQ + 1) % 2 ^ 32))
    dsimp only
    rw [e]
    exact ⟨_, _, _, _, rfl⟩
  · exact ⟨_, _, _, _, rfl⟩

/-- R428. Mirroring a context block changes registers, links, outputs and free values alone. -/
theorem State.mirrorCtx_rest (s : State) (fn : Nat) :
    ∃ r fab out k, s.mirrorCtx fn = { s with regs := r, fab := fab, out := out, fresh := k } := by
  unfold State.mirrorCtx
  split
  · exact ⟨_, _, _, _, rfl⟩
  · exact s.mirror_rest _

/-- R320, R428. Writing a stream changes, of the tiers, the data path and the host interface, its context block alone. -/
theorem State.putStream_keeps (s : State) (fn k : Nat) (c : CtxBlock) (st : Stream) :
    (s.putStream fn k c st).tier =
        { s.tier with ctx := Store.put s.tier.ctx fn { c with streams := c.streams.set k st } } ∧
      (s.putStream fn k c st).host = s.host ∧ (s.putStream fn k c st).data = s.data := by
  obtain ⟨r, fab, out, n, e⟩ := State.mirrorCtx_rest
    { s with tier := { s.tier with ctx := Store.put s.tier.ctx fn { c with streams := c.streams.set k st } } } fn
  rw [State.putStream, e]
  exact ⟨rfl, rfl, rfl⟩

/-! ### The end of a derivation -/

/-- R320. The stream with the key that the free value `n` gives, at its first word. -/
def Stream.rekeyed (st : Stream) (n : Nat) : Stream :=
  { st with key0 := BitVec.ofNat 32 (n % 2 ^ 32), key1 := BitVec.ofNat 32 (n / 2 ^ 32 % 2 ^ 32), counter := 0, word := 0 }

/-- R320. The request of function `fn` for a key of stream `k` has completed with the free value that is drawn. -/
def State.derived (s : State) (fn k : Nat) (c : CtxBlock) : State :=
  let n := s.draw.1
  let b := { s.draw.2 with host := { s.host with derives := s.host.derives.erase (fn, k) } }
  ((b.putStream fn k c ((c.stream fn k).rekeyed n)).setF fn Reg.RNG_KEY0_KEY0 (n % 2 ^ 32)).setF fn Reg.RNG_KEY1_KEY1
    (n / 2 ^ 32 % 2 ^ 32)

/-- The oldest request of a function is the first that names it. -/
theorem find?_derive {l m : List (Nat × Nat)} {fn k : Nat} (hl : ∀ d ∈ l, d.1 ≠ fn) :
    (l ++ (fn, k) :: m).find? (fun d => d.1 == fn) = some (fn, k) := by
  have hnone : l.find? (fun d => d.1 == fn) = none := by simpa [List.find?_eq_none] using hl
  simp [List.find?_append, hnone]

theorem erase_derive {l m : List (Nat × Nat)} {fn k : Nat} (hl : ∀ d ∈ l, d.1 ≠ fn) :
    (l ++ (fn, k) :: m).erase (fn, k) = l ++ m := by
  have hmem : (fn, k) ∉ l := fun h => hl _ h rfl
  rw [List.erase_append_right _ hmem, List.erase_cons_head]

theorem exec_deriveDone_derives {l m : List (Nat × Nat)} {k : Nat} (hl : ∀ d ∈ l, d.1 ≠ fn)
    (hd : s.host.derives = l ++ (fn, k) :: m) (hc : Store.get? s.tier.ctx fn = some c) :
    exec (.deriveDone fn) s = .next (s.derived fn k c) := by
  have hfind : s.host.derives.find? (fun d => d.1 == fn) = some (fn, k) := by rw [hd, find?_derive hl]
  show execDeriveDone fn s = _
  simp only [execDeriveDone, hfind, hc]
  rfl

/-- R320. What the function sees of a derivation, and what stays. -/
theorem State.derived_shows {l m : List (Nat × Nat)} {k : Nat} (hl : ∀ d ∈ l, d.1 ≠ fn)
    (hd : s.host.derives = l ++ (fn, k) :: m) (hk : k < c.streams.length) :
    let t := s.derived fn k c
    ∃ (b : CtxBlock) (st : Stream), t.host.derives = l ++ m ∧ Store.get? t.tier.ctx fn = some b ∧ b.streams[k]? = some st ∧
      st.counter = 0 ∧ st.word = 0 ∧ st.use = (c.stream fn k).use ∧ st.commits = (c.stream fn k).commits ∧
      st.key0.toNat = t.getF fn Reg.RNG_KEY0_KEY0 ∧ st.key1.toNat = t.getF fn Reg.RNG_KEY1_KEY1 ∧
      t.getF fn Reg.RNG_CMD_DONE = 1 ∧ t.tier.near = s.tier.near ∧ t.tier.tt = s.tier.tt ∧ t.data = s.data ∧
      ∀ g, g ≠ fn → Store.get? t.tier.ctx g = Store.get? s.tier.ctx g := by
  intro t
  let st := (c.stream fn k).rekeyed s.draw.1
  have hput := State.putStream_keeps { s.draw.2 with host := { s.host with derives := s.host.derives.erase (fn, k) } } fn k c st
  obtain ⟨htier, hhost, hdata⟩ := hput
  replace htier : t.tier = { s.tier with ctx := Store.put s.tier.ctx fn { c with streams := c.streams.set k st } } := htier
  replace hhost : t.host.derives = s.host.derives.erase (fn, k) := congrArg HostState.derives hhost
  refine ⟨{ c with streams := c.streams.set k st }, st, ?_, ?_, ?_, rfl, rfl, rfl, rfl, ?_, ?_, ?_, ?_, ?_, hdata, fun g hg => ?_⟩
  · rw [hhost, hd, erase_derive hl]
  · rw [htier, Store.get?_put_same]
  · simp [hk]
  · simp (disch := decide) only [t, State.derived, State.getF_setF_ne, State.getF_setF_same]
    rfl
  · simp (disch := decide) only [t, State.derived, State.getF_setF_same]
    rfl
  · simp (disch := decide) only [t, State.derived, State.putStream, State.getF_setF_ne, State.getF_setF_same]
    rfl
  · rw [htier]
  · rw [htier]
  · rw [htier, Store.get?_put_ne _ _ hg]

end

/-! ### The Tensor Table reader -/

theorem State.showWords_succ (s : State) (f : Fld) (n : Nat) (l : List Byte) :
    s.showWords f (n + 1) l = (s.showWords f n l).set (f.at (4 * n)) (leField l (4 * n) 4) := by
  simp [State.showWords, List.range_succ]

theorem State.showWords_rest (s : State) (f : Fld) (n : Nat) (l : List Byte) :
    ∃ r, s.showWords f n l = { s with regs := r } := by
  induction n with
  | zero => exact ⟨_, rfl⟩
  | succ n ih =>
    obtain ⟨r, hr⟩ := ih
    rw [State.showWords_succ, hr]
    exact ⟨_, rfl⟩

/-- Each of the registers shows its word: the registers of the words are apart. -/
theorem State.reg_showWords (s : State) (f : Fld) (l : List Byte) {n i : Nat} (hi : i < n) :
    (s.showWords f n l).reg (f.at (4 * i)) = leField l (4 * i) 4 % 2 ^ f.width := by
  induction n with
  | zero => omega
  | succ n ih =>
    rw [State.showWords_succ]
    rcases Nat.lt_succ_iff_lt_or_eq.mp hi with hlt | rfl
    · rw [State.reg_set_ne _ _ _ _ (by dsimp only [Fld.at]; omega), ih hlt]
    · rw [State.reg_set_same]
      rfl

/-- R330. The words of an entry, which are zeros where there is none. -/
def entryBytes (x : Option Tensor) : List Byte := x.elim (List.replicate 64 0) Tensor.bytes

/-- R364. How a read of the Tensor Table ends. -/
def readFlag (x : Option Tensor) : Fld := if x.isSome then Reg.MOV_TT_CMD_DONE else Reg.MOV_TT_CMD_ABSENT

/-- R330, R364. The data registers show an entry, or that there is none. -/
def State.showEntry (s : State) (x : Option Tensor) : State :=
  (s.showWords Reg.MOV_TT_DATA0_WORD 16 (entryBytes x)).set (readFlag x) 1

theorem leField_zeros (n i k : Nat) : leField (List.replicate n 0) i k = 0 := by
  refine leNat_eq_zero_iff.mpr fun b hb => ?_
  exact (List.mem_replicate.mp (List.mem_of_mem_drop (List.mem_of_mem_take hb))).2

/-- The flags of a read are one-bit fields below the data registers. -/
theorem readFlag_place (x : Option Tensor) : (readFlag x).off = 0x80048 ∧ (readFlag x).lo < 32 ∧ (readFlag x).width = 1 := by
  unfold readFlag
  split <;> decide

theorem State.showEntry_shows (s : State) (x : Option Tensor) :
    let t := s.showEntry x
    (∀ i, i < 16 → t.reg (Reg.MOV_TT_DATA0_WORD.at (4 * i)) = leField (entryBytes x) (4 * i) 4 % 2 ^ 32) ∧
      t.reg (readFlag x) = 1 ∧ t = { s with regs := t.regs } := by
  obtain ⟨hoff, hlo, hwidth⟩ := readFlag_place x
  refine ⟨fun i hi => ?_, ?_, ?_⟩
  · have hdata : (Reg.MOV_TT_DATA0_WORD.at (4 * i)).off = 0x80050 + 4 * i := rfl
    have hapart : (Reg.MOV_TT_DATA0_WORD.at (4 * i)).off * 32 + (Reg.MOV_TT_DATA0_WORD.at (4 * i)).lo ≠
      (readFlag x).off * 32 + (readFlag x).lo := by omega
    rw [State.showEntry, State.reg_set_ne _ _ _ _ hapart, State.reg_showWords _ _ _ hi]
    rfl
  · rw [State.showEntry, State.reg_set_same, hwidth]
    rfl
  · obtain ⟨r, hr⟩ := s.showWords_rest Reg.MOV_TT_DATA0_WORD 16 (entryBytes x)
    rw [State.showEntry, hr]
    rfl

section

variable {s : State}

/-- R330. The entry that the select registers name is shown. -/
theorem exec_movTtRead_entry (hidx : s.reg Reg.MOV_TT_SEL_IDX_INDEX ≠ 0xFFFFFF) :
    exec .movTtRead s =
      .next (s.showEntry (s.entry (ttKey (s.reg Reg.MOV_TT_SEL_FN_FUNCTION) (s.reg Reg.MOV_TT_SEL_IDX_INDEX)))) := by
  show execMovTtRead s = _
  simp only [execMovTtRead, hidx, false_and, if_false]
  rfl

/-- R119, R330. The index that no tensor has names the function's context block. -/
theorem exec_movTtRead_ctx (hidx : s.reg Reg.MOV_TT_SEL_IDX_INDEX = 0xFFFFFF)
    (hctx : (Store.get? s.tier.ctx (s.reg Reg.MOV_TT_SEL_FN_FUNCTION)).isSome = true) :
    exec .movTtRead s = .next ((s.ctxEntry (s.reg Reg.MOV_TT_SEL_FN_FUNCTION)).2.showEntry
      (some (s.ctxEntry (s.reg Reg.MOV_TT_SEL_FN_FUNCTION)).1)) := by
  show execMovTtRead s = _
  simp only [execMovTtRead, hidx, hctx, and_self, if_true]
  rfl

/-! ### The dirty-page log -/

theorem State.secErr_sec (s : State) (f : Fld) : (s.secErr f).sec = s.sec := by
  unfold State.secErr State.err
  dsimp only
  split <;> rfl

/-- R487. A locked or running TDI moves to ERROR. -/
theorem State.tdiError_moves {vf cause : Nat} (h : Store.getD s.sec.tdi vf 0 = 1 ∨ Store.getD s.sec.tdi vf 0 = 2) :
    Store.getD (s.tdiError vf cause).sec.tdi vf 0 = 3 := by
  have hlive : ¬(Store.getD s.sec.tdi vf 0 ≠ 1 ∧ Store.getD s.sec.tdi vf 0 ≠ 2) := by omega
  have hsec : (s.tdiError vf cause).sec = { s.sec with tdi := Store.put s.sec.tdi vf 3 } := by
    rw [State.tdiError, if_neg hlive]
    exact State.secErr_sec _ _
  rw [hsec, Store.getD_put_same]

theorem exec_dplEnable_on (s : State) :
    let vf := s.reg Reg.SEC_DPL_SEL_VF
    exec (.dplEnable true) s = .next (if s.getF vf Reg.SEC_DPL_CTL_EN = 0 then
      (s.setF vf Reg.SEC_DPL_CTL_EN 1).tdiError vf 2 else s.setF vf Reg.SEC_DPL_CTL_EN 1) := by
  show execDplEnable true s = _
  simp only [execDplEnable, true_and]
  rfl

theorem exec_dplEnable_off (s : State) :
    exec (.dplEnable false) s = .next (s.setF (s.reg Reg.SEC_DPL_SEL_VF) Reg.SEC_DPL_CTL_EN 0) := by
  show execDplEnable false s = _
  simp only [execDplEnable, Bool.false_eq_true, false_and, if_false]
  rfl

end

/-- Settles O47: each request performs its branch on the machine that its write leaves. -/
theorem blockRequestsComplete : Obligations.BlockRequestsComplete := by
  unfold Obligations.BlockRequestsComplete
  refine ⟨?read, ?load, ?idle, ?busy, fun _ _ _ _ _ => exec_rngCmd_several, ?derived, ?entry, ?ctx, ?dpl⟩
  case read =>
    intro s fn v c _ hv hc w st
    have hsel : w.getF fn Reg.RNG_SEL_STREAM = s.getF fn Reg.RNG_SEL_STREAM := s.getF_rngWrite fn v (by decide) (by decide)
    obtain ⟨hkey0, hkey1, hctr0, hctr1, hctr2, hctr3, hword, huse, hcommits, hdone, hstream⟩ := w.getF_showStream fn st
    obtain ⟨r, hr⟩ : ∃ r, w = { s with regs := r } := s.rngWrite_rest fn v
    refine ⟨w.showStream fn st, ?_, hkey0, hkey1, hctr0, hctr1, hctr2, hctr3, hword, huse, hcommits, hdone, hstream.trans hsel, ?_⟩
    · rw [exec_rngRead_shows hv hc, ← hsel]
      rfl
    · rw [hr]
      rfl
  case load =>
    intro s fn v c _ hv hc hidle huse hctr w k
    have hload := exec_rngLoad_asked hv hc
    simp only [huse, hidle, Bool.false_eq_true, if_false] at hload
    obtain ⟨hc0, hc1, hc2, hc3⟩ := counter_words (hctr Reg.RNG_CTR0_CTR0 (by simp)) (hctr Reg.RNG_CTR1_CTR1 (by simp))
      (hctr Reg.RNG_CTR2_CTR2 (by simp)) (hctr Reg.RNG_CTR3_CTR3 (by simp))
    exact ⟨s.heldStream fn (c.stream fn k).commits, hload, rfl, rfl, hc0, hc1, hc2, hc3, rfl, rfl, rfl⟩
  case idle =>
    intro s fn v c _ hc hidle w k
    have hn : ¬(s.rngBusy fn = true) := by simp [hidle]
    exact ⟨fun hv => (exec_rngDerive_asked hv hc).trans (congrArg ok (if_neg hn)),
      fun hv => (exec_rngReset_asked hv hc).trans (congrArg ok (if_neg hn))⟩
  case busy =>
    intro s fn v c _ hc hbusy w
    exact ⟨fun hv huse => (exec_rngLoad_asked hv hc).trans (congrArg ok ((if_neg huse).trans (if_pos hbusy))),
      fun hv huse => (exec_rngLoad_asked hv hc).trans (congrArg ok (if_pos huse)),
      fun hv => (exec_rngDerive_asked hv hc).trans (congrArg ok (if_pos hbusy)),
      fun hv => (exec_rngReset_asked hv hc).trans (congrArg ok (if_pos hbusy))⟩
  case derived =>
    intro s fn k c l m _ hl hd hc hk
    obtain ⟨b, st, hshows⟩ := State.derived_shows hl hd hk
    exact ⟨_, b, st, exec_deriveDone_derives hl hd hc, hshows⟩
  case entry =>
    intro s k hidx
    have hread : exec .movTtRead s = .next (s.showEntry (s.entry k)) := exec_movTtRead_entry hidx
    refine ⟨fun e he => ?_, fun hnone => ?_⟩
    · rw [he] at hread
      exact ⟨_, hread, s.showEntry_shows (some e)⟩
    · rw [hnone] at hread
      obtain ⟨hdata, habsent, hrest⟩ := s.showEntry_shows none
      refine ⟨_, hread, fun i hi => (hdata i hi).trans ?_, habsent, hrest⟩
      exact congrArg (· % 2 ^ 32) (leField_zeros 64 (4 * i) 4)
  case ctx =>
    intro s e hidx hctx
    exact ⟨_, exec_movTtRead_ctx hidx hctx, e.2.showEntry_shows (some e.1)⟩
  case dpl =>
    intro s vf
    exact ⟨fun h => (exec_dplEnable_on s).trans (congrArg ok (if_pos h)),
      fun h => (exec_dplEnable_on s).trans (congrArg ok (if_neg h)),
      exec_dplEnable_off s, State.tdiError_moves, rfl, rfl, rfl, fun _ => rfl⟩

end Sys2Proof.Machine
end

section
/-!
The messages of tensors (O16). A message that is taken meets its own rules only; what it allots is a blank entry of its
sender, filled from what it asks for.
-/

namespace Sys2Proof.Machine

/-- What succeeds after a check has passed the check. -/
theorem eq_ok_of_ite_error {ε α : Type} {c : Prop} [Decidable c] {e : ε} {r : Except ε α} {v : α}
    (h : (if c then .error e else r) = .ok v) : r = .ok v := by
  split at h
  · cases h
  · exact h

/-- R346 to R349. What is allotted is a blank entry of the function, filled from the request, in the tier asked for. -/
theorem State.allot_eq {s s1 : State} {fn : Nat} {a : AllocAsk} {x : Tensor} (h : s.allot fn a = .ok (x, s1)) :
    ∃ loc home, x = { s.blankTensor fn a.kind a.format a.size with
      keyIndex := if a.sealed' then 2 else classOf fn, readOnly := a.readOnly, kspec := a.kspec, scaleLink := a.link.idx
      tier := if a.deep then .deep else .near, loc := loc, homeSet := a.deep || a.home, home := home } := by
  unfold State.allot at h
  extract_lets cls blank t wantsDeep q near at h
  clear_value near
  split at h
  · cases h
  · replace h := eq_ok_of_ite_error (eq_ok_of_ite_error (eq_ok_of_ite_error h))
    cases near with
    | error e => cases h
    | ok r =>
      cases h
      exact ⟨_, _, rfl⟩

/-- R363. The linked tensor of a request is the handle at byte 32. -/
theorem allocAsk_link {h : Mail} {a : AllocAsk} (hask : allocAsk h = some a) : a.link = h.handle 32 := by
  unfold allocAsk at hask
  split at hask
  · split_ifs at hask
    cases hask
    rfl
  · cases hask

/-- R322 to R326, R346. An allotment without a linked tensor is entered, and its handle answered. -/
theorem exec_tensorAlloc_done {s s1 : State} {h : Mail} {a : AllocAsk} {x : Tensor} (ht : s.Taken h 0x0201 0 40)
    (hok : h.handleOk 32 = true) (hask : allocAsk h = some a) (hgood : a.good s = true)
    (hseal : a.sealed' = true → h.fn = 0) (hlink : h.handle 32 = Handle.none) (hallot : s.allot h.fn a = .ok (x, s1)) :
    exec (.tensorAlloc h) s = .next (s1.showSpace.replied h 0x0201 (leBytes x.handle.toNat 8)) := by
  have hnone : a.link = Handle.none := (allocAsk_link hask).trans hlink
  refine congrArg ok (State.mail_done ht ?_ ?_ ?_)
  · simpa [hok, hask, hgood, ← Bool.not_eq_true, ← imp_iff_not_or] using hseal
  · simp [hlink]
  · simp [hask, hnone, hallot]

/-- R327, R349. A tensor that nothing uses is released with its linked tensor. -/
theorem exec_tensorFree_done {s : State} {h : Mail} {x : Tensor} (ht : s.Taken h 0x0202 0 16) (hok : h.handleOk 8 = true)
    (hne : h.handle 8 ≠ Handle.none) (hfn : (h.handle 8).fn = h.fn) (hx : s.tensor? (h.handle 8) = some x)
    (hfree : s.freeConflict x = none) (htier : x.tier ≠ .host) :
    exec (.tensorFree h) s = .next ((s.dropPair x).replied h 0x0202 []) := by
  refine congrArg ok (State.mail_done ht ?_ ?_ ?_)
  · simp [hok, hne]
  · simpa using hfn
  · simp only [hx, hfree, if_neg htier]

/-- R330, R363. The entry of a tensor and its handle, for its function or the PF. -/
theorem exec_tensorQuery_done {s : State} {h : Mail} {x : Tensor} (ht : s.Taken h 0x0203 0 16) (hok : h.handleOk 8 = true)
    (hne : h.handle 8 ≠ Handle.none) (hfn : (h.handle 8).fn = h.fn ∨ h.fn = 0) (hx : s.tensor? (h.handle 8) = some x) :
    exec (.tensorQuery h) s = .next (s.replied h 0x0203 (x.bytes ++ leBytes x.handle.toNat 8)) := by
  refine congrArg ok (State.mail_done ht ?_ ?_ ?_)
  · simp [hok, hne]
  · simpa using hfn
  · simp only [hx]

/-- R334, R336. A relocation that has not ended at its start is answered later. -/
theorem exec_tensorPlace_starts {s s1 : State} {h : Mail} {d : MoveDesc} (ht : s.Taken h 0x0204 0 18)
    (hok : h.handleOk 8 = true) (hne : h.handle 8 ≠ Handle.none) (htier : h.u 16 2 ≤ 3) (hfn : (h.handle 8).fn = h.fn)
    (hd : { MoveDesc.empty with src := h.handle 8, relocate := true, dstTier := Tier.ofCode (h.u 16 2) } = d)
    (hmay : s.moveRefusal h.fn false d = none)
    (hstart : s.startMove h.fn (.place (h.ticket 0x0204)) d Handle.none 0 = .ok s1) (hended : s1.tier.ended = []) :
    exec (.tensorPlace h) s = .next (s1.waiting h 0x0204) := by
  show execTensorPlace h s = _
  unfold execTensorPlace
  -- The descriptor is one opaque name before its checks are met, so that the kernel does not evaluate them.
  simp only [hd]
  refine congrArg ok (State.mail_later ht ?_ ?_ ?_)
  · simp [hok, hne, htier]
  · simpa using hfn
  · simp only [hmay, hstart, hended, List.find?_nil]

/-- R325, R363. The first registration of host memory is registration 0, and a HOST tensor is entered for it. -/
theorem exec_hostRegister_first {s : State} {h : Mail} (ht : s.Taken h 0x0205 0 22) (hsize : h.u 16 4 ≠ 0)
    (hformat : (Fmt.ofCode (h.u 20 2)).isSome = true) (htable : s.tableFull h.fn 1 = none) (hregs : s.tier.hostRegs = []) :
    let x := { s.blankTensor h.fn .data (h.u 20 2) (ceilDiv (h.u 16 4) 256) with tier := .host, loc := 0, keyIndex := 0 }
    let a : State := { s with tier := { s.tier with hostRegs := [(0, h.fn, h.u 8 8, h.u 16 4)] } }
    exec (.hostRegister h) s = .next ((a.enter x).replied h 0x0205 (leBytes x.handle.toNat 8)) := by
  refine congrArg ok (State.mail_done ht ?_ rfl ?_)
  · simp [hsize, hformat]
  · simp only [htable, hregs]
    rfl

/-- R363. A HOST tensor that no move and no command names is released with its registration. -/
theorem exec_hostUnregister_done {s : State} {h : Mail} {x : Tensor} (ht : s.Taken h 0x0206 0 16)
    (hok : h.handleOk 8 = true) (hne : h.handle 8 ≠ Handle.none) (hfn : (h.handle 8).fn = h.fn)
    (hx : s.tensor? (h.handle 8) = some x) (htier : x.tier = .host) (hstill : x.moving = false)
    (hmoves : ∀ v ∈ s.tier.moves, v.desc.src ≠ h.handle 8 ∧ v.desc.dst ≠ h.handle 8) (hfree : s.named x.key = false) :
    let a : State := { s with tier := { s.tier with hostRegs := Store.erase s.tier.hostRegs x.loc } }
    exec (.hostUnregister h) s = .next ((a.dropPair x).replied h 0x0206 []) := by
  have hunused : ¬(x.moving = true ∨
      s.tier.moves.any (fun v => v.desc.src == h.handle 8 || v.desc.dst == h.handle 8) = true ∨ s.named x.key = true) := by
    simpa [hstill, hfree] using hmoves
  refine congrArg ok (State.mail_done ht ?_ ?_ ?_)
  · simp [hok, hne]
  · simpa using hfn
  · simp only [hx]
    rw [if_neg (not_not.mpr htier), if_neg hunused]

/-- Settles O16: each message is one branch of its rules, and what TENSOR_ALLOC allots is a blank entry that is filled. -/
theorem tensorMessagesComplete : Obligations.TensorMessagesComplete := by
  refine ⟨fun _ _ _ _ _ => exec_tensorAlloc_done, ?allotted, fun _ _ _ => exec_tensorFree_done,
    fun _ _ _ => exec_tensorQuery_done, ?place, fun _ _ => exec_hostRegister_first,
    fun _ _ _ => exec_hostUnregister_done⟩
  case allotted =>
    intro s s1 fn a x hallot
    obtain ⟨loc, home, rfl⟩ := State.allot_eq hallot
    exact ⟨rfl, rfl, rfl, rfl, rfl, rfl, rfl⟩
  case place =>
    intro s s1 h ht hok hne htier hfn d
    exact exec_tensorPlace_starts ht hok hne htier hfn rfl

end Sys2Proof.Machine
end

section
/-!
The messages of tenants (O17). A message that is taken meets its own rules only; limits are kept for each function apart,
and a restore finds its tensors where their park left them.
-/

namespace Sys2Proof.Machine

/-! ### Limits -/

@[simp] theorem State.quota_setQuota_same (s : State) (fn : Nat) (q : Quota) : (s.setQuota fn q).quota fn = q :=
  Store.getD_put_same ..

theorem State.quota_setQuota_ne (s : State) {fn gn : Nat} (q : Quota) (h : gn ≠ fn) :
    (s.setQuota fn q).quota gn = s.quota gn :=
  Store.getD_put_ne _ _ _ h

/-- R346. Limits that leave the near reserves within what is available are set. -/
theorem exec_quotaSet_done {s : State} {h : Mail} (ht : s.Taken h 0x0207 0 34) (hfn : h.fn = 0) (hvf : h.u 8 2 ≤ 1024)
    (hz : h.u 10 2 = 0) (hle : h.u 16 4 ≤ h.u 12 4) (hen : s.enabled (h.u 8 2) = true)
    (hroom : ((s.tier.quotas.filter (fun q => q.1 != h.u 8 2)).map (fun q => q.2.nearReserve)).foldl (· + ·) 0 +
      256 * h.u 16 4 ≤ s.reg Reg.MOV_NEAR_AVAIL_MIB * 256) :
    let q : Quota := { s.quota (h.u 8 2) with
      nearLimit := 256 * h.u 12 4, nearReserve := 256 * h.u 16 4, deepLimit := 256 * h.u 20 4, borrowLimit := 256 * h.u 24 4
      tensorLimit := h.u 28 4, motifLimit := h.u 32 2 }
    exec (.quotaSet h) s = .next ((s.setQuota (h.u 8 2) q).replied h 0x0207 []) := by
  refine congrArg ok (State.mail_done ht ?_ ?_ ?_)
  · simp [hvf, hz, hle]
  · simp [hfn]
  · dsimp only
    rw [if_neg (by simp [hen]), if_neg (Nat.not_lt.mpr hroom)]

/-- R345. The snapshot that the context block of a function holds. -/
theorem exec_quotaQuery_done {s : State} {h : Mail} {c : CtxBlock} (ht : s.Taken h 0x0208 0 10) (hvf : h.u 8 2 ≤ 1024)
    (hfn : h.u 8 2 = h.fn ∨ h.fn = 0) (hc : Store.get? s.tier.ctx (h.u 8 2) = some c) :
    exec (.quotaQuery h) s = .next (s.replied h 0x0208 (c.snapshot.bytes c.snapRow)) := by
  refine congrArg ok (State.mail_done ht ?_ ?_ ?_)
  · simp [hvf]
  · simpa using hfn
  · simp only [hc]

/-! ### Parking -/

/-- No entry of a list stands under a key. -/
theorem any_fst_eq_false {α : Type} {l : List (Nat × α)} {k : Nat} (h : ∀ p ∈ l, p.1 ≠ k) :
    l.any (fun p => p.1 == k) = false :=
  List.any_eq_false.mpr fun p hp => by simpa using h p hp

/-- R361. A pre-empted function that does not park yet starts to: its motifs drain, and its near tensors are marked. -/
theorem exec_tenantPark_starts {s : State} {h : Mail} (ht : s.Taken h 0x0209 0 10) (hfn : h.fn = 0) (hvf : h.u 8 2 ≤ 1024)
    (hstate : s.getF (h.u 8 2) Reg.GLB_FN_STATE_STATE = 2) (hparks : ∀ p ∈ s.tier.parks, p.1 ≠ h.u 8 2) :
    let keys := (s.tier.tt.filter (fun c => c.2.fn == h.u 8 2)).map (·.1)
    let a := (keys.foldl State.drainMotif s).mirrorCtx (h.u 8 2)
    let a := keys.foldl (fun (s : State) k => s.mapTensor k (fun t =>
      if t.tier = .near ∧ t.kind ≠ .context then { t with parked := true } else t)) a
    let a : State := { a with tier := { a.tier with parks := a.tier.parks ++ [(h.u 8 2, h.ticket 0x0209)] } }
    exec (.tenantPark h) s = .next (a.waiting h 0x0209).settleMotifs.settle := by
  have hfirst : ¬(s.getF (h.u 8 2) Reg.GLB_FN_STATE_STATE ≠ 2 ∨ s.tier.parks.any (fun p => p.1 == h.u 8 2) = true) := by
    simp [hstate, any_fst_eq_false hparks]
  refine congrArg (fun t : State => ok t.settleMotifs.settle) (State.mail_later ht ?_ ?_ ?_)
  · simp [hvf]
  · simp [hfn]
  · exact if_neg hfirst

/-- The parked tensors of a function; a linked scale goes with its own tensor. -/
def State.parkedOf (s : State) (fn : Nat) : List Tensor :=
  (s.tier.tt.map (·.2)).filter (fun x => x.fn == fn && x.parked && x.kind != .scale)

/-- R361, R362. Where a function neither parks nor restores, and its parked tensors are all deep under keys that it has,
they are all moved near, and the answer waits for them where there are any. -/
theorem exec_tenantRestore_deep {s s1 : State} {h : Mail} (ht : s.Taken h 0x020A 0 10) (hvf : h.u 8 2 ≤ 1024)
    (hfn : h.fn = 0 ∨ h.u 8 2 = h.fn) (hen : s.enabled (h.u 8 2) = true) (hparks : ∀ p ∈ s.tier.parks, p.1 ≠ h.u 8 2)
    (hrestores : ∀ p ∈ s.tier.restores, p.1 ≠ h.u 8 2)
    (hdeep : ∀ x ∈ s.parkedOf (h.u 8 2), x.tier = .deep ∧ s.deepKey x.fn x.keyIndex = true)
    (hall : s.restoreAll (h.u 8 2) (s.parkedOf (h.u 8 2)) = .ok s1) :
    exec (.tenantRestore h) s = .next (if (s.parkedOf (h.u 8 2)).isEmpty then s1.replied h 0x020A [] else
      State.waiting { s1 with tier := { s1.tier with
        restores := s1.tier.restores ++ [(h.u 8 2, h.ticket 0x020A)] } } h 0x020A) := by
  have hmay : ¬((!s.enabled (h.u 8 2)) = true ∨ s.tier.parks.any (fun p => p.1 == h.u 8 2) = true ∨
      s.tier.restores.any (fun p => p.1 == h.u 8 2) = true) := by
    simp [hen, any_fst_eq_false hparks, any_fst_eq_false hrestores]
  have hhere : (s.parkedOf (h.u 8 2)).filter (fun x => x.tier == .near) = [] := by
    simp +contextual [List.filter_eq_nil_iff, hdeep]
  have haway : (s.parkedOf (h.u 8 2)).filter (fun x => x.tier == .deep) = s.parkedOf (h.u 8 2) := by
    simp +contextual [List.filter_eq_self, hdeep]
  have hkeys : (s.parkedOf (h.u 8 2)).any (fun x => !s.deepKey x.fn x.keyIndex) = false := by
    simp +contextual [hdeep]
  refine congrArg ok ((State.mail_taken ht ?_ ?_).trans ?_)
  · simp [hvf]
  · simpa using hfn
  · dsimp only
    rw [if_neg hmay, ← State.parkedOf]
    simp only [hhere, haway, List.foldl_nil, hkeys, hall]
    cases (s.parkedOf (h.u 8 2)).isEmpty <;> rfl

/-- R362. A function with nothing parked is restored at once. -/
theorem exec_tenantRestore_none {s : State} {h : Mail} (ht : s.Taken h 0x020A 0 10) (hvf : h.u 8 2 ≤ 1024)
    (hfn : h.fn = 0 ∨ h.u 8 2 = h.fn) (hen : s.enabled (h.u 8 2) = true) (hparks : ∀ p ∈ s.tier.parks, p.1 ≠ h.u 8 2)
    (hrestores : ∀ p ∈ s.tier.restores, p.1 ≠ h.u 8 2)
    (hhome : ∀ c ∈ s.tier.tt, c.2.fn = h.u 8 2 → c.2.parked = false) :
    exec (.tenantRestore h) s = .next (s.replied h 0x020A []) := by
  have hnone : s.parkedOf (h.u 8 2) = [] := by
    refine List.filter_eq_nil_iff.mpr fun x hx => ?_
    obtain ⟨c, hc, rfl⟩ := List.mem_map.mp hx
    simp +contextual [hhome c hc]
  have hdone := exec_tenantRestore_deep (s1 := s) ht hvf hfn hen hparks hrestores (by simp [hnone]) (by rw [hnone]; rfl)
  rwa [hnone] at hdone

/-! ### Write-back -/

/-- R340. A write-back of every dirty tensor of a function starts. -/
theorem exec_writeback_starts {s : State} {h : Mail} (ht : s.Taken h 0x020D 0 10) (hvf : h.u 8 2 ≤ 1024)
    (hfn : h.fn = 0 ∨ h.u 8 2 = h.fn) (hen : s.enabled (h.u 8 2) = true) :
    exec (.writeback h) s =
      .next (((s.dirtyOf (fun t => t.fn == h.u 8 2)).foldl State.writeBack s).replied h 0x020D []) := by
  refine congrArg ok (State.mail_done ht ?_ ?_ ?_)
  · simp [hvf]
  · simpa using hfn
  · exact if_neg (by simp [hen])

/-- Settles O17: each message is one branch of its rules, with one lemma for both outcomes of a restore. -/
theorem tenantMessagesComplete : Obligations.TenantMessagesComplete := by
  refine ⟨?limits, fun _ _ _ => exec_quotaQuery_done, fun _ _ => exec_tenantPark_starts,
    fun _ _ => exec_tenantRestore_none, ?restore, fun _ _ => exec_writeback_starts⟩
  case limits =>
    intro s h ht hfn hvf hz hle hen hroom q
    exact ⟨exec_quotaSet_done ht hfn hvf hz hle hen hroom, s.quota_setQuota_same _ q, fun _ => s.quota_setQuota_ne q⟩
  case restore =>
    intro s s1 h ht hvf hfn hen hparks hrestores away hsome hdeep hall a
    have hparked : ¬((s.parkedOf (h.u 8 2)).isEmpty = true) := mt List.isEmpty_iff.mp hsome
    exact (exec_tenantRestore_deep ht hvf hfn hen hparks hrestores hdeep hall).trans (congrArg ok (if_neg hparked))

end Sys2Proof.Machine
end

section
/-!
The scheduling and sequence messages (O24). A message that is taken meets only its own rules, so each clause names what they
answer; a resumption that wakes no sequence and no move is followed through its two writes.
-/

namespace Sys2Proof.Machine

/-! ### Shares and parameters -/

@[simp] theorem State.sched_put_same (s : State) (fn : Nat) (x : Sched) :
    State.sched { s with serve := { s.serve with sched := Store.put s.serve.sched fn x } } fn = x :=
  Store.getD_put_same _ _ _ _

theorem State.sched_put_ne (s : State) {fn gn : Nat} (x : Sched) (h : gn ≠ fn) :
    State.sched { s with serve := { s.serve with sched := Store.put s.serve.sched fn x } } gn = s.sched gn :=
  Store.getD_put_ne _ _ _ h

/-- R377. Parameters in range are set when the shares of all functions fit 1,024. -/
theorem exec_schedSet_done {s : State} {h : Mail} :
    let x : Sched := ⟨h.u 10 2, h.u 12 2, h.u 16 4, h.u 20 2⟩
    s.Taken h 0x0410 0 22 → h.fn = 0 → h.u 8 2 ≤ 1024 → h.u 14 2 = 0 → x.share ≤ 1024 → x.priority ≤ 7 → 64 ≤ x.slice →
    x.slice ≤ 65536 → x.slice % 64 = 0 → x.maxSeq ≤ 4096 →
    ((s.serve.sched.filter (fun p => p.1 != h.u 8 2)).map (fun p => p.2.share)).foldl (· + ·) 0 + x.share ≤ 1024 →
    exec (.schedSet h) s = .next (State.replied { s with serve := { s.serve with
      sched := Store.put s.serve.sched (h.u 8 2) x } } h 0x0410 []) := by
  intro x ht hfn hvf hz hshare hprio hlo hhi hround hseq hroom
  refine congrArg ok (State.mail_done ht ?_ ?_ ?_)
  · simpa [and_assoc] using ⟨hvf, hz, hshare, hprio, hlo, hhi, hround, hseq⟩
  · simp [hfn]
  · exact if_neg (Nat.not_lt.mpr hroom)

theorem leBytes_length (k : Nat) : ∀ n, (leBytes n k).length = k := by
  induction k with
  | zero => exact fun _ => rfl
  | succ k ih => exact fun n => congrArg Nat.succ (ih _)

/-- R377, R388. The answer to a query begins with the function's share. -/
theorem exec_schedQuery_shares {s : State} {h : Mail} (ht : s.Taken h 0x0411 0 10) (hvf : h.u 8 2 ≤ 1024)
    (hfn : h.u 8 2 = h.fn ∨ h.fn = 0) :
    ∃ p, exec (.schedQuery h) s = .next (s.replied h 0x0411 p) ∧ p.take 2 = leBytes (s.sched (h.u 8 2)).share 2 := by
  refine ⟨_, congrArg ok (State.mail_done ht ?_ ?_ rfl), ?_⟩
  · simp [hvf]
  · simpa using hfn
  · simp only [List.append_assoc]
    exact List.take_left' (leBytes_length 2 _)

/-- R381. A model's parameters in range are set. -/
theorem exec_modelSchedSet_done {s : State} {h : Mail} :
    let x : ModelSched := ⟨h.u 10 2, h.u 12 2, h.u 14 2, h.u 16 2⟩
    s.Taken h 0x0412 0 18 → h.fn = 0 → h.u 8 2 < 8 → 1 ≤ x.weight → x.weight ≤ 8 → 1 ≤ x.longClass → x.longClass ≤ 11 →
    1 ≤ x.longPeriod → x.longPeriod ≤ 64 → 1 ≤ x.longRows →
    exec (.modelSchedSet h) s = .next (State.replied { s with serve := { s.serve with
      models := Store.put s.serve.models (h.u 8 2) x } } h 0x0412 []) := by
  intro x ht hfn hmodel hw hw' hc hc' hp hp' hr
  refine congrArg ok (State.mail_done ht ?_ ?_ rfl)
  · simpa [and_assoc] using ⟨hmodel, hw, hw', hc, hc', hp, hp', hr⟩
  · simp [hfn]

/-! ### Pre-emption and resumption -/

/-- R386. An ACTIVE function that is not being pre-empted gets its fetched entries back, and the reply waits for its last
step. -/
theorem exec_funcPreempt_waits {s : State} {h : Mail} (ht : s.Taken h 0x0413 0 10) (hfn : h.fn = 0) (hvf : h.u 8 2 ≤ 1024)
    (hactive : s.getF (h.u 8 2) Reg.GLB_FN_STATE_STATE = 1) (hfree : ∀ p ∈ s.serve.preempts, p.fn ≠ h.u 8 2) :
    let a := s.returnFetched (h.u 8 2)
    exec (.funcPreempt h) s = .next (State.waiting { a with serve := { a.serve with
      preempts := a.serve.preempts ++ [⟨h.u 8 2, h.ticket 0x0413⟩] } } h 0x0413) := by
  have hmay : ¬(s.getF (h.u 8 2) Reg.GLB_FN_STATE_STATE ≠ 1 ∨ s.serve.preempts.any (fun p => p.fn == h.u 8 2) = true) := by
    simpa [hactive] using hfree
  refine congrArg ok (State.mail_later ht ?_ ?_ ?_)
  · simp [hvf]
  · simp [hfn]
  · exact if_neg hmay

/-- R111. Without moves there is none to resume. -/
theorem State.resumeMoves_of_moves_nil {s : State} (h : s.tier.moves = []) (p : Move → Bool) : s.resumeMoves p = s := by
  simp only [State.resumeMoves, h, List.filter_nil, List.foldl_nil, List.map_nil]
  rw [← h]

/-- R387. Function `fn` is ACTIVE, and fetches from its submission queues go on at the heads that its context block keeps. -/
def State.reactivate (s : State) (fn : Nat) : State :=
  let heads := (Store.get? s.tier.ctx fn).elim (List.replicate 8 0) (·.sqHeads)
  let at' := heads.zipIdx.foldl (fun (a : List (Nat × Nat)) h => Store.put a (fn * 8 + h.2) h.1) s.host.fetchAt
  { s.setF fn Reg.GLB_FN_STATE_STATE 1 with host := { s.host with fetchAt := at' } }

theorem State.reactivate_keeps (s : State) (fn : Nat) :
    (s.reactivate fn).serve = s.serve ∧ (s.reactivate fn).tier = s.tier := ⟨rfl, rfl⟩

theorem State.reactivate_active (s : State) (fn : Nat) : (s.reactivate fn).getF fn Reg.GLB_FN_STATE_STATE = 1 :=
  s.getF_setF_same fn _ _

/-- R387. A function that nothing keeps from being resumed, and that has no sequence and no move, is only reactivated. -/
theorem exec_funcResume_reactivates {s : State} {h : Mail} (ht : s.Taken h 0x0414 0 10) (hfn : h.fn = 0)
    (hvf : h.u 8 2 ≤ 1024) (hc : s.resumeConflict (h.u 8 2) = none) (hseqs : ∀ q ∈ s.serve.seqs, q.2.fn ≠ h.u 8 2)
    (hmoves : s.tier.moves = []) :
    exec (.funcResume h) s = .next ((s.reactivate (h.u 8 2)).replied h 0x0414 []) := by
  have hnone : s.serve.seqs.filter (fun q => q.2.fn == h.u 8 2 && q.2.phase == .paused) = [] := by
    simp +contextual [List.filter_eq_nil_iff, hseqs]
  refine congrArg ok (State.mail_done ht ?_ ?_ ?_)
  · simp [hvf]
  · simp [hfn]
  · simp only [hc, State.setF_serve, State.setF_tier, hnone]
    exact congrArg (MailRes.done · []) (State.resumeMoves_of_moves_nil (s := s.reactivate (h.u 8 2)) hmoves _)

/-! ### A sequence's state -/

/-- R388. The PF, or the function that owns a sequence, is answered its state. -/
theorem exec_seqQuery_done {s : State} {h : Mail} {q : SeqRec} (ht : s.Taken h 0x0415 0 12)
    (hq : Store.get? s.serve.seqs (h.u 8 4) = some q) (hfn : h.fn = 0 ∨ q.fn = h.fn) :
    exec (.seqQuery h) s = .next (s.replied h 0x0415 (leBytes q.phase.code 2 ++ leBytes 0 2 ++ leBytes q.pos 4 ++
      leBytes q.lastStep 8)) := by
  refine congrArg ok (State.mail_done ht ?_ ?_ ?_)
  · simp [hq]
  · simpa [hq] using hfn
  · simp only [hq]

/-- Settles O24: each message is one branch of its rules; a resumption that wakes nothing is `State.reactivate`. -/
theorem schedMessagesComplete : Obligations.SchedMessagesComplete := by
  refine ⟨?shares, fun _ _ => exec_schedQuery_shares, fun _ _ => exec_modelSchedSet_done,
    fun _ _ => exec_funcPreempt_waits, ?resume, fun _ _ _ => exec_seqQuery_done⟩
  case shares =>
    intro s h x ht hfn hvf hz hshare hprio hlo hhi hround hseq hroom a
    exact ⟨exec_schedSet_done ht hfn hvf hz hshare hprio hlo hhi hround hseq hroom, s.sched_put_same _ x,
      fun _ => s.sched_put_ne x⟩
  case resume =>
    intro s h ht hfn hvf hc hseqs hmoves
    obtain ⟨hserve, htier⟩ := s.reactivate_keeps (h.u 8 2)
    exact ⟨s.reactivate (h.u 8 2), exec_funcResume_reactivates ht hfn hvf hc hseqs hmoves, s.reactivate_active _, hserve,
      congrArg _ htier⟩

end Sys2Proof.Machine
end

section
/-!
The registers and the sessions of the seam links. A link's registers stand under a function number of its own and its session in the
fabric: `State.LinksKept` says that an operation leaves every link's state and session, so that what a link's state becomes is read
off the one write of LNK_STATE.STATE (`State.linkSt_setF_state`).
-/

namespace Sys2Proof.Machine

/-! ### Registers of the links -/

theorem linkFn_ne {k l : Nat} (h : k ≠ l) : linkFn k ≠ linkFn l := fun e => h (Nat.add_left_cancel e)

/-- A write of one field leaves every other field, of whichever function. -/
theorem State.getF_setF_of_ne (s : State) (a b : Nat) {f g : Fld} (v : Nat) (hf : f.off < 0x200000 ∧ f.lo < 32)
    (hg : g.off < 0x200000 ∧ g.lo < 32) (h : g.off * 32 + g.lo ≠ f.off * 32 + f.lo) :
    (s.setF a f v).getF b g = s.getF b g := by
  by_cases e : b = a
  · rw [e, State.getF_setF_ne _ _ _ _ _ h]
  · exact State.getF_setF_fn _ _ _ _ _ _ hf hg e

/-- Writing a Tink entry changes no register of any function but TNK_SEQ. -/
theorem State.getF_tinkLog_of_ne (s : State) (code n : Nat) (args : List Byte) (fn : Nat) {g : Fld}
    (hg : g.off < 0x200000 ∧ g.lo < 32)
    (h : g.off * 32 + g.lo ≠ Reg.TNK_SEQ_ENTRY_SEQ.off * 32 + Reg.TNK_SEQ_ENTRY_SEQ.lo) :
    (s.tinkLog code n args).getF fn g = s.getF fn g := by
  rw [State.tinkLog, State.tinkAt, State.set, State.getF_setF_of_ne _ _ _ _ (by decide) hg h, State.getF_tink, State.draw,
    State.getF_fresh]

@[simp] theorem State.getF_setLink (s : State) (l : Nat) (c : LinkCtl) (fn : Nat) (f : Fld) :
    (s.setLink l c).getF fn f = s.getF fn f := rfl

@[simp] theorem State.link_setLink_same (s : State) (l : Nat) (c : LinkCtl) : (s.setLink l c).link l = c :=
  Store.getD_put_same _ _ _ _

theorem State.link_setLink_ne (s : State) {k l : Nat} (c : LinkCtl) (h : k ≠ l) : (s.setLink l c).link k = s.link k :=
  Store.getD_put_ne _ _ _ h

theorem State.link_congr {s t : State} (h : t.fab = s.fab) (l : Nat) : t.link l = s.link l := by
  simp only [State.link, h]

/-- R401. The state of a link after a write of it. -/
theorem State.linkSt_setF_state (s : State) (l k v : Nat) :
    (s.setF (linkFn l) Reg.LNK_STATE_STATE v).linkSt k = if k = l then v % 8 else s.linkSt k := by
  by_cases h : k = l
  · rw [if_pos h, h]
    exact State.getF_setF_same _ _ _ _
  · rw [if_neg h]
    exact State.getF_setF_fn _ _ _ _ _ _ (by decide) (by decide) (linkFn_ne h)

/-! ### What leaves the links alone -/

/-- No link's state or session has changed, nor have the data path, the tiers and the sequencer. -/
structure State.LinksKept (s t : State) : Prop where
  st : ∀ k, t.linkSt k = s.linkSt k
  fab : t.fab = s.fab
  data : t.data = s.data
  tier : t.tier = s.tier
  seq : t.seq = s.seq

namespace State.LinksKept

variable {s₀ s : State}

theorem refl (s : State) : s.LinksKept s := ⟨fun _ => rfl, rfl, rfl, rfl, rfl⟩

theorem setF (h : s₀.LinksKept s) {fn : Nat} {f : Fld} {v : Nat} (hf : f.off < 0x200000 ∧ f.lo < 32 := by decide)
    (hne : Reg.LNK_STATE_STATE.off * 32 + Reg.LNK_STATE_STATE.lo ≠ f.off * 32 + f.lo := by decide) :
    s₀.LinksKept (s.setF fn f v) :=
  ⟨fun k => (State.getF_setF_of_ne s fn (linkFn k) v hf (by decide) hne).trans (h.st k), h.fab, h.data, h.tier, h.seq⟩

/-- An update of parts of the machine that say nothing of the links. -/
theorem frame (h : s₀.LinksKept s) {pwr : PwrState} {tink : TinkState} {out : Outbox} {fresh : Nat} :
    s₀.LinksKept { s with pwr := pwr, tink := tink, out := out, fresh := fresh } :=
  ⟨h.st, h.fab, h.data, h.tier, h.seq⟩

theorem ite {c : Prop} [Decidable c] {t u : State} (ht : s₀.LinksKept t) (hu : s₀.LinksKept u) :
    s₀.LinksKept (if c then t else u) := by
  split
  · exact ht
  · exact hu

theorem tinkLog (h : s₀.LinksKept s) {code fn : Nat} {args : List Byte} : s₀.LinksKept (s.tinkLog code fn args) :=
  h.frame.setF

theorem showUp (h : s₀.LinksKept s) : s₀.LinksKept s.showUp := h.setF

theorem sample (h : s₀.LinksKept s) {fn : Nat} {status inten count : Fld} {isBeyond : Bool}
    (hs : status.off < 0x200000 ∧ status.lo < 32 := by decide) (hc : count.off < 0x200000 ∧ count.lo < 32 := by decide)
    (hsne : Reg.LNK_STATE_STATE.off * 32 + Reg.LNK_STATE_STATE.lo ≠ status.off * 32 + status.lo := by decide)
    (hcne : Reg.LNK_STATE_STATE.off * 32 + Reg.LNK_STATE_STATE.lo ≠ count.off * 32 + count.lo := by decide) :
    s₀.LinksKept (s.sample fn status inten count isBeyond) :=
  .ite (.ite h (.ite (((h.frame.setF hs hsne).setF hc hcne).frame) ((h.frame.setF hs hsne).setF hc hcne))) (.ite h.frame h)

theorem showStaging (h : s₀.LinksKept s) {l : Nat} : s₀.LinksKept (s.showStaging l) :=
  .sample (.ite h.setF.setF h.setF)

end State.LinksKept

/-- R401. A link that is quiet is in the state it enters, and nothing else shows of the links' states. -/
theorem State.linksKept_quiet (s : State) (l st : Nat) :
    (s.setF (linkFn l) Reg.LNK_STATE_STATE st).LinksKept (s.quiet l st) :=
  (State.LinksKept.refl _).setF.setF.setF.setF.setF.showUp

end Sys2Proof.Machine
end

section
/-!
Which frames a link takes, and what an arrival counts (O33): outside of REST a frame that is taken is `State.countRx`.
-/

namespace Sys2Proof.Machine

/-- R424. The payload lines of a frame are counted as received on its link. -/
def State.countRx (s : State) (l n : Nat) : State :=
  let rx := s.getF (linkFn l) Reg.LNK_RX_LO_RX_LO + 2 ^ 32 * s.getF (linkFn l) Reg.LNK_RX_HI_RX_HI + n
  (s.setF (linkFn l) Reg.LNK_RX_LO_RX_LO rx).setF (linkFn l) Reg.LNK_RX_HI_RX_HI (rx / 2 ^ 32)

/-- The two registers hold the count modulo 2^64. -/
theorem State.countRx_total (s : State) (l n : Nat) :
    (s.countRx l n).getF (linkFn l) Reg.LNK_RX_LO_RX_LO + 2 ^ 32 * (s.countRx l n).getF (linkFn l) Reg.LNK_RX_HI_RX_HI =
      (s.getF (linkFn l) Reg.LNK_RX_LO_RX_LO + 2 ^ 32 * s.getF (linkFn l) Reg.LNK_RX_HI_RX_HI + n) % 2 ^ 64 := by
  unfold State.countRx
  extract_lets rx
  rw [State.getF_setF_same, State.getF_setF_ne _ _ _ _ _ (by decide), State.getF_setF_same]
  exact (Nat.mod_mul (x := rx) (a := 2 ^ 32) (b := 2 ^ 32)).symm

/-- The count writes its two registers only. -/
theorem State.getF_countRx_of_ne (s : State) (l n : Nat) {fn : Nat} {f : Fld} (hf : f.off < 0x200000) (hl : f.lo < 32)
    (h : fn ≠ linkFn l ∨ (f.off ≠ 0xA0024 ∧ f.off ≠ 0xA0028)) : (s.countRx l n).getF fn f = s.getF fn f := by
  unfold State.countRx
  rcases h with hfn | ⟨hlo, hhi⟩
  · rw [State.getF_setF_fn _ _ _ _ _ _ (by decide) ⟨hf, hl⟩ hfn, State.getF_setF_fn _ _ _ _ _ _ (by decide) ⟨hf, hl⟩ hfn]
  · have hplaces : Reg.LNK_RX_LO_RX_LO.off = 0xA0024 ∧ Reg.LNK_RX_LO_RX_LO.lo = 0 ∧ Reg.LNK_RX_HI_RX_HI.off = 0xA0028 ∧
      Reg.LNK_RX_HI_RX_HI.lo = 0 := by decide
    rw [State.getF_setF_of_ne _ _ _ _ (by decide) ⟨hf, hl⟩ (by omega),
      State.getF_setF_of_ne _ _ _ _ (by decide) ⟨hf, hl⟩ (by omega)]

/-- R391, R401. Outside of REST, a frame that the link takes is counted, and that is all. -/
theorem State.arriveFrame_counts {s : State} {l : Nat} {onDegraded : Bool} (n : Nat) (hup : s.linkUp l = true)
    (hw : onDegraded = true ∨ s.getF (linkFn l) Reg.LNK_STATE_FULL = 1) (hrest : s.reg Reg.PWR_STATE_STATE ≠ 2) :
    s.arriveFrame l n onDegraded = some (s.countRx l n) := by
  have htakes : ¬((!(s.linkFull l || (s.linkUp l && onDegraded))) = true) := by
    rcases hw with h | h <;> simp [State.linkFull, hup, h]
  have hawake : ¬((s.countRx l n).reg Reg.PWR_STATE_STATE = 2) := by
    rwa [State.reg, State.getF_countRx_of_ne _ _ _ (by decide) (by decide) (.inr (by decide))]
  exact (if_neg htakes).trans (congrArg some (if_neg hawake))

/-- R401. A link that is not UP takes no frame. -/
theorem State.arriveFrame_none {s : State} {l : Nat} (n : Nat) (onDegraded : Bool) (hup : s.linkUp l = false) :
    s.arriveFrame l n onDegraded = none :=
  if_pos (by simp [State.linkFull, hup])

/-- Settles O33: a frame that the link takes is counted (`State.countRx`), and no other register is written. -/
theorem framesArrive : Obligations.FramesArrive := by
  intro s l n onDegraded
  refine ⟨fun hup hw hrest => ?_, State.arriveFrame_none n onDegraded⟩
  exact ⟨s.countRx l n, State.arriveFrame_counts n hup hw hrest, s.countRx_total l n, .refl s, rfl, rfl,
    fun _ _ => s.getF_countRx_of_ne l n⟩

end Sys2Proof.Machine
end

section
/-!
The fabric messages (O32). A message that is taken meets its own rules only; an attached and a detached link are read off
`State.LinksKept`, and a restart of ordinals is a loop of `State.resyncLink`.
-/

namespace Sys2Proof.Machine

/-! ### Roles in the fabric -/

/-- R413. The shapes of a role that FABRIC_JOIN takes: none without links; the lead without a link in, and a stage with one,
both with a floor in range, and with two links of one die where they have both. -/
def joinShape (h : Mail) : Prop :=
  (h.u 12 2 = 0 ∧ h.u 14 2 = 0xFFFF ∧ h.u 16 2 = 0xFFFF) ∨
  (h.u 12 2 = 1 ∧ h.u 14 2 = 0xFFFF ∧ (h.u 16 2 < 16 ∨ h.u 16 2 = 0xFFFF) ∧ 50 ≤ h.u 18 2 ∧ h.u 18 2 ≤ 1000) ∨
  (h.u 12 2 = 2 ∧ h.u 14 2 < 16 ∧
    (h.u 16 2 = 0xFFFF ∨ (h.u 16 2 < 16 ∧ h.u 14 2 / 8 = h.u 16 2 / 8 ∧ h.u 14 2 ≠ h.u 16 2)) ∧
    50 ≤ h.u 18 2 ∧ h.u 18 2 ≤ 1000)

theorem linkField_of_lt {n : Nat} (h : n < 16) : linkField n = some n := if_neg (by omega)

@[simp] theorem linkField_none : linkField 0xFFFF = none := rfl

/-- R413. The role, its links and its floor, as FABRIC_JOIN sets them. -/
def State.joined (s : State) (h : Mail) : State :=
  let a := ((s.set Reg.LNK_FABRIC_FABRIC_ID (h.u 8 2)).set Reg.LNK_FABRIC_MODULE_ID (h.u 10 2)).set Reg.LNK_FABRIC_ROLE (h.u 12 2)
  { a with fab := { a.fab with
    rosterIn := linkField (h.u 14 2), rosterOut := linkField (h.u 16 2)
    floorW := if h.u 12 2 = 0 then a.fab.floorW else h.u 18 2 } }

theorem exec_fabricJoin_joins {s : State} {h : Mail} (ht : s.Taken h 0x0501 0 20) (hfn : h.fn = 0) (hid : h.u 10 2 < 2048)
    (hdown : ∀ l, l < 16 → s.linkUp l = false) (hshape : joinShape h) :
    exec (.fabricJoin h) s = .next ((s.joined h).replied h 0x0501 []) := by
  have hnone : (List.range 16).find? s.linkUp = none := by
    simpa [List.find?_eq_none] using hdown
  refine congrArg ok (State.mail_done ht ?_ ?_ ?_)
  · rcases hshape with ⟨hr, hi, ho⟩ | ⟨hr, hi, ho | ho, hlo, hhi⟩ | ⟨hr, hi, ho | ⟨ho, hdie, hne⟩, hlo, hhi⟩ <;>
      simp [linkField_of_lt, *]
  · simp [hfn]
  · simp only [hnone]
    rfl

theorem State.joined_shows (s : State) {h : Mail} (hid : h.u 10 2 < 2048) (hshape : joinShape h) :
    (s.joined h).reg Reg.LNK_FABRIC_ROLE = h.u 12 2 ∧ (s.joined h).reg Reg.LNK_FABRIC_MODULE_ID = h.u 10 2 := by
  have hrole : h.u 12 2 < 4 := by
    unfold joinShape at hshape
    omega
  constructor
  · exact (State.reg_set_same _ _ _).trans (Nat.mod_eq_of_lt hrole)
  · exact (State.reg_set_ne _ _ _ _ (by decide)).trans ((State.reg_set_same _ _ _).trans (Nat.mod_eq_of_lt hid))

/-- R422. A role that no template needs is left. -/
theorem exec_fabricLeave_leaves {s : State} {h : Mail} (ht : s.Taken h 0x0502 0 8) (hfn : h.fn = 0)
    (hfree : ∀ t ∈ s.seq.templates, ∀ l, l < 16 → t.namesLink l = false) :
    let a : State := { s.set Reg.LNK_FABRIC_ROLE 0 with fab := { s.fab with rosterIn := none, rosterOut := none } }
    exec (.fabricLeave h) s = .next (a.replied h 0x0502 []) := by
  have hnone : (List.range 16).find? (fun l => s.seq.templates.any (fun t => t.namesLink l)) = none := by
    simpa [List.find?_eq_none] using fun l hl t ht => hfree t ht l hl
  refine congrArg ok (State.mail_done ht rfl ?_ ?_)
  · simp [hfn]
  · simp only [hnone]

/-! ### Links attached and detached -/

/-- R401, R402. Link `l` trains, and expects a module with a key. -/
def State.attached (s : State) (l peer : Nat) (key : BitVec 256) : State :=
  (((s.setLink l { LinkCtl.empty with keyHash := key }).quiet l 1).setF (linkFn l) Reg.LNK_CFG_ENABLED 1).setF (linkFn l)
    Reg.LNK_CFG_PEER_EXPECT peer

theorem State.attached_kept (s : State) (l peer : Nat) (key : BitVec 256) :
    ((s.setLink l { LinkCtl.empty with keyHash := key }).setF (linkFn l) Reg.LNK_STATE_STATE 1).LinksKept
      (s.attached l peer key) :=
  (State.linksKept_quiet _ l 1).setF.setF

theorem exec_linkAttach_attaches {s : State} {h : Mail} (ht : s.Taken h 0x0503 0 64) (hfn : h.fn = 0) (hl : h.u 8 2 < 16)
    (hpeer : h.u 10 2 < 2048) (hz : h.u 12 20 = 0) (hst : s.linkSt (h.u 8 2) = 0 ∨ s.linkSt (h.u 8 2) = 5) :
    exec (.linkAttach h) s =
      .next ((s.attached (h.u 8 2) (h.u 10 2) (BitVec.ofNat 256 (h.u 32 32))).replied h 0x0503 []) := by
  refine congrArg ok (State.mail_done ht ?_ ?_ ?_)
  · simp [hl, hpeer, hz]
  · simp [hfn]
  · exact if_neg (by omega)

theorem State.attached_shows (s : State) (l : Nat) {peer : Nat} (hpeer : peer < 2048) (key : BitVec 256) :
    let t := s.attached l peer key
    t.linkSt l = 1 ∧ t.getF (linkFn l) Reg.LNK_CFG_ENABLED = 1 ∧ t.getF (linkFn l) Reg.LNK_CFG_PEER_EXPECT = peer ∧
      (t.link l).keyHash = key ∧ (∀ k, k ≠ l → t.linkSt k = s.linkSt k ∧ t.link k = s.link k) ∧ t.data = s.data ∧
      t.tier = s.tier := by
  intro t
  have hkept := s.attached_kept l peer key
  have hlink := State.link_congr hkept.fab
  refine ⟨?_, ?_, ?_, ?_, fun k hk => ⟨?_, ?_⟩, hkept.data, hkept.tier⟩
  · rw [hkept.st, State.linkSt_setF_state, if_pos rfl]
  · exact (State.getF_setF_ne _ _ _ _ _ (by decide)).trans (State.getF_setF_same _ _ _ _)
  · exact (State.getF_setF_same _ _ _ _).trans (Nat.mod_eq_of_lt hpeer)
  · rw [hlink, State.link_congr (State.setF_fab ..), State.link_setLink_same]
  · rw [hkept.st, State.linkSt_setF_state, if_neg hk]
    rfl
  · rw [hlink, State.link_congr (State.setF_fab ..), State.link_setLink_ne _ _ hk]

theorem exec_linkDetach_detaches {s : State} {h : Mail} (ht : s.Taken h 0x0504 0 10) (hfn : h.fn = 0) (hl : h.u 8 2 < 16)
    (hfree : s.linkInUse (h.u 8 2) = false) :
    exec (.linkDetach h) s = .next ((s.detach (h.u 8 2)).replied h 0x0504 []) := by
  refine congrArg ok (State.mail_done ht ?_ ?_ ?_)
  · simp [hl]
  · simp [hfn]
  · exact if_neg (by simp [hfree])

/-- R404. The items staged from a link are gone, before the registers show it. -/
def State.unstaged (s : State) (l : Nat) (mine : Staged → Bool) : State :=
  { s with data := { s.data with staging := s.data.staging.filter (fun i => i.link != l || !mine i) } }

theorem State.dropStaged_kept (s : State) (l : Nat) (mine : Staged → Bool) :
    (s.unstaged l mine).LinksKept (s.dropStaged l mine) :=
  (State.LinksKept.refl (s.unstaged l mine)).showStaging

/-- R403. What LINK_DETACH leaves of the links: `l` is DISABLED without a session, and what was staged from it is gone. -/
theorem State.detach_kept (s : State) (l : Nat) :
    ∃ u, ((s.setLink l LinkCtl.empty).setF (linkFn l) Reg.LNK_STATE_STATE 0).LinksKept u ∧
      (u.unstaged l fun _ => true).LinksKept (s.detach l) :=
  have hdropped := State.dropStaged_kept _ l fun _ => true
  ⟨_, (State.linksKept_quiet _ l 0).setF.setF.setF, .ite hdropped.tinkLog hdropped⟩

theorem State.detach_shows (s : State) (l : Nat) :
    (s.detach l).linkSt l = 0 ∧ (s.detach l).link l = LinkCtl.empty ∧ (∀ i ∈ (s.detach l).data.staging, i.link ≠ l) ∧
      (∀ k, k ≠ l → (s.detach l).linkSt k = s.linkSt k) ∧ (s.detach l).tier = s.tier := by
  obtain ⟨u, hu, ht⟩ := s.detach_kept l
  have hst : ∀ k, (s.detach l).linkSt k = if k = l then 0 else s.linkSt k := fun k =>
    (ht.st k).trans ((hu.st k).trans (State.linkSt_setF_state _ _ _ _))
  refine ⟨?_, ?_, fun i hi => ?_, fun k hk => ?_, ht.tier.trans hu.tier⟩
  · rw [hst, if_pos rfl]
  · rw [State.link_congr (ht.fab.trans hu.fab), State.link_congr (State.setF_fab ..), State.link_setLink_same]
  · rw [ht.data] at hi
    simpa using (List.mem_filter.mp hi).2
  · rw [hst, if_neg hk]

/-- R422. The answer to a query begins with the link's state and its peer. -/
theorem exec_linkQuery_state {s : State} {h : Mail} (ht : s.Taken h 0x0505 0 10) (hfn : h.fn = 0) (hl : h.u 8 2 < 16) :
    ∃ p, exec (.linkQuery h) s = .next (s.replied h 0x0505 p) ∧
      p.take 4 = leBytes (s.linkSt (h.u 8 2)) 2 ++ leBytes (s.getF (linkFn (h.u 8 2)) Reg.LNK_STATE_PEER_MODULE) 2 := by
  refine ⟨_, congrArg ok (State.mail_done ht ?_ ?_ rfl), ?_⟩
  · simp [hl]
  · simp [hfn]
  · have hlen : (leBytes (s.linkSt (h.u 8 2)) 2 ++
        leBytes (s.getF (linkFn (h.u 8 2)) Reg.LNK_STATE_PEER_MODULE) 2).length = 4 := by
      simp [leBytes_length]
    simp only [List.append_assoc]
    rw [← List.append_assoc]
    exact List.take_left' hlen

theorem exec_linkRekey_rekeys {s : State} {h : Mail} (ht : s.Taken h 0x0506 0 10) (hfn : h.fn = 0) (hl : h.u 8 2 < 16)
    (hup : s.linkUp (h.u 8 2) = true) :
    exec (.linkRekey h) s = .next ((s.rekey (h.u 8 2)).replied h 0x0506 []) := by
  refine congrArg ok (State.mail_done ht ?_ ?_ ?_)
  · simp [hl]
  · simp [hfn]
  · exact if_pos hup

/-! ### Ordinals -/

/-- R410. The ordinals of link `l` restart. -/
def State.resyncLink (s : State) (l : Nat) : State :=
  { s.setLink l { s.link l with ordTx := 0, ordRx := 0, tokens := 0 } with
    seq := { s.seq with resync := s.seq.resync &&& (0xFFFF - 2 ^ l) } }

theorem State.link_resyncLink (s : State) (l k : Nat) : (s.resyncLink l).link k =
    if k = l then { s.link k with ordTx := 0, ordRx := 0, tokens := 0 } else s.link k := by
  by_cases h : k = l
  · rw [if_pos h, h]
    exact State.link_setLink_same _ _ _
  · rw [if_neg h]
    exact State.link_setLink_ne _ _ h

theorem bit_eq_testBit (n i : Nat) : bit n i = n.testBit i := by
  rw [Nat.testBit_eq_decide_div_mod_eq]
  rfl

/-- R410. The link no longer waits for FABRIC_RESYNC, and no other link begins to. -/
theorem State.bit_resyncLink {s : State} {l k : Nat} (hl : l < 16) (h : k = l ∨ bit s.seq.resync k = false) :
    bit (s.resyncLink l).seq.resync k = false := by
  have hland : bit (s.resyncLink l).seq.resync k = (bit s.seq.resync k && bit (0xFFFF - 2 ^ l) k) := by
    simp only [bit_eq_testBit, State.resyncLink, Nat.testBit_and]
  have hmask : ∀ l < 16, bit (0xFFFF - 2 ^ l) l = false := by decide
  rcases h with rfl | h
  · rw [hland, hmask k hl, Bool.and_false]
  · rw [hland, h, Bool.false_and]

/-- R410. A restart of the ordinals of a list of links, each of which may stand in it more than once. -/
theorem State.link_foldl_resyncLink (ls : List Nat) (s : State) (k : Nat) : (ls.foldl State.resyncLink s).link k =
    if k ∈ ls then { s.link k with ordTx := 0, ordRx := 0, tokens := 0 } else s.link k := by
  induction ls generalizing s with
  | nil => rfl
  | cons l ls ih =>
    rw [List.foldl_cons, ih, State.link_resyncLink]
    by_cases hk : k = l <;> by_cases hks : k ∈ ls <;> simp [hk, hks]

theorem State.bit_foldl_resyncLink {ls : List Nat} (hls : ∀ l ∈ ls, l < 16) {s : State} {k : Nat}
    (h : k ∈ ls ∨ bit s.seq.resync k = false) : bit (ls.foldl State.resyncLink s).seq.resync k = false := by
  induction ls generalizing s with
  | nil => simpa using h
  | cons l ls ih =>
    obtain ⟨hl, hls⟩ := List.forall_mem_cons.mp hls
    refine ih hls ?_
    rw [List.mem_cons, or_assoc, or_left_comm] at h
    exact h.imp_right (State.bit_resyncLink hl)

theorem State.foldl_resyncLink_keeps (ls : List Nat) (s : State) : (ls.foldl State.resyncLink s).regs = s.regs ∧
    (ls.foldl State.resyncLink s).data = s.data ∧ (ls.foldl State.resyncLink s).tier = s.tier :=
  List.foldlRecOn ls State.resyncLink 
    (motive := fun (t : State) => t.regs = s.regs ∧ t.data = s.data ∧ t.tier = s.tier) ⟨rfl, rfl, rfl⟩ fun _ h _ _ => h

theorem exec_fabricResync_restarts {s : State} {h : Mail} (ht : s.Taken h 0x0507 0 (12 + 2 * h.u 8 4)) (hfn : h.fn = 0)
    (hlo : 1 ≤ h.u 8 4) (hhi : h.u 8 4 ≤ 16) (hrun : s.reg Reg.SEQ_STATUS_STATE ≠ 1) :
    let links := (List.range (h.u 8 4)).map (fun i => h.u (12 + 2 * i) 2)
    (∀ l ∈ links, l < 16) →
    exec (.fabricResync h) s = .next ((links.foldl State.resyncLink s).replied h 0x0507 []) := by
  intro links hls
  have hmin : min (h.u 8 4) 16 = h.u 8 4 := Nat.min_eq_left hhi
  show execFabricResync h s = _
  simp only [execFabricResync, hmin]
  refine congrArg ok (State.mail_done ht ?_ ?_ ?_)
  · simpa [links, hlo, hhi] using hls
  · simp [hfn]
  · exact if_neg hrun

/-! ### Stage maps -/

/-- R415. The map that FABRIC_SEQ_MAP names. -/
def stageMap (h : Mail) : StageMap :=
  ⟨h.fn, h.u 12 4, h.handle 16, h.handle 24, (List.range (h.u 32 4)).map (fun i => h.handle (40 + 8 * i))⟩

/-- R415, R518. Where the flags of FABRIC_SEQ_MAP stand: after its swatch handles. -/
def seqMapEnd (h : Mail) : Nat := if h.u 32 4 = 0 then 36 else 40 + 8 * h.u 32 4

/-- R415. The stage's maps of other sequences and functions. -/
def State.otherMaps (s : State) (h : Mail) : List StageMap :=
  s.fab.maps.filter (fun y => y.fn != h.fn || y.seqId != h.u 12 4)

/-- R415. What FABRIC_SEQ_MAP makes of the maps: without the sequence's, or with the one that it names, whose handles are live
and of their kinds. -/
def State.MapsTo (s : State) (h : Mail) (maps : List StageMap) : Prop :=
  (h.u (seqMapEnd h) 4 = 1 ∧ maps = s.otherMaps h) ∨
  (h.u (seqMapEnd h) 4 = 0 ∧ maps = s.otherMaps h ++ [stageMap h] ∧ s.mapRefusal h.fn .kv (stageMap h).kv = none ∧
    ((stageMap h).motif ≠ Handle.none → s.mapRefusal h.fn .motif (stageMap h).motif = none) ∧
    ∀ w ∈ (stageMap h).swatches, s.mapRefusal h.fn .swatch w = none)

/-- R415. A function's FABRIC_SEQ_MAP with legal fields is served at a stage. -/
theorem exec_fabricSeqMap_maps {s : State} {h : Mail} {maps : List StageMap} (ht : s.Taken h 0x0508 0 (seqMapEnd h + 4))
    (hfn : h.u 8 2 = h.fn) (hvf : h.fn ≤ 1024) (hz : h.u 10 2 = 0) (hn : h.u 32 4 ≤ 8) (hkv : h.handleOk 16 = true)
    (hmo : h.handleOk 24 = true) (hsw : ∀ i, i < h.u 32 4 → h.handleOk (40 + 8 * i) = true)
    (hrole : s.reg Reg.LNK_FABRIC_ROLE = 2) (hmaps : s.MapsTo h maps) :
    exec (.fabricSeqMap h) s = .next (State.replied { s with fab := { s.fab with maps := maps } } h 0x0508 []) := by
  have hmin : min (h.u 32 4) 9 = h.u 32 4 := Nat.min_eq_left (by omega)
  have hstage : ¬(s.reg Reg.LNK_FABRIC_ROLE ≠ 2) := not_not_intro hrole
  show execFabricSeqMap h s = _
  simp only [execFabricSeqMap, hmin, hfn]
  refine congrArg ok (State.mail_done ht ?_ ?_ ?_)
  · have hflags : h.u (seqMapEnd h) 4 ≤ 1 := by
      rcases hmaps with ⟨hf, -⟩ | ⟨hf, -⟩ <;> omega
    simpa [hvf, hz, hn, hkv, hmo] using ⟨hflags, hsw⟩
  · simp
  · refine (if_neg hstage).trans ?_
    rcases hmaps with ⟨hf, rfl⟩ | ⟨hf, rfl, hkv, hmo, hsw⟩
    · exact if_pos hf
    · have hwrite : ¬(h.u (seqMapEnd h) 4 = 1) := by omega
      have hswatch : (stageMap h).swatches.findSome? (s.mapRefusal h.fn .swatch) = none :=
        List.findSome?_eq_none_iff.mpr hsw
      refine (if_neg hwrite).trans ?_
      simp only [stageMap] at hkv hmo hswatch
      by_cases hm : h.handle 24 = Handle.none
      · simp only [hkv, hm, hswatch, if_true, Option.orElse_none]
        rw [State.otherMaps, stageMap, hm]
      · simp only [hkv, hm, hmo hm, hswatch, if_false, Option.orElse_none]
        rfl

/-- Settles O32: each message that is taken meets its own rules only. -/
theorem fabricMessagesComplete : Obligations.FabricMessagesComplete := by
  refine ⟨?join, fun _ _ => exec_fabricLeave_leaves, ?attach, fun _ _ => exec_linkDetach_detaches, State.detach_shows,
    fun _ _ => exec_linkQuery_state, fun _ _ => exec_linkRekey_rekeys, ?resync, ?maps⟩
  case join =>
    intro s h ht hfn hid hdown role rin rout floor hshape a b
    exact ⟨exec_fabricJoin_joins ht hfn hid hdown hshape, s.joined_shows hid hshape⟩
  case attach =>
    intro s h ht hfn hl hpeer hz hst
    exact ⟨_, exec_linkAttach_attaches ht hfn hl hpeer hz hst, s.attached_shows _ hpeer _⟩
  case resync =>
    intro s h ht hfn hlo hhi hrun links hls
    refine ⟨_, exec_fabricResync_restarts ht hfn hlo hhi hrun hls, fun l hl => ⟨?_, ?_⟩, fun l hl => ?_,
      State.foldl_resyncLink_keeps links s⟩
    · exact (State.link_foldl_resyncLink links s l).trans (if_pos hl)
    · exact State.bit_foldl_resyncLink hls (.inl hl)
    · exact (State.link_foldl_resyncLink links s l).trans (if_neg hl)
  case maps =>
    intro s h n sw p x rest ht hfn hvf hz hn hkv hmo hsw hrole
    exact ⟨fun hf => exec_fabricSeqMap_maps ht hfn hvf hz hn hkv hmo hsw hrole (.inl ⟨hf, rfl⟩), fun hf hlive hmotif hswatch =>
      exec_fabricSeqMap_maps ht hfn hvf hz hn hkv hmo hsw hrole (.inr ⟨hf, rfl, hlive, hmotif, hswatch⟩)⟩

end Sys2Proof.Machine
end

section
/-!
The events of a link and of the Row Beacon (O36). Each event is one branch of its command; where a clause reads registers
afterwards, the state that the command leaves has a definition of its own with a lemma of what it shows.
-/

namespace Sys2Proof.Machine

/-! ### Keys -/

/-- R399. A key that the peer confirms comes into use where this end has confirmed it too. -/
theorem exec_keyReady_flips {s a : State} {l : Nat} (ha : s.arriveFrame l 0 true = some a) (hown : (a.link l).ownReady = true) :
    exec (.keyReady l) s = .next (a.flipKeys l) :=
  (State.onFrame_arrives ha _).trans (congrArg ok (if_pos hown))

theorem exec_keyReady_waits {s a : State} {l : Nat} (ha : s.arriveFrame l 0 true = some a) (hown : (a.link l).ownReady = false) :
    exec (.keyReady l) s = .next (a.setLink l { a.link l with peerReady := true }) :=
  (State.onFrame_arrives ha _).trans (congrArg ok (if_neg (by simp [hown])))

/-- R399. The phase flips, the key generations are counted, and no frame has been sent under the new keys. -/
theorem State.flipKeys_shows (s : State) (l : Nat) :
    let t := s.flipKeys l
    t.getF (linkFn l) Reg.LNK_STATE_KEY_PHASE = 1 - s.getF (linkFn l) Reg.LNK_STATE_KEY_PHASE ∧
      (t.link l).frames = 0 ∧ (t.link l).oldKeys = true ∧
      t.getF (linkFn l) Reg.LNK_REKEYS_REKEYS = (s.getF (linkFn l) Reg.LNK_REKEYS_REKEYS + 1) % 2 ^ 32 ∧ t.data = s.data := by
  intro t
  have hlink : t.link l = { s.link l with
      frames := 0, gens := (s.link l).gens + 1, newKeys := false, ownReady := false, peerReady := false, oldKeys := true } :=
    State.link_setLink_same s l _
  refine ⟨?_, by rw [hlink], by rw [hlink], ?_, rfl⟩ <;>
    simp (disch := decide) only [t, State.flipKeys, State.getF_tinkLog_of_ne, State.getF_setF_of_ne, State.getF_setF_same,
      State.getF_setLink]
  · exact Nat.mod_eq_of_lt (Nat.lt_succ_of_le (Nat.sub_le 1 _))
  · rfl

/-- R399. A re-key that is due runs where the direction has not come to its last COUNTER. -/
theorem exec_rekeyDue_rekeys {s : State} {o : RekeyOp} (hup : s.linkUp o.link = true) (hlate : o.late = false)
    (hframes : (s.link o.link).frames < 2 ^ 41) : exec (.rekeyDue o) s = .next (s.rekey o.link) := by
  have hrun : ¬(o.late = true ∨ 2 ^ 41 ≤ (s.link o.link).frames) := by simpa [hlate] using hframes
  exact (if_neg (by simp [hup])).trans (if_neg hrun)

theorem exec_rekeyDue_late {s : State} {o : RekeyOp} (hup : s.linkUp o.link = true)
    (hlate : o.late = true ∨ 2 ^ 41 ≤ (s.link o.link).frames) :
    exec (.rekeyDue o) s = .next ((s.linkErr o.link Reg.LNK_ERR_REKEY_LATE).goDown o.link 4 false) :=
  (if_neg (by simp [hup])).trans (if_pos hlate)

/-! ### Errors -/

/-- R396. Replayed frames and corrected code words are counted, the former under the link's key. -/
def State.channelErred (s : State) (o : ChannelErrOp) : State :=
  let f := linkFn o.link
  let k := (s.link o.link).frames + o.replays
  let a := (s.setLink o.link { s.link o.link with frames := k }).setF f Reg.LNK_KEY_AGE_FRAMES (k / 2 ^ 20)
  let b := a.setF f Reg.LNK_REPLAY_REPLAYS (a.getF f Reg.LNK_REPLAY_REPLAYS + o.replays)
  b.setF f Reg.LNK_FEC_CE_CE (b.getF f Reg.LNK_FEC_CE_CE + o.corrected)

theorem exec_channelError_counts {s : State} {o : ChannelErrOp} (hup : s.linkUp o.link = true) :
    exec (.channelError o) s = .next (s.channelErred o) :=
  if_neg (by simp [hup])

theorem State.channelErred_shows (s : State) (o : ChannelErrOp) :
    let t := s.channelErred o
    t.getF (linkFn o.link) Reg.LNK_REPLAY_REPLAYS = (s.getF (linkFn o.link) Reg.LNK_REPLAY_REPLAYS + o.replays) % 2 ^ 32 ∧
    t.getF (linkFn o.link) Reg.LNK_FEC_CE_CE = (s.getF (linkFn o.link) Reg.LNK_FEC_CE_CE + o.corrected) % 2 ^ 32 ∧
    (t.link o.link).frames = (s.link o.link).frames + o.replays ∧ t.data = s.data ∧ t.tier = s.tier ∧ t.seq = s.seq := by
  intro t
  have hlink : t.link o.link = { s.link o.link with frames := (s.link o.link).frames + o.replays } :=
    State.link_setLink_same s o.link _
  refine ⟨?_, ?_, by rw [hlink], rfl, rfl, rfl⟩ <;>
    simp (disch := decide) only [t, State.channelErred, State.getF_setF_of_ne, State.getF_setF_same, State.getF_setLink] <;> rfl

/-- R400. A failed tag is counted. -/
def State.authFailed (s : State) (l : Nat) : State :=
  s.setF (linkFn l) Reg.LNK_AUTH_FAIL_FAILS (s.getF (linkFn l) Reg.LNK_AUTH_FAIL_FAILS + 1)

theorem exec_authFail_counts {s : State} {o : AuthFailOp} (hup : s.linkUp o.link = true) (hfew : o.recent < 16) :
    exec (.authFail o) s = .next (s.authFailed o.link) :=
  (if_neg (by simp [hup])).trans (if_pos hfew)

/-- R400. The sixteenth failure within 1 ms takes the link DOWN for good. -/
theorem exec_authFail_burst {s : State} {o : AuthFailOp} (hup : s.linkUp o.link = true) (hburst : 16 ≤ o.recent) :
    exec (.authFail o) s = .next ((((s.authFailed o.link).linkErr o.link Reg.LNK_ERR_AUTH_BURST).tinkLog 0x0703 noFn
      (leBytes o.link 1 ++ leBytes 0 7 ++ leBytes o.counter 8)).goDown o.link 3 true) :=
  (if_neg (by simp [hup])).trans (if_neg (Nat.not_lt.mpr hburst))

/-! ### Training -/

/-- R396. A link that retrains carries no frame, which is a loss. -/
theorem exec_linkRetrain_loses {s : State} {l : Nat} (hup : s.linkUp l = true) :
    let a := (s.setF (linkFn l) Reg.LNK_STATE_STATE 4).showUp
    let a := a.setF (linkFn l) Reg.LNK_RETRAINS_RETRAINS (a.getF (linkFn l) Reg.LNK_RETRAINS_RETRAINS + 1)
    exec (.linkRetrain l) s = .next ((a.setLink l { a.link l with retrains := 0 }).loseLink l) :=
  if_neg (by simp [hup])

theorem exec_lossOfSignal_down {s : State} {l : Nat} (hup : s.linkUp l = true) :
    exec (.lossOfSignal l) s = .next (s.goDown l 0 false) :=
  if_pos hup

theorem exec_linkRetrainDone_good {s : State} {o : TrainOp} (hst : s.linkSt o.link = 4) (hgood : o.good = true) :
    exec (.linkRetrainDone o) s = .next ((((s.setF (linkFn o.link) Reg.LNK_STATE_STATE 3).setLink o.link
      { s.link o.link with retrains := 0 }).showWidth o.link o.twoLane o.halfRate).checkWidth o.link) :=
  (if_neg (not_not_intro hst)).trans (if_pos hgood)

/-- R396. The third failure in a row to retrain takes the link DOWN. -/
theorem exec_linkRetrainDone_fails {s : State} {o : TrainOp} (hst : s.linkSt o.link = 4) (hbad : o.good = false) :
    exec (.linkRetrainDone o) s = .next (if 2 ≤ (s.link o.link).retrains then s.goDown o.link 1 false
      else s.setLink o.link { s.link o.link with retrains := (s.link o.link).retrains + 1 }) :=
  (if_neg (not_not_intro hst)).trans (if_neg (by simp [hbad]))

/-- R401. A trained link goes on to SECURING, with the width and rate that it trained to. -/
theorem exec_linkTrained_good {s : State} {o : TrainOp} (hst : s.linkSt o.link = 1) (hgood : o.good = true) :
    exec (.linkTrained o) s = .next ((s.setF (linkFn o.link) Reg.LNK_STATE_STATE 2).showWidth o.link o.twoLane o.halfRate) :=
  (if_neg (not_not_intro hst)).trans (if_pos hgood)

theorem exec_linkTrained_fails {s : State} {o : TrainOp} (hst : s.linkSt o.link = 1) (hbad : o.good = false)
    (hfew : (s.link o.link).trainFails < 2) : exec (.linkTrained o) s =
      .next (s.setLink o.link { s.link o.link with trainFails := (s.link o.link).trainFails + 1 }) :=
  (if_neg (not_not_intro hst)).trans ((if_neg (by simp [hbad])).trans (congrArg ok (if_neg (Nat.not_le.mpr hfew))))

theorem b2n_mod_two (b : Bool) : b2n b % 2 = b2n b := by cases b <;> rfl

/-- R424. The width and rate show, and the state of the link with them. -/
theorem State.showWidth_shows (s : State) (l : Nat) (twoLane halfRate : Bool) :
    let t := s.showWidth l twoLane halfRate
    s.LinksKept t ∧ t.getF (linkFn l) Reg.LNK_STATE_FULL = b2n (!twoLane && !halfRate) ∧
      t.getF (linkFn l) Reg.LNK_STATE_TWO_LANE = b2n twoLane ∧ t.getF (linkFn l) Reg.LNK_STATE_HALF_RATE = b2n halfRate := by
  intro t
  refine ⟨(State.LinksKept.refl s).setF.setF.setF, ?_, ?_, ?_⟩ <;>
    simp (disch := decide) only [t, State.showWidth, State.getF_setF_of_ne, State.getF_setF_same] <;>
    exact b2n_mod_two _

theorem exec_linkTrained_shows {s : State} {o : TrainOp} (hst : s.linkSt o.link = 1) (hgood : o.good = true) :
    ∃ t, exec (.linkTrained o) s = .next t ∧ t.linkSt o.link = 2 ∧
      t.getF (linkFn o.link) Reg.LNK_STATE_FULL = b2n (!o.twoLane && !o.halfRate) ∧
      t.getF (linkFn o.link) Reg.LNK_STATE_TWO_LANE = b2n o.twoLane ∧
      t.getF (linkFn o.link) Reg.LNK_STATE_HALF_RATE = b2n o.halfRate ∧ s.KeepsWork t ∧ t.out = s.out := by
  obtain ⟨hkept, hfull, hlanes, hrate⟩ :=
    (s.setF (linkFn o.link) Reg.LNK_STATE_STATE 2).showWidth_shows o.link o.twoLane o.halfRate
  refine ⟨_, exec_linkTrained_good hst hgood, ?_, hfull, hlanes, hrate, .refl s, rfl⟩
  rw [hkept.st, State.linkSt_setF_state, if_pos rfl]

/-- R401. A DOWN link trains again, unless it has been tried three times or is barred. -/
theorem exec_linkRetry_trains {s : State} {l : Nat} (hst : s.linkSt l = 5) (hfree : (s.link l).noRetry = false)
    (hfew : (s.link l).retries < 3) : exec (.linkRetry l) s = .next ((s.setF (linkFn l) Reg.LNK_STATE_STATE 1).setLink l
      { s.link l with retries := (s.link l).retries + 1, trainFails := 0 }) := by
  have hbarred : ¬(s.linkSt l ≠ 5 ∨ (s.link l).noRetry = true ∨ 3 ≤ (s.link l).retries) := by
    simp only [hst, hfree, ne_eq, not_true, Bool.false_eq_true, false_or]
    omega
  exact if_neg hbarred

/-! ### Pairing -/

/-- R420. With no stream and no long receive, none is resumed. -/
theorem State.resumeStreams_none {s : State} (hrelays : s.fab.relays = []) (hlongs : s.fab.longs = []) (l : Nat) :
    s.resumeStreams l = s := by
  simp [State.resumeStreams, hrelays, hlongs]

/-- R391. A link at full width and rate, with no stream to resume, shows itself in LNK_UP only. -/
theorem State.checkWidth_full {s : State} {l : Nat} (hfull : s.showUp.linkFull l = true) (hrelays : s.fab.relays = [])
    (hlongs : s.fab.longs = []) : s.checkWidth l = s.showUp := by
  rw [State.checkWidth]
  simp only [hfull, if_true]
  exact State.resumeStreams_none (s := s.showUp) hrelays hlongs l

/-- R398, R402. The session of a link whose peer is the one expected, before its width is looked at. -/
def State.paired (s : State) (o : PairOp) : State :=
  let f := linkFn o.link
  let a := s.setLink o.link { LinkCtl.empty with keyHash := (s.link o.link).keyHash, gens := 1 }
  let b := (a.setF f Reg.LNK_STATE_STATE 3).setF f Reg.LNK_STATE_PEER_MODULE o.moduleId
  let c := (b.setF f Reg.LNK_STATE_KEY_PHASE 0).setF f Reg.LNK_REKEYS_REKEYS (b.getF f Reg.LNK_REKEYS_REKEYS + 1)
  c.tinkLog 0x0701 noFn (leBytes o.link 1 ++ leBytes 0 1 ++ leBytes o.moduleId 2 ++
    leBytes (c.getF f Reg.LNK_STATE_TWO_LANE + 4 * c.getF f Reg.LNK_STATE_HALF_RATE) 1)

theorem State.paired_kept (s : State) (o : PairOp) :
    ((s.setLink o.link { LinkCtl.empty with keyHash := (s.link o.link).keyHash, gens := 1 }).setF (linkFn o.link)
      Reg.LNK_STATE_STATE 3).LinksKept (s.paired o) :=
  (State.LinksKept.refl _).setF.setF.setF.tinkLog

theorem exec_linkSecured_pairs {s : State} {o : PairOp} (hst : s.linkSt o.link = 2) (hchains : o.chains = true)
    (hkey : o.keyHash = (s.link o.link).keyHash) (hfabric : o.fabricId = s.reg Reg.LNK_FABRIC_FABRIC_ID)
    (hpeer : o.moduleId = s.getF (linkFn o.link) Reg.LNK_CFG_PEER_EXPECT) :
    exec (.linkSecured o) s = .next ((s.paired o).checkWidth o.link) := by
  have hgood : ¬((!o.chains) = true ∨ o.keyHash ≠ (s.link o.link).keyHash ∨ o.fabricId ≠ s.reg Reg.LNK_FABRIC_FABRIC_ID ∨
      o.moduleId ≠ s.getF (linkFn o.link) Reg.LNK_CFG_PEER_EXPECT) := by
    simp [hchains, hkey, hfabric, hpeer]
  exact (if_neg (not_not_intro hst)).trans (if_neg hgood)

theorem exec_linkSecured_up {s : State} {o : PairOp} (hst : s.linkSt o.link = 2) (hid : o.moduleId < 2048)
    (hchains : o.chains = true) (hkey : o.keyHash = (s.link o.link).keyHash)
    (hfabric : o.fabricId = s.reg Reg.LNK_FABRIC_FABRIC_ID)
    (hpeer : o.moduleId = s.getF (linkFn o.link) Reg.LNK_CFG_PEER_EXPECT)
    (hfull : s.getF (linkFn o.link) Reg.LNK_STATE_FULL = 1) (hrelays : s.fab.relays = []) (hlongs : s.fab.longs = []) :
    ∃ t, exec (.linkSecured o) s = .next t ∧ t.linkSt o.link = 3 ∧
      t.getF (linkFn o.link) Reg.LNK_STATE_PEER_MODULE = o.moduleId ∧ (t.link o.link).gens = 1 ∧
      (t.link o.link).ordTx = 0 ∧ (t.link o.link).ordRx = 0 ∧ t.data = s.data ∧ t.tier = s.tier ∧ t.seq = s.seq := by
  have hkept := (s.paired_kept o).showUp
  have hup : (s.paired o).showUp.linkSt o.link = 3 := by
    rw [hkept.st, State.linkSt_setF_state, if_pos rfl]
  have hlink : (s.paired o).showUp.link o.link =
      { LinkCtl.empty with keyHash := (s.link o.link).keyHash, gens := 1 } := by
    rw [State.link_congr hkept.fab, State.link_congr (State.setF_fab ..), State.link_setLink_same]
  have hwide : (s.paired o).showUp.getF (linkFn o.link) Reg.LNK_STATE_FULL = 1 := by
    simpa (disch := decide) only [State.showUp, State.set, State.paired, State.getF_tinkLog_of_ne, State.getF_setF_of_ne,
      State.getF_setLink] using hfull
  have hmodule : (s.paired o).showUp.getF (linkFn o.link) Reg.LNK_STATE_PEER_MODULE = o.moduleId := by
    simp (disch := decide) only [State.showUp, State.set, State.paired, State.getF_tinkLog_of_ne, State.getF_setF_of_ne,
      State.getF_setF_same]
    exact Nat.mod_eq_of_lt hid
  have hcheck : (s.paired o).checkWidth o.link = (s.paired o).showUp :=
    State.checkWidth_full (by simp [State.linkFull, State.linkUp, hup, hwide]) hrelays hlongs
  refine ⟨_, (exec_linkSecured_pairs hst hchains hkey hfabric hpeer).trans (congrArg ok hcheck), hup, hmodule, ?_, ?_, ?_,
    hkept.data, hkept.tier, hkept.seq⟩ <;> rw [hlink] <;> rfl

/-- R402. A peer whose chain does not hold takes the link DOWN for good. -/
theorem exec_linkSecured_mismatch {s : State} {o : PairOp} (hst : s.linkSt o.link = 2) (hchains : o.chains = false) :
    exec (.linkSecured o) s = .next (((s.linkErr o.link Reg.LNK_ERR_PEER_MISMATCH).tinkLog 0x0707 noFn
      (leBytes o.link 1 ++ leBytes 0 1 ++ leBytes o.moduleId 2 ++ leBytes o.fabricId 2)).goDown o.link 5 true) :=
  (if_neg (not_not_intro hst)).trans (if_pos (.inl (by simp [hchains])))

/-! ### The Row Beacon -/

/-- R411. A pulse is counted, and `n` pulses in period have now come in a row. -/
def State.countPulse (s : State) (n : Nat) : State :=
  let a := s.inc2 Reg.LNK_BEACON_CNT_LO_CNT_LO Reg.LNK_BEACON_CNT_HI_CNT_HI 1
  { a with fab := { a.fab with pulses := n } }

/-- R411. Four pulses in period lock the beacon. -/
def State.pulsed (s : State) (n : Nat) : State :=
  if 4 ≤ n then (s.countPulse n).set Reg.LNK_BEACON_LOCKED 1 else s.countPulse n

/-- The registers that a pulse may write: LNK_BEACON and the two of its count. -/
def beaconRegs (off : Nat) : Bool := off == 0xA0068 || off == 0xA006C || off == 0xA0070

theorem State.reg_inc2_low (s : State) {lo hi : Fld} (n : Nat) (hw : lo.width = 32)
    (h : lo.off * 32 + lo.lo ≠ hi.off * 32 + hi.lo) : (s.inc2 lo hi n).reg lo = (s.reg lo + n) % 2 ^ 32 := by
  rw [State.inc2, State.reg_set_ne _ _ _ _ h, State.reg_set_same, hw, Nat.add_right_comm, Nat.add_mul_mod_self_left]

theorem State.regsKept_inc2 {p : Nat → Bool} (s : State) {lo hi : Fld} (n : Nat) (hlo : lo.off < 0x200000 ∧ lo.lo < 32)
    (hhi : hi.off < 0x200000 ∧ hi.lo < 32) (hplo : p lo.off = true) (hphi : p hi.off = true) :
    s.RegsKept p (s.inc2 lo hi n) :=
  (s.regsKept_set lo _ hlo.1 hlo.2 hplo).trans (State.regsKept_set _ hi _ hhi.1 hhi.2 hphi)

theorem State.pulsed_shows (s : State) (n : Nat) :
    let t := s.pulsed n
    t.fab.pulses = n ∧ (4 ≤ n → t.reg Reg.LNK_BEACON_LOCKED = 1) ∧
      t.reg Reg.LNK_BEACON_CNT_LO_CNT_LO = (s.reg Reg.LNK_BEACON_CNT_LO_CNT_LO + 1) % 2 ^ 32 ∧ s.RegsKept beaconRegs t ∧
      t.data = s.data ∧ t.tier = s.tier := by
  have hcount : (s.countPulse n).reg Reg.LNK_BEACON_CNT_LO_CNT_LO = (s.reg Reg.LNK_BEACON_CNT_LO_CNT_LO + 1) % 2 ^ 32 :=
    s.reg_inc2_low (hi := Reg.LNK_BEACON_CNT_HI_CNT_HI) 1 rfl (by decide)
  have hkept : s.RegsKept beaconRegs (s.countPulse n) :=
    .trans (s.regsKept_inc2 1 (by decide) (by decide) rfl rfl) (.of_regs rfl)
  unfold State.pulsed
  split
  · exact ⟨rfl, fun _ => State.reg_set_same _ _ _, (State.reg_set_ne _ _ _ _ (by decide)).trans hcount,
      hkept.trans (State.regsKept_set _ _ _ (by decide) (by decide) rfl), rfl, rfl⟩
  · next hfew => exact ⟨rfl, fun hn => absurd hn hfew, hcount, hkept, rfl, rfl⟩

/-- R411. A pulse within 0.5 % of the module's own row length goes on a run of them, another one ends it. -/
theorem exec_beaconPulse_counts {s : State} (periodNs : Nat) (hen : s.flag Reg.LNK_CTRL_BEACON_IN_EN = true) :
    let nominal := 1000 * (s.reg Reg.SEQ_ROW_CFG_ROW_LEN + 1)
    exec (.beaconPulse periodNs) s = .next (s.pulsed
      (if 200 * (max periodNs nominal - min periodNs nominal) ≤ nominal then s.fab.pulses + 1 else 0)) := by
  intro nominal
  have hrow : (s.inc2 Reg.LNK_BEACON_CNT_LO_CNT_LO Reg.LNK_BEACON_CNT_HI_CNT_HI 1).reg Reg.SEQ_ROW_CFG_ROW_LEN =
      s.reg Reg.SEQ_ROW_CFG_ROW_LEN := State.reg_inc2_of_ne _ _ _ _ (by decide) (by decide)
  have hin : (s.inc2 Reg.LNK_BEACON_CNT_LO_CNT_LO Reg.LNK_BEACON_CNT_HI_CNT_HI 1).flag Reg.LNK_CTRL_BEACON_IN_EN = true := by
    rw [State.flag, State.reg_inc2_of_ne _ _ _ _ (by decide) (by decide)]
    exact hen
  show execBeaconPulse periodNs s = _
  simp only [execBeaconPulse, hrow, hin, Bool.not_true, Bool.false_eq_true, if_false]
  rfl

theorem exec_beaconPulse_shows {s : State} (periodNs : Nat) (hen : s.flag Reg.LNK_CTRL_BEACON_IN_EN = true) :
    let nominal := 1000 * (s.reg Reg.SEQ_ROW_CFG_ROW_LEN + 1)
    let near := 200 * (max periodNs nominal - min periodNs nominal) ≤ nominal
    ∃ t, exec (.beaconPulse periodNs) s = .next t ∧ (near → t.fab.pulses = s.fab.pulses + 1) ∧ (¬near → t.fab.pulses = 0) ∧
      (near → 3 ≤ s.fab.pulses → t.reg Reg.LNK_BEACON_LOCKED = 1) ∧
      t.reg Reg.LNK_BEACON_CNT_LO_CNT_LO = (s.reg Reg.LNK_BEACON_CNT_LO_CNT_LO + 1) % 2 ^ 32 ∧
      s.RegsKept beaconRegs t ∧ t.data = s.data ∧ t.tier = s.tier := by
  intro nominal near
  obtain ⟨hpulses, hlock, hrest⟩ := s.pulsed_shows (if near then s.fab.pulses + 1 else 0)
  refine ⟨_, exec_beaconPulse_counts periodNs hen, fun h => ?_, fun h => ?_, fun h hrun => hlock ?_, hrest⟩
  · exact hpulses.trans (if_pos h)
  · exact hpulses.trans (if_neg h)
  · rw [if_pos h]
    omega

/-- Setting an error bit leaves every other register field. -/
theorem State.reg_err_of_ne (s : State) (f en : Fld) (i v : Nat) {g : Fld}
    (h : g.off * 32 + g.lo ≠ f.off * 32 + f.lo) : (s.err f en i v).reg g = s.reg g := by
  unfold State.err
  dsimp only
  split <;> exact State.reg_set_ne _ _ _ _ h

theorem State.reg_err_same (s : State) (f en : Fld) (i v : Nat) : (s.err f en i v).reg f = 1 % 2 ^ f.width := by
  unfold State.err
  dsimp only
  split <;> exact State.reg_set_same _ _ _

theorem State.err_keeps (s : State) (f en : Fld) (i v : Nat) :
    (s.err f en i v).fab = s.fab ∧ (s.err f en i v).data = s.data ∧ (s.err f en i v).tier = s.tier := by
  unfold State.err
  dsimp only
  split <;> exact ⟨rfl, rfl, rfl⟩

/-- R412. A locked module that loses the beacon unlocks, and flags the loss. -/
def State.unlocked (s : State) : State :=
  ({ s with fab := { s.fab with pulses := 0 } }.set Reg.LNK_BEACON_LOCKED 0).err Reg.LNK_ERR_BEACON_LOST Reg.LNK_INT_EN_EN 6 6

theorem exec_beaconLost_unlocks {s : State} (hlocked : s.flag Reg.LNK_BEACON_LOCKED = true) :
    exec .beaconLost s = .next (s.unlocked.tinkLog 0x0706 noFn (leBytes (s.unlocked.reg Reg.LNK_BEACON_CNT_LO_CNT_LO) 4 ++
      leBytes (s.unlocked.reg Reg.LNK_BEACON_CNT_HI_CNT_HI) 2)) :=
  if_neg (by simp [hlocked])

theorem exec_beaconLost_shows {s : State} (hlocked : s.flag Reg.LNK_BEACON_LOCKED = true) :
    ∃ t, exec .beaconLost s = .next t ∧ t.reg Reg.LNK_BEACON_LOCKED = 0 ∧ t.reg Reg.LNK_ERR_BEACON_LOST = 1 ∧
      t.fab = { s.fab with pulses := 0 } ∧ t.data = s.data ∧ t.tier = s.tier := by
  obtain ⟨hfab, hdata, htier⟩ := State.err_keeps ({ s with fab := { s.fab with pulses := 0 } }.set Reg.LNK_BEACON_LOCKED 0)
    Reg.LNK_ERR_BEACON_LOST Reg.LNK_INT_EN_EN 6 6
  refine ⟨_, exec_beaconLost_unlocks hlocked, ?_, ?_, hfab, hdata, htier⟩ <;>
    rw [State.reg, State.getF_tinkLog_of_ne _ _ _ _ _ (by decide) (by decide)]
  · exact (State.reg_err_of_ne _ _ _ _ _ (by decide)).trans (State.reg_set_same _ _ _)
  · exact State.reg_err_same _ _ _ _ _

/-- Settles O36: each event is one branch of its command, and of the registers each of them is written once. -/
theorem linkEventsComplete : Obligations.LinkEventsComplete :=
  ⟨fun _ _ _ ha => ⟨exec_keyReady_flips ha, exec_keyReady_waits ha⟩, fun s l _ => s.flipKeys_shows l,
    fun s o hup => ⟨_, exec_channelError_counts hup, s.channelErred_shows o⟩,
    fun _ _ hup => ⟨exec_authFail_counts hup, exec_authFail_burst hup⟩,
    fun _ _ hup => ⟨exec_rekeyDue_rekeys hup, exec_rekeyDue_late hup⟩, fun _ _ => rfl,
    fun _ _ hup => ⟨exec_linkRetrain_loses hup, exec_lossOfSignal_down hup⟩,
    fun _ _ hst => ⟨exec_linkRetrainDone_good hst, exec_linkRetrainDone_fails hst⟩,
    fun _ _ hst => ⟨exec_linkTrained_shows hst, exec_linkTrained_fails hst⟩,
    fun _ _ hst hid => ⟨exec_linkSecured_up hst hid, exec_linkSecured_mismatch hst⟩,
    fun _ _ => exec_linkRetry_trains, fun _ periodNs => exec_beaconPulse_shows periodNs, fun _ => exec_beaconLost_shows⟩

end Sys2Proof.Machine
end

section
/-!
The Tink log (O44). A message that is taken meets its own rules only; a freeze and the end of a flush change the log and its registers;
a reader of entries or records shows their words (`State.showWords`) and then sets its DONE flag.
-/

namespace Sys2Proof.Machine

/-! ### Messages -/

/-- R452. The entries that TINK_READ asks for of a log that there is. -/
theorem exec_tinkRead_answers {s : State} {h : Mail} {log : List TinkEntry} (ht : s.Taken h 0x0701 0 20) (hfn : h.fn = 0)
    (hsrc : h.u 8 2 ≤ 20) (hz : h.u 10 2 = 0) (hlo : 1 ≤ h.u 16 4) (hhi : h.u 16 4 ≤ 127)
    (hlog : s.tinkSource (h.u 8 2) = some log) :
    let l := (log.drop (h.u 12 4)).take (h.u 16 4)
    exec (.tinkRead h) s = .next (s.replied h 0x0701 (leBytes l.length 4 ++ l.flatMap TinkEntry.bytes)) := by
  refine congrArg ok (State.mail_done ht ?_ ?_ ?_)
  · simp [hsrc, hz, hlo, hhi, hlog]
  · simp [hfn]
  · simp only [hlog, Option.getD_some]

/-- R452. A slot is free: the ring is frozen, and the message is done. -/
theorem exec_tinkFreeze_freezes {s : State} {h : Mail} (ht : s.Taken h 0x0702 0 8) (hfn : h.fn = 0)
    (hfree : s.tink.frozen.length < 4) : exec (.tinkFreeze h) s = .next (s.freeze.replied h 0x0702 []) := by
  refine congrArg ok (State.mail_done ht rfl ?_ (if_pos hfree))
  simp [hfn]

/-- R452. A slot whose copy is complete is released. -/
theorem exec_tinkRelease_releases {s : State} {h : Mail} (ht : s.Taken h 0x0703 0 10) (hfn : h.fn = 0) (hslot : h.u 8 2 < 4)
    (hheld : (Store.get? s.tink.frozen (h.u 8 2)).isSome = true) (hcopied : s.tink.freezing ≠ some (h.u 8 2)) :
    let a : State := { s with tink := { s.tink with frozen := Store.erase s.tink.frozen (h.u 8 2) } }
    exec (.tinkRelease h) s =
      .next ((a.set Reg.TNK_STATUS_FROZEN (clearBit (s.reg Reg.TNK_STATUS_FROZEN) (h.u 8 2))).replied h 0x0703 []) := by
  have hkept : ¬((Store.get? s.tink.frozen (h.u 8 2)).isNone = true ∨ s.tink.freezing = some (h.u 8 2)) := by
    simp [Option.ne_none_iff_isSome, hheld, hcopied]
  refine congrArg ok (State.mail_done ht ?_ ?_ (if_neg hkept))
  · simp [hslot]
  · simp [hfn]

/-! ### Freezes and flushes -/

/-- R452, R455. A freeze that finds a slot free copies the ring to it. -/
theorem State.freeze_shows {s : State} {i : Nat}
    (hi : (List.range 4).find? (fun i => (Store.get? s.tink.frozen i).isNone) = some i) :
    Store.get? s.freeze.tink.frozen i = some s.tink.ring ∧
      (∀ j, j ≠ i → Store.get? s.freeze.tink.frozen j = Store.get? s.tink.frozen j) ∧
      s.freeze.tink.ring = s.tink.ring ∧ s.freeze.reg Reg.TNK_CTRL_FREEZE = 1 ∧ s.KeepsWork s.freeze := by
  simp only [State.freeze, hi]
  exact ⟨Store.get?_put_same _ _ _, fun _ hj => Store.get?_put_ne _ _ hj, rfl, State.reg_set_same _ _ _, .refl s⟩

/-- R597. Without a bind-off nothing advances. -/
theorem State.bindAdvance_of_none {s : State} (h : s.mod.bindOff = none) : s.bindAdvance = s := by
  simp only [State.bindAdvance, h]

/-- R451. The flushes that are kept after one more: the sixteen newest. -/
def TinkState.flushed (k : TinkState) : TinkState :=
  { k with flushing := false, flushes := (k.flushes ++ [k.ring]).drop ((k.flushes ++ [k.ring]).length - 16) }

theorem TinkState.flushed_newest (k : TinkState) : k.flushed.flushes.getLast? = some k.ring ∧ k.flushed.flushes.length ≤ 16 := by
  constructor
  · rw [TinkState.flushed, List.getLast?_drop, if_neg (by simp), List.getLast?_append, List.getLast?_singleton, Option.some_or]
  · simp only [TinkState.flushed, List.length_drop]
    omega

/-- R451, R455. The machine after a flush, before it is announced. -/
def State.flushEnded (s : State) : State :=
  ((({ s with tink := s.tink.flushed }.set Reg.TNK_STATUS_FLUSHING 0).inc Reg.TNK_FLUSHES_FLUSHES 1).set
    Reg.TNK_FLUSH_SEQ_ENTRY_SEQ (s.reg Reg.TNK_SEQ_ENTRY_SEQ))

/-- R452, R455. The machine after the copy of a freeze, before it is announced. -/
def State.freezeEnded (s : State) : State :=
  State.showFrozen ({ s with tink := { s.tink with freezing := none } }.set Reg.TNK_CTRL_FREEZE 0)

theorem State.flushEnded_shows (s : State) :
    s.flushEnded.reg Reg.TNK_STATUS_FLUSHING = 0 ∧ s.flushEnded.reg Reg.TNK_FLUSHES_FLUSHES =
      (s.reg Reg.TNK_FLUSHES_FLUSHES + 1) % 2 ^ Reg.TNK_FLUSHES_FLUSHES.width ∧ s.KeepsWork s.flushEnded := by
  refine ⟨?_, ?_, .refl s⟩ <;>
    simp (disch := decide) only [State.flushEnded, State.reg_set_ne, State.reg_inc_ne, State.reg_set_same, State.reg_inc_same,
      State.reg_tink, Nat.zero_mod]

/-- R451, R452. What runs completes, a flush before the copy of a freeze, and vector 12 announces it. -/
theorem exec_tinkFlushDone_completes {s : State} (hruns : ¬((!s.tink.flushing) = true ∧ s.tink.freezing.isNone = true)) :
    let a := if s.tink.flushing then s.flushEnded else s
    exec .tinkFlushDone s = .next ((if a.tink.freezing.isSome then a.freezeEnded else a).msix 0 12).bindAdvance :=
  if_neg hruns

theorem exec_tinkFlushDone_flush {s : State} (hbind : s.mod.bindOff = none) (hflush : s.tink.flushing = true)
    (hfreeze : s.tink.freezing = none) : exec .tinkFlushDone s = .next (s.flushEnded.msix 0 12) := by
  have hnone : ¬(s.flushEnded.tink.freezing.isSome = true) := by simp [State.flushEnded, TinkState.flushed, hfreeze]
  rw [exec_tinkFlushDone_completes (by simp [hflush]), if_pos hflush, if_neg hnone]
  exact congrArg ok (State.bindAdvance_of_none hbind)

theorem exec_tinkFlushDone_freeze {s : State} {i : Nat} (hbind : s.mod.bindOff = none) (hflush : s.tink.flushing = false)
    (hfreeze : s.tink.freezing = some i) : exec .tinkFlushDone s = .next (s.freezeEnded.msix 0 12) := by
  have hno : ¬(s.tink.flushing = true) := by simp [hflush]
  have hsome : s.tink.freezing.isSome = true := by simp [hfreeze]
  rw [exec_tinkFlushDone_completes (by simp [hfreeze]), if_neg hno, if_pos hsome]
  exact congrArg ok (State.bindAdvance_of_none hbind)

theorem State.freezeEnded_shows (s : State) : s.freezeEnded.reg Reg.TNK_CTRL_FREEZE = 0 ∧ s.KeepsWork s.freezeEnded :=
  ⟨(State.reg_set_ne _ _ _ _ (by decide)).trans (State.reg_set_same _ _ _), .refl s⟩

/-! ### The readers of entries and records -/

/-- R455, R553. Words shown in data registers from field `f` on, and then flag `d`, which stands in no data register. -/
theorem State.shown_done (s : State) {f d : Fld} {n : Nat} (l : List Byte)
    (hd : ∀ i, i < n → (f.at (4 * i)).off * 32 + (f.at (4 * i)).lo ≠ d.off * 32 + d.lo) :
    let t := (s.showWords f n l).set d 1
    (∀ i, i < n → t.reg (f.at (4 * i)) = leField l (4 * i) 4 % 2 ^ f.width) ∧ t.reg d = 1 % 2 ^ d.width ∧
      t = { s with regs := t.regs } := by
  refine ⟨fun i hi => ?_, State.reg_set_same _ _ _, ?_⟩
  · rw [State.reg_set_ne _ _ _ _ (hd i hi), State.reg_showWords _ _ _ hi]
  · obtain ⟨r, hr⟩ := s.showWords_rest f n l
    rw [hr]
    rfl

theorem exec_tnkEntryRead_shows {s : State} {e : TinkEntry}
    (he : s.tink.ring.find? (fun e => e.seq == s.reg Reg.TNK_SEL_ENTRY_SEQ) = some e) :
    exec .tnkEntryRead s = .next ((s.showWords Reg.TNK_DATA0_WORD 8 e.bytes).set Reg.TNK_CMD_DONE 1) := by
  show execTnkEntryRead s = _
  simp only [execTnkEntryRead, he, ok]

theorem exec_fwFaultRead_shows {s : State} {l : List Byte}
    (hl : Store.get? s.fw.ring (s.reg Reg.GLB_FW_FAULT_SEL_INDEX) = some l) :
    exec .fwFaultRead s = .next ((s.showWords Reg.GLB_FW_FAULT_DATA0_WORD 16 l).set Reg.GLB_FW_FAULT_CMD_DONE 1) := by
  show execFwFaultRead s = _
  simp only [execFwFaultRead, hl, ok]

/-- Settles O44: each message that is taken meets its own rules only, and the log's registers that are written are apart. -/
theorem tinkCompletes : Obligations.TinkCompletes := by
  refine ⟨fun _ _ _ => exec_tinkRead_answers, fun _ _ => exec_tinkFreeze_freezes, fun _ => ⟨rfl, fun _ => State.freeze_shows⟩,
    fun _ _ => exec_tinkRelease_releases, ?flush, ?freeze, ?entry, ?record⟩
  case flush =>
    intro s hbind hflush hfreeze
    obtain ⟨hlast, hfew⟩ := s.tink.flushed_newest
    obtain ⟨hshown, hcount, hwork⟩ := s.flushEnded_shows
    exact ⟨_, exec_tinkFlushDone_flush hbind hflush hfreeze, rfl, hlast, hfew, rfl, hshown, hcount, rfl, hwork⟩
  case freeze =>
    intro s i hbind hflush hfreeze
    obtain ⟨hshown, hwork⟩ := s.freezeEnded_shows
    exact ⟨_, exec_tinkFlushDone_freeze hbind hflush hfreeze, rfl, hshown, rfl, hwork⟩
  case entry =>
    intro s e he
    exact ⟨_, exec_tnkEntryRead_shows he, s.shown_done e.bytes (by decide)⟩
  case record =>
    intro s l hl
    exact ⟨_, exec_fwFaultRead_shows hl, s.shown_done l (by decide)⟩

end Sys2Proof.Machine
end

section
/-!
The frames of a twin set (O38, O39). A frame that arrives takes its effect on the machine that its arrival leaves
(`State.onTwin_arrives`). A TWIN WRITE writes the lines and sets the incomplete bit, and leaves LAST_USE, which R324 gives to fetches
and move reads: O38 says that it becomes the row, and fails on a tensor that was last used in another row.
-/

namespace Sys2Proof.Machine

/-- A TWIN frame that arrives takes its effect. -/
theorem State.onTwin_arrives {s b : State} {l n : Nat} (h : s.TwinArrives l n b) (k : State → State) :
    s.onTwin l n k = .next (k b) := by
  obtain ⟨hlink, a, ha, rfl⟩ := h
  have hon : ¬((!bit s.twinLinks l) = true) := by simp [State.twinLinks, hlink]
  rw [State.onTwin, if_neg hon, ha]
  rfl

/-- R430. A write's lines land at the mirror; of the tensor's entry the incomplete bit alone is written. -/
theorem exec_twinWrite_tt {s b : State} {o : TwinWriteOp} {t : Tensor} (hb : s.TwinArrives o.link o.lines.length b)
    (hmirror : b.isMirror = true) (ht : b.entry (ttKey o.handle.fn o.handle.idx) = some t) (hnear : t.tier = .near)
    (hfit : o.first + o.lines.length ≤ t.size) :
    ∃ u, exec (.twinWrite o) s = .next u ∧ u.tier.tt = Store.put b.tier.tt t.key { t with incomplete := true } := by
  have hlands : ¬((!b.isMirror) = true ∨ t.tier ≠ .near ∨ t.size < o.first + o.lines.length) := by
    simpa [hmirror, hnear] using hfit
  show ∃ u, execTwinWrite o s = .next u ∧ _
  rw [execTwinWrite, State.onTwin_arrives hb]
  simp only [ht, if_neg hlands]
  exact ⟨_, rfl, rfl⟩

/-- A near tensor of one line, last used in row 5. -/
def usedTensor : Tensor :=
  { fn := 0, idx := 1, gen := 0, tier := .near, kind := .data, dirty := false, incomplete := false, pinned := false
    homeSet := false, readOnly := false, poisoned := false, moving := false, parked := false, format := 0, keyIndex := 0, size := 1
    loc := 0, home := 0, wseq := 0, scaleLink := 0, kspec := 0, lastUse := 5, dirtyRow := 0 }

/-- A mirror in row 0 whose twin link 0 is UP at full width and rate, and which holds `usedTensor`. -/
def usedMirror : State :=
  let s := (State.reset.set Reg.TWN_STATE_ROLE 2).set Reg.TWN_LINKS_TWIN 1
  let s := (s.setF (linkFn 0) Reg.LNK_STATE_STATE 3).setF (linkFn 0) Reg.LNK_STATE_FULL 1
  { s with tier := { s.tier with tt := [(usedTensor.key, usedTensor)] } }

/-- One line of zeros for `usedTensor`, on link 0. -/
def usedWrite : TwinWriteOp := ⟨0, 0, ⟨0, 0, 1⟩, 0, [0]⟩

/-- `usedMirror` after a frame of one line has arrived on link 0. -/
def usedArrival : State :=
  let a := usedMirror.countRx 0 1
  { a.set Reg.TWN_LINKS_LIVE (setBit (a.reg Reg.TWN_LINKS_LIVE) 0) with twin := { a.twin with silent := false } }

theorem usedMirror_arrives : usedMirror.TwinArrives 0 1 usedArrival :=
  ⟨by decide, _, State.arriveFrame_counts 1 (by decide) (.inr (by decide)) (by decide), rfl⟩

theorem usedArrival_entry : usedArrival.entry (ttKey 0 1) = some usedTensor := by
  have htt : usedArrival.tier.tt = [(ttKey 0 1, usedTensor)] := rfl
  rw [State.entry, htt, Store.get?, if_pos rfl]

/-- Refutes O38: a TWIN WRITE into a tensor that was last used in row 5 leaves LAST_USE at 5 in row 0. -/
theorem not_twinFramesComplete : ¬ Obligations.TwinFramesComplete := by
  unfold Obligations.TwinFramesComplete
  rintro ⟨hwrite, -⟩
  obtain ⟨u, hu, -, -, hclaim, -⟩ := hwrite usedMirror usedArrival usedWrite usedTensor usedMirror_arrives (by decide)
    usedArrival_entry rfl (by decide)
  obtain ⟨v, hv, htt⟩ := exec_twinWrite_tt (o := usedWrite) usedMirror_arrives (by decide) usedArrival_entry rfl (by decide)
  obtain rfl : u = v := Host.Outcome.next.inj (hu.symm.trans hv)
  rw [htt, Store.get?_put_same] at hclaim
  have huse : (5 : Nat) = usedArrival.row := congrArg Tensor.lastUse (Option.some.inj hclaim)
  exact absurd huse (by decide)

end Sys2Proof.Machine
end

section
/-!
What leaves a twin set alone. `s.TwinKept t` says that the registers of the set (TWN_STATE to TWN_MSEQ_ACK, R454), what it holds besides
them, and the tiers are as before, so that the state and role that a set enters are read off the writes of TWN_STATE.
-/

namespace Sys2Proof.Machine

/-- Writing a Tink entry changes no register of the PF but TNK_SEQ. -/
theorem State.reg_tinkLog_of_ne (s : State) (code fn : Nat) (args : List Byte) {f : Fld}
    (h : f.off * 32 + f.lo ≠ Reg.TNK_SEQ_ENTRY_SEQ.off * 32 + Reg.TNK_SEQ_ENTRY_SEQ.lo) :
    (s.tinkLog code fn args).reg f = s.reg f :=
  State.reg_tinkAt_of_ne _ _ _ _ _ h

/-- The twin set and the tiers are as before. -/
structure State.TwinKept (s t : State) : Prop where
  reg : ∀ f : Fld, f.off / 16 = 0xB000 → f.lo < 32 → t.reg f = s.reg f
  twin : t.twin = s.twin
  tier : t.tier = s.tier

namespace State.TwinKept

variable {s₀ s : State}

theorem refl (s : State) : s.TwinKept s := ⟨fun _ _ _ => rfl, rfl, rfl⟩

/-- A register of another block, of whichever function. -/
theorem setF (h : s₀.TwinKept s) {fn : Nat} {f : Fld} {v : Nat}
    (hf : f.off < 0x200000 ∧ f.lo < 32 ∧ f.off / 16 ≠ 0xB000 := by decide) : s₀.TwinKept (s.setF fn f v) := by
  obtain ⟨hoff, hlo, hblock⟩ := hf
  refine ⟨fun g hg hgl => ?_, h.twin, h.tier⟩
  rw [← h.reg g hg hgl]
  exact State.getF_setF_of_ne _ _ _ _ ⟨hoff, hlo⟩ (by omega) (by omega)

theorem set (h : s₀.TwinKept s) {f : Fld} {v : Nat}
    (hf : f.off < 0x200000 ∧ f.lo < 32 ∧ f.off / 16 ≠ 0xB000 := by decide) : s₀.TwinKept (s.set f v) :=
  h.setF hf

/-- An update of parts of the machine that say nothing of the set or the tiers. -/
theorem frame (h : s₀.TwinKept s) {data : DataPath} {seq : SeqState} {serve : ServeState} {sec : SecState} {pwr : PwrState}
    {host : HostState} {tink : TinkState} {out : Outbox} {fresh : Nat} :
    s₀.TwinKept { s with data := data, seq := seq, serve := serve, sec := sec, pwr := pwr, host := host, tink := tink, out := out
                         fresh := fresh } :=
  ⟨h.reg, h.twin, h.tier⟩

theorem ite {c : Prop} [Decidable c] {t u : State} (ht : s₀.TwinKept t) (hu : s₀.TwinKept u) :
    s₀.TwinKept (if c then t else u) := by
  split
  · exact ht
  · exact hu

theorem foldl {α : Type} (h : s₀.TwinKept s) (l : List α) {k : State → α → State}
    (hk : ∀ {t} a, s₀.TwinKept t → s₀.TwinKept (k t a)) : s₀.TwinKept (l.foldl k s) :=
  List.foldlRecOn l k h fun _ ht a _ => hk a ht

theorem err (h : s₀.TwinKept s) {f en : Fld} {i v : Nat}
    (hf : f.off < 0x200000 ∧ f.lo < 32 ∧ f.off / 16 ≠ 0xB000 := by decide) : s₀.TwinKept (s.err f en i v) :=
  .ite (h.set hf).frame (h.set hf)

theorem fnErr (h : s₀.TwinKept s) {fn : Nat} {f : Fld}
    (hf : f.off < 0x200000 ∧ f.lo < 32 ∧ f.off / 16 ≠ 0xB000 := by decide) : s₀.TwinKept (s.fnErr fn f) :=
  .ite (h.setF hf).frame (h.setF hf)

theorem tinkLog (h : s₀.TwinKept s) {code fn : Nat} {args : List Byte} : s₀.TwinKept (s.tinkLog code fn args) :=
  h.frame.setF

theorem logPage (h : s₀.TwinKept s) {fn addr : Nat} : s₀.TwinKept (s.logPage fn addr) :=
  .ite h (.ite (State.TwinKept.err h.setF).tinkLog h.frame.setF.setF)

theorem coalesce (h : s₀.TwinKept s) {fn : Nat} : s₀.TwinKept (s.coalesce fn) := .ite h.frame h.frame

theorem putEntry (h : s₀.TwinKept s) {fn : Nat} {kind : CKind} {status : Status} {sq : Nat} {counted : Bool} {body : List Byte} :
    s₀.TwinKept (s.putEntry fn kind status sq counted body) :=
  have hput := (h.logPage (fn := fn)).frame.setF.setF
  .ite hput.coalesce hput

theorem post (h : s₀.TwinKept s) {fn : Nat} {kind : CKind} {status : Status} {sq : Nat} {counted : Bool} {body : List Byte} :
    s₀.TwinKept (s.post fn kind status sq counted body) :=
  .ite h (.ite h.frame h.putEntry)

theorem note (h : s₀.TwinKept s) {fn type : Nat} {payload : List Byte} : s₀.TwinKept (s.note fn type payload) :=
  .ite h.post (.ite h.frame.setF (State.TwinKept.set h).fnErr)

theorem sample (h : s₀.TwinKept s) {fn : Nat} {status inten count : Fld} {isBeyond : Bool}
    (hs : status.off < 0x200000 ∧ status.lo < 32 ∧ status.off / 16 ≠ 0xB000 := by decide)
    (hc : count.off < 0x200000 ∧ count.lo < 32 ∧ count.off / 16 ≠ 0xB000 := by decide) :
    s₀.TwinKept (s.sample fn status inten count isBeyond) :=
  have hcross := (h.frame.setF hs).setF hc
  .ite (.ite h (.ite hcross.frame hcross)) (.ite h.frame h)

theorem showSpace (h : s₀.TwinKept s) : s₀.TwinKept s.showSpace := by
  unfold State.showSpace
  extract_lets free near pend deep dirty active queued lent shown low thresh
  have hshown : s₀.TwinKept shown := h.set.set.set.set.set.set.set.set.set.set
  exact .sample (.ite hshown.set hshown)

end State.TwinKept

end Sys2Proof.Machine
end

section
/-!
Digest points and failover (O39). Each event is one branch of its command. A matching point closes as `State.pointMatched` says; a
module that is fenced while a row runs asks for a halt and writes nothing for the host.
-/

namespace Sys2Proof.Machine

/-! ### Acknowledgements and heartbeats -/

/-- R430. The mirror acknowledges what it has applied, where no record is held. -/
theorem exec_twinAckSend_sends {s : State} (hmirror : s.isMirror = true) (hst : s.twn = 1 ∨ s.twn = 2) (hheld : s.heldRecs = [])
    (hnew : s.reg Reg.TWN_MSEQ_ACK_MSEQ ≠ s.reg Reg.TWN_MSEQ_SENT_MSEQ) :
    let m := s.reg Reg.TWN_MSEQ_SENT_MSEQ
    exec .twinAckSend s = .next ((s.sendTwin (.twinAck m)).set Reg.TWN_MSEQ_ACK_MSEQ m) := by
  have hdue : ¬((!s.isMirror) = true ∨ (s.twn ≠ 1 ∧ s.twn ≠ 2) ∨
      s.reg Reg.TWN_MSEQ_ACK_MSEQ = s.reg Reg.TWN_MSEQ_SENT_MSEQ) := by
    simp only [hmirror, hnew, or_false, Bool.not_true, Bool.false_eq_true, false_or]
    omega
  show execTwinAckSend s = _
  simp only [execTwinAckSend, hheld]
  exact if_neg hdue

theorem exec_twinHeartbeatSend_sends {s : State} {live : Nat} (hset : s.twn ≠ 0) :
    exec (.twinHeartbeatSend live) s =
      .next ((s.sendAll s.twinLinks (.twinHeartbeat (s.reg Reg.TWN_MSEQ_SENT_MSEQ) s.row)).set Reg.TWN_LINKS_LIVE
        (live &&& s.twinLinks)) :=
  if_neg hset

/-! ### Digest points -/

section

variable {s : State} (hprimary : s.isMirror = false) (hst : s.twn = 1 ∨ s.twn = 2) (hrest : s.seq.active = false)
  (hrows : 256 * (s.reg Reg.TWN_DIGEST_CFG_INTERVAL + 1) ≤ s.twin.rows)

include hprimary hst hrest hrows

/-- R433. The primary is at rest and INTERVAL rows have passed: a point is due. -/
theorem State.point_due : ¬(s.isMirror = true ∨ (s.twn ≠ 1 ∧ s.twn ≠ 2) ∨ s.seq.active = true ∨
    s.twin.rows < 256 * (s.reg Reg.TWN_DIGEST_CFG_INTERVAL + 1)) := by
  simp only [hprimary, hrest, Bool.false_eq_true, false_or]
  omega

/-- R433. Without an open point, a new one opens for the last commit. -/
theorem exec_digestPoint_opens (hnone : s.twin.point = none) :
    let m := s.reg Reg.TWN_MSEQ_SENT_MSEQ
    let num := s.reg Reg.TWN_POINTS_POINTS
    let a : State := { s with twin := { s.twin with point := some ⟨num, m, s.row, none⟩, rows := 0 } }
    exec .digestPoint s = .next (a.sendTwin (.twinDigest m num 0)).takePoint := by
  have hclosed : ¬(s.twin.point.isSome = true) := by simp [hnone]
  exact (if_neg (State.point_due hprimary hst hrest hrows)).trans (if_neg hclosed)

/-- R434. A point that is still open is counted as late once. -/
theorem exec_digestPoint_late (hopen : s.twin.point.isSome = true) (hlate : s.twin.late = false) :
    exec .digestPoint s =
      .next (State.inc { s with twin := { s.twin with late := true } } Reg.TWN_DIGEST_LATE_LATE 1) := by
  have hfirst : ¬(s.twin.late = true) := by simp [hlate]
  exact (if_neg (State.point_due hprimary hst hrest hrows)).trans ((if_pos hopen).trans (if_neg hfirst))

end

/-- R434. The count of late points is the one register that is written. -/
theorem State.countLate_shows (s : State) :
    let t := State.inc { s with twin := { s.twin with late := true } } Reg.TWN_DIGEST_LATE_LATE 1
    t.twin = { s.twin with late := true } ∧ t.reg Reg.TWN_DIGEST_LATE_LATE = (s.reg Reg.TWN_DIGEST_LATE_LATE + 1) % 2 ^ 32 ∧
      s.RegsKept (fun o => o == 0xB0020) t ∧ t.out = s.out := by
  let a : State := { s with twin := { s.twin with late := true } }
  have hcount : a.RegsKept (fun o => o == 0xB0020) (a.inc Reg.TWN_DIGEST_LATE_LATE 1) :=
    State.regsKept_inc a _ 1 (by decide) (by decide) rfl
  exact ⟨rfl, State.reg_inc_same _ _ _, hcount, rfl⟩

/-- R434. This module's digest of the open point is complete. -/
theorem exec_digestComputed_compares {s : State} {p : DigestPoint} {d : BitVec 256} (hp : s.twin.point = some p)
    (hd : p.value = some d) (hown : s.twin.own = none) :
    let a : State := { s with twin := { s.twin with own := some d } }
    exec .digestComputed s = .next ((a.sendTwin (.twinDigest p.mseq p.num d)).comparePoint none) := by
  show execDigestComputed s = _
  simp only [execDigestComputed, hp, hd, hown, ok]

/-- R433. A DIGEST frame opens its point at the mirror. -/
theorem exec_twinDigest_opens {s b : State} {o : TwinDigestOp} (hb : s.TwinArrives o.link 1 b) (hnone : b.twin.point = none)
    (hmirror : b.isMirror = true) (hst : b.twn = 1 ∨ b.twn = 2) :
    exec (.twinDigest o) s =
      .next (State.takePoint { b with twin := { b.twin with point := some ⟨o.point, o.mseq, b.row, none⟩ } }) := by
  show execTwinDigest o s = _
  rw [execTwinDigest, State.onTwin_arrives hb]
  simp only [hnone, hmirror, hst, and_self, if_true]

/-- R435. The peer's digest of the open point is compared. -/
theorem exec_twinDigest_compares {s b : State} {o : TwinDigestOp} {p : DigestPoint} (hb : s.TwinArrives o.link 1 b)
    (hp : b.twin.point = some p) (hnum : p.num = o.point) (hdigest : o.digest ≠ 0) :
    exec (.twinDigest o) s =
      .next (State.comparePoint { b with twin := { b.twin with peer := some o.digest } } o.err) := by
  show execTwinDigest o s = _
  rw [execTwinDigest, State.onTwin_arrives hb]
  simp only [hp, hnum, hdigest, ne_eq, not_true, or_self, if_false]

/-- R435. The machine after a point whose digests match, before lifelines and the synchronisation take note of it. -/
def State.pointMatched (s : State) (p : DigestPoint) : State :=
  let a : State := { s with twin := { s.twin with point := none, own := none, peer := none, late := false, errs := [] } }
  ((a.inc Reg.TWN_POINTS_POINTS 1).set Reg.TWN_LAST_MATCH_LO_ROW_LO p.row).set Reg.TWN_LAST_MATCH_HI_ROW_HI (p.row / 2 ^ 32)

theorem State.comparePoint_matches {s : State} {p : DigestPoint} {d : BitVec 256} (hp : s.twin.point = some p)
    (hown : s.twin.own = some d) (hpeer : s.twin.peer = some d) (err : Option (Nat × Nat × Nat)) :
    s.comparePoint err = ((s.pointMatched p).verifyLifelines p.mseq).nowTwinned := by
  simp only [State.comparePoint, hp, hown, hpeer, if_true]
  rfl

theorem State.verifyLifelines_nil {s : State} (h : s.twin.lifelines = []) (m : Nat) : s.verifyLifelines m = s := by
  rw [State.verifyLifelines, h, List.filter_nil, List.foldl_nil]

/-- R426. A set that is not SYNCING does not become TWINNED. -/
theorem State.nowTwinned_of_ne {s : State} (h : s.twn ≠ 1) : s.nowTwinned = s := if_pos (.inl h)

theorem State.twn_pointMatched (s : State) (p : DigestPoint) : (s.pointMatched p).twn = s.twn := by
  simp (disch := decide) only [State.pointMatched, State.twn, State.reg_set_ne, State.reg_inc_ne, State.reg_twin]

theorem State.comparePoint_shows {s : State} {p : DigestPoint} {d : BitVec 256} {err : Option (Nat × Nat × Nat)}
    (hp : s.twin.point = some p) (hown : s.twin.own = some d) (hpeer : s.twin.peer = some d) (hlife : s.twin.lifelines = [])
    (hst : s.twn ≠ 1) :
    let t := s.comparePoint err
    t.twin.point = none ∧ t.reg Reg.TWN_POINTS_POINTS = (s.reg Reg.TWN_POINTS_POINTS + 1) % 2 ^ 32 ∧
      t.reg Reg.TWN_LAST_MATCH_LO_ROW_LO = p.row % 2 ^ 32 ∧ t.reg Reg.TWN_STATE_STATE = s.twn ∧ t.tier = s.tier := by
  have hsync : (s.pointMatched p).twn ≠ 1 := by rwa [State.twn_pointMatched]
  have hmatch : s.comparePoint err = s.pointMatched p := by
    rw [State.comparePoint_matches hp hown hpeer, State.verifyLifelines_nil (s := s.pointMatched p) hlife,
      State.nowTwinned_of_ne hsync]
  rw [hmatch]
  refine ⟨rfl, ?_, ?_, s.twn_pointMatched p, rfl⟩ <;>
    simp (disch := decide) only [State.pointMatched, State.reg_set_ne, State.reg_set_same, State.reg_inc_same, State.reg_twin] <;> rfl

/-! ### Failover -/

theorem exec_twinFault_loses {s b : State} {o : TwinTagOp} (hb : s.TwinArrives o.link 0 b) (hmirror : b.isMirror = true)
    (hst : b.twn = 2) :
    exec (.twinFault o) s = .next (if (b.declareLoss true).flag Reg.TWN_STATE_AUTO_TAKEOVER then (b.declareLoss true).takeOver
      else b.declareLoss true) := by
  have hheeds : ¬(b.twn ≠ 2 ∨ (!b.isMirror) = true) := by simp [hst, hmirror]
  show execTwinFault o s = _
  rw [execTwinFault, State.onTwin_arrives hb]
  exact congrArg ok (if_neg hheeds)

theorem exec_twinDrop_fences {s b : State} {o : TwinTagOp} (hb : s.TwinArrives o.link 0 b) (hmirror : b.isMirror = true)
    (hst : b.twn = 1 ∨ b.twn = 2) : exec (.twinDrop o) s = .next b.fence := by
  show execTwinDrop o s = _
  rw [execTwinDrop, State.onTwin_arrives hb]
  exact congrArg ok (if_pos ⟨hmirror, hst⟩)

/-- R438. A mirror that declares loss forgets the staged lines, and its tiers are left alone. -/
theorem State.declareLoss_shows {s : State} (hst : s.twn = 2) (hmirror : s.isMirror = true) (hlost : s.twin.lost = false)
    (fault : Bool) : (s.declareLoss fault).twin.lost = true ∧ (s.declareLoss fault).twin.staged = [] ∧
      (s.declareLoss fault).tier = s.tier := by
  have hfirst : ¬(s.twn ≠ 2 ∨ (!s.isMirror) = true ∨ s.twin.lost = true) := by simp [hst, hmirror, hlost]
  rw [State.declareLoss, if_neg hfirst]
  extract_lets a b
  have hlogged : s.TwinKept b := (State.TwinKept.refl s).err.tinkLog
  have hnoted := (State.TwinKept.refl { b with twin := { b.twin with lost := true, staged := [] } }).note (fn := 0) (type := 0x0526)
    (payload := [])
  rw [hnoted.twin, hnoted.tier]
  exact ⟨rfl, rfl, hlogged.tier⟩

/-- R437. A dropped mirror is told so again. -/
theorem exec_twinDropRepeat_repeats {s : State} (h : s.twin.dropping = true) :
    exec .twinDropRepeat s = .next (s.sendAll s.twinLinks (.twinDrop (s.reg Reg.TWN_MSEQ_ACK_MSEQ))) :=
  congrArg ok (if_pos h)

theorem exec_twinFence_fences {s : State} (hst : s.twn = 2) (hprimary : s.isMirror = false) :
    exec .twinFence s = .next s.fence :=
  congrArg ok (if_pos ⟨hst, by simp [hprimary]⟩)

/-- R426. The machine that a fence leaves before it halts. -/
def State.fenced (s : State) : State :=
  let a := ((s.set Reg.TWN_STATE_STATE 4).twinErr Reg.TWN_ERR_FENCED).tinkLog 0x0805 noFn
    (leBytes (s.reg Reg.TWN_MSEQ_ACK_MSEQ) 4)
  { a with twin := { a.twin with waiting := [], point := none, own := none, peer := none } }

theorem State.fenced_shows (s : State) : s.fenced.reg Reg.TWN_STATE_STATE = 4 ∧ s.fenced.reg Reg.TWN_ERR_FENCED = 1 ∧
    s.fenced.reg Reg.SEQ_STATUS_STATE = s.reg Reg.SEQ_STATUS_STATE ∧ s.fenced.seq = s.seq ∧
    s.fenced.out.completions = s.out.completions := by
  have hrest : ((s.set Reg.TWN_STATE_STATE 4).twinErr Reg.TWN_ERR_FENCED).seq = s.seq ∧
      ((s.set Reg.TWN_STATE_STATE 4).twinErr Reg.TWN_ERR_FENCED).out.completions = s.out.completions := by
    unfold State.twinErr State.err
    dsimp only
    split <;> exact ⟨rfl, rfl⟩
  refine ⟨?_, ?_, ?_, hrest⟩ <;>
    simp (disch := decide) only [State.fenced, State.reg_twin, State.reg_tinkLog_of_ne, State.twinErr, State.reg_err_of_ne,
      State.reg_err_same, State.reg_set_ne, State.reg_set_same] <;> rfl

/-- R42. A halt that is asked for while a row runs waits for the row's end. -/
theorem State.askHaltRow_running {s : State} (hrun : s.reg Reg.SEQ_STATUS_STATE = 1) (hrow : s.seq.active = true) :
    s.askHaltRow = s.set Reg.SEQ_CTRL_HALT_ROW 1 := by
  have hask : s.requestHalt Reg.SEQ_CTRL_HALT_ROW = s.set Reg.SEQ_CTRL_HALT_ROW 1 := by
    simp only [State.requestHalt, hrun]
  rw [State.askHaltRow, hask]
  exact if_neg (by simp [hrow])

theorem State.fence_shows {s : State} (hrow : s.seq.active = true) (hrun : s.reg Reg.SEQ_STATUS_STATE = 1) :
    s.fence.reg Reg.TWN_STATE_STATE = 4 ∧ s.fence.reg Reg.TWN_ERR_FENCED = 1 ∧ s.fence.twin.waiting = [] ∧
      s.fence.out.completions = s.out.completions := by
  obtain ⟨hst, herr, hstatus, hseq, hout⟩ := s.fenced_shows
  have hhalt : s.fenced.askHaltRow = s.fenced.set Reg.SEQ_CTRL_HALT_ROW 1 :=
    State.askHaltRow_running (hstatus.trans hrun) (by rwa [hseq])
  have hfence : s.fence = s.fenced.askHaltRow := rfl
  rw [hfence, hhalt]
  exact ⟨(State.reg_set_ne _ _ _ _ (by decide)).trans hst, (State.reg_set_ne _ _ _ _ (by decide)).trans herr, rfl, hout⟩

/-- R437. The oldest commit has waited too long: the primary drops the mirror, goes on SOLO and writes what it held. -/
theorem exec_ackTimeout_drops {s : State} {w : Nat × HeldEntry} {rest : List (Nat × HeldEntry)} (hst : s.twn = 2)
    (hprimary : s.isMirror = false) (hwait : s.twin.waiting = w :: rest) :
    let acked := s.reg Reg.TWN_MSEQ_ACK_MSEQ
    let a := ((s.sendAll s.twinLinks (.twinDrop acked)).set Reg.TWN_STATE_STATE 3).tinkLog 0x080B noFn (leBytes w.1 4 ++ leBytes acked 4)
    let a := a.twinErr Reg.TWN_ERR_ACK_TIMEOUT
    let a : State := { a with twin := { a.twin with dropping := true, waiting := [], point := none, own := none, peer := none } }
    exec .ackTimeout s = .next ((w :: rest).foldl (fun (s : State) p =>
      s.post p.2.fn p.2.kind p.2.status p.2.sq p.2.counted p.2.body) a) := by
  show execAckTimeout s = _
  simp only [execAckTimeout, hst, hprimary, hwait, ok]

/-- R438, R439. After 2 ms of silence. -/
theorem exec_twinAutoTakeover_silent {s : State} (hst : s.twn = 2) (hmirror : s.isMirror = true) (hlost : s.twin.lost = true) :
    let a : State := { s with twin := { s.twin with silent := true } }
    exec .twinAutoTakeover s = .next (if s.flag Reg.TWN_STATE_AUTO_TAKEOVER then a.takeOver else a) := by
  have hheeds : ¬(s.twn ≠ 2 ∨ (!s.isMirror) = true ∨ (!s.twin.lost) = true) := by simp [hst, hmirror, hlost]
  exact if_neg hheeds

/-- Settles O39: each event is one branch of its command, and what a match, a loss and a fence leave is read off their writes. -/
theorem digestsAndFailoverComplete : Obligations.DigestsAndFailoverComplete := by
  refine ⟨fun _ => exec_twinAckSend_sends, fun _ _ => exec_twinHeartbeatSend_sends, ?point, fun _ _ _ => exec_digestComputed_compares,
    fun _ _ _ hb => ⟨exec_twinDigest_opens hb, fun _ => exec_twinDigest_compares hb⟩, fun _ _ _ _ => State.comparePoint_shows,
    fun _ _ _ hb hmirror => ⟨exec_twinFault_loses hb hmirror, exec_twinDrop_fences hb hmirror⟩,
    fun _ fault hst hmirror hlost => ⟨rfl, State.declareLoss_shows hst hmirror hlost fault⟩, fun _ => exec_twinDropRepeat_repeats,
    fun _ => exec_twinFence_fences, fun _ => State.fence_shows, fun _ _ _ => exec_ackTimeout_drops,
    fun _ => exec_twinAutoTakeover_silent⟩
  case point =>
    intro s hprimary hst hrest hrows
    exact ⟨exec_digestPoint_opens hprimary hst hrest hrows, fun hopen hlate =>
      ⟨_, exec_digestPoint_late hprimary hst hrest hrows hopen hlate, s.countLate_shows⟩⟩

end Sys2Proof.Machine
end

section
/-!
Lifelines (O40). A message that is taken meets its own rules only: a lifeline starts where nothing refuses it, is restored where nothing
conflicts and its copies are sound, is listed, and is dropped once captured. A lifeline that is dropped is listed no more, as the release
of its tensors and places leaves the twin set alone.
-/

namespace Sys2Proof.Machine

/-! ### Writing and capturing -/

section

variable {s : State} {h : Mail} {l : List Tensor}

/-- R442, R443, R445. Nothing refuses LIFELINE_WRITE for tensors `l`: its LABEL is new, TARGET MIRROR has its set, and the Tensor Table,
the keys, the quota and the deep tier have room for the copies and the manifest. -/
structure State.MayCapture (s : State) (fn label target : Nat) (l : List Tensor) : Prop where
  fresh : ∀ x ∈ s.twin.lifelines, ¬(x.fn = fn ∧ x.label = label)
  twinned : target = 1 → s.twn = 2
  still : ∀ x ∈ l, x.moving = false
  entries : s.tableFull fn (1 + (l.filter (fun x => target = 0 && x.homeClean.isNone)).length) = none
  key : s.deepKey fn (classOf fn) = true
  keys : target = 0 → ∀ x ∈ l, s.deepKey x.fn x.keyIndex = true
  quota : (s.quota fn).deepUsed + 64 * copyUnits target l ≤ (s.quota fn).deepLimit
  room : copyUnits target l ≤ s.tier.deepFree
  writable : s.flag Reg.FTL_STATUS_READ_ONLY = false

/-- R442. The tensors that LIFELINE_WRITE names are its sender's, each named once, and its fields are in range. -/
structure Mail.LifeAsks (h : Mail) : Prop where
  nonempty : 1 ≤ (lifeHandles h).1.length
  few : (lifeHandles h).1.length ≤ 256
  rsvd : h.u 12 4 = 0
  target : h.u ((lifeHandles h).2 + 2) 2 ≤ 1
  rsvd2 : h.u ((lifeHandles h).2 + 4) 4 = 0
  handles : ∀ i, i < (lifeHandles h).1.length → h.handleOk (16 + 8 * i) = true
  own : ∀ x ∈ (lifeHandles h).1, x ≠ Handle.none ∧ x.fn = h.fn
  once : (lifeHandles h).1.dedup.length = (lifeHandles h).1.length

/-- R442. A lifeline starts, and its message is answered later. -/
theorem exec_lifelineWrite_starts {label target : Nat} (ht : s.Taken h 0x0530 1 ((lifeHandles h).2 + 16)) (hasks : Mail.LifeAsks h)
    (htensors : s.lifeTensors (lifeHandles h).1 = .ok l) (htarget : h.u ((lifeHandles h).2 + 2) 2 = target)
    (hlabel : h.u ((lifeHandles h).2 + 8) 8 = label) (hmay : s.MayCapture h.fn label target l) :
    exec (.lifelineWrite h) s = .next
      ((s.startLifeline h.fn label target (h.u (lifeHandles h).2 2) l (some (h.ticket 0x0530))).showSpace.waiting h 0x0530) := by
  subst htarget hlabel
  have hnone : l.find? (fun x => x.moving) = none := by
    simpa [List.find?_eq_none] using hmay.still
  have hfresh : ¬(s.twin.lifelines.any (fun x => x.fn == h.fn && x.label == h.u ((lifeHandles h).2 + 8) 8) = true) := by
    simpa using hmay.fresh
  have htwinned : ¬(h.u ((lifeHandles h).2 + 2) 2 = 1 ∧ s.twn ≠ 2) := fun hm => hm.2 (hmay.twinned hm.1)
  have hkeys : ¬((!s.deepKey h.fn (classOf h.fn)) = true ∨ (h.u ((lifeHandles h).2 + 2) 2 = 0 ∧
      l.any (fun x => !s.deepKey x.fn x.keyIndex) = true)) := by
    simpa [hmay.key] using hmay.keys
  have hquota : ¬((s.quota h.fn).deepLimit < (s.quota h.fn).deepUsed + 64 * copyUnits (h.u ((lifeHandles h).2 + 2) 2) l) :=
    Nat.not_lt.mpr hmay.quota
  have hroom : ¬(s.tier.deepFree < copyUnits (h.u ((lifeHandles h).2 + 2) 2) l ∨ s.flag Reg.FTL_STATUS_READ_ONLY = true) := by
    simpa [hmay.writable] using hmay.room
  refine congrArg ok (State.mail_later ht ?_ ?_ ?_)
  · simpa [hasks.few, hasks.rsvd, hasks.target, hasks.rsvd2, hasks.once] using
      ⟨⟨hasks.nonempty, hasks.handles⟩, fun z hz => (hasks.own z hz).1⟩
  · simpa using fun x hx => (hasks.own x hx).2
  · simp only [htensors, hnone, hmay.entries, if_neg hfresh, if_neg htwinned, if_neg hkeys, if_neg hquota, if_neg hroom]

end

/-- R443 to R445. The captures of a lifeline are complete, and its message, if there is one, is answered. -/
theorem exec_lifelineCaptureDone_ends {s : State} {o : CaptureOp} {l : Lifeline} (hown : o.mirrored = none)
    (hl : s.twin.lifelines.find? (fun x => x.fn == o.fn && x.label == o.label && x.state == 0) = some l) :
    let a := s.endCapture l o.peer
    let failed := a.twin.lifelines.any (fun x => x.fn == o.fn && x.label == o.label && x.state == 3)
    exec (.lifelineCaptureDone o) s = .next (l.ticket.elim a (fun t =>
      a.reply t (if failed then .faulted else .ok) (leBytes l.manifest.toNat 8))) := by
  show execLifelineCaptureDone o s = _
  simp only [execLifelineCaptureDone, hown, hl, ok]

/-- R445. The mirror captures what its primary does. -/
theorem exec_lifelineCaptureDone_mirrors {s : State} {o : CaptureOp} {m : MirroredLife} {l : Lifeline} (hm : o.mirrored = some m)
    (hmirror : s.isMirror = true) (hfresh : ∀ x ∈ s.twin.lifelines, ¬(x.fn = o.fn ∧ x.label = o.label))
    (hl : (s.mirrorLifeline o.fn o.label m).twin.lifelines = s.twin.lifelines ++ [l]) (hfn : l.fn = o.fn)
    (hlabel : l.label = o.label) (hstate : l.state = 0) (hticket : l.ticket = none) :
    exec (.lifelineCaptureDone o) s = .next ((s.mirrorLifeline o.fn o.label m).endCapture l o.peer) := by
  have hany : s.twin.lifelines.any (fun x => x.fn == o.fn && x.label == o.label) = false := by
    simpa using hfresh
  have hold : s.twin.lifelines.find? (fun x => x.fn == o.fn && x.label == o.label && x.state == 0) = none := by
    simpa using fun x hx hxfn hxlabel => absurd ⟨hxfn, hxlabel⟩ (hfresh x hx)
  have hnew : [l].find? (fun x => x.fn == o.fn && x.label == o.label && x.state == 0) = some l := by
    simp [hfn, hlabel, hstate]
  have hfind : (s.mirrorLifeline o.fn o.label m).twin.lifelines.find?
      (fun x => x.fn == o.fn && x.label == o.label && x.state == 0) = some l := by
    rw [hl, List.find?_append, hold, hnew, Option.none_or]
  show execLifelineCaptureDone o s = _
  simp only [execLifelineCaptureDone, hm, hmirror, hany, Bool.not_false, Bool.and_self, if_true, hfind, hticket, Option.elim_none, ok]

/-! ### Restoring, listing and dropping -/

/-- R446. A lifeline that nothing bars, with its tensors in place and its copies sound, is written back. -/
theorem exec_lifelineRestore_restores {s : State} {h : Mail} {l : Lifeline} (ht : s.Taken h 0x0531 1 16)
    (hl : s.twin.lifelines.find? (fun x => x.fn == h.fn && x.label == h.u 8 8) = some l) (hfree : s.restoreConflict l = none)
    (hentries : ∀ e ∈ l.entries, s.lifeSound e = true ∧ ∃ t, s.entry (ttKey e.handle.fn e.handle.idx) = some t ∧
      t.moving = false ∧ t.size = e.size) :
    let a := l.bindings.foldl State.restoreBinding ((l.entries.foldl State.restoreEntry s).restoreStreams l)
    let a := a.mirrorCtx l.fn
    let a : State := { a with twin := { a.twin with restored := true } }
    exec (.lifelineRestore h) s = .next (a.showSpace.replied h 0x0531 []) := by
  have hpresent : ¬((l.entries.map fun e => s.entry (ttKey e.handle.fn e.handle.idx)).any (fun t => t.isNone) = true) := by
    simp only [List.any_map, List.any_eq_true, Function.comp, not_exists, not_and]
    intro e he
    obtain ⟨-, t, hte, -⟩ := hentries e he
    simp [hte]
  have hfits : (l.entries.zip (l.entries.map fun e => s.entry (ttKey e.handle.fn e.handle.idx))).find?
      (fun x => x.2.any (fun t => t.moving || t.size != x.1.size)) = none := by
    rw [← List.map_prod_left_eq_zip, List.find?_eq_none, List.forall_mem_map]
    intro e he
    obtain ⟨-, t, hte, hstill, hsize⟩ := hentries e he
    simp [hte, hstill, hsize]
  have hsound : ¬((!l.entries.all s.lifeSound) = true) := by
    simpa using fun e he => (hentries e he).1
  refine congrArg ok (State.mail_done ht rfl rfl ?_)
  simp only [hl, hfree, if_neg hpresent, hfits, if_neg hsound]

theorem exec_lifelineList_lists {s : State} {h : Mail} (ht : s.Taken h 0x0532 1 8) :
    let l := s.twin.lifelines.filter (fun x => x.fn == h.fn)
    exec (.lifelineList h) s = .next (s.replied h 0x0532 (leBytes l.length 4 ++ leBytes 0 4 ++ l.flatMap (fun x =>
      leBytes x.label 8 ++ leBytes x.state 2 ++ leBytes x.target 2 ++ leBytes 0 4))) :=
  congrArg ok (State.mail_done ht rfl rfl rfl)

/-- R446. A lifeline that no longer captures is dropped. -/
theorem exec_lifelineDrop_drops {s : State} {h : Mail} {l : Lifeline} (ht : s.Taken h 0x0533 1 16)
    (hl : s.twin.lifelines.find? (fun x => x.fn == h.fn && x.label == h.u 8 8) = some l) (hdone : l.state ≠ 0) :
    exec (.lifelineDrop h) s = .next ((s.dropLifeline l).replied h 0x0533 []) := by
  refine congrArg ok (State.mail_done ht rfl rfl ?_)
  simp only [hl, if_neg hdone]

/-- What the twin set holds besides its registers is as before. -/
def State.SetKept (s t : State) : Prop := t.twin = s.twin

namespace State.SetKept

variable {s₀ s : State}

theorem ite {c : Prop} [Decidable c] {t u : State} (ht : s₀.SetKept t) (hu : s₀.SetKept u) : s₀.SetKept (if c then t else u) := by
  split
  · exact ht
  · exact hu

theorem foldl {α : Type} (h : s₀.SetKept s) (l : List α) {k : State → α → State}
    (hk : ∀ {t} a, s₀.SetKept t → s₀.SetKept (k t a)) : s₀.SetKept (l.foldl k s) :=
  List.foldlRecOn l k h fun _ ht a _ => hk a ht

theorem setQuota (h : s₀.SetKept s) {fn : Nat} {q : Quota} : s₀.SetKept (s.setQuota fn q) := h

theorem send (h : s₀.SetKept s) {link : Nat} {f : Frame} : s₀.SetKept (s.send link f) := by
  obtain ⟨r, fab, out, k, e⟩ := s.send_rest link f
  rw [e]
  exact h

theorem mirrorEntry (h : s₀.SetKept s) {k : Nat} {t : Option Tensor} : s₀.SetKept (s.mirrorEntry k t) := by
  obtain ⟨r, fab, out, n, e⟩ := s.mirror_rest fun m => .twinTable m (k / 2 ^ 24) (k % 2 ^ 24) t
  rw [State.mirrorEntry, e]
  exact .ite h h

theorem releaseNear (h : s₀.SetKept s) {key loc units : Nat} : s₀.SetKept (s.releaseNear key loc units) := h

theorem releaseDeep (h : s₀.SetKept s) {loc units : Nat} : s₀.SetKept (s.releaseDeep loc units) := .ite h h

theorem freeBorrowed (h : s₀.SetKept s) {t : Tensor} : s₀.SetKept (s.freeBorrowed t) := by
  unfold State.freeBorrowed
  extract_lets b k
  split
  · exact h
  · extract_lets freed
    have hfreed : s₀.SetKept freed := h
    exact hfreed.foldl _ fun _ ht => ht.send

/-- R349. The release of a tensor. -/
theorem dropTensor (h : s₀.SetKept s) {t : Tensor} : s₀.SetKept (s.dropTensor t) := by
  unfold State.dropTensor
  extract_lets k q home counted told _ gone placed
  have hgone : s₀.SetKept gone := mirrorEntry (s := counted) h
  have hplaced : s₀.SetKept placed := .ite hgone.releaseNear (.ite hgone.freeBorrowed hgone)
  exact .ite hplaced.releaseDeep hplaced

end State.SetKept

/-- R443, R446. Of the twin set, dropping a lifeline changes the list of lifelines alone. -/
theorem State.dropLifeline_twin (s : State) (l : Lifeline) : (s.dropLifeline l).twin =
    { s.twin with lifelines := s.twin.lifelines.filter (fun x => !(x.fn == l.fn && x.label == l.label)) } := by
  unfold State.dropLifeline
  extract_lets _ a own b c
  have hb : a.SetKept b := .foldl rfl own fun {t} h ht => by
    cases t.entry (ttKey h.fn h.idx) with
    | none => exact ht
    | some x => exact ht.dropTensor
  have hc : a.SetKept c := hb.foldl _ fun e ht => by
    extract_lets freed
    have hfreed : a.SetKept freed := by
      unfold freed
      split
      · exact .ite ht ht.releaseDeep
      · exact ht
    split
    · exact hfreed
    · exact hfreed
  exact (State.TwinKept.refl c).showSpace.twin.trans hc

theorem State.dropLifeline_unlists (s : State) (l : Lifeline) :
    ∀ x ∈ (s.dropLifeline l).twin.lifelines, ¬(x.fn = l.fn ∧ x.label = l.label) := by
  rintro x hx ⟨hfn, hlabel⟩
  rw [State.dropLifeline_twin] at hx
  have hother := (List.mem_filter.mp hx).2
  simp [hfn, hlabel] at hother

/-- Settles O40: each message that is taken meets its own rules only, and captures end in one branch of their command. -/
theorem lifelinesComplete : Obligations.LifelinesComplete := by
  refine ⟨?write, fun _ _ _ => exec_lifelineCaptureDone_ends, fun _ _ _ _ => exec_lifelineCaptureDone_mirrors,
    fun _ _ _ => exec_lifelineRestore_restores, fun _ _ => exec_lifelineList_lists, fun _ _ _ => exec_lifelineDrop_drops,
    State.dropLifeline_unlists⟩
  case write =>
    intro s h l hs p target label q ht hsome hfew hrsvd htarget hrsvd2 hhandles hown honce htensors hfresh htwinned hstill hentries
      hkey hkeys hquota hroom hwritable
    exact exec_lifelineWrite_starts ht ⟨hsome, hfew, hrsvd, htarget, hrsvd2, hhandles, hown, honce⟩ htensors rfl rfl
      ⟨hfresh, htwinned, hstill, hentries, hkey, hkeys, hquota, hroom, hwritable⟩

end Sys2Proof.Machine
end

section
/-!
The twin messages (O37). Each message that is taken meets its own rules only; what a set that starts, ends or is taken over shows is read
off the writes of its registers, as nothing else that happens then writes them (`State.TwinKept`).
-/

namespace Sys2Proof.Machine

/-! ### Declaring, dissolving and asking -/

/-- R425. The links that TWIN_DECLARE names. -/
def declLinks (h : Mail) : List Nat := (List.range (h.u 12 4)).map (fun i => h.u (16 + 2 * i) 2)

/-- R425, R518. Where the fields after the links stand. -/
def declEnd (h : Mail) : Nat := ceilDiv (16 + 2 * h.u 12 4) 4 * 4

/-- R425. The fields of TWIN_DECLARE are in range, and its links differ. -/
structure Mail.Declares (h : Mail) : Prop where
  role : h.u 8 2 = 1 ∨ h.u 8 2 = 2
  peer : h.u 10 2 < 2048
  two : 2 ≤ h.u 12 4
  eight : h.u 12 4 ≤ 8
  links : ∀ l ∈ declLinks h, l < 16
  once : (declLinks h).dedup.length = h.u 12 4
  rowsMin : 256 ≤ h.u (declEnd h) 4
  rowsMax : h.u (declEnd h) 4 ≤ 65536
  rowsStep : h.u (declEnd h) 4 % 256 = 0
  sweepMin : 1 ≤ h.u (declEnd h + 4) 4
  sweepMax : h.u (declEnd h + 4) 4 < 65536
  auto : h.u (declEnd h + 8) 4 ≤ 1
  rsvd : h.u (16 + 2 * h.u 12 4) (declEnd h - 16 - 2 * h.u 12 4) = 0

/-- R425. Nothing bars a set on the links of TWIN_DECLARE: they are UP and free, there is no set and no role in a fabric, the peer's
message shows the same, tenants hold their keys, and the links carry what the templates mirror. -/
structure State.MayTwin (s : State) (h : Mail) (o : PeerOp) : Prop where
  links : ∀ l ∈ declLinks h, s.linkFull l = true ∧ ∀ t ∈ s.seq.templates, t.namesLink l = false
  alone : s.twn = 0
  role : s.reg Reg.LNK_FABRIC_ROLE = 0
  free : o.free = true
  came : o.came = true
  same : o.same = true
  agrees : o.agrees = true
  keyed : s.tenantsKeyed = true
  narrow : ∀ t ∈ s.seq.templates, s.tooWide t (h.u 12 4) = false

theorem exec_twinDeclare_starts {s : State} {h : Mail} {o : PeerOp} (ht : s.Taken h 0x0520 0 (declEnd h + 12)) (hfn : h.fn = 0)
    (hdecl : h.Declares) (hmay : s.MayTwin h o) :
    let a := (s.set Reg.TWN_DIGEST_CFG_INTERVAL (h.u (declEnd h) 4 / 256 - 1)).set Reg.TWN_DIGEST_CFG_SWEEP (h.u (declEnd h + 4) 4)
    exec (.twinDeclare h o) s = .next ((a.startTwin (h.u 8 2) (h.u 10 2) (((declLinks h).map (2 ^ ·)).foldl (· + ·) 0)
      (bit (h.u (declEnd h + 8) 4) 0)).replied h 0x0520 []) := by
  obtain ⟨hrole, hpeer, htwo, height, hlinks, honce, hrmin, hrmax, hrstep, hsmin, hsmax, hauto, hrsvd⟩ := hdecl
  obtain ⟨hup, halone, hfabric, hfree, hcame, hsame, hagrees, hkeyed, hnarrow⟩ := hmay
  have hmin : min (h.u 12 4) 9 = h.u 12 4 := Nat.min_eq_left (by omega)
  have hnone : (declLinks h).find? (fun l => !s.linkFull l || s.seq.templates.any (fun t => t.namesLink l)) = none := by
    simpa [List.find?_eq_none] using hup
  have hwide : s.seq.templates.any (fun t => s.tooWide t (h.u 12 4)) = false := by
    simpa using hnarrow
  have hrole' : 1 ≤ h.u 8 2 ∧ h.u 8 2 ≤ 2 := by omega
  show execTwinDeclare h o s = _
  simp only [execTwinDeclare, hmin]
  refine congrArg ok (State.mail_done ht ?_ ?_ ?_)
  · simp only [declLinks, declEnd] at *
    simp only [List.forall_mem_map, List.mem_range] at hlinks
    simpa [*] using hlinks
  · simp [hfn]
  · simp only [declLinks] at hnone
    simp only [hnone, halone, hfabric, hfree, hcame, hsame, hagrees, hkeyed, hwide]
    rfl

theorem exec_twinDissolve_dissolves {s : State} {h : Mail} (ht : s.Taken h 0x0521 0 8) (hfn : h.fn = 0) (hset : s.twn ≠ 0) :
    exec (.twinDissolve h) s = .next (s.dissolve.replied h 0x0521 []) := by
  refine congrArg ok (State.mail_done ht rfl ?_ (if_neg hset))
  simp [hfn]

/-- R426. The answer to a query begins with the set's state, its peer and the MSEQ sent. -/
theorem exec_twinQuery_answers {s : State} {h : Mail} (ht : s.Taken h 0x0522 0 8) (hfn : h.fn = 0) :
    ∃ p, exec (.twinQuery h) s = .next (s.replied h 0x0522 p) ∧
      p.take 8 = leBytes s.twn 2 ++ leBytes (s.reg Reg.TWN_STATE_PEER) 2 ++ leBytes (s.reg Reg.TWN_MSEQ_SENT_MSEQ) 4 := by
  refine ⟨_, congrArg ok (State.mail_done ht rfl ?_ rfl), ?_⟩
  · simp [hfn]
  · have hlen : (leBytes s.twn 2 ++ leBytes (s.reg Reg.TWN_STATE_PEER) 2 ++
        leBytes (s.reg Reg.TWN_MSEQ_SENT_MSEQ) 4).length = 8 := by
      simp [leBytes_length]
    simp only [List.append_assoc] at hlen ⊢
    rw [← List.append_assoc (leBytes _ 2), ← List.append_assoc, ← List.append_assoc]
    exact List.take_left' hlen

/-! ### A set starts or ends -/

/-- Setting the twin links writes registers alone. -/
theorem State.setTwinLinks_keeps (s : State) (mask : Nat) : (s.setTwinLinks mask).twin = s.twin ∧
    (s.setTwinLinks mask).tier = s.tier ∧ (s.setTwinLinks mask).serve = s.serve ∧ (s.setTwinLinks mask).data = s.data := by
  rw [State.setTwinLinks, State.set_twin, State.set_tier, State.set_serve, State.set_data]
  exact List.foldlRecOn _ _ (motive := fun (t : State) => t.twin = s.twin ∧ t.tier = s.tier ∧ t.serve = s.serve ∧ t.data = s.data)
    ⟨rfl, rfl, rfl, rfl⟩ fun _ h _ _ => h

/-- Of the set's registers, it writes TWN_LINKS.TWIN. -/
theorem State.reg_setTwinLinks_of_ne (s : State) (mask : Nat) {f : Fld} (hf : f.off / 16 = 0xB000) (hl : f.lo < 32)
    (hne : f.off * 32 + f.lo ≠ Reg.TWN_LINKS_TWIN.off * 32 + Reg.TWN_LINKS_TWIN.lo) :
    (s.setTwinLinks mask).reg f = s.reg f :=
  have hlinks : s.TwinKept ((List.range 16).foldl
      (fun (s : State) l => s.setF (linkFn l) Reg.LNK_CFG_TWIN (b2n (bit mask l))) s) :=
    (State.TwinKept.refl s).foldl _ fun _ ht => ht.setF
  (State.reg_set_ne _ _ _ _ hne).trans (hlinks.reg f hf hl)

theorem State.reg_setTwinLinks_same (s : State) (mask : Nat) :
    (s.setTwinLinks mask).reg Reg.TWN_LINKS_TWIN = mask % 2 ^ 16 :=
  State.reg_set_same _ _ _

/-- R425. The machine that has entered a new set, before the set is synchronised. -/
def State.entered (s : State) (role peer links : Nat) (auto : Bool) : State :=
  let a := (((s.set Reg.TWN_STATE_STATE 1).set Reg.TWN_STATE_ROLE role).set Reg.TWN_STATE_PEER peer).set
    Reg.TWN_STATE_AUTO_TAKEOVER (b2n auto)
  let b := ((((a.setTwinLinks links).set Reg.TWN_LINKS_LIVE 0).set Reg.TWN_MSEQ_SENT_MSEQ 0).set Reg.TWN_MSEQ_ACK_MSEQ 0)
  { b with twin := { TwinState.reset with lifelines := b.twin.lifelines } }

theorem State.entered_shows (s : State) {role peer : Nat} (links : Nat) (auto : Bool) (hrole : role < 4) (hpeer : peer < 2048) :
    let t := s.entered role peer links auto
    t.reg Reg.TWN_STATE_STATE = 1 ∧ t.reg Reg.TWN_STATE_ROLE = role ∧ t.reg Reg.TWN_STATE_PEER = peer ∧
      t.reg Reg.TWN_MSEQ_SENT_MSEQ = 0 ∧ t.twin = { TwinState.reset with lifelines := s.twin.lifelines } ∧ t.tier = s.tier := by
  intro t
  obtain ⟨htwin, htier, -, -⟩ := State.setTwinLinks_keeps ((((s.set Reg.TWN_STATE_STATE 1).set Reg.TWN_STATE_ROLE role).set
    Reg.TWN_STATE_PEER peer).set Reg.TWN_STATE_AUTO_TAKEOVER (b2n auto)) links
  refine ⟨?state, ?role, ?peer, ?sent, ?set, ?tiers⟩
  case set => simp only [t, State.entered, State.set_twin, htwin]
  case tiers => simp only [t, State.entered, State.set_tier, htier]
  all_goals
    simp (disch := decide) only [t, State.entered, State.reg_twin, State.reg_set_ne, State.reg_set_same,
      State.reg_setTwinLinks_of_ne]
  case state => rfl
  case role => exact Nat.mod_eq_of_lt hrole
  case peer => exact Nat.mod_eq_of_lt hpeer
  case sent => rfl

/-- R426. A primary without tensors and context blocks has nothing to send. -/
theorem State.sendSync_of_empty {s : State} (htt : s.tier.tt = []) (hctx : s.tier.ctx = []) : s.sendSync = s := by
  simp [State.sendSync, htt, hctx]

/-- R441. A mirror without tensors discards sequences, builds and moves, and leaves the set alone. -/
theorem State.discardMirrored_set {s : State} (htt : s.tier.tt = []) : s.discardMirrored.twin = s.twin ∧
    ∀ f : Fld, f.off / 16 = 0xB000 → f.lo < 32 → s.discardMirrored.reg f = s.reg f := by
  unfold State.discardMirrored
  extract_lets a b _ _ _ _ c base d
  have ha : s.TwinKept a := (State.TwinKept.refl s).foldl _ fun _ ht => ht.frame
  have hb : s.TwinKept b := ha.foldl _ fun _ ht => State.TwinKept.set ht
  have htt' : c.tier.tt = [] := (congrArg TierState.tt hb.tier).trans htt
  have hd : d = c := by
    simp [d, htt']
  have hshown : c.TwinKept (c.showSeqs.showSlotsBound).showSpace :=
    .showSpace (State.TwinKept.set (s := c.showSeqs) (State.TwinKept.set (State.TwinKept.refl c)))
  rw [hd]
  exact ⟨hshown.twin.trans hb.twin, fun f hf hl => (hshown.reg f hf hl).trans (hb.reg f hf hl)⟩

/-- R425, R426. A set that starts on an empty module is SYNCING in its role, with nothing sent. -/
theorem State.startTwin_shows {s : State} {role peer : Nat} (links : Nat) (auto : Bool) (hrole : role = 1 ∨ role = 2)
    (hpeer : peer < 2048) (htt : s.tier.tt = []) (hctx : s.tier.ctx = []) :
    let t := s.startTwin role peer links auto
    t.reg Reg.TWN_STATE_STATE = 1 ∧ t.reg Reg.TWN_STATE_ROLE = role ∧ t.reg Reg.TWN_STATE_PEER = peer ∧
      t.reg Reg.TWN_MSEQ_SENT_MSEQ = 0 ∧ t.twin = { TwinState.reset with lifelines := s.twin.lifelines } := by
  obtain ⟨hst, hr, hp, hm, htwin, htier⟩ := s.entered_shows links auto (show role < 4 by omega) hpeer
  have hett : (s.entered role peer links auto).tier.tt = [] := (congrArg TierState.tt htier).trans htt
  have hectx : (s.entered role peer links auto).tier.ctx = [] := (congrArg TierState.ctx htier).trans hctx
  have hstart : s.startTwin role peer links auto =
    if role = 1 then (s.entered role peer links auto).sendSync else (s.entered role peer links auto).discardMirrored := rfl
  rw [hstart]
  rcases hrole with rfl | rfl
  · rw [if_pos rfl, State.sendSync_of_empty hett hectx]
    exact ⟨hst, hr, hp, hm, htwin⟩
  · obtain ⟨hkept, hreg⟩ := State.discardMirrored_set hett
    rw [if_neg (by decide)]
    exact ⟨(hreg _ (by decide) (by decide)).trans hst, (hreg _ (by decide) (by decide)).trans hr,
      (hreg _ (by decide) (by decide)).trans hp, (hreg _ (by decide) (by decide)).trans hm, hkept.trans htwin⟩

/-- R426. A set that ends shows no state, role or links, where no entry and no message waits for it. -/
theorem State.dissolve_shows {s : State} (hwait : s.twin.waiting = []) (hresync : s.twin.resync = none) :
    s.dissolve.reg Reg.TWN_STATE_STATE = 0 ∧ s.dissolve.reg Reg.TWN_STATE_ROLE = 0 ∧ s.dissolve.reg Reg.TWN_LINKS_TWIN = 0 ∧
      s.dissolve.tier = s.tier ∧ s.dissolve.serve = s.serve ∧ s.dissolve.data = s.data := by
  unfold State.dissolve
  extract_lets held a b t _ c d
  obtain ⟨htwin, htier, hserve, hdata⟩ := a.setTwinLinks_keeps 0
  have ht : t = none := (congrArg TwinState.resync htwin).trans hresync
  have hd : d = c := by
    simp only [d, held, hwait, List.foldl_nil]
  rw [ht, Option.elim_none, hd]
  refine ⟨?_, ?_, ?_, ?tiers, ?serve, ?data⟩
  case tiers => simp only [c, b, a, State.set_tier, htier]
  case serve => simp only [c, b, a, State.set_serve, hserve]
  case data => simp only [c, b, a, State.set_data, hdata]
  all_goals
    simp (disch := decide) only [c, b, a, State.reg_twin, State.reg_set_ne, State.reg_set_same, State.reg_setTwinLinks_of_ne,
      State.reg_setTwinLinks_same, Nat.zero_mod]

/-! ### Taking over and starting again -/

theorem exec_twinTakeover_takes {s : State} {h : Mail} (ht : s.Taken h 0x0523 0 8) (hfn : h.fn = 0) (hst : s.twn = 2)
    (hmirror : s.isMirror = true) (hlost : s.twin.lost = true) (hsilent : s.twin.silent = true) :
    exec (.twinTakeover h) s = .next (s.takeOver.replied h 0x0523 []) := by
  have hmay : ¬(s.twn ≠ 2 ∨ (!s.isMirror) = true ∨ (!s.twin.lost) = true ∨ (!s.twin.silent) = true) := by
    simp [hst, hmirror, hlost, hsilent]
  refine congrArg ok (State.mail_done ht rfl ?_ (if_neg hmay))
  simp [hfn]

/-- R439. A mirror that takes over runs, and is SOLO. -/
theorem State.takeOver_shows (s : State) : s.takeOver.reg Reg.SEQ_CTRL_RUN = 1 ∧
    (s.tier.ctx = [] → s.takeOver.reg Reg.TWN_STATE_STATE = 3) := by
  refine ⟨State.reg_set_same _ _ _, fun hctx => ?_⟩
  unfold State.takeOver
  extract_lets a b rosters c n _ d e f
  have hb : b = a := by
    have hnil : a.tier.ctx = [] := hctx
    simp only [b, hnil, List.map_nil, List.foldl_nil]
  have hc : a.TwinKept c := (hb ▸ State.TwinKept.refl a : a.TwinKept b).foldl _ fun _ ht => ht.frame
  let u : State := { c with twin := { c.twin with snaps := [], point := none, own := none, peer := none } }
  have hshown : u.TwinKept d := State.TwinKept.set (State.TwinKept.refl u)
  have hover : u.TwinKept (f.set Reg.SEQ_CTRL_RUN 1) := hshown.note.err.tinkLog.set
  exact (hover.reg _ (by decide) (by decide)).trans ((hc.reg _ (by decide) (by decide)).trans (State.reg_set_same _ _ _))

/-- R441. A diverged, fenced or solo module starts again in the role that both messages give it. -/
theorem exec_twinResync_starts {s : State} {h : Mail} {o : PeerOp} (ht : s.Taken h 0x0524 0 12) (hfn : h.fn = 0)
    (hrole : h.u 8 2 = 1 ∨ h.u 8 2 = 2) (hpeer : h.u 10 2 < 2048)
    (hst : s.twn = 3 ∨ (s.twn = 4 ∧ h.u 8 2 = 2) ∨ (s.twn = 5 ∧ s.twin.restored = true)) (hcame : o.came = true)
    (hagrees : o.agrees = true) (hfree : o.free = true) (hlinks : ∀ l ∈ setBits s.twinLinks 16, s.linkFull l = true) :
    let a := s.startTwin (h.u 8 2) (h.u 10 2) s.twinLinks (s.flag Reg.TWN_STATE_AUTO_TAKEOVER)
    exec (.twinResync h o) s =
      .next (State.waiting { a with twin := { a.twin with resync := some (h.ticket 0x0524) } } h 0x0524) := by
  have hup : (setBits s.twinLinks 16).any (fun l => !s.linkFull l) = false := by
    simpa using hlinks
  have hmay : ¬(s.twn < 3 ∨ (s.twn = 4 ∧ h.u 8 2 = 1) ∨ (s.twn = 5 ∧ (!s.twin.restored) = true) ∨ (!o.came) = true ∨
      (!o.agrees) = true ∨ (!o.free) = true ∨ (setBits s.twinLinks 16).any (fun l => !s.linkFull l) = true) := by
    simp only [hcame, hagrees, hfree, hup, Bool.not_true, Bool.false_eq_true, or_false]
    rcases hst with hst | ⟨hst, hmirror⟩ | ⟨hst, hrestored⟩
    · omega
    · omega
    · simp [hst, hrestored]
  have hroles : 1 ≤ h.u 8 2 ∧ h.u 8 2 ≤ 2 := by omega
  refine congrArg ok (State.mail_later ht ?_ ?_ (if_neg hmay))
  · simp [hroles, hpeer]
  · simp [hfn]

/-- Settles O37: each message that is taken meets its own rules only, and the registers of the set show what becomes of it. -/
theorem twinMessagesComplete : Obligations.TwinMessagesComplete := by
  refine ⟨?declare, fun _ _ _ links auto => State.startTwin_shows links auto, fun _ _ => exec_twinDissolve_dissolves,
    fun _ => State.dissolve_shows, fun _ _ => exec_twinQuery_answers, fun _ _ => exec_twinTakeover_takes, State.takeOver_shows,
    fun _ _ _ => exec_twinResync_starts⟩
  case declare =>
    intro s h o role n links p rows mib ht hfn hrole hpeer htwo height hlinks honce hrmin hrmax hrstep hsmin hsmax hauto hrsvd hup
      halone hfabric hfree hcame hsame hagrees hkeyed hnarrow
    exact exec_twinDeclare_starts ht hfn
      ⟨hrole, hpeer, htwo, height, hlinks, honce, hrmin, hrmax, hrstep, hsmin, hsmax, hauto, hrsvd⟩
      ⟨hup, halone, hfabric, hfree, hcame, hsame, hagrees, hkeyed, hnarrow⟩

end Sys2Proof.Machine
end

section
/-!
The queue and three writes that the spec quotes (O51, O53, O58, O59, O60). That no command touches the queue is a part of what every
command keeps (`State.Keeps.exec`); the writes are one branch each of their command, and what a register reads after a word is
written comes from its fields standing apart.
-/

namespace Sys2Proof.Machine

/-! ### The queue -/

theorem step_pending_cons (s : State) (c : Instr) (l : List Instr) :
    step { s with pending := c :: l } = exec c { s with pending := l } := rfl

theorem step_pending_nil {s : State} (h : s.pending = []) : step s = .next s := by
  simp only [step, h]

/-- Settles O51: a step looks at the front of the queue alone. -/
theorem stepRunsTheFront : Obligations.StepRunsTheFront :=
  ⟨step_pending_cons, fun _ => step_pending_nil⟩

/-- What a command answers has the queue that the command found. -/
theorem exec_pending {c : Instr} {s t : State} (e : exec c s = .next t) : t.pending = s.pending :=
  (((State.Keeps.refl s).exec c).keeps e).queue

theorem step_pending {s t : State} (e : step s = .next t) : t.pending = s.pending.tail := by
  unfold step at e
  split at e
  next hnone =>
    obtain rfl := Host.Outcome.next.inj e
    rw [hnone, List.tail_nil]
  next c rest hfront =>
    rw [hfront, List.tail_cons]
    exact exec_pending e

/-- Settles O53: every command keeps the queue, and a step runs one on the queue's rest. -/
theorem queueFirstInFirstOut : Obligations.QueueFirstInFirstOut :=
  ⟨fun _ _ _ => exec_pending, fun _ _ => step_pending⟩

/-! ### The policy lock -/

/-- R510. An error bit changes registers and messages of the interrupt alone. -/
theorem State.err_rest (s : State) (f en : Fld) (i v : Nat) :
    s.err f en i v = { s with regs := (s.set f 1).regs, out := { s.out with msix := (s.err f en i v).out.msix } } := by
  unfold State.err
  dsimp only
  split <;> rfl

/-- An error bit writes no field but its own. -/
theorem State.getF_err_of_ne (s : State) (f en : Fld) (i v : Nat) {fn : Nat} {g : Fld} (h : regKey fn g ≠ regKey 0 f) :
    (s.err f en i v).getF fn g = s.getF fn g := by
  rw [State.err_rest]
  exact State.reg_set_getF s fn f g 1 h

theorem State.gateLocked_of_mem {s : State} {k : Nat} {p : Policy} (hp : (k, p) ∈ s.sec.keys ++ s.sec.baseKeys)
    (hreq : bit p.require 0 = true) : s.gateLocked = true :=
  List.any_eq_true.mpr ⟨(k, p), hp, hreq⟩

/-- Settles O58: the write is answered by an error bit, which changes nothing but itself and its interrupt. -/
theorem policyLockHolds : Obligations.PolicyLockHolds := by
  intro s v k p hp hreq hv
  refine ⟨_, exec_mxaCtrlWrite_locked (bit_eq_true_iff.mp hv) (State.gateLocked_of_mem hp hreq), ?_, ?_, ?_⟩
  · exact State.reg_err_same s _ _ _ _
  · exact fun fn f _ _ hne => State.getF_err_of_ne s _ _ _ _ hne
  · have hrest := s.err_rest Reg.SEC_ERR_POLICY_LOCK Reg.SEC_INT_EN_EN Reg.SEC_ERR_POLICY_LOCK.lo 8
    rw [State.secErr, hrest]

/-! ### The RNG block of the PF -/

/-- R499. The second address is kept under the block's own offsets. -/
theorem State.home_rngAlias (s : State) {k : Nat} (hk : k < 0x1000) :
    s.home 0 (0xE0000 + k) = (0, 0xE000 + k) := by
  have halias : 0xE0000 ≤ 0xE0000 + k ∧ 0xE0000 + k < 0xE1000 := by omega
  rw [State.home, if_pos halias, Nat.add_sub_cancel_left, Nat.add_comm]

theorem State.home_rngBlock (s : State) {k : Nat} (hk : k < 0x1000) : s.home 0 (0xE000 + k) = (0, 0xE000 + k) := by
  have halias : ¬(0xE0000 ≤ 0xE000 + k ∧ 0xE000 + k < 0xE1000) := by omega
  have hmirror : ¬(0x11000 ≤ 0xE000 + k ∧ 0xE000 + k < 0x11200) := by omega
  have hlink : ¬(ofLink (0xE000 + k) = true) := by
    simp only [ofLink, Bool.or_eq_true, Bool.and_eq_true, decide_eq_true_eq]
    omega
  have hdpl : ¬(ofDpl (0xE000 + k) = true) := by
    simp only [ofDpl, Bool.and_eq_true, decide_eq_true_eq]
    omega
  rw [State.home, if_neg halias, if_neg hmirror, if_neg hlink, if_neg hdpl]

theorem mapped_rngAlias {k : Nat} (hk : k < 0x1000) : mapped 0 (0xE0000 + k) = mapped 0 (0xE000 + k) := by
  have halign : (0xE0000 + k) % 4 = (0xE000 + k) % 4 := by omega
  have hwin : 0xE0000 + k < 0x200000 ∧ 0xE000 + k < 0x200000 := by omega
  simp [mapped, halign, hwin]

theorem State.readWord_rngAlias (s : State) {k : Nat} (hk : k < 0x1000) :
    s.readWord 0 (0xE0000 + k) = s.readWord 0 (0xE000 + k) := by
  simp only [State.readWord, mapped_rngAlias hk, s.home_rngAlias hk, s.home_rngBlock hk]

theorem exec_registerWrite_rngAlias (s : State) {k : Nat} (v : Nat) (hk : k < 0x1000) :
    exec (.registerWrite 0 (0xE0000 + k) v) s = exec (.registerWrite 0 (0xE000 + k) v) s := by
  have hmirror : (0x11000 ≤ 0xE0000 + k ∧ 0xE0000 + k < 0x11200) = (0x11000 ≤ 0xE000 + k ∧ 0xE000 + k < 0x11200) := by
    simp only [eq_iff_iff]
    omega
  show execRegisterWrite _ _ v s = execRegisterWrite _ _ v s
  simp only [execRegisterWrite, mapped_rngAlias hk, s.home_rngAlias hk, s.home_rngBlock hk, hmirror]

/-- Settles O59: both addresses are mapped alike and kept under the same offset. -/
theorem rngBlockAliased : Obligations.RngBlockAliased :=
  fun s _ v hk => ⟨exec_registerWrite_rngAlias s v hk, s.readWord_rngAlias hk⟩

/-! ### Stitch markers -/

/-- A write of fields leaves every field that stands apart from them. -/
theorem State.getF_writeFields_of_ne {l : List Fld} {g : Fld} (h : ∀ f ∈ l, g.off * 32 + g.lo ≠ f.off * 32 + f.lo)
    (s : State) (fn v : Nat) : (l.foldl (State.writeField fn v) s).getF fn g = s.getF fn g :=
  List.foldlRecOn l (State.writeField fn v) (motive := fun t => t.getF fn g = s.getF fn g) rfl
    fun _ ht f hf => (State.getF_writeField_ne _ _ _ f g (h f hf)).trans ht

/-- R6. After a write of fields that stand apart, a RW field reads as written. -/
theorem State.getF_writeFields_rw {l : List Fld} {g : Fld} (hl : l.Pairwise fun f g => f.off * 32 + f.lo ≠ g.off * 32 + g.lo)
    (hg : g ∈ l) (hacc : g.acc = .rw) (s : State) (fn v : Nat) :
    (l.foldl (State.writeField fn v) s).getF fn g = bits v g.lo g.width := by
  induction l generalizing s with
  | nil => simp at hg
  | cons f l ih =>
    obtain ⟨hapart, hl⟩ := List.pairwise_cons.mp hl
    rw [List.foldl_cons]
    rcases List.mem_cons.mp hg with rfl | hg
    · rw [State.getF_writeFields_of_ne hapart, State.writeField, hacc]
      exact (State.getF_setF_same _ _ _ _).trans (bits_mod_self _ _ _)
    · exact ih hl hg _

/-- R578. A marker's fields stand apart, those whose write re-arms it are RW, and its STATUS bits are one bit wide. -/
theorem fieldsAt_markRegs : ∀ off ∈ markRegs,
    ((Reg.fieldsAt off).Pairwise fun f g => f.off * 32 + f.lo ≠ g.off * 32 + g.lo) ∧
    ∀ f ∈ Reg.fieldsAt off, f.off = off ∧ f.lo < 32 ∧ (f.own = true → f.acc = .rw) ∧ (f.acc = .rw1c → f.width = 1) := by
  decide

/-- R578. The first sample beyond the threshold is a crossing: STATUS is set, and the counter advances and holds at its top. -/
theorem State.sample_crosses {s : State} {fn : Nat} {st inten count : Fld} (hnew : regKey fn st ∉ s.pwr.beyond)
    (hst : st.width = 1) (hcount : count.width = 32) (hne : count.off * 32 + count.lo ≠ st.off * 32 + st.lo) :
    let u := s.sample fn st inten count true
    u.getF fn st = 1 ∧ u.getF fn count = min (s.getF fn count + 1) 0xFFFFFFFF := by
  have hwas : ¬(s.pwr.beyond.contains (regKey fn st) = true) := by simpa using hnew
  have hone : 1 % 2 ^ st.width = 1 := by
    rw [hst]
    rfl
  have htop : min (s.getF fn count + 1) 0xFFFFFFFF % 2 ^ count.width = min (s.getF fn count + 1) 0xFFFFFFFF := by
    rw [hcount]
    omega
  simp only [State.sample, if_true, if_neg hwas]
  split <;>
    simp only [State.getF_msix, State.getF_setF_same, State.getF_setF_ne _ _ _ _ _ hne.symm, State.getF_pwr, hone, htop, and_self]

@[simp] theorem State.getF_retain (s : State) (off fn : Nat) (f : Fld) : (s.retain off).getF fn f = s.getF fn f := by
  simp only [State.getF, (s.retain_keeps off).1]

@[simp] theorem State.retain_pwr (s : State) (off : Nat) : (s.retain off).pwr = s.pwr := by
  dsimp only [State.retain]
  split <;> rfl

/-- Settles O60: the word's RW fields read as written, and the marker forgets which of its statistics were beyond the threshold. -/
theorem markerRearms : Obligations.MarkerRearms := by
  intro s off v hoff
  obtain ⟨hapart, hfields⟩ := fieldsAt_markRegs off hoff
  refine ⟨_, exec_markThreshWrite_rearms s v hoff, fun f hf hown => ?_, fun st inten count hst hacc _ hlo hwidth hne => ?_⟩
  · obtain ⟨-, -, hrw, -⟩ := hfields f hf
    rw [State.getF_retain, State.getF_pwr, State.writeWord, List.filter_true]
    exact State.getF_writeFields_rw hapart hf (hrw hown) _ _ _
  · obtain ⟨hsame, hstlo, -, hone⟩ := hfields st hst
    refine State.sample_crosses ?_ (hone hacc) hwidth (by omega)
    rw [State.retain_pwr]
    have hkey : regKey (s.home 0 off).1 st ∈
        ((Reg.fieldsAt off).filter (fun f => f.acc == .rw1c)).map (regKey (s.home 0 off).1) :=
      List.mem_map_of_mem (List.mem_filter.mpr ⟨hst, by simp [hacc]⟩)
    simp [hkey]

end Sys2Proof.Machine
end

section
/-!
Replies and pulse skipping (O14, O26). Both are read off the writes of a few registers: an entry's and a page's of one function, the
skip counters and the error bit of the power block.
-/

namespace Sys2Proof.Machine

/-! ### Completion entries -/

/-- R489. Nothing is logged while the function's log is not enabled. -/
theorem State.logPage_disabled {s : State} {fn : Nat} (h : s.getF fn Reg.SEC_DPL_CTL_EN = 0) (addr : Nat) :
    s.logPage fn addr = s :=
  if_pos (.inr (.inl h))

/-- R507. An uncounted REPLY entry of a function that logs no page. -/
theorem State.putEntry_reply {s : State} {fn : Nat} (hlog : s.getF fn Reg.SEC_DPL_CTL_EN = 0) (st : Status) (body : List Byte) :
    let tail := s.getF fn Reg.HQ_CQ_TAIL_TAIL
    let phase := s.getF fn Reg.HQ_CQ_TAIL_PHASE
    let c : Completion := ⟨fn, tail, .reply, phase, st, 0, 0, (body ++ List.replicate 56 0).take 56⟩
    s.putEntry fn .reply st 0 false body =
      ({ s with out := { s.out with completions := s.out.completions ++ [c] } }.setF fn Reg.HQ_CQ_TAIL_TAIL
        (if s.cqSize fn ≤ tail + 1 then 0 else tail + 1)).setF fn Reg.HQ_CQ_TAIL_PHASE
        (if s.cqSize fn ≤ tail + 1 then 1 - phase else phase) := by
  simp only [State.putEntry, State.logPage_disabled hlog]
  rfl

/-- R506, R507. A REPLY entry of an enabled queue whose function is neither stopped nor logged. -/
theorem State.post_reply_shows {s : State} {fn : Nat} {st : Status} {body : List Byte} (hen : s.getF fn Reg.HQ_CQ_CFG_EN = 1)
    (hstop : s.getF fn Reg.SEC_DPL_CTL_STOP = 0) (hlog : s.getF fn Reg.SEC_DPL_CTL_EN = 0) :
    let tail := s.getF fn Reg.HQ_CQ_TAIL_TAIL
    let phase := s.getF fn Reg.HQ_CQ_TAIL_PHASE
    tail < 65536 → phase < 2 →
    let t := s.post fn .reply st 0 false body
    t.out.completions = s.out.completions ++ [⟨fn, tail, .reply, phase, st, 0, 0, (body ++ List.replicate 56 0).take 56⟩] ∧
      t.getF fn Reg.HQ_CQ_TAIL_TAIL = (if s.cqSize fn ≤ tail + 1 then 0 else (tail + 1) % 65536) ∧
      t.getF fn Reg.HQ_CQ_TAIL_PHASE = (if s.cqSize fn ≤ tail + 1 then 1 - phase else phase) ∧
      t.tier = s.tier ∧ t.data = s.data ∧ t.serve = s.serve := by
  intro tail phase _ hphase t
  have hopen : ¬(s.getF fn Reg.HQ_CQ_CFG_EN = 0) := by omega
  have hgoes : ¬(s.getF fn Reg.SEC_DPL_CTL_STOP = 1) := by omega
  have ht : t = s.putEntry fn .reply st 0 false body := (if_neg hopen).trans (if_neg hgoes)
  rw [ht, State.putEntry_reply hlog]
  refine ⟨rfl, ?_, ?_, rfl, rfl, rfl⟩
  · rw [State.getF_setF_ne _ _ _ _ _ (by decide), State.getF_setF_same]
    split <;> rfl
  · have hfit : (if s.cqSize fn ≤ tail + 1 then 1 - phase else phase) < 2 := by split <;> omega
    exact (State.getF_setF_same _ _ _ _).trans (Nat.mod_eq_of_lt hfit)

/-! ### Page replies -/

/-- R511. How many answered messages the two counters count. -/
def State.countReply (s : State) (st : Status) : State :=
  if st = .ok then s.inc Reg.MBX_HANDLED_COUNT 1 else (s.inc Reg.MBX_HANDLED_COUNT 1).inc Reg.MBX_REFUSED_COUNT 1

theorem State.countReply_rest (s : State) (st : Status) : ∃ r, s.countReply st = { s with regs := r } := by
  unfold State.countReply
  split <;> exact ⟨_, rfl⟩

theorem State.countReply_counts (s : State) (st : Status) :
    (s.countReply st).reg Reg.MBX_HANDLED_COUNT = (s.reg Reg.MBX_HANDLED_COUNT + 1) % 2 ^ 32 ∧
    (s.countReply st).reg Reg.MBX_REFUSED_COUNT =
      (if st = .ok then s.reg Reg.MBX_REFUSED_COUNT else (s.reg Reg.MBX_REFUSED_COUNT + 1) % 2 ^ 32) := by
  unfold State.countReply
  split
  · exact ⟨State.reg_inc_same _ _ _, State.reg_inc_ne _ _ _ _ (by decide)⟩
  · refine ⟨(State.reg_inc_ne _ _ _ _ (by decide)).trans (State.reg_inc_same _ _ _), ?_⟩
    rw [State.reg_inc_same, State.reg_inc_ne _ _ _ _ (by decide)]
    rfl

/-- R511, R512. A reply that is final is counted, put into the page and announced. -/
theorem State.pageReply_final (s : State) (h : Mail) (type : Nat) (st : Status) (p : List Byte) :
    let a := s.countReply st
    let r : Reply := ⟨h.fn, type, h.seq, min h.minor 1, st, false, false, p⟩
    s.pageReply (h.ticket type) st false p =
      (({ a with out := { a.out with replies := a.out.replies ++ [r] } }.setF h.fn Reg.MBX_STATUS_BUSY 0).setF h.fn
        Reg.MBX_STATUS_DONE 1).msix h.fn 1 := rfl

theorem State.pageReply_shows (s : State) (h : Mail) (type : Nat) (st : Status) (p : List Byte) :
    let t := s.pageReply (h.ticket type) st false p
    t.out.replies = s.out.replies ++ [⟨h.fn, type, h.seq, min h.minor 1, st, false, false, p⟩] ∧
      t.out.msix = s.out.msix ++ [(h.fn, 1)] ∧ t.getF h.fn Reg.MBX_STATUS_BUSY = 0 ∧ t.getF h.fn Reg.MBX_STATUS_DONE = 1 ∧
      t.reg Reg.MBX_HANDLED_COUNT = (s.reg Reg.MBX_HANDLED_COUNT + 1) % 2 ^ 32 ∧
      t.reg Reg.MBX_REFUSED_COUNT = (if st = .ok then s.reg Reg.MBX_REFUSED_COUNT else (s.reg Reg.MBX_REFUSED_COUNT + 1) % 2 ^ 32) ∧
      t.data = s.data ∧ t.seq = s.seq ∧ t.tier = s.tier ∧ t.serve = s.serve ∧ t.sec = s.sec ∧ t.fab = s.fab ∧ t.twin = s.twin ∧
      t.pwr = s.pwr ∧ t.fw = s.fw ∧ t.mod = s.mod ∧ t.host = s.host ∧ t.tink = s.tink ∧ t.fresh = s.fresh ∧ t.pending = s.pending := by
  intro t
  obtain ⟨r, hr⟩ := s.countReply_rest st
  obtain ⟨hhandled, hrefused⟩ := s.countReply_counts st
  have hpage : ∀ f : Fld, f.off < 0x200000 ∧ f.lo < 32 → f.off * 32 + f.lo ≠ Reg.MBX_STATUS_BUSY.off * 32 + Reg.MBX_STATUS_BUSY.lo →
      f.off * 32 + f.lo ≠ Reg.MBX_STATUS_DONE.off * 32 + Reg.MBX_STATUS_DONE.lo → t.reg f = (s.countReply st).reg f := by
    intro f hf hbusy hdone
    exact (State.getF_setF_of_ne _ _ _ _ (by decide) hf hdone).trans (State.getF_setF_of_ne _ _ _ _ (by decide) hf hbusy)
  refine ⟨?_, ?_, ?_, State.getF_setF_same _ _ _ _, (hpage _ (by decide) (by decide) (by decide)).trans hhandled,
    (hpage _ (by decide) (by decide) (by decide)).trans hrefused, ?_⟩
  · show (s.countReply st).out.replies ++ _ = _
    rw [hr]
    rfl
  · show (s.countReply st).out.msix ++ _ = _
    rw [hr]
    rfl
  · exact (State.getF_setF_ne _ _ _ _ _ (by decide)).trans (State.getF_setF_same _ _ _ _)
  · have ht : t = _ := s.pageReply_final h type st p
    rw [ht, hr]
    exact ⟨rfl, rfl, rfl, rfl, rfl, rfl, rfl, rfl, rfl, rfl, rfl, rfl, rfl, rfl⟩

/-- Settles O14: an entry writes its queue's tail and phase, a page reply the two status bits and the two counters. -/
theorem repliesPosted : Obligations.RepliesPosted :=
  ⟨fun _ _ _ _ => State.post_reply_shows, State.pageReply_shows⟩

/-! ### Triggers of pulse skipping -/

/-- R582. A trigger counter advances by one and holds at its top. -/
theorem State.countTrigger_shows (s : State) {f : Fld} (hw : f.width = 16) :
    (s.countTrigger f).reg f = min (s.reg f + 1) 65535 := by
  have hfit : min (s.reg f + 1) 65535 < 2 ^ f.width := by
    rw [hw]
    omega
  exact (State.reg_set_same _ _ _).trans (Nat.mod_eq_of_lt hfit)

theorem State.RegsKept.countTrigger {p : Nat → Bool} {s t : State} (h : s.RegsKept p t) (f : Fld)
    (hf : f.off < 0x200000 ∧ f.lo < 32) (hp : p f.off = true) : s.RegsKept p (t.countTrigger f) :=
  h.trans (State.regsKept_set t f _ hf.1 hf.2 hp)

/-- R558. A demand of the droop or the current trigger rises, and their counter advances. -/
theorem State.droopTrigger_shows (s : State) (p : PwrState) :
    let t := State.countTrigger { s with pwr := p } Reg.PWR_SKIP_EVENTS_DROOP
    t.pwr = p ∧ t.reg Reg.PWR_SKIP_EVENTS_DROOP = min (s.reg Reg.PWR_SKIP_EVENTS_DROOP + 1) 65535 ∧
      s.RegsKept (fun o => o == 0xC0024) t ∧ s.KeepsWork t ∧ t.out = s.out := by
  have hdemand : s.RegsKept (fun o => o == 0xC0024) { s with pwr := p } := .of_regs rfl
  exact ⟨rfl, State.countTrigger_shows _ rfl, hdemand.countTrigger _ (by decide) rfl, .refl s, rfl⟩

theorem State.RegsKept.err {p : Nat → Bool} {s t : State} (h : s.RegsKept p t) (f : Fld) {en : Fld} {i v : Nat}
    (hf : f.off < 0x200000 ∧ f.lo < 32) (hp : p f.off = true) : s.RegsKept p (t.err f en i v) := by
  rw [State.err_rest]
  exact h.trans (State.regsKept_set t f 1 hf.1 hf.2 hp)

/-- R558. The limit's demand rises by one; when it begins to rise the trigger is counted and flagged. -/
theorem exec_powerLimitAverage_rises {s : State} {w : Nat} (h : s.reg Reg.PWR_LIMIT_LIMIT_W < w) :
    let a : State := { s with pwr := { s.pwr with limit := min 8 (s.pwr.limit + 1) } }
    exec (.powerLimitAverage w) s = .next (if s.pwr.limit = 0 then
      (a.countTrigger Reg.PWR_SKIP_EVENTS_LIMIT).pwrErr Reg.PWR_ERR_LIMIT_SKIP else a) := by
  refine (if_pos h).trans ?_
  simp only [beq_iff_eq, ok]

theorem exec_powerLimitAverage_shows {s : State} {w : Nat} (h : s.reg Reg.PWR_LIMIT_LIMIT_W < w) :
    ∃ t, exec (.powerLimitAverage w) s = .next t ∧ t.pwr = { s.pwr with limit := min 8 (s.pwr.limit + 1) } ∧
      (s.pwr.limit = 0 → t.reg Reg.PWR_SKIP_EVENTS_LIMIT = min (s.reg Reg.PWR_SKIP_EVENTS_LIMIT + 1) 65535 ∧
        t.reg Reg.PWR_ERR_LIMIT_SKIP = 1) ∧
      (s.pwr.limit ≠ 0 → t.regs = s.regs) ∧ s.RegsKept (fun o => o == 0xC0024 || o == 0xC004C) t ∧ s.KeepsWork t := by
  refine ⟨_, exec_powerLimitAverage_rises h, ?_⟩
  have hdemand : s.RegsKept (fun o => o == 0xC0024 || o == 0xC004C)
      { s with pwr := { s.pwr with limit := min 8 (s.pwr.limit + 1) } } := .of_regs rfl
  by_cases hbegins : s.pwr.limit = 0
  · rw [if_pos hbegins]
    refine ⟨?_, fun _ => ⟨?_, State.reg_err_same _ _ _ _ _⟩, fun hne => absurd hbegins hne, ?_, ?_⟩
    · rw [State.pwrErr, State.err_rest]
      rfl
    · exact (State.reg_err_of_ne _ _ _ _ _ (by decide)).trans (State.countTrigger_shows _ rfl)
    · exact (hdemand.countTrigger _ (by decide) rfl).err _ (by decide) rfl
    · rw [State.pwrErr, State.err_rest]
      exact .refl s
  · rw [if_neg hbegins]
    exact ⟨rfl, fun hzero => absurd hzero hbegins, fun _ => rfl, hdemand, .refl s⟩

/-- R558. The limit's demand falls once the average is 3 % below the limit. -/
theorem exec_powerLimitAverage_falls {s : State} {w : Nat} (h : w ≤ s.reg Reg.PWR_LIMIT_LIMIT_W) :
    exec (.powerLimitAverage w) s = .next (if 100 * w < 97 * s.reg Reg.PWR_LIMIT_LIMIT_W then
      { s with pwr := { s.pwr with limit := s.pwr.limit - 1 } } else s) := by
  refine (if_neg (by omega)).trans ?_
  split <;> rfl

/-! ### The sustained-skip cap -/

/-- R559. The cap is as it was set, whether that changes it or not. -/
theorem State.setSkipCap_shows (s : State) (cap : Nat) (isSet : Bool) :
    (s.setSkipCap cap isSet).pwr.skipCap = cap ∧ s.KeepsWork (s.setSkipCap cap isSet) := by
  unfold State.setSkipCap
  split
  next hsame => exact ⟨hsame.symm, .refl s⟩
  next => exact ⟨rfl, .refl s⟩

theorem State.reg_setSkipCap_of_ne (s : State) (cap : Nat) (isSet : Bool) {f : Fld} (hl : f.lo < 32)
    (hf : f.off ∉ [Reg.PWR_LEVEL_CAP.off, Reg.THM_STATUS_CAP.off, Reg.TNK_SEQ_ENTRY_SEQ.off]) :
    (s.setSkipCap cap isSet).reg f = s.reg f := by
  simp only [List.mem_cons, List.not_mem_nil, or_false, not_or] at hf
  obtain ⟨hlevel, hstatus, htink⟩ := hf
  have hentry : Reg.TNK_SEQ_ENTRY_SEQ.lo < 32 := by decide
  unfold State.setSkipCap
  split
  · rfl
  · rw [State.reg_tinkLog_of_ne _ _ _ _ (by omega), State.reg_levelChanged_of_ne _ hl hlevel hstatus, State.reg_pwr]

/-- R559. Too many pulses skipped: the cap becomes one level slower. -/
theorem exec_sustainedSkipCheck_slows {s : State} {skipped pulses : Nat}
    (h : s.reg Reg.SEQ_ROW_CFG_MARGIN * pulses < 256 * skipped) :
    ∃ t, exec (.sustainedSkipCheck skipped pulses) s = .next t ∧
      t.pwr.skipCap = min 7 ((if s.pwr.skipCap = 0 then s.reg Reg.PWR_LEVEL_IN_FORCE else s.pwr.skipCap) + 1) ∧
      t.reg Reg.PWR_ERR_SUSTAINED_SKIP = 1 ∧ s.KeepsWork t := by
  refine ⟨_, if_neg (by omega), ?_⟩
  obtain ⟨hcap, hwork⟩ := (s.pwrErr Reg.PWR_ERR_SUSTAINED_SKIP).setSkipCap_shows
    (min 7 ((if s.pwr.skipCap = 0 then s.reg Reg.PWR_LEVEL_IN_FORCE else s.pwr.skipCap) + 1)) true
  refine ⟨hcap, ?_, ?_⟩
  · exact (State.reg_setSkipCap_of_ne _ _ _ (by decide) (by decide)).trans (State.reg_err_same _ _ _ _ _)
  · rw [State.pwrErr, State.err_rest] at hwork ⊢
    exact hwork

/-- R559. Few pulses skipped: the cap lifts by one. -/
theorem exec_skipCapLift_lifts {s : State} {skipped pulses : Nat}
    (h : 512 * skipped < s.reg Reg.SEQ_ROW_CFG_MARGIN * pulses) :
    ∃ t, exec (.skipCapLift skipped pulses) s = .next t ∧ t.pwr.skipCap = s.pwr.skipCap - 1 ∧ s.KeepsWork t :=
  ⟨_, if_pos h, s.setSkipCap_shows _ _⟩

/-- Settles O26: each event writes a demand, a counter or the cap, and nothing of the work. -/
theorem pulseSkippingCompletes : Obligations.PulseSkippingCompletes :=
  ⟨fun s => ⟨_, rfl, s.droopTrigger_shows _⟩, fun s => ⟨_, rfl, s.droopTrigger_shows _⟩,
    fun _ _ => exec_powerLimitAverage_shows, fun _ _ => exec_powerLimitAverage_falls, fun _ => ⟨rfl, rfl⟩,
    fun _ _ _ => exec_sustainedSkipCheck_slows, fun _ _ _ => exec_skipCapLift_lifts, fun _ => rfl⟩

end Sys2Proof.Machine
end

section
/-!
What work on tensors, moves and links leaves alone: the states of the functions, of the module, of its power and of the Firmware Complex
(`State.ModuleKept`). One lemma for each operation, along the body of its definition; `hs.a.b` is the state after `a` and then `b`.
-/

namespace Sys2Proof.Machine

/-- The registers that show the states of a function (R527), of the module (R528), of the Firmware Complex (R553) and of power (R582). -/
def moduleRegs : List Nat := [0x4, 0x8010, 0x8040, 0x8044, 0x804C, 0x8050, 0xC0004]

/-- Those registers of every function are as before, and so is the Firmware Complex. -/
structure State.ModuleKept (s t : State) : Prop where
  getF : ∀ (fn : Nat) (f : Fld), f.off ∈ moduleRegs → f.lo < 32 → t.getF fn f = s.getF fn f
  fw : t.fw = s.fw

namespace State.ModuleKept

variable {s₀ s : State}

theorem refl (s : State) : s.ModuleKept s := ⟨fun _ _ _ _ => rfl, rfl⟩

theorem reg (h : s₀.ModuleKept s) {f : Fld} (hf : f.off ∈ moduleRegs) (hl : f.lo < 32) : s.reg f = s₀.reg f :=
  h.getF 0 f hf hl

/-- A write of another register, of whichever function. -/
theorem setF (h : s₀.ModuleKept s) {fn : Nat} {f : Fld} {v : Nat}
    (hf : f.off < 0x200000 ∧ f.lo < 32 ∧ f.off ∉ moduleRegs := by decide) : s₀.ModuleKept (s.setF fn f v) := by
  obtain ⟨hoff, hlo, hother⟩ := hf
  refine ⟨fun gn g hg hgl => ?_, h.fw⟩
  have hwin : ∀ o ∈ moduleRegs, o < 0x200000 := by decide
  have hne : g.off ≠ f.off := fun e => hother (e ▸ hg)
  rw [← h.getF gn g hg hgl]
  exact State.getF_setF_of_ne _ _ _ _ ⟨hoff, hlo⟩ ⟨hwin _ hg, hgl⟩ (by omega)

theorem set (h : s₀.ModuleKept s) {f : Fld} {v : Nat}
    (hf : f.off < 0x200000 ∧ f.lo < 32 ∧ f.off ∉ moduleRegs := by decide) : s₀.ModuleKept (s.set f v) :=
  h.setF hf

/-- An update of other parts of the machine. -/
theorem frame (h : s₀.ModuleKept s) {data : DataPath} {seq : SeqState} {tier : TierState} {serve : ServeState} {sec : SecState}
    {fab : FabState} {twin : TwinState} {pwr : PwrState} {mod : ModState} {host : HostState} {tink : TinkState} {out : Outbox}
    {fresh : Nat} {pending : List Instr} :
    s₀.ModuleKept ⟨s.regs, data, seq, tier, serve, sec, fab, twin, pwr, s.fw, mod, host, tink, out, fresh, pending⟩ :=
  ⟨h.getF, h.fw⟩

theorem ite {c : Prop} [Decidable c] {t u : State} (ht : s₀.ModuleKept t) (hu : s₀.ModuleKept u) :
    s₀.ModuleKept (if c then t else u) := by
  split
  · exact ht
  · exact hu

theorem foldl {α : Type} (h : s₀.ModuleKept s) {l : List α} {k : State → α → State}
    (hk : ∀ {t} a, s₀.ModuleKept t → s₀.ModuleKept (k t a)) : s₀.ModuleKept (l.foldl k s) :=
  List.foldlRecOn l k h fun _ ht a _ => hk a ht

theorem elim {α : Type} {o : Option α} {k : α → State} (h : s₀.ModuleKept s) (hk : ∀ a, s₀.ModuleKept (k a)) :
    s₀.ModuleKept (o.elim s k) := by
  cases o with
  | none => exact h
  | some a => exact hk a

/-! ### Interrupts, entries and the log -/

theorem err (h : s₀.ModuleKept s) {f en : Fld} {i v : Nat}
    (hf : f.off < 0x200000 ∧ f.lo < 32 ∧ f.off ∉ moduleRegs := by decide) : s₀.ModuleKept (s.err f en i v) :=
  .ite (h.set hf).frame (h.set hf)

theorem tinkLog (h : s₀.ModuleKept s) {code fn : Nat} {args : List Byte} : s₀.ModuleKept (s.tinkLog code fn args) :=
  h.frame.setF

theorem logPage (h : s₀.ModuleKept s) {fn addr : Nat} : s₀.ModuleKept (s.logPage fn addr) :=
  .ite h (.ite (State.ModuleKept.err h.setF).tinkLog h.frame.setF.setF)

theorem coalesce (h : s₀.ModuleKept s) {fn : Nat} : s₀.ModuleKept (s.coalesce fn) := .ite h.frame h.frame

theorem putEntry (h : s₀.ModuleKept s) {fn : Nat} {kind : CKind} {status : Status} {sq : Nat} {counted : Bool} {body : List Byte} :
    s₀.ModuleKept (s.putEntry fn kind status sq counted body) :=
  have hput := (h.logPage (fn := fn)).frame.setF.setF
  .ite hput.coalesce hput

theorem post (h : s₀.ModuleKept s) {fn : Nat} {kind : CKind} {status : Status} {sq : Nat} {counted : Bool} {body : List Byte} :
    s₀.ModuleKept (s.post fn kind status sq counted body) :=
  .ite h (.ite h.frame h.putEntry)

theorem sample (h : s₀.ModuleKept s) {fn : Nat} {status inten count : Fld} {isBeyond : Bool}
    (hs : status.off < 0x200000 ∧ status.lo < 32 ∧ status.off ∉ moduleRegs := by decide)
    (hc : count.off < 0x200000 ∧ count.lo < 32 ∧ count.off ∉ moduleRegs := by decide) :
    s₀.ModuleKept (s.sample fn status inten count isBeyond) :=
  have hcross := (h.frame.setF hs).setF hc
  .ite (.ite h (.ite hcross.frame hcross)) (.ite h.frame h)

theorem showSpace (h : s₀.ModuleKept s) : s₀.ModuleKept s.showSpace := by
  unfold State.showSpace
  extract_lets free near pend deep dirty active queued lent shown low thresh
  have hshown : s₀.ModuleKept shown := h.set.set.set.set.set.set.set.set.set.set
  exact .sample (.ite hshown.set hshown)

/-! ### Links and the mirror -/

theorem send (h : s₀.ModuleKept s) {link : Nat} {f : Frame} : s₀.ModuleKept (s.send link f) := by
  unfold State.send
  extract_lets d n drawn c k counted tx sent
  have hdrawn : s₀.ModuleKept drawn := .ite h.frame h
  have hcounted : s₀.ModuleKept counted := hdrawn.frame.setF
  have hsent : s₀.ModuleKept sent := hcounted.setF.setF
  exact .ite h hsent.frame

theorem sendTwin (h : s₀.ModuleKept s) {f : Frame} : s₀.ModuleKept (s.sendTwin f) := by
  unfold State.sendTwin
  split
  · exact h.send
  · exact h

theorem mirror (h : s₀.ModuleKept s) {f : Nat → Frame} : s₀.ModuleKept (s.mirror f) := .ite h.sendTwin.set h

theorem mirrorCtx (h : s₀.ModuleKept s) {fn : Nat} : s₀.ModuleKept (s.mirrorCtx fn) := by
  unfold State.mirrorCtx
  split
  · exact h
  · exact h.mirror

/-! ### Tensors -/

theorem setTensor (h : s₀.ModuleKept s) {t : Tensor} : s₀.ModuleKept (s.setTensor t) :=
  .frame (.ite h.mirror h)

theorem mapTensor (h : s₀.ModuleKept s) {k : Nat} {f : Tensor → Tensor} : s₀.ModuleKept (s.mapTensor k f) := by
  unfold State.mapTensor
  split
  · exact h.setTensor
  · exact h

theorem setQuota (h : s₀.ModuleKept s) {fn : Nat} {q : Quota} : s₀.ModuleKept (s.setQuota fn q) := h.frame

theorem releaseNear (h : s₀.ModuleKept s) {key loc units : Nat} : s₀.ModuleKept (s.releaseNear key loc units) := h.frame

theorem releaseDeep (h : s₀.ModuleKept s) {loc units : Nat} : s₀.ModuleKept (s.releaseDeep loc units) := .ite h h.frame

theorem freeBorrowed (h : s₀.ModuleKept s) {t : Tensor} : s₀.ModuleKept (s.freeBorrowed t) := by
  unfold State.freeBorrowed
  dsimp only
  split
  · exact h
  · exact h.frame.foldl fun _ ht => ht.send

/-- R349. The release of a tensor. -/
theorem dropTensor (h : s₀.ModuleKept s) {t : Tensor} : s₀.ModuleKept (s.dropTensor t) := by
  unfold State.dropTensor
  extract_lets k q home counted told _ gone placed
  have htold : s₀.ModuleKept told := .ite h.setQuota.mirror h.setQuota
  have hgone : s₀.ModuleKept gone := htold.frame
  have hplaced : s₀.ModuleKept placed := .ite hgone.releaseNear (.ite hgone.freeBorrowed hgone)
  exact .ite hplaced.releaseDeep hplaced

/-- R443, R446. The drop of a lifeline. -/
theorem dropLifeline (h : s₀.ModuleKept s) {l : Lifeline} : s₀.ModuleKept (s.dropLifeline l) := by
  unfold State.dropLifeline
  refine .showSpace (.foldl (.foldl h.frame fun _ ht => ht.elim fun _ => ht.dropTensor) fun e ht => ?_)
  extract_lets -underBinder freed
  have hfreed : s₀.ModuleKept freed := by
    unfold freed
    split
    · exact .ite ht ht.releaseDeep
    · exact ht
  split
  · exact hfreed.releaseNear.setQuota
  · exact hfreed

/-! ### Moves -/

theorem writeProgress (h : s₀.ModuleKept s) {m : Move} {state : Nat} {status : Status} :
    s₀.ModuleKept (s.writeProgress m state status) := by
  unfold State.writeProgress
  split
  · exact .ite h.frame h
  · exact h

theorem promote (h : s₀.ModuleKept s) : s₀.ModuleKept s.promote := by
  unfold State.promote
  split
  · exact h
  · split
    · exact h
    · exact h.frame

/-- R339. The end of a move. -/
theorem closeMove (h : s₀.ModuleKept s) {m : Move} {st : Status} : s₀.ModuleKept (s.closeMove m st) := by
  unfold State.closeMove
  extract_lets keys still shown tier ended told flagged
  have hended : s₀.ModuleKept ended := .frame (.writeProgress (h.foldl fun _ ht => ht.mapTensor))
  have htold : s₀.ModuleKept told := by
    unfold told
    split
    · exact .ite hended.post hended
    · exact hended
  exact .showSpace (.promote (.ite htold (State.ModuleKept.set htold).err))

theorem wroteBack (h : s₀.ModuleKept s) {m : Move} {t : Tensor} {loc : Nat} : s₀.ModuleKept (s.wroteBack m t loc) :=
  .ite (.setQuota (.setTensor (.ite h.releaseDeep h))) h.releaseDeep.setTensor.setQuota

/-- R340. The last granule of a write-back. -/
theorem finishMove_writeback (h : s₀.ModuleKept s) {m : Move} (hm : m.cause = .writeback) : s₀.ModuleKept (s.finishMove m) := by
  unfold State.finishMove
  rw [hm]
  exact .closeMove (h.foldl fun _ ht => ht.wroteBack)

theorem beginMove_writeback (h : s₀.ModuleKept s) {m : Move} (hm : m.cause = .writeback) : s₀.ModuleKept (s.beginMove m) := by
  unfold State.beginMove
  extract_lets running id keys moving written m' tier placed shown
  have hplaced : s₀.ModuleKept placed := .frame (.foldl (h.foldl fun _ ht => ht.mapTensor) fun _ ht => ht.mapTensor)
  exact .ite (hplaced.writeProgress.finishMove_writeback hm) hplaced.writeProgress.showSpace

/-- R340. The start of a write-back. -/
theorem writeBack (h : s₀.ModuleKept s) {t : Tensor} : s₀.ModuleKept (s.writeBack t) :=
  .ite h (.beginMove_writeback h.frame.setQuota rfl)

end State.ModuleKept

end Sys2Proof.Machine
end

section
/-!
Power states and levels (O25). An entry and an exit write PWR_STATE and hold a transition; what an entry to STORE writes back says nothing
of power (`State.ModuleKept.writeBack`).
-/

namespace Sys2Proof.Machine

/-! ### Messages -/

/-- R566. STORE goes on only while an entry to it waits for its image. -/
theorem State.advanceStore_of_not {s : State} (h : s.entersStore = true → s.mod.storeImage.isSome = true) :
    s.advanceStore = s := by
  refine if_pos ?_
  cases he : s.entersStore with
  | false => exact .inl rfl
  | true => exact .inr (.inl (h he))

theorem State.advanceStore_of_transition {s : State} (h : ∀ t, s.pwr.transition = some t → t.dst = 4 → t.exits = true) :
    s.advanceStore = s := by
  refine State.advanceStore_of_not fun he => ?_
  cases htr : s.pwr.transition with
  | none => simp [State.entersStore, htr] at he
  | some t =>
    simp only [State.entersStore, htr, Option.any_some, Bool.and_eq_true, beq_iff_eq, Bool.not_eq_true'] at he
    obtain ⟨hdst, hexits⟩ := he
    exact nomatch hexits.symm.trans (h t htr hdst)

theorem State.replied_pwr (s : State) (h : Mail) (type : Nat) (p : List Byte) : (s.replied h type p).pwr = s.pwr := by
  obtain ⟨-, -, -, -, -, -, -, -, -, -, -, -, -, hpwr, -⟩ := s.pageReply_shows h type .ok p
  exact hpwr

/-- R569. IDLE is answered at once by a module that is awake. -/
theorem exec_powerState_idle {s : State} {h : Mail} (ht : s.Taken h 0x0103 0 10) (hup : s.powerManagerUp = true)
    (hfn : h.fn = 0) (hawake : s.asleep = false) (hrest : s.pwr.transition = none) (hidle : h.u 8 2 = 1) :
    exec (.powerState h) s = .next (s.replied h 0x0103 (stateReply (s.reg Reg.PWR_STATE_STATE) 0)) := by
  have hstays : (s.replied h 0x0103 (stateReply (s.reg Reg.PWR_STATE_STATE) 0)).advanceStore = s.replied h 0x0103 _ :=
    State.advanceStore_of_transition fun t he => absurd ((congrArg PwrState.transition (s.replied_pwr h _ _)).symm.trans he) (by simp [hrest])
  refine (if_neg (by simp [hup])).trans ((if_neg (by simp [hidle])).trans (congrArg ok (.trans (congrArg _ ?_) hstays)))
  refine State.mail_done ht ?_ ?_ ?_
  · simp [hidle]
  · simp [hfn]
  · simp only [hidle, hawake, if_true, Bool.false_eq_true, if_false]

/-- R565, R580. The entry to another state begins, and is answered when it is done. -/
theorem exec_powerState_enters {s : State} {h : Mail} (ht : s.Taken h 0x0103 0 10) (hup : s.powerManagerUp = true)
    (hfn : h.fn = 0) (hawake : s.asleep = false) (hrest : s.pwr.transition = none) (hlo : 2 ≤ h.u 8 2) (hhi : h.u 8 2 ≤ 4)
    (hfree : s.powerConflict (h.u 8 2) = none) :
    exec (.powerState h) s = .next ((s.beginEntry (h.u 8 2) (h.ticket 0x0103)).waiting h 0x0103).advanceStore := by
  have hother : ¬(h.u 8 2 = 1) := by omega
  refine (if_neg (by simp [hup])).trans ((if_neg (by simp [hawake])).trans (congrArg ok (congrArg State.advanceStore ?_)))
  refine State.mail_later ht ?_ ?_ ?_
  · simp only [Bool.and_eq_true, decide_eq_true_eq]
    omega
  · simp [hfn]
  · simp only [if_neg hother, hrest, hfree, Option.isSome_none, Bool.false_eq_true, if_false]

/-- R564. Only the entry to STORE writes anything back. -/
theorem State.beginEntry_light (s : State) {target : Nat} (t : Ticket) (h : target ≠ 4) :
    s.beginEntry target t = State.set { s with pwr := { s.pwr with
      transition := some ⟨s.reg Reg.PWR_STATE_STATE, target, some t, false⟩ } } Reg.PWR_STATE_ENTERING 1 :=
  if_pos h

theorem State.beginEntry_shows (s : State) (target : Nat) (t : Ticket) :
    (s.beginEntry target t).reg Reg.PWR_STATE_ENTERING = 1 ∧
      (target ≠ 4 → (s.beginEntry target t).pwr.transition = some ⟨s.reg Reg.PWR_STATE_STATE, target, some t, false⟩ ∧
        s.KeepsWork (s.beginEntry target t)) := by
  have hbegun : ∀ a : State, (a.set Reg.PWR_STATE_ENTERING 1).reg Reg.PWR_STATE_ENTERING = 1 := fun _ => State.reg_set_same _ _ _
  refine ⟨?_, fun hlight => ?_⟩
  · unfold State.beginEntry
    dsimp only
    split
    · exact hbegun _
    · exact (((State.ModuleKept.refl _).frame.foldl fun _ hs => hs.writeBack).reg (by decide) (by decide)).trans (hbegun _)
  · rw [s.beginEntry_light t hlight]
    exact ⟨rfl, .refl s⟩

theorem exec_powerState_enters_light {s : State} {h : Mail} (ht : s.Taken h 0x0103 0 10) (hup : s.powerManagerUp = true)
    (hfn : h.fn = 0) (hawake : s.asleep = false) (hrest : s.pwr.transition = none) (hlo : 2 ≤ h.u 8 2) (hhi : h.u 8 2 ≤ 4)
    (hfree : s.powerConflict (h.u 8 2) = none) (hlight : h.u 8 2 ≠ 4) :
    exec (.powerState h) s = .next ((s.beginEntry (h.u 8 2) (h.ticket 0x0103)).waiting h 0x0103) := by
  obtain ⟨-, hentry⟩ := s.beginEntry_shows (h.u 8 2) (h.ticket 0x0103)
  obtain ⟨htarget, -⟩ := hentry hlight
  refine (exec_powerState_enters ht hup hfn hawake hrest hlo hhi hfree).trans (congrArg Host.Outcome.next ?_)
  refine State.advanceStore_of_transition fun t he hdst => ?_
  obtain rfl := Option.some.inj (htarget.symm.trans he)
  exact absurd hdst hlight

/-- R567, R568. A wake event of a module that sleeps and enters or leaves nothing starts the exit. -/
theorem State.wake_exits {s : State} (hst : 2 ≤ s.reg Reg.PWR_STATE_STATE) (hentering : s.flag Reg.PWR_STATE_ENTERING = false)
    (hexiting : s.flag Reg.PWR_STATE_EXITING = false) :
    s.wake = State.set { s with pwr := { s.pwr with transition := some ⟨s.reg Reg.PWR_STATE_STATE, 1, none, true⟩ } }
      Reg.PWR_STATE_EXITING 1 :=
  (if_neg (by simp [hentering])).trans (if_pos (by simp [hst, hexiting]))

/-- R569. IDLE asked of a module that sleeps wakes it, and is answered when it is awake. -/
theorem exec_powerState_wakes {s : State} {h : Mail} (ht : s.Taken h 0x0103 0 10) (hup : s.powerManagerUp = true)
    (hfn : h.fn = 0) (hidle : h.u 8 2 = 1) (hst : 2 ≤ s.reg Reg.PWR_STATE_STATE)
    (hentering : s.flag Reg.PWR_STATE_ENTERING = false) (hexiting : s.flag Reg.PWR_STATE_EXITING = false) :
    exec (.powerState h) s = .next (State.waiting { s.wake with pwr := { s.wake.pwr with
      wakeTickets := s.pwr.wakeTickets ++ [h.ticket 0x0103] } } h 0x0103) := by
  have hasleep : s.asleep = true := by simp [State.asleep, hst]
  have hwake := State.wake_exits hst hentering hexiting
  refine (if_neg (by simp [hup])).trans ((if_neg (by simp [hidle])).trans (congrArg ok (.trans (congrArg _ ?_)
    (State.advanceStore_of_transition ?_))))
  · refine State.mail_later ht ?_ ?_ ?_
    · simp [hidle]
    · simp [hfn]
    · simp only [hidle, hasleep, if_true]
  · intro t he
    rw [hwake] at he
    obtain rfl := Option.some.inj he
    exact fun _ => rfl

/-- R556, R581. Showing the caps leaves the level requested and the level in force. -/
theorem State.reg_levelChanged_level (s : State) {f : Fld} (hoff : f.off = Reg.PWR_LEVEL_CAP.off) (hlo : f.lo < 6) :
    s.levelChanged.reg f = s.reg f := by
  show State.reg s.showCaps f = s.reg f
  have hcap : Reg.PWR_LEVEL_CAP.off = 0xC0000 := rfl
  simp only [State.showCaps]
  rw [State.reg_set_ne _ Reg.THM_STATUS_CAP, State.reg_set_ne _ Reg.PWR_LEVEL_CAP, State.reg_set_ne _ Reg.PWR_LEVEL_SKIP_CAP,
    State.reg_set_ne _ Reg.PWR_LEVEL_THERMAL_CAP, State.reg_set_ne _ Reg.PWR_LEVEL_GAUGE_CAP]
  all_goals
    rw [hoff, hcap]
    simp only [Reg.THM_STATUS_CAP, Reg.PWR_LEVEL_CAP, Reg.PWR_LEVEL_SKIP_CAP, Reg.PWR_LEVEL_THERMAL_CAP, Reg.PWR_LEVEL_GAUGE_CAP]
    omega

/-- R556, R580. A level is requested; the level in force is what it was, and is answered. -/
theorem exec_perfLevel_requests {s : State} {h : Mail} (ht : s.Taken h 0x0104 0 10) (hup : s.powerManagerUp = true)
    (hfn : h.fn = 0) (hl : h.u 8 2 ≤ 7) :
    let a := (s.set Reg.PWR_LEVEL_REQUESTED (h.u 8 2)).levelChanged
    exec (.perfLevel h) s =
        .next (a.replied h 0x0104 (leBytes (s.reg Reg.PWR_LEVEL_IN_FORCE) 2 ++ leBytes a.capBits 2)) ∧
      a.reg Reg.PWR_LEVEL_REQUESTED = h.u 8 2 ∧ a.reg Reg.PWR_LEVEL_IN_FORCE = s.reg Reg.PWR_LEVEL_IN_FORCE ∧ s.KeepsWork a := by
  intro a
  have hforce : a.reg Reg.PWR_LEVEL_IN_FORCE = s.reg Reg.PWR_LEVEL_IN_FORCE :=
    (State.reg_levelChanged_level (f := Reg.PWR_LEVEL_IN_FORCE) _ rfl (by decide)).trans (State.reg_set_ne _ _ _ _ (by decide))
  have hasked : a.reg Reg.PWR_LEVEL_REQUESTED = h.u 8 2 % 8 :=
    (State.reg_levelChanged_level (f := Reg.PWR_LEVEL_REQUESTED) _ rfl (by decide)).trans (State.reg_set_same _ _ _)
  refine ⟨?_, hasked.trans (Nat.mod_eq_of_lt (by omega)), hforce, .refl s⟩
  refine (if_neg (by simp [hup])).trans (congrArg ok (State.mail_done ht ?_ ?_ ?_))
  · simpa using hl
  · simp [hfn]
  · rw [← hforce]

/-! ### Transitions -/

/-- R564, R568. With the sequencer at rest and, for STORE, the image written and nothing deferred, the state is entered. -/
theorem exec_powerStateEntryDone_enters {s : State} {us : Nat} {t : Transition} (htr : s.pwr.transition = some t)
    (hexits : t.exits = false) (hrest : s.reg Reg.SEQ_STATUS_STATE = 0 ∨ s.reg Reg.SEQ_STATUS_STATE = 2)
    (hstore : t.dst = 4 → s.mod.storeImage.isSome = true ∧ ∀ d ∈ s.sec.defers, d.store = false) :
    let a := if t.dst = 4 then s.powerDown else s
    let a := ({ a with pwr := { a.pwr with transition := none } }.set Reg.PWR_STATE_STATE t.dst).set Reg.PWR_STATE_ENTERING 0
    let a := t.ticket.elim a (fun k => a.reply k .ok (stateReply t.dst us))
    exec (.powerStateEntryDone us) s = .next (a.stateDone t.src t.dst a.pwr.wake).bounce := by
  have hstays : s.advanceStore = s := by
    refine State.advanceStore_of_not fun he => ?_
    have hdst : t.dst = 4 := by
      simp only [State.entersStore, htr, Option.any_some, Bool.and_eq_true, beq_iff_eq] at he
      exact he.1
    exact (hstore hdst).1
  have hready : ¬(t.dst = 4 ∧ (s.mod.storeImage.isNone = true ∨ s.sec.defers.any (·.store) = true)) := by
    rintro ⟨hdst, hnot⟩
    obtain ⟨himage, hfree⟩ := hstore hdst
    rcases hnot with hnone | hdefers
    · simp [Option.isNone_iff_eq_none.mp hnone] at himage
    · obtain ⟨d, hd, hds⟩ := List.any_eq_true.mp hdefers
      simp [hfree d hd] at hds
  show execPowerStateEntryDone us s = _
  simp only [execPowerStateEntryDone, htr]
  rw [if_neg (by simp [hexits, hrest]), hstays, if_neg hready]

/-- R396, R424. A link that was UP when the module left PARK retrains. -/
def State.retrain (s : State) (l : Nat) : State :=
  let f := linkFn l
  let s := s.setF f Reg.LNK_STATE_STATE 4
  (s.setF f Reg.LNK_RETRAINS_RETRAINS (s.getF f Reg.LNK_RETRAINS_RETRAINS + 1)).setLink l { s.link l with retrains := 0 }

theorem State.retrain_linkSt (s : State) (l k : Nat) : (s.retrain l).linkSt k = if k = l then 4 else s.linkSt k :=
  (State.getF_setF_of_ne _ _ _ _ (by decide) (by decide) (by decide)).trans (State.linkSt_setF_state s l k 4)

/-- Every link of a list retrains, and no other one. -/
theorem State.foldl_retrain_linkSt (l : List Nat) (s : State) (k : Nat) :
    (l.foldl State.retrain s).linkSt k = if k ∈ l then 4 else s.linkSt k := by
  induction l generalizing s with
  | nil => rfl
  | cons a l ih =>
    rw [List.foldl_cons, ih, State.retrain_linkSt]
    by_cases hka : k = a <;> simp [hka]

/-- What no retraining changes: the tiers, the data path and the PF's power state. -/
theorem State.foldl_retrain_rest (l : List Nat) (s : State) :
    (l.foldl State.retrain s).tier = s.tier ∧ (l.foldl State.retrain s).data = s.data ∧
      ∀ f : Fld, f.off = Reg.PWR_STATE_STATE.off → f.lo < 32 → (l.foldl State.retrain s).reg f = s.reg f := by
  refine List.foldlRecOn l State.retrain (motive := fun t => t.tier = s.tier ∧ t.data = s.data ∧
    ∀ f : Fld, f.off = Reg.PWR_STATE_STATE.off → f.lo < 32 → t.reg f = s.reg f) ⟨rfl, rfl, fun _ _ _ => rfl⟩ ?_
  rintro t ⟨htier, hdata, hreg⟩ a -
  refine ⟨htier, hdata, fun f hoff hlo => ?_⟩
  have hpwr : Reg.PWR_STATE_STATE.off = 0xC0004 := rfl
  have hstate : Reg.LNK_STATE_STATE.off = 0xA000C := rfl
  have hretrains : Reg.LNK_RETRAINS_RETRAINS.off = 0xA0038 := rfl
  have hl₁ : Reg.LNK_STATE_STATE.lo < 32 := by decide
  have hl₂ : Reg.LNK_RETRAINS_RETRAINS.lo < 32 := by decide
  refine ((State.getF_setF_of_ne _ _ _ _ (by decide) ⟨by omega, hlo⟩ (by omega)).trans
    (State.getF_setF_of_ne _ _ _ _ (by decide) ⟨by omega, hlo⟩ (by omega))).trans (hreg f hoff hlo)

theorem State.LinksKept.err {s₀ s : State} (h : s₀.LinksKept s) {f en : Fld} {i v : Nat}
    (hf : f.off < 0x200000 ∧ f.lo < 32 := by decide)
    (hne : Reg.LNK_STATE_STATE.off * 32 + Reg.LNK_STATE_STATE.lo ≠ f.off * 32 + f.lo := by decide) :
    s₀.LinksKept (s.err f en i v) :=
  .ite (h.setF hf hne).frame (h.setF hf hne)

theorem State.LinksKept.stateDone {s₀ s : State} (h : s₀.LinksKept s) {src dst : Nat} {bounce : Bool} :
    s₀.LinksKept (s.stateDone src dst bounce) :=
  h.err.tinkLog

/-- R582. The end of a transition is flagged and logged; the state itself is not written by it. -/
theorem State.reg_stateDone (s : State) (src dst : Nat) (bounce : Bool) {f : Fld} (hoff : f.off = Reg.PWR_STATE_STATE.off)
    (hlo : f.lo < 32) : (s.stateDone src dst bounce).reg f = s.reg f := by
  have hpwr : Reg.PWR_STATE_STATE.off = 0xC0004 := rfl
  have htink : Reg.TNK_SEQ_ENTRY_SEQ.off ≠ 0xC0004 := by decide
  have herr : Reg.PWR_ERR_STATE_DONE.off ≠ 0xC0004 := by decide
  have hl₁ : Reg.TNK_SEQ_ENTRY_SEQ.lo < 32 := by decide
  have hl₂ : Reg.PWR_ERR_STATE_DONE.lo < 32 := by decide
  rw [State.stateDone, State.reg_tinkLog_of_ne _ _ _ _ (by omega), State.pwrErr, State.reg_err_of_ne _ _ _ _ _ (by omega)]

/-- R567. The exit has ended in IDLE. -/
def State.idles (s : State) : State :=
  (({ s with pwr := { s.pwr with transition := none, wakeTickets := [] } }).set Reg.PWR_STATE_STATE 1).set Reg.PWR_STATE_EXITING 0

/-- R396, R566. What follows on the exit from state `src`. -/
def State.leaves (s : State) (src : Nat) : State :=
  if src = 3 then (((List.range 16).filter s.linkUp).foldl State.retrain s).showUp
  else if src = 4 then s.storeExit
  else s

theorem exec_powerStateExitDone_leaves {s : State} {us : Nat} {t : Transition} (htr : s.pwr.transition = some t)
    (hexits : t.exits = true) :
    exec (.powerStateExitDone us) s = .next (s.pwr.wakeTickets.foldl (fun (s : State) k => s.reply k .ok (stateReply 1 us))
      ((s.idles.leaves t.src).stateDone t.src 1 false)) := by
  show execPowerStateExitDone us s = _
  simp only [execPowerStateExitDone, htr]
  rw [if_neg (by simp [hexits])]
  rfl

/-- R396, R567. After PARK the links that were UP retrain, and the others stay as they are. -/
theorem State.leaves_park_shows (s : State) :
    let u := (s.idles.leaves 3).stateDone 3 1 false
    u.reg Reg.PWR_STATE_STATE = 1 ∧ u.reg Reg.PWR_STATE_EXITING = 0 ∧
      (∀ l, l < 16 → u.linkSt l = if s.linkUp l = true then 4 else s.linkSt l) ∧ u.tier = s.tier ∧ u.data = s.data := by
  intro u
  have hidle : s.LinksKept s.idles := (State.LinksKept.refl s).frame.setF.setF
  have hup : ∀ l, s.idles.linkUp l = s.linkUp l := fun l => congrArg (· == 3) (hidle.st l)
  obtain ⟨htier, hdata, hreg⟩ := State.foldl_retrain_rest ((List.range 16).filter s.idles.linkUp) s.idles
  have hdone : (((List.range 16).filter s.idles.linkUp).foldl State.retrain s.idles).LinksKept u :=
    (State.LinksKept.refl _).showUp.stateDone
  have hpwr : ∀ f : Fld, f.off = Reg.PWR_STATE_STATE.off → f.lo < 32 → u.reg f = s.idles.reg f := by
    intro f hoff hlo
    have hfield : Reg.PWR_STATE_STATE.off = 0xC0004 := rfl
    have hshown : Reg.LNK_UP_FULL_UP.off ≠ 0xC0004 := by decide
    have hl : Reg.LNK_UP_FULL_UP.lo < 32 := by decide
    exact (State.reg_stateDone _ _ _ _ hoff hlo).trans ((State.reg_set_ne _ _ _ _ (by omega)).trans (hreg f hoff hlo))
  refine ⟨(hpwr Reg.PWR_STATE_STATE rfl (by decide)).trans ?_, (hpwr Reg.PWR_STATE_EXITING rfl (by decide)).trans ?_,
    fun l hl => ?_, (hdone.tier.trans htier).trans hidle.tier, (hdone.data.trans hdata).trans hidle.data⟩
  · exact (State.reg_set_ne _ _ _ _ (by decide)).trans (State.reg_set_same _ _ _)
  · exact State.reg_set_same _ _ _
  · rw [hdone.st, State.foldl_retrain_linkSt, hidle.st]
    simp [hl, hup]

theorem exec_powerStateExitDone_park {s : State} {us : Nat} {t : Transition} (htr : s.pwr.transition = some t)
    (hexits : t.exits = true) (hsrc : t.src = 3) (howed : s.pwr.wakeTickets = []) :
    ∃ u, exec (.powerStateExitDone us) s = .next u ∧ u.reg Reg.PWR_STATE_STATE = 1 ∧
      u.reg Reg.PWR_STATE_EXITING = 0 ∧ (∀ l, l < 16 → s.linkUp l = true → u.linkSt l = 4) ∧
      (∀ l, l < 16 → s.linkUp l = false → u.linkSt l = s.linkSt l) ∧ u.tier = s.tier ∧ u.data = s.data := by
  refine ⟨_, exec_powerStateExitDone_leaves htr hexits, ?_⟩
  rw [howed, hsrc, List.foldl_nil]
  obtain ⟨hstate, hexiting, hst, hrest⟩ := s.leaves_park_shows
  refine ⟨hstate, hexiting, fun l hl hlu => ?_, fun l hl hlu => ?_, hrest⟩
  · rw [hst l hl, if_pos hlu]
  · rw [hst l hl, if_neg (by simp [hlu])]

theorem exec_powerStateExitDone_store {s : State} {us : Nat} {t : Transition} (htr : s.pwr.transition = some t)
    (hexits : t.exits = true) (hsrc : t.src = 4) :
    exec (.powerStateExitDone us) s = .next (s.pwr.wakeTickets.foldl (fun (s : State) k => s.reply k .ok (stateReply 1 us))
      (s.idles.storeExit.stateDone t.src 1 false)) := by
  have hpark : ¬(t.src = 3) := by omega
  rw [exec_powerStateExitDone_leaves htr hexits, State.leaves, if_neg hpark, if_pos hsrc]

theorem exec_powerStateExitDone_plain {s : State} {us : Nat} {t : Transition} (htr : s.pwr.transition = some t)
    (hexits : t.exits = true) (hpark : t.src ≠ 3) (hstore : t.src ≠ 4) :
    exec (.powerStateExitDone us) s = .next (s.pwr.wakeTickets.foldl (fun (s : State) k => s.reply k .ok (stateReply 1 us))
      (s.idles.stateDone t.src 1 false)) := by
  rw [exec_powerStateExitDone_leaves htr hexits, State.leaves, if_neg hpark, if_neg hstore]

/-- R567. A wake event that reaches as deep as the module sleeps starts the exit. -/
theorem State.wakeFrom_exits {s : State} {deepest : Nat} (hrest : s.pwr.transition = none) (hst : 2 ≤ s.reg Reg.PWR_STATE_STATE)
    (hdeep : s.reg Reg.PWR_STATE_STATE ≤ deepest) (hentering : s.flag Reg.PWR_STATE_ENTERING = false)
    (hexiting : s.flag Reg.PWR_STATE_EXITING = false) :
    (s.wakeFrom deepest).pwr.transition = some ⟨s.reg Reg.PWR_STATE_STATE, 1, none, true⟩ ∧
      (s.wakeFrom deepest).reg Reg.PWR_STATE_EXITING = 1 ∧ s.KeepsWork (s.wakeFrom deepest) := by
  have hwakes : s.wakeFrom deepest = s.wake := by
    unfold State.wakeFrom
    rw [hrest]
    exact if_pos ⟨hst, hdeep⟩
  rw [hwakes, State.wake_exits hst hentering hexiting]
  exact ⟨rfl, State.reg_set_same _ _ _, .refl s⟩

/-- Settles O25: messages by their taken form, transitions by the registers they write. -/
theorem powerCommandsComplete : Obligations.PowerCommandsComplete := by
  refine ⟨fun s h ht hup hfn hawake hrest => ⟨exec_powerState_idle ht hup hfn hawake hrest, fun hlo hhi hfree => ⟨?_, fun hstore => ?_⟩⟩,
    fun _ _ ht hup hfn hidle => exec_powerState_wakes ht hup hfn hidle, State.beginEntry_shows,
    fun _ _ ht hup hfn => exec_perfLevel_requests ht hup hfn,
    fun _ _ _ htr hexits hrest => exec_powerStateEntryDone_enters htr hexits hrest,
    fun _ _ _ htr hexits => ⟨exec_powerStateExitDone_plain htr hexits, exec_powerStateExitDone_store htr hexits,
      exec_powerStateExitDone_park htr hexits⟩,
    fun _ _ hup => congrArg ok (if_pos hup), fun _ => ⟨rfl, rfl⟩, fun _ _ hrest hst hdeep => State.wakeFrom_exits hrest hst hdeep⟩
  · exact exec_powerState_enters_light ht hup hfn hawake hrest hlo hhi hfree
  · rw [← hstore]
    exact exec_powerState_enters ht hup hfn hawake hrest hlo hhi hfree

end Sys2Proof.Machine
end

section
/-!
Firmware updates (O50). While the service runs a command answers what its function says of the session, so that each clause is one branch
of that function.
-/

namespace Sys2Proof.Machine

/-- R539. While the service does not run there is no answer. -/
theorem exec_pldm_down {s : State} {c : Instr} (h : s.telemetryUp = false) (hc : c ∈ [Instr.queryDeviceIdentifiers,
    .getFirmwareParameters, .requestUpdate, .activateFirmware, .getStatus, .cancelUpdateComponent, .cancelUpdate]) :
    exec c s = .next s := by
  have hdown : ¬(s.telemetryUp = true) := by simp [h]
  simp only [List.mem_cons, List.not_mem_nil, or_false] at hc
  rcases hc with rfl | rfl | rfl | rfl | rfl | rfl | rfl <;> exact congrArg ok (if_neg hdown)

/-! ### Without a session -/

/-- R546, R547. Without a session only REQUEST_UPDATE has an effect. -/
theorem exec_pldm_idle {s : State} (hup : s.telemetryUp = true) (hnone : s.fw.update = none) :
    exec .requestUpdate s = .next
        (((s.setUpdate ⟨[], none, 0, 0, [], []⟩ s.fw.banks).set Reg.GLB_FW_STATUS_UPDATE_OPEN 1).pldm 0 []) ∧
      exec .getStatus s = .next (s.pldm 0 (leBytes 0 6)) ∧ exec .cancelUpdate s = .next (s.pldm 0x80 []) ∧
      exec .cancelUpdateComponent s = .next (s.pldm 0x80 []) ∧ exec .activateFirmware s = .next (s.pldm 0x80 []) ∧
      (∀ l, exec (.passComponentTable l) s = .next (s.pldm 0x80 [])) ∧ (∀ c n, exec (.updateComponent c n) s = .next (s.pldm 0x80 [])) ∧
      (∀ n, exec (.requestFirmwareData n) s = .next s) ∧ ∀ g n, exec (.verifyComplete g n) s = .next s := by
  have hclosed : ¬(s.fw.update.isSome = true) := by simp [hnone]
  refine ⟨congrArg ok ((if_pos hup).trans (if_neg hclosed)), (congrArg ok (if_pos hup)).trans ?_,
    congrArg ok ((if_pos hup).trans (if_neg hclosed)), (congrArg ok (if_pos hup)).trans ?_,
    (congrArg ok (if_pos hup)).trans ?_, fun _ => (congrArg ok (if_pos hup)).trans ?_, fun _ _ => (congrArg ok (if_pos hup)).trans ?_,
    fun _ => (congrArg ok (if_pos hup)).trans ?_, fun _ _ => (congrArg ok (if_pos hup)).trans ?_⟩
  all_goals simp only [hnone]

/-! ### In a session -/

section

variable {s : State} {u : UpdateSession}

/-- R546. A table of known classes is taken while no image is being passed. -/
theorem exec_passComponentTable_takes (hup : s.telemetryUp = true) (hu : s.fw.update = some u) {classes : List Nat}
    (hidle : u.current = none) (hsome : classes ≠ []) (hknown : ∀ c ∈ classes, c < 4) :
    exec (.passComponentTable classes) s = .next ((s.setUpdate { u with table := classes.dedup } s.fw.banks).pldm 0 []) := by
  have hgood : ¬(u.current.isSome = true ∨ classes.isEmpty = true ∨ classes.any (4 ≤ ·) = true) := by
    simp [hidle, hsome]
    exact hknown
  refine (congrArg ok (if_pos hup)).trans ?_
  simp only [hu, if_neg hgood]

/-- R546, R547. The transfer of a class of the table that is not under trial begins. -/
theorem exec_updateComponent_begins (hup : s.telemetryUp = true) (hu : s.fw.update = some u) {cls size : Nat}
    (hidle : u.current = none) (hin : cls ∈ u.table) (htrial : bit (s.reg Reg.GLB_FW_BANKS_TRIAL) cls = false) :
    exec (.updateComponent cls size) s = .next (((s.setUpdate { u with
      current := some cls, size := size, received := 0, verified := u.verified.erase cls, failed := u.failed.erase cls }
      (Store.put s.fw.banks cls 1)).fwStage cls 0).pldm 0 []) := by
  have hgood : ¬(u.current.isSome = true ∨ (!u.table.contains cls) = true ∨ bit (s.reg Reg.GLB_FW_BANKS_TRIAL) cls = true) := by
    simp [hidle, hin, htrial]
  refine (congrArg ok (if_pos hup)).trans ?_
  simp only [hu, if_neg hgood]

/-- R546, R547. A block of the image that is being passed arrives. -/
theorem exec_requestFirmwareData_counts (hup : s.telemetryUp = true) (hu : s.fw.update = some u) {n : Nat}
    (hbusy : u.current ≠ none) (hn : n ≤ 4096) :
    exec (.requestFirmwareData n) s = .next (s.setUpdate { u with received := min u.size (u.received + n) } s.fw.banks) := by
  have hgood : ¬(u.current.isNone = true ∨ 4096 < n) := by
    simp [hbusy, hn]
  refine (congrArg ok (if_pos hup)).trans ?_
  simp only [hu, if_neg hgood]

/-- R548. An image that is whole, and passes the checks of boot, is verified. -/
theorem exec_verifyComplete_passes (hup : s.telemetryUp = true) (hu : s.fw.update = some u) {c svn : Nat}
    (hc : u.current = some c) (hwhole : u.size ≤ u.received) (hsvn : s.fusedSvn c ≤ svn) :
    ∃ t, exec (.verifyComplete true svn) s = .next t ∧
      t.fw.update = some { u with current := none, verified := u.verified ++ [c] } ∧ Store.get? t.fw.banks c = some 2 ∧
      Store.get? t.fw.newSvn c = some svn ∧ t.fw.activeB = s.fw.activeB ∧ s.KeepsWork t := by
  have hall : ¬(u.received < u.size) := by omega
  have hpass : (true && decide (s.fusedSvn c ≤ svn)) = true := by simp [hsvn]
  have hexec : exec (.verifyComplete true svn) s = .next ((((State.setUpdate { s with
      fresh := s.fresh + 1
      fw := { s.fw with newSvn := Store.put s.fw.newSvn c svn, images := Store.put s.fw.images (2 * c + (1 - s.activeBank c)) (s.fresh + 2) } }
      { u with current := none, verified := u.verified ++ [c] } (Store.put s.fw.banks c 2)).fwStage c 1)).pldm 0 []) := by
    refine (congrArg ok (if_pos hup)).trans ?_
    simp only [hu, hc, if_neg hall, if_pos hpass]
  exact ⟨_, hexec, rfl, Store.get?_put_same _ _ _, Store.get?_put_same _ _ _, rfl, .refl s⟩

/-- R548. An image that fails a check is marked as bad. -/
theorem exec_verifyComplete_fails (hup : s.telemetryUp = true) (hu : s.fw.update = some u) {c svn : Nat} {good : Bool}
    (hc : u.current = some c) (hwhole : u.size ≤ u.received) (hbad : good = false ∨ svn < s.fusedSvn c) :
    exec (.verifyComplete good svn) s = .next (((s.setUpdate { u with current := none, failed := u.failed ++ [c] }
      (Store.put s.fw.banks c 3)).fwStage c 2).pldm 0 []) := by
  have hall : ¬(u.received < u.size) := by omega
  have hfail : ¬((good && decide (s.fusedSvn c ≤ svn)) = true) := by
    rcases hbad with rfl | hold
    · simp
    · simp only [Bool.and_eq_true, decide_eq_true_eq]
      omega
  refine (congrArg ok (if_pos hup)).trans ?_
  simp only [hu, hc, if_neg hall, if_neg hfail]

/-- R546, R547. The bank of an image that is withdrawn is empty. -/
theorem exec_cancelUpdateComponent_withdraws (hup : s.telemetryUp = true) (hu : s.fw.update = some u) {c : Nat}
    (hc : u.current = some c) :
    exec .cancelUpdateComponent s = .next
      (((s.setUpdate { u with current := none } (Store.put s.fw.banks c 0)).fwStage c 4).pldm 0 []) := by
  refine (congrArg ok (if_pos hup)).trans ?_
  simp only [hu, hc]

end

/-! ### What becomes of the banks -/

/-- The keys of a list, each put with a value of its own. -/
theorem Store.get?_foldl_put {α : Type} {l : List Nat} {k : Nat} (f : Nat → α) (h : k ∈ l) (m : List (Nat × α)) :
    Store.get? (l.foldl (fun (b : List (Nat × α)) c => Store.put b c (f c)) m) k = some (f k) := by
  induction l using List.reverseRecOn with
  | nil => simp at h
  | append_singleton l a ih =>
    rw [List.foldl_append, List.foldl_cons, List.foldl_nil, Store.get?_put]
    by_cases hka : k = a
    · simp [hka]
    · rw [if_neg hka]
      exact ih (by simpa [hka] using h)

/-- Two states with the same work and the same firmware; a register of a bank's or a status word is as it was. -/
structure State.StageKept (s t : State) : Prop where
  work : s.KeepsWork t
  fw : t.fw = s.fw
  reg : ∀ f : Fld, f.off ≠ Reg.TNK_SEQ_ENTRY_SEQ.off → f.lo < 32 → t.reg f = s.reg f

/-- R545. Logging the stages of an update says nothing of the banks. -/
theorem State.foldl_fwStage (l : List Nat) (stage : Nat) (s : State) :
    s.StageKept (l.foldl (fun (s : State) c => s.fwStage c stage) s) := by
  refine List.foldlRecOn l _ (motive := s.StageKept) ⟨.refl s, rfl, fun _ _ _ => rfl⟩ fun t ht a _ => ⟨ht.work, ht.fw, ?_⟩
  intro f hoff hlo
  have hseq : Reg.TNK_SEQ_ENTRY_SEQ.lo < 32 := by decide
  exact (State.reg_tinkLog_of_ne _ _ _ _ (by omega)).trans (ht.reg f hoff hlo)

/-- R553. Showing the banks writes the two fields that show them. -/
theorem State.reg_showBanks_of_ne (s : State) {f : Fld}
    (hbad : f.off * 32 + f.lo ≠ Reg.GLB_FW_BANKS_OTHER_BAD.off * 32 + Reg.GLB_FW_BANKS_OTHER_BAD.lo)
    (hpend : f.off * 32 + f.lo ≠ Reg.GLB_FW_BANKS_PENDING.off * 32 + Reg.GLB_FW_BANKS_PENDING.lo) :
    s.showBanks.reg f = s.reg f :=
  (State.reg_set_ne _ _ _ _ hpend).trans (State.reg_set_ne _ _ _ _ hbad)

/-- R548. When every image of the session has passed they become pending together, and the session ends. -/
theorem exec_activateFirmware_pends {s : State} {u : UpdateSession} (hup : s.telemetryUp = true) (hu : s.fw.update = some u)
    (hidle : u.current = none) (hsome : u.table ≠ []) (hall : ∀ c ∈ u.table, c ∈ u.verified) :
    ∃ t, exec .activateFirmware s = .next t ∧ t.fw.update = none ∧ (∀ c ∈ u.table, Store.get? t.fw.banks c = some 4) ∧
      t.reg Reg.GLB_FW_STATUS_UPDATE_OPEN = 0 ∧ t.fw.activeB = s.fw.activeB ∧ s.KeepsWork t := by
  have hgood : ¬(u.current.isSome = true ∨ u.table.isEmpty = true ∨ (!u.table.all (fun c => u.verified.contains c)) = true) := by
    simp [hidle, hsome]
    exact hall
  have hexec : exec .activateFirmware s = .next (State.pldm (u.table.foldl (fun (s : State) c => s.fwStage c 3)
      (State.set { s with fw := { s.fw with
        update := none, banks := u.table.foldl (fun (b : List (Nat × Nat)) c => Store.put b c 4) s.fw.banks } }
        Reg.GLB_FW_STATUS_UPDATE_OPEN 0).showBanks) 0 []) := by
    refine (congrArg ok (if_pos hup)).trans ?_
    simp only [hu, if_neg hgood]
  refine ⟨_, hexec, ?_⟩
  obtain ⟨hwork, hfw, hreg⟩ := State.foldl_fwStage u.table 3 (State.set { s with fw := { s.fw with
    update := none, banks := u.table.foldl (fun (b : List (Nat × Nat)) c => Store.put b c 4) s.fw.banks } }
    Reg.GLB_FW_STATUS_UPDATE_OPEN 0).showBanks
  refine ⟨congrArg FwState.update hfw, fun c hc => ?_, ?_, (congrArg FwState.activeB hfw).trans rfl, hwork⟩
  · exact (congrArg (fun w => Store.get? w.banks c) hfw).trans (Store.get?_foldl_put (fun _ => 4) hc _)
  · refine (hreg Reg.GLB_FW_STATUS_UPDATE_OPEN (by decide) (by decide)).trans ?_
    rw [State.reg_showBanks_of_ne _ (by decide) (by decide), State.reg_set_same]
    rfl

/-- R549. The images under trial run from now on, and their old banks stand by. -/
theorem exec_trialConfirm_confirms {s : State} (htrial : s.reg Reg.GLB_FW_BANKS_TRIAL ≠ 0)
    (hready : s.reg Reg.GLB_STATUS_READY ≠ 0) :
    ∃ t, exec .trialConfirm s = .next t ∧
      t.fw.activeB = some ((s.fw.activeB.getD Config.activeBanks.toNat) ^^^ s.reg Reg.GLB_FW_BANKS_TRIAL) ∧
      t.reg Reg.GLB_FW_BANKS_TRIAL = 0 ∧
      (∀ k, k < 4 → bit (s.reg Reg.GLB_FW_BANKS_TRIAL) k = true → Store.get? t.fw.banks k = some 2 ∧
        Store.get? t.fw.svn k = some (s.runningSvn k)) ∧ s.KeepsWork t := by
  have hgo : ¬(s.reg Reg.GLB_FW_BANKS_TRIAL = 0 ∨ s.reg Reg.GLB_STATUS_READY = 0) := by omega
  refine ⟨_, if_neg hgo, rfl, ?_, fun k hk hbit => ?_, .refl s⟩
  · rw [State.reg_tinkLog_of_ne _ _ _ _ (by decide), State.reg_showBanks_of_ne _ (by decide) (by decide), State.reg_set_same]
    rfl
  · have hmem : k ∈ setBits (s.reg Reg.GLB_FW_BANKS_TRIAL) 4 := List.mem_filter.mpr ⟨List.mem_range.mpr hk, hbit⟩
    exact ⟨Store.get?_foldl_put (fun _ => 2) hmem _, Store.get?_foldl_put s.runningSvn hmem _⟩

/-- Settles O50: each command is one branch of what it says of the session. -/
theorem updateCommandsComplete : Obligations.UpdateCommandsComplete := by
  refine ⟨fun _ _ => exec_pldm_down, fun s hup => ⟨congrArg ok (if_pos hup), congrArg ok (if_pos hup), exec_pldm_idle hup,
    fun u hu => ⟨?_, ?_, ?_, fun _ => exec_passComponentTable_takes hup hu, fun _ _ => exec_updateComponent_begins hup hu,
      fun _ => exec_requestFirmwareData_counts hup hu, fun _ => exec_cancelUpdateComponent_withdraws hup hu,
      fun _ _ => exec_verifyComplete_passes hup hu, fun _ _ _ => exec_verifyComplete_fails hup hu,
      exec_activateFirmware_pends hup hu⟩⟩,
    fun _ htrial _ => exec_trialConfirm_confirms htrial, fun _ _ _ _ hup hn => ?_, fun _ _ _ hup hb => ?_⟩
  · have hopen : s.fw.update.isSome = true := by simp [hu]
    exact congrArg ok ((if_pos hup).trans (if_pos hopen))
  · have hopen : s.fw.update.isSome = true := by simp [hu]
    exact congrArg ok ((if_pos hup).trans (if_pos hopen))
  · refine (congrArg ok (if_pos hup)).trans ?_
    simp only [hu]
  · exact congrArg ok ((if_pos hup).trans (if_neg (by simp [hn])))
  · exact congrArg ok ((if_pos hup).trans (if_neg (by omega)))

end Sys2Proof.Machine
end

section
/-!
Traps, restarts and resets of the Firmware Complex (O48). A complex reset is taken in three parts, each with what it shows: the reset is
announced, the complex is marked as resetting, and what it held in hand is dropped.
-/

namespace Sys2Proof.Machine

/-! ### Traps -/

section

variable {s : State} {o : TrapOp}

/-- R534. A trap of a core and a component that exist, with a CAUSE that exists, is looked at while the cores run. -/
theorem trap_looked (hrun : s.coresRun = true) (hcore : o.core < 4) (hcomp : o.comp < 7) (hcause : o.cause ≤ 0x0A) :
    ¬((!s.coresRun) = true ∨ 4 ≤ o.core ∨ 7 ≤ o.comp ∨ 0x0A < o.cause) := by
  simp only [hrun, Bool.not_true, Bool.false_eq_true, false_or]
  omega

/-- R534 to R536. A trap that is no emergency keeps its context; a fault writes its record and restarts. -/
theorem exec_trapEntry_keeps (hrun : s.coresRun = true) (hcore : o.core < 4) (hcomp : o.comp < 7) (hcause : o.cause ≤ 0x0A)
    (hem : o.emergency = false) :
    let cause := if o.badStack then 1 else o.cause
    let ctx : TrapCtx := ⟨o.badStack, o.sp, o.ra, o.mepc, o.mtval, o.mcause⟩
    let flags := b2n o.badStack + 2 * b2n o.mmode
    let a : State := { s with fw := { s.fw with saved := Store.put s.fw.saved o.core ctx } }
    (cause = 0 → exec (.trapEntry o) s = .next a) ∧
    (cause ≠ 0 → o.mmode = true ∨ o.comp ≤ 1 →
      exec (.trapEntry o) s = .next ((a.faultRecord o cause flags).complexReset cause o.comp flags o.now)) ∧
    (cause ≠ 0 → o.mmode = false → 2 ≤ o.comp →
      exec (.trapEntry o) s = .next ((a.faultRecord o cause flags).failComponent o.comp o.now)) := by
  have hlook := trap_looked hrun hcore hcomp hcause
  have hcalm : ¬(o.emergency = true) := by simp [hem]
  refine ⟨fun hzero => ?_, fun hfault hwhole => ?_, fun hfault huser hcomp => ?_⟩
  · exact (if_neg hlook).trans ((if_neg hcalm).trans (if_pos hzero))
  · exact (if_neg hlook).trans ((if_neg hcalm).trans ((if_neg hfault).trans (if_pos hwhole)))
  · have hpart : ¬(o.mmode = true ∨ o.comp ≤ 1) := by
      rw [huser]
      simp only [Bool.false_eq_true, false_or]
      omega
    exact (if_neg hlook).trans ((if_neg hcalm).trans ((if_neg hfault).trans (if_neg hpart)))

/-- R536. An emergency resets the complex, and keeps nothing. -/
theorem exec_trapEntry_emergency (hrun : s.coresRun = true) (hcore : o.core < 4) (hcomp : o.comp < 7) (hcause : o.cause ≤ 0x0A)
    (hem : o.emergency = true) : exec (.trapEntry o) s = .next (s.complexReset 9 o.comp (1 + 2 * b2n o.mmode) o.now) :=
  (if_neg (trap_looked hrun hcore hcomp hcause)).trans (if_pos hem)

end

/-- R5. The number that the lowest `k` bytes of a number spell. -/
theorem leNat_leBytes (k n : Nat) : leNat (leBytes n k) = n % 2 ^ (8 * k) := by
  induction k generalizing n with
  | zero => simp [leBytes, leNat, Nat.mod_one]
  | succ k ih =>
    have hbyte : 2 ^ (8 * (k + 1)) = 2 ^ 8 * 2 ^ (8 * k) := by
      rw [← Nat.pow_add]
      congr 1
      omega
    rw [leBytes, leNat, ih, BitVec.toNat_ofNat, hbyte, Nat.mod_mul]
    rfl

/-- R5. A number leads the bytes that begin with it. -/
theorem leField_leBytes_head (n k : Nat) (l : List Byte) : leField (leBytes n k ++ l) 0 k = n % 2 ^ (8 * k) := by
  rw [← leNat_leBytes]
  exact congrArg leNat (List.take_left' (leBytes_length k n))

/-- R5. A field beyond a number is a field of what follows it. -/
theorem leField_leBytes_skip {m i : Nat} (h : m ≤ i) (n k : Nat) (l : List Byte) :
    leField (leBytes n m ++ l) i k = leField l (i - m) k := by
  simp only [leField, slice, List.drop_append, leBytes_length, List.drop_eq_nil_of_le ((leBytes_length m n).trans_le h), List.nil_append]

/-- R544. The 64 bytes of a fault record, with the row, the restarts and the entry of the log that the machine gives it. -/
def faultBytes (o : TrapOp) (cause flags row restarts seq : Nat) : List Byte :=
  leBytes row 6 ++ leBytes 0 2 ++ leBytes o.core 1 ++ leBytes o.comp 1 ++ leBytes cause 1 ++ leBytes flags 1 ++
    leBytes restarts 4 ++ leBytes o.mepc 8 ++ leBytes o.mtval 8 ++ leBytes o.sp 8 ++ leBytes o.ra 8 ++
    leBytes o.mcause 8 ++ leBytes seq 4 ++ leBytes 0 4

theorem faultBytes_fields (o : TrapOp) (cause flags row restarts seq : Nat) :
    let l := faultBytes o cause flags row restarts seq
    l.length = 64 ∧ leField l 8 1 = o.core % 256 ∧ leField l 9 1 = o.comp % 256 ∧ leField l 10 1 = cause % 256 ∧
      leField l 11 1 = flags % 256 ∧ leField l 16 8 = o.mepc % 2 ^ 64 ∧ leField l 24 8 = o.mtval % 2 ^ 64 ∧
      leField l 32 8 = o.sp % 2 ^ 64 ∧ leField l 40 8 = o.ra % 2 ^ 64 ∧ leField l 48 8 = o.mcause % 2 ^ 64 := by
  refine ⟨?_, ?_, ?_, ?_, ?_, ?_, ?_, ?_, ?_, ?_⟩
  · simp only [faultBytes, List.length_append, leBytes_length]
  all_goals
    simp only [faultBytes, List.append_assoc, leField_leBytes_skip, leField_leBytes_head, Nat.reduceLeDiff, Nat.reduceSub, Nat.reduceMul,
      Nat.reducePow]

theorem State.faultRecord_shows (s : State) (o : TrapOp) (cause flags : Nat) : ∃ l : List Byte,
    let t := s.faultRecord o cause flags
    l.length = 64 ∧ Store.get? t.fw.ring (s.fw.nextFault % 64) = some l ∧ leField l 8 1 = o.core % 256 ∧ leField l 9 1 = o.comp % 256 ∧
    leField l 10 1 = cause % 256 ∧ leField l 11 1 = flags % 256 ∧ leField l 16 8 = o.mepc % 2 ^ 64 ∧ leField l 24 8 = o.mtval % 2 ^ 64 ∧
    leField l 32 8 = o.sp % 2 ^ 64 ∧ leField l 40 8 = o.ra % 2 ^ 64 ∧ leField l 48 8 = o.mcause % 2 ^ 64 ∧
    t.fw.nextFault = s.fw.nextFault % 64 + 1 ∧ t.reg Reg.GLB_FW_FAULT_NEWEST_INDEX = s.fw.nextFault % 64 ∧ s.KeepsWork t := by
  obtain ⟨row, restarts, seq, r, tink, k, hrec⟩ : ∃ row restarts seq r tink k, s.faultRecord o cause flags =
      State.set { s with
        regs := r, tink := tink, fresh := k
        fw := { s.fw with
          ring := Store.put s.fw.ring (s.fw.nextFault % 64) (faultBytes o cause flags row restarts seq)
          nextFault := s.fw.nextFault % 64 + 1 } } Reg.GLB_FW_FAULT_NEWEST_INDEX (s.fw.nextFault % 64) := by
    unfold State.faultRecord
    dsimp only
    split <;> exact ⟨_, _, _, _, _, _, rfl⟩
  obtain ⟨hlen, hcore, hcomp, hcause, hflags, hmepc, hmtval, hsp, hra, hmcause⟩ := faultBytes_fields o cause flags row restarts seq
  have hindex : s.fw.nextFault % 64 % 2 ^ Reg.GLB_FW_FAULT_NEWEST_INDEX.width = s.fw.nextFault % 64 :=
    Nat.mod_eq_of_lt (Nat.mod_lt _ (by decide))
  refine ⟨_, hlen, ?_, hcore, hcomp, hcause, hflags, hmepc, hmtval, hsp, hra, hmcause, ?_, ?_, ?_⟩
  · rw [hrec]
    exact Store.get?_put_same _ _ _
  · rw [hrec]
    rfl
  · rw [hrec, State.reg_set_same, hindex]
  · rw [hrec]
    exact .refl s

/-! ### Components -/

/-- R537, R538. A component with few restarts behind it is marked as failed. -/
theorem State.failComponent_marks {s : State} {comp now : Nat} (hcomp : comp < 7) (hfew : s.recentRestarts comp now < 3) :
    let t := s.failComponent comp now
    (t.reg Reg.GLB_FW_STATUS_FAILED).testBit comp = true ∧ t.reg Reg.GLB_FW_STATUS_COMPLEX_UP = 0 ∧
      Store.get? t.fw.missed comp = none ∧ t.recentRestarts comp now = s.recentRestarts comp now + 1 ∧ s.KeepsWork t := by
  intro t
  have ht : t = _ := if_neg (by omega)
  rw [ht]
  refine ⟨?_, ?_, Store.get?_erase_same _ _, ?_, .refl s⟩
  · rw [State.reg_set_ne _ _ _ _ (by decide), State.reg_set_same]
    have hwidth : Reg.GLB_FW_STATUS_FAILED.width = 7 := rfl
    rw [hwidth, Nat.testBit_mod_two_pow]
    simp [hcomp]
  · rw [State.reg_set_same]
    rfl
  · simp [State.recentRestarts, List.filter_filter]

/-- R537. When every component answers, none has missed a heartbeat. -/
theorem exec_supervisorHeartbeat_all {s : State} {answered : List Nat} {now : Nat} (hrun : s.coresRun = true)
    (hgoes : bit (s.reg Reg.GLB_FW_STATUS_HALTED) 0 = false) (hall : ∀ c ∈ [2, 3, 4, 5, 6], c ∈ answered) :
    exec (.supervisorHeartbeat answered now) s =
      .next { s with fw := { s.fw with missed := s.fw.missed.filter (fun m => !answered.contains m.1) } } := by
  refine (if_neg (by simp [hrun, hgoes])).trans ?_
  have hnone : ∀ p : Nat → Bool, (([2, 3, 4, 5, 6] : List Nat).filter p).filter (fun c => !answered.contains c) = [] := by
    intro p
    refine List.filter_eq_nil_iff.mpr fun c hc => ?_
    simpa using hall c (List.mem_filter.mp hc).1
  rw [hnone]
  rfl

/-- R537. Of the components that are checked only `c` did not answer. -/
theorem filter_silent {s : State} {c : Nat} (hhalted : s.reg Reg.GLB_FW_STATUS_HALTED = 0)
    (hfailed : s.reg Reg.GLB_FW_STATUS_FAILED = 0) (hc : c ∈ [2, 3, 4, 5, 6]) :
    (([2, 3, 4, 5, 6] : List Nat).filter (fun c => coresOf c &&& s.reg Reg.GLB_FW_STATUS_HALTED == 0 &&
      !bit (s.reg Reg.GLB_FW_STATUS_FAILED) c)).filter (fun a => !(([2, 3, 4, 5, 6] : List Nat).erase c).contains a) = [c] := by
  rw [hhalted, hfailed]
  revert c
  decide

theorem exec_supervisorHeartbeat_misses {s : State} {c now : Nat} (hrun : s.coresRun = true)
    (hhalted : s.reg Reg.GLB_FW_STATUS_HALTED = 0) (hfailed : s.reg Reg.GLB_FW_STATUS_FAILED = 0) (hc : c ∈ [2, 3, 4, 5, 6]) :
    let others := ([2, 3, 4, 5, 6] : List Nat).erase c
    let missed := s.fw.missed.filter (fun m => !others.contains m.1)
    Store.getD missed c 0 < 2 → exec (.supervisorHeartbeat others now) s =
      .next { s with fw := { s.fw with missed := Store.put missed c (Store.getD missed c 0 + 1) } } := by
  intro others missed hfew
  have hgoes : bit (s.reg Reg.GLB_FW_STATUS_HALTED) 0 = false := by
    rw [hhalted]
    rfl
  have hsilent := filter_silent hhalted hfailed hc
  have hstill : ¬((!State.coresRun { s with fw := { s.fw with missed := missed } }) = true) := by
    rw [Bool.not_eq_true, Bool.not_eq_false']
    exact hrun
  refine (if_neg (by simp [hrun, hgoes])).trans ?_
  rw [hsilent, List.foldl_cons, List.foldl_nil]
  exact congrArg ok ((if_neg hstill).trans (if_pos (by show Store.getD missed c 0 + 1 < 3; omega)))

/-- A bit that is cleared is clear, and the others are as they were. -/
theorem testBit_clearBit (n i k : Nat) : (clearBit n i).testBit k = (decide (k ≠ i) && n.testBit k) := by
  unfold clearBit
  rw [bit_eq_testBit]
  split
  next hset =>
    obtain ⟨m, rfl⟩ := Nat.exists_eq_add_of_le (Nat.ge_two_pow_of_testBit hset)
    have hclear : m.testBit i = false := by simpa [Nat.testBit_two_pow_add_eq] using hset
    rw [Nat.add_sub_cancel_left]
    rcases Nat.lt_trichotomy k i with hlt | rfl | hgt
    · simp [Nat.testBit_two_pow_add_gt hlt, Nat.ne_of_lt hlt]
    · simp [hclear]
    · obtain ⟨d, rfl⟩ := Nat.exists_eq_add_of_lt hgt
      have heven : m / 2 ^ i % 2 = 0 := by
        rw [Nat.testBit_eq_decide_div_mod_eq, decide_eq_false_iff_not] at hclear
        omega
      have hhigh : (2 ^ i + m) / 2 ^ (i + 1) = m / 2 ^ (i + 1) := by
        rw [Nat.pow_succ, ← Nat.div_div_eq_div_mul, ← Nat.div_div_eq_div_mul, Nat.add_div_left _ (Nat.two_pow_pos i)]
        omega
      have hplace : i + d + 1 = d + (i + 1) := by omega
      rw [hplace, Nat.testBit_add, Nat.testBit_add, hhigh]
      simp
      omega
  next hclear =>
    by_cases hki : k = i <;> simp_all

theorem clearBit_le (n i : Nat) : clearBit n i ≤ n := by
  unfold clearBit
  split
  · exact Nat.sub_le _ _
  · exact Nat.le_refl _

/-- R537, R539, R545. A component that has restarted is up again, before what is owed by its kind. -/
def State.restarted (s : State) (comp us : Nat) : State :=
  let failed := clearBit (s.reg Reg.GLB_FW_STATUS_FAILED) comp
  let a := (s.set Reg.GLB_FW_STATUS_FAILED failed).set Reg.GLB_FW_STATUS_COMPLEX_UP (b2n (failed == 0))
  let a := (a.inc Reg.GLB_FW_RESTARTS_COUNT 1).set Reg.GLB_FW_ERR_RESTART 1
  a.tinkLog 0x0C02 noFn (leBytes 0 1 ++ leBytes comp 1 ++ leBytes 0 2 ++ leBytes us 4 ++
    leBytes (a.fw.restarts.filter (fun (r : Nat × Nat) => r.1 == comp)).length 1)

theorem exec_componentRestarted_up {s : State} {comp us : Nat} (hrun : s.coresRun = true) (hcomp : comp < 7)
    (hfailed : (s.reg Reg.GLB_FW_STATUS_FAILED).testBit comp = true) :
    exec (.componentRestarted comp us) s = .next (if comp = 3 then (s.restarted comp us).dropBuilds .busyRetry
      else if comp = 6 then (s.restarted comp us).endUpdate else s.restarted comp us) :=
  if_neg (by
    rw [bit_eq_testBit, hrun, hfailed]
    simp only [Bool.not_true, Bool.false_eq_true, false_or, or_false]
    omega)

theorem State.restarted_shows (s : State) (comp us : Nat) :
    let t := s.restarted comp us
    t.reg Reg.GLB_FW_STATUS_FAILED = clearBit (s.reg Reg.GLB_FW_STATUS_FAILED) comp % 2 ^ Reg.GLB_FW_STATUS_FAILED.width ∧
      t.reg Reg.GLB_FW_STATUS_COMPLEX_UP = b2n (clearBit (s.reg Reg.GLB_FW_STATUS_FAILED) comp == 0) % 2 ∧
      t.reg Reg.GLB_FW_RESTARTS_COUNT = (s.reg Reg.GLB_FW_RESTARTS_COUNT + 1) % 2 ^ Reg.GLB_FW_RESTARTS_COUNT.width ∧
      t.reg Reg.GLB_FW_ERR_RESTART = 1 ∧ s.KeepsWork t ∧ t.fw = s.fw := by
  refine ⟨?_, ?_, ?_, ?_, .refl s, rfl⟩
  all_goals
    rw [State.restarted]
    simp (disch := decide) only [State.reg_tinkLog_of_ne, State.reg_set_ne, State.reg_set_same, State.reg_inc_ne, State.reg_inc_same] <;>
      rfl

theorem exec_componentRestarted_plain {s : State} {comp us : Nat} (hrun : s.coresRun = true) (hcomp : comp < 7) (hbuilder : comp ≠ 3)
    (htel : comp ≠ 6) (hfailed : (s.reg Reg.GLB_FW_STATUS_FAILED).testBit comp = true)
    (hwidth : s.reg Reg.GLB_FW_STATUS_FAILED < 2 ^ Reg.GLB_FW_STATUS_FAILED.width) :
    ∃ t, exec (.componentRestarted comp us) s = .next t ∧ (t.reg Reg.GLB_FW_STATUS_FAILED).testBit comp = false ∧
      (∀ k, k ≠ comp → (t.reg Reg.GLB_FW_STATUS_FAILED).testBit k = (s.reg Reg.GLB_FW_STATUS_FAILED).testBit k) ∧
      (t.reg Reg.GLB_FW_STATUS_COMPLEX_UP = 1 ↔ t.reg Reg.GLB_FW_STATUS_FAILED = 0) ∧
      t.reg Reg.GLB_FW_RESTARTS_COUNT = (s.reg Reg.GLB_FW_RESTARTS_COUNT + 1) % 2 ^ Reg.GLB_FW_RESTARTS_COUNT.width ∧
      t.reg Reg.GLB_FW_ERR_RESTART = 1 ∧ s.KeepsWork t ∧ t.fw = s.fw := by
  have hexec := exec_componentRestarted_up (us := us) hrun hcomp hfailed
  rw [if_neg hbuilder, if_neg htel] at hexec
  obtain ⟨hmask, hup, hrest⟩ := s.restarted_shows comp us
  rw [Nat.mod_eq_of_lt (Nat.lt_of_le_of_lt (clearBit_le _ _) hwidth)] at hmask
  refine ⟨_, hexec, ?_, fun k hk => ?_, ?_, hrest⟩
  · simp [hmask, testBit_clearBit]
  · simp [hmask, testBit_clearBit, hk]
  · rw [hup, hmask]
    cases hzero : clearBit (s.reg Reg.GLB_FW_STATUS_FAILED) comp == 0 <;> simp_all [b2n]

/-- R547. Without a session there is no update to end. -/
theorem State.endUpdate_of_none {s : State} (h : s.fw.update = none) : s.endUpdate = s := by
  simp only [State.endUpdate, h]

theorem exec_componentRestarted_telemetry {s : State} {us : Nat} (hrun : s.coresRun = true)
    (hfailed : (s.reg Reg.GLB_FW_STATUS_FAILED).testBit 6 = true) (hnone : s.fw.update = none) :
    ∃ t, exec (.componentRestarted 6 us) s = .next t ∧ t.reg Reg.GLB_FW_ERR_RESTART = 1 ∧ t.fw = s.fw ∧ s.KeepsWork t := by
  obtain ⟨-, -, -, herr, hwork, hfw⟩ := s.restarted_shows 6 us
  refine ⟨s.restarted 6 us, (exec_componentRestarted_up hrun (by decide) hfailed).trans ?_, herr, hfw, hwork⟩
  exact congrArg Host.Outcome.next (State.endUpdate_of_none hnone)

/-- R539. Without builds in hand a restart of the Pattern Builder owes nothing. -/
theorem State.dropBuilds_of_nil {s : State} (h : s.seq.builds = []) (st : Status) :
    s.dropBuilds st = s.set Reg.SEQ_BUILD_STATUS_BUSY 0 := by
  have hseq : { s.seq with builds := [] } = s.seq := by
    rw [← h]
  simp only [State.dropBuilds, h, List.filterMap_nil, List.filter_nil, List.foldl_nil, hseq]
  rfl

theorem exec_componentRestarted_builder {s : State} {us : Nat} (hrun : s.coresRun = true)
    (hfailed : (s.reg Reg.GLB_FW_STATUS_FAILED).testBit 3 = true) (hnil : s.seq.builds = []) :
    ∃ t, exec (.componentRestarted 3 us) s = .next t ∧ t.reg Reg.GLB_FW_ERR_RESTART = 1 ∧ t.fw = s.fw ∧
      t.seq = s.seq ∧ t.tier = s.tier ∧ t.data = s.data := by
  obtain ⟨-, -, -, herr, ⟨hdata, hseq, htier, -⟩, hfw⟩ := s.restarted_shows 3 us
  have hdrop : (s.restarted 3 us).dropBuilds .busyRetry = (s.restarted 3 us).set Reg.SEQ_BUILD_STATUS_BUSY 0 :=
    State.dropBuilds_of_nil (s := s.restarted 3 us) hnil _
  refine ⟨_, (exec_componentRestarted_up hrun (by decide) hfailed).trans (congrArg Host.Outcome.next hdrop), ?_, hfw, hseq,
    htier, hdata⟩
  exact (State.reg_set_ne _ _ _ _ (by decide)).trans herr

/-! ### Complex resets -/

/-- R541, R545, R429. A complex reset is counted, flagged and logged, and a twinned primary tells its mirror. -/
def State.announceReset (s : State) (args : List Byte) : State :=
  let a := ((s.inc Reg.GLB_FW_RESETS_COUNT 1).set Reg.GLB_FW_ERR_COMPLEX_RESET 1).tinkLog 0x0C03 noFn args
  if a.waitsForMirror then a.sendTwin (.twinFault 0xFF) else a

/-- R541. The module shows that the complex is being reset; queues rewind and an update ends. -/
def State.markReset (s : State) : State :=
  ((((s.set Reg.GLB_STATUS_READY 0).set Reg.GLB_FW_STATUS_RESETTING 1).set Reg.GLB_FW_STATUS_COMPLEX_UP 0).set
    Reg.GLB_FW_STATUS_FAILED 0).rewindQueues.endUpdate

/-- R541. What the complex held in hand is gone, and the moves that run stop. -/
def State.dropInHand (s : State) (recent : List Nat) : State :=
  { s with
    fw := { s.fw with resets := recent, held := false, missed := [], sram := [], saved := [] }
    tier := { s.tier with moves := s.tier.moves.map (fun (m : Move) => if m.running then { m with stopped := true } else m) } }

theorem State.announceReset_rest (s : State) (args : List Byte) :
    ∃ r fab out k tink, s.announceReset args = { s with regs := r, fab := fab, out := out, fresh := k, tink := tink } := by
  unfold State.announceReset
  dsimp only
  split
  · obtain ⟨r, fab, out, k, hsend⟩ := State.sendTwin_rest
      (((s.inc Reg.GLB_FW_RESETS_COUNT 1).set Reg.GLB_FW_ERR_COMPLEX_RESET 1).tinkLog 0x0C03 noFn args) (.twinFault 0xFF)
    rw [hsend]
    exact ⟨_, _, _, _, _, rfl⟩
  · exact ⟨_, _, _, _, _, rfl⟩

theorem State.announceReset_shows (s : State) (args : List Byte) :
    let a := s.announceReset args
    a.reg Reg.GLB_FW_RESETS_COUNT = (s.reg Reg.GLB_FW_RESETS_COUNT + 1) % 2 ^ Reg.GLB_FW_RESETS_COUNT.width ∧
      a.reg Reg.GLB_FW_ERR_COMPLEX_RESET = 1 ∧ a.reg Reg.GLB_FW_BANKS_TRIAL = s.reg Reg.GLB_FW_BANKS_TRIAL := by
  intro a
  have hkept : ((s.inc Reg.GLB_FW_RESETS_COUNT 1).set Reg.GLB_FW_ERR_COMPLEX_RESET 1).ModuleKept a :=
    .ite (State.ModuleKept.refl _).tinkLog.sendTwin (State.ModuleKept.refl _).tinkLog
  refine ⟨(hkept.reg (by decide) (by decide)).trans ?_, (hkept.reg (by decide) (by decide)).trans ?_,
    (hkept.reg (by decide) (by decide)).trans ?_⟩
  · rw [State.reg_set_ne _ _ _ _ (by decide), State.reg_inc_same]
  · rw [State.reg_set_same]
    rfl
  · rw [State.reg_set_ne _ _ _ _ (by decide), State.reg_inc_ne _ _ _ _ (by decide)]

/-- R547. The end of an update leaves no session, and touches the registers of the update alone. -/
theorem State.endUpdate_rest (s : State) :
    ∃ r banks tink k, s.endUpdate = { s with regs := r, fw := { s.fw with update := none, banks := banks }, tink := tink, fresh := k } := by
  unfold State.endUpdate
  split
  next hnone =>
    refine ⟨s.regs, s.fw.banks, s.tink, s.fresh, ?_⟩
    rw [← hnone]
  next u hu =>
    cases u.current <;> exact ⟨_, _, _, _, rfl⟩

theorem State.reg_endUpdate_of_ne (s : State) {f : Fld}
    (hf : f.off * 32 + f.lo ∉ [Reg.GLB_FW_STATUS_UPDATE_OPEN, Reg.GLB_FW_BANKS_OTHER_BAD, Reg.GLB_FW_BANKS_PENDING,
      Reg.TNK_SEQ_ENTRY_SEQ].map (fun g => g.off * 32 + g.lo)) : s.endUpdate.reg f = s.reg f := by
  simp only [List.map_cons, List.map_nil, List.mem_cons, List.not_mem_nil, or_false, not_or] at hf
  obtain ⟨hopen, hbad, hpend, htink⟩ := hf
  have hbanks : ∀ w, (State.set { s with fw := w } Reg.GLB_FW_STATUS_UPDATE_OPEN 0).showBanks.reg f = s.reg f := fun w =>
    (State.reg_showBanks_of_ne _ hbad hpend).trans (State.reg_set_ne _ _ _ _ hopen)
  unfold State.endUpdate
  split
  · rfl
  next u hu =>
    cases u.current with
    | none => exact hbanks _
    | some c => exact (State.reg_tinkLog_of_ne _ _ _ _ htink).trans (hbanks _)

theorem State.markReset_rest (s : State) : ∃ r banks tink k at', s.markReset = { s with
    regs := r, fw := { s.fw with update := none, banks := banks }, tink := tink, fresh := k
    host := { s.host with fetched := [], fetchAt := at' } } := by
  obtain ⟨r, banks, tink, k, hend⟩ := State.endUpdate_rest ((((s.set Reg.GLB_STATUS_READY 0).set Reg.GLB_FW_STATUS_RESETTING 1).set
    Reg.GLB_FW_STATUS_COMPLEX_UP 0).set Reg.GLB_FW_STATUS_FAILED 0).rewindQueues
  rw [State.markReset, hend]
  exact ⟨_, _, _, _, _, rfl⟩

theorem State.markReset_shows (s : State) :
    let t := s.markReset
    t.reg Reg.GLB_STATUS_READY = 0 ∧ t.reg Reg.GLB_FW_STATUS_RESETTING = 1 ∧ t.reg Reg.GLB_FW_STATUS_COMPLEX_UP = 0 ∧
      t.reg Reg.GLB_FW_STATUS_FAILED = 0 ∧ t.reg Reg.GLB_FW_ERR_COMPLEX_RESET = s.reg Reg.GLB_FW_ERR_COMPLEX_RESET ∧
      t.reg Reg.GLB_FW_RESETS_COUNT = s.reg Reg.GLB_FW_RESETS_COUNT ∧ t.reg Reg.GLB_FW_BANKS_TRIAL = s.reg Reg.GLB_FW_BANKS_TRIAL := by
  refine ⟨?_, ?_, ?_, ?_, ?_, ?_, ?_⟩
  all_goals
    rw [State.markReset, State.reg_endUpdate_of_ne _ (by decide), State.rewindQueues]
    simp (disch := decide) only [State.reg_host, State.reg_set_ne, State.reg_set_same, Nat.zero_mod]
  rfl

section

variable {s : State} {cause comp flags now : Nat}

/-- R541, R543. A reset that is neither the fourth within ten minutes nor during a trial is held nowhere; while a row runs issue goes on. -/
theorem State.complexReset_parts (hreset : s.reg Reg.GLB_FW_STATUS_RESETTING ≠ 1) (hheld : s.fw.held = false)
    (htrial : s.reg Reg.GLB_FW_BANKS_TRIAL = 0) (hfew : (s.fw.resets.filter (fun t => now < t + 600000)).length < 3)
    (hrow : s.seq.active = true) : ∃ args, s.complexReset cause comp flags now =
      (s.announceReset args).markReset.dropInHand (s.fw.resets.filter (fun t => now < t + 600000) ++ [now]) := by
  have hgo : ¬(s.flag Reg.GLB_FW_STATUS_RESETTING = true ∨ s.fw.held = true) := by
    simp [State.flag, hreset, hheld]
  have hesc : decide (4 ≤ (s.fw.resets.filter (fun t => now < t + 600000) ++ [now]).length) = false := by
    simp only [List.length_append, List.length_singleton, decide_eq_false_iff_not]
    omega
  let args := leBytes cause 1 ++ leBytes comp 1 ++ leBytes 0 1 ++ leBytes (flags + 4 * b2n false) 1
  let t := (s.announceReset args).markReset.dropInHand (s.fw.resets.filter (fun t => now < t + 600000) ++ [now])
  have hactive : t.seq.active = true := by
    obtain ⟨r, fab, out, k, tink, hann⟩ := s.announceReset_rest args
    obtain ⟨_, _, _, _, _, hmark⟩ := State.markReset_rest (s.announceReset args)
    show (s.announceReset args).markReset.seq.active = true
    rw [hmark]
    show (s.announceReset args).seq.active = true
    rw [hann]
    exact hrow
  have hold : t.reg Reg.GLB_FW_BANKS_TRIAL = 0 := by
    obtain ⟨-, -, hann⟩ := s.announceReset_shows args
    obtain ⟨-, -, -, -, -, -, hmark⟩ := (s.announceReset args).markReset_shows
    exact (hmark.trans hann).trans htrial
  have hadvance : t.resetAdvance = t := if_neg (by simp [hactive])
  have hfail : t.failTrial = t := if_pos hold
  refine ⟨args, (if_neg hgo).trans ?_⟩
  simp only [hesc, Bool.false_eq_true, if_false]
  exact (congrArg State.failTrial hadvance).trans hfail

theorem State.complexReset_shows (hreset : s.reg Reg.GLB_FW_STATUS_RESETTING ≠ 1) (hheld : s.fw.held = false)
    (htrial : s.reg Reg.GLB_FW_BANKS_TRIAL = 0) (hfew : (s.fw.resets.filter (fun t => now < t + 600000)).length < 3)
    (hrow : s.seq.active = true) :
    let t := s.complexReset cause comp flags now
    t.reg Reg.GLB_STATUS_READY = 0 ∧ t.reg Reg.GLB_FW_STATUS_RESETTING = 1 ∧ t.reg Reg.GLB_FW_STATUS_COMPLEX_UP = 0 ∧
      t.reg Reg.GLB_FW_STATUS_FAILED = 0 ∧ t.reg Reg.GLB_FW_ERR_COMPLEX_RESET = 1 ∧
      t.reg Reg.GLB_FW_RESETS_COUNT = (s.reg Reg.GLB_FW_RESETS_COUNT + 1) % 2 ^ Reg.GLB_FW_RESETS_COUNT.width ∧ t.fw.update = none ∧
      t.fw.resets = s.fw.resets.filter (fun t => now < t + 600000) ++ [now] ∧ t.host.fetched = [] ∧
      t.tier.near = s.tier.near ∧ t.tier.tt = s.tier.tt ∧ t.data = s.data ∧ t.serve = s.serve := by
  obtain ⟨args, hparts⟩ := State.complexReset_parts (cause := cause) (comp := comp) (flags := flags) hreset hheld htrial hfew hrow
  obtain ⟨hcount, herr, -⟩ := s.announceReset_shows args
  obtain ⟨hready, hresetting, hup, hfailed, herrKept, hcountKept, -⟩ := (s.announceReset args).markReset_shows
  obtain ⟨r, fab, out, k, tink, hann⟩ := s.announceReset_rest args
  obtain ⟨r', banks, tink', k', at', hmark⟩ := (s.announceReset args).markReset_rest
  have hrest : (s.announceReset args).markReset.fw.update = none ∧ (s.announceReset args).markReset.host.fetched = [] ∧
      (s.announceReset args).markReset.tier = s.tier ∧ (s.announceReset args).markReset.data = s.data ∧
      (s.announceReset args).markReset.serve = s.serve := by
    rw [hmark, hann]
    exact ⟨rfl, rfl, rfl, rfl, rfl⟩
  obtain ⟨hupdate, hfetched, htier, hdata, hserve⟩ := hrest
  have hnear := congrArg TierState.near htier
  have htt := congrArg TierState.tt htier
  intro t
  have ht : t = _ := hparts
  rw [ht]
  exact ⟨hready, hresetting, hup, hfailed, herrKept.trans herr, hcountKept.trans hcount, hupdate, rfl, hfetched,
    hnear, htt, hdata, hserve⟩

end

/-- Settles O48: each event is one branch of its command, and a reset of the complex is read off its parts. -/
theorem complexEventsComplete : Obligations.ComplexEventsComplete := by
  refine ⟨fun _ _ => exec_trapEntry_keeps, fun _ _ => exec_trapEntry_emergency, State.faultRecord_shows,
    fun _ _ _ => State.failComponent_marks, fun _ _ _ hmany => if_pos hmany, fun _ _ _ => exec_supervisorHeartbeat_all,
    fun _ _ _ => exec_supervisorHeartbeat_misses, fun _ _ _ => exec_componentRestarted_plain, fun _ _ => exec_componentRestarted_telemetry,
    fun _ _ => exec_componentRestarted_builder, fun _ _ hon hrun => if_neg (by simp [hon, hrun]),
    fun _ _ _ hon hcore => if_neg (by simp [hon, hcore]), fun _ _ _ _ _ => State.complexReset_shows,
    fun s ms hreset hheld hon hrow => ?_⟩
  have hflag : s.flag Reg.GLB_FW_STATUS_RESETTING = true := by simp [State.flag, hreset]
  exact if_neg (by simp [hflag, hheld, hon, hrow])

end Sys2Proof.Machine
end

section
/-!
Tenancy (O41): functions that are enabled and disabled, and the blobs of their tensors.
-/

namespace Sys2Proof.Machine

/-! ### Functions -/

/-- R457, R346. A function with its limits, its context block and its touch log as they are after FUNC_ENABLE. -/
def State.freshFunction (s : State) (fn : Nat) : State :=
  let q := s.quota fn
  let epoch := (Store.get? s.tier.ctx fn).elim 0 (·.epoch)
  let a := s.setQuota fn { Quota.zero with deepUsed := q.deepUsed, tensorUsed := q.tensorUsed }
  State.setF { a with
    tier := { a.tier with ctx := Store.put a.tier.ctx fn (CtxBlock.init fn (epoch + 1)) }
    sec := { a.sec with touch := Store.erase a.sec.touch fn, touchOver := a.sec.touchOver.filter (· != fn) } } fn
    Reg.GLB_FN_STATE_STATE 1

theorem State.get?_ctx_setQuota_ne (s : State) {fn g : Nat} (q : Quota) (h : g ≠ fn) :
    Store.get? (s.setQuota fn q).tier.ctx g = Store.get? s.tier.ctx g := by
  dsimp only [State.setQuota]
  split
  · exact Store.get?_put_ne _ _ h
  · rfl

/-- R457. The function is ACTIVE, and the other functions are as they were. -/
theorem State.freshFunction_shows (s : State) (fn : Nat) :
    let t := s.freshFunction fn
    t.getF fn Reg.GLB_FN_STATE_STATE = 1 ∧
      t.quota fn = { Quota.zero with deepUsed := (s.quota fn).deepUsed, tensorUsed := (s.quota fn).tensorUsed } ∧
      Store.get? t.tier.ctx fn = some (CtxBlock.init fn ((Store.get? s.tier.ctx fn).elim 0 (·.epoch) + 1)) ∧
      (∀ g, g ≠ fn → t.getF g Reg.GLB_FN_STATE_STATE = s.getF g Reg.GLB_FN_STATE_STATE ∧ t.quota g = s.quota g ∧
        Store.get? t.tier.ctx g = Store.get? s.tier.ctx g) ∧ t.tier.tt = s.tier.tt ∧ t.tier.near = s.tier.near ∧ t.data = s.data := by
  refine ⟨State.getF_setF_same _ _ _ _, s.quota_setQuota_same fn _, Store.get?_put_same _ _ _, fun g hg => ⟨?_, ?_, ?_⟩, rfl, rfl, rfl⟩
  · exact State.getF_setF_fn _ _ _ _ _ _ (by decide) (by decide) hg
  · exact s.quota_setQuota_ne _ hg
  · exact (Store.get?_put_ne _ _ hg).trans (s.get?_ctx_setQuota_ne _ hg)

theorem exec_funcEnable_done {s : State} {h : Mail} (ht : s.Taken h 0x0601 0 10) (hfn : h.fn = 0) (hlo : 1 ≤ h.u 8 2)
    (hhi : h.u 8 2 ≤ 1024) (hoff : s.getF (h.u 8 2) Reg.GLB_FN_STATE_STATE = 0) (hrest : Store.get? s.sec.resets (h.u 8 2) = none) :
    exec (.funcEnable h) s = .next (((s.freshFunction (h.u 8 2)).mirrorCtx (h.u 8 2)).replied h 0x0601 []) := by
  have hfree : ¬(s.getF (h.u 8 2) Reg.GLB_FN_STATE_STATE ≠ 0 ∨ (Store.get? s.sec.resets (h.u 8 2)).isSome = true) := by
    simp [hoff, hrest]
  refine congrArg ok (State.mail_done ht ?_ ?_ ?_)
  · simp [hlo, hhi]
  · simp [hfn]
  · exact if_neg hfree

/-- R428. Mirroring the context block leaves what the function and the others show. -/
theorem exec_funcEnable_shows {s : State} {h : Mail} :
    let fn := h.u 8 2
    s.Taken h 0x0601 0 10 → h.fn = 0 → 1 ≤ fn → fn ≤ 1024 → s.getF fn Reg.GLB_FN_STATE_STATE = 0 →
    Store.get? s.sec.resets fn = none →
    let epoch := (Store.get? s.tier.ctx fn).elim 0 (·.epoch)
    ∃ t : State, exec (.funcEnable h) s = .next (t.replied h 0x0601 []) ∧ t.getF fn Reg.GLB_FN_STATE_STATE = 1 ∧
      t.quota fn = { Quota.zero with deepUsed := (s.quota fn).deepUsed, tensorUsed := (s.quota fn).tensorUsed } ∧
      Store.get? t.tier.ctx fn = some (CtxBlock.init fn (epoch + 1)) ∧
      (∀ g, g ≠ fn → t.getF g Reg.GLB_FN_STATE_STATE = s.getF g Reg.GLB_FN_STATE_STATE ∧ t.quota g = s.quota g ∧
        Store.get? t.tier.ctx g = Store.get? s.tier.ctx g) ∧ t.tier.tt = s.tier.tt ∧ t.tier.near = s.tier.near ∧ t.data = s.data := by
  intro fn ht hfn hlo hhi hoff hrest epoch
  refine ⟨(s.freshFunction fn).mirrorCtx fn, exec_funcEnable_done ht hfn hlo hhi hoff hrest, ?_⟩
  obtain ⟨hstate, hquota, hctx, hothers, htt, hnear, hdata⟩ := s.freshFunction_shows fn
  have hkept : ∀ g, ((s.freshFunction fn).mirrorCtx fn).getF g Reg.GLB_FN_STATE_STATE = (s.freshFunction fn).getF g Reg.GLB_FN_STATE_STATE :=
    fun g => (State.ModuleKept.refl _).mirrorCtx.getF g _ (by decide) (by decide)
  obtain ⟨htier, hdata'⟩ : ((s.freshFunction fn).mirrorCtx fn).tier = (s.freshFunction fn).tier ∧
      ((s.freshFunction fn).mirrorCtx fn).data = (s.freshFunction fn).data := by
    obtain ⟨r, fab, out, k, hmirror⟩ := (s.freshFunction fn).mirrorCtx_rest fn
    rw [hmirror]
    exact ⟨rfl, rfl⟩
  simp only [State.quota, htier] at hquota hothers ⊢
  exact ⟨(hkept fn).trans hstate, hquota, hctx, fun g hg => ⟨(hkept g).trans (hothers g hg).1, (hothers g hg).2⟩, htt, hnear,
    hdata'.trans hdata⟩

/-- R488. A disabled function starts its reset, and the reply waits for its end. -/
theorem exec_funcDisable_starts {s : State} {h : Mail} (ht : s.Taken h 0x0602 0 10) (hfn : h.fn = 0) (hlo : 1 ≤ h.u 8 2)
    (hhi : h.u 8 2 ≤ 1024) (hrest : Store.get? s.sec.resets (h.u 8 2) = none) :
    exec (.funcDisable h) s = .next ((s.startReset (h.u 8 2) 2 (some (h.ticket 0x0602))).waiting h 0x0602).settleResets := by
  have hfree : ¬((Store.get? s.sec.resets (h.u 8 2)).isSome = true) := by simp [hrest]
  refine congrArg ok (congrArg State.settleResets (State.mail_later ht ?_ ?_ ?_))
  · simp [hlo, hhi]
  · simp [hfn]
  · exact if_neg hfree

/-! ### Keys and held extents -/

/-- R340. Releasing deep space changes the tiers alone. -/
theorem State.releaseDeep_rest (s : State) (loc units : Nat) : ∃ tier, s.releaseDeep loc units = { s with tier := tier } := by
  unfold State.releaseDeep
  split <;> exact ⟨_, rfl⟩

/-- R595. Erasing the held extents of a function changes the tiers and what is held alone. -/
theorem State.dropHeld_rest (s : State) (fn : Nat) : ∃ tier mod, s.dropHeld fn = { s with tier := tier, mod := mod } := by
  have hfold : ∀ l : List Tensor, ∃ tier,
      l.foldl (fun (s : State) t => s.releaseDeep t.extent t.deepUnits) s = { s with tier := tier } := by
    refine fun l => List.foldlRecOn l _ (motive := fun t : State => ∃ tier, t = { s with tier := tier }) ⟨_, rfl⟩ ?_
    rintro t ⟨tier, rfl⟩ a -
    obtain ⟨tier', hdrop⟩ := State.releaseDeep_rest { s with tier := tier } a.extent a.deepUnits
    exact ⟨tier', hdrop⟩
  obtain ⟨tier, hdropped⟩ := hfold (Store.getD s.mod.heldExt fn [])
  simp only [State.dropHeld, hdropped]
  split
  · exact ⟨_, _, rfl⟩
  · exact ⟨_, _, rfl⟩

/-- What is listed after an erasure. -/
theorem Store.get?_erase {α : Type} (m : List (Nat × α)) (a b : Nat) :
    Store.get? (Store.erase m a) b = if b = a then none else Store.get? m b := by
  split
  next heq => rw [heq, Store.get?_erase_same]
  next hne => exact Store.get?_erase_ne m hne

/-- Nothing is lost by an erasure where nothing is listed. -/
theorem Store.get?_eq_ite {α : Type} {m : List (Nat × α)} {a : Nat} (h : (Store.get? m a).isNone = true) (b : Nat) :
    Store.get? m b = if b = a then none else Store.get? m b := by
  split
  next heq => rw [heq, Option.isNone_iff_eq_none.mp h]
  next => rfl

/-- R470, R481. A key that is destroyed is gone, and no other one. -/
theorem State.get?_keys_destroyKey (s : State) (fn cause g : Nat) :
    Store.get? (s.destroyKey fn cause).sec.keys g = if g = fn then none else Store.get? s.sec.keys g := by
  unfold State.destroyKey
  split
  next hnone => exact Store.get?_eq_ite hnone g
  next => exact Store.get?_erase _ _ _

theorem State.get?_baseKeys_destroyBase (s : State) (slot cause g : Nat) :
    Store.get? (s.destroyBase slot cause).sec.baseKeys g = if g = slot then none else Store.get? s.sec.baseKeys g := by
  unfold State.destroyBase
  split
  next hnone => exact Store.get?_eq_ite hnone g
  next => exact Store.get?_erase _ _ _

/-- R488. The reset of a function ends its TDI and its key, and is held until it can be done. -/
theorem State.startReset_shows (s : State) (fn cause : Nat) (k : Option Ticket) :
    Store.get? (s.startReset fn cause k).sec.resets fn = some (cause, k) ∧
      Store.get? (s.startReset fn cause k).sec.tdi fn = none ∧ Store.get? (s.startReset fn cause k).sec.keys fn = none := by
  refine ⟨Store.get?_put_same _ _ _, Store.get?_erase_same _ _, ?_⟩
  obtain ⟨tier, mod, hheld⟩ := (((s.dropHost fn).dropMoves fn).destroyKey fn cause).dropHeld_rest fn
  show Store.get? ((((s.dropHost fn).dropMoves fn).destroyKey fn cause).dropHeld fn).sec.keys fn = none
  rw [hheld]
  exact (State.get?_keys_destroyKey _ fn cause fn).trans (if_pos rfl)

/-! ### Queries -/

/-- R491, R517. The RTP's answer is handed on. -/
theorem exec_spdmTunnel_hands {s : State} {h : Mail} {l : List Byte} (ht : s.Taken h 0x0603 0 (max 8 h.payload.length)) :
    exec (.spdmTunnel h l) s = .next (s.replied h 0x0603 l) :=
  congrArg ok (State.mail_done ht rfl rfl rfl)

/-- R491. A function asks for itself, and the PF for any. -/
theorem exec_secQuery_answers {s : State} {h : Mail} (ht : s.Taken h 0x0604 0 10) (hhi : h.u 8 2 ≤ 1024)
    (hfn : h.fn = 0 ∨ h.fn = h.u 8 2) :
    exec (.secQuery h) s = .next (s.replied h 0x0604 (leBytes (b2n (Store.get? s.sec.keys (h.u 8 2)).isSome) 2 ++
      leBytes (Store.getD s.sec.tdi (h.u 8 2) 0) 2 ++ leBytes (Store.getD s.sec.touch (h.u 8 2) []).length 4)) := by
  refine congrArg ok (State.mail_done ht ?_ ?_ rfl)
  · simp [hhi]
  · simpa using hfn

/-- R467. The SVN of the image that runs is fused. -/
theorem exec_svnCommit_fuses {s : State} {h : Mail} (ht : s.Taken h 0x0609 0 10) (hfn : h.fn = 0) (hc : h.u 8 2 < 4) :
    exec (.svnCommit h) s = .next (State.replied { s with sec := { s.sec with
      svnFused := Store.put s.sec.svnFused (h.u 8 2) (max (s.fusedSvn (h.u 8 2)) (s.runningSvn (h.u 8 2))) } } h 0x0609 []) := by
  refine congrArg ok (State.mail_done ht ?_ ?_ rfl)
  · simp [hc]
  · simp [hfn]

/-! ### Blobs -/

/-- What holds of an optional value that is there holds of the value. -/
theorem all_of_eq_some {α : Type} {o : Option α} {a : α} {p : α → Bool} (ho : o = some a) (hp : p a = true) : o.all p = true := by
  rw [ho, Option.all_some, hp]

/-- R478. The HOST tensor of a message has room for the blob of its tensor. -/
theorem hostRoom_of_entries {s : State} {a d : Handle} {t u : Tensor} (hsrc : s.entry (ttKey a.fn a.idx) = some t)
    (hdst : s.entry (ttKey d.fn d.idx) = some u) (hhost : u.tier = .host) (hroom : s.blobSize t ≤ 256 * u.size) :
    (s.entry (ttKey d.fn d.idx)).all (fun u => u.tier == .host &&
      (s.entry (ttKey a.fn a.idx)).all (fun t => s.blobSize t ≤ 256 * u.size)) = true := by
  refine all_of_eq_some hdst ?_
  rw [hhost]
  exact all_of_eq_some hsrc (decide_eq_true hroom)

/-- R478. The blob of a tensor of its tenant goes to the HOST tensor. -/
theorem exec_tensorExport_writes {s : State} {h : Mail} {t u : Tensor} {k : BitVec 256} {g : Nat × Nat × Nat}
    (ht : s.Taken h 0x0605 0 24) (hok : h.handleOk 8 = true) (hok' : h.handleOk 16 = true) (hnone : h.handle 8 ≠ Handle.none)
    (hnone' : h.handle 16 ≠ Handle.none) (hown : (h.handle 8).fn = h.fn) (hown' : (h.handle 16).fn = h.fn)
    (hkey : (Store.get? s.sec.keys h.fn).isSome = true) (hsrc : s.entry (ttKey (h.handle 8).fn (h.handle 8).idx) = some t)
    (hdst : s.entry (ttKey (h.handle 16).fn (h.handle 16).idx) = some u) (hexports : t.exports = true) (hhost : u.tier = .host)
    (hroom : s.blobSize t ≤ 256 * u.size) (hpoison : t.poisoned = false) (hpoison' : u.poisoned = false) (hmoving : t.moving = false)
    (hmoving' : u.moving = false) (hborrowed : t.tier ≠ .borrowed) (hgen : t.gen = (h.handle 8).gen) (hgen' : u.gen = (h.handle 16).gen)
    (hcomplete : t.incomplete = false) (hblob : s.draw.2.blobKey h.fn (s.draw.1 % 2 ^ 64) = some k)
    (hreg : Store.get? s.draw.2.tier.hostRegs u.loc = some g) :
    exec (.tensorExport h) s =
      .next ((s.draw.2.hostWrite h.fn g.2.1 (s.draw.2.blobOf t k (s.draw.1 % 2 ^ 64))).replied h 0x0605 []) := by
  have hsound : ¬(t.poisoned = true ∨ u.poisoned = true) := by simp [hpoison, hpoison']
  have hstill : ¬(t.moving = true ∨ u.moving = true ∨ t.tier = .borrowed) := by simp [hmoving, hmoving', hborrowed]
  have hcurrent : ¬(t.gen ≠ (h.handle 8).gen ∨ u.gen ≠ (h.handle 16).gen) := by simp [hgen, hgen']
  have hwhole : ¬(t.incomplete = true) := by simp [hcomplete]
  refine congrArg ok (State.mail_done ht ?_ ?_ ?_)
  · have hmine : (s.entry (ttKey (h.handle 8).fn (h.handle 8).idx)).all Tensor.exports = true := all_of_eq_some hsrc hexports
    simp [hok, hok', hnone, hnone', hmine, hostRoom_of_entries hsrc hdst hhost hroom]
  · simp [hown, hown', hkey]
  · simp only [hsrc, hdst, if_neg hsound, if_neg hstill, if_neg hcurrent, if_neg hwhole, hblob, hreg]

/-- R479. An opened blob is placed, and its handles are answered. -/
theorem exec_tensorImport_places {s s1 : State} {h : Mail} {src t : Tensor} {u : Option Tensor} {b : BlobHead} {payload : List Byte}
    {live : Nat} (ht : s.Taken h 0x0606 0 16) (hok : h.handleOk 8 = true) (hnone : h.handle 8 ≠ Handle.none) (hvf : h.fn ≠ 0)
    (hown : (h.handle 8).fn = h.fn) (hkey : (Store.get? s.sec.keys h.fn).isSome = true) (hsrc : s.ownTensor (h.handle 8) = .ok src)
    (hopen : s.openBlob h.fn src h.buffer = .ok (b, payload, live)) (hfits : s.blobFits b payload = true)
    (hplace : s.placeBlob h.fn b payload = .ok (t, u, s1)) :
    exec (.tensorImport h) s = .next ((s1.keepBlob t b payload live).replied h 0x0606
      (leBytes t.handle.toNat 8 ++ leBytes (u.elim 0 (fun u => u.handle.toNat)) 8)) := by
  refine congrArg ok (State.mail_done ht ?_ ?_ ?_)
  · simp [hok, hnone]
  · simp [hvf, hown, hkey]
  · simp only [hsrc, hopen, hfits, hplace, Bool.not_true, Bool.false_eq_true, if_false]

/-- Settles O41: each message that is taken is one branch of its own rules. -/
theorem tenancyMessagesComplete : Obligations.TenancyMessagesComplete :=
  ⟨fun _ _ => exec_funcEnable_shows, fun _ _ => exec_funcDisable_starts, State.startReset_shows, fun _ _ _ => exec_spdmTunnel_hands,
    fun _ _ => exec_secQuery_answers, fun _ _ => exec_svnCommit_fuses, fun _ _ _ _ _ _ => exec_tensorExport_writes,
    fun _ _ _ _ _ _ _ _ _ => exec_tensorImport_places⟩

end Sys2Proof.Machine
end

section
/-!
Attestation (O42): what the RTP answers on its port, and what a session, an IDE stream and a TDI become.
-/

namespace Sys2Proof.Machine

/-! ### Measurements -/

/-- Of labelled values one label is kept by keeping it before the values are taken. -/
theorem filter_labelled {α : Type} (f : Nat → Option α) (k : Nat) (l : List Nat) :
    (l.filterMap (fun i => (f i).map (fun a => (i, a)))).filter (fun b => b.1 == k) =
      (l.filter (· == k)).filterMap (fun i => (f i).map (fun a => (i, a))) := by
  induction l with
  | nil => rfl
  | cons i l ih =>
    by_cases hik : i = k
    · subst hik
      cases hf : f i <;> simp [hf, ih]
    · cases hf : f i <;> simp [hf, hik, ih]

/-- R476. The blocks that are answered for an index are the one block of that index. -/
theorem State.measurement_block {s : State} {fn k : Nat} {m : List Byte} (hk : k < 0x14) (hm : s.measurement fn k = some m) :
    (((List.range 0x14).filterMap (fun i => (s.measurement fn i).map (fun l => (i, l)))).filter (fun b => b.1 == k)) = [(k, m)] := by
  have hone : (List.range 0x14).filter (· == k) = [k] := by
    rw [List.filter_beq, List.count_eq_one_of_mem List.nodup_range (List.mem_range.mpr hk)]
    rfl
  rw [filter_labelled, hone]
  simp [hm]

/-- R475, R492. An answer is the last thing on the RTP's port. -/
theorem State.side_spdm (s : State) (st : Status) (l : List Byte) :
    (s.spdm st l).out.side = s.out.side ++ [(spdmPort, leBytes st.code 1 ++ l)] := rfl

/-- R475. The signature of an answer, three free values, and the machine that has drawn them. -/
def State.signature (s : State) : List Byte :=
  leBytes s.draw.1 32 ++ leBytes s.draw.2.draw.1 32 ++ leBytes s.draw.2.draw.2.draw.1 32

def State.afterSignature (s : State) : State := s.draw.2.draw.2.draw.2

theorem State.keepsWork_afterSignature (s : State) : s.KeepsWork s.afterSignature := .refl s

theorem State.KeepsWork.spdm {s t : State} (h : s.KeepsWork t) {st : Status} {l : List Byte} : s.KeepsWork (t.spdm st l) := h

/-- R475, R476. One block is answered, under a signature of 96 bytes. -/
theorem exec_getMeasurements_one {s : State} {fn k : Nat} {m : List Byte} (hon : s.mod.off = false) (hlo : 1 ≤ k) (hhi : k ≤ 0x13)
    (hm : s.measurement fn k = some m) : ∃ t sig, exec (.getMeasurements fn k) s = .next t ∧ t.out.side = s.out.side ++
      [(spdmPort, leBytes Status.ok.code 1 ++ (leBytes k 1 ++ leBytes m.length 4 ++ m ++ sig))] ∧ sig.length = 96 ∧
      t.regs = s.regs ∧ s.KeepsWork t := by
  have hgo : ¬(s.mod.off = true) := by simp [hon]
  have hsome : ¬(k = 0) := by omega
  have hpart : ¬(k = 0xFF) := by omega
  have hlt : k < 0x14 := by omega
  have hexec : exec (.getMeasurements fn k) s = .next (s.afterSignature.spdm .ok (leBytes k 1 ++ leBytes m.length 4 ++ m ++ s.signature)) := by
    refine (if_neg hgo).trans ?_
    rw [if_neg hsome, if_neg hpart, State.measurement_block hlt hm]
    simp only [List.flatMap_cons, List.flatMap_nil, List.append_nil, List.append_assoc, State.signature, State.afterSignature, ok]
  have hlen : s.signature.length = 96 := by simp [State.signature, leBytes_length]
  have hside : (s.afterSignature.spdm .ok (leBytes k 1 ++ leBytes m.length 4 ++ m ++ s.signature)).out.side = s.out.side ++
      [(spdmPort, leBytes Status.ok.code 1 ++ (leBytes k 1 ++ leBytes m.length 4 ++ m ++ s.signature))] :=
    State.side_spdm s.afterSignature .ok _
  exact ⟨_, _, hexec, hside, hlen, rfl, s.keepsWork_afterSignature.spdm⟩

/-! ### Sessions -/

/-- R471, R475. A session opens. -/
theorem exec_keyExchange_opens {s : State} {o : SessionOp} (hon : s.mod.off = false) (hrec : s.flag Reg.GLB_STATUS_RECOVERY = false)
    (hnew : ∀ x ∈ s.sec.sessions, x.id ≠ o.id) (htarget : if o.base then o.target < 8 else o.target ≤ 1024)
    (hroom : s.sec.sessions.length < 1056) :
    exec (.keyExchange o) s = .next (State.spdm { s with sec := { s.sec with
      sessions := s.sec.sessions ++ [Session.mk o.id o.base o.target] } } .ok []) := by
  have hgood : ¬(s.sec.sessions.any (fun x => x.id == o.id) = true ∨ (if o.base then 8 ≤ o.target else 1024 < o.target)) := by
    rintro (hany | hbad)
    · obtain ⟨x, hx, hid⟩ := List.any_eq_true.mp hany
      exact hnew x hx (beq_iff_eq.mp hid)
    · cases hbase : o.base <;> simp only [hbase, Bool.false_eq_true, if_true, if_false] at htarget hbad <;> omega
  exact (if_neg (by simp [hon, hrec])).trans ((if_neg hgood).trans (if_neg (by omega)))

/-- R492. What a secured request does inside its session. -/
theorem State.inSession_open {s : State} {n : Nat} {x : Session} (hon : s.mod.off = false)
    (hrec : s.flag Reg.GLB_STATUS_RECOVERY = false) (hx : s.sec.sessions.find? (fun x => x.id == n) = some x) (f : Session → State) :
    s.inSession n f = .next (f x) := by
  refine (if_neg (by simp [hon, hrec])).trans ?_
  simp only [hx, ok]

/-- R493. What the log says of a key that is loaded. -/
def loadArgs (p : Policy) (x : Session) : List Byte :=
  keyArgs (b2n x.base) x.target (leBytes 0 4 ++ (leBytes p.digest.toNat 32).take 8)

/-- R471. The key of a base-owner is loaded under its policy. -/
def State.loadBase (s : State) (p : Policy) (x : Session) : State :=
  (State.tinkLog { s with sec := { s.sec with baseKeys := Store.put s.sec.baseKeys x.target p } } 0x0B03 noFn (loadArgs p x)).spdm .ok []

/-- R471, R477, R595. The key of a tenant is loaded, and what is held for it is looked at. -/
def State.loadTenant (s : State) (p : Policy) (x : Session) : State :=
  let a : State := { s with sec := { s.sec with
    keys := Store.put s.sec.keys x.target p
    touch := Store.erase s.sec.touch x.target, touchOver := s.sec.touchOver.filter (· != x.target) } }
  let a := (a.tinkLog 0x0B03 x.target (loadArgs p x)).holdExtents x.target p.key
  let a : State := { a with sec := { a.sec with wraps := Store.put a.sec.wraps x.target p.key } }
  (a.takeHeld x.target p.key).spdm .ok []

section

variable {s : State} {o : KeyReleaseOp} {x : Session}

/-- R471, R472. The checks of a release whose policy is well formed and met, for a session whose key is not loaded. -/
theorem exec_keyRelease_passes (hon : s.mod.off = false) (hrec : s.flag Reg.GLB_STATUS_RECOVERY = false)
    (hx : s.sec.sessions.find? (fun x => x.id == o.session) = some x) (hwf : o.policy.wf x.base = true)
    (hreport : o.report = Config.sha384 s.reportBytes) (hmet : s.requireMet o.policy x = true)
    (hready : (if x.base then (s.model x.target).state == 0 else s.getF x.target Reg.GLB_FN_STATE_STATE == 1 && x.target != 0) = true)
    (hnew : (if x.base then (Store.get? s.sec.baseKeys x.target).isSome else (Store.get? s.sec.keys x.target).isSome) = false) :
    exec (.keyRelease o) s = .next (if x.base then s.loadBase o.policy x else s.loadTenant o.policy x) := by
  have hpass : ¬(o.report ≠ Config.sha384 s.reportBytes ∨ (!s.requireMet o.policy x) = true ∨
      (!(if x.base then (s.model x.target).state == 0 else s.getF x.target Reg.GLB_FN_STATE_STATE == 1 && x.target != 0)) = true) := by
    rw [hready, hmet]
    simp [hreport]
  refine (if_neg (by simp [hon, hrec])).trans ?_
  simp only [hx]
  rw [if_neg (by simp [hwf]), if_neg hpass, hnew, if_neg Bool.false_ne_true]
  split <;> rfl

/-- R471, R493. The key of a base-owner is loaded under its policy. -/
theorem exec_keyRelease_base (hon : s.mod.off = false) (hrec : s.flag Reg.GLB_STATUS_RECOVERY = false)
    (hx : s.sec.sessions.find? (fun x => x.id == o.session) = some x) (hwf : o.policy.wf x.base = true)
    (hreport : o.report = Config.sha384 s.reportBytes) (hmet : s.requireMet o.policy x = true) (hbase : x.base = true)
    (hempty : (s.model x.target).state = 0) (hnew : Store.get? s.sec.baseKeys x.target = none) :
    ∃ t, exec (.keyRelease o) s = .next t ∧ Store.get? t.sec.baseKeys x.target = some o.policy ∧ t.sec.keys = s.sec.keys ∧
      t.tier = s.tier ∧ t.out.side = s.out.side ++ [(spdmPort, leBytes Status.ok.code 1)] := by
  have hexec := exec_keyRelease_passes hon hrec hx hwf hreport hmet (by simp [hbase, hempty]) (by simp [hbase, hnew])
  rw [if_pos hbase] at hexec
  exact ⟨_, hexec, Store.get?_put_same _ _ _, rfl, rfl, rfl⟩

/-- R471, R477, R595. The key of a tenant is loaded, and what was held for it is looked at. -/
theorem exec_keyRelease_tenant (hon : s.mod.off = false) (hrec : s.flag Reg.GLB_STATUS_RECOVERY = false)
    (hx : s.sec.sessions.find? (fun x => x.id == o.session) = some x) (hwf : o.policy.wf x.base = true)
    (hreport : o.report = Config.sha384 s.reportBytes) (hmet : s.requireMet o.policy x = true) (hbase : x.base = false)
    (hvf : x.target ≠ 0) (hactive : s.getF x.target Reg.GLB_FN_STATE_STATE = 1) (hnew : Store.get? s.sec.keys x.target = none) :
    exec (.keyRelease o) s = .next (s.loadTenant o.policy x) := by
  have hexec := exec_keyRelease_passes hon hrec hx hwf hreport hmet (by simp [hbase, hvf, hactive]) (by simp [hbase, hnew])
  rw [if_neg (by simp [hbase])] at hexec
  exact hexec

end

/-- R477, R481, R492. The secured requests of an open session. -/
theorem exec_inSession_shows {s : State} {n : Nat} {x : Session} (hon : s.mod.off = false)
    (hrec : s.flag Reg.GLB_STATUS_RECOVERY = false) (hx : s.sec.sessions.find? (fun x => x.id == n) = some x) :
    exec (.keyDestroy n) s =
      .next ((if x.base then s.destroyBase x.target 0 else s.destroyKey x.target 0).spdm .ok []) ∧
    (x.base = false → exec (.touchLogRead n) s = .next (s.spdm .ok ((s.measurement x.target 0x10).getD []))) ∧
    (∀ p, Store.get? (if x.base then s.sec.baseKeys else s.sec.keys) x.target = some p →
      exec (.policyQuery n) s = .next (s.spdm .ok p.bytes)) := by
  refine ⟨State.inSession_open hon hrec hx _, fun hbase => ?_, fun p hp => ?_⟩
  · exact (State.inSession_open hon hrec hx _).trans (congrArg ok (if_neg (by simp [hbase])))
  · refine (State.inSession_open hon hrec hx _).trans ?_
    simp only [hp]

/-! ### Streams and interfaces -/

theorem exec_ide_moves {s : State} {n : Nat} {x : IdeStream} (hx : Store.get? s.sec.ide n = some x) :
    (x.keyed = true → exec (.kSetGo n) s = .next (s.setIde n { x with secure := true })) ∧
    exec (.kSetStop n) s = .next (s.setIde n { x with keyed := false, secure := false }) ∧
    (x.secure = true → exec (.ideIntegrityFail n) s = .next ((s.ideFail n x).secErr Reg.SEC_ERR_TDISP_ERROR)) := by
  refine ⟨fun hkeyed => ?_, ?_, fun hsecure => ?_⟩
  · show execKSetGo n s = _
    simp only [execKSetGo, hx, hkeyed, if_true, ok]
  · show execKSetStop n s = _
    simp only [execKSetStop, hx, ok]
  · show execIdeIntegrityFail n s = _
    simp only [execIdeIntegrityFail, hx, hsecure, if_true, ok]

/-- R487. A TDI moves on from the state that its request asks for. -/
theorem State.tdiMove_moves {s : State} {vf src : Nat} (hlo : 1 ≤ vf) (hhi : vf ≤ 1024) (hsrc : Store.getD s.sec.tdi vf 0 = src)
    (dst : Nat) : s.tdiMove vf src dst = { s with sec := { s.sec with tdi := Store.put s.sec.tdi vf dst } } :=
  if_pos ⟨hlo, hhi, hsrc⟩

/-- R487, R493. A TDI that is locked or runs moves to ERROR, which is flagged. -/
theorem State.tdiError_shows {s : State} {vf cause : Nat} (h : Store.getD s.sec.tdi vf 0 = 1 ∨ Store.getD s.sec.tdi vf 0 = 2) :
    let t := s.tdiError vf cause
    Store.get? t.sec.tdi vf = some 3 ∧ t.reg Reg.SEC_ERR_TDISP_ERROR = 1 ∧ t.tier = s.tier ∧ t.data = s.data := by
  intro t
  have hlive : ¬(Store.getD s.sec.tdi vf 0 ≠ 1 ∧ Store.getD s.sec.tdi vf 0 ≠ 2) := by omega
  have ht : t = _ := if_neg hlive
  have hsec : t.sec = { s.sec with tdi := Store.put s.sec.tdi vf 3 } := by
    rw [ht]
    exact State.secErr_sec _ _
  refine ⟨?_, ?_, ?_, ?_⟩
  · rw [hsec, Store.get?_put_same]
  · rw [ht, State.reg_tinkLog_of_ne _ _ _ _ (by decide), State.secErr, State.reg_err_same]
    rfl
  · rw [ht, State.secErr, State.err_rest]
    rfl
  · rw [ht, State.secErr, State.err_rest]
    rfl

theorem exec_keyProg_programs {s : State} {n : Nat} {vfs : List Nat} (hn : n < 256) (hon : s.mod.off = false) :
    exec (.keyProg n vfs) s = .next (s.setIde n { Store.getD s.sec.ide n ⟨[], false, false⟩ with vfs := vfs, keyed := true }) :=
  if_neg (by simp [hon, hn])

/-- Settles O42: each request is one branch of its rule. -/
theorem attestationCompletes : Obligations.AttestationCompletes := by
  refine ⟨fun _ _ _ _ => exec_getMeasurements_one, fun s _ _ hon => ?_, fun _ _ => exec_keyExchange_opens, fun _ _ => rfl,
    fun _ _ _ hon hrec hx hwf hreport hmet => ⟨exec_keyRelease_base hon hrec hx hwf hreport hmet,
      exec_keyRelease_tenant hon hrec hx hwf hreport hmet⟩,
    fun _ _ _ => exec_inSession_shows,
    fun s fn slot cause => ⟨(s.get?_keys_destroyKey fn cause fn).trans (if_pos rfl),
      fun g hg => (s.get?_keys_destroyKey fn cause g).trans (if_neg hg), (s.get?_baseKeys_destroyBase slot cause slot).trans (if_pos rfl)⟩,
    fun _ _ _ => exec_keyProg_programs, fun _ _ _ => exec_ide_moves,
    fun _ _ hlo hhi => ⟨fun hsrc => congrArg ok (State.tdiMove_moves hlo hhi hsrc 1),
      fun hsrc => congrArg ok (State.tdiMove_moves hlo hhi hsrc 2), fun hlive => ⟨_, rfl, State.tdiError_shows hlive⟩⟩⟩
  have hgo : ¬(s.mod.off = true) := by simp [hon]
  exact (if_neg hgo).trans (if_neg (by simp))

end Sys2Proof.Machine
end

section
/-!
Zeroisation and requests that wait (O43). While a row runs zeroisation destroys the keys and waits for the row's end; what it does until
then leaves the sequencer alone (`State.RowKept`).
-/

namespace Sys2Proof.Machine

/-! ### Zeroisation -/

/-- The sequencer and its state are as before. -/
structure State.RowKept (s t : State) : Prop where
  seq : t.seq = s.seq
  state : t.reg Reg.SEQ_STATUS_STATE = s.reg Reg.SEQ_STATUS_STATE

namespace State.RowKept

variable {s₀ s : State}

theorem refl (s : State) : s.RowKept s := ⟨rfl, rfl⟩

theorem setF (h : s₀.RowKept s) {fn : Nat} {f : Fld} {v : Nat} (hf : f.off < 0x200000 ∧ f.lo < 32 := by decide)
    (hne : Reg.SEQ_STATUS_STATE.off * 32 + Reg.SEQ_STATUS_STATE.lo ≠ f.off * 32 + f.lo := by decide) : s₀.RowKept (s.setF fn f v) :=
  ⟨h.seq, (State.getF_setF_of_ne _ _ _ _ hf (by decide) hne).trans h.state⟩

theorem foldl {α : Type} (h : s₀.RowKept s) {l : List α} {k : State → α → State}
    (hk : ∀ {t} a, s₀.RowKept t → s₀.RowKept (k t a)) : s₀.RowKept (l.foldl k s) :=
  List.foldlRecOn l k h fun _ ht a _ => hk a ht

theorem tinkLog (h : s₀.RowKept s) {code fn : Nat} {args : List Byte} : s₀.RowKept (s.tinkLog code fn args) :=
  ⟨h.seq, (State.reg_tinkLog_of_ne _ _ _ _ (by decide)).trans h.state⟩

theorem sec (h : s₀.RowKept s) {x : SecState} : s₀.RowKept { s with sec := x } := ⟨h.seq, h.state⟩

theorem destroyKey (h : s₀.RowKept s) {fn cause : Nat} : s₀.RowKept (s.destroyKey fn cause) := by
  unfold State.destroyKey
  split
  · exact h
  · exact h.sec.tinkLog

theorem destroyBase (h : s₀.RowKept s) {slot cause : Nat} : s₀.RowKept (s.destroyBase slot cause) := by
  unfold State.destroyBase
  split
  · exact h
  · exact h.sec.tinkLog

theorem dropHeld (h : s₀.RowKept s) {fn : Nat} : s₀.RowKept (s.dropHeld fn) := by
  obtain ⟨tier, mod, hdrop⟩ := s.dropHeld_rest fn
  rw [hdrop]
  exact ⟨h.seq, h.state⟩

end State.RowKept

/-- A list in which nothing is found is empty. -/
theorem Store.eq_nil_of_get? {α : Type} {m : List (Nat × α)} (h : ∀ a, Store.get? m a = none) : m = [] := by
  cases m with
  | nil => rfl
  | cons c l => simpa [Store.get?] using h c.1

theorem Store.get?_eq_none {α : Type} {m : List (Nat × α)} {a : Nat} (h : a ∉ m.map (·.1)) : Store.get? m a = none := by
  induction m with
  | nil => rfl
  | cons c l ih =>
    simp only [List.map_cons, List.mem_cons, not_or] at h
    obtain ⟨hne, hrest⟩ := h
    exact (if_neg (Ne.symm hne)).trans (ih hrest)

/-- R481. The tenants' keys of a list of functions are destroyed. -/
theorem State.get?_foldl_destroyKey (l : List Nat) (s : State) (cause g : Nat) :
    Store.get? (l.foldl (fun (s : State) fn => s.destroyKey fn cause) s).sec.keys g =
      if g ∈ l then none else Store.get? s.sec.keys g := by
  induction l generalizing s with
  | nil => rfl
  | cons fn l ih =>
    rw [List.foldl_cons, ih, State.get?_keys_destroyKey]
    by_cases hg : g = fn <;> simp [hg]

theorem State.get?_foldl_destroyBase (l : List Nat) (s : State) (cause g : Nat) :
    Store.get? (l.foldl (fun (s : State) m => s.destroyBase m cause) s).sec.baseKeys g =
      if g ∈ l then none else Store.get? s.sec.baseKeys g := by
  induction l generalizing s with
  | nil => rfl
  | cons m l ih =>
    rw [List.foldl_cons, ih, State.get?_baseKeys_destroyBase]
    by_cases hg : g = m <;> simp [hg]

/-- R481. The base-owners' keys have nothing to do with the tenants'. -/
theorem State.keys_foldl_destroyBase (l : List Nat) (s : State) (cause : Nat) :
    (l.foldl (fun (s : State) m => s.destroyBase m cause) s).sec.keys = s.sec.keys := by
  refine List.foldlRecOn l _ (motive := fun t : State => t.sec.keys = s.sec.keys) rfl fun t ht m _ => ?_
  refine Eq.trans ?_ ht
  unfold State.destroyBase
  split <;> rfl

theorem State.sec_foldl_dropHeld (l : List Nat) (s : State) : (l.foldl State.dropHeld s).sec = s.sec := by
  refine List.foldlRecOn l _ (motive := fun t : State => t.sec = s.sec) rfl fun t ht fn _ => ?_
  obtain ⟨tier, mod, hdrop⟩ := t.dropHeld_rest fn
  rw [hdrop]
  exact ht

/-- R481. Every key, and everything held under one, is destroyed. -/
def State.destroyAll (s : State) : State :=
  let a := (s.sec.keys.map (·.1)).foldl (fun (s : State) fn => s.destroyKey fn 4) s
  let a := (a.sec.baseKeys.map (·.1)).foldl (fun (s : State) m => s.destroyBase m 4) a
  (a.mod.heldExt.map (·.1)).foldl State.dropHeld a

theorem State.destroyAll_shows (s : State) :
    s.destroyAll.sec.keys = [] ∧ s.destroyAll.sec.baseKeys = [] ∧ s.RowKept s.destroyAll := by
  unfold State.destroyAll
  extract_lets a b
  refine ⟨?_, ?_, ?_⟩
  · rw [State.sec_foldl_dropHeld]
    refine (State.keys_foldl_destroyBase _ _ _).trans (Store.eq_nil_of_get? fun g => ?_)
    refine (State.get?_foldl_destroyKey _ _ _ g).trans ?_
    split
    · rfl
    next hnew => exact Store.get?_eq_none hnew
  · rw [State.sec_foldl_dropHeld]
    refine Store.eq_nil_of_get? fun g => (State.get?_foldl_destroyBase _ _ _ g).trans ?_
    split
    · rfl
    next hnew => exact Store.get?_eq_none hnew
  · exact (((State.RowKept.refl s).foldl fun _ h => h.destroyKey).foldl fun _ h => h.destroyBase).foldl fun _ h => h.dropHeld

/-- R481, R482. Zeroisation is shown. -/
def State.zeroShown (s : State) : State :=
  State.set { s.destroyAll with sec := { s.destroyAll.sec with wraps := [] } } Reg.SEC_STATUS_ZEROISING 1

/-- R481, R482. Zeroisation has begun, and every VF that is not DISABLED is FAULTED. -/
def State.zeroBegun (s : State) : State :=
  s.zeroShown.openVfs.foldl (fun (s : State) fn => s.setF fn Reg.GLB_FN_STATE_STATE 3) s.zeroShown

theorem State.zeroise_eq (s : State) :
    s.zeroise = if s.zeroBegun.reg Reg.SEQ_STATUS_STATE = 3 then s.zeroBegun else s.zeroBegun.askHaltRow := rfl

/-- The states of functions, whichever they are, say nothing of the keys and of the module's own registers. -/
theorem State.foldl_setState (l : List Nat) (v : Nat) (s : State) :
    let t := l.foldl (fun (s : State) fn => s.setF fn Reg.GLB_FN_STATE_STATE v) s
    t.sec = s.sec ∧ t.reg Reg.SEC_STATUS_ZEROISING = s.reg Reg.SEC_STATUS_ZEROISING := by
  refine List.foldlRecOn l _ (motive := fun t : State => t.sec = s.sec ∧
    t.reg Reg.SEC_STATUS_ZEROISING = s.reg Reg.SEC_STATUS_ZEROISING) ⟨rfl, rfl⟩ fun t ht fn _ => ⟨ht.1, ?_⟩
  exact (State.getF_setF_of_ne _ _ _ _ (by decide) (by decide) (by decide)).trans ht.2

theorem State.zeroBegun_shows (s : State) : s.zeroBegun.reg Reg.SEC_STATUS_ZEROISING = 1 ∧ s.zeroBegun.sec.keys = [] ∧
    s.zeroBegun.sec.baseKeys = [] ∧ s.zeroBegun.sec.wraps = [] ∧ s.RowKept s.zeroBegun := by
  obtain ⟨hkeys, hbase, hrow⟩ := s.destroyAll_shows
  unfold State.zeroBegun
  obtain ⟨hsec, hshown⟩ := State.foldl_setState s.zeroShown.openVfs 3 s.zeroShown
  have hrow' : s.RowKept s.zeroShown := hrow.sec.setF
  refine ⟨hshown.trans (State.reg_set_same _ _ _), ?_, ?_, ?_, hrow'.foldl fun _ h => h.setF⟩
  · rw [hsec]
    exact hkeys
  · rw [hsec]
    exact hbase
  · rw [hsec]
    rfl

/-- R482. While a row runs zeroisation waits for its end. -/
theorem State.zeroise_running {s : State} (hrow : s.seq.active = true) (hrun : s.reg Reg.SEQ_STATUS_STATE = 1) :
    s.zeroise.reg Reg.SEC_STATUS_ZEROISING = 1 ∧ s.zeroise.sec.keys = [] ∧ s.zeroise.sec.baseKeys = [] ∧ s.zeroise.sec.wraps = [] ∧
      s.zeroise.zeroAdvance = s.zeroise := by
  obtain ⟨hshown, hkeys, hbase, hwraps, hseq, hstate⟩ := s.zeroBegun_shows
  have hactive : s.zeroBegun.seq.active = true := by rw [hseq, hrow]
  have hone : s.zeroBegun.reg Reg.SEQ_STATUS_STATE = 1 := hstate.trans hrun
  have hrunning : ¬(s.zeroBegun.reg Reg.SEQ_STATUS_STATE = 3) := by omega
  have hzero : s.zeroise = s.zeroBegun.set Reg.SEQ_CTRL_HALT_ROW 1 := by
    rw [State.zeroise_eq, if_neg hrunning, State.askHaltRow_running hone hactive]
  rw [hzero]
  refine ⟨(State.reg_set_ne _ _ _ _ (by decide)).trans hshown, hkeys, hbase, hwraps, if_pos (.inr ?_)⟩
  exact hactive

/-- R469, R481. Zeroisation is begun by its message and by that of the return to the vendor, and is answered when it is done. -/
theorem exec_zeroise_begins {s : State} {h : Mail} (hfn : h.fn = 0) :
    (s.Taken h 0x0607 0 8 → exec (.zeroise h) s = .next (s.zeroise.waiting h 0x0607).zeroAdvance) ∧
    (s.Taken h 0x060B 0 8 → exec (.lifecycleRma h true) s = .next (s.zeroise.waiting h 0x060B).zeroAdvance) := by
  refine ⟨fun ht => ?_, fun ht => ?_⟩ <;>
  · refine congrArg ok (congrArg State.zeroAdvance (State.mail_later ht rfl ?_ rfl))
    simp [hfn]

/-! ### Requests that wait -/

theorem exec_powerClockRequest_answers {s : State} {o : PowerReqOp} (hon : s.mod.off = false) :
    let d : Defer := ⟨o.block, o.kind, o.frames, o.rtp, false⟩
    (o.keeps = true ∨ s.blocks d = false → exec (.powerClockRequest o) s =
      .next (s.say powerPort (leBytes o.block 1 ++ leBytes Status.ok.code 1))) ∧
    (o.keeps = false → s.blocks d = true → exec (.powerClockRequest o) s =
      .next ((s.deferAsk d).say powerPort (leBytes o.block 1 ++ leBytes Status.deferred.code 1))) := by
  intro d
  have hgo : ¬(s.mod.off = true) := by simp [hon]
  refine ⟨fun hfree => (if_neg hgo).trans (if_pos ?_), fun hkeeps hbars => (if_neg hgo).trans (if_neg ?_)⟩
  · rcases hfree with hkeeps | hfree
    · exact .inl hkeeps
    · exact .inr (by simp [d, hfree])
  · have hbarred : (!s.blocks d) = false := by simp [hbars]
    simpa [hkeeps] using hbarred

/-- R458, R484. HOLD is set in the frames of a block, and what else is known of a frame stays. -/
theorem State.get?_holdFrames (s : State) (l : List (Nat × Nat)) (on : Bool) (f : Nat) :
    Store.get? (s.holdFrames l on).tier.regions f =
      (Store.get? s.tier.regions f).map (fun r => if inFrames l f then { r with hold := on } else r) := by
  dsimp only [State.holdFrames]
  induction s.tier.regions with
  | nil => rfl
  | cons c rest ih =>
    obtain ⟨k, r⟩ := c
    by_cases hk : k = f
    · subst hk
      cases hin : inFrames l k <;> simp [Store.get?, hin]
    · cases hin : inFrames l k <;> simp [Store.get?, hin, hk] <;> exact ih

/-- R484, R494. A request that is deferred waits, is shown, and holds its frames. -/
theorem State.deferAsk_shows {s : State} {d : Defer} (hnew : ∀ x ∈ s.sec.defers, x.block ≠ d.block) :
    d ∈ (s.deferAsk d).sec.defers ∧ (s.deferAsk d).reg Reg.SEC_STATUS_DEFER_PENDING = 1 ∧
      (∀ f r, Store.get? (s.deferAsk d).tier.regions f = some r → inFrames d.frames f = true → r.hold = true) := by
  have hfirst : ¬(s.sec.defers.any (fun x => x.block == d.block) = true) := by simpa using hnew
  have hask : s.deferAsk d = _ := if_neg hfirst
  rw [hask]
  refine ⟨?_, ?_, fun f r hr hin => ?_⟩
  · show d ∈ s.sec.defers ++ [d]
    simp
  · rw [State.reg_tinkLog_of_ne _ _ _ _ (by decide), State.showDefers, State.reg_set_ne _ _ _ _ (by decide), State.reg_set_same]
    show b2n (!(s.sec.defers ++ [d]).isEmpty) % 2 ^ Reg.SEC_STATUS_DEFER_PENDING.width = 1
    have hsome : (s.sec.defers ++ [d]).isEmpty = false := by simp
    rw [hsome]
    rfl
  · obtain ⟨r', -, rfl⟩ := Option.map_eq_some_iff.mp ((State.get?_holdFrames _ d.frames true f).symm.trans hr)
    rw [if_pos hin]

section

variable {s : State} {block : Nat} {d : Defer}

/-- R484. A request that nothing bars any more is granted. -/
theorem exec_deferredRequestProceed_grants (hd : s.sec.defers.find? (fun d => d.block == block) = some d) (hfree : s.blocks d = false) :
    exec (.deferredRequestProceed block) s = .next (s.grant d) := by
  show execDeferredRequestProceed block s = _
  simp only [execDeferredRequestProceed, hd, hfree, Bool.false_eq_true, if_false, ok]

/-- R484, R481. At its deadline what bars a request is taken away, and it is granted. -/
theorem exec_deferDeadline_grants (hd : s.sec.defers.find? (fun d => d.block == block) = some d) :
    let fs := s.framesWith (fun f r => inFrames d.frames f && r.guarded)
    let a := ((s.forceZero fs).secErr Reg.SEC_ERR_DEFER_EXPIRED).tinkLog 0x0B05 noFn (leBytes 1 8 ++ leBytes (65536 * fs.length) 8)
    let a := if d.store then a.openVfs.foldl (fun (s : State) fn => s.resetFn fn 2 none) a else a
    let a := if d.rtp && a.anyKey then a.zeroise.zeroAdvance else a
    exec (.deferDeadline block) s = .next (a.grant d) := by
  show execDeferDeadline block s = _
  simp only [execDeferDeadline, hd, ok]

end

/-- R485. A request is withdrawn; a transition to STORE that is withdrawn ends in IDLE. -/
theorem exec_deferCancel_withdraws {s : State} {h : Mail} {d : Defer} (ht : s.Taken h 0x060A 0 10) (hfn : h.fn = 0)
    (hd : s.sec.defers.find? (fun d => d.block == h.u 8 2) = some d) :
    let a := s.undefer (h.u 8 2)
    (d.store = false → exec (.deferCancel h) s = .next (a.replied h 0x060A [])) ∧
    (d.store = true → exec (.deferCancel h) s =
      .next (((({ a with pwr := { a.pwr with transition := none } } : State).set Reg.PWR_STATE_ENTERING 0).storeExit).replied h 0x060A [])) := by
  intro a
  refine ⟨fun hplain => congrArg ok (State.mail_done ht rfl ?_ ?_), fun hstore => congrArg ok (State.mail_done ht rfl ?_ ?_)⟩
  · simp [hfn]
  · simp only [hd, hplain, Bool.false_eq_true, if_false, a]
  · simp [hfn]
  · simp only [hd, hstore, if_true, a]

/-- Settles O43: zeroisation is read off its parts, and each request is one branch. -/
theorem deferralCompletes : Obligations.DeferralCompletes :=
  ⟨fun _ _ => exec_zeroise_begins, fun _ => State.zeroise_running, fun _ _ => exec_powerClockRequest_answers,
    fun _ _ => State.deferAsk_shows,
    fun _ _ _ hd => ⟨exec_deferredRequestProceed_grants hd, exec_deferDeadline_grants hd⟩, fun _ _ _ => exec_deferCancel_withdraws⟩

end Sys2Proof.Machine
end

section
/-!
Cast-on and the retained settings (O28). A step of cast-on writes a few registers of GLB_CASTON and names the step that has ended; what
comes before the first one is the machine after a loss of power (`State.restart`).
-/

namespace Sys2Proof.Machine

/-! ### The start of cast-on -/

/-- Writing registers of the PF leaves every other part of the machine. -/
theorem State.foldl_set_part {α β : Type} (part : State → β) (hpart : ∀ t f v, part (t.set f v) = part t) (l : List α)
    (f : α → Fld) (v : α → Nat) (s : State) : part (l.foldl (fun (t : State) a => t.set (f a) (v a)) s) = part s :=
  List.foldlRecOn l _ (motive := fun t : State => part t = part s) rfl fun _ ht _ _ => (hpart _ _ _).trans ht

theorem State.ModuleKept.losesLifelines {s₀ s : State} (h : s₀.ModuleKept s) : s₀.ModuleKept s.losesLifelines :=
  h.foldl fun _ ht => ht.dropLifeline

/-- R593, R594. After a loss of power nothing runs and the near tier is empty; the banks are in flash. -/
theorem State.restart_shows (s : State) : s.restart.data = DataPath.reset ∧ s.restart.seq = SeqState.reset ∧
    s.restart.serve = ServeState.reset ∧ s.restart.fab = FabState.reset ∧ s.restart.tier.near = [] ∧ s.restart.fw.banks = s.fw.banks := by
  have hfw : ∀ l : List Tensor,
      (l.foldl (fun (s : State) t => s.releaseDeep t.extent t.deepUnits) s.losesLifelines).fw.banks = s.fw.banks := fun l =>
    congrArg FwState.banks ((State.ModuleKept.refl s).losesLifelines.foldl fun _ ht => ht.releaseDeep).fw
  refine ⟨?_, ?_, ?_, ?_, ?_, ?_⟩
  · exact State.foldl_set_part State.data (fun _ _ _ => rfl) _ _ _ _
  · exact State.foldl_set_part State.seq (fun _ _ _ => rfl) _ _ _ _
  · exact State.foldl_set_part State.serve (fun _ _ _ => rfl) _ _ _ _
  · exact State.foldl_set_part State.fab (fun _ _ _ => rfl) _ _ _ _
  · exact State.foldl_set_part (·.tier.near) (fun _ _ _ => rfl) _ _ _ _
  · exact (State.foldl_set_part (·.fw.banks) (fun _ _ _ => rfl) _ _ _ _).trans (hfw _)

/-- R549. Rolling a trial back changes registers and the log alone. -/
theorem State.rolledBack_rest (s : State) (mask cause : Nat) :
    ∃ r tink k, s.rolledBack mask cause = { s with regs := r, tink := tink, fresh := k } := by
  unfold State.rolledBack
  split <;> exact ⟨_, _, _, rfl⟩

theorem State.reg_rolledBack_of_ne (s : State) (mask cause : Nat) {f : Fld}
    (herr : f.off * 32 + f.lo ≠ Reg.GLB_FW_ERR_ROLLBACK.off * 32 + Reg.GLB_FW_ERR_ROLLBACK.lo)
    (htink : f.off * 32 + f.lo ≠ Reg.TNK_SEQ_ENTRY_SEQ.off * 32 + Reg.TNK_SEQ_ENTRY_SEQ.lo) :
    (s.rolledBack mask cause).reg f = s.reg f := by
  unfold State.rolledBack
  split
  · rfl
  · rw [State.reg_tinkLog_of_ne _ _ _ _ htink, State.reg_set_ne _ _ _ _ herr]

/-- R466, R493. Images of the active banks run, and steps 1 to 3 have ended. -/
def State.booted (s : State) : State :=
  let a := (s.set Reg.GLB_FW_BANKS_TRIAL 0).showBanks
  State.tinkLog { a.set Reg.SEC_STATUS_BOOT_OK 1 with mod := { a.mod with steps := [1, 2, 3] } } 0x0B0A noFn (leBytes 0 2)

/-- R466. With no bank pending and every active image good, the active images run. -/
theorem State.bootImages_good {s : State} {o : CastOp} (hpend : ∀ k, k < 4 → Store.getD s.fw.banks k 2 ≠ 4)
    (hgood : ∀ k, k < 4 → o.activeOk.getD k false = true) (last : Nat) :
    ∃ mask fw, s.bootImages o last = State.booted { s.rolledBack mask 1 with fw := fw } := by
  have hnone : (List.range 4).filter (fun k => Store.getD s.fw.banks k 2 == 4) = [] := by
    simpa [List.filter_eq_nil_iff] using hpend
  have hall : (List.range 4).filter (fun k => !([] : List Nat).contains k && !o.activeOk.getD k false) = [] := by
    refine List.filter_eq_nil_iff.mpr fun k hk => ?_
    simp only [hgood k (List.mem_range.mp hk), Bool.not_true, Bool.and_false, Bool.false_eq_true, not_false_eq_true]
  simp only [State.bootImages, hnone, List.all_nil, if_true, hall, List.filter_nil, List.find?_nil]
  exact ⟨_, _, rfl⟩

theorem State.booted_shows (s : State) : s.booted.mod = { s.mod with steps := [1, 2, 3] } ∧ s.booted.reg Reg.SEC_STATUS_BOOT_OK = 1 ∧
    s.booted.reg Reg.GLB_STATUS_READY = s.reg Reg.GLB_STATUS_READY ∧ s.booted.reg Reg.GLB_CASTON_STEP = s.reg Reg.GLB_CASTON_STEP ∧
    s.booted.data = s.data ∧ s.booted.seq = s.seq ∧ s.booted.serve = s.serve ∧ s.booted.fab = s.fab ∧ s.booted.tier = s.tier := by
  refine ⟨rfl, ?_, ?_, ?_, rfl, rfl, rfl, rfl, rfl⟩
  · rw [State.booted, State.reg_tinkLog_of_ne _ _ _ _ (by decide), State.reg_mod, State.reg_set_same]
    rfl
  all_goals
    rw [State.booted, State.reg_tinkLog_of_ne _ _ _ _ (by decide), State.reg_mod, State.reg_set_ne _ _ _ _ (by decide),
      State.reg_showBanks_of_ne _ (by decide) (by decide), State.reg_set_ne _ _ _ _ (by decide)]

/-- R466, R584. What a boot of good active images shows and keeps. -/
theorem State.bootImages_shows {s : State} {o : CastOp} (hpend : ∀ k, k < 4 → Store.getD s.fw.banks k 2 ≠ 4)
    (hgood : ∀ k, k < 4 → o.activeOk.getD k false = true) (last : Nat) :
    let t := s.bootImages o last
    t.mod = { s.mod with steps := [1, 2, 3] } ∧ t.reg Reg.SEC_STATUS_BOOT_OK = 1 ∧
      t.reg Reg.GLB_STATUS_READY = s.reg Reg.GLB_STATUS_READY ∧ t.reg Reg.GLB_CASTON_STEP = s.reg Reg.GLB_CASTON_STEP ∧
      t.data = s.data ∧ t.seq = s.seq ∧ t.serve = s.serve ∧ t.fab = s.fab ∧ t.tier = s.tier := by
  intro t
  obtain ⟨mask, fw, hboot⟩ := State.bootImages_good hpend hgood last
  obtain ⟨r, tink, k, hroll⟩ := s.rolledBack_rest mask 1
  obtain ⟨hmod, hok, hready, hstep, hdata, hseq, hserve, hfab, htier⟩ := State.booted_shows { s.rolledBack mask 1 with fw := fw }
  have ht : t = _ := hboot
  rw [ht]
  have hready' := s.reg_rolledBack_of_ne mask 1 (f := Reg.GLB_STATUS_READY) (by decide) (by decide)
  have hstep' := s.reg_rolledBack_of_ne mask 1 (f := Reg.GLB_CASTON_STEP) (by decide) (by decide)
  refine ⟨hmod.trans ?_, hok, hready.trans hready', hstep.trans hstep', hdata.trans ?_, hseq.trans ?_, hserve.trans ?_, hfab.trans ?_,
    htier.trans ?_⟩ <;> rw [hroll]

/-- R584. Cast-on starts: READY is clear and step 4 is shown. -/
def State.castShown (s : State) (straps : Nat) : State :=
  let a : State := { s with mod := { s.mod with straps := straps % 8 } }
  let a := (a.set Reg.GLB_STATUS_READY 0).set Reg.GLB_CASTON_SELFTEST_PASS 0
  let a := ((a.set Reg.TEL_STATUS_COUPLED 1).set Reg.TEL_STATUS_PWR_EN 1).set Reg.TEL_STATUS_RAILS_OK 1
  a.set Reg.GLB_CASTON_STEP 4

theorem State.castShown_shows (s : State) (straps : Nat) :
    let a := s.castShown straps
    a.reg Reg.GLB_STATUS_READY = 0 ∧ a.reg Reg.GLB_CASTON_STEP = 4 ∧ a.mod.straps = straps % 8 ∧ a.mod.off = s.mod.off ∧
      a.data = s.data ∧ a.seq = s.seq ∧ a.serve = s.serve ∧ a.fab = s.fab ∧ a.tier = s.tier ∧ a.fw = s.fw := by
  refine ⟨?_, State.reg_set_same _ _ _, rfl, rfl, rfl, rfl, rfl, rfl, rfl, rfl⟩
  simp (disch := decide) only [State.castShown, State.reg_set_ne, State.reg_set_same, Nat.zero_mod]

theorem State.restart_off (s : State) : s.restart.mod.off = false :=
  State.foldl_set_part (·.mod.off) (fun _ _ _ => rfl) _ _ _ _

/-- R584. With good active images cast-on starts. -/
theorem exec_castOn_starts {s : State} {o : CastOp} (hoff : s.mod.off = true) (hfree : s.mod.lockedOff = false)
    (hpend : ∀ k, k < 4 → Store.getD s.fw.banks k 2 ≠ 4) (hgood : ∀ k, k < 4 → o.activeOk.getD k false = true) :
    ∃ t, exec (.castOn o) s = .next t ∧ t.mod.off = false ∧ t.mod.steps = [1, 2, 3] ∧ t.mod.straps = o.straps % 8 ∧
      t.reg Reg.GLB_STATUS_READY = 0 ∧ t.reg Reg.GLB_CASTON_STEP = 4 ∧ t.reg Reg.SEC_STATUS_BOOT_OK = 1 ∧
      t.data = DataPath.reset ∧ t.seq = SeqState.reset ∧ t.serve = ServeState.reset ∧ t.fab = FabState.reset ∧ t.tier.near = [] := by
  have hgo : ¬((!s.mod.off) = true ∨ s.mod.lockedOff = true) := by simp [hoff, hfree]
  have hexec : exec (.castOn o) s = .next ((s.restart.castShown o.straps).bootImages o (s.reg Reg.GLB_FW_BANKS_TRIAL)) := if_neg hgo
  obtain ⟨hdata, hseq, hserve, hfab, hnear, hbanks⟩ := s.restart_shows
  have hon := s.restart_off
  generalize s.restart = a at *
  obtain ⟨hready, hstep, hstraps, hoff', hdata', hseq', hserve', hfab', htier', hfw'⟩ := a.castShown_shows o.straps
  rw [← hbanks, ← hfw'] at hpend
  obtain ⟨hmod, hok, hready', hstep', hdata'', hseq'', hserve'', hfab'', htier''⟩ :=
    State.bootImages_shows hpend hgood (s.reg Reg.GLB_FW_BANKS_TRIAL)
  refine ⟨_, hexec, ?_, ?_, ?_, hready'.trans hready, hstep'.trans hstep, hok, (hdata''.trans hdata').trans hdata,
    (hseq''.trans hseq').trans hseq, (hserve''.trans hserve').trans hserve, (hfab''.trans hfab').trans hfab, ?_⟩
  · rw [hmod]
    exact hoff'.trans hon
  · rw [hmod]
  · rw [hmod, hstraps]
  · rw [htier'', htier', hnear]

/-! ### Its steps -/

/-- R586. A step that fails leaves the module in RECOVERY, with the step shown. -/
theorem State.castFail_shows (s : State) {step : Nat} (h : step < 16) : (s.castFail step).reg Reg.GLB_STATUS_READY = 1 ∧
    (s.castFail step).reg Reg.GLB_STATUS_RECOVERY = 1 ∧ (s.castFail step).reg Reg.GLB_CASTON_STEP = step := by
  have hfit : step % 2 ^ Reg.GLB_CASTON_STEP.width = step := Nat.mod_eq_of_lt h
  refine ⟨?_, ?_, ?_⟩
  all_goals
    rw [State.castFail, State.reg_tinkLog_of_ne _ _ _ _ (by decide)]
    simp (disch := decide) only [State.reg_set_ne, State.reg_set_same, hfit] <;> rfl

/-- R584. Ending a step shows the next one. -/
theorem State.reg_stepEnds_of_ne (s : State) (n : Nat) {f : Fld}
    (h : f.off * 32 + f.lo ≠ Reg.GLB_CASTON_STEP.off * 32 + Reg.GLB_CASTON_STEP.lo) : (s.stepEnds n).reg f = s.reg f :=
  State.reg_set_ne _ _ _ _ h

theorem State.stepEnds_rest (s : State) (n : Nat) : (s.stepEnds n).mod = { s.mod with steps := s.mod.steps ++ [n] } ∧
    (s.stepEnds n).tier = s.tier ∧ (s.stepEnds n).data = s.data :=
  ⟨rfl, rfl, rfl⟩

theorem casting_go {s : State} {need : List Nat} {n : Nat} (h : s.casting need n = true) : ¬((!s.casting need n) = true) := by
  simp [h]

theorem exec_hbmTrainingDone_ends {s : State} {gauge : List GaugeRec} (hcast : s.casting [3] 5 = true) :
    (∃ t, exec (.hbmTrainingDone true gauge) s = .next t ∧ t.tier.near = [] ∧ t.tier.regions = [] ∧ t.data = DataPath.reset ∧
      t.mod.steps = s.mod.steps ++ [5] ∧ t.tier.deep = s.tier.deep) ∧
    exec (.hbmTrainingDone false gauge) s = .next (s.castFail 4) :=
  ⟨⟨_, (if_neg (casting_go hcast)).trans (if_neg (by simp)), rfl, rfl, rfl, rfl, rfl⟩,
    (if_neg (casting_go hcast)).trans (if_pos (by simp))⟩

theorem retainedChoice_lt (a b : Option RetCopy) : retainedChoice a b < 4 := by
  unfold retainedChoice
  split
  · decide
  · decide
  · decide
  · split_ifs <;> decide

/-- R584, R589. The settings are chosen, and the choice is shown. -/
theorem exec_translationLayerReady_ends {s : State} (hcast : s.casting [3] 6 = true) :
    (∃ t, exec (.translationLayerReady true) s = .next t ∧ t.mod.winner = retainedChoice s.mod.copyA s.mod.copyB ∧
      t.reg Reg.GLB_CASTON_RETAINED = retainedChoice s.mod.copyA s.mod.copyB ∧ t.mod.steps = s.mod.steps ++ [6] ∧
      t.tier = s.tier ∧ t.data = s.data) ∧
    exec (.translationLayerReady false) s = .next (s.castFail 4) := by
  have hfit : retainedChoice s.mod.copyA s.mod.copyB % 2 ^ Reg.GLB_CASTON_RETAINED.width = retainedChoice s.mod.copyA s.mod.copyB :=
    Nat.mod_eq_of_lt (retainedChoice_lt _ _)
  refine ⟨⟨_, (if_neg (casting_go hcast)).trans (if_neg (by simp)), rfl, ?_, rfl, rfl, rfl⟩,
    (if_neg (casting_go hcast)).trans (if_pos (by simp))⟩
  rw [State.reg_stepEnds_of_ne _ _ (by decide), State.logRetained, State.reg_tinkLog_of_ne _ _ _ _ (by decide),
    State.reg_set_ne _ _ _ _ (by decide), State.reg_set_ne _ _ _ _ (by decide), State.reg_set_same]
  exact hfit

/-- R584, R592. The results of the self-test are shown and logged. -/
def State.selftested (s : State) (v : Nat) : State :=
  let a := selftestFields.foldl (fun (s : State) f => s.set f (bits v f.lo f.width)) s
  let a := a.tinkLog 0x0C0A noFn (leBytes (b2n (v != 0)) 4 ++ leBytes v 4)
  (a.set Reg.RNG_KAT_DONE 1).set Reg.RNG_KAT_PASS (1 - bits v 27 1)

theorem State.selftested_rest (s : State) (v : Nat) : (s.selftested v).tier = s.tier ∧ (s.selftested v).data = s.data ∧
    (s.selftested v).mod = s.mod := by
  obtain ⟨htier, hdata, hmod⟩ : (selftestFields.foldl (fun (s : State) f => s.set f (bits v f.lo f.width)) s).tier = s.tier ∧
      (selftestFields.foldl (fun (s : State) f => s.set f (bits v f.lo f.width)) s).data = s.data ∧
      (selftestFields.foldl (fun (s : State) f => s.set f (bits v f.lo f.width)) s).mod = s.mod :=
    ⟨State.foldl_set_part State.tier (fun _ _ _ => rfl) selftestFields id (fun f => bits v f.lo f.width) s,
      State.foldl_set_part State.data (fun _ _ _ => rfl) selftestFields id (fun f => bits v f.lo f.width) s,
      State.foldl_set_part State.mod (fun _ _ _ => rfl) selftestFields id (fun f => bits v f.lo f.width) s⟩
  unfold State.selftested
  generalize selftestFields.foldl (fun (s : State) f => s.set f (bits v f.lo f.width)) s = a at *
  exact ⟨htier, hdata, hmod⟩

theorem State.reg_showGauge_of_ne (s : State) {f : Fld} (hl : f.lo < 32) (hoff : f.off ≠ Reg.PWR_GAUGE_VALID.off) :
    s.showGauge.reg f = s.reg f := by
  unfold State.showGauge
  rw [State.reg_set_of_off_ne (g := Reg.PWR_GAUGE_REGAUGING) _ _ hl (by decide) hoff,
    State.reg_set_of_off_ne (g := Reg.PWR_GAUGE_VALID) _ _ hl (by decide) hoff]

/-- R584. Step 7 ends, with the fresh gauge records `l`. -/
def State.selftestEnds (s : State) (l : List GaugeRec) : State :=
  ((State.set { s with pwr := { s.pwr with gauge := freshGauge s.pwr.gauge l } } Reg.GLB_CASTON_SELFTEST_PASS 1).showGauge).stepEnds 7

theorem State.selftestEnds_shows (s : State) (l : List GaugeRec) :
    let t := s.selftestEnds l
    t.reg Reg.GLB_CASTON_SELFTEST_PASS = 1 ∧ t.reg Reg.RNG_KAT_PASS = s.reg Reg.RNG_KAT_PASS ∧ t.mod.steps = s.mod.steps ++ [7] ∧
      t.tier = s.tier ∧ t.data = s.data := by
  refine ⟨?_, ?_, rfl, rfl, rfl⟩
  · rw [State.selftestEnds, State.reg_stepEnds_of_ne _ _ (by decide), State.reg_showGauge_of_ne _ (by decide) (by decide),
      State.reg_set_same]
    rfl
  · rw [State.selftestEnds, State.reg_stepEnds_of_ne _ _ (by decide), State.reg_showGauge_of_ne _ (by decide) (by decide),
      State.reg_set_ne _ _ _ _ (by decide), State.reg_pwr]

theorem exec_selftestDone_eq {s : State} {o : SelftestOp} (hcast : s.casting [5, 6] 7 = true) :
    exec (.selftestDone o) s = .next (if o.bits % 2 ^ 29 ≠ 0 then (s.selftested (o.bits % 2 ^ 29)).castFail 7
      else (s.selftested (o.bits % 2 ^ 29)).selftestEnds (o.gauge.filter (fun (g : GaugeRec) => g.kind == 1 || g.kind == 2))) := by
  refine (if_neg (casting_go hcast)).trans ?_
  split <;> rfl

/-- R584, R592. A self-test without a difference ends step 7. -/
theorem exec_selftestDone_passes {s : State} {o : SelftestOp} (hcast : s.casting [5, 6] 7 = true) (hgood : o.bits % 2 ^ 29 = 0) :
    ∃ t, exec (.selftestDone o) s = .next t ∧ t.reg Reg.GLB_CASTON_SELFTEST_PASS = 1 ∧
      t.reg Reg.RNG_KAT_PASS = 1 ∧ t.mod.steps = s.mod.steps ++ [7] ∧ t.tier = s.tier ∧ t.data = s.data := by
  have hexec := exec_selftestDone_eq (o := o) hcast
  rw [hgood, if_neg (fun hbad => hbad rfl)] at hexec
  obtain ⟨htier, hdata, hmod⟩ := s.selftested_rest 0
  obtain ⟨hpass, hkat, hsteps, htier', hdata'⟩ :=
    (s.selftested 0).selftestEnds_shows (o.gauge.filter (fun (g : GaugeRec) => g.kind == 1 || g.kind == 2))
  refine ⟨_, hexec, hpass, hkat.trans (State.reg_set_same _ _ _), ?_, htier'.trans htier, hdata'.trans hdata⟩
  rw [hsteps, hmod]

theorem exec_selftestDone_fails {s : State} {o : SelftestOp} (hcast : s.casting [5, 6] 7 = true) (hbad : o.bits % 2 ^ 29 ≠ 0) :
    ∃ t, exec (.selftestDone o) s = .next t ∧ t.reg Reg.GLB_STATUS_RECOVERY = 1 ∧
      t.reg Reg.GLB_STATUS_READY = 1 ∧ t.reg Reg.GLB_CASTON_STEP = 7 ∧ t.mod.steps = [] ∧ t.tier = s.tier := by
  obtain ⟨htier, -, -⟩ := s.selftested_rest (o.bits % 2 ^ 29)
  obtain ⟨hready, hrecovery, hstep⟩ := (s.selftested (o.bits % 2 ^ 29)).castFail_shows (step := 7) (by decide)
  have hexec := exec_selftestDone_eq (o := o) hcast
  rw [if_pos hbad] at hexec
  exact ⟨_, hexec, hrecovery, hready, hstep, rfl, htier⟩

/-- R593. Entries that are put into the Tensor Table change it alone. -/
theorem State.foldl_putTensor_rest (l : List Tensor) (s : State) : ∃ tt,
    l.foldl (fun (s : State) (t : Tensor) => s.putTensor t.rebuilt) s = { s with tier := { s.tier with tt := tt } } := by
  refine List.foldlRecOn l _ (motive := fun u : State => ∃ tt, u = { s with tier := { s.tier with tt := tt } }) ⟨_, rfl⟩ ?_
  rintro u ⟨tt, rfl⟩ t -
  exact ⟨_, rfl⟩

theorem State.sample_mod (s : State) (fn : Nat) (status inten count : Fld) (isBeyond : Bool) :
    (s.sample fn status inten count isBeyond).mod = s.mod ∧ (s.sample fn status inten count isBeyond).data = s.data := by
  unfold State.sample
  dsimp only
  split_ifs <;> exact ⟨rfl, rfl⟩

theorem State.showSpace_mod (s : State) : s.showSpace.mod = s.mod ∧ s.showSpace.data = s.data :=
  State.showSpace_keeps (P := fun t => t.mod = s.mod ∧ t.data = s.data) (fun _ _ _ => id)
    (fun t fn st en n beyond ht =>
      have hsample := t.sample_mod fn st en n beyond
      ⟨hsample.1.trans ht.1, hsample.2.trans ht.2⟩) ⟨rfl, rfl⟩

/-- R584, R593. The PF's deep tensors are present, and no longer held. -/
theorem exec_directoryRebuilt_ends {s : State} (hcast : s.casting [6] 8 = true) :
    ∃ t, exec .directoryRebuilt s = .next t ∧ t.mod.steps = s.mod.steps ++ [8] ∧
      Store.get? t.mod.heldExt 0 = none ∧ t.tier.near = s.tier.near ∧ t.tier.deep = s.tier.deep ∧ t.data = s.data := by
  let a : State := { s with mod := { s.mod with heldExt := Store.erase s.mod.heldExt 0 } }
  obtain ⟨tt, hput⟩ := State.foldl_putTensor_rest (Store.getD s.mod.heldExt 0 []) a
  let b : State := { a with tier := { a.tier with tt := tt } }
  obtain ⟨hmod, hdata⟩ := b.showSpace_mod
  have htier : b.showSpace.tier = b.tier := b.showSpace_tier
  have hexec : exec .directoryRebuilt s = .next (b.showSpace.stepEnds 8) := by
    refine (if_neg (casting_go hcast)).trans ?_
    rw [hput]
  obtain ⟨hmod', htier', hdata'⟩ := b.showSpace.stepEnds_rest 8
  rw [hmod] at hmod'
  rw [htier] at htier'
  refine ⟨_, hexec, ?_, ?_, ?_, ?_, hdata'.trans hdata⟩
  · rw [hmod']
  · rw [hmod']
    exact Store.get?_erase_same _ _
  · rw [htier']
  · rw [htier']

/-- R584, R596. The image of STORE comes back. -/
theorem exec_storeImageReload_ends {s : State} {i : StoreImage} (himage : s.mod.storeImage = some i)
    (hcast : s.casting [7, 8] 9 = true) :
    let new := i.tensors.filter (fun (t : Tensor) => (s.entry t.key).isNone)
    let q := s.quota 0
    let a := new.foldl State.putTensor (s.setQuota 0 { q with tensorUsed := q.tensorUsed + new.length })
    exec .storeImageReload s = .next ((a.set Reg.GLB_CASTON_STORE_IMAGE 1).storeExit.showSpace.stepEnds 9) := by
  show execStoreImageReload s = _
  simp only [execStoreImageReload, himage]
  exact if_neg (casting_go hcast)

/-- R584, R600. When every step has ended the module is READY. -/
theorem exec_castonDone_ends {s : State} {ms : Nat} (hcast : s.casting [5, 6, 7, 8] 15 = true)
    (himage : s.mod.storeImage.isSome = true → 9 ∈ s.mod.steps) (hms : ms < 65536) :
    ∃ t, exec (.castonDone ms) s = .next t ∧ t.reg Reg.GLB_STATUS_READY = 1 ∧ t.reg Reg.GLB_CASTON_STEP = 15 ∧
      t.reg Reg.GLB_CASTON_MS_MS = ms ∧ t.mod = { s.mod with steps := [] } ∧ t.tier = s.tier ∧ t.data = s.data := by
  have hgo : ¬((!s.casting [5, 6, 7, 8] 15) = true ∨ s.mod.storeImage.isSome = true ∧ (!s.mod.steps.contains 9) = true) := by
    simpa [hcast] using himage
  have hfit : ms % 65536 % 2 ^ Reg.GLB_CASTON_MS_MS.width = ms := by
    rw [Nat.mod_eq_of_lt hms]
    exact Nat.mod_eq_of_lt hms
  refine ⟨_, if_neg hgo, ?_, ?_, ?_, rfl, rfl, rfl⟩
  all_goals
    rw [State.reg_tinkLog_of_ne _ _ _ _ (by decide)]
    simp (disch := decide) only [State.reg_set_ne, State.reg_set_same, hfit] <;> rfl

/-! ### Retained settings -/

section

variable {s : State}

/-- R590. After READY the chosen values are applied, once. -/
theorem exec_retainedApply_applies (hon : s.mod.off = false) (hready : s.reg Reg.GLB_STATUS_READY ≠ 0)
    (hrec : s.reg Reg.GLB_STATUS_RECOVERY ≠ 1) (honce : s.reg Reg.GLB_CASTON_APPLIED ≠ 1) :
    let a := (s.chosen.elim [] (·.regs)).foldl (fun (s : State) (r : Nat × Nat) => s.applyOne r.1 r.2) s
    let a : State := { a with mod := { a.mod with writeDue := s.mod.writeDue, hostWrote := s.mod.hostWrote } }
    exec .retainedApply s = .next ((a.set Reg.GLB_CASTON_APPLIED 1).logRetained 1) :=
  if_neg (by simp [hon, hready, hrec, honce])

/-- R590. Where no copy was chosen, nothing is applied. -/
theorem exec_retainedApply_defaults (hon : s.mod.off = false) (hready : s.reg Reg.GLB_STATUS_READY ≠ 0)
    (hrec : s.reg Reg.GLB_STATUS_RECOVERY ≠ 1) (honce : s.reg Reg.GLB_CASTON_APPLIED ≠ 1) (hnone : s.chosen = none) :
    ∃ t, exec .retainedApply s = .next t ∧ t.reg Reg.GLB_CASTON_APPLIED = 1 ∧ s.KeepsWork t ∧ t.pwr = s.pwr ∧ t.out = s.out := by
  have hexec := exec_retainedApply_applies hon hready hrec honce
  rw [hnone] at hexec
  refine ⟨_, hexec, ?_, .refl s, rfl, rfl⟩
  exact (State.reg_tinkLog_of_ne _ _ _ _ (by decide)).trans (State.reg_set_same _ _ _)

theorem exec_retainedWrite_ends {failed : Bool} (hon : s.mod.off = false) (hdue : s.mod.writeDue = true ∨ s.mod.gaugeChanged = true) :
    exec (.retainedWrite failed) s = .next (s.writeRetained failed).bindAdvance := by
  refine if_neg ?_
  rcases hdue with hdue | hdue <;> simp [hon, hdue]

/-- R591. A write that ends well replaces the copy that did not win, with a SEQ above both. -/
theorem State.writeRetained_shows (s : State) :
    let c : RetCopy := ⟨s.nextRetSeq, s.retainedRegs, s.pwr.gauge⟩
    let t := s.writeRetained false
    (s.nextCopy = true → t.mod.copyB = some c ∧ t.mod.copyA = s.mod.copyA) ∧
      (s.nextCopy = false → t.mod.copyA = some c ∧ t.mod.copyB = s.mod.copyB) ∧ t.mod.writeDue = false ∧
      t.reg Reg.GLB_RETAIN_CTL_WRITE_DONE = 1 ∧
      (∀ a, s.mod.copyA = some a → a.seq < s.nextRetSeq) ∧ (∀ b, s.mod.copyB = some b → b.seq < s.nextRetSeq) := by
  intro c t
  have hB : t.mod.copyB = if s.nextCopy = true then some c else s.mod.copyB := rfl
  have hA : t.mod.copyA = if s.nextCopy = true then s.mod.copyA else some c := rfl
  refine ⟨fun hnext => ?_, fun hnext => ?_, rfl, ?_, fun a ha => ?_, fun b hb => ?_⟩
  · rw [hA, hB, if_pos hnext, if_pos hnext]
    exact ⟨rfl, rfl⟩
  · rw [hA, hB, hnext, if_neg Bool.false_ne_true, if_neg Bool.false_ne_true]
    exact ⟨rfl, rfl⟩
  · exact (State.reg_tinkLog_of_ne _ _ _ _ (by decide)).trans (State.reg_set_same _ _ _)
  · simp only [State.nextRetSeq, ha, Option.elim_some]
    omega
  · simp only [State.nextRetSeq, hb, Option.elim_some]
    omega

end

/-- Settles O28: the start of cast-on is read off what a loss of power leaves; each step and each write is one branch. -/
theorem castOnAndRetainedComplete : Obligations.CastOnAndRetainedComplete :=
  ⟨fun _ _ => exec_castOn_starts, fun _ _ => exec_hbmTrainingDone_ends, fun _ => exec_translationLayerReady_ends,
    fun _ _ hcast => ⟨exec_selftestDone_passes hcast, exec_selftestDone_fails hcast⟩, fun _ => exec_directoryRebuilt_ends,
    fun _ _ => exec_storeImageReload_ends, fun _ _ => exec_castonDone_ends, fun s _ => s.castFail_shows,
    fun _ => exec_retainedApply_applies, fun _ => exec_retainedApply_defaults, fun _ => rfl, fun _ _ => exec_retainedWrite_ends,
    fun _ hnone => State.bindAdvance_of_none hnone, State.writeRetained_shows⟩

end Sys2Proof.Machine
end
